-- ==== Sys2Proof/Word.lean ====
section
/-! DEFINITION. The word types of the model and their plainest arithmetic. -/

namespace Sys2Proof

/-- One byte of a packet, a register or a serial frame. -/
abbrev Byte := BitVec 8

/-- A 16-bit field. -/
abbrev U16 := BitVec 16

/-- A 32-bit field or register word. -/
abbrev U32 := BitVec 32

/-- A 64-bit field. -/
abbrev U64 := BitVec 64

/-- An event sequence number (R35). -/
abbrev Esn := BitVec 32

/-- A SHA-256 digest or a 256-bit key (R536). -/
abbrev Digest := BitVec 256

/-- An RSA-3072 value (R536). -/
abbrev Rsa := BitVec 3072

end Sys2Proof
end

