-- ==== Sys2Proof/Syntax.lean ====
section
/-! DEFINITION. The commands of the FDM-4816: one constructor of `Instr` per row of spec/opcode_table.json, and the
types of their operands.

Three kinds of row (log entry 2). An OPCODE row is a Vexfi request that has passed checks 1 to 3, 5 and 7 of Table 13.3,
with its header fields (`Hdr`) and its payload fields; its meaning makes checks 4, 6, 8 and 9 and dispatches it. A REGISTER row is a register write. An EVENT row is
what a detector, a timer, a wire or an engine of the module meets; its operands are what was measured or received, and
the meaning compares them with the limits the spec gives. -/

namespace Sys2Proof

/-! ### Names of units -/

/-- The transports of Vexfi packets in the order of R445. -/
inductive Port where
  | eth0 | eth1 | eth2 | can0 | can1 | can2 | can3 | ring
deriving DecidableEq, Repr, Inhabited

/-- Sensing bank A or B (R303). -/
inductive Bank where
  | a | b
deriving DecidableEq, Repr, Inhabited

/-- A processor pair (R341). -/
inductive Pair where
  | main | mon
deriving DecidableEq, Repr, Inhabited

/-- A sender of heartbeats: the main pair, or its core 0 in Split mode, the monitor pair, and core 1 of the main pair in Split mode
(R364). -/
inductive Heart where
  | main | mon | main2
deriving DecidableEq, Repr, Inhabited

/-- An STO channel (R355). -/
inductive StoCh where
  | a | b
deriving DecidableEq, Repr, Inhabited

/-- The clock sources of Table 12.1, in the bit order of CLK_RDY. -/
inductive ClkSrc where
  | xo25 | rc40 | xo32k | rc32k | refin
deriving DecidableEq, Repr, Inhabited

/-- The PLLs of Table 12.2. -/
inductive Pll where
  | sys | pwm | net
deriving DecidableEq, Repr, Inhabited

/-- The supplies of Table 10.6. -/
inductive Supply where
  | vddMain | vddMon | vddSoc | vddIo | vdd3v3
deriving DecidableEq, Repr, Inhabited

/-- A ring port of the cascade (Table 2.11). -/
inductive RingPort where
  | rin | rout
deriving DecidableEq, Repr, Inhabited

/-- The pins that keep the module awake (R64). -/
inductive WakePin where
  | kl15 | keep
deriving DecidableEq, Repr, Inhabited

/-- A channel, in the coding of Table 17.5: 2n is LnnL, 2n + 1 is LnnH, 48 + n is AUXn. -/
abbrev ChanIx := Fin 52

/-! ### Operands of the opcode rows -/

/-- The header of a request that passed checks 1 to 3, 5 and 7 of Table 13.3 (Table 13.1). -/
structure Hdr where
  tag : Byte
  session : Byte
  seq : U32
  auth : Bool
  urgent : Bool
  port : Port
deriving DecidableEq, Repr, Inhabited

/-- An image class or data set of Table 3.2. -/
inductive ImgClass where
  | main | mon | fe | isl | ctab | pset | cset
deriving DecidableEq, Repr, Inhabited

/-- An image manifest (Table 3.3), field by field. Versions are their four bytes as one number. -/
structure Manifest where
  cls : U16
  format : U16
  version : U32
  rollback : Byte
  devMin : Byte
  devMax : Byte
  islMin : Byte
  islMax : Byte
  reserved : BitVec 24
  peerMain : U32
  peerMon : U32
  peerFe : U32
  peerIsl : U32
  peerCtab : U32
  bodyLen : U32
  bodyDigest : Digest
  vendorSig : Rsa
  ownerSig : Rsa
deriving DecidableEq, Repr, Inhabited

/-- A parameter item of R483: ID, format code and the 32-bit value. -/
structure Item where
  id : U16
  fmt : Byte
  value : U32
deriving DecidableEq, Repr, Inhabited

/-! ### Operands of the event rows -/

/-- What an island measures (R134, R161): its gate voltage against the source, VBS, VBP - COM and VBN - COM, in mV. -/
structure IslandNow where
  gateMv : Int
  vbsMv : Int
  vbpMv : Int
  vbnMv : Int
deriving DecidableEq, Repr, Inhabited

/-- What the 20 us test pulse of a chopper shows at IFB, in mV: the least value from 10 us after its on command to its end, and the largest
from 10 us after its off command (R320, R321). -/
structure ChopTest where
  onMv : Int
  offMv : Int
deriving DecidableEq, Repr, Inhabited

/-- What the detectors show at a DRV_EN rising edge (R68, R162, R308): what State does not hold. -/
structure EdgeObs where
  /-- Channels whose desaturation or gate-monitor cause is still present. -/
  protPresent : List ChanIx
  /-- Channels whose link and coupler self-test passes (R162). -/
  selfTestOk : List ChanIx
  /-- What each of the 52 islands measures at the edge (R162). -/
  islands : List IslandNow
  /-- Voltages of the 24 phase inputs of bank A and of bank B in mV (R308). -/
  inA : List Int
  inB : List Int
  /-- The test pulse of each link group's chopper (R321). -/
  chopTest : List ChopTest
  /-- Link groups whose chopper still conducts without a command (F-0505). -/
  chopConducts : List (Fin 2)
  /-- Banks whose supply or reference is still out of range (F-0305). -/
  supplyBad : List Bank
deriving DecidableEq, Repr, Inhabited

/-- What an island's calibration measures (R127): its sigma-delta offset against the internal short, its divider gain, and its gate-monitor
and UVLO references, in codes whose units the spec does not give. -/
structure IslandCal where
  offset : Int
  gain : Int
  gateRef : Int
  uvloRef : Int
deriving DecidableEq, Repr, Inhabited

/-- What one island answers in step 7 of start-up, or in a later handshake (R127, R128). -/
structure IslandObs where
  bias : Bool
  answers : Bool
  cal : IslandCal
  step : Byte
  linkDly : Nat
  vbsMv : Int
  vbpMv : Int
deriving DecidableEq, Repr, Inhabited

/-- What a bank converter reads of its internal references 0 V, +2.500 V and -2.500 V (R124), in 1/256 of a code. -/
structure ConvCal where
  zero : Int
  pos : Int
  neg : Int
deriving DecidableEq, Repr, Inhabited

/-- What start-up measures (Table 3.1). -/
structure BootObs where
  /-- Four samples of CORE_MODE, BOOT_SEL, CASC_ID1 and CASC_ID0 (R77). -/
  straps : List (List Bool)
  /-- D0 ticks from the first request of step 1 to XO25 ready (R426). -/
  xo25At : Option Nat
  refinReady : Bool
  /-- Byte addresses of the words with one correctable cell fault, and whether a fault is uncorrectable (R117). -/
  sramCorrectable : List Nat
  sramUncorrectable : Bool
  /-- Differences flagged by the main and the monitor comparator, and flags on the clean pass (R119). -/
  injMain : Nat
  injMainClean : Bool
  injMon : Nat
  injMonClean : Bool
  /-- Both soundpost rails received the die's override (R368). -/
  dieOverrideOk : Bool
  /-- Converter c of each bank on its references (R124). -/
  calA : List ConvCal
  calB : List ConvCal
  /-- Bank references against the bandgap, in 0.001 % (R125). -/
  refA : Int
  refB : Int
  /-- One answer per channel. -/
  islands : List IslandObs
  /-- Readings of the 16 die sensors in 0.1 degrees (R129). -/
  dieTemps : List Int
  /-- D0 ticks from the request to regulation in each attempt to switch a domain on, domain by domain; an attempt left out is one that
  never came (R426, R427). -/
  regAt : List (List Nat)
  /-- Ticks of XO32K qualification passed. -/
  xo32kReady : Bool
deriving DecidableEq, Repr, Inhabited

/-- The form of a frame on a CAN bus (R440, R499): 29-bit identifier, CAN FD format, remote frame, and res bit recessive. -/
structure CanForm where
  xtd : Bool
  fd : Bool
  remote : Bool
  res : Bool
deriving DecidableEq, Repr, Inhabited

/-- What an IPv4 packet carries of a UDP datagram (R439): a whole payload, or a fragment with its identification, its offset in bytes in
the datagram, UDP header included, and whether more fragments follow. The ports of a fragmented datagram are those of its header. -/
inductive UdpData where
  | whole (payload : List Byte)
  | fragment (ident : U16) (offset : Nat) (more : Bool) (bytes : List Byte)
deriving DecidableEq, Repr, Inhabited

/-- One trigger of a bridge: the samples it takes (R303, R312). -/
structure TrigObs where
  trig : Fin 4
  /-- Codes of U, V and W on bank A, then bank B. -/
  codeA : List Int
  codeB : List Int
  /-- Code of the fourth, general input of each bank (R306). -/
  genA : Int
  genB : Int
  /-- Phase voltages in mV and the VDC+ reading in mV, if the leg-0 island gives one. -/
  vph : List Int
  vdc : Option Int
deriving DecidableEq, Repr, Inhabited

/-- What reaches a control period from outside the field engine: whether the inter-engine data arrived by the boundary (R199). -/
structure CtrlObs where
  linkOk : Bool
deriving DecidableEq, Repr, Inhabited

/-- A zero crossing of a line-to-line voltage: the set, the voltage (0 v_uv, 1 v_vw, 2 v_wu), its direction, and device time (R248). -/
structure Crossing where
  set : Fin 2
  pair : Fin 3
  rising : Bool
  time : Nat
  /-- Largest magnitude of the set's line-to-line voltages since its crossing before, in mV. -/
  peakMv : Nat
deriving DecidableEq, Repr, Inhabited

/-- What a catch window or its extension has seen so far (R248, R250): the largest line-to-line magnitude in mV, and every zero crossing
since START acceptance in the order of time. -/
structure CatchObs where
  peakMv : Nat
  crossings : List Crossing
deriving DecidableEq, Repr, Inhabited

/-- The sample at the end of a pluck pulse (R255): bank A codes of the three phases for each set, and the VDC+ reading of leg 0 in mV. -/
structure PluckObs where
  codes : List (List Int)
  vdcMv : Int
deriving DecidableEq, Repr, Inhabited

/-- One sample of a phase voltage in a float window: mV and device time (R225). -/
structure ZcSample where
  mv : Int
  time : Nat
deriving DecidableEq, Repr, Inhabited

/-- What the monitor pair measures of a machine as it writes FAST (R330): electrical frequency in mHz of the bank B short-circuit currents
and of the island phase voltages, none where there is none to be measured. -/
structure SpeedSeen where
  capo : Option Nat
  free : Option Nat
deriving DecidableEq, Repr, Inhabited

/-- A wake event seen by CANF0 in listening standby (R509). -/
inductive CanWakeEv where
  /-- A dominant phase of this many nanoseconds. -/
  | dominant (ns : Nat)
  /-- A classical frame at the nominal rate. -/
  | frame (xtd : Bool) (id : BitVec 29) (dlc : Nat) (data : List Byte)
  /-- The frame error counter of the selective-wake receiver. -/
  | errors (n : Nat)
deriving DecidableEq, Repr, Inhabited

/-- A ring frame as it arrives (Tables 15.5 and 15.6). -/
structure RingFrame where
  typ : Byte
  hops : BitVec 4
  src : BitVec 2
  dst : Byte
  seq : Byte
  crcOk : Bool
  payload : List Byte
deriving DecidableEq, Repr, Inhabited

/-- Why a D5 under a hold time returns to on (R412). -/
inductive D5Return where
  | expiry | kl15Rise | canWake (ev : CanWakeEv)
deriving DecidableEq, Repr, Inhabited

/-- Where a fast setpoint frame reaches the command-context unit from (R458): a datagram, a ring frame, or the oldest frame in a CAN
controller's buffers. -/
inductive SpSource where
  | udp (eth : Fin 3) (bytes : List Byte)
  | ring (bytes : List Byte)
  | can (n : Fin 4)
deriving DecidableEq, Repr, Inhabited

/-- How a ring port's link failed (R529). -/
inductive RingFail where
  | noLock (ns : Nat) | noLink | crc
deriving DecidableEq, Repr, Inhabited

/-- The severe clock condition met (Table 12.3): microseconds without lock, or how far an output lies from its reference times its ratio in
ppm. -/
inductive SevereKind where
  | notLocked (us : Nat) | outOfRange (ppm : Int) | noFallback
deriving DecidableEq, Repr, Inhabited

/-- A temperature reading (R376, R377): in 0.1 degrees of a die or island sensor, in ohms of a power-module NTC, in 0.1 ohms of a PT1000; or an
open or shorted sensor. -/
inductive Reading where
  | value (t : Int)
  | openOrShort
deriving DecidableEq, Repr, Inhabited

/-- Which of an island's links is lost (R156): edge channel, data channel, or the state coupler of the leg. -/
inductive LinkKind where
  | edge | data | coupler
deriving DecidableEq, Repr, Inhabited

/-- How an island came to refuse an on command (R157, R158). -/
inductive OverlapKind where
  | partnerOn | within50ns | bothCommanded
deriving DecidableEq, Repr, Inhabited

/-- The commands. Each docstring names the row's rule. -/
inductive Instr where
  /-- R475, Table 14.5. -/
  | identify (h : Hdr)
  /-- R475, Table 14.6. -/
  | getState (h : Hdr)
  /-- R476. -/
  | setOpModeEnter (h : Hdr)
  /-- R476. -/
  | setOpModeLeave (h : Hdr)
  /-- R477; `arg` is request byte 0. -/
  | reset (h : Hdr) (arg : Byte)
  /-- R454. -/
  | ctxQuery (h : Hdr) (tag : Byte)
  /-- R147, Table 4.6. -/
  | arm (h : Hdr) (machine : Byte)
  /-- R479. -/
  | disarm (h : Hdr) (machine : Byte)
  /-- R461; torque s32 in 0.01 Nm, vehicle frame. -/
  | torqueSet (h : Hdr) (machine : Byte) (torque : U32)
  /-- R201; speed s32 in 0.01 rpm, vehicle frame. -/
  | speedSet (h : Hdr) (machine : Byte) (speed : U32)
  /-- R480. -/
  | safeState (h : Hdr) (scope : Byte) (index : Byte)
  /-- R237; direction s8. -/
  | start (h : Hdr) (machine : Byte) (dir : Byte)
  /-- R254, section The pluck test. -/
  | pluckTest (h : Hdr) (machine : Byte)
  /-- R481, R232. -/
  | retire (h : Hdr) (kind : Byte) (index : Byte)
  /-- R295. -/
  | cmpArm (h : Hdr) (unit : Byte) (form : Byte) (target : U32)
  /-- R298. -/
  | cmpStatus (h : Hdr) (unit : Byte)
  /-- R561. -/
  | remap (h : Hdr) (kind : Byte) (retired : Byte) (repl : Byte)
  /-- R487. -/
  | paramRead (h : Hdr) (source : Byte) (ids : List U16)
  /-- R484. -/
  | paramWrite (h : Hdr) (items : List Item)
  /-- R485, form 0. -/
  | paramCommitPrepare (h : Hdr)
  /-- R485, form 1. -/
  | paramCommitApply (h : Hdr) (slot : Byte) (serial : U32) (digest : Digest) (sig : Rsa)
  /-- R487, form 2. -/
  | paramCommitDiscard (h : Hdr)
  /-- R488. -/
  | setSelect (h : Hdr) (arg : Byte)
  /-- R488. -/
  | calRead (h : Hdr) (kind : U16) (inst : U16) (origin : Byte) (age : Byte)
  /-- R558, R560. -/
  | calRecal (h : Hdr) (target : Byte) (index : Byte)
  /-- R548. -/
  | updBegin (h : Hdr) (cls : U16) (total : U32) (manifest : Manifest)
  /-- R490. -/
  | updChunk (h : Hdr) (offset : U32) (data : List Byte)
  /-- R548. -/
  | updVerify (h : Hdr)
  /-- R550. -/
  | updActivate (h : Hdr) (timing : Byte)
  /-- R551. -/
  | updHandover (h : Hdr)
  /-- R491. -/
  | recInfo (h : Hdr)
  /-- R577. -/
  | recRead (h : Hdr) (first : Esn) (count : U16)
  /-- R578. -/
  | trendRead (h : Hdr) (channel : U16) (count : U16) (time : U64)
  /-- R547. -/
  | attest (h : Hdr) (nonce : Digest)
  /-- R545; what the ciphertext decrypts to under the identity key, `none` if it does not decrypt. -/
  | sessionOpen (h : Hdr) (plain : Option (List Byte))
  /-- R448. -/
  | sessionClose (h : Hdr)
  /-- R474. -/
  | keyInfo (h : Hdr) (part : Byte)
  /-- R537, action 0. -/
  | ownerSlotFuse (h : Hdr) (signer : Byte) (target : Byte) (hash : Digest) (sig : Rsa)
  /-- R537, action 1. -/
  | ownerSlotRevoke (h : Hdr) (signer : Byte) (target : Byte) (hash : Digest) (sig : Rsa)
  /-- R491. -/
  | cascStatus (h : Hdr)
  /-- R492. -/
  | regRead (h : Hdr) (addr : U32) (words : U16)
  /-- R492. -/
  | regWrite (h : Hdr) (addr : U32) (mask : U32) (value : U32)
  /-- R406. -/
  | freqMeasure (h : Hdr) (inSel : Byte) (refSel : Byte) (nRef : U32)
  /-- R493. -/
  | freeze (h : Hdr)
  /-- R570. -/
  | snapshotInfo (h : Hdr)
  /-- R411. -/
  | domainSet (h : Hdr) (domain : Byte) (request : Byte) (hold : U16)
  /-- R420. -/
  | opPoint (h : Hdr) (pair : Byte) (point : Byte)
  /-- R422. -/
  | standbyEnter (h : Hdr) (depth : Byte) (timing : Byte) (canWake : Byte)
  /-- R425. -/
  | rtcSet (h : Hdr) (count : BitVec 48)
  /-- R425. -/
  | alarmSet (h : Hdr) (alarm : BitVec 48) (armed : Byte)
  /-- R370. -/
  | lockoutClear (h : Hdr) (esn : Esn) (slot : Byte) (sig : Rsa)
  /-- R358. -/
  | stoStatus (h : Hdr)
  /-- R494. -/
  | contactorSet (h : Hdr) (mask : Byte) (command : Byte) (discharge : Byte)
  /-- R369. -/
  | lockoutList (h : Hdr)
  /-- R399; the word written to CLK_SEL. -/
  | clkSelWrite (value : U32)
  /-- R400; the cycle of the new clock in which the old clock's edge arrives, if any. -/
  | clockSwitchForced (oldEdge : Option Nat)
  /-- R408; the bit of CLK_GATE. -/
  | clkGateOpen (bit : Fin 32)
  /-- R409; the cycle in which the block's bus port becomes idle. -/
  | clkGateClose (bit : Fin 32) (idleAt : Nat)
  /-- R409. -/
  | gateCloseForced (bit : Fin 32) (idleAt : Option Nat)
  /-- R411; the value of DOM_CTLn.REQ, with the hold time of D5 in 10 ms units. -/
  | domCtlRequest (n : Fin 16) (req : BitVec 2) (hold : U16)
  /-- R420. -/
  | opPointRegRequest (pair : Pair) (point : BitVec 2)
  /-- R404. -/
  | fmStart
  /-- R575. -/
  | recFlush
  /-- R576. -/
  | recSampleEnWrite (en : Bool)
  /-- R579. -/
  | snsTestForce (bank : Bank) (force : Bool) (input : BitVec 5)
  /-- R571; whether VIO is present. -/
  | snpStatus (vio : Bool)
  /-- R571; address and the bytes clocked out before SNP_nCS rises. -/
  | snpRead (vio : Bool) (addr : BitVec 24) (count : Nat)
  /-- R568; the byte after 0x6A. -/
  | restart (vio : Bool) (second : Byte)
  /-- R63. -/
  | kl15Rise
  /-- R64; whether the level came as a rising edge. -/
  | kl15KeepHigh (pin : WakePin) (edge : Bool)
  /-- R64; D0 ticks for which both have been low. -/
  | kl15KeepLowCount (ticks : Nat)
  /-- R424. -/
  | standbyEntryResume
  /-- R424; seconds since the wait began or the last report. -/
  | standbyWaitReport (seconds : Nat)
  /-- R65. -/
  | drvEnFall
  /-- R68; D0 ticks of the low time. -/
  | drvEnRise (lowTicks : Nat) (obs : EdgeObs)
  /-- R371; the ESN of the lock-out. -/
  | clearanceExpiry (esn : Esn)
  /-- R75. -/
  | freezePinRise
  /-- R565; cores stopped by force, bits as byte 3 of Table 17.3. -/
  | freezeTake (forced : Byte)
  /-- R567; D0 ticks of the half-period, or since the last sign change. -/
  | freezeWatcherFastClear (b : Fin 8) (halfTicks : Nat)
  /-- R356; microseconds for which the channel has been low. -/
  | stoDemand (ch : StoCh) (lowUs : Nat)
  /-- R357; microseconds for which both channels have been high. -/
  | stoDemandEnd (highUs : Nat)
  /-- R359; milliseconds for which one channel has demanded while the other stayed high. -/
  | stoDiscrepancy (ms : Nat)
  /-- R587; millivolts and microseconds. -/
  | kl30Loss (mv : Nat) (us : Nat)
  /-- R587; D0 ticks since the loss. -/
  | kl30LossConfirmed (ticks : Nat)
  /-- R588; millivolts and microseconds. -/
  | kl30Return (mv : Nat) (us : Nat)
  /-- R587; microseconds since the loss. -/
  | holdupEnd (us : Nat)
  /-- R586; millivolts and D0 ticks. -/
  | kl30OutOfRange (mv : Nat) (ticks : Nat)
  /-- R590, R589; whether KL15 is high. -/
  | kl30Apply (kl15High : Bool)
  /-- R96. -/
  | bootEntry (obs : BootObs)
  /-- R128; ticks since the request. -/
  | islandHandshakeTimeout (ch : ChanIx) (ticks : Nat)
  /-- R99; the step and its time in microseconds. -/
  | startupStepOverrun (step : Fin 10) (us : Nat)
  /-- R426; D0 ticks since the request, and at which of them the regulator came into regulation. -/
  | domainWakeDeadline (dom : Fin 16) (ticks : Nat) (regAt : Option Nat)
  /-- R427; D0 ticks since the start of the failed attempt. -/
  | domainWakeRetry (dom : Fin 16) (ticks : Nat)
  /-- R417; microseconds since the wake request. -/
  | feRestoreComplete (n : Fin 8) (us : Nat)
  /-- R412; ms since D5 left on. -/
  | d5HoldExpiry (cause : D5Return) (ms : Nat)
  /-- R420. -/
  | opPointTransitionDone (pair : Pair)
  /-- R420; microseconds without regulation. -/
  | opPointOverrun (pair : Pair) (us : Nat)
  /-- R425. -/
  | rtcAlarm
  /-- R509. -/
  | canWake (ev : CanWakeEv)
  /-- R396; microseconds for which the source has run inside its window. -/
  | sourceReady (src : ClkSrc) (us : Nat)
  /-- R401, level 1; missing reference edges. -/
  | pllCoast (pll : Pll) (missing : Nat)
  /-- R401, level 2; nominal periods without an edge, and the deviation of the count over 100 us in ppm. -/
  | clockSourceFail (src : ClkSrc) (missing : Nat) (ppm : Int)
  /-- R401, level 3. -/
  | clockFailHandling (src : ClkSrc)
  /-- R401, severe. -/
  | clockLossSevere (pll : Pll) (kind : SevereKind)
  /-- R403. -/
  | clockRestore
  /-- R404; the input count. -/
  | freqMeasureDone (nIn : Nat)
  /-- R405. -/
  | freqMeasureSrcOff
  /-- R150; sense voltage in mV, ns since the on command arrived, ns above threshold, a gate-monitor breach in the
  same cycle (R155), and what the island measures. -/
  | desaturation (ch : ChanIx) (senseMv : Nat) (sinceOnNs : Nat) (heldNs : Nat) (gmon : Bool) (now : IslandNow)
  /-- R151; gate voltage against the source in mV, ns since soft turn-off began. -/
  | softTurnoffEnd (ch : ChanIx) (gateMv : Int) (ns : Nat)
  /-- R133; VBP - COM in mV and ns held. -/
  | vbpUndervoltage (ch : ChanIx) (mv : Int) (ns : Nat)
  /-- R133. -/
  | vbpUvloRelease (ch : ChanIx) (mv : Int) (ns : Nat)
  /-- R133; VBN - COM in mV and ns held. -/
  | vbnOutOfRange (ch : ChanIx) (mv : Int) (ns : Nat)
  /-- R138. -/
  | vbsOk (leg : Fin 24) (mv : Int) (ns : Nat)
  /-- R142. -/
  | vbsWarn (leg : Fin 24) (mv : Int) (ns : Nat)
  /-- R143. -/
  | vbsWarnClear (leg : Fin 24) (mv : Int) (ns : Nat)
  /-- R145. -/
  | vbsUv (leg : Fin 24) (mv : Int) (ns : Nat)
  /-- R138. -/
  | highIslandStartReturn (leg : Fin 24) (mv : Int) (ns : Nat)
  /-- R140; Bow output current in uA and VBS in mV. -/
  | bowMeasurement (leg : Fin 24) (ua : Nat) (vbsMv : Int) (switching : Bool)
  /-- R141. -/
  | bowFailure (leg : Fin 24) (ua : Nat) (vbsMv : Int) (ms : Nat)
  /-- R154; the command in force, ns since the command arrived, ns held, and what the island measures. -/
  | gateMonitorBreach (ch : ChanIx) (on : Bool) (sinceNs : Nat) (heldNs : Nat) (now : IslandNow)
  /-- R157. -/
  | islandOverlapRefusal (ch : ChanIx) (kind : OverlapKind)
  /-- R156; the link, ns without carrier, consecutive missing frames, and whether the island still has its bias. -/
  | islandLinkLoss (ch : ChanIx) (link : LinkKind) (carrierNs : Nat) (frames : Nat) (bias : Bool)
  /-- R156; the link that trains again. -/
  | islandLinkTrained (ch : ChanIx) (link : LinkKind)
  /-- R160; the code latched, and what the island measures. -/
  | auxFaultLatch (aux : Fin 4) (code : U16) (now : IslandNow)
  /-- R149. -/
  | prechargePulse (m : Fin 8)
  /-- R147. -/
  | prechargeComplete (m : Fin 8)
  /-- R147. -/
  | prechargeTimeout (m : Fin 8)
  /-- R170; whether the boundary is the counter peak of double update (R169). -/
  | periodBoundary (b : Fin 8) (peak : Bool)
  /-- R171. -/
  | missedUpdateLimit (b : Fin 8)
  /-- R252. -/
  | lockAndMatch (m : Fin 8)
  /-- R175. -/
  | interlockRefusal (leg : Fin 24)
  /-- R176. -/
  | refusalLimit (b : Fin 8)
  /-- R184. -/
  | sixstepToggle (leg : Fin 24)
  /-- R185. -/
  | adcTrigger (b : Fin 8) (obs : TrigObs)
  /-- R189; arrival at SYNC_IN in 156.25 ps steps of the slave's own timebase. -/
  | syncPulse (arrival : Nat)
  /-- R190; consecutive sync periods absent or off by more than 50 ns. -/
  | syncLoss (periods : Nat)
  /-- R196. -/
  | controlPeriod (m : Fin 8) (obs : CtrlObs)
  /-- R201. -/
  | referenceUpdate (m : Fin 8)
  /-- R206. -/
  | torqueNotReachable (m : Fin 8)
  /-- R210. -/
  | trackingError (m : Fin 8)
  /-- R218. -/
  | xyExcess (m : Fin 8)
  /-- R213. -/
  | imFluxTimeout (m : Fin 8)
  /-- R220. -/
  | sixstepEntry (m : Fin 8)
  /-- R223. -/
  | sixstepExit (m : Fin 8)
  /-- R225; leg phase k, and the samples of its phase voltage throughout the window, in the order of time. -/
  | zcWindowEnd (m : Fin 8) (k : Fin 3) (samples : List ZcSample)
  /-- R226. -/
  | zcMissLimit (m : Fin 8)
  /-- R604. -/
  | orderlyStopEnd (m : Fin 8)
  /-- R479. -/
  | disarmRampEnd (m : Fin 8)
  /-- R232. -/
  | retireRampEnd (m : Fin 8)
  /-- R244; voltage at IDC0 and IDC1 in mV, and us for which a condition of R243 has held. -/
  | rectificationDetect (m : Fin 8) (idc0Mv : Int) (idc1Mv : Int) (us : Nat)
  /-- R242. -/
  | checkTimeEnd (m : Fin 8)
  /-- R248. -/
  | catchWindowEnd (m : Fin 8) (obs : CatchObs)
  /-- R251. -/
  | catchExtensionEnd (m : Fin 8) (obs : CatchObs)
  /-- R254. -/
  | pluckPulse (m : Fin 8) (obs : PluckObs)
  /-- R262. -/
  | observerInvalid (m : Fin 8)
  /-- R277; new levels of A and B, or of the comparators, and consecutive 10 ns samples for which they have been stable. -/
  | quadEdge (p : Fin 8) (a : Bool) (b : Bool) (held : Nat)
  /-- R293. -/
  | dividedOutputEmit (k : Fin 4)
  /-- R279; Z or REF is high in a sample. -/
  | indexMark (p : Fin 8)
  /-- R280; both levels change in one sample, stable for so many; Z is high in it. -/
  | illegalTransition (p : Fin 8) (held : Nat) (z : Bool)
  /-- R280. -/
  | illegalEventLimit (p : Fin 8)
  /-- R282; the state 4HU + 2HV + HW and the us for which it has been stable. -/
  | hallEdge (p : Fin 8) (state : BitVec 3) (heldUs : Nat)
  /-- R283; the same. -/
  | hallInvalid (p : Fin 8) (state : BitVec 3) (heldUs : Nat)
  /-- R283. -/
  | hallInvalidHeld (p : Fin 8)
  /-- R274; the pairs (SIN, COS) demodulated or converted, in 0.1 mV, before any correction. -/
  | amplitudeWindowFault (p : Fin 8) (pairs : List (Int × Int))
  /-- R276; of each excitation period the peak current in mA and the amplitude in mV peak-to-peak. -/
  | excitationFault (p : Fin 8) (periods : List (Nat × Nat))
  /-- R272, R273. -/
  | inputFrequencyLimit (p : Fin 8)
  /-- R270; phase shift between excitation and return in ANG18 counts of the excitation. -/
  | trackingLock (p : Fin 8) (phase : Nat)
  /-- R287. -/
  | interfaceRecovery (p : Fin 8)
  /-- R288. -/
  | speedWindow (p : Fin 8)
  /-- R290. -/
  | speedZeroTimeout (p : Fin 8)
  /-- R296. -/
  | compareLoad (u : Fin 16)
  /-- R297. -/
  | compareFire (u : Fin 16)
  /-- R297. -/
  | compareRearm (u : Fin 16)
  /-- R308; input voltage in mV and ns held. -/
  | windowComparatorTrip (bank : Bank) (input : Fin 24) (mv : Int) (heldNs : Nat)
  /-- R310. -/
  | currentSumViolation (bank : Bank) (b : Fin 8)
  /-- R311; lowest supply magnitude and reference output in mV (reference in 0.1 mV), us held. -/
  | sensorSupplyFault (bank : Bank) (supplyMv : Nat) (refTenthMv : Nat) (us : Nat)
  /-- R313; the VDC+ reading of each bridge in mV. -/
  | linkVoltageFormation (g : Fin 2) (readings : List (Option Int))
  /-- R315; VDC+ in mV and ns held. -/
  | ovTrip (b : Fin 8) (mv : Int) (heldNs : Nat)
  /-- R316; us held. -/
  | ovWarn (g : Fin 2) (us : Nat)
  /-- R317; us held. -/
  | uvLimit (g : Fin 2) (us : Nat)
  /-- R319. -/
  | chopperOn (g : Fin 2)
  /-- R319. -/
  | chopperOff (g : Fin 2)
  /-- R321; voltage at the input of P_IFB_GAIN in mV. -/
  | chopperUnavailable (g : Fin 2) (ifbMv : Int)
  /-- R322; the same. -/
  | chopperUncommanded (g : Fin 2) (ifbMv : Int)
  /-- R323. -/
  | chopperEnergyLimit (g : Fin 2)
  /-- R325. -/
  | dischargeAutoStart (g : Fin 2)
  /-- R325. -/
  | dischargeEnd (g : Fin 2)
  /-- R327; the same. -/
  | dischargeSwitchFault (g : Fin 2) (ifbMv : Int)
  /-- R328. -/
  | windingDischargeEnd (m : Fin 8)
  /-- R329. -/
  | dischargeTimeout (g : Fin 2)
  /-- R330; for each machine index, the speed in PU18 that the monitor pair has. -/
  | fastWrite (speeds : List SpeedSeen)
  /-- R334. -/
  | activeShortUnavailable (b : Fin 8)
  /-- R345; group and bit flagged. -/
  | lockstepMismatch (pair : Pair) (group : Fin 8) (injCycle : Bool)
  /-- R345; an invalid dual-rail code, or no flag at the injection. -/
  | checkerFailure (pair : Pair) (invalidCode : Bool)
  /-- R343; whether the injected group was flagged. -/
  | runtimeInjection (pair : Pair) (flagged : Bool)
  /-- R346; differences flagged by the comparator in the injection test, and whether it flags the clean pass. -/
  | pairRestartDone (pair : Pair) (inj : Nat) (clean : Bool)
  /-- R347. -/
  | torqueMonitorWindow (m : Fin 8)
  /-- R364; sequence number and answer. -/
  | heartbeat (sender : Heart) (seq : Byte) (answer : Byte)
  /-- R365; die ticks since the last accepted heartbeat. -/
  | heartbeatMissed (sender : Heart) (dieTicks : Nat)
  /-- R367; mV and die ticks held. -/
  | supplyOutOfWindow (sup : Supply) (mv : Nat) (dieTicks : Nat)
  /-- R367; mV and us held. -/
  | supplyLowReset (sup : Supply) (mv : Nat) (us : Nat)
  /-- R367; mV and us held. -/
  | supplyResetRelease (sup : Supply) (mv : Nat) (us : Nat)
  /-- R368; the challenge answered correctly and the die's tick count over 100 ms. -/
  | dieCheck (answerOk : Bool) (ticks : Nat)
  /-- R360. -/
  | contactorPullInEnd (n : Fin 4)
  /-- R361; debounced feedback levels and ms since the command or since the level left. -/
  | contactorFeedbackFail (n : Fin 4) (cfb : BitVec 6) (ms : Nat)
  /-- R379; the readings of one measurement. -/
  | tempMeasurement (readings : List (Fin 104 × Reading))
  /-- R384. -/
  | offsetLearn (s : Fin 104)
  /-- R390; the monitor's own reading. -/
  | monitorTripCheck (s : Fin 104) (r : Reading)
  /-- R392; the range of the crystal table in 0.1 degrees, and each bank reference against the bandgap in 0.001 %. -/
  | tempCompensation (gapA : Int) (refA : Int) (gapB : Int) (refB : Int)
  /-- R392. -/
  | tempCompensationLate
  /-- R446; the bytes received and, on CAN FD, the padding bytes after the packet's last byte. -/
  | packetArrival (port : Port) (bytes : List Byte) (padding : List Byte)
  /-- R439; Ethernet port, UDP destination port, VLAN of the frame, payload, source address and port. -/
  | udpDatagram (eth : Fin 3) (dstPort : U16) (vlan : U16) (payload : UdpData) (srcAddr : U32) (srcPort : U16)
  /-- R442; controller and target device; the frame is the oldest in the buffers of the identifier. -/
  | canSegment (can : Fin 4) (dev : Fin 4)
  /-- R442. -/
  | segmentGapTimeout (can : Fin 4) (dev : Fin 4)
  /-- R459. -/
  | fastSetpointFrame (src : SpSource)
  /-- R456. -/
  | dispatch
  /-- R452. -/
  | contextDeadline (tag : Fin 128)
  /-- R448. -/
  | sessionIdleTimeout (sid : Fin 8)
  /-- R462. -/
  | setpointTimeout (m : Fin 8)
  /-- R474. -/
  | nonceExpiry (sid : Fin 8)
  /-- R504; controller, identifier, whether it is a CAN FD frame, data. -/
  | canFrameReceive (can : Fin 4) (id : BitVec 29) (form : CanForm) (data : List Byte)
  /-- R501. -/
  | canBusOff (can : Fin 4)
  /-- R501; occurrences of 11 recessive bits. -/
  | canBusOffRecovery (can : Fin 4) (occurrences : Nat)
  /-- R506. -/
  | stateFrame
  /-- R507; lost arbitration, else error. -/
  | oneShotFail (can : Fin 4) (lostArb : Bool)
  /-- R513. -/
  | ethLinkDown (p : Fin 3)
  /-- R514; device time minus grandmaster time, in ticks. -/
  | gptpSync (offset : Int)
  /-- R515; Sync intervals without a Sync message. -/
  | gptpSyncLoss (intervals : Nat)
  /-- R516. -/
  | qbvCycleStart
  /-- R522; the port it arrives on. -/
  | ringFrameReceive (port : RingPort) (f : RingFrame)
  /-- R520. -/
  | ringPeriodicSend
  /-- R520. -/
  | ringLinkSend
  /-- R524; departure, peer arrival, peer departure, and arrival of the response, in 156.25 ps steps. -/
  | ringDelayReq (port : RingPort) (t1 : Nat) (t2 : Nat) (t3 : Nat) (t4 : Nat)
  /-- R526. -/
  | faultFlagChange
  /-- R529. -/
  | ringLinkDown (port : RingPort) (why : RingFail)
  /-- R529; ms for which the link has been up. -/
  | ringLinkRestored (port : RingPort) (ms : Nat)
  /-- R530. -/
  | cascadeDeviceLost (d : Fin 4)
  /-- R532. -/
  | masterLost
  /-- R575. -/
  | recorderFlush
  /-- R576. -/
  | postTriggerEnd
  /-- R578. -/
  | trendRecord (channel : Fin 128)
  /-- R552; differences flagged by the comparator in the injection test, and whether it flags the clean pass. -/
  | handoverTakeover (inj : Nat) (clean : Bool)
  /-- R554. -/
  | handoverTimeout
  /-- R550. -/
  | feReload (n : Fin 8)
  /-- R550; answers of the six islands of the bridge. -/
  | islReload (b : Fin 8) (answers : List IslandObs)
  /-- R557. -/
  | feRotation (m : Fin 8)
  /-- R559, R560; target and index of the recalibration, what the converter reads of its references, and what the low and the high
  island of the leg answer. -/
  | recalCoverEnd (target : Byte) (index : Byte) (cal : ConvCal) (low : IslandObs) (high : IslandObs)
  /-- R494; the debounced feedback inputs. -/
  | feedbackConfirmsCommand (n : Fin 4) (cfb : BitVec 6)
  /-- R203. -/
  | fluxMapDerivationEnd (m : Fin 8)
  /-- R416. -/
  | retentionRestore (dom : Fin 16) (crcOk : Bool)
  /-- R439; port and ms. -/
  | ipv4ReassemblyTimeout (eth : Fin 3) (ms : Nat)
  /-- R513. -/
  | ethLinkUp (p : Fin 3)
  /-- R510; target address. -/
  | arpRequest (p : Fin 3) (target : U32)
  /-- R510; destination address. -/
  | icmpEchoRequest (p : Fin 3) (dst : U32)
  /-- R87, R88; 0 BYPASS, 1 IDCODE, 2 SAMPLE/PRELOAD, 3 EXTEST, anything else unknown; whether VIO supplies J8. -/
  | tapInstruction (op : Byte) (vio : Bool)
deriving DecidableEq, Repr

end Sys2Proof
end

