-- ==== Sys2Proof/Decode.lean ====
section
/-! DEFINITION. The decoder of the block. spec/opcode_table.json gives no row any bits, so no word spells a command (log entry
8); a request that arrives as bytes is the operand of PACKET_ARRIVAL, and DISPATCH reads its payload. -/

namespace Sys2Proof

/-- The command that a word of `nbits` bits spells by the table's bits: none, for the table gives no row any. -/
def decodeTableWord (_nbits _w : Nat) : Option Instr := none

end Sys2Proof
end

