-- ==== Sys2Proof/Config.lean ====
section
/-! DEFINITION. What one FDM-4816 fixes and the spec does not state: its keys, numbers and firmware, the cryptographic
functions, and the free values. Every `opaque` constant here has no body a proof can see, so a statement holds whatever
its value (log entries 3, 5 and 6). -/

namespace Sys2Proof.Config

/-! ### Cryptography (R434, R536, R542, R545, R547; log entry 5) -/

/-- SHA-256 of a byte string (R536). -/
opaque sha256 : List Byte → Digest

/-- HMAC-SHA-256 of a byte string under a 256-bit key (R434). -/
opaque hmacSha256 : Digest → List Byte → Digest

/-- The one RSASSA-PKCS1-v1_5 signature with SHA-256 of a digest that the public modulus verifies (R536). The padding is
deterministic, so a signature verifies exactly when it equals this value. -/
opaque rsaSignature : Rsa → Digest → Rsa

/-- What an RSAES-OAEP ciphertext decrypts to under the identity key, `none` where decryption fails (R545). -/
opaque oaepDecrypt : List Byte → Option (List Byte)

/-! ### One device (R535, R512, R4) -/

/-- Modulus of the identity key. -/
opaque identityModulus : Rsa
/-- Modulus of the vendor image key. -/
opaque vendorModulus : Rsa
/-- The seal key. -/
opaque sealKey : Digest
/-- The device certificate in DER. -/
opaque certificate : List Byte
/-- The serial number, 16 ASCII bytes. -/
opaque serialNumber : BitVec 128
/-- The Ethernet MAC address of the device (R512). -/
opaque macAddress : BitVec 48
/-- The ordering code is FDM-4816-H1E, otherwise FDM-4816-H1 (Table 0.1). -/
opaque miningCode : Bool

/-- The device step B1, as Table 3.3 encodes it (R5). -/
def deviceStep : Byte := 0x21

/-- The answer that a pair owes to the die's challenge (R364). -/
opaque dieAnswer : Byte → Byte

/-! ### The preloaded firmware (Table 0.1 "Standard preload"; log entry 1) -/

/-- Version of the preloaded image of class index 0 MAIN to 4 CTAB. -/
opaque preloadVersion : Nat → U32
/-- Body of the preloaded image of class index 0 to 3. -/
opaque preloadBody : Nat → List Byte

/-- The factory peg record of a kind and an instance: temperature at creation and data, none where there is none (R123). -/
opaque factoryRecord : Nat → Nat → Option (Int × List Byte)

/-- The results of an island's calibration under a kind, 0x0002 or 0x0003, lie within the limits that the data of its factory record set
(R123, R127, R128). Neither the limits nor the layout of the data are in the spec (log entry 51). -/
opaque islandWithin : Nat → List Byte → Int → Int → Bool
/-- The data of an island's start-up record of a kind, from its two results (R121; the layout is not in the spec). -/
opaque islandRecord : Nat → Int → Int → List Byte

/-- Corrections that the factory and start-up records of kinds 0x0005, 0x0006 and 0x0007 give at a temperature in 0.1 degrees (R129,
R392): of the crystal, of the RC oscillators, and of a bank reference in ppm, from the data of the factory record and of the start-up
record. Their data layouts are not in the spec. -/
opaque xtalTable : List Byte → Int → Int
opaque rcTable : List Byte → List Byte → Int → Int
opaque refTable : List Byte → List Byte → Int → Int
/-- The lowest and highest temperature of the crystal table that a factory record of kind 0x0005 holds, in 0.1 degrees (R129). -/
opaque xtalRange : List Byte → Int × Int

/-- The path MTU towards the origin of a request, in bytes (R439; log entry 51). -/
opaque pathMtu : List Byte → Nat

/-! ### Mathematical constants and functions (log entry 7)

The spec writes them by name; the model keeps them opaque and states nothing about their values. -/

/-- π. -/
opaque pi : Rat
/-- Square root of a rational. -/
opaque sqrt : Rat → Rat
/-- Sine and cosine of an ANG18 angle. -/
opaque sin18 : Nat → Rat
opaque cos18 : Nat → Rat
/-- ANG18 angle of a vector (x, y). -/
opaque atan18 : Rat → Rat → Nat
/-- Exponential of a rational. -/
opaque exp : Rat → Rat
/-- Arc cosine of a ratio, in ANG18 counts. -/
opaque acos18 : Rat → Rat

/-! ### Field control (log entry 20)

What the spec names without stating it: gains of loops, values between the points of a map, and tables of the FE image. Each is a
function of what it depends on, and nothing rests on its value. -/

/-- ψ_d and ψ_q of a flux map in uVs between its grid points: from the map data, i_d and |i_q| in PU18 (R203). -/
opaque mapBetween : List Byte → Int → Nat → Rat × Rat
/-- Fluxes of an induction machine in per unit: from its constants, i_d and i_q in PU18 (R207, R212). -/
opaque imFluxes : List Rat → Int → Int → Rat × Rat
/-- kp and ki of the voltage loop for P_FW_BW (R206). -/
opaque fwGains : Nat → Rat × Rat
/-- kp and ki of the x-y loops for P_XY_BW and P_L_XY in per unit, and the gain of their resonant term (R217). -/
opaque xyGains : Nat → Rat → Rat × Rat
opaque xyResonant : Nat → Rat → Rat
/-- kp and ki of the torque regulator of six-step for P_6S_BW, in ANG18 counts (R221). -/
opaque sixGains : Nat → Rat × Rat
/-- kp and ki of a phase-locked loop of a bandwidth in hertz, in counts and per unit of speed for a count of error (R225, R252,
R259). -/
opaque pllGains : Nat → Rat × Rat
/-- kp and ki of the tracking loop of an interface for P_POS_BW: in counts, and in counts per us, for a count of error (R272). -/
opaque trackGains : Nat → Rat × Rat
/-- Scale that the injection loop puts on a difference of q currents, for P_INJ_V and the machine's constants (R259). -/
opaque injScale : Nat → List Rat → Rat
/-- The injection response as a share of the one expected from the stored saliency: from the differences of successive d and q
currents in PU18, P_INJ_V, the saliency in 0.001 and the machine's constants (R262). -/
opaque injShare : Int → Int → Nat → Nat → List Rat → Rat
/-- What the FE image's tables of overmodulation differ from the points that give the fundamental exactly, in 0.001 %: of the magnitude
pre-compensation, held to ±0.3 %, and of the 64-point hold angle, held to ±1 % (R182). -/
opaque preCompTrim : Nat → Int
opaque holdTrim : Nat → Int

/-! ### Temperatures (R377; log entry 7) -/

/-- Temperature in 0.1 degrees of an NTC of P_NTC_R25 and P_NTC_B, from its resistance in ohms. -/
opaque ntcTemp : Nat → Nat → Int → Int
/-- Temperature in 0.1 degrees of a PT1000 to IEC 60751, from its resistance in 0.1 ohms. -/
opaque pt1000Temp : Int → Int

/-! ### Free values (log entry 3) -/

/-- A fresh value of 128 random bits, of the `n`th draw (R474). -/
opaque freeNonce : Nat → BitVec 128
/-- What a strap between 1 kΩ and 100 kΩ reads, or any other single bit the spec leaves open. -/
opaque freeBit : Nat → Bool
/-- A 32-bit value the spec leaves open. -/
opaque freeWord : Nat → U32
/-- A byte string the spec leaves open. -/
opaque freeBytes : Nat → List Byte
/-- An integer the spec leaves open. -/
opaque freeInt : Nat → Int

end Sys2Proof.Config
end

