-- ==== Sys2Proof/Machine/Operands.lean ====
section
/-! DEFINITION. The forms in which values travel: bytes and words (R15), per-unit codes (R17), angles (R18), serial-number
comparison (R37, R449), and the numbers that name units, transports and classes. -/

namespace Sys2Proof.Machine

/-! ### Bytes -/

/-- The low `n` bytes of a number, most significant first (R15). -/
def beBytes (n v : Nat) : List Byte :=
  (List.range n).map (fun i => BitVec.ofNat 8 (v / 2 ^ (8 * (n - 1 - i))))

/-- The low `n` bytes of a number, least significant first: register words (R15). -/
def leBytes (n v : Nat) : List Byte := (beBytes n v).reverse

/-- The number that a byte string spells, most significant first. -/
def beNat (bs : List Byte) : Nat := bs.foldl (fun a b => a * 256 + b.toNat) 0

/-- The number that a byte string spells, least significant first. -/
def leNat (bs : List Byte) : Nat := beNat bs.reverse

/-- `n` bytes from position `i`. -/
def slice (bs : List Byte) (i n : Nat) : List Byte := (bs.drop i).take n

/-- The number in `n` bytes from position `i`. -/
def field (bs : List Byte) (i n : Nat) : Nat := beNat (slice bs i n)

/-- `n` bytes of a signed number, two's complement. -/
def beInt (n : Nat) (v : Int) : List Byte := beBytes n (v % (2 ^ (8 * n) : Nat)).toNat

/-- The signed number of an `n`-bit pattern. -/
def signed (n v : Nat) : Int := if v < 2 ^ (n - 1) then v else (v : Int) - (2 ^ n : Nat)

/-- `n` zero bytes: a reserved field. -/
def zeros (n : Nat) : List Byte := List.replicate n 0

/-- A truth value as the bit at position `i`. -/
def bitAt (b : Bool) (i : Nat) : Nat := if b then 2 ^ i else 0

/-- Bit `i` of a number. -/
def hasBit (v i : Nat) : Bool := v / 2 ^ i % 2 == 1

/-- A list of truth values as a number, first one lowest. -/
def bitsOf : List Bool → Nat
  | [] => 0
  | b :: bs => (if b then 1 else 0) + 2 * bitsOf bs

/-! ### Numbers -/

/-- `n / d` rounded to nearest, ties away from zero (R17), for `d > 0`. -/
def roundDiv (n d : Int) : Int :=
  if n < 0 then -((-2 * n + d) / (2 * d)) else (2 * n + d) / (2 * d)

/-- A rational rounded to nearest, ties away from zero (R17). -/
def roundRat (x : Rat) : Int := roundDiv x.num x.den

/-- A code saturated to the PU18 range (R17). -/
def satPu18 (c : Int) : Int := max (-131072) (min 131071 c)

/-- The PU18 code of a quantity `x` with base `b > 0` in the same unit (R17). -/
def toPu18 (x b : Int) : Int := satPu18 (roundDiv (x * 32768) b)

/-- A rational per-unit value as a PU18 code (R17). -/
def ratPu18 (x : Rat) : Int := satPu18 (roundRat (x * 32768))

/-- A PU18 code as a rational per-unit value. -/
def puRat (c : Int) : Rat := (c : Rat) / 32768

/-- ANG18 arithmetic is modulo 2^18 (R18). -/
def ang18 (a : Int) : Nat := (a % 262144).toNat

/-- A difference of two ANG18 angles in -2^17 to 2^17 - 1. -/
def angDiff (a b : Nat) : Int :=
  let d := ang18 ((a : Int) - b)
  if d < 131072 then d else (d : Int) - 262144

/-- Clamp to an interval. -/
def clampInt (lo hi x : Int) : Int := max lo (min hi x)

/-- Clamp of a rational to ±m. -/
def clampRat (m x : Rat) : Rat := max (-m) (min m x)

/-- `a` is after `b` in serial-number order with a window of 2^31 (R37, R449, R459). -/
def serialAfter (a b : U32) : Bool := a != b && decide ((a - b).toNat < 2 ^ 31)

/-! ### Names as numbers -/

/-- The place of a transport in the order of R445. -/
def portIx : Port → Nat
  | .eth0 => 0 | .eth1 => 1 | .eth2 => 2 | .can0 => 3 | .can1 => 4 | .can2 => 5 | .can3 => 6 | .ring => 7

/-- The CAN controller of a transport. -/
def portCan : Port → Option Nat
  | .can0 => some 0 | .can1 => some 1 | .can2 => some 2 | .can3 => some 3
  | .eth0 | .eth1 | .eth2 | .ring => none

/-- The Ethernet port of a transport. -/
def portEth : Port → Option Nat
  | .eth0 => some 0 | .eth1 => some 1 | .eth2 => some 2
  | .can0 | .can1 | .can2 | .can3 | .ring => none

/-- The transport of an Ethernet port. -/
def ethPort : Fin 3 → Port
  | 0 => .eth0 | 1 => .eth1 | 2 => .eth2

/-- The transport of a CAN controller. -/
def canPort : Fin 4 → Port
  | 0 => .can0 | 1 => .can1 | 2 => .can2 | 3 => .can3

/-- The place of a class in the order of Table 3.2. -/
def classIx : ImgClass → Nat
  | .main => 0 | .mon => 1 | .fe => 2 | .isl => 3 | .ctab => 4 | .pset => 5 | .cset => 6

/-- The class code of Table 3.2. -/
def classCode : ImgClass → U16
  | .main => 0x0001 | .mon => 0x0002 | .fe => 0x0003 | .isl => 0x0004 | .ctab => 0x0005
  | .pset => 0x0010 | .cset => 0x0011

/-- The class of a code of Table 3.2. -/
def classOf (c : U16) : Option ImgClass :=
  [ImgClass.main, .mon, .fe, .isl, .ctab, .pset, .cset].find? (fun k => classCode k == c)

/-- Maximum size of a class in bytes (Table 3.2). -/
def classMax : ImgClass → Nat
  | .main => 16384 * 1024 | .mon => 4096 * 1024 | .fe => 256 * 1024 | .isl => 256 * 1024
  | .ctab => 64 * 1024 | .pset => 1024 * 1024 | .cset => 8192 * 1024

/-- The leg of a channel, `none` for an auxiliary channel (Table 17.5). -/
def chanLeg (c : Nat) : Option Nat := if c < 48 then some (c / 2) else none

/-- The bridge of a channel (R8). -/
def chanBridge (c : Nat) : Option Nat := if c < 48 then some (c / 6) else none

/-- The channel is a high side. -/
def chanHigh (c : Nat) : Bool := decide (c < 48) && c % 2 == 1

/-- Low and high channel of a leg (Table 17.5). -/
def lowChan (leg : Nat) : Nat := 2 * leg
def highChan (leg : Nat) : Nat := 2 * leg + 1

/-! ### Manifests (Table 3.3) -/

/-- Bytes 0 to 71 of a manifest: what the signatures and the seal cover (R104, R541, R542). -/
def manifestHead (m : Manifest) : List Byte :=
  beBytes 2 m.cls.toNat ++ beBytes 2 m.format.toNat ++ beBytes 4 m.version.toNat ++
  [m.rollback, m.devMin, m.devMax, m.islMin, m.islMax] ++ beBytes 3 m.reserved.toNat ++
  beBytes 4 m.peerMain.toNat ++ beBytes 4 m.peerMon.toNat ++ beBytes 4 m.peerFe.toNat ++
  beBytes 4 m.peerIsl.toNat ++ beBytes 4 m.peerCtab.toNat ++ beBytes 4 m.bodyLen.toNat ++
  beBytes 32 m.bodyDigest.toNat

/-- The digest that a manifest's signatures are over. -/
def manifestDigest (m : Manifest) : Digest := Config.sha256 (manifestHead m)

/-- The 840 bytes of a manifest (Table 3.3). -/
def manifestBytes (m : Manifest) : List Byte :=
  manifestHead m ++ beBytes 384 m.vendorSig.toNat ++ beBytes 384 m.ownerSig.toNat

/-- A manifest read from its 840 bytes (Table 3.3). -/
def parseManifest (bs : List Byte) : Manifest where
  cls := BitVec.ofNat 16 (field bs 0 2)
  format := BitVec.ofNat 16 (field bs 2 2)
  version := BitVec.ofNat 32 (field bs 4 4)
  rollback := BitVec.ofNat 8 (field bs 8 1)
  devMin := BitVec.ofNat 8 (field bs 9 1)
  devMax := BitVec.ofNat 8 (field bs 10 1)
  islMin := BitVec.ofNat 8 (field bs 11 1)
  islMax := BitVec.ofNat 8 (field bs 12 1)
  reserved := BitVec.ofNat 24 (field bs 13 3)
  peerMain := BitVec.ofNat 32 (field bs 16 4)
  peerMon := BitVec.ofNat 32 (field bs 20 4)
  peerFe := BitVec.ofNat 32 (field bs 24 4)
  peerIsl := BitVec.ofNat 32 (field bs 28 4)
  peerCtab := BitVec.ofNat 32 (field bs 32 4)
  bodyLen := BitVec.ofNat 32 (field bs 36 4)
  bodyDigest := BitVec.ofNat 256 (field bs 40 32)
  vendorSig := BitVec.ofNat 3072 (field bs 72 384)
  ownerSig := BitVec.ofNat 3072 (field bs 456 384)

/-- The hash of a public key with exponent 65,537 (R536). -/
def keyHash (modulus : Rsa) (exponent : U32) : Digest :=
  Config.sha256 (beBytes 384 modulus.toNat ++ beBytes 4 exponent.toNat)

/-- The hash of the identity key (R536). -/
def identityHash : Digest := keyHash Config.identityModulus 65537

/-- The 256 bits of a seal over bytes 0 to 71 (R542), as the value of manifest bytes 456 to 839: 32 bytes, then zeros. -/
def sealField (m : Manifest) : Rsa :=
  BitVec.ofNat 3072 ((Config.hmacSha256 Config.sealKey (manifestHead m)).toNat * 2 ^ (8 * 352))

end Sys2Proof.Machine
end

