-- ==== Sys2Proof/Machine/State.lean ====
section
/-! DEFINITION. The state of one FDM-4816, its faults and refusals, and its state right after reset.

Each field's docstring ends in brackets: width; the spec file and rule that name it; its reset value. "DC" marks a reset
value the spec does not give (log entry 1): the field then holds zero, false, empty or none. "model" marks a field of the
model's own. Times in State are device-time ticks of 2.5 ns unless a docstring says otherwise. -/

namespace Sys2Proof.Machine

/-! ### Common pieces -/

/-- Exclusive device phases of R13; `up` covers READY to SERVICE, which R13's precedence then tells apart. -/
inductive Phase where
  | off | boot | calibrating | standby | up | frozen
deriving DecidableEq, Repr, Inhabited

/-- Table 0.4. -/
inductive BridgeState where
  | disabled | idle | precharging | armed | running | safe | retired
deriving DecidableEq, Repr, Inhabited

/-- What the soundpost applies to a bridge (Table 9.3). -/
inductive SafeMode where
  | none | capoLow | capoHigh | freewheel
deriving DecidableEq, Repr, Inhabited

/-- Table 0.7. -/
abbrev Level := Nat

/-- What a fault, a lock-out or a request concerns (R369, Table 17.5). -/
inductive Scope where
  | device
  | linkGroup (g : Nat)
  | bothGroups
  | bridge (b : Nat)
  | machine (m : Nat)
  | nothing
deriving DecidableEq, Repr, Inhabited

/-- Why an entry to BOOT was caused (R97, WAKE_CAUSE of Table 12.13). -/
inductive BootCause where
  | kl15 | rtc | can | kl30Return | reset | restart | powerUpKl15
deriving DecidableEq, Repr, Inhabited

/-- Service reasons of Table 3.6 that start-up finds. -/
inductive StartReason where
  | untestedSet | islandStep | noCtab | noImage
deriving DecidableEq, Repr, Inhabited

/-! ### Time, events and the recorder -/

/-- Device time, ESN, RTC and the D0 tick. -/
structure Time where
  /-- Device time [64 bits; 01 R40; 0]. -/
  dev : Nat
  /-- PLL_PWM has locked and the timebase runs [1 bit; 01 R40, R42; false]. -/
  running : Bool
  /-- Next ESN of the allocator [32 bits; 01 R35, R39; 0]. -/
  esn : Esn
  /-- RTC count of D0 ticks [48 bits; 12 R425, Table 12.13; 0]. -/
  rtc : BitVec 48
  /-- Phase of the D0 tick in 1/32 timebase ticks, 0 to 390,624 [model; 12 R395; 0]. -/
  d0Phase : Nat
  /-- RTC count as the timebase last stopped, at an entry to STANDBY, BOOT or FROZEN, from which device time is extrapolated [48 bits; 01 R41, R42; 0 DC]. -/
  rtcAtHold : BitVec 48
  /-- Number of free values drawn so far [model; log entry 3; 0 DC]. -/
  free : Nat
deriving DecidableEq, Repr, Inhabited

/-- A recorder entry (Table 17.4). -/
structure Entry where
  esn : Esn
  time : Nat
  code : U16
  level : Nat
  kind : Nat
  src : U16
  count : Nat
  data : List Byte
deriving DecidableEq, Repr, Inhabited

/-- A rate-limited code and source: end of its interval and repeats unrecorded (R574). -/
structure RateSlot where
  code : U16
  src : U16
  until_ : Nat
  repeats : Nat
deriving DecidableEq, Repr, Inhabited

/-- A trend record (R578). -/
structure TrendRec where
  time : Nat
  min : Int
  max : Int
  mean : Int
  n : Nat
deriving DecidableEq, Repr, Inhabited

/-- What a trend channel has sampled in its present period (R578): count, least, greatest and sum, in the units of Table 17.6. -/
structure TrendAcc where
  n : Nat
  lo : Int
  hi : Int
  sum : Int
deriving DecidableEq, Repr, Inhabited

/-- The recorder, the trend store, the freeze and the snapshot. -/
structure Rec where
  /-- Write buffer in D4 SRAM, oldest first [4,096 entries; 17 R575; empty]. -/
  buf : List Entry
  /-- Event ring in MRAM, oldest first [524,288 entries; 17 R575; empty]. -/
  events : List Entry
  /-- Sample ring in MRAM, oldest first [3,670,016 entries; 17 R575; empty]. -/
  samples : List Entry
  /-- REC_NEWEST: ESN of the newest entry written, none if the recorder holds none [32 bits; 17 Table 17.14, 01 R39; none]. -/
  newest : Option Esn
  /-- REC_SDROP [32 bits; 17 Table 17.14; 0]. -/
  sdrop : U32
  /-- REC_EVOVW [32 bits; 17 Table 17.14; 0]. -/
  evovw : U32
  /-- Entries of both rings overwritten since BOOT, as REC_INFO gives them [32 bits; 14 Table 14.11; 0]. -/
  entOvw : U32
  /-- REC_CTL.SAMPLE_EN [1 bit; 17 Table 17.14; 1]. -/
  sampleEn : Bool
  /-- REC_STAT.POST_HOLD [1 bit; 17 Table 17.14; 0]. -/
  postHold : Bool
  /-- End of the post-trigger time in force [64 bits; 17 R576; none]. -/
  postEnd : Option Nat
  /-- Rate-limited codes [list; 17 R574; empty DC]. -/
  rate : List RateSlot
  /-- ESN of the latest event at L3 or L4 since BOOT [32 bits; 14 Table 14.6; 0]. -/
  esnL34 : Esn
  /-- ESN of the latest event [32 bits; 14 Table 14.6; 0 DC]. -/
  esnLatest : Esn
  /-- Trend rings, one per channel, oldest first [128 x 32,768 records; 17 R578; empty DC]. -/
  trend : List (List TrendRec)
  /-- Start of the present period of each trend channel [128 x 64 bits; 17 R578, R580; 0 DC]. -/
  trendStart : List Nat
  /-- Samples of the present period of each trend channel [128 x count, least, greatest, sum; 17 R578; none DC]. -/
  trendAcc : List TrendAcc
  /-- Snapshot image valid [1 bit; 17 R570; false]. -/
  snapValid : Bool
  /-- Snapshot image, bytes 0x0000 to 0x3503 [13,572 bytes; 17 R570, R572; empty]. -/
  snapImage : List Byte
  /-- ESN and device time of the freeze in the snapshot [32 and 64 bits; 17 R565; 0 DC]. -/
  snapEsn : Esn
  snapTime : Nat
  /-- Events of the snapshot, in ESN order [256 entries; 17 R572; empty]. -/
  snapEvents : List Entry
  /-- A freeze's events wait for step 4 of the next start-up [model; 17 R577; false]. -/
  snapPending : Bool
  /-- Freeze event mask [16 bits; 17 R569, R571; 0 DC]. -/
  freezeMask : U16
  /-- A freeze is requested: by pin, by opcode [2 bits; 17 R564; none]. -/
  freezePin : Bool
  freezeOpcode : Bool
  /-- Bridges whose freeze watcher is armed [8 bits; 17 R567; none]. -/
  watcher : List Bool
  /-- KL-05 hold of STATUS bit 3 [1 bit; 17 R571, 19 R603; 0]. -/
  kl05 : Bool
deriving DecidableEq, Repr, Inhabited

/-! ### Pins and outputs -/

/-- Filtered input levels. -/
structure Pins where
  /-- KL30 supply present [1 bit; 18 R590; false DC]. -/
  kl30 : Bool
  /-- KL15 [1 bit; 02 R63; false DC]. -/
  kl15 : Bool
  /-- KEEP [1 bit; 02 R64; false DC]. -/
  keep : Bool
  /-- DRV_EN [1 bit; 02 R65, R94; false]. -/
  drvEn : Bool
  /-- STO_A and STO_B levels [2 bits; 10 R355, 02 R94; low]. -/
  stoA : Bool
  stoB : Bool
  /-- Latest debounced CFB0 to CFB5 [6 bits; 02 R60; 0 DC]. -/
  cfb : BitVec 6
  /-- Instruction in the J8 TAP: 0 BYPASS, 1 IDCODE, 2 SAMPLE/PRELOAD, 3 EXTEST [4 codes; 02 R88; 0 DC]. -/
  tap : Byte
  /-- Cells of the boundary-scan chain as last sampled: of J1 KL15, KEEP, STO_A, STO_B, DRV_EN, FREEZE, READY, nFAULT, CORE_MODE,
  BOOT_SEL, CTD0 to CTD3, CFB0 to CFB5; of J5 the three logic inputs of P0 to P7 and POS_OUT0 to POS_OUT3; of J7 CASC_ID0, CASC_ID1,
  SYNC_IN, SYNC_OUT; of J8 SNP_SCK, SNP_nCS, SNP_MOSI, SNP_MISO [56 bits; 02 R88; 0 DC]. -/
  cells : List Bool
deriving DecidableEq, Repr, Inhabited

/-- A reply of a Vexfi request (R435, R467): the status, the data after it, and the header fields. -/
structure Reply where
  port : Port
  opcode : U16
  tag : Byte
  session : Byte
  seq : U32
  esn : Esn
  time : Nat
  auth : Bool
  urgent : Bool
  more : Bool
  status : U16
  data : List Byte
  /-- MAC when `auth` (R437). -/
  mac : BitVec 128
  /-- Where the request came from (R439, R521), as bytes 0 to 7 of Table 15.6 give it; empty for a request given as a row. -/
  origin : List Byte
deriving DecidableEq, Repr, Inhabited

/-- An Ethernet frame that the module sends: its port, VLAN (0 untagged) and priority, where its datagram goes (origin bytes of Table 15.6), and
the part of the UDP datagram that it carries: offset and length in bytes, whether more follow, and the bytes of the packet in it (R439,
R511). -/
structure EthFrame where
  port : Nat
  vid : Nat
  pcp : Nat
  dest : List Byte
  offset : Nat
  length : Nat
  more : Bool
  data : List Byte
deriving DecidableEq, Repr, Inhabited

/-- What the module sends on its connectors, oldest first. -/
inductive Output where
  | reply (r : Reply)
  | stateFrame (port : Port) (origin : List Byte) (esn : Esn) (bytes : List Byte)
  | ring (port : RingPort) (f : RingFrame)
  | arp (p : Nat) (addr : U32)
  | icmp (p : Nat)
  | snpBytes (b : List Byte)
  | pout (k : Nat) (positive : Bool) (width : Nat)
  | syncOut (time : Nat)
  | forward (port : RingPort) (f : RingFrame)
  | relay (port : Port) (origin : List Byte) (packet : List Byte)
  | canFrame (n : Nat) (xtd brs : Bool) (id : Nat) (bytes : List Byte)
  | ethFrame (f : EthFrame)
deriving DecidableEq, Repr, Inhabited

/-! ### Gate channels -/

/-- How a channel's gate is driven (R150 to R153): off is below the off-level plus 2.0 V, `tlto` at the two-level turn-off level,
`falling` under a normal turn-off, `softOff` under a soft one. -/
inductive Gate where
  | off | on | tlto | falling | softOff
deriving DecidableEq, Repr, Inhabited

/-- An island latch (R161): code, ESN, capture time, occurrence counter. -/
structure Latch where
  code : U16
  esn : Esn
  capture : Nat
  count : Nat
  detail : List Int
  /-- The primary side has learned of it; false while a lost link keeps the record in the island (R156). -/
  told : Bool
deriving DecidableEq, Repr, Inhabited

/-- One island and its channel, by the coding of Table 17.5. -/
structure Chan where
  /-- Bias present and link trained [1 bit; 01 R27, 04 R156; false DC]. -/
  present : Bool
  /-- Bias present: the island acts and its fault line works, with or without its data channel [1 bit; 01 R26, R27; false DC]. -/
  powered : Bool
  /-- The state coupler to the leg's other island is lost: the partner is treated as on [1 bit; 04 R158; false]. -/
  couplerLost : Bool
  /-- Counts as absent after F-0120 or F-0121 [1 bit; 03 R128; false]. -/
  handFail : Bool
  /-- Handshake requests missed in a row [2 bits; 03 R128; 0]. -/
  missed : Nat
  /-- Link parked while its FE domain is off [1 bit; 12 R415; false]. -/
  parked : Bool
  /-- High island Operating [1 bit; 04 Table 4.3; false]. -/
  operating : Bool
  /-- VBP has passed its UVLO release; the Bow runs [1 bit; 04 R133, R136; false]. -/
  uvloOk : Bool
  /-- VBS_WARN flag [1 bit; 04 R143; false]. -/
  warn : Bool
  /-- Island latches [codes of Table 4.8; 04 R161; none]. -/
  latches : List Latch
  /-- On command in force [1 bit; 04 R150; false]. -/
  cmd : Bool
  /-- Gate drive [5 conditions; 04 R151 to R153; off]. -/
  gate : Gate
  /-- Time at which the present condition of the gate began [64 bits; 04 R151, R152, R157; 0 DC]. -/
  gateAt : Nat
  /-- Step of device time, 156.25 ps each, of the last off command [68 bits; 05 R174, R177; 0 DC]. -/
  offAt : Nat
  /-- Miller clamp engaged [1 bit; 04 R153, 03 R100; true]. -/
  clamp : Bool
  /-- Latest VBS, VBP - COM and VBN - COM in mV [16 bits each; 04 R133, R142; 0 DC]. -/
  vbs : Int
  vbp : Int
  vbn : Int
  /-- Island hardware step, 0x00 absent [8 bits; 03 R127; 0]. -/
  step : Byte
  /-- Link delay in ns [16 bits; 03 R127; 0]. -/
  linkDly : Nat
  /-- Results of the island's latest calibration that passed the link [4 codes; 03 R127; 0 DC]. -/
  cal : IslandCal
  /-- Time of the latest on command that the overlap guard refused [64 bits; 04 R157; none]. -/
  refused : Option Nat
  /-- ISL_LINKERR [32 bits; 17 Table 17.10; 0]. -/
  linkErr : U32
  /-- The cause of a desaturation or gate-monitor latch was present at the latest DRV_EN edge [1 bit; 00 R68, 10 R370; false]. -/
  prot : Bool
  /-- F-0115 stands for this leg's low island [1 bit; 04 R140; false]. -/
  bowLoad : Bool
  /-- Latest island temperature in 0.1 degrees [16 bits; 17 Table 17.10; 0]. -/
  temp : Int
deriving DecidableEq, Repr, Inhabited

/-! ### Bridges, PWM timers and sensing -/

/-- What raised a soundpost override or a firmware request on a bridge (R30, R68): a fault code (0 for RETIRE's own request,
R232), DRV_EN, an STO demand, or a freeze. -/
inductive OvrSrc where
  | fault (code : U16)
  | drvEn | sto | freeze
deriving DecidableEq, Repr, Inhabited

/-- An override held by the soundpost. -/
structure Ovr where
  src : OvrSrc
  level : Level
  /-- Instance the cause belongs to: bridge, channel, link group, bank, sensor ... as the code needs. -/
  ix : Nat
deriving DecidableEq, Repr, Inhabited

/-- A commutation instant (R184). -/
structure Toggle where
  time : U32
  step : BitVec 4
deriving DecidableEq, Repr, Inhabited

/-- A command edge of a PWM timer (R167): its step of device time, the leg's phase, the side, on or off. -/
structure CmdEdge where
  time : Nat
  phase : Nat
  high : Bool
  on : Bool
deriving DecidableEq, Repr, Inhabited

/-- The registers of a PWM timer that exist as shadow and as active value (R170). -/
structure PwmRegs where
  /-- Compare values of legs 0 to 2, in steps, first and second half of the period (R169). -/
  cmp : List (Nat × Nat)
  /-- Compare values of the low-side requests in independent operation (R167). -/
  cmpLow : List (Nat × Nat)
  /-- Toggle instants of legs 0 to 2, at most two each. -/
  toggles : List (List Toggle)
  /-- Float windows of legs 0 to 2: the ticks at which they begin and end (R225). -/
  floats : List (List (Nat × Nat))
  sixstep : Bool
  indep : Bool
deriving DecidableEq, Repr, Inhabited

/-- Samples of one trigger (R303, R312). -/
structure Samples where
  /-- Bank A and bank B currents of U, V, W in PU18. -/
  iA : List Int
  iB : List Int
  /-- EDGE flag per phase (R186). -/
  edge : List Bool
  /-- Phase voltages in mV. -/
  vph : List Int
  /-- Ticks by which the trigger was moved (R186). -/
  moved : Nat
  time : Nat
deriving DecidableEq, Repr, Inhabited

/-- The correction of one bank converter, as the data of a peg record of kind 0x0001 hold it (R121): offset in 1/256 code, gain with
1.0 = 2^30, their temperature coefficients in 1/256 code and 0.1 ppm per K, and the temperature of the record in 0.1 degrees. -/
structure Corr where
  offset : Int
  gain : Int
  tcOffset : Int
  tcGain : Int
  temp : Int
deriving DecidableEq, Repr, Inhabited

/-- No correction: offset 0 and gain 1.0 (DC). -/
def Corr.unity : Corr := ⟨0, 2 ^ 30, 0, 0, 250⟩

/-- One bridge with its PWM timer, soundpost inputs and sensing. -/
structure Bridge where
  /-- Bridge state [3 bits; 00 R14; DISABLED]. -/
  st : BridgeState
  /-- Overrides held by the soundpost [list; 01 R30, 02 R68; none]. -/
  ovr : List Ovr
  /-- Those of them that only the rectification condition still holds [list; 09 R335; none]. -/
  rect : List Ovr
  /-- Safe state applied [2 bits; 09 R332; none]. -/
  mode : SafeMode
  /-- Selector input PMSM [1 bit; 09 R330; 0 DC]. -/
  pmsm : Bool
  /-- Selector input FAST [1 bit; 09 R330; 0 DC]. -/
  fast : Bool
  /-- Selector input CAPOH_BLOCK [1 bit; 09 R330; 0 DC]. -/
  capohBlock : Bool
  /-- Refresh-force bit [1 bit; 04 R141; 0]. -/
  refreshForce : Bool
  /-- Refresh clamp in force per leg [3 bits; 04 R143; 0]. -/
  refreshAct : List Bool
  /-- COMMIT [1 bit; 05 R170; 0]. -/
  commit : Bool
  /-- Shadow and active registers [PWM_CMPk 32 bits each; 05 R170, 17 Table 17.9; 0]. -/
  shadow : PwmRegs
  active : PwmRegs
  /-- Active carrier period and off_b in ticks [32 bits each; 17 Table 17.9; 0]. -/
  per : Nat
  ofs : Nat
  /-- On-times of each leg's high and low side in the present update interval after stages 4 to 6, in steps [model; 05 R174, R178;
  0 DC]. -/
  onHigh : List Nat
  onLow : List Nat
  /-- Request of each leg's high side and of its low side after stage 5, at the end of what is formed [6 bits; 05 R167, R174; off DC]. -/
  reqHigh : List Bool
  reqLow : List Bool
  /-- Stage-3 request of each leg's high side in six-step [3 bits; 05 R184; off DC]. -/
  sixHigh : List Bool
  /-- Command edges still to be sent, and those sent within the longest keep-out [lists; 05 R167, R174, R186; empty]. -/
  sched : List CmdEdge
  sent : List CmdEdge
  /-- A refresh was inserted, and a pulse suppressed, in the part of the carrier period formed so far [2 bits; 05 R187; false]. -/
  didRef : Bool
  didSup : Bool
  /-- MISS_CNT [8 bits; 05 R171; 0]. -/
  miss : Nat
  /-- Period boundaries that the latest commit still serves: the update intervals of its control period that have not begun
  [4 bits; 05 R172; 0 DC]. -/
  cover : Nat
  /-- Device times of the refusals of R176, and the leg of the latest [list and 5 bits; 05 R175, R176; empty and 0]. -/
  xon : List Nat
  xonLeg : Nat
  /-- Legs held off by the interlock for the period [3 bits; 05 R175; 0]. -/
  held : List Bool
  /-- Legs in a float window [3 bits; 06 R225; 0]. -/
  floating : List Bool
  /-- PWM_EVT [4 bits; 17 Table 17.9; 0]. -/
  evt : BitVec 4
  /-- Time of the last period boundary, none since BOOT [64 bits; 05 R169; none]. -/
  lastBoundary : Option Nat
  /-- The boundary of this tick found COMMIT clear, and a control period of the same tick may still set it [1 bit; 05 R171; false]. -/
  lateCommit : Bool
  /-- Time of the period boundary at which the first control period after arming starts [64 bits; 05 R172; none]. -/
  ctrlAt : Option Nat
  /-- Control periods since then that have been carried out or passed [count; 05 R172, 06 R196; 0]. -/
  ctrlIx : Nat
  /-- Latest trigger-0 samples, and the latest samples of triggers 1 to 3 [PU18; 09 R303, R305; empty DC]. -/
  smp : Samples
  smpX : List Samples
  /-- Current-sum counts of bank A and bank B [8 bits each; 09 R310; 0]. -/
  isumA : Nat
  isumB : Nat
  /-- F-0301 and F-0302 have been raised for the present run of violations [2 bits; 09 R310; false]. -/
  sumA : Bool
  sumB : Bool
  /-- VDC+ reading of the leg-0 island in mV, none without a reading [16 bits; 09 R312; none]. -/
  vdc : Option Int
  /-- The reading is marked as disagreeing, and consecutive agreements since [1 bit and a count; 09 R313; 0]. -/
  disagree : Bool
  agreeCnt : Nat
  /-- i_dc_b in PU18 [18 bits; 09 R318; 0 DC]. -/
  iDc : Int
  /-- Control periods since the last sample record [8 bits; 01 R55; 0 DC]. -/
  recCnt : Nat
  /-- Precharge pulses given, and whether pulses are still allowed [8 bits and 1; 04 R149; 0]. -/
  pulses : Nat
  pulseOk : Bool
  /-- Time of the latest precharge pulse or pluck pulse [64 bits; 04 R149, 07 R254; 0 DC]. -/
  pulseAt : Nat
  /-- Precharge is restricted to low-side pulses after F-0109 [1 bit; 04 R141; 0]. -/
  lowOnly : Bool
  /-- FE image, FE reload or island reload pending [2 bits; 16 R550; false]. -/
  feReload : Bool
  islReload : Bool
  /-- Version of the FE image that FEn runs [32 bits; 16 R550; 0]. -/
  feVersion : U32
  /-- RETIRED also stands on one leg of the bridge: leg k, or 3 for the whole bridge, none if not retired [2 bits; 14 R481; none]. -/
  retiredLeg : Option Nat
  /-- Bank A or B recalibration of converter b in progress [2 bits; 16 R558; false]. -/
  recalA : Bool
  recalB : Bool
  /-- Converter b of bank A or B failed calibration, SNS_STAT.CAL_FAIL [2 bits; 03 R126, 17 Table 17.8; false]. -/
  calFailA : Bool
  calFailB : Bool
  /-- Corrections of converter b of bank A and bank B [12 bytes each; 03 R121, R124, 16 R559; offset 0, gain 1.0, DC]. -/
  corrA : Corr
  corrB : Corr
  /-- F-0620 stands for the present override [1 bit; 09 R334; false]. -/
  shortRaised : Bool
  /-- Items of the set before the latest commit, in force until the bridge's next period boundary [list; 14 R486; none]. -/
  oldItems : Option (List (Nat × Int))
deriving DecidableEq, Repr, Inhabited

/-- One sensing bank. -/
structure SnsBank where
  /-- SNS_OCLAT, window latches of AINx00 to AINx23 [24 bits; 17 Table 17.8; 0]. -/
  oclat : BitVec 24
  /-- Outputs of the window comparators, with their hysteresis [24 bits; 09 R307; 0 DC]. -/
  outside : BitVec 24
  /-- SNS_STAT.SUP_ERR and REF_ERR [1 bit each; 17 Table 17.8; 0]. -/
  supErr : Bool
  refErr : Bool
  /-- SNS_TEST.FORCE and INPUT [1 and 5 bits; 17 Table 17.8; 0]. -/
  force : Bool
  input : BitVec 5
  /-- GEN_VAL0 to GEN_VAL7 [32 bits each; 17 Table 17.8, 09 R306; 0]. -/
  gen : List Int
deriving DecidableEq, Repr, Inhabited

/-! ### Machines -/

/-- Phase of a machine (Table 14.6). -/
inductive MPhase where
  | none | checking | catching | plucking | discharging | degraded
deriving DecidableEq, Repr, Inhabited

/-- What ramps a machine's torque to zero or to a limit. -/
inductive Ramp where
  | none
  /-- L2 orderly stop (R604), with the raising codes and the instance each belongs to. -/
  | stop (causes : List (Nat × Nat))
  /-- DISARM (R479). -/
  | disarm
  /-- RETIRE of bridge or leg: the bridge and the leg or 3 (R232). -/
  | retire (b : Nat) (leg : Nat)
  /-- Entry to STANDBY (R423). -/
  | standby
  /-- Injection unavailable (R261). -/
  | coast
deriving DecidableEq, Repr, Inhabited

/-- A reference in the machine frame: torque in PU18 of P_TQ_RATED or speed in 0.01 rpm. -/
inductive Ref where
  | none
  | torque (t : Int)
  | speed (v : Int)
deriving DecidableEq, Repr, Inhabited

/-- Roles of a field-engine rotation (R557): which bridge is out. -/
inductive Rot where
  | none | ramping | upperOut | lowerOut
deriving DecidableEq, Repr, Inhabited

/-- A position on the way through the pluck test. -/
structure Pluck where
  /-- Responses of the pulses so far, in per unit of current per Vs, in the order applied. -/
  resp : List Rat
  /-- Largest phase current sampled so far, in PU18. -/
  peak : Nat
  /-- Device time at which the pulse in progress, or the next one, begins; none until the operation is selected (R167, R254). -/
  start : Option Nat
  /-- Pulse duration in 0.5 us. -/
  halfUs : Nat
  repeated : Bool
  /-- PLUCK_TEST rather than START. -/
  testOnly : Bool
deriving DecidableEq, Repr, Inhabited

/-- What a catch window has measured (R250 to R252). -/
structure Found where
  /-- Rotor angle in ANG18 counts, speed in PU18 and phase amplitude of the back-EMF in mV. -/
  theta : Rat
  speed : Rat
  emfMv : Rat
  /-- Rate of change of the electrical frequency, in revolutions per square tick. -/
  rate : Rat
  /-- Electrical period in ticks, and device time for which the angle stands. -/
  period : Rat
  time : Nat
deriving DecidableEq, Repr, Inhabited

/-- The sensorless observer of a machine (R259). -/
structure Obs where
  /-- Stator flux in the fixed frame, per unit. -/
  psiA : Rat
  psiB : Rat
  /-- Angle in ANG18 counts and speed in per unit: the phase-locked loop. -/
  theta : Rat
  speed : Rat
  /-- q and d current of the latest control period in PU18 (injection mode). -/
  lastQ : Int
  lastD : Int
  /-- Magnitude of the active flux, per unit, and the injection response as a share of that expected (R262). -/
  active : Rat
  share : Rat
  /-- Time since which the observer has been out of its limits (R262). -/
  badSince : Option Nat
deriving DecidableEq, Repr, Inhabited

/-- Sums of the monitor pair over one window (R347, R349, R352). -/
structure MonSums where
  /-- Sum of the torque samples in per unit, and their number. -/
  sum : Rat
  n : Nat
  /-- Sum of the torques reported by the field engine in per unit, and their number (R349). -/
  setSum : Rat
  setN : Nat
  /-- Sums of the phase voltages on the d and q axes in per unit, over the same samples (R352). -/
  vd : Rat
  vq : Rat
deriving DecidableEq, Repr, Inhabited

/-- What the monitor pair holds of a machine between its evaluations (R347). -/
structure Mon where
  /-- Sums of the present window, and of the one before while its evaluation is due. -/
  cur : MonSums
  done : MonSums
  /-- Stator flux of the voltage model in the fixed frame, per unit, and the time of the sample it stands for. -/
  psiA : Rat
  psiB : Rat
  time : Option Nat
  /-- The window evaluated last, and the present one. -/
  win : Nat
  curWin : Nat
deriving DecidableEq, Repr, Inhabited

/-- What the main pair derives from a flux map (R203): the torque-to-current table, of currents in PU18 at 64 torques evenly spaced from 0 to
`top`, and the flux-limit table, of the largest torque at 64 flux limits evenly spaced from 0 to `flux`, all in per unit. -/
structure MapTables where
  top : Rat
  currents : List (Int × Int)
  flux : Rat
  torques : List Rat
deriving DecidableEq, Repr, Inhabited

/-- One machine: its commands, its field engine's loop state and its monitor state. -/
structure Mach where
  /-- Phase reported in GET_STATE [3 bits; 14 Table 14.6, 07 R239; none]. -/
  ph : MPhase
  /-- Fret count taken at the latest reference update, and the torque that the current limit leaves of tRef in per unit [6 bits and
  rational; 11 R387, R389; 0]. -/
  frets : Nat
  tLim : Rat
  /-- Time at which the start phase began [64 bits; 07 R242, R248; 0 DC]. -/
  phStart : Nat
  /-- The catch window has been extended [1 bit; 07 R251; false]. -/
  extended : Bool
  /-- Intended direction of START, +1 or -1, 0 for none [2 bits; 07 R237; 0 DC]. -/
  dir : Int
  /-- The start runs under R241, without START [1 bit; 07 R241; false]. -/
  autoStart : Bool
  /-- A refused start under R241 holds the reference until a new one [1 bit; 07 R241; false]. -/
  refBlocked : Bool
  /-- Tag of the LONG context of START, PLUCK_TEST, ARM, DISARM or RETIRE [7 bits; 13 R452; none]. -/
  tag : Option Nat
  /-- Latest reference of the host and ESN of its arrival [32 bits each; 13 R461; none]. -/
  ref : Ref
  refEsn : Esn
  /-- Place of that reference in the order of arrival [a count; 13 R461, kept by the model; 0]. -/
  refArrival : Nat
  /-- The monitor pair's copy of the latest reference of the host that has passed its MAC check [32 bits; 10 R349; none]. -/
  monRef : Ref
  /-- Setpoint session bound [3 bits; 13 R461; none]. -/
  bound : Option Nat
  /-- TIMED_OUT [1 bit; 13 R462; false]. -/
  timedOut : Bool
  /-- Time of the last accepted setpoint entry [64 bits; 13 R462; 0 DC]. -/
  spLast : Nat
  /-- An ARM waits for the monitor pair to reach point 0 [1 bit; 12 R421; false]. -/
  armWait : Bool
  /-- Ramp in progress [list of causes; 00 R604, 14 R479; none]. -/
  ramp : Ramp
  /-- Torque reference after limits in PU18 [18 bits; 01 R33; 0 DC]. -/
  tRef : Int
  /-- Speed-loop integrator in PU18 of torque [rational; 06 R201; 0 DC]. -/
  integ : Rat
  /-- Current references i_d* and i_q* in PU18 [18 bits; 06 R201; 0 DC]. -/
  idRef : Int
  iqRef : Int
  /-- Latest currents i_d, i_q, i_x, i_y in PU18 [18 bits; 06 R196, R216; 0 DC]. -/
  iD : Int
  iQ : Int
  iX : Int
  iY : Int
  /-- Integrators of the d, q, x and y loops [rational; 06 R207, R217; 0 DC]. -/
  intD : Rat
  intQ : Rat
  intX : Rat
  intY : Rat
  /-- Resonant terms of the x and y loops, two components each [rational; 06 R217; 0 DC]. -/
  resX : Rat × Rat
  resY : Rat × Rat
  /-- Outputs v_x and v_y of the x and y loops in per unit [rational; 06 R217; 0 DC]. -/
  vX : Rat
  vY : Rat
  /-- Voltage loop: the modulation index demanded in the latest control period, its integrator, and its output Δi_d or what it lowers
  the flux reference by [rational; 06 R206, R213; 0 DC]. -/
  mDem : Rat
  fwInt : Rat
  dId : Rat
  /-- Voltage references v_d*, v_q* in PU18 [18 bits; 06 R207; 0 DC]. -/
  vD : Int
  vQ : Int
  /-- The voltage vector was limited under R208 [1 bit; 06 R208; false]. -/
  vLim : Bool
  /-- m_lim in 0.0001 [16 bits; 06 R208, R220; 0 DC]. -/
  mLim : Nat
  /-- Electrical angle in use, and compensated [ANG18; 06 R197, 08 R268; 0 DC]. -/
  theta : Nat
  thetaC : Nat
  /-- Speed in PU18 of P_SPD_BASE, machine frame [18 bits; 08 R291; 0]. -/
  spd : Int
  /-- The speed is known [1 bit; 09 R330; true]. -/
  spdKnown : Bool
  /-- The observer has taken the angle of a P_ANG_SRC 2 machine [1 bit; 07 R263; false]. -/
  onObs : Bool
  /-- Observer in injection mode [1 bit; 07 R260; false]. -/
  inject : Bool
  /-- Injection amplitude ramp step, 0 to 16 [5 bits; 07 R260; 0 DC]. -/
  injRamp : Nat
  /-- Sign of the injected voltage of the latest control period [1 bit; 07 R259; negative DC]. -/
  injPos : Bool
  /-- Saliency stored under R258 in 0.001, none if none [16 bits; 07 R258; none]. -/
  saliency : Option Nat
  /-- A pluck test has passed since BOOT [1 bit; 09 R328; false]. -/
  pluckOk : Bool
  /-- Pluck test in progress [structure; 07 R254; none]. -/
  pluck : Option Pluck
  /-- Remaining angle slew in ANG18 counts [18 bits; 06 R227; 0 DC]. -/
  slew : Int
  /-- Control periods since the last change of angle source, to 21 [5 bits; 06 R210; 21 DC]. -/
  srcAge : Nat
  /-- Control periods since RUNNING was entered by lock and match: 8 while the held reference is ramped from 0, 9 afterwards
  [4 bits; 07 R252; 9 DC]. -/
  matchAge : Nat
  /-- The start's evaluation has passed, and the lock and match waits for its period boundary [1 bit; 07 R250, R252; false]. -/
  ready : Bool
  /-- Time of that evaluation, and the end of an extended catch window [64 bits each; 07 R250, R251; 0 DC]. -/
  readyAt : Nat
  extEnd : Nat
  /-- What the catch window has measured [structure; 07 R250; none]. -/
  found : Option Found
  /-- The sensorless observer [structure; 07 R259; at rest DC]. -/
  obs : Obs
  /-- The monitor pair's sums of the present window [structure; 10 R347; empty DC]. -/
  mon : Mon
  /-- Torque reference after the limits of the latest reference update in PU18, which `tRef` follows [18 bits; 06 R201; 0 DC]. -/
  tCmd : Int
  /-- The speed loop is in force [1 bit; 06 R201; false]. -/
  inSpeed : Bool
  /-- The current references were reduced to the current limit [1 bit; 06 R202, R206; false]. -/
  curLim : Bool
  /-- Zero-crossings wait for the speed to rise 1 % of base speed above their limit [1 bit; 06 R227; false]. -/
  zcLow : Bool
  /-- Rotor flux estimate in PU18, and the time the machine last left RUNNING [18 and 64 bits; 06 R212, 07 R242; 0]. -/
  psiR : Rat
  leftRun : Option Nat
  /-- Rotor flux has reached 90 % of its reference [1 bit; 06 R213; false]. -/
  fluxOk : Bool
  /-- w_slip of an induction machine in rad/s [rational; 06 R212; 0 DC]. -/
  slip : Rat
  /-- Time at which the machine entered RUNNING, from which R213 counts [64 bits; 06 R213; 0 DC]. -/
  ranAt : Nat
  /-- Codes of R210, R213, R218, R261 and R262 whose present occurrence has been recorded [list; 00 R23; empty]. -/
  raised : List Nat
  /-- Six-step: periods meeting the entry conditions, periods below P_6S_OFF, m_lim ramp step, in six-step [06 R220, R223; 0 DC]. -/
  sixIn : Nat
  sixOut : Nat
  sixRamp : Nat
  six : Bool
  /-- Angle trim and its integrator [ANG18; 06 R221; 0]. -/
  dTheta : Rat
  sixInt : Rat
  /-- Voltage angle in force [ANG18; 06 R221; 0 DC]. -/
  thetaV : Nat
  /-- Zero-crossing: consecutive valid crossings, consecutive misses, angle taken from crossings [06 R224, R226; 0 DC]. -/
  zcOk : Nat
  zcMiss : Nat
  zcAngle : Bool
  /-- Angle set by the latest valid crossing, its time, and the speed of the loop that extrapolates it in PU18 [06 R225; 0 DC]. -/
  zcTheta : Nat
  zcTime : Nat
  zcSpd : Rat
  /-- Degraded operation [1 bit; 06 R229; false]. -/
  degraded : Bool
  /-- Set whose bridge is in safe state while degraded: 0 lower, 1 upper [1 bit; 06 R230; 0 DC]. -/
  safedSet : Nat
  /-- Field-engine rotation [stage; 16 R557; none]. -/
  rot : Rot
  /-- Torque limited to 0.5 P_TQ_RATED by a RETIRE or a rotation [1 bit; 06 R232, 16 R557; false]. -/
  halfLim : Bool
  /-- Envelope registers, PU18 of torque [18 bits each; 01 R34, 10 R350; 0 DC]. -/
  envHi : Int
  envLo : Int
  /-- An envelope-clamp occurrence is in progress [1 bit; 06 R205; false]. -/
  clamped : Bool
  /-- Reduction of torque below its reference: start of the occurrence, and F-0211 recorded for it [06 R206; none]. -/
  reduced : Option Nat
  f0211 : Bool
  /-- Conditions of R210 and R218 met at the last control period, in consecutive periods [06 R210, R218; 0 DC]. -/
  trkCnt : Nat
  xyCnt : Nat
  /-- T_req of the monitor pair, speed reference magnitude in PU18 if under speed control [18 bits; 10 R349; 0 DC]. -/
  tReq : Int
  spReq : Option Int
  /-- T_mon of the latest window [18 bits; 10 R347; 0 DC]. -/
  tMon : Int
  /-- Counts of the four checks of Table 10.4 [6 bits each; 10 R351; 0]. -/
  cntDev : Nat
  cntAcc : Nat
  cntDir : Nat
  cntMod : Nat
  /-- Regenerative envelope factor in 1/5 while F-0503 ramps it down over 5 ms, 5 for unlimited [3 bits; 09 R321; 5]. -/
  regenF : Nat
  /-- Flux-map derivation pending; the map of the CSET is in use [1 bit each; 06 R203; false]. -/
  mapPending : Bool
  mapUsed : Bool
  /-- Tables that the main pair has derived from the flux map [64 points each; 06 R203; none]. -/
  tables : Option MapTables
  /-- The inter-engine data arrived in the latest control period [1 bit; 06 R199; true DC]. -/
  linkOk : Bool
  /-- Winding-discharge d-axis current ramped so far, in A [16 bits; 09 R328; 0 DC]. -/
  wdI : Nat
  /-- Items of the set before the latest commit, in force until the next control-period boundary [list; 06 R235; none]. -/
  oldItems : Option (List (Nat × Int))
  /-- Items in force at the start of a start phase, where a set has changed since: those of Table 7.4 stay in force to its end
  [list; 07 R265; none]. -/
  oldStart : Option (List (Nat × Int))
deriving DecidableEq, Repr, Inhabited

/-! ### Link groups, contactors, safety -/

/-- A discharge in progress (R325): start, the winding machine if any, and the tag of the requesting context. -/
structure Discharge where
  start : Nat
  winding : Option Nat
  tag : Option Nat
deriving DecidableEq, Repr, Inhabited

/-- One link group. -/
structure LinkGroup where
  /-- V_LG in mV, none without a reading [16 bits; 09 R313; none]. -/
  vlg : Option Int
  /-- The pair of readings disagrees, and consecutive agreements since [09 R313; false]. -/
  pairDis : Bool
  pairCnt : Nat
  /-- Chopper commanded on, and the time of the last command [1 and 64 bits; 09 R319; off]. -/
  chopOn : Bool
  chopAt : Nat
  /-- Chopper kept off by F-0503 [1 bit; 09 R321; false]. -/
  chopLock : Bool
  /-- Consecutive formations of V_LG at or above V_CH_ON, and at or below V_CH_OFF, to 2 [2 bits each; 09 Table 9.1; 0]. -/
  onRun : Nat
  offRun : Nat
  /-- Time of the latest formation of V_LG, and of the latest discharge command [64 bits each; 09 R323, R327; 0 DC]. -/
  formAt : Nat
  disAt : Nat
  /-- Resistor energy in J, and F-0506 in force [rational and 1 bit; 09 R323; 0]. -/
  energy : Rat
  energyFlag : Bool
  /-- OV_WARN and UV_LIM entered [1 bit each; 09 R316, R317; false]. -/
  ovWarn : Bool
  uvLim : Bool
  /-- Discharge in progress [structure; 09 R325; none]. -/
  dis : Option Discharge
  /-- Discharge switch on [1 bit; 09 R325; off]. -/
  disOn : Bool
  /-- Time since which V_LG has been below 50 V [64 bits; 09 R325; none]. -/
  lowAt : Option Nat
  /-- A discharge to start once the contactors of these drivers confirm open, with the tag [09 R494; none]. -/
  disWait : Option Nat
  /-- An L4 contactor-open request awaits its automatic discharge [1 bit; 09 R325; false]. -/
  autoWait : Bool
  /-- The chopper conducts without a command [1 bit; 09 R320, 10 R370; false]. -/
  conducts : Bool
  /-- F-0313 raised for the present loss of readings [1 bit; 09 R313; false]. -/
  noRead : Bool
deriving DecidableEq, Repr, Inhabited

/-- One contactor driver. -/
structure Contactor where
  /-- Commanded closed [1 bit; 10 R360, R606; off]. -/
  closed : Bool
  /-- At the economiser duty [1 bit; 10 R360; false]. -/
  econ : Bool
  /-- Time of the last command [64 bits; 10 R361; 0 DC]. -/
  since : Nat
  /-- An L4 asks for it to be opened once the monitor pair, which is halted, has restarted [1 bit; 10 R346, R362; false]. -/
  openWait : Bool
  /-- Feedback check after a command change running [1 bit; 10 R361; false]. -/
  checking : Bool
  /-- Tag of the CONTACTOR_SET waiting on it [7 bits; 14 R494; none]. -/
  tag : Option Nat
deriving DecidableEq, Repr, Inhabited

/-- An L4 lock-out (R369). -/
structure Lockout where
  esn : Esn
  code : U16
  scope : Scope
  /-- Time of an accepted LOCKOUT_CLEAR that arms the clearance (R371). -/
  armed : Option Nat
  /-- Instance that its cause belongs to, as `Ovr.ix`. -/
  ix : Nat
deriving DecidableEq, Repr, Inhabited

/-- One processor pair as the comparator and the die see it. -/
structure PairState where
  /-- Halted after a mismatch or F-0604 [1 bit; 10 R346; false]. -/
  halted : Bool
  /-- The injection test has passed since the halt [1 bit; 10 R346; true]. -/
  testOk : Bool
  /-- Group and bit of the next runtime injection [3 and 6 bits; 10 R343; 0]. -/
  injGroup : Nat
  injBit : Nat
  /-- Time of the next runtime injection, counted from the pair's release from reset [64 bits; 10 R343; 0 DC]. -/
  injAt : Nat
  /-- Sequence number last accepted and latest challenge of the die [8 bits each; 10 R364; 0 DC]. -/
  seq : Byte
  challenge : Byte
  /-- Heartbeat missed; consecutive heartbeats accepted since [10 R365; false]. -/
  missed : Bool
  good : Nat
  /-- The die has suspended the deadline [1 bit; 10 R366; false]. -/
  suspended : Bool
deriving DecidableEq, Repr, Inhabited

/-- A peg record (Table 3.8). -/
structure Peg where
  kind : U16
  inst : U16
  origin : Byte
  esn : Esn
  temp : Int
  data : List Byte
deriving DecidableEq, Repr, Inhabited

/-- Functional safety of the device. -/
structure Safety where
  /-- Demand in force per channel [1 bit each; 10 R356; false]. -/
  demA : Bool
  demB : Bool
  /-- Channel has been seen to demand, and to end its demand, since step 5 [1 bit each; 10 R358; false]. -/
  seenA : Bool
  seenB : Bool
  passA : Bool
  passB : Bool
  /-- F-0641 is still to be recorded, by the monitor pair as it restarts [1 bit; 10 R365; false]. -/
  wait641 : Bool
  /-- Number of the latest 100 us in which the monitor pair wrote FAST [model; 09 R330; 0]. -/
  fastWin : Nat
  /-- ESN of the latest demand [32 bits; 14 Table 14.12; 0 DC]. -/
  stoEsn : Esn
  /-- Lock-outs standing, oldest first [list; 10 R369; none]. -/
  locks : List Lockout
  main : PairState
  mon : PairState
  /-- Heartbeat link of core 1 of the main pair, which sends in Split mode [as `main`; 10 R364; as `main`]. -/
  main2 : PairState
  /-- CTD supply cut by the die [1 bit; 10 R365; false]. -/
  ctdCut : Bool
  /-- Supplies outside their window, in the order of Table 10.6 [5 bits; 10 R367; none]. -/
  supBad : List Bool
  /-- Domains D1 to D15 held in reset by the die [1 bit; 10 R367; false]. -/
  held : Bool
  /-- Supplies that have been below their lower limit for 1 ms and not yet back for 10 ms, in the order of Table 10.6 [5 bits; 10 R367; none]. -/
  supLow : List Bool
  /-- The present discrepancy of the STO channels has raised F-0631 [1 bit; 10 R359; false]. -/
  disc : Bool
  /-- The monitor pair's own copy of the machine parameters and of the flux-map records, and whether the CRC of the parameters
  verified at PARAM_COMMIT [copies and 1 bit; 10 R347; none, none and true, DC]. -/
  monItems : List (Nat × Int)
  monPegs : List Peg
  monCrcOk : Bool
  /-- The causes of F-0643, F-0644, F-0830 and F-0605 are present [1 bit each; 10 R368, 03 R118, R120; false]. -/
  dieBad : Bool
  diePathBad : Bool
  sramBad : Bool
  injBad : Bool
  /-- The monitor image restarts under Table 16.5 [1 bit; 16 R550; false]. -/
  monRestart : Bool
deriving DecidableEq, Repr, Inhabited

/-! ### Position feedback -/

/-- The tracking loop of an interface (R272, R273). -/
structure Track where
  /-- Latest demodulated or converted pair (SIN, COS) in mV, corrected under Table 8.1; none before the first. -/
  pair : Option (Rat × Rat)
  /-- Consecutive pairs outside the window of R274. -/
  outside : Nat
  /-- Angle in ANG18 counts and speed in ANG18 counts per us, and the device time of the latest update. -/
  theta : Rat
  speed : Rat
  time : Nat
  /-- Time since which the error has been below 1 degree. -/
  lockAt : Option Nat
  /-- Sum and number of the loop speeds in the present speed window (R288). -/
  sum : Rat
  n : Nat
deriving DecidableEq, Repr, Inhabited

/-- One position interface. Times in 10 ns are those of device time, a quarter of it. -/
structure PosIf where
  /-- Faulty [1 bit; 08 R285; false]. -/
  faulty : Bool
  /-- SPEED_VALID and ANGLE_VALID [1 bit each; 08 R270; false]. -/
  speedValid : Bool
  angleValid : Bool
  /-- Accepted levels of A and B, or of the comparators on SIN and COS, none before the first [2 bits; 08 R273, R277; none]. -/
  levels : Option (Bool × Bool)
  /-- Count of the decoder; in resolver mode of ANG18 counts [32 bits; 08 R277, R292; 0]. -/
  count : Int
  /-- Sensor angle: of the count, of the latest Hall edge, or of the tracking loop's latest update [ANG18; 08 R268; 0 DC]. -/
  theta : Nat
  /-- Tracking loop [structure; 08 R272; at rest DC]. -/
  track : Track
  /-- Direction of the last counted change, forward if none [1 bit; 08 R296; forward]. -/
  fwd : Bool
  /-- An edge has been counted since initialisation [1 bit; 08 R282; false]. -/
  moved : Bool
  /-- Speed in 0.01 rpm of the sensor's revolution, machine frame [32 bits; 08 R288; 0]. -/
  rpm100 : Int
  /-- Usable edges of the present window: count and time in 10 ns, oldest first [list; 08 R288; empty]. -/
  edges : List (Int × Nat)
  /-- Time of the last accepted edge, of the initialisation, and at which the present speed window began, in 10 ns
  [08 R288, R290; none and 0]. -/
  lastEdge : Option Nat
  initAt : Nat
  winAt : Nat
  /-- Length of the present speed window in 10 ns [20 bits; 08 R288, R302; 100,000]. -/
  winLen : Nat
  /-- Hall state from which the next change is judged, and the sector entered [3 bits each; 08 R282, R283; 0 and none, DC]. -/
  hall : BitVec 3
  sector : Option Nat
  /-- Time since which the Hall state has been 000 or 111 [64 bits; 08 R283; none]. -/
  hallBadAt : Option Nat
  /-- Consecutive index mismatches [2 bits; 08 R279; 0]. -/
  idxBad : Nat
  /-- Times of illegal or invalid events, 10 ns, newest first [list; 08 R280; empty]. -/
  bad : List Nat
  /-- Time of the latest check that failed [64 bits; 08 R287; 0 DC]. -/
  checkAt : Nat
  /-- Latched angle, speed and direction of trigger 0 [ANG18, PU18, 1 bit; 08 R271; 0 and forward, DC]. -/
  latTheta : Nat
  latSpeed : Int
  latFwd : Bool
  /-- Instant to which R186 has moved trigger 0, at which the interface latches [64 bits; 08 R271, 05 R186; none]. -/
  latchAt : Option Nat
  /-- Phase shift between excitation and return, in ANG18 counts of the excitation [18 bits; 08 R272; 0 DC]. -/
  excPhase : Nat
  /-- Consecutive excitation periods out of limits, and the current limited [2 bits and 1; 08 R276; 0]. -/
  excBad : Nat
  excLim : Bool
  /-- RETIRED [1 bit; 14 R481; false]. -/
  retired : Bool
deriving DecidableEq, Repr, Inhabited

/-- One divided output. -/
structure Pout where
  /-- Accumulator [32 bits; 08 R292; 0]. -/
  acc : Int
  /-- Queued counts, oldest first as signed runs [16-bit length; 08 R293; 0]. -/
  queue : List Bool
  /-- Counts dropped, and the queue has passed 65,535 counts since its last emission [32 and 1 bits; 08 R293; 0]. -/
  dropped : Nat
  full : Bool
  /-- Quadrature state shown in mode 1 [2 bits; 08 R293; 0 DC]. -/
  quad : BitVec 2
  /-- Level shown in modes 0 and 2, and the time of the latest pulse or state [1 and 64 bits; 08 R293, R300; low DC and none]. -/
  high : Bool
  since : Option Nat
deriving DecidableEq, Repr, Inhabited

/-- State of an angle-compare unit (Table 14.8). -/
inductive CmpState where
  | disarmed | armed | aborted
deriving DecidableEq, Repr, Inhabited

/-- One angle-compare unit. -/
structure CmpUnit where
  /-- State [2 bits; 14 Table 14.8; disarmed]. -/
  st : CmpState
  /-- Target in force, repeat form [18 and 1 bits; 08 R297; 0 DC]. -/
  target : Nat
  rep : Bool
  /-- The repeat unit waits for the re-arm distance [1 bit; 08 R297; false]. -/
  waiting : Bool
  /-- Target waiting for its load and its form [08 R295; none]. -/
  pend : Option (Nat × Bool)
  /-- A crossing detected and not yet posted: direction, angle and time [08 R294, R297; none]. -/
  hit : Option (Bool × Nat × Nat)
  /-- Latest firing: flags, ESN, time, angle, direction [08 R298; 0 DC]. -/
  late : Bool
  repFlag : Bool
  back : Bool
  esn : Esn
  time : Nat
  angle : Nat
  /-- Firings not recorded, and the end of the present 100 us [16 and 64 bits; 08 R298; 0]. -/
  unrec : Nat
  recUntil : Nat
deriving DecidableEq, Repr, Inhabited

/-! ### Thermal -/

/-- One temperature sensor; temperatures in 0.1 degrees. -/
structure Sensor where
  /-- INVALID, SUSPECT and NOVAL of TX_VALn [1 bit each; 17 Table 17.11; 0]. -/
  invalid : Bool
  suspect : Bool
  noval : Bool
  /-- FAST of TX_VALn [1 bit; 17 Table 17.11; 0]. -/
  fast : Bool
  /-- Latest reading, and the value after the cross-check [16 bits; 17 Table 17.11; 0]. -/
  reading : Int
  value : Int
  /-- The sensor has been read since BOOT, and since it was last not read [1 bit; 11 R377, R380; false]. -/
  read : Bool
  /-- Learned offset in 0.1 degrees [rational, shown in 0.01 K; 11 R384; 0]. -/
  offset : Rat
  /-- Latest deviation [11 R381; 0 DC]. -/
  dev : Rat
  /-- Consecutive deviations above P_TX_DEV, and at most P_TX_DEV - 5 K [11 R382; 0]. -/
  devOver : Nat
  devUnder : Nat
  /-- Times and values of the measurements of the last second, newest first [11 R380; empty]. -/
  hist : List (Nat × Int)
  /-- Fret count [6 bits; 11 R386; 0]. -/
  fret : Nat
  /-- Rise rule in force [1 bit; 11 R388; false]. -/
  rising : Bool
  /-- Machines for which F-0705, and F-0706, has been raised and not re-enabled [8 bits each; 11 R389; none]. -/
  f705 : List Nat
  f706 : List Nat
  /-- The same for the monitor pair's F-0706 [8 bits; 11 R390; none]. -/
  f706m : List Nat
  /-- The monitor pair's latest reading over its own path, none if it is invalid [16 bits; 11 R390; none]. -/
  own : Option Int
  /-- Times of the latest measurement, of the latest update of the offset, and of the monitor pair's latest check [64 bits each; 11 R379, R384,
  R390; none]. -/
  measAt : Option Nat
  learnAt : Option Nat
  monAt : Option Nat
deriving DecidableEq, Repr, Inhabited

/-! ### Protocol -/

/-- One open session (R448). -/
structure Session where
  /-- Host-to-module and module-to-host keys [256 bits each; 16 R546; none]. -/
  kH2M : Digest
  kM2H : Digest
  /-- H and the 64 numbers below it [32 and 64 bits; 13 R449; none]. -/
  high : U32
  seen : BitVec 64
  /-- Consecutive MAC failures [4 bits; 13 R448; 0]. -/
  macFails : Nat
  /-- Time of the last accepted request or frame [64 bits; 13 R448; none]. -/
  last : Nat
  /-- Last setpoint sequence number accepted [32 bits; 13 R459; none]. -/
  spSeq : Option U32
  /-- Live signing nonce and its issue time [128 and 64 bits; 14 R474; none]. -/
  nonce : Option (BitVec 128 × Nat)
  /-- Number of sessions opened before this one: tells it from an earlier holder of its ID [model; 13 R452; none]. -/
  gen : Nat
  /-- State sequence number of its latest state frame [32 bits; 15 Table 15.3; 0]. -/
  stSeq : U32
deriving DecidableEq, Repr, Inhabited

/-- Table 13.4. -/
inductive CtxState where
  | free | short | long | done
deriving DecidableEq, Repr, Inhabited

/-- One command context (R451). -/
structure Ctx where
  /-- State [2 bits; 13 R451; FREE]. -/
  st : CtxState
  /-- Request header, opcode and payload [13 R451; none]. -/
  hdr : Hdr
  opcode : U16
  payload : List Byte
  /-- Generation of the session that owns it, 0 without one [model; 13 R454; 0]. -/
  gen : Nat
  /-- Deadline [64 bits; 13 R452; 0]. -/
  deadline : Nat
  /-- Final reply retained [13 R451; none]. -/
  final : Option Reply
  /-- Replies are discarded because the session closed [1 bit; 13 R452; false]. -/
  mute : Bool
  /-- What the ciphertext of a SESSION_OPEN given as a row decrypts to; none where the request came as bytes [model; log entry 2; none]. -/
  plain : Option (Option (List Byte))
  /-- Origin of the request, for its replies [8 bytes; 13 R439, 15 R521; none]. -/
  origin : List Byte
  /-- Its place in the order of arrival [a count; 13 R461, kept by the model; 0]. -/
  arrival : Nat
deriving DecidableEq, Repr, Inhabited

/-- A CAN FD reassembly in progress (R442). -/
structure Reasm where
  bytes : List Byte
  next : Nat
  last : Nat
deriving DecidableEq, Repr, Inhabited

/-- The command-context unit. -/
structure Proto where
  /-- Sessions 1 to 8 [8; 13 R448; none open]. -/
  sess : List (Option Session)
  /-- Sessions opened so far [model; 13 R452; 0]. -/
  opened : Nat
  /-- Contexts 0 to 127 [128; 13 R451, R452; FREE]. -/
  ctx : List Ctx
  /-- Contexts that closed sessions left and whose tag another request has taken since, in places 128 and up [list; 13 Table 13.4; none]. -/
  left : List Ctx
  /-- Urgent and normal dispatch queues in order of arrival: places of contexts [13 R456; empty]. -/
  urgentQ : List Nat
  normalQ : List Nat
  /-- Requests and setpoint entries that have arrived, counted for their order [model; 13 R456, R461; 0]. -/
  arrivals : Nat
  /-- Packets discarded under check 1 [32 bits; 13 Table 13.3; 0 DC]. -/
  discarded : Nat
  /-- Unauthenticated requests counted per transport, and the window they belong to [13 R447; 0]. -/
  unauth : List Nat
  unauthWin : Nat
  /-- ETH_UNAUTH_DROP [32 bits; 17 Table 17.13; 0]. -/
  unauthDrop : U32
  /-- Reassemblies, by controller and device [16; 13 R442; none]. -/
  reasm : List (Option Reasm)
  /-- Setpoint entries ignored [32 bits; 13 R460; 0 DC]. -/
  spIgnored : Nat
  /-- Session, transport and origin of the latest accepted setpoint frame [15 R506; none]. -/
  spSrc : Option (Nat × Port × List Byte)
  /-- Setpoint entries stored during a handover, with their place in the order of arrival and their ESN [16 R553; empty]. -/
  stored : List (Nat × Ref × Nat × Esn)
  /-- Packets discarded because the target device cannot be reached [32 bits; 13 R444; 0 DC]. -/
  unreach : Nat
  /-- Origin of the packet that arrives now; empty otherwise [model; 13 R439; empty]. -/
  origin : List Byte
deriving DecidableEq, Repr, Inhabited

/-! ### Parameters, images, calibration, security -/

/-- An owner key entry of a PSET body (Table 16.2). -/
structure OwnerKey where
  slot : Byte
  modulus : Rsa
  exponent : U32
deriving DecidableEq, Repr, Inhabited

/-- A parameter set: serial, owner keys, and the items that it names, IDs rising (Table 16.2); every other parameter holds
its default. -/
structure PSet where
  serial : U32
  keys : List OwnerKey
  items : List (Nat × Int)
deriving DecidableEq, Repr, Inhabited

/-- Slot states of Table 16.4. -/
inductive SlotState where
  | empty | receiving | received | verified | invalid | pending | active
deriving DecidableEq, Repr, Inhabited

/-- One slot or buffer. -/
structure Slot where
  st : SlotState
  man : Manifest
  /-- The body received so far. -/
  body : List Byte
deriving DecidableEq, Repr, Inhabited

/-- Slots A and B of one class, which is marked active, and the version in force. -/
structure ClassSlots where
  a : Slot
  b : Slot
  /-- Slot B is the one marked active [1 bit; 02 R79; false]. -/
  markB : Bool
  /-- The image in force came from slot B, none if none verified [03 R106; none]. -/
  inB : Option Bool
deriving DecidableEq, Repr, Inhabited

/-- An update in progress (R489). -/
structure Update where
  session : Byte
  cls : ImgClass
  slotB : Bool
  total : Nat
deriving DecidableEq, Repr, Inhabited

/-- A main-pair handover in progress (R552): tag, time of the halt, and how it goes. -/
structure Handover where
  tag : Option Nat
  halt : Nat
  /-- The VERIFIED MAIN slot to start. -/
  slotB : Bool
  /-- F-0A21 has been raised for it (R554). -/
  late : Bool
  /-- The new image failed, with the status of the final reply; the previous slot restarts (R555). -/
  fail : Option U16
deriving DecidableEq, Repr, Inhabited

/-- The staging area (R482). -/
structure Staging where
  session : Byte
  pset : PSet
deriving DecidableEq, Repr, Inhabited

/-- An accepted commit that waits for its commit instant (R486). -/
structure Pending where
  pset : PSet
  tag : Option Nat
  slotB : Bool
  /-- It is a live activation, recorded as F-0A23 (R550). -/
  live : Bool
deriving DecidableEq, Repr, Inhabited

/-- States of an owner slot (R537). -/
inductive OwnerSlot where
  | empty | valid (hash : Digest) | revoked (hash : Digest)
deriving DecidableEq, Repr, Inhabited

/-- MRAM, fuses and what they hold. -/
structure Store where
  /-- Active parameter set [Table 16.2; 14 R485, 16 R540; factory set]. -/
  act : PSet
  /-- A PSET has verified [1 bit; 03 R109; false DC]. -/
  psetOk : Bool
  csetOk : Bool
  /-- Staging area [14 R482; none]. -/
  staging : Option Staging
  pending : Option Pending
  /-- Slots of MAIN, MON, FE, ISL, CTAB, PSET, CSET [7 x 2; 03 Table 3.2, 16 R540; buffer A of PSET and CSET factory, sealed]. -/
  slots : List ClassSlots
  upd : Option Update
  handover : Option Handover
  /-- P_CSIGN_REQ in force since the last entry to BOOT [5 bits; 16 R563; 0]. -/
  csign : Nat
  /-- Fuse counters of MAIN, MON, FE, ISL, CTAB [8 bits each; 16 R544; 0 DC]. -/
  fuses : List Nat
  /-- Owner slots 0 to 3 [16 R537, R540; empty]. -/
  owners : List OwnerSlot
  /-- Owner peg records of the CSET in force, and start-up peg records [03 R121, R122; 16 R540; none; empty DC]. -/
  owner : List Peg
  startup : List Peg
  /-- Remap tables of bridges, legs and interfaces, 0xFF for none [8, 24, 8 bytes; 16 R561, Table 16.3; none]. -/
  mapB : List Byte
  mapL : List Byte
  mapP : List Byte
  /-- Signing nonces issued so far [model; 14 R474; 0]. -/
  nonces : Nat
  /-- A CAL_RECAL in progress: target, index, tag [16 R558; none]. -/
  recal : List (Byte × Byte × Option Nat)
deriving DecidableEq, Repr, Inhabited

/-! ### Clocks and power -/

/-- The clock registers of Table 12.12 and the frequency counter of Table 12.14. -/
structure Clk where
  /-- CLK_RDY [5 bits; 12 Table 12.12; 0b01010]. -/
  rdy : BitVec 5
  /-- CLK_SEL: D0_USE, NET_REF, PWM_REF, SYS_REF [7 bits; 12 Table 12.12; 0b0010000]. -/
  sel : BitVec 7
  /-- CLK_STAT.LOCK, GATE_FORCED, CLKSW_FORCED, SWERR, COAST, ON_RC40 [12 Table 12.12; 0]. -/
  lock : BitVec 3
  gateForced : Bool
  swForced : Bool
  swErr : Bool
  coast : BitVec 3
  onRc40 : Bool
  /-- PLL_NET is stopped [1 bit; 12 Table 12.4; false DC]. -/
  netStopped : Bool
  /-- CLK_FAIL [5 bits; 12 Table 12.12; 0]. -/
  fail : BitVec 5
  /-- Sources whose failure the monitor pair has still to handle [5 bits; 12 R401; none]. -/
  nmi : List ClkSrc
  /-- The PLLs whose multiplexers switch, oldest first [3 bits; 12 R400; none]. -/
  switching : List Pll
  /-- CLK_GATE [32 bits; 12 Table 12.12; 0]. -/
  gate : U32
  /-- Gate closes deferred [32 bits; 12 R409; none]. -/
  closing : U32
  /-- CLK_REFQ, whether it has been written, CLK_LOCK [16, 1, 1 bits; 12 R397, Table 12.12; 0x03E8, 0, 0]. -/
  refq : U16
  refqWritten : Bool
  locked : Bool
  /-- FM_CTL.REF_SEL and IN_SEL, FM_GATE, FM_STAT, FM_NIN, FM_NREF, FM_PPM [12 Table 12.14; 0, 0, 25,000, 0, 0, 0, 0]. -/
  fmRef : BitVec 3
  fmIn : BitVec 4
  fmGate : U32
  fmOvf : Bool
  fmSrcOff : Bool
  fmErr : Bool
  fmDone : Bool
  fmBusy : Bool
  fmNin : U32
  fmNref : U32
  fmPpm : U32
  /-- Tag of the FREQ_MEASURE running [12 R406; none]. -/
  fmTag : Option Nat
deriving DecidableEq, Repr, Inhabited

/-- State of a power domain (Table 12.13). -/
inductive DomState where
  | on | ret | off
deriving DecidableEq, Repr, Inhabited

/-- One power domain. -/
structure Dom where
  /-- DOM_CTLn.REQ and DOM_STATn.STATE [2 bits each; 12 Table 12.13; off, on for D0]. -/
  req : DomState
  st : DomState
  /-- ILK_REFUSED, WAKE_FAIL, TRIES, RET_CRC_ERR, BUSY [12 Table 12.13; 0]. -/
  ilk : Bool
  wakeFail : Bool
  tries : Nat
  crcErr : Bool
  busy : Bool
  /-- The last attempt missed its deadline and was forced off [1 bit; 12 R427; false]. -/
  forcedOff : Bool
  /-- Retention data held in D0 [12 R416; none]. -/
  saved : Bool
deriving DecidableEq, Repr, Inhabited

/-- Entry to STANDBY in progress (R423): the step it has reached, and whether it waits under R424. -/
structure SbyEntry where
  step : Nat
  listening : Bool
  waiting : Bool
deriving DecidableEq, Repr, Inhabited

/-- Power domains, operating points, standby and wake. -/
structure Pwr where
  doms : List Dom
  /-- Hold time of D5 in 10 ms units while it is off under one [16 bits; 12 R412; none]. -/
  d5Hold : Option Nat
  /-- OP_POINT: MON_CUR, MON_REQ, MAIN_CUR, MAIN_REQ [12 Table 12.13; 0]. -/
  monCur : Nat
  monReq : Nat
  mainCur : Nat
  mainReq : Nat
  /-- OP_STAT: CAPPED, OVERRUN, BUSY per pair [12 Table 12.13; 0]. -/
  capped : Bool
  overrun : Bool
  busyMain : Bool
  busyMon : Bool
  /-- Targets of the transitions in progress and requests waiting [12 R420; none]. -/
  tgtMain : Nat
  tgtMon : Nat
  waitMain : Option Nat
  waitMon : Option Nat
  /-- WAKE_CTL: DEPTH_NEXT, CAN_WAKE, RTC [12 Table 12.13; 0]. -/
  depthNext : Bool
  canWake : BitVec 2
  rtcArmed : Bool
  /-- WAKE_CAUSE [5 bits; 12 Table 12.13; 0]. -/
  cause : BitVec 5
  /-- RET_BANKS, RTC_ALM [16, 48 bits; 12 Table 12.13; 0]. -/
  retBanks : U16
  alarm : BitVec 48
  /-- Entry to STANDBY in progress, or pending during start-up [12 R423, 03 R102; none]. -/
  sby : Option SbyEntry
  sbyPending : Bool
  /-- Depth of the STANDBY in force is listening [1 bit; 12 R422; deep]. -/
  listening : Bool
  /-- Lock-outs saved at entry to STANDBY or hold-up [12 R423; none]. -/
  saved : List Lockout
  /-- Wake-frame items in force since the last entry to STANDBY [list; 15 R509; empty DC]. -/
  wuf : List (Nat × Int)
  /-- F-0803 held in the D0 retention SRAM while D4 is not on: domain and device time [12 R427; none]. -/
  held : List (Nat × Nat)
  /-- KL30 lost, and the loss confirmed [1 bit each; 18 R587; false]. -/
  kl30Lost : Bool
  kl30Conf : Bool
deriving DecidableEq, Repr, Inhabited

/-! ### Networks and cascade -/

/-- One receive buffer with its shadow (R504): frames stored, at most two. -/
structure RxBuf where
  frames : List (Nat × List Byte)
deriving DecidableEq, Repr, Inhabited

/-- One CAN controller. -/
structure CanCtl where
  /-- CAN_STAT: REC, TEC, SLEEP, BUSOFF, PASSIVE [8, 8, 1, 1, 1 bits; 17 Table 17.12; 0, 0, 1, 0, 0]. -/
  recv : Nat
  tec : Nat
  sleep : Bool
  busOff : Bool
  passive : Bool
  /-- CAN_DROP, CAN_DISC.REASM, CAN_DISC.CLASSIC, CAN_BUSOFF_CNT [17 Table 17.12; 0]. -/
  drop : Nat
  disc : Nat
  classic : Nat
  busOffCnt : Nat
  /-- CAN_TXFAIL: LOST_ARB, TX_ERR [1 bit each; 17 Table 17.12; 0]. -/
  lostArb : Bool
  txErr : Bool
  /-- Receive buffers 0 to 15 [15 Table 15.2; empty]. -/
  rx : List RxBuf
  /-- Next of the alternating buffers to store into, per identifier [15 R505; lower]. -/
  alt : List Bool
  /-- Split termination switched in [1 bit; 15 R502; false]. -/
  term : Bool
  /-- Segments sent of the reply in each of the buffers 16 to 19 [15 Table 15.2, 13 R443; 0]. -/
  seg : List Nat
  /-- State frame waiting in buffer 20, with its device index [15 R507; none]. -/
  shot : Option (Nat × List Byte)
  /-- Frames stored so far: gives each its place in the order of arrival [a count; 15 R505, kept by the model; 0]. -/
  arrived : Nat
  /-- Bit timing of the nominal and of the data phase: quanta of a bit, and the quantum of its sample point [15 R500; 0 DC]. -/
  nominal : Nat × Nat
  dataPh : Nat × Nat
deriving DecidableEq, Repr, Inhabited

/-- One Ethernet port. -/
structure EthPort where
  /-- ETH_STATp.LINK [1 bit; 17 Table 17.13; 0]. -/
  link : Bool
  /-- Device time at which the latest gated frame of the module ends on the port [model; 15 R517; 0]. -/
  busy : Nat
  /-- ETH_RXp, ETH_DISCp, ETH_DOWNp [32 bits each; 17 Table 17.13; 0]. -/
  rx : Nat
  disc : Nat
  down : Nat
deriving DecidableEq, Repr, Inhabited

/-- One ring port. -/
structure RingP where
  /-- Link down under R529 [1 bit; 15 R529; false DC]. -/
  down : Bool
  /-- Link delay in 156.25 ps steps [32 bits; 15 R524; 0 DC]. -/
  delay : Nat
  /-- Ring state in the latest LINK frame of the neighbour on this port [2 bits; 15 Table 15.6; 0 DC]. -/
  seen : Nat
  /-- Device time of the latest LINK frame, and frames in a row with a CRC error [64, 8 bits; 15 R529; 0 DC]. -/
  linkAt : Nat
  crcBad : Nat
  /-- Device time of the latest DELAY_REQ sent [64 bits; 15 Table 15.6; none]. -/
  reqAt : Option Nat
deriving DecidableEq, Repr, Inhabited

/-- What is known of another device of the cascade. -/
structure Remote where
  /-- Flags in its latest FAULT frame, and in the latest FAULT_SUM [4 bits each; 15 R526; 0]. -/
  flags : BitVec 4
  sum : BitVec 4
  /-- Heard since BOOT, and lost under R530 [1 bit each; 15 R530; false]. -/
  heard : Bool
  lost : Bool
  /-- Sequence numbers acted on lately, by frame type 0x01 to 0x07, newest first [8 bits each; 15 R522; none]. -/
  seqs : List (List Byte)
  /-- Device time of the latest frame from it [64 bits; 15 R530; 0 DC]. -/
  seenAt : Nat
deriving DecidableEq, Repr, Inhabited

/-- A datagram of which fragments have come (R439): its port, source and identification, the fragments by their offset, its length once
the last fragment has come, and the time of the first one. -/
structure FragSet where
  eth : Nat
  src : U32
  ident : U16
  parts : List (Nat × List Byte)
  size : Option Nat
  since : Nat
deriving DecidableEq, Repr, Inhabited

/-- Networks, cascade ring and synchronisation. -/
structure Net where
  can : List CanCtl
  eth : List EthPort
  /-- Replies queued in the buffers 16 to 19 of each CAN controller, whole packets, oldest first: buffer 16 + `d` of controller `n` at
  4 `n` + `d` [15 R501, Table 15.2, 13 R443; none]. -/
  canTx : List (List (List Byte))
  /-- Frames of the module that wait for the gate of their class on a gated port, oldest first [list; 15 R517; none]. -/
  egress : List EthFrame
  /-- Device time of the latest state frame due, periodic ring frames and LINK frames [64 bits; 15 R506, Table 15.6; none]. -/
  stAt : Option Nat
  ringAt : Option Nat
  lkAt : Option Nat
  /-- Fragmented datagrams being reassembled, oldest first [list; 13 R439; none]. -/
  frags : List FragSet
  /-- ETH_DEV.GPTP_SYNC, ETH_DEV.QBV_ACTIVE, ETH_GPTP_OFS [17 Table 17.13; 0]. -/
  gptpSync : Bool
  qbv : Bool
  gptpOfs : Int
  /-- Gate list to load at the next cycle start; start of the present cycle [15 R518; none]. -/
  qbvStart : Nat
  /-- Gate list in force: gates and interval in us of each entry, and the ports gated [64 entries, 3 bits; 15 R516, R518; none]. -/
  gcl : List (Nat × Nat)
  gclPorts : Nat
  /-- ICMP replies sent in the present second, and the second [15 R510; 0]. -/
  icmpCnt : Nat
  icmpWin : Nat
  rin : RingP
  rout : RingP
  /-- Devices 0 to 3 as heard on the ring [15 R526, R530]. -/
  rem : List Remote
  /-- Chain ends as last reported [4 bits; 15 R529; none]. -/
  ends : BitVec 4
  /-- F-0B02 recorded for the present chain [1 bit; 15 R529; false]. -/
  chainRec : Bool
  /-- Own sequence number per frame type 0x01 to 0x07 [8 bits each; 15 Table 15.5; 0]. -/
  seqs : List Byte
  /-- Type, sequence and time of the frames sent within the last 1 ms [list; 15 R531; empty]. -/
  sentLog : List (Byte × Byte × Nat)
  /-- Cause of F-0B06 present [1 bit; 15 R531; false]. -/
  conflict : Bool
  /-- Own FAULT flags last sent [4 bits; 15 R526; 0]. -/
  sent : BitVec 4
  /-- Master lost, and the time since which TIME frames have arrived without a gap [15 R532; false]. -/
  noMaster : Bool
  timeSince : Nat
  lastTime : Nat
  /-- Offset to master time in 0.1 ns, last SYNC difference in 0.1 ns [32 and 16 bits; 14 Table 14.11; 0 DC]. -/
  ofs : Int
  syncDiff : Int
  /-- Remaining slew of device time in ticks [01 R43; 0]. -/
  slew : Int
  /-- PWM epoch E in 156.25 ps steps, and a correction for the next boundary [05 R188, R189; 0]. -/
  epoch : Int
  epochFix : Int
  /-- F-0204 stands [1 bit; 05 R190; false DC]. -/
  syncLost : Bool
deriving DecidableEq, Repr, Inhabited

/-! ### Device -/

/-- Corrections of the temperature compensation, in the units of their peg records (R129, R392): crystal, RC oscillators, bank
references. -/
structure Comp where
  xtal : Int
  rc : Int
  refA : Int
  refB : Int
deriving DecidableEq, Repr, Inhabited

/-- The device as a whole. -/
structure Dev where
  /-- Phase [3 bits; 00 R13; OFF]. -/
  ph : Phase
  /-- An entry to BOOT has been caused and its sequence has not yet run [03 R97; none]. -/
  bootCause : Option BootCause
  /-- Power-up from OFF since which no BOOT has run [1 bit; 18 R590; true DC]. -/
  fromOff : Bool
  /-- Start-up step reached [4 bits; 14 Table 14.6; 0 DC]. -/
  step : Nat
  /-- Start-up halted under R428 at this step [4 bits; 12 R428; none]. -/
  halted : Option Nat
  /-- Step 9 has driven READY since the last entry to BOOT [1 bit; 02 R72; false]. -/
  ready9 : Bool
  /-- Service reasons found at start-up, in the order of R115 [03 R115; none]. -/
  reasons : List StartReason
  /-- SERVICE entered by command [1 bit; 14 R476; false]. -/
  commanded : Bool
  /-- Split mode in force [1 bit; 01 R46; Integrity]. -/
  split : Bool
  /-- Straps CORE_MODE, BOOT_SEL, CASC_ID1, CASC_ID0 as read [4 bits; 02 R77; 1 DC]. -/
  coreStrap : Bool
  bootStrap : Bool
  casc1 : Bool
  casc0 : Bool
  /-- The recovery loader runs [1 bit; 03 R107; false]. -/
  recovery : Bool
  /-- The monitor pair runs its image [1 bit; 03 R107; false DC]. -/
  monRuns : Bool
  /-- RTC count at which an accepted RESET enters BOOT [14 R477; none]. -/
  resetAt : Option Nat
  /-- What this start-up measured for the start-up records of kind 0x0006, and of kind 0x0007 for banks A and B [data; 03 R122, 11 R392;
  none]. -/
  startPegs : List (List Byte)
  /-- Items of the set before the latest commit, whose class and device items of Table 11.5 stay in force until the next measurement [list;
  11 R394; none]. -/
  oldThermal : Option (List (Nat × Int))
  /-- Die temperature last outside the crystal table; corrections in force from a completed compensation [11 R392; false DC]. -/
  compLate : Bool
  /-- Corrections in force from the latest compensation [4 x 32 bits; 03 R129, 11 R392; 0 DC]. -/
  comp : Comp
  /-- Time of the latest compensation since BOOT, and F-0711 raised since [64 and 1 bits; 11 R392; none]. -/
  compAt : Option Nat
  compTold : Bool
  /-- F-0804's cause, F-0805's cause [12 R403; false]. -/
  severe : Bool
  /-- SNS supply or reference fault of a bank, bank reference drift [09 R311; false]. -/
  supplyA : Bool
  supplyB : Bool
  driftA : Bool
  driftB : Bool
deriving DecidableEq, Repr, Inhabited

/-- The FDM-4816. -/
structure State where
  pins : Pins
  dev : Dev
  time : Time
  recd : Rec
  chans : List Chan
  bridges : List Bridge
  bankA : SnsBank
  bankB : SnsBank
  machs : List Mach
  lgs : List LinkGroup
  ctds : List Contactor
  safety : Safety
  pos : List PosIf
  pouts : List Pout
  cmps : List CmpUnit
  temps : List Sensor
  proto : Proto
  store : Store
  clk : Clk
  pwr : Pwr
  net : Net
  /-- What the module has sent, oldest first [model; log entry 4; empty]. -/
  out : List Output
  /-- Commands waiting, first in first out [model; the block's queue; empty]. -/
  pending : List Instr
deriving DecidableEq, Repr

/-- Why a command stops the model. -/
inductive Fault where
  /-- Raised by a meaning whose operand lists do not have the length that the command's form gives them (an ill-formed
  command, which `Instr.wf` refuses). Safe: no hardware sends such a command. -/
  | illFormed (what : String)
deriving DecidableEq, Repr

/-- Why a command is refused by the model. -/
inductive Refusal where
  /-- Raised only by `exec`'s arm of a command that has no meaning yet. Safe. -/
  | notModelled (mnemonic : String)
deriving DecidableEq, Repr

/-! ### The state right after reset: the module as delivered, with no supply (R540, R590; log entry 1) -/

/-- The factory parameter set: no owner key, every parameter at its default (R540). -/
def PSet.factory : PSet where
  serial := 0
  keys := []
  items := []

/-- The body of a parameter set without items or keys (Table 16.2). -/
def factoryPsetBody : List Byte := zeros 8

/-- The body of the preloaded compatibility table: one entry that names the preloaded images (Tables 3.4 and 3.5). -/
def preloadCtab : List Byte :=
  beBytes 4 (Config.preloadVersion 4).toNat ++ beBytes 2 1 ++ zeros 10 ++
  beBytes 4 (Config.preloadVersion 0).toNat ++ beBytes 4 (Config.preloadVersion 1).toNat ++
  beBytes 4 (Config.preloadVersion 2).toNat ++ beBytes 4 (Config.preloadVersion 3).toNat ++
  [0x21, 0x21, 0x20, 0x21] ++ zeros 4

/-- The body of a preloaded image of class index `i`. -/
def preloadBody (i : Nat) : List Byte := if i = 4 then preloadCtab else Config.preloadBody i

/-- A manifest without signatures. -/
def bareManifest (cls : U16) (version : U32) (dev isl : Byte × Byte) (body : List Byte) : Manifest where
  cls := cls
  format := 1
  version := version
  rollback := 0
  devMin := dev.1
  devMax := dev.2
  islMin := isl.1
  islMax := isl.2
  reserved := 0
  peerMain := 0
  peerMon := 0
  peerFe := 0
  peerIsl := 0
  peerCtab := 0
  bodyLen := BitVec.ofNat 32 body.length
  bodyDigest := Config.sha256 body
  vendorSig := 0
  ownerSig := 0

/-- An empty slot. -/
def Slot.empty : Slot where
  st := .empty
  man := bareManifest 0 0 (0, 0) (0, 0) []
  body := []

/-- Slot A of a preloaded image: vendor-signed and active. -/
def preloadSlot (c : ImgClass) : Slot where
  st := .active
  man :=
    let m := bareManifest (classCode c) (Config.preloadVersion (classIx c)) (0x20, 0x21) (0x20, 0x21)
      (preloadBody (classIx c))
    { m with vendorSig := Config.rsaSignature Config.vendorModulus (manifestDigest m) }
  body := preloadBody (classIx c)

/-- Buffer A of a factory data set: sealed and active (R540, R542). -/
def factorySlot (c : ImgClass) (body : List Byte) : Slot where
  st := .active
  man :=
    let m := bareManifest (classCode c) 0 (0, 0) (0, 0) body
    { m with ownerSig := sealField m }
  body := body

/-- The two slots of a class with only slot A filled. -/
def slotsOf (a : Slot) : ClassSlots where
  a := a
  b := Slot.empty
  markB := false
  inB := none

/-- The seven classes as delivered. -/
def preloadSlots : List ClassSlots :=
  [slotsOf (preloadSlot .main), slotsOf (preloadSlot .mon), slotsOf (preloadSlot .fe), slotsOf (preloadSlot .isl),
   slotsOf (preloadSlot .ctab), slotsOf (factorySlot .pset factoryPsetBody), slotsOf (factorySlot .cset [])]

/-- Time right after reset. -/
def Time.reset : Time where
  dev := 0
  running := false
  esn := 0
  rtc := 0
  d0Phase := 0
  rtcAtHold := 0
  free := 0

/-- Rec right after reset. -/
def Rec.reset : Rec where
  buf := []
  events := []
  samples := []
  newest := none
  sdrop := 0
  evovw := 0
  entOvw := 0
  sampleEn := true
  postHold := false
  postEnd := none
  rate := []
  esnL34 := 0
  esnLatest := 0
  trend := List.replicate 128 []
  trendStart := List.replicate 128 0
  trendAcc := List.replicate 128 ⟨0, 0, 0, 0⟩
  snapValid := false
  snapImage := []
  snapEsn := 0
  snapTime := 0
  snapEvents := []
  snapPending := false
  freezeMask := 0
  freezePin := false
  freezeOpcode := false
  watcher := List.replicate 8 false
  kl05 := false

/-- Pins right after reset. -/
def Pins.reset : Pins where
  kl30 := false
  kl15 := false
  keep := false
  drvEn := false
  stoA := false
  stoB := false
  cfb := 0
  tap := 0
  cells := List.replicate 56 false

/-- Chan right after reset. -/
def Chan.reset : Chan where
  present := false
  powered := false
  couplerLost := false
  handFail := false
  missed := 0
  parked := false
  operating := false
  uvloOk := false
  warn := false
  latches := []
  cmd := false
  gate := .off
  gateAt := 0
  offAt := 0
  clamp := true
  vbs := 0
  vbp := 0
  vbn := 0
  step := 0
  linkDly := 0
  cal := ⟨0, 0, 0, 0⟩
  refused := none
  linkErr := 0
  prot := false
  bowLoad := false
  temp := 0

/-- PwmRegs right after reset. -/
def PwmRegs.reset : PwmRegs where
  cmp := [(0, 0), (0, 0), (0, 0)]
  cmpLow := [(0, 0), (0, 0), (0, 0)]
  toggles := [[], [], []]
  floats := [[], [], []]
  sixstep := false
  indep := false

/-- Samples right after reset. -/
def Samples.reset : Samples where
  iA := [0, 0, 0]
  iB := [0, 0, 0]
  edge := [false, false, false]
  vph := [0, 0, 0]
  moved := 0
  time := 0

/-- Bridge right after reset. -/
def Bridge.reset : Bridge where
  st := .disabled
  ovr := []
  rect := []
  mode := .none
  pmsm := false
  fast := false
  capohBlock := false
  refreshForce := false
  refreshAct := [false, false, false]
  commit := false
  shadow := PwmRegs.reset
  active := PwmRegs.reset
  per := 0
  ofs := 0
  onHigh := [0, 0, 0]
  onLow := [0, 0, 0]
  reqHigh := [false, false, false]
  reqLow := [false, false, false]
  sixHigh := [false, false, false]
  sched := []
  sent := []
  didRef := false
  didSup := false
  miss := 0
  cover := 0
  xon := []
  xonLeg := 0
  held := [false, false, false]
  floating := [false, false, false]
  evt := 0
  lastBoundary := none
  lateCommit := false
  ctrlAt := none
  ctrlIx := 0
  smp := Samples.reset
  smpX := List.replicate 3 Samples.reset
  isumA := 0
  isumB := 0
  sumA := false
  sumB := false
  vdc := none
  disagree := false
  agreeCnt := 0
  iDc := 0
  recCnt := 0
  pulses := 0
  pulseOk := false
  pulseAt := 0
  lowOnly := false
  feReload := false
  islReload := false
  feVersion := 0
  retiredLeg := none
  recalA := false
  recalB := false
  calFailA := false
  calFailB := false
  corrA := Corr.unity
  corrB := Corr.unity
  shortRaised := false
  oldItems := none

/-- SnsBank right after reset. -/
def SnsBank.reset : SnsBank where
  oclat := 0
  outside := 0
  supErr := false
  refErr := false
  force := false
  input := 0
  gen := List.replicate 8 0

/-- The observer at rest. -/
def Obs.reset : Obs where
  psiA := 0
  psiB := 0
  theta := 0
  speed := 0
  lastQ := 0
  lastD := 0
  active := 0
  share := 1
  badSince := none

/-- No sample and no report yet. -/
def MonSums.none : MonSums where
  sum := 0
  n := 0
  setSum := 0
  setN := 0
  vd := 0
  vq := 0

/-- The monitor pair before its first sample. -/
def Mon.reset : Mon where
  cur := MonSums.none
  done := MonSums.none
  psiA := 0
  psiB := 0
  time := none
  win := 0
  curWin := 0

/-- Mach right after reset. -/
def Mach.reset : Mach where
  ph := .none
  frets := 0
  tLim := 0
  phStart := 0
  extended := false
  dir := 0
  autoStart := false
  refBlocked := false
  tag := none
  ref := .none
  refEsn := 0
  refArrival := 0
  monRef := .none
  bound := none
  timedOut := false
  spLast := 0
  armWait := false
  ramp := .none
  tRef := 0
  integ := 0
  idRef := 0
  iqRef := 0
  iD := 0
  iQ := 0
  iX := 0
  iY := 0
  intD := 0
  intQ := 0
  intX := 0
  intY := 0
  resX := (0, 0)
  resY := (0, 0)
  vX := 0
  vY := 0
  mDem := 0
  fwInt := 0
  dId := 0
  vD := 0
  vQ := 0
  vLim := false
  mLim := 0
  theta := 0
  thetaC := 0
  spd := 0
  spdKnown := true
  onObs := false
  inject := false
  injRamp := 0
  injPos := false
  saliency := none
  pluckOk := false
  pluck := none
  slew := 0
  srcAge := 21
  matchAge := 9
  ready := false
  readyAt := 0
  extEnd := 0
  found := none
  obs := Obs.reset
  mon := Mon.reset
  tCmd := 0
  inSpeed := false
  curLim := false
  zcLow := false
  psiR := 0
  leftRun := none
  fluxOk := false
  slip := 0
  ranAt := 0
  raised := []
  sixIn := 0
  sixOut := 0
  sixRamp := 0
  six := false
  dTheta := 0
  sixInt := 0
  thetaV := 0
  zcOk := 0
  zcMiss := 0
  zcAngle := false
  zcTheta := 0
  zcTime := 0
  zcSpd := 0
  degraded := false
  safedSet := 0
  rot := .none
  halfLim := false
  envHi := 0
  envLo := 0
  clamped := false
  reduced := none
  f0211 := false
  trkCnt := 0
  xyCnt := 0
  tReq := 0
  spReq := none
  tMon := 0
  cntDev := 0
  cntAcc := 0
  cntDir := 0
  cntMod := 0
  regenF := 5
  mapPending := false
  mapUsed := false
  tables := none
  linkOk := true
  wdI := 0
  oldItems := none
  oldStart := none

/-- LinkGroup right after reset. -/
def LinkGroup.reset : LinkGroup where
  vlg := none
  pairDis := false
  pairCnt := 0
  chopOn := false
  chopAt := 0
  chopLock := false
  onRun := 0
  offRun := 0
  formAt := 0
  disAt := 0
  energy := 0
  energyFlag := false
  ovWarn := false
  uvLim := false
  dis := none
  disOn := false
  lowAt := none
  disWait := none
  autoWait := false
  conducts := false
  noRead := false

/-- Contactor right after reset. -/
def Contactor.reset : Contactor where
  closed := false
  econ := false
  since := 0
  openWait := false
  checking := false
  tag := none

/-- PairState right after reset. -/
def PairState.reset : PairState where
  halted := false
  testOk := true
  injGroup := 0
  injBit := 0
  injAt := 0
  seq := 0
  challenge := 0
  missed := false
  good := 0
  suspended := false

/-- Safety right after reset. -/
def Safety.reset : Safety where
  demA := false
  demB := false
  seenA := false
  seenB := false
  passA := false
  passB := false
  wait641 := false
  fastWin := 0
  stoEsn := 0
  locks := []
  main := PairState.reset
  mon := PairState.reset
  main2 := PairState.reset
  ctdCut := false
  supBad := List.replicate 5 false
  held := false
  supLow := List.replicate 5 false
  disc := false
  monItems := []
  monPegs := []
  monCrcOk := true
  dieBad := false
  diePathBad := false
  sramBad := false
  injBad := false
  monRestart := false

/-- Track right after reset. -/
def Track.reset : Track where
  pair := none
  outside := 0
  theta := 0
  speed := 0
  time := 0
  lockAt := none
  sum := 0
  n := 0

/-- PosIf right after reset. -/
def PosIf.reset : PosIf where
  faulty := false
  speedValid := false
  angleValid := false
  count := 0
  theta := 0
  track := Track.reset
  levels := none
  fwd := true
  moved := false
  rpm100 := 0
  edges := []
  lastEdge := none
  initAt := 0
  winAt := 0
  winLen := 100000
  hall := 0
  sector := none
  hallBadAt := none
  idxBad := 0
  bad := []
  checkAt := 0
  latTheta := 0
  latSpeed := 0
  latFwd := true
  latchAt := none
  excPhase := 0
  excBad := 0
  excLim := false
  retired := false

/-- Pout right after reset. -/
def Pout.reset : Pout where
  acc := 0
  queue := []
  dropped := 0
  full := false
  quad := 0
  high := false
  since := none

/-- CmpUnit right after reset. -/
def CmpUnit.reset : CmpUnit where
  st := .disarmed
  target := 0
  rep := false
  waiting := false
  pend := none
  hit := none
  late := false
  repFlag := false
  back := false
  esn := 0
  time := 0
  angle := 0
  unrec := 0
  recUntil := 0

/-- Sensor right after reset. -/
def Sensor.reset : Sensor where
  invalid := false
  suspect := false
  noval := false
  fast := false
  reading := 0
  value := 0
  read := false
  offset := 0
  dev := 0
  devOver := 0
  devUnder := 0
  hist := []
  fret := 0
  rising := false
  f705 := []
  f706 := []
  f706m := []
  own := none
  measAt := none
  learnAt := none
  monAt := none

/-- Ctx right after reset. -/
def Ctx.reset : Ctx where
  st := .free
  hdr := ⟨0, 0, 0, false, false, .eth0⟩
  opcode := 0
  payload := []
  gen := 0
  deadline := 0
  final := none
  mute := false
  plain := none
  origin := []
  arrival := 0

/-- Proto right after reset. -/
def Proto.reset : Proto where
  sess := List.replicate 8 none
  opened := 0
  ctx := List.replicate 128 Ctx.reset
  left := []
  urgentQ := []
  normalQ := []
  arrivals := 0
  discarded := 0
  unauth := List.replicate 8 0
  unauthWin := 0
  unauthDrop := 0
  reasm := List.replicate 16 none
  spIgnored := 0
  spSrc := none
  stored := []
  unreach := 0
  origin := []

/-- Store right after reset. -/
def Store.reset : Store where
  act := PSet.factory
  psetOk := false
  csetOk := false
  staging := none
  pending := none
  slots := preloadSlots
  upd := none
  handover := none
  csign := 0
  fuses := [0, 0, 0, 0, 0]
  owners := List.replicate 4 .empty
  owner := []
  startup := []
  mapB := List.replicate 8 0xFF
  mapL := List.replicate 24 0xFF
  mapP := List.replicate 8 0xFF
  nonces := 0
  recal := []

/-- Clk right after reset. -/
def Clk.reset : Clk where
  rdy := 0b01010
  sel := 0b0010000
  lock := 0
  gateForced := false
  swForced := false
  swErr := false
  coast := 0
  onRc40 := false
  netStopped := false
  fail := 0
  nmi := []
  switching := []
  gate := 0
  closing := 0
  refq := 0x03E8
  refqWritten := false
  locked := false
  fmRef := 0
  fmIn := 0
  fmGate := 25000
  fmOvf := false
  fmSrcOff := false
  fmErr := false
  fmDone := false
  fmBusy := false
  fmNin := 0
  fmNref := 0
  fmPpm := 0
  fmTag := none

/-- Dom right after reset. -/
def Dom.reset : Dom where
  req := .off
  st := .off
  ilk := false
  wakeFail := false
  tries := 0
  crcErr := false
  busy := false
  forcedOff := false
  saved := false

/-- Pwr right after reset. -/
def Pwr.reset : Pwr where
  doms := { Dom.reset with req := .on, st := .on } :: List.replicate 15 Dom.reset
  d5Hold := none
  monCur := 0
  monReq := 0
  mainCur := 0
  mainReq := 0
  capped := false
  overrun := false
  busyMain := false
  busyMon := false
  tgtMain := 0
  tgtMon := 0
  waitMain := none
  waitMon := none
  depthNext := false
  canWake := 0
  rtcArmed := false
  cause := 0
  retBanks := 0
  alarm := 0
  sby := none
  sbyPending := false
  listening := false
  saved := []
  wuf := []
  held := []
  kl30Lost := false
  kl30Conf := false

/-- CanCtl right after reset. -/
def CanCtl.reset : CanCtl where
  recv := 0
  tec := 0
  sleep := true
  busOff := false
  passive := false
  drop := 0
  disc := 0
  classic := 0
  busOffCnt := 0
  lostArb := false
  txErr := false
  rx := List.replicate 16 ⟨[]⟩
  alt := List.replicate 8 false
  term := false
  seg := List.replicate 4 0
  shot := none
  arrived := 0
  nominal := (0, 0)
  dataPh := (0, 0)

/-- EthPort right after reset. -/
def EthPort.reset : EthPort where
  link := false
  busy := 0
  rx := 0
  disc := 0
  down := 0

/-- RingP right after reset. -/
def RingP.reset : RingP where
  down := false
  delay := 0
  seen := 0
  linkAt := 0
  crcBad := 0
  reqAt := none

/-- Remote right after reset. -/
def Remote.reset : Remote where
  flags := 0
  sum := 0
  heard := false
  lost := false
  seqs := List.replicate 7 []
  seenAt := 0

/-- Net right after reset. -/
def Net.reset : Net where
  can := List.replicate 4 CanCtl.reset
  eth := List.replicate 3 EthPort.reset
  canTx := List.replicate 16 []
  egress := []
  stAt := none
  ringAt := none
  lkAt := none
  frags := []
  gptpSync := false
  qbv := false
  gptpOfs := 0
  qbvStart := 0
  gcl := []
  gclPorts := 0
  icmpCnt := 0
  icmpWin := 0
  rin := RingP.reset
  rout := RingP.reset
  rem := List.replicate 4 Remote.reset
  ends := 0
  chainRec := false
  seqs := List.replicate 7 0
  sentLog := []
  conflict := false
  sent := 0
  noMaster := false
  timeSince := 0
  lastTime := 0
  ofs := 0
  syncDiff := 0
  slew := 0
  epoch := 0
  epochFix := 0
  syncLost := false

/-- Dev right after reset. -/
def Dev.reset : Dev where
  ph := .off
  bootCause := none
  fromOff := true
  step := 0
  halted := none
  ready9 := false
  reasons := []
  commanded := false
  split := false
  coreStrap := true
  bootStrap := true
  casc1 := true
  casc0 := true
  recovery := false
  monRuns := false
  resetAt := none
  startPegs := []
  oldThermal := none
  compLate := false
  comp := ⟨0, 0, 0, 0⟩
  compAt := none
  compTold := false
  severe := false
  supplyA := false
  supplyB := false
  driftA := false
  driftB := false

/-- The machine right after reset. -/
def State.reset : State where
  pins := Pins.reset
  dev := Dev.reset
  time := Time.reset
  recd := Rec.reset
  chans := List.replicate 52 Chan.reset
  bridges := List.replicate 8 Bridge.reset
  bankA := SnsBank.reset
  bankB := SnsBank.reset
  machs := List.replicate 8 Mach.reset
  lgs := List.replicate 2 LinkGroup.reset
  ctds := List.replicate 4 Contactor.reset
  safety := Safety.reset
  pos := List.replicate 8 PosIf.reset
  pouts := List.replicate 4 Pout.reset
  cmps := List.replicate 16 CmpUnit.reset
  temps := List.replicate 104 Sensor.reset
  proto := Proto.reset
  store := Store.reset
  clk := Clk.reset
  pwr := Pwr.reset
  net := Net.reset
  out := []
  pending := []

end Sys2Proof.Machine
end

