-- ==== Sys2Proof/Machine/Params.lean ====
section
/-! DEFINITION. Every parameter of the module (R496 and the parameter tables of the chapters), every fault code with its
minimum level (R22), and parameter sets as bytes (Table 16.2). -/

namespace Sys2Proof.Machine

/-! ### Fault codes and minimum levels (R22) -/

/-- Fault codes with their minimum level: Tables 4.8, 5.2, 6.7, 7.3, 8.5 and 9.7. -/
def faultLevelsA : List (Nat × Nat) :=
  [(0x0101, 3), (0x0102, 3), (0x0103, 3), (0x0104, 3), (0x0105, 3), (0x0106, 3), (0x0107, 3), (0x0108, 3),
   (0x0109, 1), (0x0110, 1), (0x0111, 0), (0x0112, 0), (0x0113, 0), (0x0114, 0), (0x0115, 0), (0x0116, 0),
   (0x0117, 0), (0x0120, 0), (0x0121, 0),
   (0x0201, 0), (0x0202, 0), (0x0203, 3), (0x0204, 0), (0x0205, 0),
   (0x0210, 2), (0x0211, 0), (0x0212, 2), (0x0213, 0), (0x0214, 1), (0x0215, 3), (0x0216, 2), (0x0217, 0),
   (0x0301, 2), (0x0302, 2), (0x0305, 3), (0x0306, 2), (0x0310, 3), (0x0311, 3), (0x0312, 0), (0x0313, 3),
   (0x0320, 0), (0x0321, 0), (0x0322, 0)]

/-- The codes of groups 0x04 and 0x05. -/
def faultLevelsB : List (Nat × Nat) :=
  [(0x0401, 0), (0x0402, 0), (0x0403, 0), (0x0404, 0), (0x0405, 0), (0x0406, 0), (0x0407, 3), (0x0408, 0),
   (0x0409, 0), (0x040A, 2), (0x040B, 0), (0x040C, 2), (0x0410, 0), (0x0411, 2), (0x0412, 0), (0x0413, 0),
   (0x0414, 0), (0x0415, 0),
   (0x0501, 3), (0x0502, 1), (0x0503, 4), (0x0504, 1), (0x0505, 4), (0x0506, 1), (0x0507, 1), (0x0508, 4)]

/-- The codes of groups 0x06 to 0x08: R120, Tables 9.7, 10.9, 11.4, 12.15 and 18.5, R99, R117, R78, R495. -/
def faultLevelsC : List (Nat × Nat) :=
  [(0x0601, 3), (0x0602, 3), (0x0604, 4), (0x0605, 4), (0x0606, 3), (0x0607, 4), (0x0608, 3), (0x0609, 3),
   (0x0610, 3), (0x0611, 0), (0x0612, 3), (0x0620, 4), (0x0630, 0), (0x0631, 4), (0x0640, 3), (0x0641, 4),
   (0x0642, 3), (0x0643, 3), (0x0644, 4), (0x0650, 0),
   (0x0701, 0), (0x0702, 0), (0x0703, 1), (0x0704, 1), (0x0705, 2), (0x0706, 3), (0x0707, 1), (0x0710, 0),
   (0x0711, 1),
   (0x0801, 0), (0x0802, 0), (0x0803, 3), (0x0804, 2), (0x0805, 3), (0x0806, 0), (0x0807, 0), (0x0808, 0),
   (0x0809, 0), (0x0810, 3), (0x0811, 0), (0x0812, 0), (0x0813, 0), (0x0820, 0), (0x0821, 0), (0x0830, 4)]

/-- The codes of groups 0x09 to 0x0B: Tables 13.8, 15.8 and 16.8, R106, R109, R112, R113. -/
def faultLevelsD : List (Nat × Nat) :=
  [(0x0901, 0), (0x0902, 2), (0x0903, 0), (0x0904, 0), (0x0905, 0), (0x0910, 0), (0x0911, 0), (0x0912, 0),
   (0x0913, 0), (0x0914, 0),
   (0x0A01, 0), (0x0A02, 0), (0x0A03, 0), (0x0A04, 0), (0x0A10, 0), (0x0A11, 0), (0x0A12, 0), (0x0A20, 0),
   (0x0A21, 2), (0x0A22, 0), (0x0A23, 0), (0x0A24, 0), (0x0A25, 0),
   (0x0B01, 0), (0x0B02, 0), (0x0B03, 2), (0x0B04, 0), (0x0B05, 3), (0x0B06, 3)]

/-- Every fault code with its minimum level (R22). -/
def faultLevels : List (Nat × Nat) := faultLevelsA ++ faultLevelsB ++ faultLevelsC ++ faultLevelsD

/-- The minimum level of a code; none for a code the manual does not define (R498). -/
def minLevel (code : Nat) : Option Nat := (faultLevels.find? (fun p => p.1 == code)).map (·.2)

/-! ### Parameters -/

/-- A parameter's format code (R483), its range of code as closed intervals, and its default. -/
structure Param where
  fmt : Nat
  ranges : List (Int × Int)
  dflt : Int
deriving DecidableEq, Repr, Inhabited

/-- u8, s8, u16, s16, u32 and s32 parameters with one interval (R483). -/
def pU8 (lo hi d : Int) : Option Param := some ⟨1, [(lo, hi)], d⟩
def pS8 (lo hi d : Int) : Option Param := some ⟨2, [(lo, hi)], d⟩
def pU16 (lo hi d : Int) : Option Param := some ⟨3, [(lo, hi)], d⟩
def pS16 (lo hi d : Int) : Option Param := some ⟨4, [(lo, hi)], d⟩
def pU32 (lo hi d : Int) : Option Param := some ⟨5, [(lo, hi)], d⟩
def pS32 (lo hi d : Int) : Option Param := some ⟨6, [(lo, hi)], d⟩

/-- Leg items of Table 4.9. -/
def legGateItem : Nat → Option Param
  | 0x00 => pU8 30 100 70
  | 0x01 => pU8 30 100 70
  | 0x02 => pU8 4 40 12
  | 0x03 => pU8 4 40 12
  | 0x04 => some ⟨1, [(0, 0), (70, 140)], 0⟩
  | 0x05 => pU8 2 20 6
  | 0x06 => pU8 2 40 10
  | 0x07 => some ⟨2, [(-4, -2), (0, 0)], 0⟩
  | 0x08 => pU8 0 1 0
  | _ => none

/-- Auxiliary items of Table 4.9. -/
def auxGateItem : Nat → Option Param
  | 0x01 => pU8 30 100 70
  | 0x03 => pU8 4 40 12
  | 0x04 => some ⟨1, [(0, 0), (70, 140)], 0⟩
  | 0x05 => pU8 2 20 6
  | 0x06 => pU8 2 40 10
  | _ => none

/-- Group 0x2 by instance and item (Table 4.9). -/
def gateParam (inst item : Nat) : Option Param :=
  if inst < 8 then
    if item = 0xF0 then pU8 0 1 0
    else if item = 0xF1 then pU16 10 2000 400
    else if item = 0xF2 then pU8 1 50 20
    else if item / 16 < 3 then legGateItem (item % 16)
    else none
  else if inst < 12 then auxGateItem item
  else none

/-- Bridge items of Table 5.3. -/
def pwmBridgeItem : Nat → Option Param
  | 0x80 => pU32 4000 200000 25000
  | 0x81 => pU8 0 1 0
  | 0x82 => pU8 0 1 0
  | 0x83 => pU16 0 65535 0
  | 0x84 => pU16 0 12800 1280
  | 0x85 => pU8 0 1 0
  | 0x86 => pU8 1 10 3
  | 0x87 => pS16 (-4000) 4000 0
  | 0x88 => pU16 0 800 200
  | 0x89 => pU16 0 65535 65535
  | 0x8A => pU16 0 65535 65535
  | 0x8B => pU16 0 65535 65535
  | 0x8C => pU8 0 15 0
  | _ => none

/-- Group 0x3 by instance and item (Table 5.3). -/
def pwmParam (inst item : Nat) : Option Param :=
  if inst = 0xF then
    match item with
    | 0 => pU32 40000 4000000 400000
    | 1 => pU16 0 6400 0
    | 2 => pU8 2 16 3
    | _ => none
  else if inst < 8 then
    if item < 0x30 then if item % 16 < 2 then pU16 0 25600 3200 else none
    else pwmBridgeItem item
  else none

/-- Group 0x4, items below 0x40 (Tables 6.8 and 7.4). -/
def machParamA : Nat → Option Param
  | 0x00 => pU8 0 1 0
  | 0x01 => some ⟨1, [(3, 3), (6, 6)], 3⟩
  | 0x02 => some ⟨1, [(0, 0), (30, 30)], 30⟩
  | 0x03 => pU8 1 32 4
  | 0x04 => pU16 10 10000 800
  | 0x05 => pU16 100 2000 1000
  | 0x06 => pU16 100 30000 1500
  | 0x07 => pU16 100 60000 4500
  | 0x08 => pU32 1 500000 1000
  | 0x09 => pU32 0 20000000 1000000
  | 0x0A => pU32 10 1000000 10000
  | 0x0B => pU32 10 1000000 10000
  | 0x0C => pU32 1 10000000 10000
  | 0x0D => pU32 10 100000 1000
  | 0x0E => pS16 (-500) 0 (-110)
  | 0x10 => pU32 10 1000000 10000
  | 0x11 => pU32 10 1000000 10500
  | 0x12 => pU32 1 10000000 10000
  | 0x13 => pU32 1 20000000 1000000
  | 0x14 => pU16 0 600 393
  | 0x18 => pU8 0 2 0
  | 0x19 => pU8 0 7 0
  | 0x1A => some ⟨2, [(-1, -1), (1, 1)], 1⟩
  | 0x20 => pU16 1 10000 800
  | 0x21 => pU16 5000 10000 9500
  | 0x22 => pU16 5000 10000 9300
  | 0x23 => pU16 10 500 100
  | 0x24 => pU16 100 6400 1000
  | 0x25 => pU16 50 2000 400
  | 0x26 => pU16 1 5000 100
  | 0x27 => pU16 1 1000 50
  | 0x28 => pU16 1 5000 200
  | 0x29 => pU16 1 1000 50
  | 0x2A => pU16 1 1000 50
  | 0x2B => pU8 0 1 0
  | 0x2C => pU8 0 1 1
  | 0x2D => pU16 1 1000 50
  | 0x2E => pU32 1 10000000 1000
  | 0x30 => pU8 0 1 0
  | 0x31 => pU16 1000 10000 9800
  | 0x32 => pU16 500 9800 9500
  | 0x33 => pU32 0 21845 10923
  | 0x34 => pU16 1 200 20
  | 0x35 => pU16 50 300 150
  | 0x36 => pU8 1 24 6
  | 0x37 => pU16 50 500 50
  | _ => none

/-- Group 0x4, items from 0x60 (Tables 6.8 and 7.4). -/
def machParamB : Nat → Option Param
  | 0x60 => pU16 0 1000 600
  | 0x61 => pU16 5 100 10
  | 0x62 => pU16 20 1000 400
  | 0x63 => pU16 1 2000 50
  | 0x64 => pU8 5 50 20
  | 0x65 => pU8 20 80 40
  | 0x66 => pU16 10 1000 100
  | 0x67 => pU16 5 200 20
  | 0x68 => pU16 5 200 30
  | 0x69 => pU16 20 300 50
  | 0x6A => pU16 40 400 80
  | 0x6B => pU16 5 500 50
  | 0x6C => pU8 10 80 30
  | 0x6D => pU16 1 1000 100
  | 0x80 => pU8 0 2 0
  | 0x81 => pU8 0 1 0
  | _ => none

/-- Group 0x4 by instance and item. -/
def machParam (inst item : Nat) : Option Param :=
  if inst < 8 then
    if item < 0x40 then machParamA item
    else if item < 0x50 then pU32 0 131071 (32768 + 4369 * ((item - 0x40 : Nat) : Int))
    else if item < 0x60 then pU32 0 65536 0
    else machParamB item
  else none

/-- Interface items of Table 8.6. -/
def posItem : Nat → Option Param
  | 0x00 => pU8 0 4 0
  | 0x01 => pU16 4000 20000 10000
  | 0x02 => pU8 20 140 70
  | 0x03 => pU8 1 16 1
  | 0x04 => pU16 100 6000 1000
  | 0x05 => pU16 1 65535 2048
  | 0x06 => pU16 1 65535 1024
  | 0x07 => pU8 0 255 4
  | 0x08 => pU8 1 255 4
  | 0x09 => pU32 0 262143 0
  | 0x0A => pU8 0 100 5
  | 0x0B => pU16 5 1000 100
  | 0x0C => pU16 1 1000 100
  | 0x0D => pU16 50 5000 1000
  | 0x0E => some ⟨2, [(-1, -1), (1, 1)], 1⟩
  | _ => none

/-- Output items of Table 8.6. -/
def poutItem : Nat → Option Param
  | 0 => some ⟨1, [(0, 7), (0xFF, 0xFF)], 0xFF⟩
  | 1 => pU16 1 65535 1
  | 2 => pU16 1 65535 1
  | 3 => pU8 0 2 0
  | 4 => pU16 5 10000 50
  | _ => none

/-- Compare-unit items of Table 8.6. -/
def cmpItem : Nat → Option Param
  | 0 => pU8 0 7 0
  | 1 => pU8 0 1 0
  | 2 => pU8 0 2 0
  | 3 => some ⟨1, [(0, 3), (0xFF, 0xFF)], 0xFF⟩
  | _ => none

/-- Group 0x5 by instance and item. -/
def posParam (inst item : Nat) : Option Param :=
  if inst < 8 then posItem item
  else if inst = 8 then if item / 16 < 4 then poutItem (item % 16) else none
  else if inst < 0xD then if item / 16 < 4 then cmpItem (item % 16) else none
  else if inst = 0xF ∧ item = 0 then pU16 0 5825 1456
  else none

/-- Group 0x6 by instance and item (Table 9.8). -/
def senseParam (inst item : Nat) : Option Param :=
  if inst < 8 then
    match item with
    | 0 => pU8 0 1 0
    | 1 => pU16 1 10000 1000
    | 2 => pU8 0 16 4
    | 3 => pU16 1 2000 50
    | 4 => pU8 1 64 8
    | _ => none
  else if inst = 0xF then
    if item < 2 then some ⟨1, [(0, 1), (0xFF, 0xFF)], 0xFF⟩
    else if item < 4 then pU16 1 65535 1000
    else if item < 0x10 then none
    else if item < 0x20 then pU8 0 1 0
    else if item < 0x30 then pS16 (-5000) 5000 0
    else if item < 0x40 then pS32 (-1000000000) 1000000000 1000
    else none
  else none

/-- Link-group items of Table 9.8. -/
def linkItem : Nat → Option Param
  | 0x0 => pU16 500 1600 1450
  | 0x1 => pU16 400 1590 1420
  | 0x2 => pU16 500 1630 1480
  | 0x3 => pU16 600 1650 1550
  | 0x4 => some ⟨3, [(0, 0), (200, 1500)], 0⟩
  | 0x5 => pU8 0 1 1
  | 0x6 => pU16 10 65535 100
  | 0x7 => pU16 1 1000 10
  | 0x8 => pU32 1000 100000000 2000000
  | 0x9 => pU16 1 10000 600
  | 0xA => pU16 1 65535 1000
  | 0xB => pU16 10 65535 1000
  | 0xC => pU16 100 2000 2000
  | 0xD => pU8 0 1 1
  | 0xE => pU8 0 1 1
  | 0xF => pU16 10 5000 400
  | _ => none

/-- Group 0x7 by instance and item (Table 9.8). -/
def linkParam (inst item : Nat) : Option Param :=
  if inst < 2 then linkItem item
  else if inst < 10 then
    match item with
    | 0 => pU16 0 500 50
    | 1 => pU16 0 100 10
    | _ => none
  else if inst = 0xF then
    match item with
    | 0 => pU8 0 7 0
    | 1 => pU8 1 8 8
    | _ => none
  else none

/-- Group 0x8 by instance and item (Table 10.10). -/
def safeParam (inst item : Nat) : Option Param :=
  if inst < 8 then
    match item with
    | 0x00 => pU16 20 300 100
    | 0x01 => pU16 5 50 20
    | 0x02 => pU16 0 200 50
    | 0x03 => pU16 1000 1200 1050
    | 0x10 => pU8 0 4 4
    | _ => none
  else if inst = 8 then
    if item / 16 < 4 then
      match item % 16 with
      | 0 => pU8 0 2 0
      | 1 => pU8 0 0x3F 0
      | 2 => pU8 0 0x3F 0
      | 3 => pU16 20 1000 100
      | 4 => pU8 20 100 40
      | _ => none
    else none
  else if inst = 0xF then
    match item with
    | 0 => pU16 10 500 50
    | 1 => pU16 5 1000 50
    | 2 => pU16 5 600 60
    | _ => none
  else none

/-- Default T_warn, T_lim, T_stop, T_trip and rise threshold of the classes (Table 11.2), the last in 0.1 K/s. -/
def thermalDefaults : Nat → List Int
  | 0 => [135, 145, 145, 150, 50]
  | 1 => [110, 125, 130, 140, 100]
  | 2 => [120, 150, 155, 165, 80]
  | 3 => [160, 180, 185, 195, 50]
  | 4 => [65, 75, 80, 90, 20]
  | _ => []

/-- Default neighbours of sensor 68 + `n` (Table 11.1): the other two NTCs of the bridge, none for winding and coolant
sensors. -/
def ntcNeighbour (n i : Nat) : Int :=
  if n < 24 then
    let b := n / 3
    let k := n % 3
    let others := ([0, 1, 2].filter (fun j => j != k)).map (fun j => (68 + 3 * b + j : Nat))
    match others[i]? with
    | some x => x
    | none => 0xFF
  else 0xFF

/-- Sensor items of Table 11.5 for sensor 68 + `n`. -/
def sensorItem (n item : Nat) : Option Param :=
  if item < 4 then some ⟨1, [(0, 103), (0xFF, 0xFF)], ntcNeighbour n item⟩
  else if item = 4 then
    if n < 24 then pU8 0 1 1
    else if n < 32 then some ⟨1, [(0, 7), (0xFF, 0xFF)], 0xFF⟩
    else pU8 0 0xFF 0
  else none

/-- Group 0x9 by the low 12 bits of the ID (Table 11.5). -/
def thermalParam (low : Nat) : Option Param :=
  if low < 0x500 then
    let d := thermalDefaults (low / 256)
    let item := low % 256
    if item < 4 then pS16 (-40) 250 (d.getD item 0)
    else if item = 4 then pU16 5 500 (d.getD 4 0)
    else none
  else if 0x800 ≤ low ∧ (low - 0x800) / 16 < 36 then sensorItem ((low - 0x800) / 16) (low % 16)
  else
    match low with
    | 0xF00 => pU8 5 50 15
    | 0xF01 => pU16 60 36000 600
    | 0xF02 => pU16 0 100 20
    | 0xF03 => pU8 0 32 16
    | 0xF04 => pU32 100 1000000 5000
    | 0xF05 => pU16 1000 10000 3375
    | _ => none

/-- CAN controller items of Tables 13.9 and 15.9. -/
def canItem (n item : Nat) : Option Param :=
  match item with
  | 0x00 => pU8 0 1 (if n = 0 then 1 else 0)
  | 0x01 => pU8 0 3 3
  | 0x02 => pU8 0 4 2
  | 0x03 => pU8 60 90 80
  | 0x04 => pU8 60 90 70
  | 0x05 => pU8 0 1 1
  | 0x06 => pU8 0 1 0
  | 0x07 => pU8 0 1 0
  | 0x10 => pU32 0 0x1FFFFFFC 0x690
  | 0x40 => pU8 0 1 (if n = 0 then 1 else 0)
  | 0x41 => pU32 0 0x1FFFFFF8 0x680
  | 0x42 => pU8 0 1 0
  | 0x43 => pU32 0 0x1FFFFFFC 0x100
  | _ =>
    if n = 0 then
      match item with
      | 0x18 => pU32 0 0x1FFFFFFF 0
      | 0x19 => pU32 0 0x1FFFFFFF 0x7FF
      | 0x1A => pU8 0 1 0
      | 0x1B => pU8 0 8 0
      | 0x1C => pU32 0 0xFFFFFFFF 0
      | 0x1D => pU32 0 0xFFFFFFFF 0
      | _ => none
    else none

/-- Device items of group 0xA (Tables 13.9 and 15.9). -/
def netItem (item : Nat) : Option Param :=
  if item < 0x20 then pU32 0 0xFFFFFFFF 0xF3E80000
  else
    match item with
    | 0x20 => pU8 0 7 0
    | 0x21 => pU8 1 64 1
    | 0x22 => pU8 0 7 7
    | 0x23 => pU8 0 7 0
    | 0x24 => pU32 0 0xFFFFFFFF 0xC0A80A10
    | 0x25 => pU32 0 0xFFFFFFFF 0xFFFFFF00
    | 0x26 => pU32 0 0xFFFFFFFF 0
    | 0x27 => pU16 0 4094 0
    | 0x28 => pU8 0 7 5
    | 0x29 => pU8 0 1 0
    | 0x2A => pU8 0 127 0
    | 0x2B => pU16 0 1000 0
    | 0x30 => pU16 5 1000 10
    | 0x31 => pU16 30 10000 50
    | 0x32 => pU8 0 0x0E 0x0E
    | 0x33 => pU8 0 1 0
    | 0x34 => pU16 0 0xFFFF 0xFFFF
    | 0x35 => pU16 0 0xFFFF 0xFFFF
    | 0x36 => pU8 1 0x0F 1
    | 0x40 => pU16 5 1000 100
    | 0x41 => pU8 1 20 3
    | 0x42 => pU16 1 1000 100
    | 0x43 => pU16 0 3600 60
    | 0x44 => pU16 10 1000 100
    | _ => none

/-- Group 0x1 by the low 12 bits of the ID (Tables 14.14 and 16.9): fault levels at 0x100 × group + low byte. -/
def deviceParam (low : Nat) : Option Param :=
  if low = 0 then pU8 0 1 0
  else if low = 1 then pU8 0 0x1F 0
  else match minLevel low with
    | some l => pU8 l 4 l
    | none => none

/-- The parameter of an ID; none where no table defines it (R496). -/
def paramDef (id : Nat) : Option Param :=
  let low := id % 4096
  let inst := low / 256
  let item := low % 256
  match id / 4096 with
  | 0x1 => deviceParam low
  | 0x2 => gateParam inst item
  | 0x3 => pwmParam inst item
  | 0x4 => machParam inst item
  | 0x5 => posParam inst item
  | 0x6 => senseParam inst item
  | 0x7 => linkParam inst item
  | 0x8 => safeParam inst item
  | 0x9 => thermalParam low
  | 0xA => if inst < 4 then canItem inst item else if inst = 0xF then netItem item else none
  | 0xB =>
    match low with
    | 0 => pU16 10 65535 1000
    | 1 => pU8 0 2 0
    | 2 => pU16 0 0xFFFF 0
    | 3 => pU16 10 3600 300
    | _ => none
  | 0xC =>
    if inst < 8 then
      if item = 0 then some ⟨1, [(0, 2), (4, 4), (8, 8), (16, 16)], 1⟩ else none
    else if inst = 0xF then
      match item with
      | 0 => pU16 0 10000 2000
      | 1 => pU16 1 3600 10
      | _ => none
    else none
  | _ => none

/-- A value lies in a parameter's range of code. -/
def inRange (p : Param) (v : Int) : Bool := p.ranges.any (fun r => decide (r.1 ≤ v ∧ v ≤ r.2))

/-- A value of a parameter as its 32-bit word: a signed value is sign-extended (R483). -/
def paramWord (v : Int) : U32 := BitVec.ofInt 32 v

/-- The value that a 32-bit word gives a parameter of a format (R483). -/
def wordParam (fmt : Nat) (w : U32) : Int :=
  if fmt = 2 ∨ fmt = 4 ∨ fmt = 6 then w.toInt else w.toNat

/-! ### Parameter sets -/

/-- The value of a parameter in a list of items: the item, or the default. -/
def itemValue (items : List (Nat × Int)) (id : Nat) : Int :=
  match items.find? (fun p => p.1 == id) with
  | some p => p.2
  | none => match paramDef id with
    | some d => d.dflt
    | none => 0

/-- The value of a parameter in a set. -/
def psetValue (p : PSet) (id : Nat) : Int := itemValue p.items id

/-- An item put into a list kept in increasing ID order (Table 16.2). -/
def setItem (id : Nat) (v : Int) : List (Nat × Int) → List (Nat × Int)
  | [] => [(id, v)]
  | p :: ps => if id < p.1 then (id, v) :: p :: ps else if id = p.1 then (id, v) :: ps else p :: setItem id v ps

/-- One item as the 8 bytes of R483. -/
def itemBytes (id : Nat) (v : Int) : List Byte :=
  let fmt := match paramDef id with
    | some d => d.fmt
    | none => 0
  beBytes 2 id ++ [BitVec.ofNat 8 fmt, 0] ++ beBytes 4 (paramWord v).toNat

/-- The body of a parameter set from byte 4 to its end: what the staging digest is over (R485). -/
def psetTail (p : PSet) : List Byte :=
  beBytes 1 p.keys.length ++ zeros 3 ++
  p.keys.flatMap (fun k => [k.slot] ++ zeros 3 ++ beBytes 384 k.modulus.toNat ++ beBytes 4 k.exponent.toNat) ++
  p.items.flatMap (fun i => itemBytes i.1 i.2)

/-- The body of a parameter set (Table 16.2). -/
def psetBody (p : PSet) : List Byte := beBytes 4 p.serial.toNat ++ psetTail p

/-- Items read from consecutive 8-byte groups (R483). -/
def parseItems (bs : List Byte) (n : Nat) : List Item :=
  (List.range n).map (fun i =>
    ⟨BitVec.ofNat 16 (field bs (8 * i) 2), BitVec.ofNat 8 (field bs (8 * i + 2) 1),
     BitVec.ofNat 32 (field bs (8 * i + 4) 4)⟩)

/-- IDs strictly rise. -/
def idsRise : List Nat → Bool
  | a :: b :: rest => decide (a < b) && idsRise (b :: rest)
  | _ => true

/-- A parameter set read from its body; none where the layout of Table 16.2 is broken. -/
def parsePset (bs : List Byte) : Option PSet :=
  let n := field bs 4 1
  let start := 8 + 392 * n
  if bs.length < start ∨ n > 4 ∨ (bs.length - start) % 8 ≠ 0 then none
  else
    let items := parseItems (bs.drop start) ((bs.length - start) / 8)
    if idsRise (items.map (fun i => i.id.toNat)) then
      some ⟨BitVec.ofNat 32 (field bs 0 4),
        (List.range n).map (fun i =>
          ⟨BitVec.ofNat 8 (field bs (8 + 392 * i) 1), BitVec.ofNat 3072 (field bs (12 + 392 * i) 384),
           BitVec.ofNat 32 (field bs (396 + 392 * i) 4)⟩),
        items.map (fun i => (i.id.toNat, wordParam i.fmt.toNat i.value))⟩
    else none

/-- Every item has a defined ID, its format and a value in range (R484): the first breach, as status and ID. -/
def checkItems : List Item → Option (U16 × U16)
  | [] => none
  | i :: rest =>
    match paramDef i.id.toNat with
    | none => some (0x0103, i.id)
    | some d =>
      if d.fmt ≠ i.fmt.toNat then some (0x0103, i.id)
      else if inRange d (wordParam d.fmt i.value) then checkItems rest
      else some (0x0104, i.id)

/-- The items written one after the other over a list. -/
def applyItems (items : List (Nat × Int)) (ws : List Item) : List (Nat × Int) :=
  ws.foldl (fun acc i => setItem i.id.toNat (wordParam i.fmt.toNat i.value) acc) items

end Sys2Proof.Machine
end

