-- ==== Sys2Proof/Machine/Flags.lean ====
section
/-! DEFINITION. What the module shows of its state: indices and topology (R7 to R12, R236), the device state (R13), READY and
nFAULT (R71, R72), fault levels (R22), and the status and reason codes (Tables 13.6 and 14.2). -/

namespace Sys2Proof.Machine

/-! ### Status and reason codes (Tables 13.6 and 14.2) -/

def ST_OK : U16 := 0x0000
def ST_ACCEPTED : U16 := 0x0001
def ST_BAD_OPCODE : U16 := 0x0101
def ST_BAD_LENGTH : U16 := 0x0102
def ST_BAD_PARAM : U16 := 0x0103
def ST_OUT_OF_RANGE : U16 := 0x0104
def ST_NOT_AUTHORISED : U16 := 0x0201
def ST_MAC_FAIL : U16 := 0x0202
def ST_REPLAYED : U16 := 0x0203
def ST_CONTEXT_BUSY : U16 := 0x0301
def ST_NO_CONTEXT : U16 := 0x0302
def ST_TIMEOUT : U16 := 0x0303
def ST_WRONG_STATE : U16 := 0x0401
def ST_LOCKED_OUT : U16 := 0x0402
def ST_INCOMPATIBLE : U16 := 0x0403
def ST_BUS_ERROR : U16 := 0x0501
def ST_DOMAIN_OFF : U16 := 0x0502
def ST_SRC_NOT_READY : U16 := 0x0503

def RS_NONE : Byte := 0x00
def RS_STO_UNTESTED : Byte := 0x01
def RS_STO_ACTIVE : Byte := 0x02
def RS_DRV_EN_LOW : Byte := 0x03
def RS_CAL_FAIL : Byte := 0x04
def RS_ISLAND : Byte := 0x05
def RS_NO_ANGLE : Byte := 0x06
def RS_CATCH_SPEED : Byte := 0x07
def RS_CATCH_FAIL : Byte := 0x08
def RS_RECTIFYING : Byte := 0x09
def RS_PLUCK_FAIL : Byte := 0x0A
def RS_DEVICE_STATE : Byte := 0x0B
def RS_BRIDGE_STATE : Byte := 0x0C
def RS_DISCHARGE : Byte := 0x0D
def RS_THERMAL : Byte := 0x0E
def RS_CLOCK : Byte := 0x0F
def RS_SETPOINT_SESSION : Byte := 0x10
def RS_START_PHASE : Byte := 0x11
def RS_MAP_PENDING : Byte := 0x12
def RS_SPLIT_MODE : Byte := 0x13
def RS_CAUSE_PRESENT : Byte := 0x14
def RS_STAGING_HELD : Byte := 0x15
def RS_UPDATE_BUSY : Byte := 0x16
def RS_NONCE : Byte := 0x17

/-! ### Units -/

/-- Bridge `b`. -/
def bridgeAt (s : State) (b : Nat) : Bridge := s.bridges.getD b Bridge.reset
/-- Machine `m`. -/
def machAt (s : State) (m : Nat) : Mach := s.machs.getD m Mach.reset
/-- Channel `c`. -/
def chanAt (s : State) (c : Nat) : Chan := s.chans.getD c Chan.reset
/-- Link group `g`. -/
def lgAt (s : State) (g : Nat) : LinkGroup := s.lgs.getD g LinkGroup.reset
/-- Contactor driver `n`. -/
def ctdAt (s : State) (n : Nat) : Contactor := s.ctds.getD n Contactor.reset
/-- Position interface `p`. -/
def posAt (s : State) (p : Nat) : PosIf := s.pos.getD p PosIf.reset
/-- Divided output `k`. -/
def poutAt (s : State) (k : Nat) : Pout := s.pouts.getD k Pout.reset
/-- Angle-compare unit `u`. -/
def cmpAt (s : State) (u : Nat) : CmpUnit := s.cmps.getD u CmpUnit.reset
/-- Temperature sensor `i`. -/
def tempAt (s : State) (i : Nat) : Sensor := s.temps.getD i Sensor.reset
/-- Power domain `n`. -/
def domAt (s : State) (n : Nat) : Dom := s.pwr.doms.getD n Dom.reset
/-- CAN controller `n`. -/
def canAt (s : State) (n : Nat) : CanCtl := s.net.can.getD n CanCtl.reset
/-- Context `t`. -/
def ctxAt (s : State) (t : Nat) : Ctx := (s.proto.ctx ++ s.proto.left).getD t Ctx.reset
/-- Session `i`, 1 to 8. -/
def sessAt (s : State) (i : Nat) : Option Session := if i = 0 then none else (s.proto.sess.getD (i - 1) none)
/-- Slots of class `c`. -/
def slotsAt (s : State) (c : ImgClass) : ClassSlots := s.store.slots.getD (classIx c) (slotsOf Slot.empty)

/-! ### Parameters in force (R486, R497) -/

/-- A parameter of the active set. -/
def par (s : State) (id : Nat) : Int := itemValue s.store.act.items id
/-- A parameter of the active set as a natural number. -/
def parN (s : State) (id : Nat) : Nat := (par s id).toNat
/-- Machine items that take effect while running (Tables 6.8 and 7.4). -/
def runItem (item : Nat) : Bool :=
  [0x20, 0x21, 0x22, 0x23, 0x26, 0x27, 0x28, 0x29, 0x2A, 0x2D, 0x2E].contains item ||
    decide (0x30 ≤ item ∧ item < 0x69) || item == 0x6C || item == 0x6D

/-- Run items of the starting parameters (Table 7.4). -/
def startItem (item : Nat) : Bool := runItem item && decide (0x60 ≤ item)
/-- A machine item of group 0x4: for items marked "run" the earlier set holds until the next control-period boundary, and for those of
Table 7.4 until the end of a start phase (R235, R265). -/
def mPar (s : State) (m item : Nat) : Int :=
  let x := machAt s m
  let id := 0x4000 + 0x100 * m + item
  match (if startItem item then x.oldStart else none), (if runItem item then x.oldItems else none) with
  | some old, _ => itemValue old id
  | none, some old => itemValue old id
  | none, none => par s id
def mParN (s : State) (m item : Nat) : Nat := (mPar s m item).toNat
/-- The bridge whose parameters physical bridge `b` runs on: its own, or the bridge it replaces (R561). -/
def bridgeInst (s : State) (b : Nat) : Nat :=
  match (List.range 8).find? (fun i => (s.store.mapB.getD i 0xFF).toNat == b) with
  | some i => i
  | none => b
/-- A bridge item: the earlier set holds until the bridge's next period boundary (R486). -/
def bParId (s : State) (b id : Nat) : Int :=
  match (bridgeAt s b).oldItems with
  | some old => itemValue old id
  | none => par s id
/-- A bridge item of group 0x3 (Table 5.3). -/
def bPwm (s : State) (b item : Nat) : Nat := (bParId s b (0x3000 + 0x100 * bridgeInst s b + item)).toNat
/-- A bridge item of group 0x6 (Table 9.8). -/
def bSns (s : State) (b item : Nat) : Nat := (bParId s b (0x6000 + 0x100 * bridgeInst s b + item)).toNat
/-- The leg whose parameters physical leg `l` takes: its own, or that of the leg it replaces (R561). -/
def legInst (s : State) (l : Nat) : Nat :=
  match (List.range 24).find? (fun i => (s.store.mapL.getD i 0xFF).toNat == l) with
  | some i => i
  | none => 3 * bridgeInst s (l / 3) + l % 3
/-- The bridge that leg `l` serves (R8, R561). -/
def legBridge (s : State) (l : Nat) : Nat :=
  match (List.range 24).find? (fun i => (s.store.mapL.getD i 0xFF).toNat == l) with
  | some i => i / 3
  | none => l / 3

/-- A leg item of group 0x2 (Table 4.9): the earlier set holds until the bridge's next period boundary (R486). -/
def legGate (s : State) (l item : Nat) : Int :=
  let i := legInst s l
  bParId s (legBridge s l) (0x2000 + 0x100 * (i / 3) + 0x10 * (i % 3) + item)
/-- A leg item of group 0x3: the earlier set holds until the bridge's next period boundary (Table 5.3, R192). -/
def legPwm (s : State) (l item : Nat) : Nat :=
  let i := legInst s l
  (bParId s (legBridge s l) (0x3000 + 0x100 * (i / 3) + 0x10 * (i % 3) + item)).toNat
/-- A gate item of a channel: leg item, or auxiliary item (Table 4.9). -/
def chanGate (s : State) (c item : Nat) : Int :=
  if c < 48 then legGate s (c / 2) item else par s (0x2000 + 0x100 * (8 + (c - 48)) + item)
/-- A link-group item (Table 9.8). -/
def lgPar (s : State) (g item : Nat) : Nat := parN s (0x7000 + 0x100 * g + item)
/-- A protection item of a machine (Table 9.8). -/
def fwPar (s : State) (m item : Nat) : Nat := parN s (0x7000 + 0x100 * (2 + m) + item)
/-- A safety item of a machine or bridge (Table 10.10). -/
def safPar (s : State) (b item : Nat) : Nat := parN s (0x8000 + 0x100 * b + item)
/-- A contactor item (Table 10.10). -/
def ctPar (s : State) (n item : Nat) : Nat := parN s (0x8800 + 0x10 * n + item)
/-- The interface whose parameters physical interface `p` takes (R561). -/
def posInst (s : State) (p : Nat) : Nat :=
  match (List.range 8).find? (fun i => (s.store.mapP.getD i 0xFF).toNat == p) with
  | some i => i
  | none => p
/-- An interface item (Table 8.6). -/
def posPar (s : State) (p item : Nat) : Int := par s (0x5000 + 0x100 * posInst s p + item)
/-- A CAN controller item (Tables 13.9 and 15.9). -/
def canPar (s : State) (n item : Nat) : Nat := parN s (0xA000 + 0x100 * n + item)
/-- A device item of group 0xA (Tables 13.9 and 15.9). -/
def netPar (s : State) (item : Nat) : Nat := parN s (0xAF00 + item)

/-! ### Topology (R8 to R12, R236) -/

/-- Bridge `b` is assigned: P_BR_USE is 1 (R236). -/
def assigned (s : State) (b : Nat) : Bool := decide (b < 8) && par s (0x4000 + 0x100 * b + 0x81) == 1
/-- Bridge `b` is the lower bridge of a six-phase machine (R11, R236). -/
def sixLower (s : State) (b : Nat) : Bool :=
  b % 2 == 0 && assigned s b && par s (0x4000 + 0x100 * b + 1) == 6
/-- Bridge `b` is the upper bridge of a six-phase machine. -/
def sixUpper (s : State) (b : Nat) : Bool := b % 2 == 1 && sixLower s (b - 1)
/-- Machine Mm exists (R12, R236). -/
def machExists (s : State) (m : Nat) : Bool := assigned s m && !sixUpper s m
/-- The bridge that serves in the place of bridge `b`: its replacement where one is mapped (R561). -/
def mapped (s : State) (b : Nat) : Nat :=
  let r := (s.store.mapB.getD b 0xFF).toNat
  if r = 0xFF then b else r
/-- The bridges of machine Mm, lower one first (R11, R12); empty where it does not exist. -/
def machBridges (s : State) (m : Nat) : List Nat :=
  if machExists s m then (if sixLower s m then [m, m + 1] else [mapped s m]) else []
/-- The machines that exist. -/
def machines (s : State) : List Nat := (List.range 8).filter (machExists s)
/-- The machine that bridge `b` belongs to. -/
def bridgeMach (s : State) (b : Nat) : Option Nat := (machines s).find? (fun m => (machBridges s m).contains b)
/-- The leg that serves as phase `k` of bridge `b` (R8, R561). -/
def bridgeLeg (s : State) (b k : Nat) : Nat :=
  let r := (s.store.mapL.getD (3 * b + k) 0xFF).toNat
  if r = 0xFF then 3 * b + k else r
/-- The three legs of bridge `b`. -/
def bridgeLegs (s : State) (b : Nat) : List Nat := [bridgeLeg s b 0, bridgeLeg s b 1, bridgeLeg s b 2]
/-- The phase that leg `l` serves on its bridge. -/
def legPhase (s : State) (l : Nat) : Nat :=
  match [0, 1, 2].find? (fun k => bridgeLeg s (legBridge s l) k == l) with
  | some k => k
  | none => l % 3
/-- The bridge that channel `c` serves; none for an auxiliary channel. -/
def servedBridge (s : State) (c : Nat) : Option Nat := if c < 48 then some (legBridge s (c / 2)) else none
/-- The link group of bridge `b` (R10). -/
def lgOf (s : State) (b : Nat) : Nat :=
  let first := parN s 0x7F00
  if first ≤ b ∧ b < first + parN s 0x7F01 then 0 else 1
/-- The bridges of link group `g`. -/
def lgBridges (s : State) (g : Nat) : List Nat := (List.range 8).filter (fun b => lgOf s b == g)
/-- The link group of a machine (R11). -/
def machLg (s : State) (m : Nat) : Nat := lgOf s (mapped s m)
/-- The link group of auxiliary channel AUXn (R9). -/
def auxLg (n : Nat) : Nat := n / 2
/-- The bridges that a scope names (R369). -/
def scopeBridges (s : State) : Scope → List Nat
  | .device => List.range 8
  | .bothGroups => List.range 8
  | .linkGroup g => lgBridges s g
  | .bridge b => [b]
  | .machine m => machBridges s m
  | .nothing => []

/-! ### Bridge and machine states -/

/-- Bridge `b` is PRECHARGING, ARMED or RUNNING. -/
def isActive (st : BridgeState) : Bool :=
  match st with
  | .precharging | .armed | .running => true
  | .disabled | .idle | .safe | .retired => false
/-- Bridge state of `b`. -/
def stOf (s : State) (b : Nat) : BridgeState := (bridgeAt s b).st
/-- Some bridge of the list is PRECHARGING, ARMED or RUNNING. -/
def anyActive (s : State) (bs : List Nat) : Bool := bs.any (fun b => isActive (stOf s b))
/-- Every bridge of the list is in state `st`. -/
def allIn (s : State) (bs : List Nat) (st : BridgeState) : Bool := !bs.isEmpty && bs.all (fun b => stOf s b == st)
/-- Every bridge is IDLE or DISABLED. -/
def allIdle (s : State) (bs : List Nat) : Bool := bs.all (fun b => stOf s b == .idle || stOf s b == .disabled)
/-- Every bridge is IDLE, DISABLED or RETIRED. -/
def allQuiet (s : State) (bs : List Nat) : Bool :=
  bs.all (fun b => stOf s b == .idle || stOf s b == .disabled || stOf s b == .retired)
/-- Machine `m` is RUNNING: one of its bridges is. -/
def machRunning (s : State) (m : Nat) : Bool := (machBridges s m).any (fun b => stOf s b == .running)
/-- The phase is a start phase (R239). -/
def isStart (p : MPhase) : Bool :=
  match p with
  | .checking | .catching | .plucking => true
  | .none | .discharging | .degraded => false
/-- An L2 orderly stop of machine `m` is in progress (R604). -/
def stopping (s : State) (m : Nat) : Bool :=
  match (machAt s m).ramp with
  | .stop _ => true
  | _ => false

/-! ### Device state, READY and nFAULT -/

/-- The device states of Table 0.3. -/
inductive DevState where
  | off | boot | calibrating | standby | frozen | service | locked | running | armed | safe | ready
deriving DecidableEq, Repr

/-- Service reason reported: the first that applies in the order of R115, then COMMANDED; 0 for none (Table 3.6). -/
def serviceReason (s : State) : Byte :=
  if s.dev.reasons.contains .noImage then 0x05
  else if s.dev.reasons.contains .noCtab then 0x03
  else if s.dev.reasons.contains .untestedSet then 0x01
  else if s.dev.reasons.contains .islandStep then 0x02
  else if s.dev.commanded then 0x04
  else 0x00

/-- The device state (R13). -/
def devState (s : State) : DevState :=
  match s.dev.ph with
  | .off => .off
  | .boot => .boot
  | .calibrating => .calibrating
  | .standby => .standby
  | .frozen => .frozen
  | .up =>
    if serviceReason s ≠ 0 then .service
    else if !s.safety.locks.isEmpty then .locked
    else if s.bridges.any (fun b => b.st == .running) then .running
    else if s.bridges.any (fun b => b.st == .precharging || b.st == .armed) then .armed
    else if s.bridges.any (fun b => b.st == .safe) then .safe
    else .ready

/-- Coding of the device state in Table 14.6. -/
def devStateCode : DevState → Byte
  | .off => 0x00 | .boot => 0x01 | .calibrating => 0x02 | .ready => 0x03 | .armed => 0x04 | .running => 0x05
  | .safe => 0x06 | .locked => 0x07 | .service => 0x08 | .standby => 0x00 | .frozen => 0x00

/-- Coding of a bridge state in Table 14.6. -/
def bridgeCode : BridgeState → Byte
  | .disabled => 0x00 | .idle => 0x01 | .precharging => 0x02 | .armed => 0x03 | .running => 0x04 | .safe => 0x05
  | .retired => 0x06

/-- Coding of a machine phase in Table 14.6. -/
def phaseCode : MPhase → Byte
  | .none => 0x00 | .checking => 0x01 | .catching => 0x02 | .plucking => 0x03 | .discharging => 0x04
  | .degraded => 0x05

/-- Level of READY (R71). -/
def readyPin (s : State) : Bool :=
  match devState s with
  | .ready | .armed | .running | .safe | .locked => true
  | .off | .boot | .calibrating | .standby | .frozen | .service => false

/-- Level of nFAULT (R72, R74): low while a cause of R72 holds, and low undriven in OFF and STANDBY. -/
def nFaultPin (s : State) : Bool :=
  match s.dev.ph with
  | .up =>
    !(s.bridges.any (fun b => b.st == .safe)) && s.safety.locks.isEmpty && serviceReason s == 0 &&
      !((List.range 8).any (stopping s)) && !(s.pwr.doms.any (fun d => d.wakeFail)) && s.dev.ready9
  | .off | .boot | .calibrating | .standby | .frozen => false

/-- The instruction that the TAP executes: EXTEST only in SERVICE with no bridge armed, else as BYPASS (R88). -/
def tapRuns (s : State) : Byte :=
  if s.pins.tap = 3 && !(s.dev.ph == .up && serviceReason s != 0 && !(anyActive s (List.range 8))) then 0 else s.pins.tap

/-- The logic levels of interface `p` on J5: A, B, Z or HU, HV, HW (Table 2.8); none where State holds no level. -/
def ifLevels (s : State) (p : Nat) : List (Option Bool) :=
  let x := s.pos.getD p PosIf.reset
  match posPar s p 0 with
  | 3 => [x.levels.map (·.1), x.levels.map (·.2), none]
  | 4 => [some (hasBit x.hall.toNat 0), some (hasBit x.hall.toNat 1), some (hasBit x.hall.toNat 2)]
  | _ => [none, none, none]

/-- The level of a coil driver's low-side output: low while the coil is on; none at the economiser duty (Table 2.2). -/
def ctdLevel (s : State) (c : Contactor) : Option Bool :=
  if !c.closed || s.safety.ctdCut then some true else if c.econ then none else some false

/-- The levels of the pins of the boundary-scan chain, in the order of `Pins.cells` (R88); none where State holds no level. -/
def pinLevels (s : State) : List (Option Bool) :=
  [some s.pins.kl15, some s.pins.keep, some s.pins.stoA, some s.pins.stoB, some s.pins.drvEn, none, some (readyPin s), some (nFaultPin s),
   some s.dev.coreStrap, some s.dev.bootStrap] ++
  s.ctds.map (ctdLevel s) ++ (List.range 6).map (fun i => some (s.pins.cfb.getLsbD i)) ++
  (List.range 8).flatMap (ifLevels s) ++ s.pouts.map (fun x => some x.high) ++
  [some s.dev.casc0, some s.dev.casc1, none, none] ++ List.replicate 4 none

/-- The levels that SAMPLE takes into the chain; a pin whose level State does not hold gives a free value (log entry 3). -/
def pinCells (f : Nat) (s : State) : List Bool := (pinLevels s).zipIdx.map (fun p => p.1.getD (Config.freeBit (f + p.2)))

/-- The level on the pin READY, or nFAULT: in EXTEST what the chain holds (R88). -/
def readyLevel (s : State) : Bool := if tapRuns s = 3 then s.pins.cells.getD 6 false else readyPin s
def nFaultLevel (s : State) : Bool := if tapRuns s = 3 then s.pins.cells.getD 7 false else nFaultPin s

/-- The device executes opcodes of the state set Op (Table 14.3). -/
def inOp (s : State) : Bool := readyPin s

/-- The module is up: READY to SERVICE. -/
def isUp (s : State) : Bool := s.dev.ph == .up
/-- The module is FROZEN. -/
def isFrozen (s : State) : Bool := s.dev.ph == .frozen
/-- The hardware paths act: after BOOT, FROZEN included (R28, R566). -/
def isLive (s : State) : Bool := isUp s || isFrozen s
/-- A power domain is on. -/
def domOn (s : State) (n : Nat) : Bool := (domAt s n).st == .on
/-- A start-up has halted under R428. -/
def startHalted (s : State) : Bool := (s.dev.ph == .boot || s.dev.ph == .calibrating) && s.dev.halted.isSome

/-- The gate of a bit is open. -/
def gateOpen (s : State) (bit : Nat) : Bool := hasBit s.clk.gate.toNat bit

/-- The monitor pair executes its image. -/
def monUp (s : State) : Bool := isUp s && domOn s 3 && s.dev.monRuns && !s.safety.mon.halted
/-- The main pair executes its image (no restart, no handover halt). -/
def mainUp (s : State) : Bool := isUp s && !s.dev.recovery && !s.safety.main.halted && s.store.handover.isNone

/-! ### The cascade (R81, R522, R526, R530) -/

/-- Index of the device: CASC_ID[1:0] (R81). -/
def deviceIndex (s : State) : Nat := bitAt s.dev.casc0 0 + bitAt s.dev.casc1 1

/-- Device `e` counts as lost (R530): lost since it was heard, or in P_CASC_DEV and never heard since BOOT. -/
def remoteLost (s : State) (e : Nat) : Bool :=
  let r := s.net.rem.getD e Remote.reset
  if r.heard then r.lost else hasBit (netPar s 0x36) e

/-- Flag `f` of device `e` counts as set: in its latest FAULT frame or in the latest FAULT_SUM, or as P_CASC_LOST_AS says (R526,
R530). -/
def remoteFlag (s : State) (e f : Nat) : Bool :=
  let r := s.net.rem.getD e Remote.reset
  if remoteLost s e then netPar s 0x33 == 1 else hasBit r.flags.toNat f || hasBit r.sum.toNat f

/-- The masked remote flags of link group `g` that count as set, as 4 e + f (R527). -/
def maskedFlags (s : State) (g : Nat) : List Nat :=
  (List.range 16).filter (fun k => hasBit (netPar s (0x34 + g)) k && k / 4 != deviceIndex s && remoteFlag s (k / 4) (k % 4))

/-- The devices of the cascade in ring order (P_CASC_DEV). -/
def ringDevs (s : State) : List Nat := (List.range 4).filter (hasBit (netPar s 0x36))

/-- The device belongs to a cascade of several. -/
def inCascade (s : State) : Bool := (ringDevs s).contains (deviceIndex s) && decide (1 < (ringDevs s).length)

/-- A ring port. -/
def ringPort (s : State) : RingPort → RingP
  | .rin => s.net.rin
  | .rout => s.net.rout

/-- The other ring port. -/
def otherRing : RingPort → RingPort
  | .rin => .rout
  | .rout => .rin

/-- The device `k` places further in the direction of a port: OUT leads to the next index of the cascade (log entry 23). -/
def ringAhead (s : State) (p : RingPort) (k : Nat) : Nat :=
  let l := ringDevs s
  let n := l.length
  let i := l.idxOf (deviceIndex s)
  match p with
  | .rout => l.getD ((i + k) % n) 0
  | .rin => l.getD ((i + n * k - k) % n) 0

/-- The chain ends that the device knows (R529): itself and its neighbour at a port that is down, and a neighbour that reports a
port down with the device beyond it. -/
def ownEnds (s : State) : List Nat :=
  [RingPort.rin, .rout].flatMap (fun p =>
    if (ringPort s p).down then [deviceIndex s, ringAhead s p 1]
    else if (ringPort s p).seen = 0 then [] else [ringAhead s p 1, ringAhead s p 2])

/-- The chain ends as bits, those of the master's latest FAULT_SUM included. -/
def endBits (s : State) : Nat :=
  if inCascade s then bitsOf ((List.range 4).map (fun d => (ownEnds s).contains d || hasBit s.net.ends.toNat d)) else 0

/-- The hops to device `d` by a port (R522). -/
def hopsTo (s : State) (p : RingPort) (d : Nat) : Nat := ((List.range' 1 3).find? (fun k => ringAhead s p k == d)).getD 4

/-- Every link on the way to device `d` by a port is up, as far as the device knows. -/
def wayUp (s : State) (p : RingPort) (d : Nat) : Bool :=
  !(ringPort s p).down && (List.range' 1 (hopsTo s p d - 1)).all (fun k =>
    !(hasBit (endBits s) (ringAhead s p k) && hasBit (endBits s) (ringAhead s p (k + 1))))

/-- The port on which a frame to device `d` leaves (R522): fewer hops, OUT where equal, the other one where that way is broken;
none where both are. -/
def ringWay (s : State) (d : Nat) : Option RingPort :=
  let ps := if hopsTo s .rin d < hopsTo s .rout d then [RingPort.rin, .rout] else [.rout, .rin]
  if inCascade s && (ringDevs s).contains d && d != deviceIndex s then ps.find? (fun p => wayUp s p d) else none

/-! ### Fault levels (R22, R498) -/

/-- The reaction level of a code: its minimum, or the level P_FLT_LVL raises it to. -/
def faultLevel (s : State) (code : Nat) : Nat :=
  let lo := (minLevel code).getD 0
  max lo (min 4 (parN s (0x1000 + code)))

end Sys2Proof.Machine
end

