-- ==== Sys2Proof/Machine/Ops.lean ====
section
/-! DEFINITION. The operations every command is built of: updates of one unit, events and the recorder (R35, R573 to R576),
replies and contexts (R435 to R438, R452), the soundpost with the safe-state selector (R30, R330 to R335), and what a fault of
each level does (R20, R604, R369). -/

namespace Sys2Proof.Machine

/-- The outcome type of every meaning. -/
abbrev Out := Host.Outcome State Fault Refusal

/-! ### Updates of one unit -/

def modBridge (b : Nat) (f : Bridge → Bridge) (s : State) : State := { s with bridges := s.bridges.modify b f }
def modMach (m : Nat) (f : Mach → Mach) (s : State) : State := { s with machs := s.machs.modify m f }
def modChan (c : Nat) (f : Chan → Chan) (s : State) : State := { s with chans := s.chans.modify c f }
def modLg (g : Nat) (f : LinkGroup → LinkGroup) (s : State) : State := { s with lgs := s.lgs.modify g f }
def modCtd (n : Nat) (f : Contactor → Contactor) (s : State) : State := { s with ctds := s.ctds.modify n f }
def modPos (p : Nat) (f : PosIf → PosIf) (s : State) : State := { s with pos := s.pos.modify p f }
def modPout (k : Nat) (f : Pout → Pout) (s : State) : State := { s with pouts := s.pouts.modify k f }
def modCmp (u : Nat) (f : CmpUnit → CmpUnit) (s : State) : State := { s with cmps := s.cmps.modify u f }
def modTemp (i : Nat) (f : Sensor → Sensor) (s : State) : State := { s with temps := s.temps.modify i f }
def modDom (n : Nat) (f : Dom → Dom) (s : State) : State :=
  { s with pwr := { s.pwr with doms := s.pwr.doms.modify n f } }
def modCan (n : Nat) (f : CanCtl → CanCtl) (s : State) : State :=
  { s with net := { s.net with can := s.net.can.modify n f } }
def modCtx (t : Nat) (f : Ctx → Ctx) (s : State) : State :=
  { s with proto := { s.proto with
    ctx := s.proto.ctx.modify t f
    left := if t < s.proto.ctx.length then s.proto.left else s.proto.left.modify (t - s.proto.ctx.length) f } }
def modSlots (c : ImgClass) (f : ClassSlots → ClassSlots) (s : State) : State :=
  { s with store := { s.store with slots := s.store.slots.modify (classIx c) f } }
def modSess (i : Nat) (f : Session → Session) (s : State) : State :=
  if i = 0 then s
  else { s with proto := { s.proto with sess := s.proto.sess.modify (i - 1) (Option.map f) } }
/-- A state-changing function applied for each unit of a list, in order. -/
def forEach (l : List Nat) (f : Nat → State → State) (s : State) : State := l.foldl (fun s i => f i s) s

/-- The next free value's index (log entry 3): the counter, and the state that has drawn it. -/
def drawFree (s : State) : Nat × State := (s.time.free, { s with time := { s.time with free := s.time.free + 1 } })

/-- The next `n` free values' first index, and the state that has drawn them. -/
def drawMany (n : Nat) (s : State) : Nat × State := (s.time.free, { s with time := { s.time with free := s.time.free + n } })

/-- Something that the module sends (log entry 4). -/
def emit (o : Output) (s : State) : State := { s with out := s.out ++ [o] }

/-! ### Sources (Table 17.5) -/

def srcChan (c : Nat) : U16 := BitVec.ofNat 16 (0x0100 + c)
def srcBridge (b : Nat) : U16 := BitVec.ofNat 16 (0x0200 + b)
def srcMach (m : Nat) : U16 := BitVec.ofNat 16 (0x0300 + m)
def srcLg (g : Nat) : U16 := BitVec.ofNat 16 (0x0400 + g)
def srcPos (p : Nat) : U16 := BitVec.ofNat 16 (0x0500 + p)
def srcCmp (u : Nat) : U16 := BitVec.ofNat 16 (0x0600 + u)
def srcTemp (i : Nat) : U16 := BitVec.ofNat 16 (0x0700 + i)
def srcDom (n : Nat) : U16 := BitVec.ofNat 16 (0x0800 + n)
def srcNet (n : Nat) : U16 := BitVec.ofNat 16 (0x0900 + n)
def srcCasc (d : Nat) : U16 := BitVec.ofNat 16 (0x0A00 + d)

/-! ### Event sequence numbers and the recorder -/

/-- Allocate the next ESN (R35); a FROZEN device allocates nothing (R39), and the number is then not used. -/
def allocEsn (s : State) : Esn × State :=
  if isFrozen s then (s.time.esn, s)
  else (s.time.esn, { s with time := { s.time with esn := s.time.esn + 1 } })

/-- Append to a ring of a capacity: the ring, and how many oldest entries were overwritten (R575). -/
def ringAppend {α : Type} (cap : Nat) (ring new : List α) : List α × Nat :=
  let all := ring ++ new
  (all.drop (all.length - cap), all.length - cap)

/-- Write the write buffer to MRAM (R575): events to the event ring, sample records to the sample ring. -/
def flushBuffer (s : State) : State :=
  let r := s.recd
  let isEvent := fun (e : Entry) => e.kind != 1
  let (ev, lost) := ringAppend 524288 r.events (r.buf.filter isEvent)
  let (sa, gone) := ringAppend 3670016 r.samples (r.buf.filter (fun e => !isEvent e))
  let newest := match r.buf.getLast? with
    | some e => some e.esn
    | none => r.newest
  { s with recd := { r with buf := [], events := ev, samples := sa, newest := newest,
                            evovw := r.evovw + BitVec.ofNat 32 lost,
                            entOvw := r.entOvw + BitVec.ofNat 32 (lost + gone) } }

/-- An event entry into the write buffer (R575): events are never dropped, a full buffer is written first. -/
def pushEvent (e : Entry) (s : State) : State :=
  let s := if s.recd.buf.length < 4096 then s else flushBuffer s
  { s with recd := { s.recd with buf := s.recd.buf ++ [e] } }

/-- A sample record into the write buffer (R575): dropped and counted where the part not reserved for events is full. -/
def pushSample (e : Entry) (s : State) : State :=
  let ev := (s.recd.buf.filter (fun e => e.kind != 1)).length
  let sa := s.recd.buf.length - ev
  if sa + (ev - 512) < 3584 then { s with recd := { s.recd with buf := s.recd.buf ++ [e] } }
  else { s with recd := { s.recd with sdrop := s.recd.sdrop + 1 } }

/-- Bytes 20 to 59 of an entry: the data, filled with zeros (Table 17.4). -/
def entryData (data : List Byte) : List Byte := (data ++ zeros 40).take 40

/-- What an event at `level` means to the recorder (R576) and to GET_STATE (Table 14.6). -/
def noteEvent (level : Nat) (e : Esn) (s : State) : State :=
  let r := s.recd
  let post := if 3 ≤ level ∧ r.postEnd.isNone ∧ !r.postHold then
      some (s.time.dev + parN s 0xCF00 * 400000) else r.postEnd
  { s with recd := { r with esnLatest := e, esnL34 := if 3 ≤ level then e else r.esnL34, postEnd := post } }

/-- Record one event at a level, with its capture or allocation time (R573): its ESN and the state. In FROZEN nothing is
numbered and nothing is recorded (R39, R569). -/
def recordAt (time code level kind : Nat) (src : U16) (count : Nat) (data : List Byte) (s : State) : Esn × State :=
  if isFrozen s then (s.time.esn, s)
  else
    let (e, s) := allocEsn s
    let s := pushEvent ⟨e, time, BitVec.ofNat 16 code, level, kind, src, count, entryData data⟩ s
    (e, noteEvent level e s)

/-- Record one event now. -/
def recordEvent (code level : Nat) (src : U16) (data : List Byte) (s : State) : Esn × State :=
  recordAt s.time.dev code level 0 src 1 data s

/-- An entry to SERVICE is recorded with its reason (R115): a marker with no code. -/
def noteService (reason : Byte) (s : State) : State := (recordAt s.time.dev 0 0 4 (srcDom 2) 1 [reason] s).2

/-- Record a rate-limited event (R574): the first in each interval; a repeat draws an ESN, is counted, and is carried by the
next entry of the same code and source. `until_` is the end of the interval that a recorded entry opens. -/
def recordLimited (code level kind : Nat) (src : U16) (until_ : Nat) (data : List Byte) (s : State) : Esn × State :=
  let c := BitVec.ofNat 16 code
  let mine := fun (r : RateSlot) => r.code == c && r.src == src
  match s.recd.rate.find? mine with
  | some r =>
    if s.time.dev < r.until_ then
      let (e, s) := allocEsn s
      (e, { s with recd := { s.recd with
        rate := s.recd.rate.map (fun x => if mine x then { x with repeats := x.repeats + 1 } else x) } })
    else
      let s := { s with recd := { s.recd with
        rate := s.recd.rate.map (fun x => if mine x then { x with until_ := until_, repeats := 0 } else x) } }
      recordAt s.time.dev code level kind src (min 65535 (1 + r.repeats)) data s
  | none =>
    let s := { s with recd := { s.recd with rate := s.recd.rate ++ [⟨c, src, until_, 0⟩] } }
    recordAt s.time.dev code level kind src 1 data s

/-- Mark a source kind in the freeze event mask (R569). -/
def markFreeze (bit : Nat) (s : State) : State :=
  if isFrozen s then
    { s with recd := { s.recd with freezeMask := s.recd.freezeMask ||| BitVec.ofNat 16 (2 ^ bit) } }
  else s

/-! ### Sending on the ring (R520, R522, R531) -/

/-- A new frame of a type: its sequence number follows its predecessor's, and what was sent within 1 ms is remembered. -/
def newFrame (typ dst : Byte) (payload : List Byte) (s : State) : RingFrame × State :=
  let i := typ.toNat - 1
  let q := s.net.seqs.getD i 0 + 1
  let log := (typ, q, s.time.dev) :: s.net.sentLog.filter (fun e => decide (s.time.dev ≤ e.2.2 + 400000))
  (⟨typ, 0, BitVec.ofNat 2 (deviceIndex s), dst, q, true, payload⟩,
    { s with net := { s.net with seqs := s.net.seqs.set i q, sentLog := log } })

/-- A frame leaves on a port, unless its link is down. -/
def putRing (f : RingFrame) (p : RingPort) (s : State) : State := if (ringPort s p).down then s else emit (.ring p f) s

/-- A frame to every device leaves on both ports (R522). -/
def broadcastRing (typ : Byte) (payload : List Byte) (s : State) : State :=
  let (f, s) := newFrame typ 0xFF payload s
  putRing f .rout (putRing f .rin s)

/-- A frame to device `d`: whether it can be reached, and the state. -/
def sendRing (d : Nat) (typ : Byte) (payload : List Byte) (s : State) : Bool × State :=
  match ringWay s d with
  | some p =>
    let (f, s) := newFrame typ (BitVec.ofNat 8 d) payload s
    (true, putRing f p s)
  | none => (false, s)

/-! ### Replies and contexts -/

/-- Refusal detail of Table 14.1. -/
def detail (reason index : Byte) (param : U16) : List Byte := [reason, index] ++ beBytes 2 param.toNat

/-- Byte 1 of a reply: REPLY, AUTH, MORE and URGENT (Table 13.2). -/
def replyFlags (r : Reply) : Byte :=
  BitVec.ofNat 8 (1 + bitAt r.auth 1 + bitAt r.more 2 + bitAt r.urgent 3)

/-- The header and payload of a reply as transmitted (Table 13.1, R435). -/
def replyBytes (r : Reply) : List Byte :=
  [0x02, replyFlags r] ++ beBytes 2 r.opcode.toNat ++ [r.tag, r.session] ++ beBytes 2 (2 + r.data.length) ++
  beBytes 4 r.seq.toNat ++ beBytes 4 r.esn.toNat ++ beBytes 8 r.time ++ beBytes 2 r.status.toNat ++ r.data

/-- The first `n` bytes of a 256-bit HMAC as a number. -/
def macTop (n : Nat) (d : Digest) : Nat := d.toNat / 2 ^ (8 * (32 - n))

/-- A reply with its MAC (R434, R437): none for an unauthenticated request or a status NOT_AUTHORISED or MAC_FAIL. -/
def sealReply (s : State) (r : Reply) : Reply :=
  match sessAt s r.session.toNat with
  | some k =>
    if r.auth ∧ r.status ≠ ST_NOT_AUTHORISED ∧ r.status ≠ ST_MAC_FAIL then
      { r with mac := BitVec.ofNat 128 (macTop 16 (Config.hmacSha256 k.kM2H (replyBytes r))) }
    else { r with auth := false, mac := 0 }
  | none => { r with auth := false, mac := 0 }

/-- A reply whole, its MAC included where it has one. -/
def packetBytes (r : Reply) : List Byte := replyBytes r ++ (if r.auth then beBytes 16 r.mac.toNat else [])

/-- The Ethernet link of a transport has dropped and not come back: what is due on it is discarded (R513). -/
def portLost (s : State) (p : Port) : Bool :=
  match portEth p with
  | some i => let e := s.net.eth.getD i EthPort.reset; !e.link && e.down != 0
  | none => false

/-- The injection test passes: all 32 differences flagged, and the clean pass not (R119). -/
def injPasses (inj : Nat) (clean : Bool) : Bool := inj == 32 && !clean

/-- A trend channel takes a sample, in the s16 of its record (R578). -/
def trendAdd (k : Nat) (v : Int) (s : State) : State :=
  let v := clampInt (-32768) 32767 v
  { s with recd := { s.recd with trendAcc := s.recd.trendAcc.modify k (fun a =>
    if a.n = 0 then ⟨1, v, v, v⟩ else ⟨a.n + 1, min a.lo v, max a.hi v, a.sum + v⟩) } }

/-- Every channel begins a new period. -/
def newTrend (s : State) : State :=
  { s with recd := { s.recd with trendStart := List.replicate 128 s.time.dev, trendAcc := List.replicate 128 ⟨0, 0, 0, 0⟩ } }

/-- The smallest CAN FD data length that holds `n` bytes. -/
def fdLength (n : Nat) : Nat := ([0, 1, 2, 3, 4, 5, 6, 7, 8, 12, 16, 20, 24, 32, 48].find? (fun k => decide (n ≤ k))).getD 64

/-- Segment `k` of a packet is its last. -/
def lastSegment (p : List Byte) (k : Nat) : Bool := decide (p.length ≤ 63 * (k + 1))

/-- Segment `k` of a packet (R441): control byte, at most 63 bytes, and the padding of the last one. -/
def segment (p : List Byte) (k : Nat) : List Byte :=
  let body := BitVec.ofNat 8 (bitAt (k == 0) 7 + bitAt (lastSegment p k) 6 + k % 64) :: (p.drop (63 * k)).take 63
  body ++ zeros (fdLength body.length - body.length)

/-- A packet waits in buffer 16 + `d` of controller `n` behind those that it holds: one reply at a time on an identifier (R443, Table
15.2). -/
def queueCan (n d : Nat) (p : List Byte) (s : State) : State :=
  { s with net := { s.net with canTx := s.net.canTx.modify (4 * n + d) (· ++ [p]) } }

/-- Controller `n` discards what its transmit buffers hold (R501). -/
def dropCan (n : Nat) (s : State) : State :=
  { s with net := { s.net with canTx := s.net.canTx.mapIdx (fun i q => if i / 4 = n then [] else q) } }

/-- What is handed to a transport goes into the transmit buffers of a CAN controller. -/
def handCan (port : Port) (d : Nat) (p : List Byte) (s : State) : State :=
  match portCan port with
  | some n => queueCan n d p s
  | none => s

/-- Origin bytes of a VEXFI frame (Table 15.6). -/
def originBytes (o : List Byte) : List Byte := (o ++ zeros 8).take 8

/-- The IPv4 fragments of `n` bytes on a path of an MTU, from offset `o` on: offset, length, and whether more follow. -/
def fragmentParts (mtu : Nat) : Nat → Nat → Nat → List (Nat × Nat × Bool)
  | 0, _, _ => []
  | fuel + 1, o, n =>
    let room := (mtu - 20) / 8 * 8
    if n ≤ mtu - 20 ∨ room = 0 then [(o, n, false)] else (o, room, true) :: fragmentParts mtu fuel (o + room) (n - room)

/-- The frames of a packet to a UDP destination: in the VLAN and with the priority of the active set, in fragments where the path MTU
requires it (R439, R511; log entry 51). -/
def ethFrames (s : State) (p : Nat) (dest packet : List Byte) : List EthFrame :=
  let n := packet.length + 8
  (fragmentParts (min 1500 (Config.pathMtu dest)) n 0 n).map (fun (o, k, more) =>
    ⟨p, netPar s 0x27, netPar s 0x28, dest, o, k, more, (packet.drop (o - 8)).take (if o = 0 then k - 8 else k)⟩)

/-- A port whose frames wait for their gates (R516). -/
def portGated (s : State) (p : Nat) : Bool := s.net.qbv && hasBit s.net.gclPorts p

/-- A packet that leaves by an Ethernet port: at once, or behind the gate of its class (R511, R517). -/
def sendEth (port : Port) (dest packet : List Byte) (s : State) : State :=
  match portEth port with
  | some p =>
    if portGated s p then { s with net := { s.net with egress := s.net.egress ++ ethFrames s p dest packet } }
    else (ethFrames s p dest packet).foldl (fun s f => emit (.ethFrame f) s) s
  | none => s

/-- A reply is handed to its transport: over the ring to the master (R521), else to the port of its request, where its link is
up (R439, R513); on CAN FD its segments follow in the controller's transmit slots (R443). -/
def deliver (r : Reply) (s : State) : State :=
  if r.port = .ring then (sendRing 0 0x04 (originBytes r.origin ++ packetBytes r) s).2
  else if portLost s r.port then s
  else sendEth r.port r.origin (packetBytes r) (emit (.reply r) (handCan r.port (deviceIndex s) (packetBytes r) s))

/-- Send one reply to a request (R436): its ESN is allocated as it is handed to its transport. -/
def sendReply (origin : List Byte) (h : Hdr) (opcode : U16) (more : Bool) (status : U16) (data : List Byte) (s : State) :
    Reply × State :=
  let (e, s) := allocEsn s
  let r := sealReply s ⟨h.port, opcode, h.tag, h.session, h.seq, e, s.time.dev, h.auth, h.urgent, more, status, data, 0, origin⟩
  (r, deliver r s)

/-- A context can be taken (check 9): FREE, DONE, or left by a session that closed (Table 13.4). -/
def ctxFree (c : Ctx) : Bool := c.st == .free || c.st == .done || c.mute

/-- The command of context `t` ends: the final reply with its status, retained (Table 13.4); none where the session has
closed, and the context is then FREE. -/
def finish (t : Nat) (status : U16) (data : List Byte) (s : State) : State :=
  let c := ctxAt s t
  if c.st == .short || c.st == .long then
    if c.mute then modCtx t (fun _ => Ctx.reset) s
    else
      let (r, s) := sendReply c.origin c.hdr c.opcode false status data s
      modCtx t (fun c => { c with st := .done, final := some r }) s
  else s

/-- The command of context `t` is refused (R467). -/
def refuse (t : Nat) (status : U16) (reason index : Byte) (param : U16) (s : State) : State :=
  finish t status (detail reason index param) s

/-- Dispatch of context `t` starts a long operation: ST_ACCEPTED with the deadline in ms, which it sets (R452, R469). -/
def accept (t deadlineMs : Nat) (s : State) : State :=
  let c := ctxAt s t
  let s := if c.mute then s
    else (sendReply c.origin c.hdr c.opcode true ST_ACCEPTED (beBytes 4 deadlineMs) s).2
  modCtx t (fun c => { c with st := .long, deadline := s.time.dev + deadlineMs * 400000 }) s

/-- End the command of an optional tag. -/
def finishOpt (t : Option Nat) (status : U16) (data : List Byte) (s : State) : State :=
  match t with
  | some t => finish t status data s
  | none => s

/-! ### Channels (R164, R331) -/

/-- A channel has the latch of a code. -/
def latched (c : Chan) (code : Nat) : Bool := c.latches.any (fun l => l.code.toNat == code)
/-- The island is there: present, its state coupler working, and not counted as absent (R27, R128, R156, R158). -/
def islandThere (c : Chan) : Bool := c.present && !c.handFail && !c.couplerLost
/-- The hardware step of an island, 0x00 where it is absent (Table 14.5). -/
def islandStep (c : Chan) : Byte := if islandThere c then c.step else 0
/-- A channel is usable (R164): no latch of Table 4.8 with minimum level L3, and its island present. -/
def usable (c : Chan) : Bool :=
  islandThere c && !(c.latches.any (fun l => decide (l.code.toNat < 0x0200) && (minLevel l.code.toNat).getD 0 == 3))

/-- Low side of leg `l`. -/
def lowOf (s : State) (l : Nat) : Chan := chanAt s (lowChan l)
/-- High side of leg `l`. -/
def highOf (s : State) (l : Nat) : Chan := chanAt s (highChan l)

/-- Capo-high is possible for a bridge (R331). -/
def capohPossible (s : State) (b : Nat) : Bool :=
  !(bridgeAt s b).capohBlock && (bridgeLegs s b).all (fun l =>
    (highOf s l).operating && islandThere (highOf s l) &&
      (legGate s l 8 == 1 ||
        (islandThere (lowOf s l) && !latched (lowOf s l) 0x0103 && !latched (lowOf s l) 0x0107)))

/-- The override comes from the overvoltage comparator of R315. -/
def isOv (o : Ovr) : Bool := o.src == .fault 0x0501

/-- Capo is wanted (R332): PMSM, and FAST or an overvoltage override. -/
def capoWanted (br : Bridge) : Bool := br.pmsm && (br.fast || br.ovr.any isOv)

/-- Table 9.3: the state applied to an overridden bridge, and whether the row escalates to F-0620. -/
def selectMode (s : State) (b : Nat) : SafeMode × Bool :=
  let legs := bridgeLegs s b
  let want := capoWanted (bridgeAt s b)
  if legs.any (fun l => !usable (lowOf s l) && !usable (highOf s l)) then (.freewheel, true)
  else if !want then (.freewheel, false)
  else if legs.all (fun l => usable (lowOf s l)) then (.capoLow, false)
  else if legs.all (fun l => usable (highOf s l)) && capohPossible s b then (.capoHigh, false)
  else (.freewheel, true)

/-- A bridge is held by the soundpost. -/
def isHeld (br : Bridge) : Bool := !br.ovr.isEmpty

/-- Only turn-offs are possible while FROZEN (R567): Capo stays as it is or becomes freewheel. -/
def limitFrozen (s : State) (old new : SafeMode) : SafeMode :=
  if isFrozen s && old != .none && old != new then .freewheel else new

/-! ### Gate commands (R133, R150 to R153, R157, R174, R177) -/

/-- Device time in steps of 156.25 ps (R168). -/
def nowSteps (s : State) : Nat := 16 * s.time.dev

/-- The leg's other channel. -/
def partnerOf (c : Nat) : Nat := if c % 2 = 0 then c + 1 else c - 1

/-- A channel counts as on (R152, R157): from its on command until its gate is below the off-level plus 2.0 V. -/
def countsOn (c : Chan) : Bool := c.cmd || c.gate != Gate.off

/-- The overlap guard refuses an on command of channel `c` (R157, R158): its partner counts as on, has done so within the last 50 ns, or
the state coupler is lost. -/
def guardRefuses (s : State) (c : Nat) : Bool :=
  let p := chanAt s (partnerOf c)
  decide (c < 48) && ((chanAt s c).couplerLost || countsOn p || (decide (0 < p.gateAt) && decide (s.time.dev < p.gateAt + 20)))

/-- An island executes on commands (R133, R138, R145, R150): link, bias and supply there, Operating for a high island, and no latch but those
that turn nothing off, F-0109 and F-0501. -/
def takesOn (high : Bool) (c : Chan) : Bool :=
  islandThere c && c.powered && !c.parked && (if high then c.operating && decide (13000 ≤ c.vbs) else c.uvloOk) &&
    c.latches.all (fun l => l.code == 0x0109 || l.code == 0x0501)

/-- An on command arrives at channel `c` (R133, R150, R153, R157): the gate is driven on and the clamp released, unless the island ignores
or refuses it. -/
def onCmd (c : Nat) (s : State) : State :=
  let go := takesOn (chanHigh c) (chanAt s c) && !guardRefuses s c
  modChan c (fun x => if go && !x.cmd then { x with cmd := true, gate := .on, gateAt := s.time.dev, clamp := false } else x) s

/-- An off command arrives at channel `c`, sent at step `t` (R151, R152): two-level turn-off where P_TLTO_LVL is not 0, and a soft turn-off
under way goes on. -/
def offCmd (c t : Nat) (s : State) : State :=
  let next := if chanGate s c 4 = 0 then Gate.falling else Gate.tlto
  modChan c (fun x =>
    if x.cmd then { x with cmd := false, offAt := t, gate := if x.gate == .on then next else x.gate,
                           gateAt := if x.gate == .on then s.time.dev else x.gateAt } else x) s

/-- The dead time before a turn-on of a side of leg `l`, in steps: P_DT_RISE or P_DT_FALL (R174). -/
def deadTime (s : State) (l : Nat) (high : Bool) : Nat := legPwm s l (if high then 0 else 1)

/-- The request of one side of phase `k` rises at step `t` (R174): the other side's off command at once, this side's on command after its
dead time; an on command of the other side still to come is not sent. -/
def riseReq (k dead : Nat) (high : Bool) (t : Nat) (l : List CmdEdge) : List CmdEdge :=
  l.filter (fun e => !(e.phase == k && e.high != high && e.on && decide (t < e.time))) ++
    [⟨t, k, !high, false⟩, ⟨t + dead, k, high, true⟩]

/-- The request of one side of phase `k` falls at step `t` (R174): its off command at once; its on command still to come is not sent. -/
def fallReq (k : Nat) (high : Bool) (t : Nat) (l : List CmdEdge) : List CmdEdge :=
  l.filter (fun e => !(e.phase == k && e.high == high && e.on && decide (t < e.time))) ++ [⟨t, k, high, false⟩]

/-- The dead time that an override keeps: under one of the severe clock condition the dead-time stage counts RC40 periods of 25 ns, rounded
up (R402). -/
def overrideDead (s : State) (l : Nat) (high : Bool) : Nat :=
  let d := deadTime s l high
  if (bridgeAt s (legBridge s l)).ovr.any (fun o => o.src == .fault 0x0805) then (d + 159) / 160 * 160 else d

/-- One side of leg `l` under a safe state (R177): off at once, or on after its dead time counted from now. `keep` leaves a turn-on of the
same safe state that is still under way. -/
def driveSide (keep want high : Bool) (l : Nat) (s : State) : State :=
  let c := if high then highChan l else lowChan l
  let b := legBridge s l
  let k := legPhase s l
  let go := want && usable (chanAt s c)
  let mine := fun (e : CmdEdge) => e.phase == k && e.high == high
  let waits := keep && go && (bridgeAt s b).sched.any (fun e => mine e && e.on)
  let on := if go && !(chanAt s c).cmd && !waits then [⟨nowSteps s + overrideDead s l high, k, high, true⟩] else []
  let s := if go then s else offCmd c (nowSteps s) s
  modBridge b (fun br => { br with sched := br.sched.filter (fun e => !mine e || (waits && e.on)) ++ on }) s

/-- The gate commands of a leg under a safe state: every side that is not wanted off, the wanted one on where usable. -/
def driveLeg (keep : Bool) (mode : SafeMode) (l : Nat) (s : State) : State :=
  driveSide keep (mode == .capoHigh) true l (driveSide keep (mode == .capoLow) false l s)

/-- The timer of a bridge requests nothing. -/
def clearRequests (b : Nat) : State → State :=
  modBridge b (fun br => { br with reqHigh := [false, false, false], reqLow := [false, false, false] })

/-- Every switch of a bridge off. -/
def switchesOff (b : Nat) (s : State) : State := clearRequests b (forEach (bridgeLegs s b) (driveLeg false .none) s)

/-- Every turn-on of the safe state is withheld: an override of the severe clock condition, and RC40 not ready (R402). -/
def withheld (s : State) (br : Bridge) : Bool :=
  br.ovr.any (fun o => o.src == .fault 0x0805) && !hasBit s.clk.rdy.toNat 1

/-- The soundpost evaluates the selection rule for a bridge it holds (R330, R332, R333). -/
def reselect (b : Nat) (s : State) : State :=
  let br := bridgeAt s b
  if isHeld br then
    let new := limitFrozen s br.mode (selectMode s b).1
    let s := clearRequests b (modBridge b (fun br => { br with mode := new }) s)
    forEach (bridgeLegs s b) (driveLeg (br.mode == new) (if withheld s br then .none else new)) s
  else s

/-! ### Machines leaving their states -/

/-- A machine leaves ARMED and RUNNING: bindings, references, phases and degraded operation end (R231, R461). -/
def machineLeaves (m : Nat) (s : State) : State :=
  modMach m (fun x =>
    { x with ph := .none, armWait := false, extended := false, autoStart := false, ref := .none, monRef := .none, bound := none, timedOut := false, ramp := .none,
             tRef := 0, integ := 0, degraded := false, rot := .none, halfLim := false, pluck := none, six := false,
             zcAngle := false, clamped := false, reduced := none, f0211 := false, dir := 0, refBlocked := false,
             ready := false, tCmd := 0, inSpeed := false, curLim := false, oldStart := none, found := none, onObs := false,
             inject := false, injRamp := 0, slew := 0, srcAge := 21,
             leftRun := if machRunning s m then some s.time.dev else x.leftRun }) s

/-- The places of all contexts: 0 to 127, and those left by closed sessions. -/
def ctxPlaces (s : State) : List Nat := List.range (s.proto.ctx.length + s.proto.left.length)

/-- The contexts of DISARM that wait on machine `m` (R479): several requests may name it while the ramp runs. -/
def disarmTags (s : State) (m : Nat) : List Nat :=
  (ctxPlaces s).filter (fun t => (ctxAt s t).st == .long && (ctxAt s t).opcode == 0x0201 &&
    (ctxAt s t).payload == [BitVec.ofNat 8 m])

/-- The commands that a machine still carries end as a safe state hits it: a DISARM and a RETIRE with reason BRIDGE_STATE (R479), any other
with the reason given. -/
def endMachineTag (m : Nat) (reason : Byte) (s : State) : State :=
  let s := forEach (disarmTags s m) (fun t => refuse t ST_WRONG_STATE RS_BRIDGE_STATE (BitVec.ofNat 8 m) 0) s
  match (machAt s m).tag with
  | some t =>
    let why := if (ctxAt s t).opcode = 0x0207 then RS_BRIDGE_STATE else reason
    let s := refuse t ST_WRONG_STATE why (BitVec.ofNat 8 m) 0 s
    modMach m (fun x => { x with tag := none }) s
  | none => s

/-- A fault of level L2 or above ends a field-engine rotation (R557). -/
def endRotation (x : Mach) : Mach :=
  if x.rot = .ramping then { x with rot := .none, halfLim := false, ph := .none } else { x with rot := .none }

/-- The causes of an orderly stop under way. -/
def stopCauses (x : Mach) : List (Nat × Nat) :=
  match x.ramp with
  | .stop cs => cs
  | _ => []

/-- An orderly stop whose torque another cause has brought to zero: its requests of R604 stand on the bridges in SAFE. -/
def holdRequests (causes : List (Nat × Nat)) (b : Nat) (s : State) : State :=
  if stOf s b == .safe then
    modBridge b (fun br => { br with ovr := causes.foldl (fun l c =>
      let o : Ovr := ⟨.fault (BitVec.ofNat 16 c.1), 2, c.2⟩
      if l.any (fun x => x.src == o.src && x.ix == o.ix) then l else l ++ [o]) br.ovr }) s
  else s

/-- Precharge pulses of bridge `b` stop: no further one, and every switch off (Table 4.6, R148). -/
def stopPulses (b : Nat) (s : State) : State := switchesOff b (modBridge b (fun br => { br with pulseOk := false }) s)

/-- The ramp of a DISARM or a RETIRE ends, and the RETIRE is abandoned (R479). -/
def endRamp (x : Mach) : Mach :=
  match x.ramp with
  | .disarm => { x with ramp := .none }
  | .retire _ _ => { x with ramp := .none, halfLim := false }
  | _ => x

/-- What bridge `b` of machine `m` entering SAFE from `prev` means for the machine (R148, R229, R239, R479): the waiting
context ends, a start phase ends, a precharging partner stops its pulses and returns to IDLE, and a machine none of whose bridges runs
leaves; the requests of an orderly stop under way stand (R604). -/
def machineHit (why : Byte) (b m : Nat) (prev : BridgeState) (s : State) : State :=
  let others := (machBridges s m).filter (fun x => x != b)
  let s := endMachineTag m why s
  let s := if prev == .precharging then
      forEach (others.filter (fun x => stOf s x == .precharging)) (fun x s => stopPulses x (modBridge x (fun br => { br with st := .idle }) s)) s
    else s
  if others.any (fun x => stOf s x == .running) then
    modMach m (fun x =>
      let y := endRamp (endRotation x)
      if isStart x.ph then { y with ph := .none, extended := false, ready := false, found := none, pluck := none, oldStart := none } else y) s
  else
    let was := prev == .running
    let causes := stopCauses (machAt s m)
    let s := forEach (machBridges s m) (holdRequests causes) (machineLeaves m s)
    if was then modMach m (fun x => { x with leftRun := some s.time.dev }) s else s

/-- Bridge `b`, if PRECHARGING, ARMED or RUNNING, enters SAFE; `why` is the reason an ended context gets (R148). -/
def enterSafe (why : Byte) (b : Nat) (s : State) : State :=
  let prev := stOf s b
  if isActive prev then
    let s := modBridge b (fun br => { br with st := .safe }) s
    match bridgeMach s b with
    | some m => machineHit why b m prev s
    | none => s
  else s

/-- The soundpost applies an override to bridge `b` (R30, R31, R332): an active bridge enters SAFE, and a bridge already held
is held by this override too. `idleToo` also takes an IDLE or RETIRED bridge (F-0305, F-0306, R311). -/
def overrideBridge (why : Byte) (idleToo : Bool) (o : Ovr) (b : Nat) (s : State) : State :=
  let br := bridgeAt s b
  let takes := isActive br.st || br.st == .safe || isHeld br || (idleToo && br.st != .disabled)
  if takes then
    let keep := br.ovr.filter (fun x => !(x.src == o.src && x.ix == o.ix))
    let s := modBridge b (fun br => { br with ovr := keep ++ [o], rect := br.rect.filter (fun x => !(x.src == o.src && x.ix == o.ix)) }) s
    let s := reselect b s
    let s := if idleToo && br.st == .idle then modBridge b (fun br => { br with st := .safe }) s else s
    enterSafe why b s
  else s

/-- The soundpost applies an override to a list of bridges at once: a bridge of the list that was active is SAFE too where the SAFE of
its machine's other bridge has just ended its precharge (Table 4.6, R148). -/
def override (why : Byte) (idleToo : Bool) (o : Ovr) (bs : List Nat) (s : State) : State :=
  let t := forEach bs (overrideBridge why idleToo o) s
  forEach (bs.filter (fun b => isActive (stOf s b) && stOf t b == .idle)) (overrideBridge why true o) t

/-- A bridge whose overrides are all gone leaves SAFE for IDLE (R69); a RETIRED bridge stays RETIRED. -/
def releaseBridge (b : Nat) (s : State) : State :=
  let br := bridgeAt s b
  if isHeld br then reselect b s
  else
    let s := modBridge b (fun br => { br with mode := .none, rect := [], shortRaised := false, st := if br.st == .safe then .idle else br.st }) s
    if br.mode == .none then s else switchesOff b s

/-! ### Lock-outs, contactors -/

/-- The bridges a standing lock-out covers. -/
def lockBridges (s : State) (k : Lockout) : List Nat := scopeBridges s k.scope

/-- A lock-out stands on bridge `b` (R369); the regeneration-only lock-out of F-0503 does not count (R321). -/
def lockedOut (s : State) (b : Nat) : Bool :=
  s.safety.locks.any (fun k => k.code != 0x0503 && (lockBridges s k).contains b)

/-- Regeneration is locked out on link group `g` (R321). -/
def regenLocked (s : State) (g : Nat) : Bool :=
  s.safety.locks.any (fun k => k.code == 0x0503 && (k.scope == .linkGroup g || k.scope == .bothGroups || k.scope == .device))

/-- Open a lock-out, unless one of the code already covers the scope (R369). -/
def addLockout (code ix : Nat) (sc : Scope) (e : Esn) (s : State) : State :=
  let covers := fun (k : Lockout) => k.code.toNat == code &&
    ((scopeBridges s sc).all (fun b => (lockBridges s k).contains b)) && (k.scope == sc || !(scopeBridges s sc).isEmpty)
  if s.safety.locks.any covers then s
  else { s with safety := { s.safety with locks := s.safety.locks ++ [⟨e, BitVec.ofNat 16 code, sc, none, ix⟩] } }

/-- Contactor driver `n` covers link group `g` (P_CT_LG, R360). -/
def ctdCovers (s : State) (n g : Nat) : Bool := ctPar s n 0 == g || ctPar s n 0 == 2

/-- Command contactor driver `n` (R360, R361): a change of command starts the feedback check anew. -/
def commandCtd (close : Bool) (n : Nat) (s : State) : State :=
  modCtd n (fun c => if c.closed == close then c
    else { c with closed := close, econ := false, since := s.time.dev, checking := true }) s

/-- Feedback input `i` shows driver `n` in state `closed` (P_CT_CFB_POL, R360). -/
def feedbackShows (s : State) (cfb : BitVec 6) (n i : Nat) (closed : Bool) : Bool :=
  (hasBit cfb.toNat i != hasBit (ctPar s n 2) i) == closed

/-- Every feedback of driver `n` shows a state. -/
def feedbackAll (s : State) (cfb : BitVec 6) (n : Nat) (closed : Bool) : Bool :=
  (List.range 6).all (fun i => !hasBit (ctPar s n 1) i || feedbackShows s cfb n i closed)

/-- The contactor feedback of link group `g` shows open (R325). -/
def groupOpen (s : State) (g : Nat) : Bool :=
  (List.range 4).all (fun n => !ctdCovers s n g || (!(ctdAt s n).closed && feedbackAll s s.pins.cfb n false))

/-- The contactor-open request of an L4 on bridges (R362), and the automatic discharge it may lead to (R325). -/
def openContactors (bs : List Nat) (s : State) : State :=
  let gs := [0, 1].filter (fun g => bs.any (fun b => lgOf s b == g))
  let open_ := fun (n : Nat) (s : State) => if s.safety.mon.halted then modCtd n (fun c => { c with openWait := true }) s else commandCtd false n s
  let s := forEach ((List.range 4).filter (fun n => gs.any (ctdCovers s n))) open_ s
  forEach gs (fun g => modLg g (fun x => { x with autoWait := lgPar s g 0xD == 1 })) s

/-! ### What a fault does (R20) -/

/-- An L2 orderly stop for machine `m` (R604): a RUNNING machine ramps to zero first; any other active machine has no
torque and is disarmed into its safe state at once. `idleToo` also takes an IDLE machine (F-0306, R311). -/
def stopMachine (code ix : Nat) (idleToo : Bool) (m : Nat) (s : State) : State :=
  if machRunning s m then
    modMach m (fun x => { endRotation x with ramp := match x.ramp with
      | .stop cs => .stop (cs ++ [(code, ix)])
      | _ => .stop [(code, ix)] }) s
  else if idleToo || (machBridges s m).any (fun b => isActive (stOf s b) || stOf s b == .safe) then
    override RS_BRIDGE_STATE idleToo ⟨.fault (BitVec.ofNat 16 code), 2, ix⟩ (machBridges s m) s
  else s

/-- The machines with a bridge in a list. -/
def machinesOf (s : State) (bs : List Nat) : List Nat := (machines s).filter (fun m => (machBridges s m).any bs.contains)

/-- What a fault of a level does once it is numbered (Table 0.7, R21, R23, R604). -/
def react (level code ix : Nat) (sc : Scope) (idleToo : Bool) (why : Byte) (e : Esn) (s : State) : State :=
  let bs := scopeBridges s sc
  if level < 2 then s
  else if level = 2 then forEach (machinesOf s bs) (stopMachine code ix idleToo) s
  else if code = 0x0503 then (if level = 4 then addLockout code ix sc e s else s)
  else
    let s := override why idleToo ⟨.fault (BitVec.ofNat 16 code), level, ix⟩ bs s
    if level = 4 then openContactors bs (addLockout code ix sc e s) else s

/-- A winding discharge whose machine no longer runs has aborted (R328): link group, machine. -/
def abortedWinding (s : State) (g : Nat) : Bool :=
  match (lgAt s g).dis with
  | some d => match d.winding with
    | some m => !(anyActive s (machBridges s m)) || stopping s m
    | none => false
  | none => false

/-- Number, record and act on a fault, its data and its source given (R20, R35). -/
def raiseBase (code ix : Nat) (src : U16) (sc : Scope) (idleToo : Bool) (why : Byte) (data : List Byte) (s : State) : State :=
  let lv := faultLevel s code
  let (e, s) := recordEvent code lv src data s
  react lv code ix sc idleToo why e s

/-- The command of auxiliary channel `n`: 2g the chopper, 2g + 1 the discharge switch of group g. A latched channel stays
off (R159, R160). -/
def driveAux (n : Nat) (on : Bool) (s : State) : State :=
  if on then onCmd (48 + n) s else offCmd (48 + n) (nowSteps s) s

/-- The chopper command of a group changes. -/
def setChopper (g : Nat) (on : Bool) (s : State) : State :=
  driveAux (2 * g) on (modLg g (fun x => { x with chopOn := on, chopAt := s.time.dev }) s)

/-- The choppers are off (R319). -/
def choppersOff (p : Nat → Bool) (s : State) : State :=
  forEach ([0, 1].filter (fun g => p g && (lgAt s g).chopOn)) (setChopper · false) s

/-- A machine of group `g` that a window watched for a winding discharge is watched no more (R328). -/
def endWatch (g : Nat) (s : State) : State :=
  forEach ((machines s).filter (fun m => machLg s m == g && (machAt s m).ph == .discharging && allIn s (machBridges s m) .idle))
    (fun m => modMach m (fun x => { x with ph := .none })) s

/-- A CONTACTOR_SET that has ended waits on no discharge any more; one of them that is under way goes on (R494). -/
def dropDischargeTag (tag : Option Nat) (s : State) : State :=
  if tag.isNone then s
  else { s with lgs := s.lgs.map (fun (x : LinkGroup) =>
    { x with disWait := if x.disWait = tag then none else x.disWait, dis := x.dis.map (fun d => { d with tag := if d.tag = tag then none else d.tag }) }) }

/-- F-0508: the link was not discharged (R329). -/
def raise0508 (g : Nat) (s : State) : State :=
  let s := endWatch g s
  let tag := match (lgAt s g).dis with
    | some d => d.tag
    | none => (lgAt s g).disWait
  let s := driveAux (2 * g + 1) false (modLg g (fun x => { x with dis := none, disOn := false, disWait := none }) s)
  let s := raiseBase 0x0508 g (srcLg g) (.linkGroup g) false RS_BRIDGE_STATE [] s
  dropDischargeTag tag (finishOpt tag ST_TIMEOUT (detail RS_NONE (BitVec.ofNat 8 g) 0) s)

/-- Raise a fault; a winding discharge that it ends raises F-0508 at once (R328, R329). -/
def raiseWhy (why : Byte) (code ix : Nat) (src : U16) (sc : Scope) (data : List Byte) (s : State) : State :=
  let s := raiseBase code ix src sc (code == 0x0305) why data s
  forEach ([0, 1].filter (abortedWinding s)) raise0508 s

/-- Raise a fault. -/
def raiseFault (code ix : Nat) (src : U16) (sc : Scope) (data : List Byte) (s : State) : State :=
  raiseWhy RS_BRIDGE_STATE code ix src sc data s

/-- The scope of a code whose chapter gives it no reaction, should P_FLT_LVL raise its level (R22, R498): what its source names,
else the device (log entry 16). -/
def srcScope (s : State) (src : U16) : Scope :=
  let n := src.toNat % 256
  match src.toNat / 256 with
  | 1 => match servedBridge s n with
    | some b => .bridge b
    | none => .linkGroup (auxLg (n - 48))
  | 2 => .bridge n
  | 3 => .machine n
  | 4 => .linkGroup n
  | 5 => match (machines s).find? (fun m => mPar s m 0x18 != 1 && mParN s m 0x19 == n) with
    | some m => .machine m
    | none => .nothing
  | _ => .device

/-- The reaction of such a code once it is recorded. -/
def reactSrc (code : Nat) (src : U16) (e : Esn) (s : State) : State :=
  let s := react (faultLevel s code) code (src.toNat % 256) (srcScope s src) false RS_BRIDGE_STATE e s
  forEach ([0, 1].filter (abortedWinding s)) raise0508 s

/-- Record an event whose chapter gives it no reaction, at its level. -/
def note (code : Nat) (src : U16) (data : List Byte) (s : State) : State :=
  let (e, s) := recordEvent code (faultLevel s code) src data s
  reactSrc code src e s

/-- The same for a code that is recorded once in each interval (R574). -/
def noteLimited (code : Nat) (src : U16) (until_ : Nat) (s : State) : State :=
  let (e, s) := recordLimited code (faultLevel s code) 0 src until_ [] s
  reactSrc code src e s

/-! ### Masked remote flags (R527) -/

/-- Masked remote flags count as set for a link group: F-0B05 names the device and the flag, and its active bridges are
overridden. Each flag of `cur` outside `old` is recorded; with none new, bridges that have become active are overridden under
the first. -/
def cascadeHit (g : Nat) (old cur : List Nat) (s : State) : State :=
  let fresh := cur.filter (fun k => !old.contains k)
  let ks := if fresh.isEmpty && anyActive s (lgBridges s g) then cur.take 1 else fresh
  let lv := faultLevel s 0x0B05
  forEach ks (fun k s =>
    let (e, s) := recordEvent 0x0B05 lv (srcCasc (k / 4)) [BitVec.ofNat 8 (k / 4), BitVec.ofNat 8 (k % 4)] s
    let s := react lv 0x0B05 g (.linkGroup g) false RS_BRIDGE_STATE e s
    forEach ([0, 1].filter (abortedWinding s)) raise0508 s) s

/-- The soundpost judges the masked remote flags after a change; `before` held ahead of it. -/
def cascadeHold (before : State) (s : State) : State :=
  if isLive s then forEach [0, 1] (fun g s => cascadeHit g (maskedFlags before g) (maskedFlags s g) s) s else s

/-! ### Island latches (R161) -/

/-- The capture time of an island event, corrected by the link delay (R38, R161). -/
def captureTime (s : State) (c : Nat) : Nat := s.time.dev - (chanAt s c).linkDly * 2 / 5

/-- The scope of an island's code: its bridge, the link group of an auxiliary island (R160), or the whole link group for the
overvoltage comparator (R315). -/
def chanScope (s : State) (code c : Nat) : Scope :=
  match servedBridge s c with
  | some b => if code = 0x0501 then .linkGroup (lgOf s b) else .bridge b
  | none => .linkGroup (auxLg (c - 48))

/-- A second occurrence of a latched code: its counter goes on, up to 255 (R161; log entry 51). -/
def countLatch (code : Nat) (x : Chan) : Chan :=
  { x with latches := x.latches.map (fun l => if l.code.toNat == code then { l with count := min 255 (l.count + 1) } else l) }

/-- A code is set on an island (R161): the ESN of a new latch; a repeat raises the 8-bit counter only, which stays at 255 (DESIGN
CHOICE: the spec does not say what it does past 255; log entry 51). -/
def setLatch (code : Nat) (detailVals : List Int) (c : Nat) (s : State) : Option Esn × State :=
  if latched (chanAt s c) code then
    (none, modChan c (countLatch code) s)
  else
    let (e, s) := recordAt (captureTime s c) code (faultLevel s code) 0 (srcChan c) 1 (detailVals.flatMap (beInt 4)) s
    let s := modChan c (fun x =>
      { x with latches := x.latches ++ [⟨BitVec.ofNat 16 code, e, captureTime s c, 1, detailVals, true⟩] }) s
    (some e, markFreeze (if code = 0x0501 then 1 else 2) s)

/-- What a new latch does: the soundpost evaluates the channel's bridge again (R333), and the level of the code acts. -/
def actLatch (code c : Nat) (e : Option Esn) (s : State) : State :=
  match e with
  | some e =>
    let s := match servedBridge s c with
      | some b => reselect b s
      | none => s
    let s := react (faultLevel s code) code c (chanScope s code c) false RS_BRIDGE_STATE e s
    forEach ([0, 1].filter (abortedWinding s)) raise0508 s
  | none => s

/-- An island latches a code, and the latch acts. -/
def latchIsland (code : Nat) (detailVals : List Int) (c : Nat) (s : State) : State :=
  let (e, s) := setLatch code detailVals c s
  actLatch code c e s

/-! ### Sessions -/

/-- Close a session (R448, Table 13.4): its contexts in progress send no more replies, its nonce, its staging area and its
update end, and the machines bound to it are free (R461, R482, R489). -/
def closeSession (i : Nat) (s : State) : State :=
  match sessAt s i with
  | none => s
  | some _ =>
    let p := s.proto
    let mine := fun (c : Ctx) => c.hdr.auth && c.hdr.session.toNat == i && (c.st == .short || c.st == .long)
    let s := { s with proto := { p with sess := p.sess.set (i - 1) none,
                                        ctx := p.ctx.map (fun c => if mine c then { c with mute := true } else c),
                                        spSrc := match p.spSrc with
                                          | some (x, q) => if x = i then none else some (x, q)
                                          | none => none } }
    let s := { s with machs := s.machs.map (fun (x : Mach) => if x.bound = some i then { x with bound := none } else x) }
    let s := match s.store.staging with
      | some g => if g.session.toNat = i then { s with store := { s.store with staging := none } } else s
      | none => s
    match s.store.upd with
    | some u =>
      if u.session.toNat = i then
        let kill := fun (sl : Slot) =>
          if sl.st == SlotState.receiving || sl.st == SlotState.received || sl.st == SlotState.verified then
            { sl with st := SlotState.invalid } else sl
        let s := modSlots u.cls (fun k => if u.slotB then { k with b := kill k.b } else { k with a := kill k.a }) s
        { s with store := { s.store with upd := none } }
      else s
    | none => s

/-! ### Entry to BOOT (R97, R451, R448, R461) -/

/-- The bridge states after a reset (R413, R100): DISABLED where unassigned or its FE domain is not on, RETIRED where it was
retired, else IDLE. The second bridge of a six-phase machine is IDLE with its own FE domain on, whatever the other's (DESIGN CHOICE: R199
speaks of the machine and R413 of the bridge; log entry 51). -/
def idleState (s : State) (b : Nat) (br : Bridge) : BridgeState :=
  if br.retiredLeg.isSome then .retired
  else if (bridgeMach s b).isSome && domOn s (8 + b) && !(domAt s (8 + b)).saved then .idle
  else .disabled

/-- The networks and the ring as an entry to BOOT finds them; the ring's timeouts run from now. -/
def freshNet (s : State) : Net :=
  { Net.reset with
    can := s.net.can.map (fun _ => CanCtl.reset)
    timeSince := s.time.dev
    lastTime := s.time.dev
    rem := List.replicate 4 { Remote.reset with seenAt := s.time.dev }
    rin := { RingP.reset with linkAt := s.time.dev }
    rout := { RingP.reset with linkAt := s.time.dev } }

/-- The timebase stops, if it runs: device time is held with the RTC count from which it is extrapolated when it resumes (R41,
R42). -/
def holdTime (t : Time) : Time := if t.running then { t with running := false, rtcAtHold := t.rtc } else t

/-- A cause of an entry to BOOT is latched (R97): every session closes, every context becomes FREE (R448, R451), bridges drop
their overrides and islands reset (R100, R138), and the start-up sequence is to run. -/
def enterBoot (cause : BootCause) (s : State) : State :=
  let s := forEach (List.range' 1 8) closeSession s
  let p := s.proto
  { s with
    dev := { s.dev with ph := .boot, bootCause := some cause, step := 1, halted := none, ready9 := false, reasons := [],
                        commanded := false, resetAt := none }
    proto := { p with ctx := p.ctx.map (fun _ => Ctx.reset), left := [], urgentQ := [], normalQ := [], stored := [], spSrc := none,
                      reasm := List.replicate 16 none }
    time := holdTime s.time
    machs := s.machs.map (fun _ => Mach.reset)
    bridges := s.bridges.map (fun b => { Bridge.reset with retiredLeg := b.retiredLeg, calFailA := b.calFailA,
                                                           calFailB := b.calFailB, feVersion := b.feVersion,
                                                           st := if b.retiredLeg.isSome then .retired else .disabled })
    chans := s.chans.map (fun c => { Chan.reset with present := c.present, powered := c.powered, vbs := c.vbs, vbp := c.vbp, vbn := c.vbn })
    safety := { s.safety with seenA := false, seenB := false, passA := false, passB := false }
    store := { s.store with staging := none, pending := none, upd := none, handover := none, recal := [] }
    pwr := { s.pwr with sby := none, sbyPending := false, listening := false, depthNext := false }
    net := freshNet s }

end Sys2Proof.Machine
end

