-- ==== Sys2Proof/Machine/Thermal.lean ====
section
/-! DEFINITION. Temperature sensing and thermal management (R376 to R392): neighbours, cross-check, frets, rate of rise, stop
and trip, and temperature compensation. Temperatures are in 0.1 degrees. -/

namespace Sys2Proof.Machine

/-! ### Sensors (Table 11.1) -/

/-- Class of a sensor: 0 die, 1 island, 2 NTC, 3 winding, 4 coolant (Table 11.1). -/
def sensorClass (i : Nat) : Nat :=
  if i < 16 then 0 else if i < 68 then 1 else if i < 92 then 2 else if i < 100 then 3 else 4

/-- A class or device item of Table 11.5: one that PARAM_COMMIT has changed counts from the first measurement after it (R394). -/
def thermPar (s : State) (id : Nat) : Int :=
  match s.dev.oldThermal with
  | some old => itemValue old id
  | none => par s id

/-- The same as a count. -/
def thermParN (s : State) (id : Nat) : Nat := (thermPar s id).toNat

/-- A class item of Table 11.5. -/
def classPar (s : State) (i item : Nat) : Int := thermPar s (0x9000 + 0x100 * sensorClass i + item)

/-- T_warn, T_lim, T_stop and T_trip of a sensor's class in 0.1 degrees. -/
def tWarn (s : State) (i : Nat) : Int := classPar s i 0 * 10
def tLim (s : State) (i : Nat) : Int := classPar s i 1 * 10
def tStop (s : State) (i : Nat) : Int := classPar s i 2 * 10
def tTrip (s : State) (i : Nat) : Int := classPar s i 3 * 10

/-- P_TX_ASSIGN of sensor 68 to 103. -/
def tAssign (s : State) (i : Nat) : Nat := parN s (0x9800 + 0x10 * (i - 68) + 4)

/-- A temperature lies in the valid range of a class (Table 11.1). -/
def inValidRange (cls : Nat) (t : Int) : Bool :=
  match cls with
  | 0 => decide (-500 ≤ t ∧ t ≤ 1750)
  | 1 => decide (-500 ≤ t ∧ t ≤ 1750)
  | 2 => decide (-400 ≤ t ∧ t ≤ 2000)
  | 3 => decide (-500 ≤ t ∧ t ≤ 2500)
  | _ => decide (-400 ≤ t ∧ t ≤ 1500)

/-- The sensor is fitted, assigned and reachable, so that it is read (R377). -/
def sensorRead (s : State) (i : Nat) : Bool :=
  match sensorClass i with
  | 0 => true
  | 1 => islandThere (chanAt s (i - 16))
  | 2 => tAssign s i == 1 && islandThere (lowOf s (i - 68))
  | 3 => tAssign s i != 0xFF
  | _ => tAssign s i != 0

/-- Neighbours on the 4 by 4 die grid, numbered by row (Table 11.1). -/
def dieNeighbours (i : Nat) : List Nat :=
  (if 4 ≤ i then [i - 4] else []) ++ (if i % 4 ≠ 0 then [i - 1] else []) ++
    (if i % 4 ≠ 3 then [i + 1] else []) ++ (if i < 12 then [i + 4] else [])

/-- The neighbour set of a sensor (R378, Table 11.1): a set, so that an index named twice counts once. -/
def neighbours (s : State) (i : Nat) : List Nat :=
  match sensorClass i with
  | 0 => dieNeighbours i
  | 1 =>
    if i < 64 then
      let c := i - 16
      let leg := c / 2
      (16 + 2 * leg + (1 - c % 2)) ::
        (((List.range 3).map (fun k => 3 * (leg / 3) + k)).filter (fun l => l != leg)).map (fun l => 16 + 2 * l + c % 2)
    else [64, 65, 66, 67].filter (fun j => j != i)
  | _ => (((List.range 4).map (fun j => parN s (0x9800 + 0x10 * (i - 68) + j))).filter (fun j => decide (j < 104))).eraseDups

/-- The machines in a sensor's scope (Table 11.2). -/
def sensorMachines (s : State) (i : Nat) : List Nat :=
  match sensorClass i with
  | 0 => machines s
  | 1 =>
    if i < 64 then (bridgeMach s (legBridge s ((i - 16) / 2))).toList
    else (machines s).filter (fun m => machLg s m == auxLg (i - 64))
  | 2 => (bridgeMach s (legBridge s (i - 68))).toList
  | 3 => if machExists s (tAssign s i) then [tAssign s i] else []
  | _ => (machines s).filter (fun m => (machBridges s m).any (fun b => hasBit (tAssign s i) b))

/-- A sensor that covers a machine and takes part in a limit: read, and read since BOOT. -/
def covers (s : State) (m i : Nat) : Bool :=
  sensorRead s i && (tempAt s i).read && (sensorMachines s i).contains m

/-- The fret count of a machine: the highest among its sensors, die sensors apart (R386, R387). -/
def machFrets (s : State) (m : Nat) : Nat :=
  ((List.range 104).filter (fun i => decide (16 ≤ i) && covers s m i)).foldl (fun k i => max k (tempAt s i).fret) 0

/-- A sensor in the machine's scope is at or above T_stop (R391). -/
def overStop (s : State) (m : Nat) : Bool :=
  (List.range 104).any (fun i => covers s m i && !(tempAt s i).noval && decide (tStop s i ≤ (tempAt s i).value))

/-- The cause of F-0705 and F-0706 at sensor `i` counts as present (R391). -/
def hotStill (s : State) (i : Nat) : Bool := (tempAt s i).noval || decide (tStop s i - 50 ≤ (tempAt s i).value)

/-- The winding sensors of machine `m` that count as valid (R204, R383). -/
def windingSensors (s : State) (m : Nat) : List Nat :=
  ((List.range 8).map (fun k => 92 + k)).filter (fun i => tAssign s i == m && (tempAt s i).read && !(tempAt s i).noval)

/-- T_w of machine `m` in degrees: the mean of its valid winding sensors, 20 without one (R204). -/
def windingTemp (s : State) (m : Nat) : Rat :=
  let l := windingSensors s m
  if l.isEmpty then 20 else ((l.map (fun i => (tempAt s i).value)).foldl (· + ·) 0 : Rat) / ((l.length : Nat) * 10 : Nat)

/-- A sensor is measured every 1 ms: its own value, or that of a sensor in whose neighbour set it stands (R379). A sensor that is not
read is not measured at all (R377). -/
def isFast (s : State) (i : Nat) : Bool :=
  sensorRead s i && ((tempAt s i).fast ||
    (List.range 104).any (fun j => sensorRead s j && (tempAt s j).fast && (neighbours s j).contains i))

/-- A sensor that is no longer read, or is read again, starts afresh: no rate of rise until 1 s of values (R377, R380). -/
def forgetSensor (i : Nat) (s : State) : State :=
  modTemp i (fun x => { x with read := false, fast := false, hist := [], rising := false, own := none }) s

/-- Every sensor that is not read. -/
def forgetUnread (s : State) : State :=
  forEach ((List.range 104).filter (fun i => !sensorRead s i && (tempAt s i).read)) forgetSensor s

/-- Two lists name the same sensors. -/
def sameSensors (l k : List Nat) : Bool := l.all (fun i => k.contains i) && k.all (fun i => l.contains i)

/-- The sensors whose neighbour set differs from that in `before` lose their learned offset (R384, R394). -/
def relearn (before s : State) : State :=
  forEach (((List.range 36).map (68 + ·)).filter (fun i => !sameSensors (neighbours before i) (neighbours s i)))
    (modTemp · (fun x => { x with offset := 0 })) s

/-! ### The die-class cap of the main pair's operating point (R387, R421) -/

/-- The cap holds: a die sensor has reached T_warn and has not fallen below T_warn - 5 K, or feeds P_TX_NOVAL frets. -/
def capHolds (s : State) : Bool := (List.range 16).any (fun i => decide (0 < (tempAt s i).fret))

/-- The point that a request for the main pair leads to: point 0 runs as point 1 under the cap (R421). -/
def mainPoint (s : State) (req : Nat) : Nat := if req = 0 ∧ capHolds s then 1 else req

/-- The sequencer takes a target for the main pair: at once, or after the transition in progress (R420). -/
def seekMain (target : Nat) (s : State) : State :=
  if s.pwr.busyMain then
    { s with pwr := { s.pwr with waitMain := if s.pwr.tgtMain = target then none else some target } }
  else if s.pwr.mainCur = target then s
  else { s with pwr := { s.pwr with busyMain := true, tgtMain := target } }

/-- The same for the monitor pair. -/
def seekMon (target : Nat) (s : State) : State :=
  if s.pwr.busyMon then
    { s with pwr := { s.pwr with waitMon := if s.pwr.tgtMon = target then none else some target } }
  else if s.pwr.monCur = target then s
  else { s with pwr := { s.pwr with busyMon := true, tgtMon := target } }

/-- The cap is applied or lifted (R421): CAPPED, and the point that the stored request now leads to. -/
def updateCap (s : State) : State :=
  let c := capHolds s && s.pwr.mainReq == 0
  if c == s.pwr.capped then s
  else seekMain (mainPoint s s.pwr.mainReq) { s with pwr := { s.pwr with capped := c } }

/-! ### One measurement (R377 to R389) -/

/-- Insertion into an ascending list. -/
def insertSorted (x : Int) : List Int → List Int
  | [] => [x]
  | y :: ys => if x ≤ y then x :: y :: ys else y :: insertSorted x ys

/-- Median of a list of readings; the mean of the two middle ones for an even count (log entry 21). -/
def median (l : List Int) : Rat :=
  let t := l.foldr insertSorted []
  let n := t.length
  if n % 2 = 1 then (t.getD (n / 2) 0 : Rat) else ((t.getD (n / 2 - 1) 0 : Rat) + (t.getD (n / 2) 0 : Rat)) / 2

/-- The valid neighbours of a sensor: neither invalid nor suspect in `v`, the state at the start of the measurement (R381). -/
def validNeighbours (v s : State) (i : Nat) : List Nat :=
  (neighbours s i).filter (fun j => sensorRead s j && (tempAt s j).read && !(tempAt v j).invalid && !(tempAt v j).suspect)

/-- The median of the valid neighbours, with at least two of them (R381). -/
def neighbourMedian (v s : State) (i : Nat) : Option Rat :=
  let l := validNeighbours v s i
  if l.length < 2 then none else some (median (l.map (fun j => (tempAt s j).reading)))

/-- The temperature in 0.1 degrees of what a sensor's input reads (R377). -/
def inputTemp (s : State) (i : Nat) (raw : Int) : Int :=
  match sensorClass i with
  | 0 => raw
  | 1 => raw
  | 2 => Config.ntcTemp (thermParN s 0x9F04) (thermParN s 0x9F05) raw
  | _ => Config.pt1000Temp raw

/-- The reading of a sensor: none outside the valid range of its class (R377). -/
def validReading (s : State) (i : Nat) : Reading → Option Int
  | .value raw => if inValidRange (sensorClass i) (inputTemp s i raw) then some (inputTemp s i raw) else none
  | .openOrShort => none

/-- Validity of a reading (R377): F-0701 at each entry into the condition. -/
def takeReading (i : Nat) (r : Reading) (s : State) : State :=
  let v := validReading s i r
  let bad := v.isNone
  let was := (tempAt s i).invalid
  let s := modTemp i (fun x => { x with
    invalid := bad, read := true, measAt := some s.time.dev,
    reading := match r with
      | .value raw => inputTemp s i raw
      | .openOrShort => x.reading
    hist := if was && !bad then [] else x.hist }) s
  if bad && !was then note 0x0701 (srcTemp i) [] s else s

/-- The reading that a measurement gives for sensor `i`. -/
def readingOf (rs : List (Fin 104 × Reading)) (i : Nat) : Reading :=
  match rs.find? (fun r => r.1.val == i) with
  | some r => r.2
  | none => .openOrShort

/-- The cross-check (R381, R382), with the validity of the neighbours in `v`. A measurement without one ends a row of consecutive
measurements; an open or shorted sensor gives no reading to check (DEDUCED; log entry 21). -/
def crossCheck (v : State) (rs : List (Fin 104 × Reading)) (i : Nat) (s : State) : State :=
  let x := tempAt s i
  match neighbourMedian v s i with
  | none => modTemp i (fun x => { x with devOver := 0, devUnder := 0 }) s
  | some m =>
    if readingOf rs i == .openOrShort then modTemp i (fun x => { x with devOver := 0, devUnder := 0 }) s
    else
      let dev : Rat := (x.reading : Rat) - (m + x.offset)
      let lim : Rat := (thermParN s 0x9F00 * 10 : Nat)
      let up := if lim < |dev| then x.devOver + 1 else 0
      let down := if |dev| ≤ lim - 50 then x.devUnder + 1 else 0
      let enter := !x.suspect && decide (3 ≤ up)
      let leave := x.suspect && decide (100 ≤ down)
      let s := modTemp i (fun x => { x with dev := dev, devOver := min 3 up, devUnder := if leave then 0 else min 100 down,
                                            suspect := (x.suspect || enter) && !leave }) s
      if enter then note 0x0702 (srcTemp i) [] s else s

/-- The value after the cross-check (R383): F-0707 where the sensor loses its value, and F-0704 where the frets applied for it leave 0
(R387); its rate is then undefined. -/
def takeValue (v : State) (i : Nat) (s : State) : State :=
  let x := tempAt s i
  if !x.invalid && !x.suspect then modTemp i (fun x => { x with value := x.reading, noval := false }) s
  else match neighbourMedian v s i with
    | some m => modTemp i (fun x => { x with value := roundRat (m + x.offset), noval := false }) s
    | none =>
      let s := modTemp i (fun x => { x with noval := true, fret := thermParN s 0x9F03, hist := [], rising := false }) s
      let s := if x.noval then s else note 0x0707 (srcTemp i) [] s
      if x.fret = 0 ∧ 0 < thermParN s 0x9F03 ∧ sensorClass i ≠ 0 then note 0x0704 (srcTemp i) [] s else s

/-- Rate of rise in 0.1 K/s: the value minus the value 1 s earlier; none while undefined (R380). -/
def rateOf (now : Nat) (x : Sensor) : Option Int :=
  (x.hist.find? (fun p => decide (p.1 + 400000000 ≤ now))).map (fun p => x.value - p.2)

/-- The history kept for the rate: the last second, and the newest entry before it. -/
def keepHist (now : Nat) : List (Nat × Int) → List (Nat × Int)
  | [] => []
  | p :: rest => if p.1 + 400000000 ≤ now then [p] else p :: keepHist now rest

/-- The rise rule (R388). -/
def riseRule (i : Nat) (rate : Option Int) (s : State) : State :=
  let thr := classPar s i 4
  match rate with
  | none => modTemp i (fun x => { x with rising := false }) s
  | some r =>
    if (tempAt s i).rising then modTemp i (fun x => { x with rising := decide (thr ≤ 2 * r) }) s
    else if thr < r then note 0x0703 (srcTemp i) [] (modTemp i (fun x => { x with rising := true }) s)
    else s

/-- The temperature that the frets are computed from (R386, R388), in 0.1 degrees. -/
def fretTemp (s : State) (i : Nat) (rate : Option Int) : Rat :=
  let x := tempAt s i
  if x.rising then (x.value : Rat) + ((rate.getD 0 : Int) : Rat) * (thermParN s 0x9F02 : Nat) / 10 else (x.value : Rat)

/-- The steps down of R386: one fret of hysteresis. -/
def fretDown (t warn w : Rat) : Nat → Nat
  | 0 => 0
  | k + 1 => if t ≤ warn + ((k + 1 : Nat) - 2 : Rat) * w then fretDown t warn w k else k + 1

/-- The fret count of a sensor outside the die class (R386). -/
def fretCount (t warn w : Rat) (k : Nat) : Nat :=
  let up := min 32 (max 0 (Rat.ceil ((t - warn) / w))).toNat
  if k < up then up else fretDown t warn w k

/-- Frets, or the cap flag of the die class; F-0704 as the count leaves 0 (R386, R387). -/
def fretRule (i : Nat) (rate : Option Int) (s : State) : State :=
  let x := tempAt s i
  let warn := tWarn s i
  let k := if sensorClass i = 0 then
      (if warn ≤ x.value then 1 else if x.value < warn - 50 then 0 else min 1 x.fret)
    else fretCount (fretTemp s i rate) warn (((tLim s i - warn : Int) : Rat) / 32) x.fret
  let s := modTemp i (fun x => { x with fret := k }) s
  if x.fret = 0 ∧ 0 < k then note 0x0704 (srcTemp i) [] s else s

/-- The rate at which the sensor is measured (R379). -/
def fastRule (i : Nat) (s : State) : State :=
  let w := tWarn s i
  modTemp i (fun x => { x with fast := decide (w - 100 ≤ x.value) || (x.fast && decide (w - 120 ≤ x.value)) }) s

/-- t_ramp of R389 in ms: the largest among the machines in scope, of the torque that their thermal limit leaves. -/
def rampMs (s : State) (ms : List Nat) : Rat :=
  ms.foldl (fun a m => max a (min |puRat (machAt s m).tRef| (machAt s m).tLim * 1000 / (mParN s m 0x2A : Nat))) 0

/-- The code that the stop and trip rules give (R389). -/
def stopCode (s : State) (i : Nat) (rate : Option Int) : Option Nat :=
  let x := tempAt s i
  if x.value < tWarn s i then none
  else if tTrip s i ≤ x.value then some 0x0706
  else
    let soon := match rate with
      | some r => decide (0 < r ∧ ((tTrip s i - x.value : Int) : Rat) / (r : Rat) * 1000 ≤ rampMs s (sensorMachines s i) + 2)
      | none => false
    if soon then some 0x0706 else if tStop s i ≤ x.value then some 0x0705 else none

/-- F-0705 or F-0706 for one machine, unless it stands for that sensor and machine (R389). -/
def raiseHot (code i m : Nat) (s : State) : State :=
  let x := tempAt s i
  if (if code = 0x0705 then x.f705 else x.f706).contains m then s
  else
    let s := modTemp i (fun x => if code = 0x0705 then { x with f705 := x.f705 ++ [m] } else { x with f706 := x.f706 ++ [m] }) s
    raiseWhy RS_THERMAL code i (srcTemp i) (.machine m) [] s

/-- The stop and trip rules, and their re-enabling below T_stop - 5 K (R389). -/
def stopRule (i : Nat) (rate : Option Int) (s : State) : State :=
  let s := if (tempAt s i).value < tStop s i - 50 then modTemp i (fun x => { x with f705 := [], f706 := [] }) s else s
  match stopCode s i rate with
  | some code => forEach (sensorMachines s i) (raiseHot code i) s
  | none => s

/-- The comparisons made on the value after the cross-check (R379). -/
def judge (i : Nat) (s : State) : State :=
  let s := modTemp i (fun x => { x with hist := (s.time.dev, x.value) :: keepHist s.time.dev x.hist }) s
  let rate := rateOf s.time.dev (tempAt s i)
  stopRule i rate (fastRule i (fretRule i rate (riseRule i rate s)))

/-- 100 ms of the timebase (R379). -/
def slowPeriod : Nat := 40000000

/-- A period has passed since something was last done, or it has not been done yet. -/
def periodOver (s : State) (last : Option Nat) (ticks : Nat) : Bool :=
  match last with
  | some t => decide (t + ticks ≤ s.time.dev)
  | none => true

/-- The sensors that this measurement takes, in order of index: read, and their period over (R377, R379). -/
def measuredNow (s : State) (rs : List (Fin 104 × Reading)) : List Nat :=
  (List.range 104).filter (fun i => rs.any (fun r => r.1.val == i) && sensorRead s i &&
    periodOver s (tempAt s i).measAt (if isFast s i then 400000 else slowPeriod))

/-- What a measurement does to one sensor after the cross-check (R383, R386 to R389). -/
def settleSensor (v : State) (i : Nat) (s : State) : State :=
  let s := takeValue v i s
  if (tempAt s i).noval then s else judge i (trendAdd i (tempAt s i).value s)

/-- R379, R382: one measurement by the main pair: every reading, then every cross-check, then every value, in order of index. -/
def execTempMeasurement (readings : List (Fin 104 × Reading)) (s : State) : Out :=
  if mainUp s then
    let s := forgetUnread { s with dev := { s.dev with oldThermal := none } }
    let l := measuredNow s readings
    let v := s
    let s := forEach l (fun i => takeReading i (readingOf readings i)) s
    .next (updateCap (forEach l (settleSensor v) (forEach l (crossCheck v readings) s)))
  else .next s

/-- R384: the learned offset of an eligible sensor, every 100 ms. -/
def execOffsetLearn (i : Fin 104) (s : State) : Out :=
  let x := tempAt s i
  if mainUp s && sensorRead s i && x.read && !x.invalid && !x.suspect && periodOver s x.learnAt slowPeriod then
    match neighbourMedian s s i with
    | some m =>
      let dev : Rat := (x.reading : Rat) - (m + x.offset)
      let o := x.offset + dev * (1 / 10) / (thermParN s 0x9F01 : Nat)
      .next (modTemp i (fun x => { x with learnAt := some s.time.dev, dev := dev, offset := clampRat ((thermParN s 0x9F00 * 5 : Nat) : Rat) o }) s)
    | none => .next s
  else .next s

/-- The median of the monitor pair's own readings of a sensor's valid neighbours, with at least two of them (R390). -/
def ownMedian (s : State) (i : Nat) : Option Rat :=
  let l := ((neighbours s i).filter (fun j => sensorRead s j && !(tempAt s j).invalid && !(tempAt s j).suspect)).filterMap (fun j => (tempAt s j).own)
  if l.length < 2 then none else some (median l)

/-- The value that the monitor pair judges: the reading of its own path, or the neighbour median without offset for a sensor that is
suspect or invalid, to the main pair or on its own path (R390). -/
def monitorValue (s : State) (i : Nat) : Option Rat :=
  let x := tempAt s i
  match x.own with
  | some t => if x.invalid || x.suspect then ownMedian s i else some (t : Rat)
  | none => ownMedian s i

/-- The monitor pair's F-0706 for one machine (R390). -/
def raiseTrip (i m : Nat) (s : State) : State :=
  if (tempAt s i).f706m.contains m then s
  else raiseWhy RS_THERMAL 0x0706 i (srcTemp i) (.machine m) [] (modTemp i (fun x => { x with f706m := x.f706m ++ [m] }) s)

/-- The monitor pair's own reading has fallen below T_stop - 5 K (R390). -/
def readsBelow (s : State) (i : Nat) : Reading → Bool
  | .value raw => decide (inputTemp s i raw < tStop s i - 50)
  | .openOrShort => false

/-- R390: the trip rule of the monitor pair, every 100 ms. -/
def execMonitorTripCheck (i : Fin 104) (r : Reading) (s : State) : Out :=
  if monUp s && sensorRead s i && periodOver s (tempAt s i).monAt slowPeriod then
    let s := modTemp i (fun x => { x with monAt := some s.time.dev, own := validReading s i r }) s
    let s := if readsBelow s i r then modTemp i (fun x => { x with f706m := [] }) s else s
    match monitorValue s i with
    | some t => if (tTrip s i : Rat) ≤ t then .next (forEach (sensorMachines s i) (raiseTrip i) s) else .next s
    | none => .next s
  else .next s

/-! ### Temperature compensation (R392, R311) -/

/-- The source of a sensing bank: its domain, D6 or D7 (Table 17.5). -/
def srcBank : Bank → U16
  | .a => srcDom 6
  | .b => srcDom 7

/-- The bridges that are not DISABLED. -/
def enabledBridges (s : State) : List Nat := (List.range 8).filter (fun b => stOf s b != .disabled)

/-- F-0306 for a bank whose reference differs from the bandgap by more than 0.3 % of it, at its entry into that condition (R311): an
orderly stop of every bridge that is not DISABLED, IDLE ones included. -/
def refCheck (bank : Bank) (gap ref : Int) (s : State) : State :=
  let bad := decide (3 * |gap| < 1000 * |ref - gap|)
  let was := match bank with
    | .a => s.dev.driftA
    | .b => s.dev.driftB
  let s := match bank with
    | .a => { s with dev := { s.dev with driftA := bad && (was || monUp s) } }
    | .b => { s with dev := { s.dev with driftB := bad && (was || monUp s) } }
  if bad && !was && monUp s then
    let lv := faultLevel s 0x0306
    let (e, s) := recordEvent 0x0306 lv (srcBank bank) [] s
    let ix := match bank with
      | .a => 0
      | .b => 1
    forEach (machinesOf s (enabledBridges s)) (fun m s => react lv 0x0306 ix (.machine m) true RS_BRIDGE_STATE e s) s
  else s

/-- The data of the factory record of a kind and instance; empty without one. -/
def factoryData (kind inst : Nat) : List Byte :=
  match Config.factoryRecord kind inst with
  | some r => r.2
  | none => []

/-- The compensation on the die sensors 0, 12 and 15 (R129, R392), from the factory records and what this start-up measured: outside the
crystal table its nearest end value is used, and F-0710 is recorded as the die temperature leaves it. -/
def compensate (s : State) : State :=
  let table := factoryData 5 0
  let range := Config.xtalRange table
  let die := (tempAt s 0).value
  let out := decide (die < range.1 ∨ range.2 < die)
  let peg := fun (k : Nat) => s.dev.startPegs.getD k []
  let was := s.dev.compLate
  let s := { s with dev := { s.dev with
    compLate := out, compAt := some s.time.dev, compTold := false
    comp := ⟨Config.xtalTable table (clampInt range.1 range.2 die), Config.rcTable (factoryData 6 0) (peg 0) die,
      Config.refTable (factoryData 7 0) (peg 1) (tempAt s 12).value, Config.refTable (factoryData 7 1) (peg 2) (tempAt s 15).value⟩ } }
  if out && !was then note 0x0710 (srcTemp 0) [] s else s

/-- R392: the compensation, every 100 ms, and the reference check of R311 that follows it, on what each bank's reference and the bandgap
read in microvolts. -/
def execTempCompensation (gapA refA gapB refB : Int) (s : State) : Out :=
  if mainUp s && periodOver s s.dev.compAt slowPeriod then .next (refCheck .b gapB refB (refCheck .a gapA refA (compensate s))) else .next s

/-- R392: a compensation not completed within 300 ms of the previous one raises F-0711, once for it. -/
def execTempCompensationLate (s : State) : Out :=
  let late := match s.dev.compAt with
    | some t => decide (t + 3 * slowPeriod < s.time.dev)
    | none => false
  if isUp s && late && !s.dev.compTold then .next (note 0x0711 (srcTemp 0) [] { s with dev := { s.dev with compTold := true } })
  else .next s

end Sys2Proof.Machine
end

