-- ==== Sys2Proof/Machine/Motor.lean ====
section
/-! DEFINITION. What the chapters on machines share: the position interface in use (R240, R561), speed (R291), base quantities
(R193), fluxes corrected for temperature (R204), and the rectification condition (R335). -/

namespace Sys2Proof.Machine

/-! ### Position interface of a machine -/

/-- The physical interface that serves machine `m`: P_ANG_IF, or its replacement (R561). -/
def machIf (s : State) (m : Nat) : Nat :=
  let p := mParN s m 0x19
  let r := (s.store.mapP.getD p 0xFF).toNat
  if r = 0xFF then p else r

/-- Mode of an interface: 0 off, 1 resolver, 2 sin/cos, 3 quadrature, 4 Hall (R266). -/
def posMode (s : State) (p : Nat) : Int := posPar s p 0

/-- The interface of machine `m` gives a valid angle. -/
def ifAngleOk (s : State) (m : Nat) : Bool :=
  let x := posAt s (machIf s m)
  posPar s (machIf s m) 0 != 0 && x.angleValid && !x.faulty && !x.retired

/-- The interface of machine `m` gives a valid speed (R270). -/
def ifSpeedOk (s : State) (m : Nat) : Bool :=
  let x := posAt s (machIf s m)
  posPar s (machIf s m) 0 != 0 && x.speedValid && !x.faulty && !x.retired

/-- Machine `m` has a position interface at all: P_ANG_SRC 0 or 2. -/
def hasIf (s : State) (m : Nat) : Bool := mPar s m 0x18 != 1

/-- The interface is the angle source of machine `m` (R240, R263). -/
def usesIf (s : State) (m : Nat) : Bool :=
  mPar s m 0x18 == 0 || (mPar s m 0x18 == 2 && ifAngleOk s m && !(machAt s m).onObs)

/-- Machine `m` is a PMSM. -/
def isPmsm (s : State) (m : Nat) : Bool := mPar s m 0 == 0

/-- Sensor cycles per mechanical revolution of machine `m`'s interface: pole pairs in Hall mode, P_RES_PP for a resolver (R268,
R288, R291). -/
def ifCycles (s : State) (m : Nat) : Int :=
  match posPar s (machIf s m) 0 with
  | 1 => posPar s (machIf s m) 3
  | 4 => mPar s m 0x03
  | _ => 1

/-- The interface's speed in PU18 of P_SPD_BASE (R288, R291). -/
def ifSpeedPu (s : State) (m : Nat) : Int :=
  toPu18 (posAt s (machIf s m)).rpm100 (mPar s m 0x06 * 100 * ifCycles s m)

/-- The speed of machine `m` in PU18: of a valid interface in use, else the field engine's. -/
def machSpeed (s : State) (m : Nat) : Int :=
  if hasIf s m && ifSpeedOk s m && !(machAt s m).onObs then ifSpeedPu s m else (machAt s m).spd

/-- The speed of machine `m` in rpm. -/
def speedRpm (s : State) (m : Nat) : Rat := puRat (machSpeed s m) * (mPar s m 0x06 : Rat)

/-- |speed| in PU18 is below `code` tenths of a percent of base speed. -/
def belowTenths (spd : Int) (code : Nat) : Bool := decide (|spd| * 1000 < (code : Int) * 32768)

/-- |speed| is above a limit in tenths of a percent of base speed. -/
def aboveTenths (spd : Int) (code : Nat) : Bool := decide ((code : Int) * 32768 < |spd| * 1000)

/-- |speed| is below P_FW_SPEED (R330). -/
def belowFwSpeed (s : State) (m : Nat) : Bool := belowTenths (machSpeed s m) (fwPar s m 0)

/-! ### Divided outputs (R292, R293) -/

/-- Item of output `k`. -/
def poutPar (s : State) (k item : Nat) : Int := par s (0x5800 + 0x10 * k + item)

/-- Output `k` is the B half of a quadrature pair. -/
def poutIsB (s : State) (k : Nat) : Bool := k % 2 == 1 && poutPar s (k - 1) 3 == 1

/-- The source of output `k` is interface `p`. -/
def poutFrom (s : State) (p k : Nat) : Bool :=
  poutPar s k 0 == (posInst s p : Int) && poutPar s k 3 != 2 && !poutIsB s k

/-- The outputs of an interface that is not SPEED_VALID stop and discard their queues (R293). -/
def stopPouts (p : Nat) (s : State) : State :=
  forEach ((List.range 4).filter (poutFrom s p)) (fun k => modPout k (fun x => { x with acc := 0, queue := [], full := false })) s

/-! ### Base quantities (R193) and fluxes -/

/-- ω_b in rad/s. -/
def omegaBase (s : State) (m : Nat) : Rat := 2 * Config.pi * (mPar s m 0x03 : Rat) * (mPar s m 0x06 : Rat) / 60
/-- ψ_b in Vs. -/
def psiBase (s : State) (m : Nat) : Rat := (mPar s m 0x05 : Rat) / omegaBase s m
/-- Z_b in ohms. -/
def zBase (s : State) (m : Nat) : Rat := (mPar s m 0x05 : Rat) / (mPar s m 0x04 : Rat)
/-- An inductance item (0.1 uH) in per unit. -/
def lPu (s : State) (m item : Nat) : Rat := omegaBase s m * ((mPar s m item : Rat) / 10000000) / zBase s m
/-- A resistance item (1 uOhm) in per unit, at 20 degrees. -/
def rPu (s : State) (m item : Nat) : Rat := (mPar s m item : Rat) / 1000000 / zBase s m
/-- A flux item (1 uVs) in per unit. -/
def fluxPu (s : State) (m item : Nat) : Rat := (mPar s m item : Rat) / 1000000 / psiBase s m
/-- Number of sets of machine `m`. -/
def nSets (s : State) (m : Nat) : Nat := if sixLower s m then 2 else 1
/-- k_t of R194 for a number of sets. -/
def kTorque (s : State) (m sets : Nat) : Rat :=
  3 / 2 * (sets : Nat) * (mPar s m 0x03 : Rat) * psiBase s m * (mPar s m 0x04 : Rat) / (mPar s m 0x08 : Rat)

/-! ### Corrections of the bank converters (R121, R124, R304) -/

/-- Instance of converter `c` in records of kind 0x0001: bank B has 0x100 plus the converter (log entry 29). -/
def convInst (k : Bank) (c : Nat) : Nat :=
  match k with
  | .a => c
  | .b => 0x100 + c

/-- The 12 data bytes of a record of kind 0x0001 (R121). -/
def corrBytes (c : Corr) : List Byte := beInt 4 c.offset ++ beBytes 4 c.gain.toNat ++ beInt 2 c.tcOffset ++ beInt 2 c.tcGain

/-- The correction that a record's temperature and data hold. -/
def parseCorr (temp : Int) (d : List Byte) : Corr :=
  ⟨signed 32 (field d 0 4), field d 4 4, signed 16 (field d 8 2), signed 16 (field d 10 2), temp⟩

/-- The factory correction of a converter; no correction where no such record is held. -/
def factoryCorr (k : Bank) (c : Nat) : Corr :=
  match Config.factoryRecord 1 (convInst k c) with
  | some (temp, d) => if d.length = 12 then parseCorr temp d else Corr.unity
  | none => Corr.unity

/-- Offset in 1/256 code and gain in 2^-30 of a correction at a temperature in 0.1 degrees. -/
def corrAt (c : Corr) (temp : Int) : Rat × Rat :=
  let dk : Rat := ((temp - c.temp : Int) : Rat) / 10
  ((c.offset : Rat) + c.tcOffset * dk, (c.gain : Rat) * (1 + c.tcGain * dk / 10000000))

/-- What a converter computes from its references (R124): the offset at 0 V, and the gain over the 32,768 codes between -2.5 V and
+2.5 V; its coefficients are those of the factory record. -/
def measuredCorr (k : Bank) (c : Nat) (m : ConvCal) (temp : Int) : Corr :=
  let f := factoryCorr k c
  ⟨m.zero, if m.neg < m.pos then roundDiv (2 ^ 30 * 8388608) (m.pos - m.neg) else 0, f.tcOffset, f.tcGain, temp⟩

/-- A measured correction passes against the factory record corrected to its temperature (R123, R124): ±64 codes and ±0.5 %. -/
def corrPasses (k : Bank) (c : Nat) (x : Corr) : Bool :=
  let f := corrAt (factoryCorr k c) x.temp
  decide (|(x.offset : Rat) - f.1| ≤ 64 * 256 ∧ |(x.gain : Rat) - f.2| * 200 ≤ f.2)

/-- The two results of an island's calibration that a kind of record holds: 0x0002 or 0x0003 (R127, Table 3.9). -/
def calPair (kind : Nat) (x : IslandCal) : Int × Int := if kind = 2 then (x.offset, x.gain) else (x.gateRef, x.uvloRef)

/-- The results of the calibration of island `c` pass against its factory records (R123, R127, R128). Their limits and the layout of their
data are not in the spec (DESIGN CHOICE: an opaque judgement of the data and the results; log entry 51). -/
def islandPasses (c : Nat) (x : IslandCal) : Bool :=
  [2, 3].all (fun k => Config.islandWithin k ((Config.factoryRecord k c).elim [] (·.2)) (calPair k x).1 (calPair k x).2)

/-- The data of the start-up record of island `c` of a kind (R121). -/
def islandData (s : State) (kind c : Nat) : List Byte :=
  Config.islandRecord kind (calPair kind (chanAt s c).cal).1 (calPair kind (chanAt s c).cal).2

/-- The correction in force of converter `b` of a bank. -/
def corrOf (s : State) (k : Bank) (b : Nat) : Corr :=
  match k with
  | .a => (bridgeAt s b).corrA
  | .b => (bridgeAt s b).corrB

/-- The die sensor that a bank's corrections follow (R392). -/
def bankDie : Bank → Nat
  | .a => 12
  | .b => 15

/-- The correction in force of a bank's reference, in ppm (R392). -/
def refComp (s : State) : Bank → Int
  | .a => s.dev.comp.refA
  | .b => s.dev.comp.refB

/-- A raw converter code, corrected by the peg record (R304) and for the bank's reference (R392). -/
def corrected (s : State) (k : Bank) (b : Nat) (code : Int) : Rat :=
  let c := corrAt (corrOf s k b) (tempAt s (bankDie k)).value
  ((code : Rat) - c.1 / 256) * c.2 / 2 ^ 30 * (1 + (refComp s k : Rat) / 1000000)

/-- A record of the CSET in force. -/
def ownerPeg (s : State) (kind inst : Nat) : Option Peg :=
  s.store.owner.find? (fun p => p.kind.toNat == kind && p.inst.toNat == inst)

/-- T_ref of R204: 20 degrees, or the creation temperature of the flux map in use. -/
def fluxRefTemp (s : State) (m : Nat) : Rat :=
  if mPar s m 0x2B = 1 ∧ (machAt s m).mapUsed then
    match ownerPeg s 0x0102 m with
    | some p => (p.temp : Rat) / 10
    | none => 20
  else 20

/-- The factor by which magnet flux is corrected for temperature (R204). -/
def fluxFactor (s : State) (m : Nat) : Rat :=
  1 + (mPar s m 0x0E : Rat) / 100000 * (windingTemp s m - fluxRefTemp s m)

/-- ψ_m in per unit, corrected (R204). -/
def psiMPu (s : State) (m : Nat) : Rat := fluxPu s m 0x09 * fluxFactor s m

/-- R_s in per unit, corrected with 0.393 %/K (R204). -/
def rsPu (s : State) (m : Nat) : Rat := rPu s m 0x0C * (1 + 393 / 100000 * (windingTemp s m - 20))

/-! ### Rectification (R335) -/

/-- Peak of the line-to-line back-EMF in volts: √3 ψ_m |ω_e|, at a speed in PU18. -/
def emfPeak (s : State) (m : Nat) (spd : Int) : Rat :=
  Config.sqrt 3 * psiMPu s m * psiBase s m * (|puRat spd| * omegaBase s m)

/-- The condition of R335 for machine `m`: a PMSM whose estimated back-EMF peak exceeds 0.95 V_LG, or whose link has no
reading. -/
def rectifies (s : State) (m : Nat) : Bool :=
  isPmsm s m &&
    match (lgAt s (machLg s m)).vlg with
    | some v => decide (95 / 100 * ((v : Rat) / 1000) < emfPeak s m (machSpeed s m))
    | none => true

/-! ### Gates of a whole machine -/

/-- The legs of a machine. -/
def machLegs (s : State) (m : Nat) : List Nat := (machBridges s m).flatMap (bridgeLegs s)

/-- Every high island of the machine is Operating (R147). -/
def allOperating (s : State) (m : Nat) : Bool := (machLegs s m).all (fun l => (highOf s l).operating)

/-- Every bridge of the machine takes a state. -/
def setBridges (st : BridgeState) (m : Nat) (s : State) : State :=
  forEach (machBridges s m) (fun b => modBridge b (fun br => { br with st := st })) s

/-- Every switch of the machine off. -/
def machSwitchesOff (m : Nat) (s : State) : State := forEach (machBridges s m) switchesOff s

/-- A machine's active bridges go to IDLE with every switch off, and the machine leaves ARMED and RUNNING (Table 4.6). -/
def toIdle (m : Nat) (s : State) : State :=
  let act := (machBridges s m).filter (fun b => isActive (stOf s b))
  let was := machRunning s m
  let s := forEach act (fun b s => switchesOff b (modBridge b (fun br => { br with st := .idle, pulseOk := false }) s)) s
  let s := machineLeaves m s
  if was then modMach m (fun x => { x with leftRun := some s.time.dev }) s else s

/-- The context of machine `m` ends. -/
def finishMach (m : Nat) (status : U16) (data : List Byte) (s : State) : State :=
  let t := (machAt s m).tag
  modMach m (fun x => { x with tag := none }) (finishOpt t status data s)

/-! ### The angle source (R227, R260, R261, R263) -/

/-- Injection mode is available: a saliency of at least 1.05 is stored (R261). -/
def injectionOk (s : State) (m : Nat) : Bool :=
  match (machAt s m).saliency with
  | some v => decide (1050 ≤ v)
  | none => false

/-- R261: the torque is brought to zero and switching stops; F-040B, once. A RETIRE in progress ends with it, and any other ramp goes to
zero already. -/
def coastMachine (m : Nat) (s : State) : State :=
  let s := if (machAt s m).raised.contains 0x040B then s
    else note 0x040B (srcMach m) [] (modMach m (fun x => { x with raised := 0x040B :: x.raised }) s)
  match (machAt s m).ramp with
  | .none => modMach m (fun x => { x with ramp := .coast }) s
  | .retire _ _ =>
    modMach m (fun x => { x with ramp := .coast, halfLim := false })
      (finishMach m ST_WRONG_STATE (detail RS_BRIDGE_STATE (BitVec.ofNat 8 m) 0) s)
  | _ => s

/-- R263: the field engine of a RUNNING machine hands the angle to the observer. Between P_OBS_LO and P_OBS_HI it takes back-EMF mode (DESIGN
CHOICE: the spec says "the mode chosen by speed" and fixes none there; log entry 51). -/
def handToObserver (m : Nat) (s : State) : State :=
  let inj := belowTenths (machSpeed s m) (mParN s m 0x69) && injectionOk s m
  let s := modMach m (fun x => { x with onObs := true, srcAge := 0, inject := inj }) s
  if belowTenths (machSpeed s m) (mParN s m 0x69) && !injectionOk s m then coastMachine m s else s

end Sys2Proof.Machine
end

