-- ==== Sys2Proof/Machine/Model.lean ====
section
/-! DEFINITION. The model of a machine that its field engine, the main pair and the monitor pair share: angles (R197, R215, R268), the
decomposition of currents (R194, R216), fluxes and the flux map (R203, R204), torque (R194), and the current references (R202, R203,
R205, R206, R213). Per-unit quantities are PU18 codes where State holds them and rationals in between. -/

namespace Sys2Proof.Machine

/-! ### Speed and angle -/

/-- Electrical revolutions per second at a speed in PU18 (R193). -/
def elecHz (s : State) (m : Nat) (spd : Int) : Rat := puRat spd * (mPar s m 0x06 : Rat) / 60 * (mPar s m 0x03 : Rat)

/-- ω_e in revolutions per second: with w_slip on an induction machine (R212). -/
def fieldHz (s : State) (m : Nat) : Rat :=
  elecHz s m (machSpeed s m) + (if isPmsm s m then 0 else (machAt s m).slip / (2 * Config.pi))

/-- ω_e in per unit of ω_b. -/
def fieldPu (s : State) (m : Nat) : Rat :=
  puRat (machSpeed s m) + (if isPmsm s m then 0 else (machAt s m).slip / omegaBase s m)

/-- ANG18 counts that the electrical angle turns in a number of ticks. -/
def turned (s : State) (m : Nat) (ticks : Rat) : Int := roundRat (fieldHz s m * ticks * 262144 / 400000000)

/-- A third of a revolution times `k`, in ANG18. -/
def thirds (k : Nat) : Nat := ang18 (roundDiv (k * 262144) 3)

/-- P_6P_SHIFT in ANG18. -/
def setShift (s : State) (m : Nat) : Nat := ang18 (roundDiv (mPar s m 0x02 * 262144) 360)

/-- Phase angle of leg `k` of set `j` (R215). -/
def phaseAngle (s : State) (m j k : Nat) : Nat := ang18 ((thirds k : Int) + (if j = 0 then 0 else setShift s m))

/-- The electrical offset of interface `p` (Table 8.1). -/
def elecOffset (s : State) (p : Nat) : Nat :=
  match ownerPeg s 0x0101 p with
  | some r => field r.data 0 4
  | none => 0

/-- Electrical revolutions of machine `m` in one revolution of its sensor angle (R268). -/
def ifFactor (s : State) (m : Nat) : Int :=
  match posMode s (machIf s m) with
  | 1 => mPar s m 0x03 / posPar s (machIf s m) 3
  | 4 => 1
  | _ => mPar s m 0x03

/-- θ_e of machine `m` from a sensor angle of its interface (R268). -/
def elecAngleOf (s : State) (m : Nat) (sensor : Int) : Nat := ang18 (ifFactor s m * sensor + elecOffset s (machIf s m))

/-- θ_e of machine `m` from its interface's latched sensor angle (R268). -/
def ifElecAngle (s : State) (m : Nat) : Nat := elecAngleOf s m (posAt s (machIf s m)).latTheta

/-! ### Sets and currents (R200, R216) -/

/-- The sets of a machine that the field engine controls: in degraded operation the healthy one (R230). -/
def controlledSets (s : State) (m : Nat) : List Nat :=
  if (machAt s m).degraded then [1 - (machAt s m).safedSet] else List.range (nSets s m)

/-- The bridge of set `j`. -/
def setBridge (s : State) (m j : Nat) : Nat := (machBridges s m).getD j m

/-- The mean of the two banks' currents. -/
def meanBanks (x : Samples) : List Int := (x.iA.zip x.iB).map (fun p => roundDiv (p.1 + p.2) 2)

/-- Currents of a bridge for control: bank A, or the mean of both banks in Precision sensing (R51), the other bank alone while one
recalibrates (R558), an EDGE sample replaced where it is the only one (R200). -/
def loopCurrents (s : State) (b : Nat) : List Int :=
  let br := bridgeAt s b
  let x := br.smp
  let l := if br.recalA then x.iB else if bSns s b 0 = 1 && !br.recalB then meanBanks x else x.iA
  let sum := l.foldl (· + ·) 0
  if (x.edge.filter id).length = 1 then
    (l.zip x.edge).map (fun p => if p.2 then -(sum - p.1) else p.1)
  else l

/-- Sum over the phases of one set of a quantity times a function of its angle. -/
def phaseSum (is : List Int) (angle : Nat → Nat) (f : Nat → Rat) : Rat :=
  (is.zipIdx.map (fun p => (p.1 : Rat) * f (angle p.2))).foldl (· + ·) 0

/-- A sum over sets of the quantity that `cur` gives for each bridge, with the amplitude of one phase (R216). -/
def setSum (s : State) (m : Nat) (js : List Nat) (cur : Nat → List Int) (w : Nat → Rat) (mul : Nat) (f : Nat → Rat) : Rat :=
  (js.map (fun j => w j * phaseSum (cur (setBridge s m j)) (fun k => ang18 (mul * phaseAngle s m j k)) f)).foldl
    (· + ·) 0 * 2 / (3 * (js.length : Nat))

/-- The α and β components of a quantity over the sets given (R216). -/
def alphaBeta (s : State) (m : Nat) (js : List Nat) (cur : Nat → List Int) : Rat × Rat :=
  let one := fun (_ : Nat) => (1 : Rat)
  (setSum s m js cur one 1 Config.cos18, setSum s m js cur one 1 Config.sin18)

/-- A vector seen from a frame at an angle. -/
def park (v : Rat × Rat) (th : Nat) : Rat × Rat :=
  (v.1 * Config.cos18 th + v.2 * Config.sin18 th, v.2 * Config.cos18 th - v.1 * Config.sin18 th)

/-- A vector of a frame at an angle, seen from the fixed frame. -/
def unpark (v : Rat × Rat) (th : Nat) : Rat × Rat :=
  (v.1 * Config.cos18 th - v.2 * Config.sin18 th, v.2 * Config.cos18 th + v.1 * Config.sin18 th)

/-- i_d and i_q in PU18 over the sets given (R194, R216). -/
def dqCurrents (s : State) (m : Nat) (js : List Nat) (cur : Nat → List Int) (th : Nat) : Int × Int :=
  let p := park (alphaBeta s m js cur) th
  (satPu18 (roundRat p.1), satPu18 (roundRat p.2))

/-- The frame of the x-y loops: θ_e for a shift of 0°, -θ_e for 30° (R217). -/
def xyFrame (s : State) (m th : Nat) : Nat := if mPar s m 0x02 = 30 then ang18 (-(th : Int)) else th

/-- i_x and i_y in PU18 (R216, R217): of a six-phase machine with both sets. -/
def xyCurrents (s : State) (m th : Nat) : Int × Int :=
  if nSets s m = 2 ∧ !(machAt s m).degraded then
    let js := [0, 1]
    let one := fun (_ : Nat) => (1 : Rat)
    let diff := fun (j : Nat) => if j = 0 then (1 : Rat) else -1
    let cur := loopCurrents s
    let v :=
      if mPar s m 0x02 = 30 then (setSum s m js cur one 5 Config.cos18, setSum s m js cur one 5 Config.sin18)
      else (setSum s m js cur diff 1 Config.cos18, setSum s m js cur diff 1 Config.sin18)
    let p := park v (xyFrame s m th)
    (satPu18 (roundRat p.1), satPu18 (roundRat p.2))
  else (0, 0)

/-! ### The flux map (R203, Table 6.4) -/

/-- A flux map: the axes in PU18 and the tables in uVs, row by i_d. -/
structure FluxMap where
  idAxis : List Int
  iqAxis : List Int
  psiD : List Int
  psiQ : List Int
deriving DecidableEq, Repr

/-- `n` signed 32-bit words from byte `i`. -/
def words32 (d : List Byte) (i n : Nat) : List Int := (List.range n).map (fun k => signed 32 (field d (i + 4 * k) 4))

/-- The flux map that the data of a record of kind 0x0102 hold (Table 6.4); none where the sizes are not those of the layout. -/
def parseMap (d : List Byte) : Option FluxMap :=
  let nd := field d 0 1
  let nq := field d 1 1
  let at_ := 4 + 4 * nd + 4 * nq
  if 6 ≤ nd ∧ nd ≤ 20 ∧ 6 ≤ nq ∧ nq ≤ 20 ∧ d.length = at_ + 8 * nd * nq then
    some ⟨words32 d 4 nd, words32 d (4 + 4 * nd) nq, words32 d at_ (nd * nq), words32 d (at_ + 4 * nd * nq) (nd * nq)⟩
  else none

/-- Each entry and the next one satisfy a relation. -/
def eachNext (r : Int → Int → Bool) (l : List Int) : Bool := (l.zip (l.drop 1)).all (fun p => r p.1 p.2)

/-- ψ_d i_q - ψ_q i_d along row `i` of a map. -/
def mapRow (x : FluxMap) (i : Nat) : List Int :=
  x.iqAxis.zipIdx.map (fun q =>
    let k := i * x.iqAxis.length + q.2
    x.psiD.getD k 0 * q.1 - x.psiQ.getD k 0 * x.idAxis.getD i 0)

/-- The map passes the checks of R203: strictly increasing axes, an i_d axis with 0, an i_q axis from 0, and a torque monotonic in i_q
at every i_d. -/
def mapPasses (x : FluxMap) : Bool :=
  let less := fun (a b : Int) => decide (a < b)
  eachNext less x.idAxis && eachNext less x.iqAxis && x.idAxis.contains 0 && x.iqAxis.head? == some 0 &&
    (List.range x.idAxis.length).all (fun i =>
      eachNext (fun a b => decide (a ≤ b)) (mapRow x i) || eachNext (fun a b => decide (b ≤ a)) (mapRow x i))

/-- The map of machine `m`'s owner record, where it has one that passes (R203). -/
def goodMap (s : State) (m : Nat) : Option FluxMap :=
  match ownerPeg s 0x0102 m with
  | some p => (parseMap p.data).filter mapPasses
  | none => none

/-- The map in use by machine `m`, with the record's data; none with the analytic map. -/
def usedMap (s : State) (m : Nat) : Option (FluxMap × List Byte) :=
  if mPar s m 0x2B = 1 ∧ (machAt s m).mapUsed then
    match ownerPeg s 0x0102 m, goodMap s m with
    | some p, some x => some (x, p.data)
    | some _, none => none
    | none, _ => none
  else none

/-- The fluxes of a map in uVs: the tables on the grid; between the points the spec states none (log entry 20). -/
def mapPoint (x : FluxMap) (d : List Byte) (id : Int) (iq : Nat) : Rat × Rat :=
  let i := x.idAxis.idxOf id
  let j := x.iqAxis.idxOf (iq : Int)
  if i < x.idAxis.length ∧ j < x.iqAxis.length then
    ((x.psiD.getD (i * x.iqAxis.length + j) 0 : Rat), (x.psiQ.getD (i * x.iqAxis.length + j) 0 : Rat))
  else Config.mapBetween d id iq

/-- ψ_d and ψ_q of a map in per unit: for negative i_q by symmetry (R203), the magnet flux, which is that at no current, corrected for
temperature (R204). -/
def mapFluxes (s : State) (m : Nat) (x : FluxMap) (d : List Byte) (id iq : Int) : Rat × Rat :=
  let p := mapPoint x d id iq.natAbs
  let magnet := (mapPoint x d 0 0).1
  let scale := 1000000 * psiBase s m
  ((p.1 + magnet * (fluxFactor s m - 1)) / scale, (if iq < 0 then -p.2 else p.2) / scale)

/-! ### Fluxes and torque (R194, R202 to R207, R212) -/

/-- The constants of an induction machine in per unit: what its fluxes depend on beside the currents. -/
def imConsts (s : State) (m : Nat) : List Rat :=
  [(machAt s m).psiR, lPu s m 0x10, lPu s m 0x11, lPu s m 0x0A, lPu s m 0x0B]

/-- ψ_d and ψ_q in per unit at currents in PU18, of the map in use (R207). -/
def machFluxes (s : State) (m : Nat) (id iq : Int) : Rat × Rat :=
  if isPmsm s m then
    match usedMap s m with
    | some x => mapFluxes s m x.1 x.2 id iq
    | none => (psiMPu s m + lPu s m 0x0A * puRat id, lPu s m 0x0B * puRat iq)
  else Config.imFluxes (imConsts s m) id iq

/-- The analytic map serves (R202). -/
def analytic (s : State) (m : Nat) : Bool := isPmsm s m && (usedMap s m).isNone

/-- Torque in per unit of currents in PU18 (R194). -/
def torqueOf (s : State) (m sets : Nat) (id iq : Int) : Rat :=
  let f := machFluxes s m id iq
  kTorque s m sets * (f.1 * puRat iq - f.2 * puRat id)

/-- Of two codes the one at which a function is nearer to a goal. -/
def nearerCode (f : Int → Rat) (t : Rat) (a b : Int) : Int := if |f b - t| < |f a - t| then b else a

/-- The code between `lo` and `hi` at which a monotonic function crosses a goal, by halving. -/
def searchCode (f : Int → Rat) (t : Rat) (up : Bool) : Nat → Int → Int → Int
  | 0, lo, hi => nearerCode f t lo hi
  | n + 1, lo, hi =>
    let mid := (lo + hi) / 2
    if (f mid < t) == up then searchCode f t up n mid hi else searchCode f t up n lo mid

/-- i_q in PU18 that gives a torque with `id` kept (R205): from the torque of R194, which is linear in i_q on the analytic map and
monotonic on a flux map. -/
def iqFor (s : State) (m sets : Nat) (id : Int) (t : Rat) : Int :=
  if analytic s m then
    ratPu18 (t / (kTorque s m sets * (psiMPu s m + (lPu s m 0x0A - lPu s m 0x0B) * puRat id)))
  else
    let f := torqueOf s m sets id
    searchCode f t (decide (f (-131072) ≤ f 131071)) 18 (-131072) 131071

/-- V_LG of the machine in per unit of P_V_BASE; 0 without a reading (R313). -/
def linkPu (s : State) (m : Nat) : Rat :=
  match (lgAt s (machLg s m)).vlg with
  | some v => (v : Rat) / 1000 / (mPar s m 0x05 : Rat)
  | none => 0

/-- P_I_MAX with the thermal derating, as a per-unit value (R387). -/
def currentLimit (s : State) (m : Nat) : Rat :=
  (mPar s m 0x20 : Rat) * (32 - ((machAt s m).frets : Rat)) / 32 / (mPar s m 0x04 : Rat)

/-- Current references held to the current limit: i_d kept within it, i_q reduced (R202, R206). -/
def limitCurrents (lim : Rat) (id iq : Int) : Int × Int :=
  let d := clampRat lim (puRat id)
  let room := Config.sqrt (lim * lim - d * d)
  if puRat id * puRat id + puRat iq * puRat iq ≤ lim * lim then (id, iq)
  else (ratPu18 d, if |puRat iq| ≤ room then iq else ratPu18 (clampRat room (puRat iq)))

/-! ### Current references (R202, R203, R213) -/

/-- The code of `n` from `c` on at which a cost is least, with that cost; where there is none a code costs nothing that counts. -/
def leastCost (cost : Int → Option Rat) : Nat → Int → Option (Int × Rat) → Option (Int × Rat)
  | 0, _, best => best
  | n + 1, c, best =>
    match cost c with
    | none => leastCost cost n (c + 1) best
    | some x => leastCost cost n (c + 1) (match best with
      | some y => if x < y.2 then some (c, x) else some y
      | none => some (c, x))

/-- psi_lim of R202 in per unit; no limit at standstill. -/
def fluxLimit (s : State) (m : Nat) : Option Rat :=
  let w := |puRat (machSpeed s m)|
  if w = 0 then none else some ((mPar s m 0x22 : Rat) / 10000 * 2 * linkPu s m / (Config.pi * w))

/-- i_q in per unit that gives torque `t` with `id`, where the PU18 range has one. -/
def contourIq (s : State) (m sets : Nat) (t : Rat) (id : Int) : Option Rat :=
  if analytic s m then
    let k := kTorque s m sets * (psiMPu s m + (lPu s m 0x0A - lPu s m 0x0B) * puRat id)
    if k = 0 ∨ 4 < |t / k| then none else some (t / k)
  else
    let f := torqueOf s m sets id
    let iq := iqFor s m sets id t
    if (f (-131072) ≤ t ∧ t ≤ f 131071) ∨ (f 131071 ≤ t ∧ t ≤ f (-131072)) then some (puRat iq) else none

/-- Squared current of the point of the torque contour at `id`, where its flux lies within the limit (R202). -/
def contourCost (s : State) (m sets : Nat) (lim : Option Rat) (t : Rat) (id : Int) : Option Rat :=
  match contourIq s m sets t id with
  | some iq =>
    let f := if analytic s m then (psiMPu s m + lPu s m 0x0A * puRat id, lPu s m 0x0B * iq) else machFluxes s m id (ratPu18 iq)
    let inside : Bool := match lim with
      | some l => decide (f.1 * f.1 + f.2 * f.2 ≤ l * l)
      | none => true
    if inside then some (puRat id * puRat id + iq * iq) else none
  | none => none

/-- The point of the torque contour with the smallest current among those within the flux limit: the maximum-torque-per-ampere point
where it lies within psi_lim, else the point at psi_lim with the smallest current, which is on the near side of the
maximum-torque-per-volt line (R202; log entry 20). -/
def contourPoint (s : State) (m sets : Nat) (lim : Option Rat) (t : Rat) : Option (Int × Int) :=
  (leastCost (contourCost s m sets lim t) 262144 (-131072) none).map (fun p =>
    (p.1, match contourIq s m sets t p.1 with
      | some iq => ratPu18 iq
      | none => 0))

/-- The largest torque code up to `hi` of a sign that a test admits, by halving. -/
def reachCode (ok : Nat → Bool) : Nat → Nat → Nat → Nat
  | 0, lo, _ => lo
  | n + 1, lo, hi => if ok ((lo + hi) / 2) then reachCode ok n ((lo + hi) / 2) hi else reachCode ok n lo ((lo + hi) / 2)

/-- The largest torque magnitude in PU18, up to `hi`, of a sign that has a point within a flux limit. -/
def reachTorque (s : State) (m sets : Nat) (lim : Option Rat) (sign : Int) (hi : Nat) : Nat :=
  reachCode (fun c => (contourPoint s m sets lim (puRat (sign * c))).isSome) 18 0 hi

/-- The tables of machine `m` from its flux map (R203): on grids and at the magnet temperature of the derivation, which the spec does not
state (DESIGN CHOICE: log entry 20). -/
def deriveTables (s : State) (m : Nat) (x : FluxMap) : MapTables :=
  let n := nSets s m
  let step := fun (top : Rat) (k : Nat) => top * (k : Rat) / 63
  let top := puRat (reachTorque s m n none 1 131071)
  let flux := (x.psiD.map Int.natAbs ++ x.psiQ.map Int.natAbs).foldl max 0 / (1000000 * psiBase s m) * 2
  { top := top
    currents := (List.range 64).map (fun k => (contourPoint s m n none (step top k)).getD (0, 0))
    flux := flux
    torques := (List.range 64).map (fun k => puRat (reachTorque s m n (some (step flux k)) 1 131071)) }

/-- A table of 64 points at `x` from 0 to 1, straight between its points. -/
def tableAt (l : List Rat) (x : Rat) : Rat :=
  let at_ := max 0 (min 63 (63 * x))
  let i := ⌊at_⌋.toNat
  let here := l.getD i 0
  here + (l.getD (min 63 (i + 1)) 0 - here) * (at_ - (i : Nat))

/-- The current references of a PMSM for a torque in PU18 by search over its contour (R202), and whether the torque is within the flux
limit: beyond it the point at which the maximum-torque-per-volt line meets psi_lim; without any point within it the one of least i_d. -/
def searchedRefs (s : State) (m sets : Nat) (t : Int) : (Int × Int) × Bool :=
  let lim := fluxLimit s m
  match contourPoint s m sets lim (puRat t) with
  | some p => (p, true)
  | none =>
    let sign : Int := if t < 0 then -1 else 1
    ((contourPoint s m sets lim (puRat (sign * reachTorque s m sets lim sign t.natAbs))).getD (-131072, 0), false)

/-- The current references for a torque in PU18 from the tables of a flux map (R203), whose torques are those of all sets together. The
flux-limit table bounds the torque; i_d is that of the torque-to-current table, and i_q gives the torque with the magnet flux at its
present temperature (R204, R205). Where that point lies beyond psi_lim the contour's point at psi_lim serves (R202). -/
def tabledRefs (s : State) (m sets : Nat) (x : MapTables) (t : Int) : (Int × Int) × Bool :=
  let share : Rat := (sets : Rat) / (nSets s m : Nat)
  let most := share * (match fluxLimit s m with
    | some l => tableAt x.torques (l / x.flux)
    | none => x.top)
  let torque := clampRat most (puRat t)
  let id := roundRat (tableAt (x.currents.map (fun p => (p.1 : Rat))) (|torque| / (share * x.top)))
  let iq := iqFor s m sets id torque
  let f := machFluxes s m id iq
  let inside : Bool := match fluxLimit s m with
    | some l => decide (f.1 * f.1 + f.2 * f.2 ≤ l * l)
    | none => true
  if inside then ((id, iq), decide (|puRat t| ≤ most)) else searchedRefs s m sets (ratPu18 torque)

/-- The current references of a PMSM for a torque in PU18, and whether the torque is within the flux limit: with a flux map from its
tables, otherwise from the parameters (R202, R203). -/
def pmsmRefs (s : State) (m sets : Nat) (t : Int) : (Int × Int) × Bool :=
  match if (usedMap s m).isSome then (machAt s m).tables else none with
  | some x => tabledRefs s m sets x t
  | none => searchedRefs s m sets t

/-- The flux reference of an induction machine in per unit, as the voltage loop lowers it (R213). -/
def fluxRef (s : State) (m : Nat) : Rat :=
  max 0 (fluxPu s m 0x13 / max 1 |fieldPu s m| + (machAt s m).dId)

/-- The current references of an induction machine: i_d from the flux reference, whose steady state under R212 is P_IM_LM i_d, and i_q
from the torque of R194. -/
def imRefs (s : State) (m sets : Nat) (t : Int) : Int × Int :=
  let id := ratPu18 (fluxRef s m / lPu s m 0x10)
  (id, iqFor s m sets id (puRat t))

/-! ### Entering RUNNING (R211, R252) -/

/-- The observer at rest on an angle and a speed, with the flux of the machine at no current (R259). -/
def Obs.from (s : State) (m th : Nat) (spd : Rat) : Obs :=
  let f := machFluxes s m 0 0
  let p := unpark f th
  { Obs.reset with psiA := p.1, psiB := p.2, theta := (th : Nat), speed := spd, active := |f.1| }

/-- What a machine that enters RUNNING starts its loops from: the integrators preloaded with a voltage vector, which is the first
one (R211, R252), and every count and limit of an earlier run at rest. While an entry to STANDBY waits the machine runs at zero
torque (R424). -/
def freshRun (vd vq : Int) (m : Nat) (s : State) : State :=
  modMach m (fun x => { x with
    frets := machFrets s m, tLim := 0, tRef := 0, tCmd := 0, integ := 0, inSpeed := false, idRef := 0, iqRef := 0, iD := 0, iQ := 0, iX := 0, iY := 0,
    intD := puRat vd, intQ := puRat vq, intX := 0, intY := 0, resX := (0, 0), resY := (0, 0), vX := 0, vY := 0, mDem := 0, fwInt := 0,
    dId := 0, vD := satPu18 vd, vQ := satPu18 vq, vLim := false, slew := 0, srcAge := 21, sixIn := 0, sixOut := 0, sixRamp := 0,
    six := false, sixInt := 0, cntDev := 0, cntAcc := 0, cntDir := 0, cntMod := 0, zcOk := 0, zcMiss := 0, zcAngle := false, trkCnt := 0, xyCnt := 0, clamped := false, curLim := false,
    reduced := none, f0211 := false, ramp := if s.pwr.sby.isSome then .standby else .none, slip := 0, ranAt := s.time.dev, raised := [] }) s

/-- The voltage that the model of machine `m` predicts at the present speed and zero current, at which an induction machine has no slip, d and q
(R211). -/
def modelVolts (s : State) (m : Nat) : Int × Int :=
  let f := machFluxes s m 0 0
  let w := puRat (machSpeed s m)
  (ratPu18 (-(w * f.2)), ratPu18 (w * f.1))

end Sys2Proof.Machine
end

