-- ==== Sys2Proof/Machine/Requests.lean ====
section
/-! DEFINITION. How a request is taken: the checks of Table 13.3 from the session on, the context it occupies (Table 13.4),
and the state rules of check 10 (R101, R108, R116, R472). A row of the opcode table stands for a request that passed checks 1 to
3, 5 and 7 and is dispatched at once (log entry 2). -/

namespace Sys2Proof.Machine

/-- The state sets of Table 14.3. -/
inductive StateSet where
  | any | op | opS | svc
deriving DecidableEq, Repr

/-- Every opcode of the manual with its state set (Tables 14.7 to 14.12). -/
def opcodeTable : List (Nat × StateSet) :=
  [(0x0100, .any), (0x0101, .any), (0x0102, .opS), (0x0103, .opS), (0x0104, .any),
   (0x0200, .op), (0x0201, .op), (0x0202, .op), (0x0203, .op), (0x0204, .op), (0x0205, .op), (0x0206, .op),
   (0x0207, .op), (0x0208, .op), (0x0209, .op), (0x020A, .op),
   (0x0300, .opS), (0x0301, .opS), (0x0302, .opS), (0x0303, .opS), (0x0400, .opS), (0x0401, .opS),
   (0x0500, .opS), (0x0501, .opS), (0x0502, .opS), (0x0503, .opS), (0x0504, .op),
   (0x0600, .opS), (0x0601, .opS), (0x0602, .opS), (0x0700, .any), (0x0701, .any), (0x0702, .any), (0x0703, .any),
   (0x0704, .svc), (0x0800, .op),
   (0x0900, .any), (0x0901, .svc), (0x0902, .opS), (0x0903, .opS), (0x0904, .opS),
   (0x0A00, .opS), (0x0A01, .opS), (0x0A02, .opS), (0x0A03, .opS), (0x0A04, .opS),
   (0x0B00, .opS), (0x0B01, .opS), (0x0B02, .opS), (0x0B03, .opS)]

/-- The opcode is defined (check 7). -/
def opcodeDefined (c : Nat) : Bool := opcodeTable.any (fun p => p.1 == c)
/-- The state set of an opcode. -/
def opcodeStates (c : Nat) : StateSet := ((opcodeTable.find? (fun p => p.1 == c)).map (·.2)).getD .svc
/-- Opcodes that need no session (R470). -/
def opcodeOpen (c : Nat) : Bool := [0x0100, 0x0101, 0x0700, 0x0701].contains c
/-- Opcodes on which URGENT is allowed (R457). -/
def opcodeUrgent (c : Nat) : Bool := [0x0201, 0x0202, 0x0203, 0x0204, 0x0903].contains c
/-- Opcodes that the recovery loader answers (R108). -/
def opcodeRecovery (c : Nat) : Bool :=
  [0x0100, 0x0101, 0x0700, 0x0701, 0x0702, 0x0500, 0x0501, 0x0502, 0x0503, 0x0103].contains c

/-- A transport is enabled: P_ETH_EN, or P_CAN_EN and P_VX_CAN_EN of a controller that is not in bus-off, and the gate of its block is
open (R407, R439, R440, R501). -/
def portOn (s : State) (p : Port) : Bool :=
  match portEth p, portCan p with
  | some i, _ => hasBit (netPar s 0x22) i && gateOpen s 2
  | none, some n => canPar s n 0 == 1 && canPar s n 0x40 == 1 && !(canAt s n).busOff && gateOpen s (3 + n)
  | none, none => true

/-- The network is served: from the end of step 3 of start-up, with D5 on (R101, R472). -/
def served (s : State) : Bool :=
  domOn s 5 && (isUp s || ((s.dev.ph == .boot || s.dev.ph == .calibrating) && decide (4 ≤ s.dev.step)))

/-- The command-context unit receives on a transport; the recovery loader only on ETH0 and CANF0 (R108). -/
def receives (s : State) (p : Port) : Bool :=
  served s && (if s.dev.recovery then p == .eth0 || p == .can0 else portOn s p)

/-- The main pair, or the recovery loader, dispatches: not while it restarts (R455, R346, R552). -/
def dispatches (s : State) : Bool := !s.safety.main.halted && s.store.handover.isNone

/-! ### Check 6 -/

/-- A host sequence number passes check 6 of a session (R449). -/
def seqOk (k : Session) (q : U32) : Bool :=
  serialAfter q k.high ||
    (decide (1 ≤ (k.high - q).toNat ∧ (k.high - q).toNat ≤ 64) && !hasBit k.seen.toNat ((k.high - q).toNat - 1))

/-- The session after an accepted sequence number (R449): bit i of `seen` stands for H - 1 - i. -/
def takeSeq (now : Nat) (q : U32) (k : Session) : Session :=
  if serialAfter q k.high then
    let d := (q - k.high).toNat
    let seen := (k.seen.toNat * 2 + 1) * 2 ^ (d - 1)
    { k with high := q, seen := if 65 ≤ d then 0 else BitVec.ofNat 64 seen, last := now, macFails := 0 }
  else
    { k with seen := k.seen ||| BitVec.ofNat 64 (2 ^ ((k.high - q).toNat - 1)), last := now, macFails := 0 }

/-! ### Refusals without a context -/

/-- A refusal that the command-context unit decides (R446, R467): detail with reason 0x00, no context. -/
def bounce (h : Hdr) (opcode : Nat) (status : U16) (s : State) : State :=
  (sendReply s.proto.origin h (BitVec.ofNat 16 opcode) false status (detail RS_NONE 0xFF 0) s).2

/-! ### Check 8 -/

/-- One unauthenticated request is counted (R447): whether it is within the rate limit, and the state. -/
def countUnauth (p : Port) (s : State) : Bool × State :=
  let win := s.time.dev / 400000000
  let pr := s.proto
  let pr := if pr.unauthWin = win then pr else { pr with unauthWin := win, unauth := List.replicate 8 0 }
  let n := pr.unauth.getD (portIx p) 0
  let limit := netPar s 0x44
  if n < limit then (true, { s with proto := { pr with unauth := pr.unauth.set (portIx p) (n + 1) } })
  else
    let s := { s with proto := { pr with unauthDrop := pr.unauthDrop + 1 } }
    (false, noteLimited 0x0905 (srcNet (portIx p)) ((win + 1) * 400000000) s)

/-! ### Checks 4, 6, 8 and 9 -/

/-- The generation of the session of a request; 0 without one. -/
def sessGen (s : State) (h : Hdr) : Nat :=
  if h.auth then match sessAt s h.session.toNat with
    | some k => k.gen
    | none => 0
  else 0

/-- Every operation that runs under tag `t` runs on under `u`. -/
def retag (t : Nat) (u : Option Nat) (s : State) : State :=
  let f := fun (x : Option Nat) => if x = some t then u else x
  { s with
    machs := s.machs.map (fun (x : Mach) => { x with tag := f x.tag })
    ctds := s.ctds.map (fun (x : Contactor) => { x with tag := f x.tag })
    lgs := s.lgs.map (fun (x : LinkGroup) =>
      { x with disWait := f x.disWait, dis := x.dis.map (fun d => { d with tag := f d.tag }) })
    store := { s.store with
      recal := s.store.recal.map (fun r => (r.1, r.2.1, f r.2.2)),
      pending := s.store.pending.map (fun p => { p with tag := f p.tag }),
      handover := s.store.handover.map (fun h => { h with tag := f h.tag }) }
    clk := { s.clk with fmTag := f s.clk.fmTag } }

/-- The lowest place after the 128 contexts that holds none left by a closed session. -/
def leftPlace (s : State) : Nat :=
  128 + ((s.proto.left.findIdx? (fun c => c.st == .free)).getD s.proto.left.length)

/-- A context left by a closed session, whose tag a new request takes, goes on after the 128: its command runs to its end or its deadline,
and keeps its place in a queue (Table 13.4; log entry 4). -/
def orphan (t : Nat) (s : State) : State :=
  let v := leftPlace s
  let c := ctxAt s t
  let keep := fun (q : Nat) => if q = t then v else q
  retag t (some v) { s with proto := { s.proto with
    left := s.proto.left.take (v - 128) ++ [c] ++ s.proto.left.drop (v - 127), urgentQ := s.proto.urgentQ.map keep, normalQ := s.proto.normalQ.map keep } }

/-- The place of a request or of a setpoint entry in the order of arrival (R456, R461). -/
def nextArrival (s : State) : Nat × State := (s.proto.arrivals, { s with proto := { s.proto with arrivals := s.proto.arrivals + 1 } })

/-- The context is occupied (Table 13.4): SHORT with a deadline of 250 ms. -/
def occupy (h : Hdr) (opcode : Nat) (payload : List Byte) (s : State) : State :=
  let s := if (ctxAt s h.tag.toNat).mute then orphan h.tag.toNat s else s
  let (n, s) := nextArrival s
  modCtx h.tag.toNat (fun _ => ⟨.short, h, BitVec.ofNat 16 opcode, payload, sessGen s h, s.time.dev + 100000000, none, false, none,
    s.proto.origin, n⟩) s

/-- Checks 7 to 9 of Table 13.3: whether the request passed, and the state. -/
def admitTail (h : Hdr) (opcode : Nat) (payload : List Byte) (s : State) : Bool × State :=
  if !opcodeDefined opcode then (false, bounce h opcode ST_BAD_OPCODE s)
  else if !h.auth && !opcodeOpen opcode then (false, bounce h opcode ST_NOT_AUTHORISED s)
  else
    let (ok, s) := if h.auth then (true, s) else countUnauth h.port s
    if !ok then (false, s)
    else if h.urgent && !opcodeUrgent opcode then (false, bounce h opcode ST_BAD_PARAM s)
    else if 127 < h.tag.toNat then (false, bounce h opcode ST_BAD_PARAM s)
    else if ctxFree (ctxAt s h.tag.toNat) then (true, occupy h opcode payload s)
    else (false, bounce h opcode ST_CONTEXT_BUSY s)

/-- Check 6: the sequence number of an authenticated request (R449). It has passed check 5, which ends a row of MAC failures (R448). -/
def admitSeq (h : Hdr) (opcode : Nat) (payload : List Byte) (s : State) : Bool × State :=
  match sessAt s h.session.toNat with
  | some k =>
    let s := modSess h.session.toNat (fun k => { k with macFails := 0 }) s
    if seqOk k h.seq then
      admitTail h opcode payload (modSess h.session.toNat (takeSeq s.time.dev h.seq) s)
    else (false, bounce h opcode ST_REPLAYED s)
  | none => (false, bounce h opcode ST_NOT_AUTHORISED s)

/-- A torque in 0.01 Nm and the vehicle frame as a machine-frame reference (R238). -/
def torqueRef (s : State) (m : Nat) (v : Int) : Ref := .torque (toPu18 (mPar s m 0x1A * v) (mPar s m 0x08 * 100))

/-- A speed in 0.01 rpm and the vehicle frame as a machine-frame reference. -/
def speedRef (s : State) (m : Nat) (v : Int) : Ref := .speed (mPar s m 0x1A * v)

/-- The command-context unit copies the reference of a TORQUE_SET or SPEED_SET that has passed its MAC check to the monitor pair (R349). -/
def copyRef (opcode : Nat) (payload : List Byte) (s : State) : State :=
  let m := field payload 0 1
  let v := signed 32 (field payload 4 4)
  let put := fun (r : Ref) => modMach m (fun x => { x with monRef := r }) s
  if payload.length = 8 ∧ m < 8 then
    (if opcode = 0x0202 then put (torqueRef s m v) else if opcode = 0x0203 then put (speedRef s m v) else s)
  else s

/-- Checks 4 and 6 to 9 of Table 13.3: whether the request passed, and the state. -/
def admits (h : Hdr) (opcode : Nat) (payload : List Byte) (s : State) : Bool × State :=
  if h.auth && !gateOpen s 0 then (false, bounce h opcode ST_BUS_ERROR s)
  else if h.auth then admitSeq h opcode payload (if (sessAt s h.session.toNat).isSome then copyRef opcode payload s else s)
  else if h.session = 0 then admitTail h opcode payload s
  else (false, bounce h opcode ST_NOT_AUTHORISED s)

/-! ### The incompatibility report (Table 3.7) -/

/-- The slot in force of a class; none where none verified (R106). -/
def inForce (s : State) (c : ImgClass) : Option Slot :=
  match (slotsAt s c).inB with
  | some true => some (slotsAt s c).b
  | some false => some (slotsAt s c).a
  | none => none

/-- The version in force of a class; 0 for none. -/
def versionOf (s : State) (c : ImgClass) : U32 :=
  match inForce s c with
  | some sl => sl.man.version
  | none => 0

/-- The entries of a compatibility table body (Tables 3.4 and 3.5): the 24 bytes of each. A body that announces more than 1,024 gives its
first 1,024, and its table version is not compared with its manifest's (DESIGN CHOICE: the spec does not say; log entry 51). -/
def ctabEntries (body : List Byte) : List (List Byte) :=
  (List.range (min 1024 (field body 4 2))).map (fun i => slice body (16 + 24 * i) 24)

/-- The entries of the table in force; none where no slot verified. -/
def tableInForce (s : State) : Option (List (List Byte)) := (inForce s .ctab).map (fun sl => ctabEntries sl.body)

/-- An entry names four versions and a device step (R111). -/
def entryMatches (e : List Byte) (main mon fe isl : U32) : Bool :=
  field e 0 4 == main.toNat && field e 4 4 == mon.toNat && field e 8 4 == fe.toNat && field e 12 4 == isl.toNat &&
    decide (field e 16 1 ≤ Config.deviceStep.toNat ∧ Config.deviceStep.toNat ≤ field e 17 1)

/-- An island step lies in an entry's range (R111). -/
def stepInEntry (e : List Byte) (st : Byte) : Bool := decide (field e 18 1 ≤ st.toNat ∧ st.toNat ≤ field e 19 1)

/-- The steps of the islands that answered in step 7, with their channel (R111). -/
def islandSteps (s : State) : List (Nat × Byte) :=
  ((List.range 52).filter (fun c => (chanAt s c).step != 0)).map (fun c => (c, (chanAt s c).step))

/-- Some entry of the table in force matches four versions, the device step and every island step (R111). -/
def setTested (s : State) (main mon fe isl : U32) : Bool :=
  match tableInForce s with
  | some es => es.any (fun e => entryMatches e main mon fe isl && (islandSteps s).all (fun p => stepInEntry e p.2))
  | none => false

/-- The lowest leg whose island step lies outside every entry that matches the versions; 0xFF if none (Table 3.7). -/
def outsideLeg (s : State) : Byte :=
  let es := ((tableInForce s).getD []).filter
    (fun e => entryMatches e (versionOf s .main) (versionOf s .mon) (versionOf s .fe) (versionOf s .isl))
  if es.isEmpty then 0xFF
  else match (islandSteps s).find? (fun p => decide (p.1 < 48) && es.all (fun e => !stepInEntry e p.2)) with
    | some p => BitVec.ofNat 8 (p.1 / 2)
    | none => 0xFF

/-- The first of NO_CTAB, UNTESTED_SET and ISLAND_STEP that applies, in the order of R115 (R116); 0 for none. -/
def incompatReason (s : State) : Byte :=
  if s.dev.reasons.contains .noCtab then 0x03
  else if s.dev.reasons.contains .untestedSet then 0x01
  else if s.dev.reasons.contains .islandStep then 0x02
  else 0x00

/-- Table 3.7 with a given reason. Where no island answered, bytes 24 and 25 are 0 (DESIGN CHOICE: the spec does not say; log entry 51). -/
def incompatReport (reason : Byte) (s : State) : List Byte :=
  let steps := (islandSteps s).map (fun p => p.2.toNat)
  let lo := steps.foldl min 0xFF
  let hi := steps.foldl max 0
  [reason, Config.deviceStep, 0, 0] ++ beBytes 4 (versionOf s .main).toNat ++ beBytes 4 (versionOf s .mon).toNat ++
  beBytes 4 (versionOf s .fe).toNat ++ beBytes 4 (versionOf s .isl).toNat ++ beBytes 4 (versionOf s .ctab).toNat ++
  [BitVec.ofNat 8 (if steps.isEmpty then 0 else lo), BitVec.ofNat 8 hi, outsideLeg s, 0] ++
  beBytes 4 ((tableInForce s).getD []).length

/-! ### Check 10: state rules -/

/-- A parameter of leg, auxiliary, bridge or machine scope: what a write takes effect on a bridge with (R116). -/
def bridgeScope (id : Nat) : Bool :=
  let g := id / 4096
  let inst := id % 4096 / 256
  (g == 2) || (g == 3 && inst < 8) || (g == 4) || (g == 6 && inst < 8) || (g == 7 && decide (2 ≤ inst ∧ inst < 10)) ||
    (g == 8 && inst < 8) || (g == 0xC && inst < 8)

/-- The state rule that refuses an opcode (R101, R108, R116, R472): status and data. `onBridge` says that a write of groups
0x03 and 0x04 would take effect on a bridge. -/
def stateRefusal (opcode : Nat) (onBridge : Bool) (s : State) : Option (U16 × List Byte) :=
  let wrong := some (ST_WRONG_STATE, detail RS_DEVICE_STATE 0xFF 0)
  if s.dev.recovery && isUp s then (if opcodeRecovery opcode then none else wrong)
  else if !isUp s then (if opcode = 0x0100 ∨ opcode = 0x0101 then none else wrong)
  else if devState s == .service then
    if incompatReason s ≠ 0 ∧ (opcode / 256 = 2 ∨ onBridge) then some (ST_INCOMPATIBLE, incompatReport (incompatReason s) s)
    else match opcodeStates opcode with
      | .op => wrong
      | .any | .opS | .svc => none
  else match opcodeStates opcode with
    | .svc => wrong
    | .any | .op | .opS => none

/-- The dispatch of a request whose opcode layout is right: the state rules, then the opcode's own meaning. -/
def gated (opcode : Nat) (onBridge : Bool) (t : Nat) (f : State → State) (s : State) : State :=
  match stateRefusal opcode onBridge s with
  | some (st, data) => finish t st data s
  | none => f s

/-- Put a request into its dispatch queue (R456). -/
def enqueue (h : Hdr) (s : State) : State :=
  if h.urgent then { s with proto := { s.proto with urgentQ := s.proto.urgentQ ++ [h.tag.toNat] } }
  else { s with proto := { s.proto with normalQ := s.proto.normalQ ++ [h.tag.toNat] } }

/-- No request that is taken before this one waits (R456). -/
def nothingAhead (h : Hdr) (s : State) : Bool := s.proto.urgentQ.isEmpty && (h.urgent || s.proto.normalQ.isEmpty)

/-- A request as a row of the table gives it: admitted, and dispatched at once unless the main pair restarts (R455) or other requests wait
before it (R456). -/
def serve (h : Hdr) (opcode : Nat) (payload : List Byte) (onBridge : Bool) (f : Nat → State → State) (s : State) : State :=
  if receives s h.port then
    let a := admits h opcode payload s
    if !a.1 then a.2
    else if dispatches a.2 && nothingAhead h a.2 then gated opcode onBridge h.tag.toNat (f h.tag.toNat) a.2
    else enqueue h a.2
  else s

end Sys2Proof.Machine
end

