-- ==== Sys2Proof/Machine/Drive.lean ====
section
/-! DEFINITION. The drive opcodes of group 0x02 that concern machines and bridges (R478 to R481, R147, R237, R254, R561), the
precharge of Table 4.6, and the ends of the ramps they start. -/

namespace Sys2Proof.Machine

/-- A machine index as an index byte. -/
def ixByte (n : Nat) : Byte := BitVec.ofNat 8 n

/-- An opcode that names a machine by its index (R471). -/
def withMachine (t : Nat) (machine : Byte) (f : Nat → State → State) (s : State) : State :=
  if machExists s machine.toNat then f machine.toNat s else refuse t ST_BAD_PARAM RS_NONE machine 0 s

/-! ### ARM (Table 4.6, R147 to R149) -/

/-- A bridge item of group 0x2 (Table 4.9). -/
def bGate (s : State) (b item : Nat) : Nat := (bParId s b (0x2000 + 0x100 * bridgeInst s b + item)).toNat

/-- The owner current-sensor records of a bridge's phase inputs are all there (R304). -/
def sensorPegsOk (s : State) (b : Nat) : Bool :=
  (bridgeLegs s b).all (fun l => (if bSns s b 0 = 1 then [0] else [0, 0x100]).all (fun bank =>
    match ownerPeg s 0x0100 (bank + l) with
    | some p => p.data.length == 8
    | none => false))

/-- A converter of a bridge failed its calibration, or no CSET verified (R109, R126, R304). -/
def calMissing (s : State) (b : Nat) : Bool :=
  (bridgeAt s b).calFailA || (bridgeAt s b).calFailB || !s.store.csetOk || !sensorPegsOk s b

/-- An island of a bridge is absent or counts as absent (R27, R128). -/
def islandMissing (s : State) (b : Nat) : Bool :=
  (bridgeLegs s b).any (fun l => !islandThere (lowOf s l) || !islandThere (highOf s l))

/-- The field-engine domain of a bridge is not on (R413), or its restore has not completed (R417, KL-08). -/
def feOff (s : State) (b : Nat) : Bool := !domOn s (8 + b) || (domAt s (8 + b)).saved

/-- The cause of F-0804: PLL_SYS or PLL_PWM is referenced to RC40 (R403). -/
def onRc40 (s : State) : Bool := s.clk.sel.toNat % 4 == 0 || s.clk.sel.toNat / 4 % 4 == 0

/-- The first element of a list that meets a condition, as an index byte. -/
def firstIx (l : List Nat) (p : Nat → Bool) : Option Byte := (l.find? p).map ixByte

/-- The first refusal of a list of conditions. -/
def firstRefusal : List (Bool × U16 × Byte × Byte) → Option (U16 × Byte × Byte)
  | [] => none
  | (c, r) :: rest => if c then some r else firstRefusal rest

/-- The refusal of ARM that applies to machine `m`: status, reason and index. Device-wide causes come first, then those of the
machine's bridges; the order among them follows the arming sequence where it gives one (log entry 12). -/
def armRefusal (s : State) (m : Nat) : Option (U16 × Byte × Byte) :=
  let bs := machBridges s m
  let per := fun (st : U16) (why : Byte) (p : Nat → Bool) => (bs.any p, st, why, (firstIx bs p).getD 0xFF)
  firstRefusal [
    (!domOn s 3, ST_DOMAIN_OFF, RS_NONE, 3), (!domOn s 6, ST_DOMAIN_OFF, RS_NONE, 6),
    (!domOn s 7, ST_DOMAIN_OFF, RS_NONE, 7),
    (!s.pins.drvEn, ST_WRONG_STATE, RS_DRV_EN_LOW, 0xFF),
    (s.safety.demA || s.safety.demB, ST_WRONG_STATE, RS_STO_ACTIVE, 0xFF),
    (!(s.safety.passA && s.safety.passB), ST_WRONG_STATE, RS_STO_UNTESTED, 0xFF),
    (onRc40 s, ST_WRONG_STATE, RS_CLOCK, 0xFF),
    (s.net.noMaster || s.net.conflict, ST_WRONG_STATE, RS_DEVICE_STATE, 0xFF),
    (s.safety.monRestart || s.safety.mon.halted, ST_WRONG_STATE, RS_DEVICE_STATE, 0xFF),
    per ST_LOCKED_OUT RS_NONE (lockedOut s),
    per ST_DOMAIN_OFF RS_NONE (feOff s),
    per ST_WRONG_STATE RS_BRIDGE_STATE (fun b => stOf s b != .idle || isHeld (bridgeAt s b) || (bridgeAt s b).feReload ||
      (bridgeAt s b).islReload || (machAt s m).armWait),
    ((lgAt s (machLg s m)).dis.isSome, ST_WRONG_STATE, RS_DISCHARGE, ixByte (machLg s m)),
    ((machAt s m).mapPending, ST_WRONG_STATE, RS_MAP_PENDING, ixByte m),
    (overStop s m, ST_WRONG_STATE, RS_THERMAL, ixByte m),
    per ST_WRONG_STATE RS_CAL_FAIL (calMissing s),
    per ST_WRONG_STATE RS_ISLAND (islandMissing s)]

/-- Zero-vector pulses are allowed: P_PRE_MODE 1, a valid interface speed, below P_FW_SPEED (R149). -/
def pulsesAllowed (s : State) (m : Nat) : Bool :=
  bGate s m 0xF0 == 1 && hasIf s m && ifSpeedOk s m && belowFwSpeed s m

/-- Precharge of machine `m` begins (Table 4.6); `bowOnly` for a winding discharge (R328). -/
def startPrecharge (m : Nat) (bowOnly : Bool) (s : State) : State :=
  let ok := !bowOnly && pulsesAllowed s m
  let s := forEach (machBridges s m) (fun b => modBridge b (fun br =>
    { br with st := .precharging, pulses := 0, pulseOk := ok })) s
  modMach m (fun x => { x with phStart := s.time.dev }) s

/-- A machine is armed afresh: no reference, no binding, no earlier timeout (R461, R462); its control periods start at the next period
boundary (R172). -/
def freshArm (m : Nat) (s : State) : State :=
  forEach (machBridges s m) (fun b => modBridge b (fun br => { br with ctrlAt := none, ctrlIx := 0 })) (setBridges .armed m (machineLeaves m s))

/-- R147: ARM of machine `m`; D3 is first raised to point 0 (R421). -/
def armMachine (t m : Nat) (s : State) : State :=
  match armRefusal s m with
  | some (st, why, ix) => refuse t st why ix 0 s
  | none =>
    let s := seekMon 0 { s with pwr := { s.pwr with monReq := 0 } }
    if s.pwr.busyMon || s.pwr.monCur != 0 then
      accept t (bGate s m 0xF1 + 100) (modMach m (fun x => { x with tag := some t, armWait := true }) s)
    else if allOperating s m then finish t ST_OK [] (freshArm m s)
    else
      let s := accept t (bGate s m 0xF1 + 100) s
      startPrecharge m false (modMach m (fun x => { x with tag := some t }) s)

/-- ARM; bridges of a link group whose masked remote flags count as set are overridden at once (R527). -/
def opArm (t : Nat) (machine : Byte) (s : State) : State := cascadeHold s (withMachine t machine (armMachine t) s)

/-- Every high island is Operating: the machine is ARMED and ARM ends with ST_OK; a winding discharge closes its loops (R147,
R328). -/
def endPrecharge (m : Nat) (s : State) : State :=
  let s := forEach (machBridges s m) stopPulses s
  if (machAt s m).ph == .discharging then
    let v := modelVolts s m
    let s := forEach (machBridges s m) (fun b => modBridge b (fun br => { br with ctrlAt := none, ctrlIx := 0 })) s
    setBridges .running m (modMach m (fun x => { x with wdI := 0, ref := .none, matchAge := 9 }) (freshRun v.1 v.2 m s))
  else finishMach m ST_OK [] (freshArm m s)

/-- The bridges of machine `m` are PRECHARGING. -/
def precharging (s : State) (m : Nat) : Bool := (machBridges s m).any (fun b => stOf s b == .precharging)

/-- R147: every high island has become Operating. -/
def execPrechargeComplete (m : Fin 8) (s : State) : Out :=
  if isUp s && precharging s m && allOperating s m then .next (endPrecharge m s) else .next s

/-- The link group whose winding discharge uses machine `m`. -/
def windingGroup (s : State) (m : Nat) : Option Nat :=
  [0, 1].find? (fun g => match (lgAt s g).dis with
    | some d => d.winding == some m
    | none => false)

/-- R147: P_PRE_TMO expires; completion in the same tick wins (R45). A winding discharge aborts with F-0508 (R328). -/
def execPrechargeTimeout (m : Fin 8) (s : State) : Out :=
  if isUp s && precharging s m && decide ((machAt s m).phStart + bGate s m 0xF1 * 400000 ≤ s.time.dev) then
    if allOperating s m then .next (endPrecharge m s)
    else
      let g := windingGroup s m
      let s := note 0x0111 (srcMach m) [] (toIdle m s)
      let s := finishMach m ST_TIMEOUT (detail RS_NONE (ixByte m) 0) s
      match g with
      | some g => .next (raise0508 g s)
      | none => .next s
  else .next s

/-- One zero-vector pulse on bridge `b` (R149, R167, R174): the low-side requests of its three legs are on for 20 us. Every pulse of
precharge is such a one, so a restriction to low-side pulses (R141) shuts none out. -/
def zeroPulse (b : Nat) (s : State) : State :=
  let t := nowSteps s
  forEach [0, 1, 2] (fun k => modBridge b (fun br => { br with
    sched := fallReq k false (t + 128000) (riseReq k (deadTime s (bridgeLeg s b k) false) false t br.sched) })) s

/-- R149: the next zero-vector pulse, while its condition still holds. Pulses follow each other by 1 ms at the least. -/
def execPrechargePulse (m : Fin 8) (s : State) : Out :=
  if isUp s && precharging s m then
    let ok := pulsesAllowed s m
    .next (forEach (machBridges s m) (fun b s =>
      let br := bridgeAt s b
      if br.pulseOk && ok && decide (br.pulses < bGate s b 0xF2) then
        if !br.active.indep || (br.pulses != 0 && decide (s.time.dev < br.pulseAt + 400000)) then s
        else zeroPulse b (modBridge b (fun br => { br with pulses := br.pulses + 1, pulseAt := s.time.dev }) s)
      else modBridge b (fun br => { br with pulseOk := false }) s) s)
  else .next s

/-! ### DISARM (R479, Tables 4.6 and 7.2) -/

/-- Milliseconds that a ramp of the present torque to zero takes at P_TQ_RAMP, rounded up. -/
def rampTime (s : State) (m : Nat) : Nat :=
  let c := (mParN s m 0x2A) * 32768
  (((machAt s m).tRef.natAbs * 1000 + c - 1) / c)

/-- DISARM of a RUNNING machine: refused while it would rectify, else the torque ramps to zero first. -/
def disarmRunning (t m : Nat) (s : State) : State :=
  if rectifies s m then refuse t ST_WRONG_STATE RS_RECTIFYING (ixByte m) 0 s
  else
    let s := accept t (rampTime s m + 100) s
    match (machAt s m).ramp with
    | .stop _ => s
    | .retire _ _ =>
      let s := finishMach m ST_WRONG_STATE (detail RS_BRIDGE_STATE (ixByte m) 0) s
      modMach m (fun x => { x with ramp := .disarm, halfLim := false }) s
    | _ => modMach m (fun x => { x with ramp := .disarm }) s

/-- R479: DISARM of machine `m`. Where no bridge of it is PRECHARGING, ARMED or RUNNING there is nothing to disarm. -/
def disarmMachine (t m : Nat) (s : State) : State :=
  if machRunning s m then disarmRunning t m s
  else if anyActive s (machBridges s m) then
    finish t ST_OK [] (toIdle m (endMachineTag m RS_BRIDGE_STATE s))
  else finish t ST_OK [] s

def opDisarm (t : Nat) (machine : Byte) (s : State) : State := withMachine t machine (disarmMachine t) s

/-- R479: the DISARM ramp has reached zero: gate commands disabled with every switch off; ST_OK once every bridge is IDLE. -/
def execDisarmRampEnd (m : Fin 8) (s : State) : Out :=
  let x := machAt s m
  if isUp s && x.ramp == .disarm && x.tRef == 0 then
    let s := toIdle m s
    if allIn s (machBridges s m) .idle then .next (forEach (disarmTags s m) (fun t => finish t ST_OK []) s) else .next s
  else .next s

/-! ### References (R461, R479, R201, R211, R241) -/

/-- A value is inside the PU18 range of a base (R17). -/
def inPu18 (x b : Int) : Bool := decide (-131072 ≤ roundDiv (x * 32768) b ∧ roundDiv (x * 32768) b ≤ 131071)

/-- Sign of an integer: +1, 0 or -1. -/
def sgn (x : Int) : Int := if x < 0 then -1 else if 0 < x then 1 else 0

/-- The value of a reference. -/
def refValue : Ref → Int
  | .none => 0
  | .torque t => t
  | .speed v => v

/-- A start without START (R241): the sensor start of R242 with the reference held, its direction taken from the reference
(R246). Where the interface is not valid the start refuses and the reference stays held. -/
def autoStart (m : Nat) (v : Int) (s : State) : State :=
  if ifAngleOk s m then
    modMach m (fun x => { x with ph := .checking, phStart := s.time.dev, autoStart := true, refBlocked := false,
                                 dir := mPar s m 0x1A * sgn v }) s
  else modMach m (fun x => { x with refBlocked := true }) s

/-- A reference in the machine frame takes effect, in order of arrival (R461): held in a start phase (R239) and until START on
an observer machine (R211). -/
def applyRef (arrival m : Nat) (r : Ref) (s : State) : State :=
  if arrival < (machAt s m).refArrival then s
  else
  let s := modMach m (fun x => { x with ref := r, refEsn := s.time.esn, refArrival := arrival }) s
  let x := machAt s m
  if refValue r ≠ 0 ∧ allIn s (machBridges s m) .armed ∧ !isStart x.ph ∧ usesIf s m then autoStart m (refValue r) s else s

/-- Every bridge of the machine is ARMED or RUNNING (R460, R479). -/
def takesRefs (s : State) (m : Nat) : Bool :=
  (machBridges s m).all (fun b => stOf s b == .armed || stOf s b == .running)

/-- The machine is bound to a setpoint session other than `i` (R461). -/
def boundElsewhere (s : State) (m i : Nat) : Bool :=
  match (machAt s m).bound with
  | some j => j != i
  | none => false

/-- What TORQUE_SET and SPEED_SET share once the range is right: the state rules, then the reference. -/
def setRef (t m : Nat) (r : Ref) (s : State) : State :=
  if !takesRefs s m then refuse t ST_WRONG_STATE RS_BRIDGE_STATE (ixByte m) 0 s
  else if (machAt s m).ph == .discharging then refuse t ST_WRONG_STATE RS_DISCHARGE (ixByte m) 0 s
  else if boundElsewhere s m (ctxAt s t).hdr.session.toNat then
    refuse t ST_WRONG_STATE RS_SETPOINT_SESSION (ixByte m) 0 s
  else finish t ST_OK [] (applyRef (ctxAt s t).arrival m r s)

/-- The torque lies in the PU18 range of P_TQ_RATED (R479). -/
def torqueInRange (s : State) (m : Nat) (v : Int) : Bool := inPu18 v (mPar s m 0x08 * 100)
/-- The magnitude of the speed is at most P_SPD_MAX (R479). -/
def speedInRange (s : State) (m : Nat) (v : Int) : Bool := decide (|v| ≤ mPar s m 0x07 * 100)

def opTorqueSet (t : Nat) (machine : Byte) (torque : U32) (s : State) : State :=
  withMachine t machine (fun m s =>
    if torqueInRange s m torque.toInt then setRef t m (torqueRef s m torque.toInt) s
    else refuse t ST_OUT_OF_RANGE RS_NONE machine 0 s) s

def opSpeedSet (t : Nat) (machine : Byte) (speed : U32) (s : State) : State :=
  withMachine t machine (fun m s =>
    if speedInRange s m speed.toInt then setRef t m (speedRef s m speed.toInt) s
    else refuse t ST_OUT_OF_RANGE RS_NONE machine 0 s) s

/-! ### SAFE_STATE (R480, R495) -/

/-- R480: F-0612 and the firmware request for the active bridges of a scope. -/
def commandSafe (ix : Nat) (src : U16) (sc : Scope) (s : State) : State :=
  let lv := faultLevel s 0x0612
  let bs := (scopeBridges s sc).filter (fun b => isActive (stOf s b))
  let (e, s) := recordEvent 0x0612 lv src [] s
  let s := override RS_BRIDGE_STATE false ⟨.fault 0x0612, lv, ix⟩ bs s
  let s := if lv = 4 then openContactors bs (addLockout 0x0612 ix sc e s) else s
  forEach ([0, 1].filter (abortedWinding s)) raise0508 s

def opSafeState (t : Nat) (scope index : Byte) (s : State) : State :=
  if scope = 0 then
    withMachine t index (fun m s => finish t ST_OK [] (commandSafe m (srcMach m) (.machine m) s)) s
  else if scope = 1 then
    if index.toNat < 2 then finish t ST_OK [] (commandSafe index.toNat (srcLg index.toNat) (.linkGroup index.toNat) s)
    else refuse t ST_BAD_PARAM RS_NONE index 0 s
  else if scope = 2 then finish t ST_OK [] (commandSafe 0 (srcDom 2) .device s)
  else refuse t ST_BAD_PARAM RS_NONE 0xFF 0 s

/-! ### START and PLUCK_TEST (R237 to R240, R254) -/

/-- R237: START of machine `m` in direction `d`. -/
def startMachine (t m : Nat) (d : Int) (s : State) : State :=
  let x := machAt s m
  if !allIn s (machBridges s m) .armed then refuse t ST_WRONG_STATE RS_BRIDGE_STATE (ixByte m) 0 s
  else if isStart x.ph then refuse t ST_WRONG_STATE RS_START_PHASE (ixByte m) 0 s
  else if x.tRef ≠ 0 then refuse t ST_WRONG_STATE RS_BRIDGE_STATE (ixByte m) 0 s
  else if mPar s m 0x18 = 0 ∧ !ifAngleOk s m then refuse t ST_WRONG_STATE RS_NO_ANGLE (ixByte m) 0 s
  else
    let s := accept t 2000 s
    modMach m (fun x => { x with ph := if usesIf s m then .checking else .catching, phStart := s.time.dev, extended := false,
                                 dir := d, autoStart := false, tag := some t, pluck := none }) s

def opStart (t : Nat) (machine dir : Byte) (s : State) : State :=
  withMachine t machine (fun m s =>
    if dir = 0x01 then startMachine t m 1 s
    else if dir = 0xFF then startMachine t m (-1) s
    else refuse t ST_BAD_PARAM RS_NONE machine 0 s) s

/-- A pluck test about to begin. -/
def Pluck.fresh (testOnly : Bool) : Pluck := ⟨[], 0, none, 0, false, testOnly⟩

/-- The pluck test of machine `m` begins (R254): the first pulse lasts P_PLUCK_T. -/
def beginPluck (m : Nat) (testOnly : Bool) (s : State) : State :=
  let s := modMach m (fun x => { x with oldStart := none }) s
  modMach m (fun x => { x with ph := .plucking, phStart := s.time.dev,
                               pluck := some { Pluck.fresh testOnly with halfUs := 2 * mParN s m 0x65 } }) s

/-- PLUCK_TEST of machine `m`: with a valid interface speed at once, else after a 20 ms window that must class the machine as
at standstill. A speed at or above P_FW_SPEED is refused with reason CATCH_SPEED (DESIGN CHOICE: R258 gives ST_WRONG_STATE and no reason;
log entry 37). -/
def pluckMachine (t m : Nat) (s : State) : State :=
  let x := machAt s m
  if !allIn s (machBridges s m) .armed || !isPmsm s m then refuse t ST_WRONG_STATE RS_BRIDGE_STATE (ixByte m) 0 s
  else if isStart x.ph then refuse t ST_WRONG_STATE RS_START_PHASE (ixByte m) 0 s
  else if x.tRef ≠ 0 then refuse t ST_WRONG_STATE RS_BRIDGE_STATE (ixByte m) 0 s
  else if hasIf s m && ifSpeedOk s m then
    if belowFwSpeed s m then beginPluck m true (modMach m (fun x => { x with tag := some t }) (accept t 200 s))
    else refuse t ST_WRONG_STATE RS_CATCH_SPEED (ixByte m) 0 s
  else
    let s := accept t 200 s
    modMach m (fun x => { x with ph := .catching, phStart := s.time.dev, extended := false, tag := some t,
                                 pluck := some (Pluck.fresh true) }) s

def opPluckTest (t : Nat) (machine : Byte) (s : State) : State := withMachine t machine (pluckMachine t) s

/-! ### RETIRE (R232, R481) -/

/-- A bridge becomes RETIRED, on account of leg `leg`, 3 for the bridge itself. -/
def retireBridge (b leg : Nat) : State → State := modBridge b (fun br => { br with st := .retired, retiredLeg := some leg })

/-- RETIRE of bridge `b`, on account of leg `leg`. -/
def retireLegOrBridge (t b leg : Nat) (index : Byte) (s : State) : State :=
  let st := stOf s b
  if st == .idle || st == .disabled || st == .safe then
    finish t ST_OK [bridgeCode .retired] (retireBridge b leg s)
  else match bridgeMach s b with
    | some m =>
      if (machBridges s m).length = 2 ∧ allIn s (machBridges s m) .running ∧ (machAt s m).ramp = .none ∧
          (machAt s m).tag = none then
        let s := accept t 2000 s
        modMach m (fun x => { x with ramp := .retire b leg, halfLim := true, tag := some t }) s
      else refuse t ST_WRONG_STATE RS_BRIDGE_STATE index 0 s
    | none => refuse t ST_WRONG_STATE RS_BRIDGE_STATE index 0 s

/-- The machine that a physical interface serves. -/
def ifMachine (s : State) (p : Nat) : Option Nat := (machines s).find? (fun m => hasIf s m && machIf s m == p)

/-- RETIRE of position interface `p` (R481, R263). -/
def retireIf (t p : Nat) (s : State) : State :=
  let done := fun (s : State) => finish t ST_OK [bridgeCode .retired]
    (stopPouts p (modPos p (fun x => { x with retired := true, angleValid := false, speedValid := false }) s))
  match ifMachine s p with
  | some m =>
    if !machRunning s m then done s
    else if isPmsm s m && mPar s m 0x18 == 2 then
      done (if (machAt s m).onObs then s else handToObserver m s)
    else refuse t ST_WRONG_STATE RS_BRIDGE_STATE (ixByte p) 0 s
  | none => done s

def opRetire (t : Nat) (kind index : Byte) (s : State) : State :=
  let i := index.toNat
  if kind = 0 ∧ i < 24 then retireLegOrBridge t (legBridge s i) (legPhase s i) index s
  else if kind = 1 ∧ i < 8 then retireLegOrBridge t i 3 index s
  else if kind = 2 ∧ i < 8 then retireIf t i s
  else refuse t ST_BAD_PARAM RS_NONE (if kind.toNat < 3 then index else 0xFF) 0 s

/-- R232: the RETIRE ramp is within half the rated torque: the bridge's safe state, then RETIRED, and R229 applies to the
other bridge. -/
def execRetireRampEnd (m : Fin 8) (s : State) : Out :=
  let x := machAt s m
  match x.ramp with
  | .retire b leg =>
    if isUp s && decide (|x.tRef| ≤ 16384) then
      let t := x.tag
      let s := modMach m (fun x => { x with ramp := .none, tag := none, halfLim := false }) s
      let s := overrideBridge RS_BRIDGE_STATE false ⟨.fault 0, 3, b⟩ b s
      .next (finishOpt t ST_OK [bridgeCode .retired] (retireBridge b leg s))
    else .next s
  | _ => .next s

/-! ### REMAP (R561, Table 16.7) -/

/-- A bridge is a spare: DISABLED, assigned to no machine, and itself replacing nothing. -/
def spareBridge (s : State) (r : Nat) : Bool :=
  stOf s r == .disabled && (bridgeMach s r).isNone && !assigned s r && !(s.store.mapB.contains (ixByte r))

/-- No bridge of the machine of bridge `b` is RUNNING. -/
def machineStill (s : State) (b : Nat) : Bool :=
  match bridgeMach s b with
  | some m => !(anyActive s (machBridges s m))
  | none => true

/-- A retired bridge is back: IDLE, or DISABLED where R413 makes it so (R561). An override that the soundpost holds on it stays until
a qualifying DRV_EN toggle (R30), and ARM is refused meanwhile (log entry 51). -/
def returnBridge (b : Nat) (s : State) : State :=
  modBridge b (fun br => { br with retiredLeg := none, st := idleState s b { br with retiredLeg := none } }) s

/-- REMAP of leg `l` by leg `r` (Table 16.7); `r = l` removes the mapping. -/
def remapLeg (t l r : Nat) (index : Byte) (s : State) : State :=
  let b := l / 3
  let out := refuse t ST_WRONG_STATE RS_BRIDGE_STATE index 0 s
  if r = l then
    if ((bridgeAt s b).retiredLeg = some (l % 3) ∨ s.store.mapL.getD l 0xFF ≠ 0xFF) ∧ machineStill s b then
      let s := { s with store := { s.store with mapL := s.store.mapL.set l 0xFF } }
      finish t ST_OK [] (if stOf s b == .retired then returnBridge b s else s)
    else out
  else if stOf s b == .retired ∧ (bridgeAt s b).retiredLeg = some (l % 3) ∧ r % 3 = l % 3 ∧ spareBridge s (r / 3) ∧
      lgOf s (r / 3) = lgOf s b ∧ machineStill s b ∧ domOn s (8 + r / 3) ∧ !(s.store.mapL.contains (ixByte r)) then
    finish t ST_OK [] (returnBridge b { s with store := { s.store with mapL := s.store.mapL.set l (ixByte r) } })
  else out

/-- REMAP of bridge `b` by bridge `r`. -/
def remapBridge (t b r : Nat) (index : Byte) (s : State) : State :=
  let out := refuse t ST_WRONG_STATE RS_BRIDGE_STATE index 0 s
  if r = b then
    if ((bridgeAt s b).retiredLeg = some 3 ∨ s.store.mapB.getD b 0xFF ≠ 0xFF) ∧ machineStill s b ∧
        !(anyActive s [mapped s b]) then
      let old := mapped s b
      let s := { s with store := { s.store with mapB := s.store.mapB.set b 0xFF } }
      let s := if old = b then s else modBridge old (fun br => { br with st := .disabled }) s
      finish t ST_OK [] (returnBridge b s)
    else out
  else if stOf s b == .retired ∧ assigned s b ∧ !(sixLower s b || sixUpper s b) ∧ spareBridge s r ∧ lgOf s r = lgOf s b ∧
      machineStill s b then
    let s := { s with store := { s.store with mapB := s.store.mapB.set b (ixByte r) } }
    finish t ST_OK [] (modBridge r (fun br => { br with st := idleState s r br }) s)
  else out

/-- The interface measures: configured, its domain on, and not retired (R25, R266, R481). -/
def posOn (s : State) (p : Nat) : Bool := isUp s && posMode s p != 0 && domOn s (8 + p) && gateOpen s (24 + p) && !(posAt s p).retired

/-- Device time in the 10 ns of the decoders. -/
def now10 (s : State) : Nat := s.time.dev / 4

/-- Initialisation under Table 8.2 (R270, R287); outputs stop while there is no valid speed (R293). -/
def initPos (p : Nat) (s : State) : State :=
  let ok := posOn s p && posMode s p == 3
  let s := modPos p (fun x => { PosIf.reset with
    retired := x.retired, speedValid := ok, initAt := now10 s, winAt := now10 s, winLen := 1000 * (posPar s p 0xB).toNat,
    checkAt := s.time.dev }) s
  if ok then s else stopPouts p s

/-- REMAP of position interface `n` by interface `r`. -/
def remapIf (t n r : Nat) (index : Byte) (s : State) : State :=
  let out := refuse t ST_WRONG_STATE RS_BRIDGE_STATE index 0 s
  let m := (machines s).find? (fun m => hasIf s m && mParN s m 0x19 == n)
  let still := match m with
    | some m => !machRunning s m || (machAt s m).onObs
    | none => true
  if r = n then
    if ((posAt s n).retired || s.store.mapP.getD n 0xFF != 0xFF) && still then
      finish t ST_OK [] (initPos n (modPos n (fun x => { x with retired := false })
        { s with store := { s.store with mapP := s.store.mapP.set n 0xFF } }))
    else out
  else if (posAt s n).retired && posPar s r 0 == 0 && (ifMachine s r).isNone && !(s.store.mapP.contains (ixByte r)) && still then
    finish t ST_OK [] (initPos r { s with store := { s.store with mapP := s.store.mapP.set n (ixByte r) } })
  else out

def opRemap (t : Nat) (kind retired repl : Byte) (s : State) : State :=
  let n := if kind = 0 then 24 else if kind.toNat < 3 then 8 else 0
  if retired.toNat < n then
    if repl.toNat < n then
      if kind = 0 then remapLeg t retired.toNat repl.toNat retired s
      else if kind = 1 then remapBridge t retired.toNat repl.toNat retired s
      else remapIf t retired.toNat repl.toNat retired s
    else refuse t ST_BAD_PARAM RS_NONE repl 0 s
  else refuse t ST_BAD_PARAM RS_NONE (if n = 0 then 0xFF else retired) 0 s

/-! ### The orderly stop (R604) -/

/-- R604: the ramped torque has reached zero: the firmware request of every raising code, and the bridges enter SAFE. -/
def execOrderlyStopEnd (m : Fin 8) (s : State) : Out :=
  let x := machAt s m
  match x.ramp with
  | .stop causes =>
    if isUp s && x.tRef == 0 then
      let s := causes.foldl (fun s c =>
        override RS_BRIDGE_STATE false ⟨.fault (BitVec.ofNat 16 c.1), 2, c.2⟩ (machBridges s m) s) s
      .next (forEach ([0, 1].filter (abortedWinding s)) raise0508 s)
    else .next s
  | _ => .next s

/-! ### The rows -/

/-- R147. -/
def execArm (h : Hdr) (machine : Byte) (s : State) : Out :=
  .next (serve h 0x0200 [machine] false (fun t s => opArm t machine s) s)
/-- R479. -/
def execDisarm (h : Hdr) (machine : Byte) (s : State) : Out :=
  .next (serve h 0x0201 [machine] false (fun t s => opDisarm t machine s) s)
/-- R461. -/
def execTorqueSet (h : Hdr) (machine : Byte) (torque : U32) (s : State) : Out :=
  .next (serve h 0x0202 ([machine, 0, 0, 0] ++ beBytes 4 torque.toNat) false (fun t s => opTorqueSet t machine torque s) s)
/-- R201. -/
def execSpeedSet (h : Hdr) (machine : Byte) (speed : U32) (s : State) : Out :=
  .next (serve h 0x0203 ([machine, 0, 0, 0] ++ beBytes 4 speed.toNat) false (fun t s => opSpeedSet t machine speed s) s)
/-- R480. -/
def execSafeState (h : Hdr) (scope index : Byte) (s : State) : Out :=
  .next (serve h 0x0204 [scope, index] false (fun t s => opSafeState t scope index s) s)
/-- R237. -/
def execStart (h : Hdr) (machine dir : Byte) (s : State) : Out :=
  .next (serve h 0x0205 [machine, dir] false (fun t s => opStart t machine dir s) s)
/-- R254. -/
def execPluckTest (h : Hdr) (machine : Byte) (s : State) : Out :=
  .next (serve h 0x0206 [machine] false (fun t s => opPluckTest t machine s) s)
/-- R481, R232. -/
def execRetire (h : Hdr) (kind index : Byte) (s : State) : Out :=
  .next (serve h 0x0207 [kind, index] false (fun t s => opRetire t kind index s) s)
/-- R561. -/
def execRemap (h : Hdr) (kind retired repl : Byte) (s : State) : Out :=
  .next (serve h 0x020A [kind, retired, repl] false (fun t s => opRemap t kind retired repl s) s)

end Sys2Proof.Machine
end

