-- ==== Sys2Proof/Machine/Position.lean ====
section
/-! DEFINITION. Position and speed feedback (R266 to R300): the interfaces, the divided outputs and the angle-compare units.
Times of the decoders are in 10 ns of device time. -/

namespace Sys2Proof.Machine

/-- Counts per mechanical revolution of a counting mode. -/
def revCounts (s : State) (p : Nat) : Nat :=
  match posMode s p with
  | 2 => 4 * (posPar s p 5).toNat
  | 3 => 4 * (posPar s p 6).toNat
  | 4 => 6
  | _ => 262144

/-- θ_s of a count (R277). -/
def countAngle (n : Nat) (c : Int) : Nat := ang18 (roundDiv (c % n * 262144) n)

/-- The value of a count that P_IDX_POS implies (R275, R278): the nearest count (DESIGN CHOICE where P_IDX_POS is no whole number of counts;
log entry 51). -/
def idxCount (s : State) (p : Nat) : Int := roundDiv (posPar s p 9 * revCounts s p) 262144

/-- The machine that interface `p` serves. -/
def posMach (s : State) (p : Nat) : Option Nat := ifMachine s p

/-! ### The sensor angle (R268 to R273, R282) -/

/-- Sector of a Hall state in the direction of counting, which P_POS_DIR sets (R268, R282). -/
def hallSector (s : State) (p : Nat) (st : BitVec 3) : Option Nat :=
  ([5, 4, 6, 2, 3, 1].findIdx? (fun x => x == st.toNat)).map (fun k => if posPar s p 0xE < 0 then 5 - k else k)

/-- Start of sector `k` (R282). -/
def sectorStart (k : Nat) : Nat := ang18 (roundDiv (k * 262144) 6)

/-- The angle in Hall mode (R282): between edges extrapolated with the present speed and held within the sector entered. -/
def hallAngle (s : State) (x : PosIf) : Nat :=
  match x.moved, x.sector, x.lastEdge with
  | true, some k, some t =>
    let width : Rat := ((ang18 ((sectorStart (k + 1) : Int) - sectorStart k) : Nat) : Rat)
    let at_ : Rat := if x.theta = sectorStart k then 0 else width
    let gone : Rat := (x.rpm100 : Rat) / 6000 * 262144 / 100000000 * ((s.time.dev : Rat) / 4 - (t : Rat))
    ang18 ((sectorStart k : Int) + roundRat (max 0 (min width (at_ + gone))))
  | _, _, _ => x.theta

/-- The angle of the tracking loop now: interpolated from its latest update (R271). -/
def trackAngle (s : State) (x : PosIf) : Nat :=
  ang18 (roundRat (x.track.theta + x.track.speed * ((s.time.dev : Rat) - (x.track.time : Rat)) / 400))

/-- The angle that interface `p` gives now (R271, R282, R296). -/
def angleNow (s : State) (p : Nat) : Nat :=
  let x := posAt s p
  match posMode s p with
  | 3 => x.theta
  | 4 => hallAngle s x
  | _ => trackAngle s x

/-- The excitation output of interface `p`: the frequency in Hz and the amplitude in 0.1 V peak-to-peak of the sine that it drives, or none
while it is high-impedance (R85, R93, R272). -/
def excitation (s : State) (p : Nat) : Option (Int × Int) :=
  if isUp s && domOn s (8 + p) && posMode s p == 1 && !(posAt s p).retired then some (posPar s p 1, posPar s p 2) else none

/-- Interface `p` reports itself as uncalibrated: no owner record of kind 0x0101 (R269). The spec gives the report no register or reply of
its own (log entry 51). -/
def posUncalibrated (s : State) (p : Nat) : Bool := (ownerPeg s 0x0101 p).isNone

/-- The factor k of R268 for the machine of an interface. -/
def posFactor (s : State) (p : Nat) : Int :=
  match posMach s p with
  | some m => ifFactor s m
  | none => 1

/-- θ_e of a sensor angle (R268). -/
def elecAngle (s : State) (p theta : Nat) : Nat := ang18 (posFactor s p * theta + elecOffset s p)

/-- The physical interface that stands for interface number `n` (R561). -/
def posPhys (s : State) (n : Nat) : Nat :=
  let r := (s.store.mapP.getD n 0xFF).toNat
  if r = 0xFF then n else r

/-- Item of compare unit `u`. -/
def cmpPar (s : State) (u item : Nat) : Int := par s (0x5900 + 0x100 * (u / 4) + 0x10 * (u % 4) + item)
/-- The interface that unit `u` watches (R294). -/
def cmpIf (s : State) (u : Nat) : Nat := posPhys s (cmpPar s u 0).toNat
/-- A sensor angle in the frame of unit `u` (R294). -/
def cmpFrame (s : State) (u theta : Nat) : Nat := if cmpPar s u 1 = 1 then theta else elecAngle s (cmpIf s u) theta
/-- The present angle in the frame of unit `u` (R294, R296). -/
def cmpAngle (s : State) (u : Nat) : Nat := cmpFrame s u (angleNow s (cmpIf s u))

/-- A direction is allowed by P_CMP_QUAL (R294). -/
def dirAllowed (s : State) (u : Nat) (fwd : Bool) : Bool :=
  match cmpPar s u 2 with
  | 1 => fwd
  | 2 => !fwd
  | _ => true

/-- How much of a motion by `travel` counts from angle `a` has passed as it reaches `target` (R297). -/
def crossingShare (a target : Nat) (travel : Int) : Option Rat :=
  let gap := if 0 < travel then ang18 ((target : Int) - a) else ang18 ((a : Int) - target)
  if 0 < gap ∧ (gap : Int) ≤ |travel| then some ((gap : Rat) / (|travel| : Int)) else none

/-- Unit `u` compares as the sensor angle moves by `delta` counts from `theta`, from device time `t0` on until now: a crossing in an allowed
direction is kept for its posting, with its time interpolated to 10 ns where the angle is a tracking loop's (R294, R297). The angle to be
posted is the target where the loop passes it, and the angle after the edge in quadrature and Hall modes (DESIGN CHOICE: R298 does not
say which angle; log entry 51). -/
def compareUnit (u theta : Nat) (delta : Int) (t0 : Nat) (s : State) : State :=
  let x := cmpAt s u
  let travel := (if cmpPar s u 1 = 1 then 1 else posFactor s (cmpIf s u)) * delta
  let a := cmpFrame s u theta
  if x.st == .armed && !x.waiting && x.hit.isNone && dirAllowed s u (decide (0 < travel)) then
    match crossingShare a x.target travel with
    | some q =>
      let loop : Bool := posMode s (cmpIf s u) == 1 || posMode s (cmpIf s u) == 2
      let now := s.time.dev
      let t := if loop then t0 + (roundRat (q * ((now : Rat) - (t0 : Rat)) / 4)).toNat * 4 else now
      let at_ := if loop then x.target else ang18 ((a : Int) + travel)
      modCmp u (fun x => { x with hit := some (decide (0 < travel), at_, t) }) s
    | none => s
  else s

/-- Every unit on interface `p` compares (R294), while the gate of the units is open (R407). -/
def compareUnits (p theta : Nat) (delta : Int) (t0 : Nat) (s : State) : State :=
  if gateOpen s 12 then forEach ((List.range 16).filter (fun u => cmpIf s u == p)) (fun u => compareUnit u theta delta t0) s else s

/-! ### Divided outputs (R292, R293) -/

/-- Output `k` takes `delta` counts (R292, R293); F-0415 as its queue passes 65,535 counts. -/
def feedPout (delta : Int) (k : Nat) (s : State) : State :=
  let m := poutPar s k 2
  let acc := (poutAt s k).acc + poutPar s k 1 * delta
  let n := (acc.tdiv m).natAbs
  let all := (poutAt s k).queue ++ List.replicate n (decide (0 < acc))
  let lost := all.length - 65535
  let was := (poutAt s k).full
  let s := modPout k (fun x => { x with acc := acc.tmod m, queue := all.take 65535, dropped := x.dropped + lost,
                                        full := x.full || decide (0 < lost) }) s
  if 0 < lost ∧ !was then note 0x0415 (srcPos (posInst s (poutPar s k 0).toNat)) [] s else s

/-- Every output whose source is interface `p` takes `delta` counts, while the gate of POS_OUT is open (R407). -/
def feedPouts (p : Nat) (delta : Int) (s : State) : State :=
  if gateOpen s 11 then forEach ((List.range 4).filter (poutFrom s p)) (feedPout delta) s else s

/-- The quadrature state one step on: 00, 01, 11, 10. -/
def quadStep (up : Bool) (q : BitVec 2) : BitVec 2 :=
  let next := fun (q : BitVec 2) => if q = 0 then 1 else if q = 1 then 3 else if q = 3 then 2 else (0 : BitVec 2)
  if up then next q else next (next (next q))

/-- Width of a pulse, or time of a quadrature state, of output `k` in ticks (R293). -/
def poutWidth (s : State) (k : Nat) : Nat := 4 * (poutPar s k 4).toNat

/-- The output has room for a count: 2 widths after the previous one in mode 0, one in mode 1 (R293). -/
def poutRoom (s : State) (k : Nat) : Bool :=
  match (poutAt s k).since with
  | some t => decide (t + (if poutPar s k 3 = 1 then poutWidth s k else 2 * poutWidth s k) ≤ s.time.dev)
  | none => true

/-- The source of output `k` has a valid speed (R293). -/
def poutValid (s : State) (k : Nat) : Bool := (posAt s (posPhys s (poutPar s k 0).toNat)).speedValid

/-- Output `k` shows a count: a pulse, or a step of the quadrature pair (R293). -/
def showCount (k : Nat) (up : Bool) (s : State) : State :=
  emit (.pout k up (10 * (poutPar s k 4).toNat)) (modPout k (fun x =>
    if poutPar s k 3 = 1 then { x with quad := quadStep up x.quad, since := some s.time.dev }
    else { x with high := true, since := some s.time.dev }) s)

/-- R293: a queued count is shown. -/
def execDividedOutputEmit (k : Fin 4) (s : State) : Out :=
  if isUp s && gateOpen s 11 && poutValid s k && !poutIsB s k && poutPar s k 3 != 2 && poutRoom s k then
    match (poutAt s k).queue with
    | up :: rest => .next (showCount k up (modPout k (fun x => { x with queue := rest, full := false }) s))
    | [] => .next s
  else .next s

/-- A pulse on output `k` ends at its width; an output whose source has no valid speed holds its level (R293, R300). -/
def poutTick (k : Nat) (s : State) : State :=
  let x := poutAt s k
  let ended := match x.since with
    | some t => decide (t + poutWidth s k ≤ s.time.dev)
    | none => true
  if x.high && ended && (poutPar s k 3 == 2 || poutValid s k) then modPout k (fun x => { x with high := false }) s else s

/-! ### Firing of an angle-compare unit (R297, R298, R300) -/

/-- A firing of unit `u` (R297, R298, R300): posted, recorded at most once per 100 us, and shown on an output in mode 2 whose settings
count. -/
def fireCmp (u : Nat) (late fwd : Bool) (time angle : Nat) (s : State) : State :=
  let x := cmpAt s u
  let again := decide (s.time.dev < x.recUntil)
  let (e, s) := recordLimited 0 0 3 (srcCmp u) (s.time.dev + 40000) [] s
  let s := modCmp u (fun x => { x with
    st := if x.rep then .armed else .disarmed, waiting := x.rep, hit := none, late := late, repFlag := x.rep, back := !fwd, esn := e,
    time := time, angle := angle, unrec := if again then min 65535 (x.unrec + 1) else x.unrec,
    recUntil := if again then x.recUntil else s.time.dev + 40000 }) s
  let k := (cmpPar s u 3).toNat
  if cmpPar s u 3 ≠ 0xFF ∧ poutPar s k 3 = 2 ∧ !poutIsB s k then
    emit (.pout k true (10 * (poutPar s k 4).toNat)) (modPout k (fun x => { x with high := true, since := some s.time.dev }) s)
  else s

/-- A crossing that unit `u` has detected fires it (R294, R297). -/
def fireHit (u : Nat) (s : State) : State :=
  match (cmpAt s u).hit with
  | some (fwd, angle, time) => if (cmpAt s u).st == .armed then fireCmp u false fwd time angle s else s
  | none => s

/-! ### Faulty interfaces (R284 to R287) -/

/-- R286: what a fault of its interface means for a RUNNING machine. -/
def loseAngle (p m : Nat) (s : State) : State :=
  if machRunning s m && hasIf s m && !(machAt s m).onObs then
    if mPar s m 0x18 == 2 && isPmsm s m then handToObserver m s
    else raiseFault 0x040C p (srcMach m) (.machine m) [] s
  else s

/-- A fault of interface `p` aborts the armed compare units that it serves (R284). A crossing already detected is fired before, and a target that
still waits for its load stays pending (DESIGN CHOICE: the spec does not say; log entry 51). -/
def abortUnits (p : Nat) (s : State) : State :=
  forEach ((List.range 16).filter (fun u => cmpPar s u 0 == (posInst s p : Int))) (fun u s =>
    let s := fireHit u s
    if (cmpAt s u).st == .armed then modCmp u (fun x => { x with st := .aborted, waiting := false }) s else s) s

/-- F-0404 with the interface and the cause (R285). -/
def recordFaulty (cause p : Nat) (s : State) : Esn × State :=
  recordEvent 0x0404 (faultLevel s 0x0404) (srcPos p) (beBytes 2 cause) s

/-- R284, R286: a faulty interface loses its flags, its outputs stop, its compare units are aborted, and its machine reacts. -/
def actFaulty (p : Nat) (e : Esn) (s : State) : State :=
  let s := stopPouts p (reactSrc 0x0404 (srcPos p) e s)
  let s := abortUnits p (modPos p (fun x => { x with faulty := true, speedValid := false, angleValid := false }) s)
  match posMach s p with
  | some m => loseAngle p m s
  | none => s

/-- R285: the interface is declared faulty. -/
def declareFaulty (cause p : Nat) (s : State) : State :=
  if (posAt s p).faulty then s
  else
    let (e, s) := recordFaulty cause p s
    actFaulty p e s

/-- A cause that declares an interface faulty at once: its own code, then F-0404 with the ESN that follows (R285). -/
def posFault (code p : Nat) (s : State) : State :=
  let (e, s) := recordEvent code (faultLevel s code) (srcPos p) [] s
  if (posAt s p).faulty then reactSrc code (srcPos p) e s
  else
    let (e2, s) := recordFaulty code p s
    actFaulty p e2 (reactSrc code (srcPos p) e s)

/-- A check of interface `p` has failed now (R287). -/
def failCheck (p : Nat) (s : State) : State := modPos p (fun x => { x with checkAt := s.time.dev }) s

/-- R287: the faulty condition ends, its checks having passed for 100 ms, and the interface re-initialises. -/
def execInterfaceRecovery (p : Fin 8) (s : State) : Out :=
  let x := posAt s p
  let still := match posMach s p with
    | some m => !machRunning s m
    | none => true
  if posOn s p && x.faulty && x.hallBadAt.isNone && decide (x.checkAt + 40000000 ≤ s.time.dev) && still then .next (initPos p s)
  else .next s

/-! ### Counting (R277 to R283) -/

/-- A counted change: the count, the direction, the time, and what they feed (R277, R288, R289). -/
def acceptEdge (p : Nat) (delta : Int) (s : State) : State :=
  let fwd := decide (0 < delta)
  let t := now10 s
  let s := modPos p (fun x =>
    let c := x.count + delta
    { x with count := c, fwd := fwd, moved := true, lastEdge := some t,
             edges := if x.moved && x.fwd != fwd then [(c, t)] else x.edges ++ [(c, t)] }) s
  if (posAt s p).speedValid then feedPouts p delta s else s

/-- The sensor angle of interface `p` moves to `theta` at an edge, and its compare units compare (R294). -/
def edgeAngle (p theta : Nat) (s : State) : State :=
  let old := (posAt s p).theta
  compareUnits p old (angDiff theta old) s.time.dev (modPos p (fun x => { x with theta := theta }) s)

/-- A quadrature edge that counts by `delta` (R277); the angle of sin/cos mode is the tracking loop's (R273). -/
def countEdge (p : Nat) (delta : Int) (s : State) : State :=
  let s := acceptEdge p delta s
  if posMode s p = 3 then edgeAngle p (countAngle (revCounts s p) (posAt s p).count) s else s

/-- Difference of two counts around one revolution. -/
def countDiff (n : Nat) (a b : Int) : Int :=
  let d := (a - b) % n
  if 2 * d ≤ n then d else d - n

/-- A qualified index or reference mark (R275, R278, R279): the count, and with it the angle, the tracking loop's too in sin/cos mode. Setting
the count is no motion: no unit compares and no divided output counts, and the edges of the speed window so far are dropped (DESIGN
CHOICE: the spec does not say; log entry 51). -/
def takeIndex (p : Nat) (s : State) : State :=
  let x := posAt s p
  let c := idxCount s p
  let th := countAngle (revCounts s p) c
  let set := fun (x : PosIf) => { x with count := c, theta := th, edges := [], track := { x.track with theta := (th : Nat), time := s.time.dev } }
  if !x.angleValid then modPos p (fun x => { set x with angleValid := x.speedValid, idxBad := 0 }) s
  else if |countDiff (revCounts s p) x.count c| ≤ 2 then modPos p (fun x => { x with idxBad := 0 }) s
  else
    let s := failCheck p (modPos p (fun x => { set x with idxBad := x.idxBad + 1 }) s)
    if 3 ≤ (posAt s p).idxBad then posFault 0x0413 p s else note 0x0413 (srcPos p) [] s

/-- Both levels are accepted as high (R275, R278). -/
def bothHigh (s : State) (p : Nat) : Bool := (posAt s p).levels == some (true, true)

/-- R278, R279, R275: Z or REF is high in a sample; it qualifies while A and B, or both comparators, are high. -/
def execIndexMark (p : Fin 8) (s : State) : Out :=
  if posOn s p && (posMode s p == 3 || posMode s p == 2) && !(posAt s p).faulty && bothHigh s p then .next (takeIndex p s) else .next s

/-- The illegal or invalid events within the last 10 ms, one at the expiry counting still (R280, R45). -/
def recentBad (s : State) (p : Nat) : List Nat := (posAt s p).bad.filter (fun t => decide (now10 s ≤ t + 1000000))

/-- An illegal or invalid event is recorded and counted (R280, R283). -/
def countBad (code p : Nat) (s : State) : State :=
  note code (srcPos p) [] (failCheck p (modPos p (fun x => { x with bad := now10 s :: recentBad s p }) s))

/-- The levels of A and B are accepted (R277): the first are taken as they are; one change counts, two at once are illegal in quadrature
mode (R280). -/
def takeLevels (p : Nat) (a b : Bool) (s : State) : State :=
  let set := modPos p (fun x => { x with levels := some (a, b) })
  match (posAt s p).levels with
  | none => set s
  | some (a0, b0) =>
    if a == a0 && b == b0 then s
    else if a != a0 && b != b0 then (if posMode s p = 3 then countBad 0x0402 p (set s) else set s)
    else
      let aLeads := if a != a0 then a != b else a == b
      countEdge p ((if aLeads then 1 else -1) * posPar s p 0xE) (modPos p (fun x => { x with speedValid := true }) (set s))

/-- A level of interface `p`, stable for so many 10 ns samples, is accepted: the filter of P_QF_FILT is on the quadrature inputs (R277). -/
def qfAccepts (s : State) (p held : Nat) : Bool := posMode s p == 2 || (posMode s p == 3 && decide (posPar s p 7 + 1 ≤ (held : Int)))

/-- R277: a change of A or B; in sin/cos mode, of the comparators (R273). -/
def execQuadEdge (p : Fin 8) (a b : Bool) (held : Nat) (s : State) : Out :=
  if posOn s p && !(posAt s p).faulty && qfAccepts s p held then .next (takeLevels p a b s) else .next s

/-- R280, R281: A and B change together: the count stays; a qualified index in the same sample still sets it. -/
def execIllegalTransition (p : Fin 8) (held : Nat) (z : Bool) (s : State) : Out :=
  if posOn s p && posMode s p == 3 && qfAccepts s p held then
    match (posAt s p).levels with
    | some (a, b) =>
      if (posAt s p).faulty then .next (failCheck p (modPos p (fun x => { x with levels := some (!a, !b) }) s))
      else
        let s := takeLevels p (!a) (!b) s
        .next (if z && bothHigh s p then takeIndex p s else s)
    | none => .next s
  else .next s

/-- R280, R283: more than P_QERR_LIMIT events within 10 ms. -/
def execIllegalEventLimit (p : Fin 8) (s : State) : Out :=
  let n := (recentBad s p).length
  if posOn s p && (posMode s p == 3 || posMode s p == 4) && decide (posPar s p 8 < (n : Int)) then
    .next (declareFaulty (if posMode s p = 4 then 0x0403 else 0x0402) p s)
  else .next s

/-- An invalid Hall event (R283): recorded, with the angle and the direction unchanged; a state that is itself valid is the one that the
next change is judged from (DEDUCED, log entry 51). -/
def badHall (p : Nat) (state : BitVec 3) (s : State) : State :=
  let valid := (hallSector s p state).isSome
  countBad 0x0403 p (modPos p (fun x =>
    { x with hall := if valid then state else x.hall, hallBadAt := if valid then none else some (x.hallBadAt.getD s.time.dev) }) s)

/-- A Hall edge into sector `k` in the direction of counting (R282). -/
def enterSector (p k : Nat) (state : BitVec 3) (fwd : Bool) (s : State) : State :=
  let s := modPos p (fun x => { x with hall := state, sector := some k, hallBadAt := none }) s
  edgeAngle p (sectorStart (if fwd then k else k + 1)) (acceptEdge p (if fwd then 1 else -1) s)

/-- A change of the Hall state (R282, R283). -/
def takeHall (p : Nat) (state : BitVec 3) (s : State) : State :=
  match hallSector s p state, hallSector s p (posAt s p).hall with
  | none, _ => badHall p state s
  | some new, none =>
    modPos p (fun x => { x with hall := state, sector := some new, hallBadAt := none, speedValid := true, angleValid := true,
                                theta := ang18 (roundDiv ((2 * new + 1) * 262144) 12) }) s
  | some new, some old =>
    if new = old then modPos p (fun x => { x with hallBadAt := none }) s
    else if new = (old + 1) % 6 then enterSector p new state true s
    else if old = (new + 1) % 6 then enterSector p new state false s
    else badHall p state s

/-- A Hall state, stable for so many us, passes the filter (R282). -/
def hallAccepts (s : State) (p held : Nat) : Bool := posMode s p == 4 && decide (posPar s p 0xA ≤ (held : Int))

/-- A Hall state is an invalid event at the present one (R283). -/
def hallBad (s : State) (p : Nat) (state : BitVec 3) : Bool :=
  match hallSector s p state, hallSector s p (posAt s p).hall with
  | none, _ => true
  | some _, none => false
  | some new, some old => new != old && new != (old + 1) % 6 && old != (new + 1) % 6

/-- A change of the Hall state of a faulty interface: an invalid event is a check that fails, and so is an invalid state up to its end
(R283, R287). -/
def watchHall (p : Nat) (state : BitVec 3) (s : State) : State :=
  let valid := (hallSector s p state).isSome
  let fails := hallBad s p state || (posAt s p).hallBadAt.isSome
  let s := modPos p (fun x => { x with
    hall := if valid then state else x.hall, hallBadAt := if valid then none else some (x.hallBadAt.getD s.time.dev) }) s
  if fails then failCheck p s else s

/-- R282: a Hall edge. -/
def execHallEdge (p : Fin 8) (state : BitVec 3) (heldUs : Nat) (s : State) : Out :=
  if posOn s p && hallAccepts s p heldUs then .next (if (posAt s p).faulty then watchHall p state s else takeHall p state s) else .next s

/-- R283: an invalid Hall event; on a faulty interface it is a check that fails (R287). -/
def execHallInvalid (p : Fin 8) (state : BitVec 3) (heldUs : Nat) (s : State) : Out :=
  if posOn s p && hallAccepts s p heldUs && hallBad s p state then
    .next (if (posAt s p).faulty then watchHall p state s else badHall p state s)
  else .next s

/-- R283: an invalid state held for 1 ms. -/
def execHallInvalidHeld (p : Fin 8) (s : State) : Out :=
  let long := match (posAt s p).hallBadAt with
    | some t => decide (t + 400000 ≤ s.time.dev)
    | none => false
  if posOn s p && posMode s p == 4 && long then .next (declareFaulty 0x0403 p s) else .next s

/-! ### Resolver and sin/cos signals (R269, R270, R272 to R276) -/

/-- A pair in 0.1 mV after the gains and offsets of Table 8.1, in mV: the offset is subtracted, and then the gain multiplies (DESIGN CHOICE: the
spec gives neither the sign nor the order; log entry 51). -/
def gainedPair (s : State) (p : Nat) (q : Int × Int) : Rat × Rat :=
  match ownerPeg s 0x0101 p with
  | some r =>
    let one := fun (v : Int) (o g : Nat) => ((v - signed 16 (field r.data o 2) : Int) : Rat) / 10 * (field r.data g 2 : Rat) / 32768
    (one q.1 8 4, one q.2 10 6)
  | none => ((q.1 : Rat) / 10, (q.2 : Rat) / 10)

/-- A pair with the orthogonality correction of Table 8.1, which turns the phase of the cosine (R269). -/
def squarePair (s : State) (p : Nat) (q : Rat × Rat) : Rat × Rat :=
  let d := match ownerPeg s 0x0101 p with
    | some r => signed 16 (field r.data 12 2)
    | none => 0
  if d = 0 then q else (q.1, (q.2 - q.1 * Config.sin18 (ang18 d)) / Config.cos18 (ang18 d))

/-- A pair in mV is outside the window of R274. -/
def pairOutside (amp : Int) (q : Rat × Rat) : Bool :=
  let r := q.1 * q.1 + q.2 * q.2
  let a : Rat := (amp : Rat) * (amp : Rat)
  decide (r < 3 / 5 * a) || decide (13 / 10 * a < r)

/-- A pair is taken: corrected, given to the tracking loop, and checked; three in a row outside raise F-0401 (R274). -/
def takePair (p : Nat) (raw : Int × Int) (s : State) : State :=
  let q := gainedPair s p raw
  let bad := pairOutside (posPar s p 4) q
  let s := modPos p (fun x =>
    { x with track := { x.track with pair := some (squarePair s p q), outside := if bad then x.track.outside + 1 else 0 } }) s
  let s := if bad then failCheck p s else s
  if 3 ≤ (posAt s p).track.outside ∧ !(posAt s p).faulty then posFault 0x0401 p s else s

/-- R274: pairs are demodulated or converted. -/
def execAmplitudeWindowFault (p : Fin 8) (pairs : List (Int × Int)) (s : State) : Out :=
  if posOn s p && (posMode s p == 1 || posMode s p == 2) then .next (pairs.foldl (fun s q => takePair p q s) s) else .next s

/-- An excitation period is supervised; three in a row out of limits limit the current and raise F-0412 (R276). -/
def takePeriod (p : Nat) (o : Nat × Nat) (s : State) : State :=
  let v := posPar s p 2 * 100
  let bad := decide (80 < o.1) || decide (v < 5 * |(o.2 : Int) - v|)
  let s := modPos p (fun x => { x with excBad := if bad then x.excBad + 1 else 0 }) s
  let s := if bad then failCheck p s else s
  if 3 ≤ (posAt s p).excBad ∧ !(posAt s p).faulty then posFault 0x0412 p (modPos p (fun x => { x with excLim := true }) s) else s

/-- R276: the excitation output is supervised. -/
def execExcitationFault (p : Fin 8) (periods : List (Nat × Nat)) (s : State) : Out :=
  if posOn s p && posMode s p == 1 then .next (periods.foldl (fun s o => takePeriod p o s) s) else .next s

/-- The sensor angle that the latest pair gives (R268, R272, R273): of a resolver the angle of the pair in the direction of counting; in
sin/cos mode the count, with the arctangent interpolating up to the next count. -/
def pairAngle (s : State) (p : Nat) : Option Nat :=
  let x := posAt s p
  match x.track.pair with
  | some q =>
    let phi := Config.atan18 q.2 q.1
    if posMode s p = 1 then some (ang18 (posPar s p 0xE * phi))
    else
      let part : Nat := if posPar s p 0xE < 0 then 65536 - phi % 65536 else phi % 65536
      some (ang18 (roundDiv ((65536 * (x.count % revCounts s p) + part) * 262144) (65536 * revCounts s p)))
  | none => none

/-- One update of the tracking loop (R272, R273), which counts ANG18 counts in resolver mode (R292) and compares (R294). -/
def trackStep (p : Nat) (s : State) : State :=
  match pairAngle s p with
  | none => s
  | some z =>
    let x := posAt s p
    let k := x.track
    let th : Nat := ang18 (roundRat k.theta)
    let err : Rat := (angDiff z th : Rat) + ((roundRat k.theta : Int) : Rat) - k.theta
    let g := Config.trackGains (posPar s p 0xD).toNat
    let at_ := k.theta + k.speed + g.1 * err
    let new := ang18 (roundRat at_)
    let delta := angDiff new x.theta
    let lock := if 360 * |err| < 262144 then some (k.lockAt.getD s.time.dev) else none
    let spd := k.speed + g.2 * err
    let s := modPos p (fun x => { x with
      track := { k with theta := (new : Rat) + (at_ - ((roundRat at_ : Int) : Rat)), speed := spd, time := s.time.dev, lockAt := lock,
                        sum := k.sum + spd, n := k.n + 1 }
      theta := new
      count := if posMode s p = 1 then x.count + delta else x.count
      fwd := if posMode s p = 1 && delta != 0 then decide (0 < delta) else x.fwd }) s
    let s := if posMode s p = 1 && (posAt s p).speedValid then feedPouts p delta s else s
    compareUnits p x.theta delta k.time s

/-- The tracking loop of interface `p` is updated every 1 us (R272). -/
def trackTick (p : Nat) (s : State) : State :=
  if posOn s p && (posMode s p == 1 || posMode s p == 2) && s.time.dev / 400 != (posAt s p).track.time / 400 then trackStep p s else s

/-- Signal frequency in hertz by the tracking loop: of the resolver, or of the sine and cosine (R272, R273). -/
def signalHz (s : State) (p : Nat) : Rat :=
  |(posAt s p).track.speed| * 1000000 / 262144 * (if posMode s p = 2 then (posPar s p 5 : Rat) else 1)

/-- R272, R273: the signal frequency is above its limit. -/
def execInputFrequencyLimit (p : Fin 8) (s : State) : Out :=
  let bad := if posMode s p = 1 then decide ((posPar s p 1 : Rat) < 8 * signalHz s p)
    else posMode s p == 2 && decide (200000 < signalHz s p)
  if posOn s p && bad then .next (if (posAt s p).faulty then failCheck p s else posFault 0x0414 p (failCheck p s)) else .next s

/-- R270, Table 8.2: the tracking loop has locked, its error below 1 degree for 10 ms; the interface becomes valid. -/
def execTrackingLock (p : Fin 8) (phase : Nat) (s : State) : Out :=
  let x := posAt s p
  let locked := match x.track.lockAt with
    | some t => decide (t + 4000000 ≤ s.time.dev)
    | none => false
  if posOn s p && posMode s p == 1 && !x.faulty && !x.angleValid && locked then
    .next (modPos p (fun x => { x with speedValid := true, angleValid := true, fwd := true, excPhase := phase % 262144 }) s)
  else .next s

/-! ### Speed (R288 to R291) -/

/-- Speed in 0.01 rpm of the sensor's revolution from counts over 10 ns times. -/
def rpmOf (dc : Int) (n dt : Nat) : Int := roundDiv (dc * 600000000000) ((n * dt : Nat) : Int)

/-- Speed at the end of a window in a counting mode (R288 to R290); two edges with one time stamp state none (log entry 3). -/
def windowSpeed (f n tEnd : Nat) (x : PosIf) : Int :=
  match x.edges with
  | a :: rest =>
    match rest.getLast? with
    | some z => if z.2 ≤ a.2 then Config.freeInt f else rpmOf (z.1 - a.1) n (z.2 - a.2)
    | none => bound x tEnd
  | [] => bound x tEnd
where
  /-- With fewer than two usable edges the magnitude is bounded by the time since the last edge (R290). -/
  bound (x : PosIf) (tEnd : Nat) : Int :=
    match x.lastEdge with
    | some t =>
      let mag := if tEnd ≤ t then |x.rpm100| else min |x.rpm100| (rpmOf 1 n (tEnd - t))
      if x.fwd then mag else -mag
    | none => x.rpm100

/-- The machine that takes its speed from an interface follows it (R291). -/
def passSpeed (p : Nat) (s : State) : State :=
  match posMach s p with
  | some m => if (machAt s m).onObs then s else modMach m (fun x => { x with spd := ifSpeedPu s m, spdKnown := true }) s
  | none => s

/-- Speed of the tracking loop averaged over the window, in 0.01 rpm of the sensor's revolution (R288). -/
def loopSpeed (x : PosIf) : Int :=
  if x.track.n = 0 then x.rpm100 else roundRat (x.track.sum / (x.track.n : Rat) * 6000000000 / 262144)

/-- The speed at the end of the window of interface `p` at `tEnd` (R288 to R290). -/
def measureSpeed (f p tEnd : Nat) (s : State) : State :=
  modPos p (fun x => { x with
    rpm100 := if posMode s p = 1 then loopSpeed x
      else windowSpeed f (revCounts s p) tEnd { x with edges := x.edges.filter (fun e => decide (e.2 ≤ tEnd)) } }) s

/-- R288: the end of a speed window; windows follow each other without gaps. -/
def execSpeedWindow (p : Fin 8) (s : State) : Out :=
  let x := posAt s p
  let tEnd := x.winAt + x.winLen
  if posOn s p && decide (tEnd ≤ now10 s) then
    let (f, s) := drawFree s
    let s := if x.speedValid then passSpeed p (measureSpeed f p tEnd s) else s
    .next (modPos p (fun x => { x with
      edges := x.edges.filter (fun e => decide (tEnd < e.2)), track := { x.track with sum := 0, n := 0 },
      winAt := tEnd, winLen := 1000 * (posPar s p 0xB).toNat }) s)
  else .next s

/-- R290: no accepted edge for P_SPD_ZERO; the direction stays. -/
def execSpeedZeroTimeout (p : Fin 8) (s : State) : Out :=
  let x := posAt s p
  let idle := decide ((x.lastEdge.getD x.initAt : Int) + 100000 * posPar s p 0xC ≤ now10 s)
  if posOn s p && x.speedValid && (posMode s p == 2 || posMode s p == 3 || posMode s p == 4) && idle then
    .next (passSpeed p (modPos p (fun x => { x with rpm100 := 0, edges := [] }) s))
  else .next s

/-! ### Angle compare (R294 to R300) -/

/-- The late window in the frame of unit `u` (R296). -/
def lateWindow (s : State) (u : Nat) : Nat :=
  let l := parN s 0x5F00
  if cmpPar s u 1 = 1 then
    match posMach s (cmpIf s u) with
    | some m => l / mParN s m 0x03
    | none => l
  else l

/-- R296: the scheduler loads the waiting target of unit `u`. -/
def loadCmp (u target : Nat) (rep : Bool) (s : State) : State :=
  let p := cmpAngle s u
  let fwd := (posAt s (cmpIf s u)).fwd
  let d := ang18 ((if fwd then 1 else -1) * ((target : Int) - p))
  let s := modCmp u (fun x => { x with st := .armed, target := target, rep := rep, waiting := false, pend := none, hit := none }) s
  if !dirAllowed s u fwd then s
  else if d = 0 then fireCmp u false fwd s.time.dev p s
  else if ang18 (-(d : Int)) ≤ lateWindow s u then fireCmp u true fwd s.time.dev p s
  else s

/-- R295, R296: a crossing of the target still in force fires first, and then the new one is loaded. -/
def execCompareLoad (u : Fin 16) (s : State) : Out :=
  if isUp s && gateOpen s 12 then
    match (cmpAt s u).pend with
    | some (target, rep) => .next (loadCmp u target rep (fireHit u s))
    | none => .next s
  else .next s

/-- R297: a crossing in an allowed direction has been detected, and fires the unit. -/
def execCompareFire (u : Fin 16) (s : State) : Out := if isUp s && gateOpen s 12 then .next (fireHit u s) else .next s

/-- R297: a repeat unit re-arms once the angle is 0x1_0000 away from its target. -/
def execCompareRearm (u : Fin 16) (s : State) : Out :=
  if isUp s && gateOpen s 12 && (cmpAt s u).waiting && decide (0x10000 ≤ |angDiff (cmpAngle s u) (cmpAt s u).target|) then
    .next (modCmp u (fun x => { x with waiting := false }) s)
  else .next s

/-- R295: CMP_ARM. -/
def opCmpArm (t : Nat) (unit form : Byte) (target : U32) (s : State) : State :=
  let u := unit.toNat
  if 16 ≤ u then refuse t ST_BAD_PARAM RS_NONE unit 0 s
  else if !gateOpen s 12 then refuse t ST_BUS_ERROR RS_NONE unit 0 s
  else if form = 2 then finish t ST_OK [] (modCmp u (fun x => { x with st := .disarmed, waiting := false, pend := none }) (fireHit u s))
  else if 2 < form.toNat then refuse t ST_BAD_PARAM RS_NONE unit 0 s
  else if 262144 ≤ target.toNat then refuse t ST_OUT_OF_RANGE RS_NONE unit 0 s
  else if !domOn s (8 + cmpIf s u) then refuse t ST_DOMAIN_OFF RS_NONE unit 0 s
  else finish t ST_OK [] (modCmp u (fun x => { x with pend := some (target.toNat, form == 1) }) s)

/-- Coding of a unit's state (Table 14.8). -/
def cmpCode : CmpState → Byte
  | .disarmed => 0
  | .armed => 1
  | .aborted => 2

/-- R298: CMP_STATUS. -/
def opCmpStatus (t : Nat) (unit : Byte) (s : State) : State :=
  let x := cmpAt s unit.toNat
  if 16 ≤ unit.toNat then refuse t ST_BAD_PARAM RS_NONE unit 0 s
  else if !gateOpen s 12 then refuse t ST_BUS_ERROR RS_NONE unit 0 s
  else finish t ST_OK ([cmpCode x.st, BitVec.ofNat 8 (bitAt x.late 0 + bitAt x.repFlag 1 + bitAt x.back 2)] ++
    beBytes 2 x.unrec ++ beBytes 4 x.esn.toNat ++ beBytes 8 x.time ++ beBytes 4 x.angle) s

/-- R295. -/
def execCmpArm (h : Hdr) (unit form : Byte) (target : U32) (s : State) : Out :=
  .next (serve h 0x0208 ([unit, form, 0, 0] ++ beBytes 4 target.toNat) false (fun t s => opCmpArm t unit form target s) s)
/-- R298. -/
def execCmpStatus (h : Hdr) (unit : Byte) (s : State) : Out :=
  .next (serve h 0x0209 [unit] false (fun t s => opCmpStatus t unit s) s)

end Sys2Proof.Machine
end

