-- ==== Sys2Proof/Machine/System.lean ====
section
/-! DEFINITION. The system opcodes of group 0x01 (R475 to R477, R454). -/

namespace Sys2Proof.Machine

/-- The ordering code, padded with 0x00 (Tables 0.1 and 14.5). -/
def orderingCode : List Byte :=
  let base : List Byte := [0x46, 0x44, 0x4D, 0x2D, 0x34, 0x38, 0x31, 0x36, 0x2D, 0x48, 0x31]
  if Config.miningCode then base ++ [0x45] ++ zeros 4 else base ++ zeros 5

/-- The slot of a class that is marked active. -/
def markedSlot (s : State) (c : ImgClass) : Slot := if (slotsAt s c).markB then (slotsAt s c).b else (slotsAt s c).a

/-- A truth value as the byte 0 or 1. -/
def flagByte (b : Bool) : Byte := if b then 1 else 0

/-- Island step of a leg: that of its low island, and of its high island where the low one is absent (Table 14.5). -/
def legStep (s : State) (l : Nat) : Byte :=
  if islandStep (lowOf s l) ≠ 0 then islandStep (lowOf s l) else islandStep (highOf s l)

/-- Table 14.5. -/
def identifyData (s : State) : List Byte :=
  orderingCode ++
  [Config.deviceStep,
   BitVec.ofNat 8 (bitAt s.dev.coreStrap 0 + bitAt s.dev.bootStrap 1 + bitAt s.dev.casc0 2 + bitAt s.dev.casc1 3),
   flagByte s.dev.split, BitVec.ofNat 8 (deviceIndex s)] ++
  beBytes 16 Config.serialNumber.toNat ++
  [ImgClass.main, .mon, .fe, .isl, .ctab].flatMap (fun c => beBytes 4 (versionOf s c).toNat) ++
  beBytes 32 (Config.sha256 (psetBody s.store.act)).toNat ++
  beBytes 32 ((inForce s .cset).getD (markedSlot s .cset)).man.bodyDigest.toNat ++
  (List.range 24).map (legStep s) ++
  (List.range 4).map (fun n => islandStep (chanAt s (48 + n))) ++
  beBytes 32 identityHash.toNat ++ beBytes 6 Config.macAddress.toNat ++ zeros 2

/-- The speed of machine `m` in 0.01 rpm and the vehicle frame (R238). -/
def vehicleSpeed (s : State) (m : Nat) : Int :=
  mPar s m 0x1A * roundDiv ((machAt s m).spd * (mPar s m 0x06 * 100)) 32768
/-- The torque reference after limits of machine `m` in 0.01 Nm and the vehicle frame. -/
def vehicleTorque (s : State) (m : Nat) : Int :=
  mPar s m 0x1A * roundDiv ((machAt s m).tRef * (mPar s m 0x08 * 100)) 32768

/-- The chopper of link group `g` is available: fitted, not locked by F-0503, D3 on and not FROZEN (R319, R321). -/
def chopperAvailable (s : State) (g : Nat) : Bool :=
  lgPar s g 5 == 1 && !(lgAt s g).chopLock && !regenLocked s g && domOn s 3 && isLive s && !isFrozen s

/-- The highest fret count of the machines of link group `g`. -/
def groupFrets (s : State) (g : Nat) : Nat :=
  ((machines s).filter (fun m => machLg s m == g)).foldl (fun k m => max k (machFrets s m)) 0

/-- V_LG in 0.1 V; a free value without a reading (R313; log entry 3). -/
def vlgField (s : State) (g : Nat) : List Byte :=
  match (lgAt s g).vlg with
  | some v => beBytes 2 (min 65535 (roundDiv v 100).toNat)
  | none => beBytes 2 ((Config.freeWord (s.time.free + g)).toNat % 65536)

/-- Table 14.6. -/
def stateData (s : State) : List Byte :=
  [devStateCode (devState s), (if isUp s then serviceReason s else 0), flagByte s.dev.split, BitVec.ofNat 8 s.dev.step] ++
  (List.range 8).map (fun b => bridgeCode (stOf s b)) ++
  (List.range 8).map (fun m => if machExists s m then phaseCode (machAt s m).ph else 0xFF) ++
  [BitVec.ofNat 8 (bitAt s.safety.passA 0 + bitAt s.safety.passB 1),
   BitVec.ofNat 8 (bitAt (readyPin s) 0 + bitAt (nFaultPin s) 1 + bitAt s.pins.drvEn 2 + bitAt s.pins.stoA 3 +
     bitAt s.pins.stoB 4 + bitAt s.pins.kl15 5 + bitAt s.pins.keep 6),
   BitVec.ofNat 8 (min 255 s.safety.locks.length), 0] ++
  beBytes 4 s.recd.esnL34.toNat ++ beBytes 4 s.recd.esnLatest.toNat ++
  (List.range 8).flatMap (fun m =>
    if machExists s m then beInt 4 (vehicleSpeed s m) ++ beInt 4 (vehicleTorque s m) else zeros 8) ++
  [0, 1].flatMap (fun g => vlgField s g ++
    [BitVec.ofNat 8 (groupFrets s g),
     BitVec.ofNat 8 (bitAt (chopperAvailable s g) 0 + bitAt (regenLocked s g) 1 + bitAt (lgAt s g).dis.isSome 2)])

/-- R475: IDENTIFY. -/
def opIdentify (t : Nat) (s : State) : State := finish t ST_OK (identifyData s) s

/-- R475: GET_STATE; the two counts up where a link group has no reading. -/
def opGetState (t : Nat) (s : State) : State :=
  let data := stateData s
  finish t ST_OK data (drawFree (drawFree s).2).2

/-- R476: SET_OP_MODE 0x01. -/
def opServiceEnter (t : Nat) (s : State) : State :=
  if devState s == .service then finish t ST_OK [] s
  else if anyActive s (List.range 8) then refuse t ST_WRONG_STATE RS_BRIDGE_STATE 0xFF 0 s
  else finish t ST_OK [] (noteService 0x04 { s with dev := { s.dev with commanded := true } })

/-- R476: SET_OP_MODE 0x00. -/
def opServiceLeave (t : Nat) (s : State) : State :=
  if devState s == .service && serviceReason s == 0x04 then
    finish t ST_OK [] { s with dev := { s.dev with commanded := false } }
  else refuse t ST_WRONG_STATE RS_DEVICE_STATE 0xFF 0 s

/-- R477: RESET; BOOT is entered 10 ms after the reply on the D0 clock, at its first tick not before: 328 ticks (R395). -/
def opReset (t : Nat) (arg : Byte) (s : State) : State :=
  if arg ≠ 0 then refuse t ST_BAD_PARAM RS_NONE 0xFF 0 s
  else if anyActive s (List.range 8) then refuse t ST_WRONG_STATE RS_BRIDGE_STATE 0xFF 0 s
  else
    let s := finish t ST_OK [] s
    { s with dev := { s.dev with resetAt := some (s.dev.resetAt.getD (s.time.rtc + 328).toNat) } }

/-- The state of a context in the coding of CTX_QUERY (Table 14.7). -/
def ctxCode : CtxState → Byte
  | .free => 0
  | .short => 1
  | .long => 2
  | .done => 3

/-- Milliseconds left to a deadline. -/
def msLeft (s : State) (c : Ctx) : Nat := (c.deadline - s.time.dev) / 400000

/-- R454: CTX_QUERY of a tag, for the session of context `t`. -/
def opCtxQuery (t : Nat) (tag : Byte) (s : State) : State :=
  let me := ctxAt s t
  let c := ctxAt s tag.toNat
  if 127 < tag.toNat then refuse t ST_BAD_PARAM RS_NONE 0xFF 0 s
  else if c.st == .free || c.mute || c.gen != me.gen || c.gen == 0 then refuse t ST_NO_CONTEXT RS_NONE 0xFF 0 s
  else
    let head := [ctxCode c.st, 0] ++ beBytes 2 c.opcode.toNat
    match c.st, c.final with
    | .done, some r => finish t ST_OK (head ++ beBytes 4 0 ++ replyBytes r) s
    | .done, none => refuse t ST_NO_CONTEXT RS_NONE 0xFF 0 s
    | _, _ => finish t ST_OK (head ++ beBytes 4 (msLeft s c)) s

/-- R475. -/
def execIdentify (h : Hdr) (s : State) : Out := .next (serve h 0x0100 [] false opIdentify s)
/-- R475. -/
def execGetState (h : Hdr) (s : State) : Out := .next (serve h 0x0101 [] false opGetState s)
/-- R476. -/
def execSetOpModeEnter (h : Hdr) (s : State) : Out := .next (serve h 0x0102 [0x01] false opServiceEnter s)
/-- R476. -/
def execSetOpModeLeave (h : Hdr) (s : State) : Out := .next (serve h 0x0102 [0x00] false opServiceLeave s)
/-- R477. -/
def execReset (h : Hdr) (arg : Byte) (s : State) : Out := .next (serve h 0x0103 [arg] false (fun t s => opReset t arg s) s)
/-- R454. -/
def execCtxQuery (h : Hdr) (tag : Byte) (s : State) : Out :=
  .next (serve h 0x0104 [tag] false (fun t s => opCtxQuery t tag s) s)

end Sys2Proof.Machine
end

