-- ==== Sys2Proof/Machine/Power.lean ====
section
/-! DEFINITION. Power domains and operating points (R410 to R421, R426 to R429): the sequencer of the Drone domain. -/

namespace Sys2Proof.Machine

/-! ### Interlocks (Table 12.7, R410) -/

/-- Bridge `b` is PRECHARGING, ARMED, RUNNING or SAFE. -/
def engaged (s : State) (b : Nat) : Bool := isActive (stOf s b) || stOf s b == .safe

/-- Some bridge of the device is PRECHARGING, ARMED, RUNNING or SAFE. -/
def anyEngaged (s : State) : Bool := (List.range 8).any (engaged s)

/-- Interface Pn serves a machine that is PRECHARGING, ARMED, RUNNING or SAFE. -/
def posEngaged (s : State) (p : Nat) : Bool :=
  match posMach s p with
  | some m => (machBridges s m).any (engaged s)
  | none => false

/-- Compare unit `u` watches interface Pn. -/
def cmpOn (s : State) (p u : Nat) : Bool := posPhys s (cmpPar s u 0).toNat == p

/-- An output of POS_OUT takes interface Pn as its source. -/
def poutOn (s : State) (p : Nat) : Bool :=
  (List.range 4).any (fun k => poutPar s k 0 != 0xFF && posPhys s (poutPar s k 0).toNat == p)

/-- Entry to STANDBY is in progress. -/
def entering (s : State) : Bool := s.pwr.sby.isSome

/-- The interlock of Table 12.7 that keeps domain `n` on, as the reason that DOMAIN_SET gives; none where it may leave on. -/
def interlock (s : State) (n hold : Nat) : Option Byte :=
  if n = 0 then some RS_NONE
  else if n = 1 ∨ n = 2 ∨ n = 4 then (if entering s then none else some RS_DEVICE_STATE)
  else if n = 3 then
    if anyEngaged s then some RS_BRIDGE_STATE
    else if s.lgs.any (fun g => g.dis.isSome) then some RS_DISCHARGE
    else if s.ctds.any (fun c => c.closed) then some RS_NONE else none
  else if n = 5 then
    if entering s then none
    else if anyActive s (List.range 8) then some RS_BRIDGE_STATE
    else if hold = 0 then some RS_NONE else none
  else if n < 8 then (if anyEngaged s then some RS_BRIDGE_STATE else none)
  else
    let b := n - 8
    if !(stOf s b == .idle || (bridgeMach s b).isNone && !engaged s b) then some RS_BRIDGE_STATE
    else if posEngaged s b then some RS_BRIDGE_STATE
    else if (List.range 16).any (fun u => cmpOn s b u && (cmpAt s u).st == .armed) || poutOn s b then some RS_NONE
    else none

/-! ### Domains leaving and reaching on -/

/-- The channels of bridge `b`. -/
def bridgeChans (s : State) (b : Nat) : List Nat := (bridgeLegs s b).flatMap (fun l => [lowChan l, highChan l])

/-- The command-context unit and the networks lose D5 (R448, R451, R502, R508, R513); every controller sleeps
with its termination open; `keep` where the state of the switch is saved (R416). -/
def loseNetwork (keep : Bool) (s : State) : State :=
  let s := forEach (List.range' 1 8) closeSession s
  { s with
    proto := { s.proto with ctx := s.proto.ctx.map (fun _ => Ctx.reset), left := [], urgentQ := [], normalQ := [],
                            reasm := List.replicate 16 none }
    net := { s.net with
      can := s.net.can.map (fun (c : CanCtl) => { c with
        sleep := true, term := false, rx := List.replicate 16 ⟨[]⟩, seg := List.replicate 4 0, shot := none }),
      gptpSync := s.net.gptpSync && keep
      gptpOfs := if keep then s.net.gptpOfs else 0
      gcl := if keep then s.net.gcl else []
      gclPorts := if keep then s.net.gclPorts else 0
      canTx := List.replicate 16 []
      egress := []
      eth := s.net.eth.map (fun (p : EthPort) => { p with link := false }) } }

/-- Quanta of 25 ns in one bit of a rate in kbit/s, and the quantum of the sample point nearest to `pct` per cent, ties towards the later one
(R500). -/
def bitTiming (kbit pct : Nat) : Nat × Nat :=
  let n := 40000 / kbit
  (n, (2 * n * pct + 100) / 200)

/-- Bit timing of a controller as the active set gives it: the nominal and the data phase (R500, Table 15.9). -/
def canTiming (s : State) (n : Nat) : (Nat × Nat) × (Nat × Nat) :=
  (bitTiming ([125, 250, 500, 1000].getD (canPar s n 1) 1000) (canPar s n 3),
   bitTiming ([1000, 2000, 4000, 5000, 8000].getD (canPar s n 2) 1000) (canPar s n 4))

/-- The CAN controllers as D5 and the active set give them: asleep where not enabled, the split termination under P_CAN_TERM (R502, R508). -/
def startCan (s : State) : State :=
  { s with net := { s.net with can := s.net.can.mapIdx (fun i (c : CanCtl) =>
    { c with sleep := canPar s i 0 == 0, term := canPar s i 6 == 1, nominal := (canTiming s i).1, dataPh := (canTiming s i).2 }) } }

/-- A field-engine domain leaves on: its islands park, its bridge is DISABLED and its interface measures no more (R25, R413,
R415, R416). -/
def loseFe (n : Nat) (keep : Bool) (s : State) : State :=
  let s := switchesOff n s
  let s := forEach (bridgeChans s n) (fun c => modChan c (fun x => { x with parked := islandThere x })) s
  let s := modBridge n (fun br =>
    let st := if br.st == .retired then BridgeState.retired else .disabled
    if keep then { br with st := st, oldItems := none }
    else { Bridge.reset with st := st, retiredLeg := br.retiredLeg, calFailA := br.calFailA, calFailB := br.calFailB,
                             feVersion := br.feVersion, ovr := br.ovr, mode := br.mode }) s
  let s := stopPouts n (modPos n (fun x => { PosIf.reset with retired := x.retired }) s)
  if keep then modMach n (fun x => { x with oldItems := none }) s else modMach n (fun x => { Mach.reset with saliency := x.saliency, pluckOk := x.pluckOk, tag := x.tag }) s

/-- What domain `n` loses as it leaves on; `keep` where its retention list is saved (R416). -/
def leaveOn (n : Nat) (keep : Bool) (s : State) : State :=
  if n = 5 then loseNetwork keep s
  else if n = 3 then choppersOff (fun _ => true) s
  else if n = 6 then (if keep then s else { s with bankA := { SnsBank.reset with supErr := s.bankA.supErr, refErr := s.bankA.refErr } })
  else if n = 7 then (if keep then s else { s with bankB := { SnsBank.reset with supErr := s.bankB.supErr, refErr := s.bankB.refErr } })
  else if 8 ≤ n then loseFe (n - 8) keep s
  else s

/-- The link of a parked island trains again and its delay, in ns, is measured anew (R127, R415): a free value. -/
def retrain (c : Nat) (s : State) : State :=
  let (i, s) := drawFree s
  modChan c (fun x => { x with parked := false, linkDly := if islandThere x then (Config.freeWord i).toNat % 65536 else x.linkDly }) s

/-- Bridge `b` comes back as its FE domain is ready: its links retrain and unpark, and its interface initialises (R413,
R415, R416). -/
def returnFe (b : Nat) (s : State) : State :=
  let s := forEach (bridgeChans s b) retrain s
  initPos b (modBridge b (fun br => { br with st := if isHeld br then .safe else idleState s b br }) s)

/-- Domain `n` is on: in regulation within its deadline (R426). A restored FE domain stays DISABLED until its restore has
completed (R417). -/
def domainOn (n : Nat) (s : State) : State :=
  let s := modDom n (fun d => { d with st := .on, busy := false, wakeFail := false, forcedOff := false }) s
  if n = 5 then
    startCan { s with pwr := { s.pwr with d5Hold := none } }
  else if 8 ≤ n ∧ !(domAt s n).saved then returnFe (n - 8) s
  else s

/-! ### Requests (R411, R412) -/

/-- The sequencer carries out an allowed request for domain `n`: 0 on, 1 retention, 2 off. -/
def changeDomain (n req hold : Nat) (s : State) : State :=
  let d := domAt s n
  if req = 0 then
    modDom n (fun d => { d with req := .on, busy := d.st != .on, tries := if d.st != .on then 0 else d.tries,
                                forcedOff := false }) s
  else
    let keep := req == 1 && decide (4 ≤ n)
    let want : DomState := if req = 1 then .ret else .off
    if d.st == .on then
      let s := leaveOn n keep s
      let s := modDom n (fun d => { d with req := want, st := want, busy := false, saved := keep }) s
      if n = 5 ∧ hold ≠ 0 then { s with pwr := { s.pwr with d5Hold := some hold } } else s
    else
      modDom n (fun d => { d with req := want, busy := false, forcedOff := false,
                                  st := if d.st == .ret && want == .off then .off else d.st,
                                  saved := d.saved && want == .ret }) s

/-- A request breaks an interlock (R411), or asks for retention of D1 to D3, which they enter only as listening standby is reached (R418). -/
def domainRefusal (s : State) (n req hold : Nat) : Option Byte :=
  if req = 0 ∨ (domAt s n).st ≠ .on then none
  else match interlock s n hold with
    | some r => some r
    | none => if req = 1 ∧ n ≤ 3 then some RS_DEVICE_STATE else none

/-- A request to the sequencer: ILK_REFUSED where it is refused (R411). -/
def requestDomain (n req hold : Nat) (s : State) : State :=
  match domainRefusal s n req hold with
  | some _ => modDom n (fun d => { d with ilk := true }) s
  | none => changeDomain n req hold s

/-- R411: a write of DOM_CTLn.REQ. DOM_CTL0 is read-only; 0b11 names no state and leaves the field as it is. -/
def execDomCtlRequest (n : Fin 16) (req : BitVec 2) (hold : U16) (s : State) : Out :=
  if s.dev.ph == .off || n.val = 0 || req = 3 then .next s else .next (requestDomain n req.toNat hold.toNat s)

/-- R411: DOMAIN_SET; the reply for D5 is sent before it leaves on (R412). -/
def opDomainSet (t : Nat) (domain request : Byte) (hold : U16) (s : State) : State :=
  let n := domain.toNat
  if n = 0 ∨ 15 < n then refuse t ST_BAD_PARAM RS_NONE domain 0 s
  else if 2 < request.toNat then refuse t ST_BAD_PARAM RS_NONE domain 0 s
  else match domainRefusal s n request.toNat hold.toNat with
    | some why => refuse t ST_WRONG_STATE why domain 0 (requestDomain n request.toNat hold.toNat s)
    | none => requestDomain n request.toNat hold.toNat (finish t ST_OK [] s)

/-- The eight data bytes of a frame as one number, absent bytes 0. -/
def frameData (data : List Byte) : Nat := beNat ((data ++ zeros 8).take 8)

/-- A frame is the wake frame set (R509). -/
def isWakeFrame (items : List (Nat × Int)) (xtd : Bool) (id : BitVec 29) (dlc : Nat) (data : List Byte) : Bool :=
  let v := fun (i : Nat) => (itemValue items (0xA018 + i)).toNat
  xtd == (v 2 == 1) && (id.toNat &&& v 1) == (v 0 &&& v 1) && dlc == v 3 &&
    (v 3 == 0 || (frameData (data.take dlc) &&& (v 4 * 2 ^ 32 + v 5)) != 0)

/-- What CANF0 sees wakes under WAKE_CTL.CAN_WAKE and a set of wake-frame items (R509). -/
def canWakes (s : State) (items : List (Nat × Int)) : CanWakeEv → Bool
  | .dominant ns => s.pwr.canWake == 1 && decide (5000 ≤ ns)
  | .frame xtd id dlc data => s.pwr.canWake == 2 && isWakeFrame items xtd id dlc data
  | .errors n => s.pwr.canWake == 2 && decide (31 < n)

/-- D5, left under a hold time, returns to on (R412). -/
def returnD5 (s : State) : State :=
  if s.pwr.d5Hold.isSome && !domOn s 5 && !(domAt s 5).busy then changeDomain 5 0 0 s else s

/-- R412: what ends the hold time of D5. The wake-frame items are those in force since the last entry to STANDBY (R534). -/
def execD5HoldExpiry (cause : D5Return) (ms : Nat) (s : State) : Out :=
  match s.pwr.d5Hold with
  | some h =>
    let ends := match cause with
      | .expiry => decide (10 * h ≤ ms)
      | .kl15Rise => true
      | .canWake ev => canWakes s s.pwr.wuf ev
    .next (if ends then returnD5 s else s)
  | none => .next s

/-! ### Wake deadlines (R426 to R429) -/

/-- What F-0803 of domain `n` does at runtime (R429); while D4 is not on it is held in D0 (R427). -/
def wakeFailed (n : Nat) (s : State) : State :=
  let sc : Scope := if n < 8 then .device
    else match bridgeMach s (n - 8) with
      | some m => if (machBridges s m).length = 2 then .machine m else .nothing
      | none => .nothing
  let lv := faultLevel s 0x0803
  let (e, s) := if domOn s 4 then recordEvent 0x0803 lv (srcDom n) [] s else
    let (e, s) := allocEsn s
    (e, { s with pwr := { s.pwr with held := s.pwr.held ++ [(n, s.time.dev)] } })
  let bs := (scopeBridges s sc).filter (fun b => n < 8 || b != n - 8)
  let s := override RS_BRIDGE_STATE true ⟨.fault 0x0803, lv, n⟩ bs s
  let s := if lv = 4 then openContactors bs (addLockout 0x0803 n sc e s) else s
  forEach ([0, 1].filter (abortedWinding s)) raise0508 s

/-- F-0803 in start-up; while D4 is not on it is held in D0 (R427). -/
def noteWake (n : Nat) (s : State) : State :=
  if domOn s 4 then note 0x0803 (srcDom n) [] s
  else { s with pwr := { s.pwr with held := s.pwr.held ++ [(n, s.time.dev)] } }

/-- The F-0803 held in D0 are written as start-up reaches step 4 (R427). -/
def writeHeldWakes (s : State) : State :=
  s.pwr.held.foldl (fun s h => (recordAt h.2 0x0803 (faultLevel s 0x0803) 0 (srcDom h.1) 1 [] s).2)
    { s with pwr := { s.pwr with held := [] } }

/-- R426, R427: the wake deadline of a domain. In regulation within 66 D0 ticks it is on; past them it is forced off, and
after the third retry WAKE_FAIL is set. -/
def execDomainWakeDeadline (dom : Fin 16) (ticks : Nat) (regAt : Option Nat) (s : State) : Out :=
  let n := dom.val
  let d := domAt s n
  let group := s.dev.ph == .boot && decide (1 ≤ n ∧ n ≤ 5)
  let xo := !group || hasBit s.clk.rdy.toNat 0
  let reg := match regAt with
    | some k => decide (k ≤ 66 ∧ k ≤ ticks)
    | none => false
  if !d.busy || d.forcedOff then .next s
  else if reg && xo then .next (domainOn n s)
  else if ticks < (if reg then 198 else 66) then .next s
  else if d.tries < 3 then .next (modDom n (fun d => { d with forcedOff := true, st := .off, saved := false }) s)
  else
    let s := modDom n (fun d => { d with forcedOff := false, busy := false, wakeFail := true, st := .off, saved := false }) s
    .next (if isUp s then wakeFailed n s else noteWake n s)

/-- R427: the next attempt, 328 D0 ticks after the start of the failed one. -/
def execDomainWakeRetry (dom : Fin 16) (ticks : Nat) (s : State) : Out :=
  let d := domAt s dom
  if d.busy && d.forcedOff && decide (328 ≤ ticks) && decide (d.tries < 3) then
    .next (modDom dom (fun d => { d with forcedOff := false, tries := d.tries + 1 }) s)
  else .next s

/-- R416: the retention data of a domain is restored; on a CRC mismatch the domain starts from its reset state and is configured again from
the active set. The recorder's rings are in MRAM with their pointers (R39) and stay. -/
def execRetentionRestore (dom : Fin 16) (crcOk : Bool) (s : State) : Out :=
  let n := dom.val
  if (domAt s n).saved && domOn s n then
    if crcOk then .next (if 8 ≤ n then s else modDom n (fun d => { d with saved := false }) s)
    else
      let s := note 0x0809 (srcDom n) [] (leaveOn n false (modDom n (fun d => { d with saved := false, crcErr := true }) s))
      .next (if n = 5 then startCan s else if 8 ≤ n then returnFe (n - 8) s else s)
  else .next s

/-- R417: the restore of an FE domain has completed, 180 us after its wake request. -/
def execFeRestoreComplete (n : Fin 8) (us : Nat) (s : State) : Out :=
  let d := domAt s (8 + n)
  if d.saved && d.st == .on && decide (180 ≤ us) then
    .next (returnFe n (modDom (8 + n) (fun d => { d with saved := false }) s))
  else .next s

/-! ### Domains that a parameter set needs (R25, R414) -/

/-- The FE domain of bridge `b` is needed: its bridge serves a machine, or its interface a machine, a unit or an output. -/
def feNeeded (s : State) (b : Nat) : Bool :=
  (bridgeMach s b).isSome || assigned s b || s.store.mapB.contains (ixByte b) ||
    (List.range 3).any (fun k => s.store.mapL.contains (ixByte (3 * b + k))) ||
    (posMode s b != 0 && ((posMach s b).isSome || poutOn s b || (List.range 16).any (fun u => cmpOn s b u && (cmpAt s u).st == .armed)))

/-- Bridge `b`, IDLE or DISABLED, is in the one of these two states that the set gives it (R199, R236). -/
def assignBridge (b : Nat) (s : State) : State :=
  modBridge b (fun br => { br with st := if br.st == .disabled || br.st == .idle then idleState s b br else br.st }) s

/-- R236, R414: FE domains are switched off where the set does not need them, and on where it has come to need them since `before`; an
unassigned bridge is DISABLED also where its domain stays on. -/
def switchFe (before s : State) : State :=
  forEach (List.range 8) (fun b s =>
    let d := domAt s (8 + b)
    let s := if d.st == .on then assignBridge b s else s
    if feNeeded s b then (if feNeeded before b || d.st == .on || d.busy then s else changeDomain (8 + b) 0 0 s)
    else if d.st != .off || d.busy then requestDomain (8 + b) 2 0 s else s) s

/-! ### Operating points (R419 to R421) -/

/-- A request for the main pair's point. -/
def requestMain (point : Nat) (s : State) : State :=
  let s := { s with pwr := { s.pwr with mainReq := point, capped := capHolds s && point == 0 } }
  seekMain (mainPoint s point) s

/-- A request for the monitor pair's point. -/
def requestMon (point : Nat) (s : State) : State := seekMon point { s with pwr := { s.pwr with monReq := point } }

/-- R421: point 1 of the monitor pair needs every bridge outside PRECHARGING, ARMED, RUNNING and SAFE. -/
def monRefused (s : State) (point : Nat) : Bool := point == 1 && anyEngaged s

/-- R420: a write of OP_POINT.MAIN_REQ or MON_REQ; 0b11, and a refused request, leave the field as it is. -/
def execOpPointRegRequest (pair : Pair) (point : BitVec 2) (s : State) : Out :=
  if !isUp s then .next s
  else match pair with
    | .main => if point = 3 then .next s else .next (requestMain point.toNat s)
    | .mon => if 1 < point.toNat ∨ monRefused s point.toNat then .next s else .next (requestMon point.toNat s)

/-- R420: OP_POINT. -/
def opOpPoint (t : Nat) (pair point : Byte) (s : State) : State :=
  if pair = 0 ∧ point.toNat < 3 then
    let s := requestMain point.toNat s
    finish t ST_OK [BitVec.ofNat 8 s.pwr.mainCur] s
  else if pair = 1 ∧ point.toNat < 2 then
    if monRefused s point.toNat then refuse t ST_WRONG_STATE RS_BRIDGE_STATE 0xFF 0 s
    else
      let s := requestMon point.toNat s
      finish t ST_OK [BitVec.ofNat 8 s.pwr.monCur] s
  else refuse t ST_BAD_PARAM RS_NONE 0xFF 0 s

/-- The main pair's transition ends at a point; a waiting request is carried out next. -/
def settleMain (point : Nat) (s : State) : State :=
  let w := s.pwr.waitMain
  let s := { s with pwr := { s.pwr with busyMain := false, mainCur := point, tgtMain := point, waitMain := none } }
  match w with
  | some p => seekMain p s
  | none => s

/-- An ARM that has waited for the monitor pair's point 0 goes on (R421): its checks are made again. -/
def resumeArm (m : Nat) (s : State) : State :=
  let t := (machAt s m).tag
  let s := modMach m (fun x => { x with armWait := false }) s
  match armRefusal s m with
  | some (st, why, ix) => finishOpt t st (detail why ix 0) (modMach m (fun x => { x with tag := none }) s)
  | none =>
    if allOperating s m then finishOpt t ST_OK [] (freshArm m (modMach m (fun x => { x with tag := none }) s))
    else startPrecharge m false s

/-- The same for the monitor pair: at point 0 the ARMs that waited for it go on (R421). -/
def settleMon (point : Nat) (s : State) : State :=
  let w := s.pwr.waitMon
  let s := { s with pwr := { s.pwr with busyMon := false, monCur := point, tgtMon := point, waitMon := none } }
  match w with
  | some p => seekMon p s
  | none => if point = 0 then cascadeHold s (forEach ((machines s).filter (fun m => (machAt s m).armWait)) resumeArm s) else s

/-- R420: a transition completes. -/
def execOpPointTransitionDone (pair : Pair) (s : State) : Out :=
  match pair with
  | .main => if s.pwr.busyMain then .next (settleMain s.pwr.tgtMain s) else .next s
  | .mon => if s.pwr.busyMon then .next (settleMon s.pwr.tgtMon s) else .next s

/-- R420: no regulation within 100 us: the previous point stays, OVERRUN and F-0808. -/
def execOpPointOverrun (pair : Pair) (us : Nat) (s : State) : Out :=
  let abandon := fun (s : State) (n : Nat) => note 0x0808 (srcDom n) [] { s with pwr := { s.pwr with overrun := true } }
  if us < 100 then .next s
  else match pair with
    | .main => if s.pwr.busyMain then .next (settleMain s.pwr.mainCur (abandon s 2)) else .next s
    | .mon => if s.pwr.busyMon then .next (settleMon s.pwr.monCur (abandon s 3)) else .next s

/-! ### The rows -/

/-- R411. -/
def execDomainSet (h : Hdr) (domain request : Byte) (hold : U16) (s : State) : Out :=
  .next (serve h 0x0A00 ([domain, request] ++ beBytes 2 hold.toNat) false (fun t s => opDomainSet t domain request hold s) s)
/-- R420. -/
def execOpPoint (h : Hdr) (pair point : Byte) (s : State) : Out :=
  .next (serve h 0x0A01 [pair, point] false (fun t s => opOpPoint t pair point s) s)

end Sys2Proof.Machine
end

