-- ==== Sys2Proof/Machine/Clocks.lean ====
section
/-! DEFINITION. Clock sources, PLL references, clock supervision, the frequency counter and clock gating (R395 to R410). -/

namespace Sys2Proof.Machine

/-! ### Sources and references -/

/-- Bit of a source in CLK_RDY and CLK_FAIL. -/
def srcBit : ClkSrc → Nat
  | .xo25 => 0 | .rc40 => 1 | .xo32k => 2 | .rc32k => 3 | .refin => 4

/-- A source is ready. -/
def srcReady (s : State) (k : ClkSrc) : Bool := hasBit s.clk.rdy.toNat (srcBit k)

/-- The device is a cascade slave (R81). -/
def isSlave (s : State) : Bool := deviceIndex s != 0

/-- Bit of a PLL in CLK_STAT.LOCK and CLK_STAT.COAST. -/
def pllBit : Pll → Nat
  | .sys => 0 | .pwm => 1 | .net => 2

/-- Shift of a PLL's field in CLK_SEL. -/
def pllShift : Pll → Nat
  | .sys => 0 | .pwm => 2 | .net => 4

/-- The reference code of a PLL in a value of CLK_SEL. -/
def refOf (sel : Nat) (p : Pll) : Nat := sel / 2 ^ pllShift p % 4

/-- The source that a reference code names for a PLL: 0b00 RC40, 0b01 XO25, 0b10 REFIN; PLL_NET has no RC40 (Table 12.12). -/
def refSrc (p : Pll) (code : Nat) : Option ClkSrc :=
  match code with
  | 0 => if p = .net then none else some .rc40
  | 1 => some .xo25
  | 2 => some .refin
  | _ => none

/-- CLK_SEL with one field replaced. -/
def setRefSel (p : Pll) (code : Nat) (sel : BitVec 7) : BitVec 7 :=
  BitVec.ofNat 7 (sel.toNat - refOf sel.toNat p * 2 ^ pllShift p + code * 2 ^ pllShift p)

/-- A bit of a 3-bit PLL field set or cleared. -/
def setPll (p : Pll) (v : Bool) (x : BitVec 3) : BitVec 3 :=
  if v then x ||| BitVec.ofNat 3 (2 ^ pllBit p) else x &&& ~~~(BitVec.ofNat 3 (2 ^ pllBit p))

/-- The source that a PLL is referenced to. -/
def pllSrc (s : State) (p : Pll) : Option ClkSrc := refSrc p (refOf s.clk.sel.toNat p)

/-- A PLL takes a reference through its multiplexer (R400): with the source ready it locks within 50 us and coasts no more (R398). -/
def takeRef (p : Pll) (code : Nat) (s : State) : State :=
  let sel := setRefSel p code s.clk.sel
  let rc := refOf sel.toNat .sys == 0 || refOf sel.toNat .pwm == 0
  let ready := match refSrc p code with
    | some k => srcReady s k
    | none => false
  let switches := refOf s.clk.sel.toNat p != code && !s.clk.switching.contains p
  { s with clk := { s.clk with sel := sel, lock := setPll p ready s.clk.lock, coast := setPll p (!ready && hasBit s.clk.coast.toNat (pllBit p)) s.clk.coast,
                               switching := if switches then s.clk.switching ++ [p] else s.clk.switching,
                               onRc40 := s.clk.onRc40 && rc, netStopped := s.clk.netStopped && p != .net } }

/-- Whether a CLK_SEL write of field `p` is refused, with the status that REG_WRITE gives (R399): also one of the code that the field holds. -/
def selRefusal (s : State) (p : Pll) (code : Nat) : Option U16 :=
  if p ≠ .net ∧ anyEngaged s then some ST_WRONG_STATE
  else match refSrc p code with
    | some k => if srcReady s k then none else some ST_SRC_NOT_READY
    | none => some ST_SRC_NOT_READY

/-- One field of a CLK_SEL write (R399, R400): refused with SWERR, or switched through the multiplexer. -/
def writeSel (value : Nat) (p : Pll) (s : State) : State :=
  let code := refOf value p
  match selRefusal s p code with
  | some _ => { s with clk := { s.clk with swErr := true } }
  | none =>
    if refOf s.clk.sel.toNat p = code then s
    else
      let s := takeRef p code s
      { s with dev := { s.dev with severe := s.dev.severe && p == .net } }

/-- A write of the RW fields of CLK_SEL. -/
def writeClkSel (value : Nat) (s : State) : State := writeSel value .net (writeSel value .pwm (writeSel value .sys s))

/-- R399. -/
def execClkSelWrite (value : U32) (s : State) : Out := if isUp s then .next (writeClkSel value.toNat s) else .next s

/-- R400: the oldest switch in progress ends; without an old-clock edge in 8 cycles of the new clock it is forced, with F-0806. -/
def execClockSwitchForced (oldEdge : Option Nat) (s : State) : Out :=
  if !s.clk.switching.isEmpty then
    let normal := match oldEdge with
      | some k => decide (k ≤ 8)
      | none => false
    let s := { s with clk := { s.clk with switching := s.clk.switching.drop 1, swForced := s.clk.swForced || !normal } }
    .next (if normal then s else note 0x0806 (srcDom 0) [] s)
  else .next s

/-- Qualification delay of a source in us (Table 12.1, R397). -/
def qualDelay (s : State) : ClkSrc → Nat
  | .xo25 => 4000
  | .rc40 => 0
  | .xo32k => 500000
  | .rc32k => 0
  | .refin => s.clk.refq.toNat * 10

/-- The references of Table 12.2 that firmware gives: XO25, and REFIN for PLL_PWM and PLL_NET of a slave once it is ready
(R398). -/
def bestRef (s : State) (p : Pll) : Option Nat :=
  if p ≠ .sys ∧ isSlave s ∧ srcReady s .refin then some 2
  else if srcReady s .xo25 then some 1 else none

/-- Firmware restores the reference of one PLL. -/
def restorePll (p : Pll) (s : State) : State :=
  match bestRef s p with
  | some c => takeRef p c s
  | none => s

/-- Every reference in use is ready. -/
def refsReady (s : State) : Bool :=
  [Pll.sys, .pwm].all (fun p => match pllSrc s p with
    | some k => srcReady s k
    | none => false)

/-- R396: a source has run inside its window for its qualification delay. A REFIN that qualifies for the first time on a
slave is then used (R398); one that comes back after a failure waits for CLOCK_RESTORE (R403). With RC40 the turn-ons that
R402 withheld are made. -/
def execSourceReady (src : ClkSrc) (us : Nat) (s : State) : Out :=
  if s.dev.ph == .off || decide (us < qualDelay s src) || (src == .refin && !s.clk.refqWritten) then .next s
  else
    let bit := BitVec.ofNat 5 (2 ^ srcBit src)
    let first := !hasBit s.clk.fail.toNat (srcBit src) && !srcReady s src
    let s := { s with clk := { s.clk with rdy := s.clk.rdy ||| bit, fail := s.clk.fail &&& ~~~bit,
                                          sel := if src = .xo32k then s.clk.sel ||| 0b1000000 else s.clk.sel } }
    let s := if src == .refin && first && isUp s && isSlave s then restorePll .net (restorePll .pwm s) else s
    let s := if src == .rc40 && isUp s then forEach ((List.range 8).filter (fun b => isHeld (bridgeAt s b))) reselect s else s
    .next { s with dev := { s.dev with severe := s.dev.severe && !refsReady s } }

/-! ### Clock supervision (R401 to R403) -/

/-- R401, level 1: a PLL without a reference edge for 4 reference periods coasts. -/
def execPllCoast (pll : Pll) (missing : Nat) (s : State) : Out :=
  if isLive s && decide (4 ≤ missing) && !hasBit s.clk.coast.toNat (pllBit pll) then
    .next (note 0x0802 (srcDom 0) [] { s with clk := { s.clk with coast := setPll pll true s.clk.coast } })
  else .next s

/-- Window of a source in ppm (Table 12.1). -/
def srcWindow (s : State) : ClkSrc → Int
  | .xo25 => 20000
  | .rc40 => 15000
  | .xo32k => if srcReady s .xo25 then 200 else 20000
  | .rc32k => 50000
  | .refin => 200

/-- The fallback of one PLL whose source has failed (Table 12.4). -/
def fallback (src : ClkSrc) (p : Pll) (s : State) : State :=
  if pllSrc s p ≠ some src then s
  else match src, p with
    | .xo25, .sys => moved .sys 0 s
    | .xo25, .pwm => moved .pwm (if srcReady s .refin then 2 else 0) s
    | .xo25, .net =>
      if srcReady s .refin then moved .net 2 s
      else { s with clk := { s.clk with netStopped := true, lock := setPll .net false s.clk.lock } }
    | .refin, _ => moved p 1 s
    | .rc40, _ => s
    | .xo32k, _ => s
    | .rc32k, _ => s
where
  /-- The PLL moves to a fallback by hardware; ON_RC40 shows one on RC40. -/
  moved (p : Pll) (code : Nat) (s : State) : State :=
    let s := takeRef p code s
    { s with clk := { s.clk with onRc40 := s.clk.onRc40 || code == 0 } }

/-- R401, level 2: the clock monitor declares a source failed. -/
def execClockSourceFail (src : ClkSrc) (missing : Nat) (ppm : Int) (s : State) : Out :=
  if s.dev.ph != .off && srcReady s src && (decide (4 ≤ missing) || decide (srcWindow s src < |ppm|)) then
    let bit := BitVec.ofNat 5 (2 ^ srcBit src)
    let s := { s with clk := { s.clk with rdy := s.clk.rdy &&& ~~~bit, fail := s.clk.fail ||| bit, nmi := s.clk.nmi ++ [src],
                                          sel := if src = .xo32k then s.clk.sel &&& 0b0111111 else s.clk.sel } }
    .next (fallback src .net (fallback src .pwm (fallback src .sys s)))
  else .next s

/-- R401, level 3: the monitor pair records F-0801, and raises F-0804 where a processing or PWM clock is on RC40. -/
def execClockFailHandling (src : ClkSrc) (s : State) : Out :=
  if monUp s && s.clk.nmi.contains src then
    let s := note 0x0801 (srcDom 0) [BitVec.ofNat 8 (srcBit src)] { s with clk := { s.clk with nmi := s.clk.nmi.filter (· != src) } }
    .next (if onRc40 s then raiseFault 0x0804 0 (srcDom 0) .device [] s else s)
  else .next s

/-- The severe condition is met (Table 12.3). A PLL_NET that its fallback has stopped is in none (Tables 12.4 and 12.5). -/
def isSevere (s : State) (pll : Pll) (kind : SevereKind) : Bool :=
  !(pll == .net && s.clk.netStopped) && (match kind with
    | .notLocked us => decide (100 ≤ us)
    | .outOfRange ppm => pll == .pwm && decide (50000 < |ppm|)
    | .noFallback => match pllSrc s pll with
      | some k => !srcReady s k
      | none => true)

/-- R401, severe: a soundpost request for every bridge, F-0805. -/
def execClockLossSevere (pll : Pll) (kind : SevereKind) (s : State) : Out :=
  if isLive s && isSevere s pll kind then
    let s := { s with dev := { s.dev with severe := true }, clk := { s.clk with lock := setPll pll false s.clk.lock } }
    .next (raiseFault 0x0805 0 (srcDom 0) .device [] s)
  else .next s

/-- R403: firmware restores the references once every bridge is IDLE or DISABLED. -/
def execClockRestore (s : State) : Out :=
  if isUp s && allIdle s (List.range 8) then
    let s := restorePll .net (restorePll .pwm (restorePll .sys s))
    .next { s with dev := { s.dev with severe := s.dev.severe && !refsReady s } }
  else .next s

/-! ### Clock gating (R407 to R410) -/

/-- A gate bit stands for a block (Table 12.12). -/
def gateBit (bit : Nat) : Bool := decide (bit < 13) || decide (16 ≤ bit ∧ bit < 32)

/-- Closing a gate is refused (R410). -/
def gateHeld (s : State) (bit : Nat) : Bool :=
  if 24 ≤ bit then engaged s (bit - 24) || posEngaged s (bit - 24)
  else if 16 ≤ bit then engaged s (bit - 16) || posEngaged s (bit - 16)
  else false

def maskBit (bit : Nat) : U32 := BitVec.ofNat 32 (2 ^ bit)

/-- A gate opens (R408). -/
def openGate (bit : Nat) (s : State) : State :=
  if gateBit bit then { s with clk := { s.clk with gate := s.clk.gate ||| maskBit bit, closing := s.clk.closing &&& ~~~(maskBit bit) } }
  else s

/-- A gate is to close (R409, R410): refused with SWERR, closed as its port is idle, or deferred. -/
def closeGate (bit : Nat) (idle : Bool) (s : State) : State :=
  if !gateBit bit || !gateOpen s bit then s
  else if gateHeld s bit then { s with clk := { s.clk with swErr := true } }
  else if idle then { s with clk := { s.clk with gate := s.clk.gate &&& ~~~(maskBit bit), closing := s.clk.closing &&& ~~~(maskBit bit) } }
  else { s with clk := { s.clk with closing := s.clk.closing ||| maskBit bit } }

/-- R408. -/
def execClkGateOpen (bit : Fin 32) (s : State) : Out := if isUp s then .next (openGate bit s) else .next s
/-- R409: `idleAt` is the cycle in which the port becomes idle. -/
def execClkGateClose (bit : Fin 32) (idleAt : Nat) (s : State) : Out :=
  if isUp s then .next (closeGate bit (decide (idleAt ≤ 256)) s) else .next s

/-- R409: the 256th cycle has passed; idle in it counts as idle (R45). -/
def execGateCloseForced (bit : Fin 32) (idleAt : Option Nat) (s : State) : Out :=
  if isUp s && hasBit s.clk.closing.toNat bit.val then
    let normal := match idleAt with
      | some k => decide (k ≤ 256)
      | none => false
    let s := { s with clk := { s.clk with gate := s.clk.gate &&& ~~~(maskBit bit.val), closing := s.clk.closing &&& ~~~(maskBit bit.val),
                                          gateForced := s.clk.gateForced || !normal } }
    .next (if normal then s else note 0x0807 (srcDom 0) [] s)
  else .next s

/-! ### Frequency counter (R404 to R406) -/

/-- Nominal frequency of a reference in Hz. -/
def fmRefHz : Nat → Option Nat
  | 0 => some 25000000
  | 1 => some 40000000
  | 2 => some 32768
  | 3 => some 25000000
  | _ => none

/-- Nominal frequency of an input in Hz (Table 12.6). -/
def fmInHz (s : State) : Nat → Option Nat
  | 0 => some 25000000
  | 1 => some 40000000
  | 2 => some 32768
  | 3 => some 32768
  | 4 => some 25000000
  | 5 => some (if s.pwr.mainCur = 0 then 800000000 else if s.pwr.mainCur = 1 then 600000000 else 400000000)
  | 6 => some 400000000
  | 7 => some 125000000
  | 8 => some 100000000
  | 9 => some 100000000
  | 10 => some 1000000
  | 11 => some 1000000
  | _ => none

/-- The domain that an input needs (R405). -/
def fmDomain : Nat → Option Nat
  | 5 => some 2
  | 7 => some 5
  | 8 => some 6
  | 9 => some 7
  | _ => none

/-- The selections and the gate of 1 ms to 1 s are in range (R404). -/
def fmInRange (s : State) : Bool :=
  match fmRefHz s.clk.fmRef.toNat, fmInHz s s.clk.fmIn.toNat with
  | some f, some _ => decide (f ≤ s.clk.fmGate.toNat * 1000 ∧ s.clk.fmGate.toNat ≤ f)
  | _, _ => false

/-- A START (R404): counting begins, or ERR. -/
def fmBegin (s : State) : State :=
  if fmInRange s then { s with clk := { s.clk with fmBusy := true } } else { s with clk := { s.clk with fmErr := true } }

/-- FM_STAT as a number. -/
def fmStat (s : State) : Nat :=
  bitAt s.clk.fmBusy 0 + bitAt s.clk.fmDone 1 + bitAt s.clk.fmErr 2 + bitAt s.clk.fmSrcOff 3 + bitAt s.clk.fmOvf 4

/-- The FREQ_MEASURE that runs ends. -/
def fmFinish (status : U16) (data : List Byte) (s : State) : State :=
  let t := s.clk.fmTag
  finishOpt t status data { s with clk := { s.clk with fmTag := none } }

/-- FREQMEAS can be used: D4 on and its gate open (R407, R408). -/
def fmUsable (s : State) : Bool := domOn s 4 && gateOpen s 9

/-- R404: a write of FM_CMD.START; one measurement runs at a time (R406). -/
def execFmStart (s : State) : Out := if isUp s && fmUsable s && !s.clk.fmBusy then .next (fmBegin s) else .next s

/-- R406: FREQ_MEASURE. An out-of-range selection or gate ends with ST_OUT_OF_RANGE as ERR is set (log entry 24). -/
def opFreqMeasure (t : Nat) (inSel refSel : Byte) (nRef : U32) (s : State) : State :=
  let off := match fmDomain inSel.toNat with
    | some n => if domOn s n then none else some n
    | none => none
  if s.clk.fmBusy then refuse t ST_WRONG_STATE RS_NONE 0xFF 0 s
  else if !domOn s 4 then refuse t ST_DOMAIN_OFF RS_NONE 4 0 s
  else if !gateOpen s 9 then refuse t ST_BUS_ERROR RS_NONE 0xFF 0 s
  else match off with
    | some n => refuse t ST_DOMAIN_OFF RS_NONE (ixByte n) 0 s
    | none =>
      let ok := decide (inSel.toNat < 12 ∧ refSel.toNat < 4)
      let s := { s with clk := { s.clk with fmIn := BitVec.ofNat 4 (min 15 inSel.toNat),
                                            fmRef := BitVec.ofNat 3 (min 7 refSel.toNat), fmGate := nRef } }
      let gateMs := match fmRefHz refSel.toNat with
        | some f => (nRef.toNat * 1000 + f - 1) / f
        | none => 0
      let s := accept t (gateMs + 100) s
      let s := fmBegin { s with clk := { s.clk with fmTag := some t } }
      if ok && s.clk.fmBusy then s
      else fmFinish ST_OUT_OF_RANGE (detail RS_NONE 0xFF 0) { s with clk := { s.clk with fmBusy := false, fmErr := true } }

/-- FM_PPM in 0.1 ppm (R404). -/
def fmPpmOf (nIn nRef fRef fIn : Nat) : U32 :=
  let d : Int := (nRef * fIn : Nat)
  BitVec.ofInt 32 (clampInt (-2147483648) 2147483647 (roundDiv ((((nIn * fRef : Nat) : Int) - d) * 10000000) d))

/-- R404: the end of the gate of N_REF reference cycles. After an overflow (R405) the spec states no FM_NIN (log entry 3). -/
def execFreqMeasureDone (nIn : Nat) (s : State) : Out :=
  if s.clk.fmBusy then
    let nRef := s.clk.fmGate.toNat
    let ovf := decide (2 ^ 32 ≤ nIn)
    let (i, s) := if ovf then drawFree s else (0, s)
    let nIn := if ovf then (Config.freeWord i).toNat else nIn
    let f := (fmRefHz s.clk.fmRef.toNat).getD 1
    let g := (fmInHz s s.clk.fmIn.toNat).getD 1
    let s := { s with clk := { s.clk with
      fmNin := BitVec.ofNat 32 nIn, fmNref := BitVec.ofNat 32 nRef, fmPpm := fmPpmOf nIn nRef f g,
      fmOvf := s.clk.fmOvf || ovf, fmDone := true, fmBusy := false } }
    .next (fmFinish ST_OK (beBytes 4 s.clk.fmNin.toNat ++ beBytes 4 s.clk.fmNref.toNat ++ beBytes 4 s.clk.fmPpm.toNat ++
      [BitVec.ofNat 8 (fmStat s / 2)]) s)
  else .next s

/-- R405: the input or the reference stopped. -/
def execFreqMeasureSrcOff (s : State) : Out :=
  if s.clk.fmBusy then
    .next (fmFinish ST_SRC_NOT_READY (detail RS_NONE 0xFF 0) { s with clk := { s.clk with fmSrcOff := true, fmBusy := false } })
  else .next s

/-- R406. -/
def execFreqMeasure (h : Hdr) (inSel refSel : Byte) (nRef : U32) (s : State) : Out :=
  .next (serve h 0x0902 ([inSel, refSel] ++ beBytes 4 nRef.toNat) false (fun t s => opFreqMeasure t inSel refSel nRef s) s)

end Sys2Proof.Machine
end

