-- ==== Sys2Proof/Machine/Islands.lean ====
section
/-! DEFINITION. Events of the gate islands and their links (R133, R138 to R163): what each island judges on its own clock, and
what the primary side makes of it. -/

namespace Sys2Proof.Machine

/-- The code of an island event by kind of channel: low, high, auxiliary (Table 4.8). -/
def chanCode (c lo hi aux : Nat) : Nat := if 48 ≤ c then aux else if chanHigh c then hi else lo

/-- The island of channel `c` acts: it has its bias, and the module is past BOOT (R26, R28). -/
def islandActs (s : State) (c : Nat) : Bool := isLive s && (chanAt s c).powered

/-- A gate item of channel `c` that has a high-side and a low-side form (Table 4.9). -/
def sideGate (s : State) (c high low : Nat) : Nat := (chanGate s c (if chanHigh c then high else low)).toNat

/-- The channel's gate goes off: softly (R151), which also replaces a normal turn-off under way, or as a normal turn-off (R152, R153). A gate
that is off stays so, with its clamp. -/
def gateDown (soft : Bool) (c : Nat) (s : State) : State :=
  if soft && countsOn (chanAt s c) && (chanAt s c).gate != .softOff then modChan c (fun x => { x with cmd := false, gate := .softOff, gateAt := s.time.dev, clamp := false }) s
  else offCmd c (nowSteps s) s

/-- Off-level and on-level of channel `c` in mV against its source (R132, R134). -/
def offLevel (s : State) (c : Nat) : Int := if chanHigh c then 1000 * chanGate s c 7 else (chanAt s c).vbn
def onLevel (s : State) (c : Nat) : Int :=
  if chanHigh c then (chanAt s c).vbs + 1000 * chanGate s c 7 else (chanAt s c).vbp

/-- What an island measures becomes its latest reading. -/
def seeIsland (now : IslandNow) (c : Nat) : State → State :=
  modChan c (fun x => { x with vbs := now.vbsMv, vbp := now.vbpMv, vbn := now.vbnMv })

/-- The detail record of a latch: sense voltage, gate voltage, VBS and VBP in mV (R161). -/
def latchDetail (s : State) (c : Nat) (sense gate : Int) : List Int := [sense, gate, (chanAt s c).vbs, (chanAt s c).vbp]

/-- An island latches a code and turns its channel off. -/
def latchOff (code : Nat) (soft : Bool) (sense gate : Int) (c : Nat) (s : State) : State :=
  latchIsland code (latchDetail s c sense gate) c (gateDown soft c s)

/-- An island event that latches nothing: numbered, recorded with its capture time, and acting at its level. -/
def reportIsland (code c : Nat) (s : State) : State :=
  let lv := faultLevel s code
  let (e, s) := recordAt (captureTime s c) code lv 0 (srcChan c) 1 [] s
  let s := react lv code c (chanScope s code c) false RS_BRIDGE_STATE e s
  forEach ([0, 1].filter (abortedWinding s)) raise0508 s

/-! ### Switch protection (R150 to R155) -/

/-- R150, R155: desaturation; with a gate-monitor breach in the same cycle both latch, desaturation first. -/
def execDesaturation (ch : ChanIx) (senseMv sinceOnNs heldNs : Nat) (gmon : Bool) (now : IslandNow) (s : State) : Out :=
  let c := ch.val
  let blank := 50 * sideGate s c 2 3
  if islandActs s c && (chanAt s c).cmd && decide (100 * sideGate s c 0 1 < senseMv) && decide (120 ≤ heldNs) &&
      decide (blank + 120 ≤ sinceOnNs) then
    let s := seeIsland now c s
    let code := chanCode c 0x0101 0x0102 0x0112
    let code2 := chanCode c 0x0105 0x0105 0x0113
    if gmon then
      let (e, s) := setLatch code (latchDetail s c senseMv now.gateMv) c (gateDown true c s)
      let (e2, s) := setLatch code2 (latchDetail s c senseMv now.gateMv) c s
      .next (actLatch code2 c e2 (actLatch code c e s))
    else .next (latchOff code true senseMv now.gateMv c s)
  else .next s

/-- R151: soft turn-off ends below the off-level plus 2.0 V or after 10 us: full sink and the Miller clamp. A gate that is still above that
level goes on falling, and its channel counts as on (R157). -/
def execSoftTurnoffEnd (ch : ChanIx) (gateMv : Int) (ns : Nat) (s : State) : Out :=
  if (chanAt s ch).gate == .softOff && (decide (gateMv < offLevel s ch + 2000) || decide (10000 ≤ ns)) then
    let low : Bool := decide (gateMv < offLevel s ch + 2000)
    .next (modChan ch (fun x => { x with gate := if low then .off else .falling, gateAt := s.time.dev, clamp := true }) s)
  else .next s

/-- R154: the gate-voltage monitor of a channel. -/
def execGateMonitorBreach (ch : ChanIx) (on : Bool) (sinceNs heldNs : Nat) (now : IslandNow) (s : State) : Out :=
  let c := ch.val
  let tlto := if chanGate s c 4 = 0 then 0 else 50 * (chanGate s c 5).toNat
  let win := 50 * (chanGate s c 6).toNat + (if on then 0 else tlto)
  let t := seeIsland now c s
  let breach := if on then decide (now.gateMv < onLevel t c - 2000) else decide (offLevel t c + 2000 < now.gateMv)
  if islandActs s c && ((chanAt s c).cmd == on) && breach && decide (win < sinceNs) && decide (120 ≤ heldNs) then
    .next (latchOff (chanCode c 0x0105 0x0105 0x0113) ((chanAt s c).gate == .softOff) 0 now.gateMv c t)
  else .next s

/-! ### Bias (R133) -/

/-- R133: VBP - COM below 12.0 V for 1 us. -/
def execVbpUndervoltage (ch : ChanIx) (mv : Int) (ns : Nat) (s : State) : Out :=
  let c := ch.val
  if !chanHigh c && (chanAt s c).uvloOk && decide (mv < 12000) && decide (1000 ≤ ns) then
    let s := gateDown false c (modChan c (fun x => { x with uvloOk := false, vbp := mv }) s)
    if islandActs s c then .next (latchOff (chanCode c 0x0103 0x0103 0x0114) false 0 0 c s) else .next s
  else .next s

/-- R133, R136: VBP - COM above 13.0 V for 1 us: the gate hold ends and the Bow runs. -/
def execVbpUvloRelease (ch : ChanIx) (mv : Int) (ns : Nat) (s : State) : Out :=
  let c := ch.val
  if !chanHigh c && !(chanAt s c).uvloOk && decide (13000 < mv) && decide (1000 ≤ ns) then
    .next (modChan c (fun x => { x with uvloOk := true, vbp := mv }) s)
  else .next s

/-- R133: VBN - COM above -1.5 V for 1 us. -/
def execVbnOutOfRange (ch : ChanIx) (mv : Int) (ns : Nat) (s : State) : Out :=
  let c := ch.val
  if !chanHigh c && islandActs s c && decide (-1500 < mv) && decide (1000 ≤ ns) then
    .next (latchOff (chanCode c 0x0108 0x0108 0x0116) false 0 0 c (modChan c (fun x => { x with vbn := mv }) s))
  else .next s

/-! ### Bootstrap and the Bow (R138 to R146) -/

/-- The selector's CAPOH_BLOCK of bridge `b` follows its low islands (R140, R141), and the soundpost evaluates it again. -/
def markCapoh (b : Nat) (s : State) : State :=
  let blocked := (bridgeLegs s b).any (fun l => (lowOf s l).bowLoad || latched (lowOf s l) 0x0109)
  reselect b (modBridge b (fun br => { br with capohBlock := blocked }) s)

/-- R138: VBS at or above 16.5 V for 1 us: Start to Operating. -/
def execVbsOk (leg : Fin 24) (mv : Int) (ns : Nat) (s : State) : Out :=
  if !(highOf s leg).operating && decide (16500 ≤ mv) && decide (1000 ≤ ns) then
    .next (reselect (legBridge s leg) (modChan (highChan leg) (fun x => { x with operating := true, vbs := mv }) s))
  else .next s

/-- R142, R144: VBS at or below 15.0 V while Operating: F-0110 once at each entry. -/
def execVbsWarn (leg : Fin 24) (mv : Int) (ns : Nat) (s : State) : Out :=
  let c := highChan leg
  if islandActs s c && (chanAt s c).operating && !(chanAt s c).warn && decide (mv ≤ 15000) && decide (1000 ≤ ns) then
    .next (reportIsland 0x0110 c (modChan c (fun x => { x with warn := true, vbs := mv }) s))
  else .next s

/-- R143: VBS back at 16.5 V for 1 us: the flag clears; the clamp is removed at the next period boundary. -/
def execVbsWarnClear (leg : Fin 24) (mv : Int) (ns : Nat) (s : State) : Out :=
  if (highOf s leg).warn && decide (16500 ≤ mv) && decide (1000 ≤ ns) then
    .next (modChan (highChan leg) (fun x => { x with warn := false, vbs := mv }) s)
  else .next s

/-- R145: VBS at or below 13.0 V while Operating: soft turn-off, F-0104, L3. -/
def execVbsUv (leg : Fin 24) (mv : Int) (ns : Nat) (s : State) : Out :=
  let c := highChan leg
  if islandActs s c && (chanAt s c).operating && decide (mv ≤ 13000) && decide (1000 ≤ ns) then
    .next (latchOff 0x0104 true 0 0 c (modChan c (fun x => { x with vbs := mv }) s))
  else .next s

/-- R138: VBS below 8 V for 1 us: back to Start; on an ARMED or RUNNING bridge F-0104 acts (Table 4.6). VBS_WARN stays entered until
VBS is back at 16.5 V (Table 4.4). -/
def execHighIslandStartReturn (leg : Fin 24) (mv : Int) (ns : Nat) (s : State) : Out :=
  let c := highChan leg
  let b := legBridge s leg
  if (chanAt s c).operating && decide (mv < 8000) && decide (1000 ≤ ns) then
    let s := gateDown false c (modChan c (fun x => { x with operating := false, vbs := mv }) s)
    if islandActs s c && (stOf s b == .armed || stOf s b == .running) && !latched (chanAt s c) 0x0104 then
      .next (latchOff 0x0104 false 0 0 c s)
    else .next (reselect b s)
  else .next s

/-- R140: the once-per-second measurement of the Bow current; the marking is the main pair's. -/
def execBowMeasurement (leg : Fin 24) (ua : Nat) (vbsMv : Int) (switching : Bool) (s : State) : Out :=
  let c := lowChan leg
  let b := legBridge s leg
  if mainUp s && islandActs s c && decide (19500 < vbsMv) && !switching then
    let excess : Bool := decide (1800 < ua)
    let s := modChan c (fun x => { x with bowLoad := excess }) s
    let s := markCapoh b s
    .next (if excess then reportIsland 0x0115 c s else s)
  else .next s

/-- R141: the Bow gives less than 1.0 mA with VBS below 19.0 V for 10 ms: F-0109, refresh forced, Capo-high blocked, precharge
restricted to low-side pulses. -/
def execBowFailure (leg : Fin 24) (ua : Nat) (vbsMv : Int) (ms : Nat) (s : State) : Out :=
  let c := lowChan leg
  let b := legBridge s leg
  if islandActs s c && (chanAt s c).uvloOk && decide (ua < 1000) && decide (vbsMv < 19000) && decide (10 ≤ ms) then
    let s := latchIsland 0x0109 [0, 0, vbsMv, (chanAt s c).vbp] c s
    .next (if mainUp s then markCapoh b (modBridge b (fun br => { br with refreshForce := true, lowOnly := true }) s) else s)
  else .next s

/-! ### Overlap guard and links (R156 to R158) -/

/-- The overlap guard of channel `c` refuses an on command that arrives now (R157, R158): its partner counts as on, or has stopped counting
as on within 50 ns; both islands where both commands arrive within 50 ns. -/
def overlapMet (s : State) (c : Nat) : OverlapKind → Bool
  | .partnerOn => (chanAt s c).couplerLost || countsOn (chanAt s (partnerOf c))
  | .within50ns => !countsOn (chanAt s (partnerOf c)) && decide (s.time.dev < (chanAt s (partnerOf c)).gateAt + 20)
  | .bothCommanded => true

/-- An island refuses an on command, both islands of the leg where both were commanded: the channel stays off with F-0106 (R157, R158),
the high island before the low one (R36). -/
def refuseOn (both : Bool) (c : Nat) (s : State) : State :=
  let hit := if both then [highChan (c / 2), lowChan (c / 2)] else [c]
  forEach hit (fun i s => if islandActs s i then latchOff 0x0106 false 0 0 i s else s) s

/-- An on command reaches channel `c` from the timer (R157, R158): its guard lets it pass or refuses it, with the partner's where that
arrived within 50 ns. -/
def onOrRefuse (c : Nat) (s : State) : State :=
  if takesOn (chanHigh c) (chanAt s c) && guardRefuses s c && !(chanAt s c).cmd then
    let p := chanAt s (partnerOf c)
    refuseOn (p.cmd && p.gate == .on && decide (s.time.dev < p.gateAt + 20)) c
      (modChan c (fun x => { x with refused := some s.time.dev }) s)
  else onCmd c s

/-- R157, R158: an island refuses an on command; both islands of the leg where both were commanded, in the order of R36. A refusal that the
timer's own command has met is not counted twice. -/
def execIslandOverlapRefusal (ch : ChanIx) (kind : OverlapKind) (s : State) : Out :=
  let c := ch.val
  let told := (chanAt s c).refused.any (fun t => decide (s.time.dev < t + 20))
  if 48 ≤ c ∨ !islandActs s c ∨ !overlapMet s c kind ∨ told then .next s
  else .next (refuseOn (kind == .bothCommanded) c s)

/-- The bridge of channel `c` is PRECHARGING, ARMED, RUNNING or SAFE; an auxiliary island is supervised always (R156). -/
def supervised (s : State) (c : Nat) : Bool :=
  match servedBridge s c with
  | some b => engaged s b
  | none => true

/-- The code of a lost link (Table 4.8). -/
def linkCode (c : Nat) : Nat := chanCode c 0x0107 0x0107 0x0117

/-- The island of channel `c` detects the loss itself (R156): it turns its channel off and latches; the primary side has not learned of
it while the link is lost and no bridge is supervised. -/
def islandSeesLoss (c : Nat) (s : State) : State :=
  let s := gateDown false c s
  if latched (chanAt s c) (linkCode c) then modChan c (countLatch (linkCode c)) s
  else modChan c (fun x => { x with latches := x.latches ++
    [⟨BitVec.ofNat 16 (linkCode c), 0, captureTime s c, 1, latchDetail s c 0 0, false⟩] }) s

/-- What the loss of a link means for channel `c` (R156): where the bridge is supervised, F-0107 or F-0117 with its reaction; elsewhere the
island that still has its bias latches for itself, and the primary side raises no code. -/
def lossAt (c : Nat) (s : State) : State :=
  if isLive s && supervised s c then latchOff (linkCode c) false 0 0 c s
  else if islandActs s c then islandSeesLoss c s
  else gateDown false c s

/-- R156, R158: loss of carrier for 200 ns, or four missing frames of a data channel. An island whose link is lost is absent until it trains
again, with its bias or without it; a lost state coupler makes each island of the leg treat its partner as on, and both are absent. Parked
islands latch nothing (R415). -/
def execIslandLinkLoss (ch : ChanIx) (link : LinkKind) (carrierNs frames : Nat) (bias : Bool) (s : State) : Out :=
  let c := ch.val
  let lost : Bool := decide (200 ≤ carrierNs) || (link == .data && decide (4 ≤ frames))
  if !(chanAt s c).powered || (chanAt s c).parked || !lost then .next s
  else if link = .coupler then
    if 48 ≤ c then .next s
    else
      let legs := [highChan (c / 2), lowChan (c / 2)]
      let s := forEach legs lossAt (forEach legs (fun i => modChan i (fun x => { x with couplerLost := true })) s)
      .next (reselect (legBridge s (c / 2)) (forgetUnread s))
  else
    let s := modChan c (fun x => { x with powered := bias }) s
    let s := modChan c (fun x => { x with present := false, uvloOk := x.uvloOk && bias, operating := x.operating && bias }) (lossAt c s)
    let s := forgetUnread s
    match servedBridge s c with
    | some b => .next (reselect b s)
    | none => .next s

/-- A latch that the island kept while its link was lost reaches the primary side (R38, R156, R161). -/
def tellLatch (c : Nat) (l : Latch) (s : State) : State :=
  let code := l.code.toNat
  let (e, s) := recordAt l.capture code (faultLevel s code) 0 (srcChan c) l.count (l.detail.flatMap (beInt 4)) s
  let s := modChan c (fun x => { x with latches := x.latches.map (fun k => if k.code = l.code then { k with esn := e, told := true } else k) }) s
  actLatch code c (some e) s

/-- An island that is there again tells the latches that it has kept (R38, R156). -/
def tellKept (c : Nat) (s : State) : State :=
  if islandThere (chanAt s c) then ((chanAt s c).latches.filter (fun l => !l.told)).foldl (fun s l => tellLatch c l s) s else s

/-- R156: a link of an island trains again: it is no longer reported absent, and tells the latches that it has kept. -/
def execIslandLinkTrained (ch : ChanIx) (link : LinkKind) (s : State) : Out :=
  let c := ch.val
  let fed := match servedBridge s c with
    | some b => domOn s (8 + b)
    | none => true
  if link = .coupler then
    .next (if 48 ≤ c then s
      else forEach [highChan (c / 2), lowChan (c / 2)] (fun i s => tellKept i (modChan i (fun x => { x with couplerLost := false }) s)) s)
  else if isLive s && fed && !(chanAt s c).present then
    .next (tellKept c (modChan c (fun x => { x with present := true, powered := true }) s))
  else .next s

/-! ### Auxiliary channels (R160) -/

/-- R160: a latch on an auxiliary channel turns its switch off. -/
def execAuxFaultLatch (aux : Fin 4) (code : U16) (now : IslandNow) (s : State) : Out :=
  let c := 48 + aux.val
  if [0x0112, 0x0113, 0x0114, 0x0116, 0x0117].contains code.toNat && islandActs s c then
    .next (latchOff code.toNat (code == 0x0112) 0 now.gateMv c (seeIsland now c s))
  else .next s

end Sys2Proof.Machine
end

