-- ==== Sys2Proof/Machine/Sense.lean ====
section
/-! DEFINITION. Sensing and the DC link (R307 to R323, R579): window comparators, current sums, sensor supplies, link voltage, its
limits, and the chopper. -/

namespace Sys2Proof.Machine

/-! ### Phase currents (R304, R307 to R310) -/

/-- Offset in uV and gain in mA/V of the owner record of the sensor that a bank converts for a phase input (R304): bank A instance
0x00nn, bank B 0x01nn, but in Precision sensing the primary sensor for both (R83, R309). -/
def sensorRecord (s : State) (bank : Bank) (input : Nat) : Option (Int × Nat) :=
  let inst := if bank == .b && bSns s (legBridge s input) 0 != 1 then 0x100 + input else input
  match ownerPeg s 0x0100 inst with
  | some p => if p.data.length = 8 then some (signed 32 (field p.data 0 4), field p.data 4 4) else none
  | none => none

/-- The window that the comparator of an input uses, in mV (R307): lower and upper end, DAC steps of 5 mV, each end rounded
towards zero current. None without a valid record. -/
def ocWindow (s : State) (bank : Bank) (input : Nat) : Option (Int × Int) :=
  match sensorRecord s bank input with
  | some (off, gain) =>
    if gain = 0 then none
    else
    let lim : Rat := (bSns s (legBridge s input) 1 : Rat) * 1000000 / (gain : Rat)
    let zero : Rat := (off : Rat) / 1000
    some (5 * ⌈(zero - lim) / 5⌉, 5 * ⌊(zero + lim) / 5⌋)
  | none => none

/-- A bank. -/
def bankOf (s : State) : Bank → SnsBank
  | .a => s.bankA
  | .b => s.bankB

def modBank (k : Bank) (f : SnsBank → SnsBank) (s : State) : State :=
  match k with
  | .a => { s with bankA := f s.bankA }
  | .b => { s with bankB := f s.bankB }

/-- The domain of a bank (Table 17.7). -/
def bankDom : Bank → Nat
  | .a => 6
  | .b => 7

/-- A window comparator has tripped (R308, Table 9.4): the latch, F-0310 or F-0311, the override of the link group. -/
def tripComparator (bank : Bank) (input : Nat) (s : State) : State :=
  if hasBit (bankOf s bank).oclat.toNat input then s
  else
    let s := modBank bank (fun k => { k with oclat := k.oclat ||| BitVec.ofNat 24 (2 ^ input) }) s
    let s := markFreeze 0 s
    raiseFault (match bank with
      | .a => 0x0310
      | .b => 0x0311) input (srcBank bank) (.linkGroup (lgOf s (legBridge s input))) [BitVec.ofNat 8 input] s

/-- The comparator of an input is in use: its bank's domain on, its bridge assigned (R309). -/
def comparatorOn (s : State) (bank : Bank) (input : Nat) : Bool :=
  isLive s && domOn s (bankDom bank) && (bridgeMach s (legBridge s input)).isSome

/-- The input voltage lies inside the window that the comparator uses, narrowed at each end by `hyst` mV (R307, R308). -/
def insideWindow (s : State) (bank : Bank) (input : Nat) (hyst mv : Int) : Bool :=
  match ocWindow s bank input with
  | some (lo, hi) => decide (lo + hyst ≤ mv ∧ mv ≤ hi - hyst)
  | none => true

/-- The window comparator of an input, with its hysteresis of 20 mV (R307). -/
def compareInput (bank : Bank) (input : Nat) (mv : Int) (s : State) : State :=
  let bit : BitVec 24 := BitVec.ofNat 24 (2 ^ input)
  if !insideWindow s bank input 0 mv then modBank bank (fun k => { k with outside := k.outside ||| bit }) s
  else if insideWindow s bank input 20 mv then modBank bank (fun k => { k with outside := k.outside &&& ~~~bit }) s
  else s

/-- The filter of a window comparator in ns: P_OC_FILT, and 100 ns while FROZEN (R308, R566). -/
def filterNs (s : State) (input : Nat) : Nat := if isFrozen s then 100 else 25 * bSns s (legBridge s input) 2

/-- R308: a phase current out of its window for P_OC_FILT. -/
def execWindowComparatorTrip (bank : Bank) (input : Fin 24) (mv : Int) (heldNs : Nat) (s : State) : Out :=
  if comparatorOn s bank input then
    let s := compareInput bank input mv s
    if hasBit (bankOf s bank).outside.toNat input && decide (filterNs s input ≤ heldNs) then
      .next (tripComparator bank input s)
    else .next s
  else .next s

/-- R579: SNS_TEST.FORCE and INPUT; a forced comparator trips as by a current. -/
def forceComparator (bank : Bank) (force : Bool) (input : BitVec 5) (s : State) : State :=
  let s := modBank bank (fun k => { k with force := force, input := input }) s
  if force && decide (input.toNat < 24) && comparatorOn s bank input.toNat then tripComparator bank input.toNat s else s

def execSnsTestForce (bank : Bank) (force : Bool) (input : BitVec 5) (s : State) : Out :=
  if isUp s && domOn s (bankDom bank) then .next (forceComparator bank force input s) else .next s

/-- R310: the count that trigger 0 keeps for a bank has reached P_ISUM_CNT: F-0301 or F-0302, once until a sum lies inside the band
again; the check pauses while the bank's converter recalibrates (R558). -/
def execCurrentSumViolation (bank : Bank) (b : Fin 8) (s : State) : Out :=
  let br := bridgeAt s b
  let (busy, count, told) := match bank with
    | .a => (br.recalA, br.isumA, br.sumA)
    | .b => (br.recalB, br.isumB, br.sumB)
  match bridgeMach s b with
  | some m =>
    if isUp s && domOn s (bankDom bank) && !busy && !told && decide (bSns s b 4 ≤ count) then
      let s := modBridge b (fun br => match bank with
        | .a => { br with sumA := true }
        | .b => { br with sumB := true }) s
      .next (raiseFault (match bank with
        | .a => 0x0301
        | .b => 0x0302) b (srcBridge b) (.machine m) [] s)
    else .next s
  | none => .next s

/-- R311: a sensor supply below 4.75 V or a reference outside 2.500 V ± 0.5 % for 100 us raises F-0305; back in range, the
cause is gone. -/
def execSensorSupplyFault (bank : Bank) (supplyMv refTenthMv us : Nat) (s : State) : Out :=
  let low : Bool := decide (supplyMv < 4750)
  let off : Bool := decide (refTenthMv < 24875) || decide (25125 < refTenthMv)
  let was := match bank with
    | .a => s.dev.supplyA
    | .b => s.dev.supplyB
  let set := fun (v : Bool) (s : State) => match bank with
    | .a => { s with dev := { s.dev with supplyA := v } }
    | .b => { s with dev := { s.dev with supplyB := v } }
  if !isUp s || !domOn s (bankDom bank) || decide (us < 100) then .next s
  else if low || off then
    let s := modBank bank (fun k => { k with supErr := k.supErr || low, refErr := k.refErr || off }) s
    if was then .next s else .next (raiseFault 0x0305 (bankDom bank) (srcBank bank) .device [] (set true s))
  else .next (set false s)

/-! ### Link voltage (R313) -/

/-- Bridge `b` gives a VDC+ reading: not DISABLED, its leg-0 low island there without F-0107 (R313). -/
def givesReading (s : State) (b : Nat) : Bool :=
  stOf s b != .disabled && islandThere (lowOf s (bridgeLeg s b 0)) && !latched (lowOf s (bridgeLeg s b 0)) 0x0107 &&
    !(lowOf s (bridgeLeg s b 0)).parked

/-- One bridge's reading against the median: marked once as it enters disagreement, agreeing again after 100 formations. -/
def markReading (med v : Int) (b : Nat) (s : State) : State :=
  let br := bridgeAt s b
  if 30000 < |v - med| then
    let s := modBridge b (fun x => { x with disagree := true, agreeCnt := 0 }) s
    if br.disagree then s else note 0x0312 (srcBridge b) [] s
  else if br.disagree then
    modBridge b (fun x => if 99 ≤ x.agreeCnt then { x with disagree := false, agreeCnt := 0 }
      else { x with agreeCnt := x.agreeCnt + 1 }) s
  else s

/-- The two readings of a group with two. -/
def markPair (g : Nat) (u v : Int) (s : State) : State :=
  let x := lgAt s g
  if 30000 < |u - v| then
    let s := modLg g (fun x => { x with pairDis := true, pairCnt := 0 }) s
    if x.pairDis then s else note 0x0312 (srcLg g) [] s
  else if x.pairDis then
    modLg g (fun x => if 99 ≤ x.pairCnt then { x with pairDis := false, pairCnt := 0 } else { x with pairCnt := x.pairCnt + 1 }) s
  else s

/-- Resistance of the chopper, and of the discharge resistor, of a group. -/
def chopOhms (s : State) (g : Nat) : Rat := (lgPar s g 6 : Rat) / 100
def disOhms (s : State) (g : Nat) : Rat := (lgPar s g 0xB : Rat) / 10

/-- The chopper logic integrates the resistor energy up to now (R323): V_LG squared over the resistance while the chopper is commanded on,
less the cooling of first order. -/
def heatResistor (g : Nat) (s : State) : State :=
  let x := lgAt s g
  let dt : Rat := ((s.time.dev : Rat) - (x.formAt : Rat)) / 400000000
  let v : Rat := ((x.vlg.getD 0 : Int) : Rat) / 1000
  let power : Rat := if x.chopOn then v * v / chopOhms s g else 0
  modLg g (fun x => { x with formAt := s.time.dev, energy := max 0 (x.energy + (power - x.energy / (lgPar s g 9 : Rat)) * dt) }) s

/-- R313: no reading: F-0313 for the group's bridges that are PRECHARGING, ARMED or RUNNING. -/
def loseReadings (g : Nat) (s : State) : State :=
  let s := modLg g (fun x => { x with vlg := none, noRead := true, lowAt := none, onRun := 0, offRun := 0 }) s
  if monUp s && anyActive s (lgBridges s g) then raiseFault 0x0313 g (srcLg g) (.linkGroup g) [] s else s

/-- V_LG from the readings, ascending (R313), and the two samples of the chopper thresholds (Table 9.1). -/
def formVlg (g : Nat) (vs : List Int) (s : State) : State :=
  let v := vs[vs.length / 2]?
  let runs := fun (n : Nat) (yes : Int → Bool) => if (v.map yes).getD false then min 2 (n + 1) else 0
  modLg g (fun x => { x with
    vlg := v, noRead := false,
    lowAt := if (v.map (fun v => decide (v < 50000))).getD false then some (x.lowAt.getD s.time.dev) else none, onRun := runs x.onRun (fun v => decide ((lgPar s g 0 : Int) * 1000 ≤ v)),
    offRun := runs x.offRun (fun v => decide (v ≤ (lgPar s g 1 : Int) * 1000)) }) s

/-- A bridge's reading, where it gives one, is judged against the median. -/
def markOpt (med : Int) (v : Option Int) (b : Nat) (s : State) : State :=
  match v with
  | some v => markReading med v b s
  | none => s

/-- R313: the chopper logic forms V_LG. -/
def execLinkVoltageFormation (g : Fin 2) (readings : List (Option Int)) (s : State) : Out :=
  if readings.length ≠ 8 then .fault (.illFormed "LINK_VOLTAGE_FORMATION")
  else if !isUp s || !domOn s 3 then .next s
  else
    let s := heatResistor g s
    let bs := lgBridges s g
    let val := fun (b : Nat) => if givesReading s b then readings.getD b none else none
    let s := forEach bs (fun b => modBridge b (fun br => { br with vdc := val b })) s
    let vs := (bs.filterMap val).foldl (fun l v => insertSorted v l) []
    match vs with
    | [] => .next (loseReadings g s)
    | [_] => .next (formVlg g vs s)
    | [u, v] => .next (markPair g u v (formVlg g vs s))
    | _ =>
      let med := vs.getD (vs.length / 2) 0
      .next (forEach bs (fun b => markOpt med (val b) b) (formVlg g vs s))

/-! ### Overvoltage and undervoltage (R315 to R317) -/

/-- R315: the overvoltage comparator of a bridge's leg-0 low island. -/
def execOvTrip (b : Fin 8) (mv : Int) (heldNs : Nat) (s : State) : Out :=
  let c := lowChan (bridgeLeg s b 0)
  if islandActs s c && decide ((lgPar s (lgOf s b) 3 : Int) * 1000 < mv) && decide (500 ≤ heldNs) then
    .next (latchIsland 0x0501 [mv] c s)
  else .next s

/-- V_LG is above, or below, a level in V. -/
def vlgAbove (s : State) (g : Nat) (v : Int) : Bool :=
  match (lgAt s g).vlg with
  | some x => decide (v * 1000 < x)
  | none => false
def vlgBelow (s : State) (g : Nat) (v : Int) : Bool :=
  match (lgAt s g).vlg with
  | some x => decide (x < v * 1000)
  | none => false

/-- R316: OV_WARN is entered above P_OV_WARN and left below P_OV_WARN - 10 V. -/
def execOvWarn (g : Fin 2) (us : Nat) (s : State) : Out :=
  let x := lgAt s g
  if !mainUp s || decide (us < 10) then .next s
  else if !x.ovWarn && vlgAbove s g (lgPar s g 2) then
    .next (raiseFault 0x0502 g (srcLg g) (.linkGroup g) [] (modLg g (fun x => { x with ovWarn := true }) s))
  else if x.ovWarn && vlgBelow s g ((lgPar s g 2 : Int) - 10) then .next (modLg g (fun x => { x with ovWarn := false }) s)
  else .next s

/-- R317: UV_LIM is entered below P_UV_LIM, unless it is 0, and left above P_UV_LIM + 10 V. -/
def execUvLimit (g : Fin 2) (us : Nat) (s : State) : Out :=
  let x := lgAt s g
  if !mainUp s || decide (us < 10) then .next s
  else if !x.uvLim && lgPar s g 4 != 0 && vlgBelow s g (lgPar s g 4) then
    .next (raiseFault 0x0504 g (srcLg g) (.linkGroup g) [] (modLg g (fun x => { x with uvLim := true }) s))
  else if x.uvLim && (lgPar s g 4 == 0 || vlgAbove s g ((lgPar s g 4 : Int) + 10)) then
    .next (modLg g (fun x => { x with uvLim := false }) s)
  else .next s

/-! ### The chopper (R319 to R323) -/

/-- P_CH_MIN has passed since the last command. -/
def chopHeld (s : State) (g : Nat) : Bool := decide ((lgAt s g).chopAt + lgPar s g 7 * 400 ≤ s.time.dev)

/-- R319: V_LG has reached V_CH_ON in two samples. -/
def execChopperOn (g : Fin 2) (s : State) : Out :=
  if chopperAvailable s g && !(lgAt s g).chopOn && chopHeld s g && decide (2 ≤ (lgAt s g).onRun) then .next (setChopper g true s)
  else .next s

/-- R319: V_LG has fallen to V_CH_OFF in two samples. -/
def execChopperOff (g : Fin 2) (s : State) : Out :=
  if isUp s && (lgAt s g).chopOn && chopHeld s g && decide (2 ≤ (lgAt s g).offRun) then .next (setChopper g false s)
  else .next s

/-- The current expected through a resistor at V_LG, in mA; 0 without a reading (R320). -/
def expectedMa (s : State) (g : Nat) (ohms : Rat) : Rat :=
  match (lgAt s g).vlg with
  | some v => (v : Rat) / ohms
  | none => 0

/-- Current in mA by the voltage at IFB, with P_IFB_GAIN (R320). -/
def ifbMa (s : State) (g : Nat) (mv : Int) : Rat := (mv : Rat) * (lgPar s g 0xA : Rat) / 10

/-- 10 us have passed since a command (R320). -/
def ifbJudged (s : State) (since : Nat) : Bool := decide (since + 4000 ≤ s.time.dev)

/-- A breach of the first rule of R320: the current stays low after an on command. -/
def belowHalf (s : State) (g since : Nat) (ohms : Rat) (mv : Int) : Bool :=
  ifbJudged s since && decide (ifbMa s g mv < expectedMa s g ohms / 2)
/-- A breach of the second rule of R320: a current after an off command, or without any on command. -/
def aboveTenth (s : State) (g since : Nat) (ohms : Rat) (mv : Int) : Bool :=
  ifbJudged s since && decide (expectedMa s g ohms / 10 ≤ ifbMa s g mv) && decide (0 < ifbMa s g mv)

/-- A latch stands on auxiliary channel `n`. -/
def auxLatched (s : State) (n : Nat) : Bool := !(chanAt s (48 + n)).latches.isEmpty

/-- The supervision of a group's chopper acts: fitted, D3 on (R319). -/
def chopSupervised (s : State) (g : Nat) : Bool := isUp s && domOn s 3 && lgPar s g 5 == 1

/-- R321: the chopper becomes unavailable: F-0503, off and kept off. -/
def execChopperUnavailable (g : Fin 2) (ifbMv : Int) (s : State) : Out :=
  if chopSupervised s g && !(lgAt s g).chopLock &&
      (((lgAt s g).chopOn && belowHalf s g (lgAt s g).chopAt (chopOhms s g) ifbMv) || auxLatched s (2 * g)) then
    let s := modLg g (fun x => { x with chopLock := true }) (setChopper g false s)
    .next (raiseFault 0x0503 g (srcLg g) (.linkGroup g) [] s)
  else .next s

/-- R322: the chopper conducts without a command. -/
def execChopperUncommanded (g : Fin 2) (ifbMv : Int) (s : State) : Out :=
  if chopSupervised s g && !(lgAt s g).chopOn then
    let bad := aboveTenth s g (lgAt s g).chopAt (chopOhms s g) ifbMv
    let s := modLg g (fun x => { x with conducts := bad }) s
    .next (if bad then raiseFault 0x0505 g (srcLg g) (.linkGroup g) [] s else s)
  else .next s

/-- R323: the resistor energy is above 90 % of P_CH_EMAX: F-0506 once; below, the limit is lifted. -/
def execChopperEnergyLimit (g : Fin 2) (s : State) : Out :=
  if chopSupervised s g then
    let s := heatResistor g s
    let high : Bool := decide (9 / 10 * (lgPar s g 8 : Rat) < (lgAt s g).energy)
    let was := (lgAt s g).energyFlag
    let s := modLg g (fun x => { x with energyFlag := high }) s
    if high && !was then .next (raiseFault 0x0506 g (srcLg g) (.linkGroup g) [] s) else .next s
  else .next s

end Sys2Proof.Machine
end

