-- ==== Sys2Proof/Machine/Discharge.lean ====
section
/-! DEFINITION. Contactors and the active discharge of the link groups (R325 to R329, R360 to R363, R494). -/

namespace Sys2Proof.Machine

/-! ### The discharge (R325, R328) -/

/-- Why a discharge of group `g` cannot start (R325, R494); none where it can. The discharge channel of an empty group is unused (R10; log
entry 40). -/
def dischargeRefusal (s : State) (g : Nat) : Option Byte :=
  if anyActive s (lgBridges s g) then some RS_BRIDGE_STATE
  else if !groupOpen s g || (lgAt s g).dis.isSome || (lgBridges s g).isEmpty then some RS_DISCHARGE
  else none

/-- The discharge switch of a group is commanded. -/
def setDischarge (g : Nat) (on : Bool) (s : State) : State :=
  driveAux (2 * g + 1) on (modLg g (fun x => { x with disOn := on, disAt := s.time.dev }) s)

/-- A discharge starts. -/
def beginDischarge (g : Nat) (tag : Option Nat) (s : State) : State :=
  setDischarge g true (modLg g (fun x => { x with dis := some ⟨s.time.dev, none, tag⟩, autoWait := false, disWait := none }) s)

/-- Feedback levels as the reply of CONTACTOR_SET gives them. -/
def cfbData (s : State) : List Byte := [BitVec.ofNat 8 s.pins.cfb.toNat]

/-- Some group still discharges, or waits to, for context `t`. -/
def dischargesFor (s : State) (t : Nat) : Bool :=
  [0, 1].any (fun g => (lgAt s g).disWait == some t || (match (lgAt s g).dis with
    | some d => d.tag == some t
    | none => false))

/-- The discharge of a group ends: its switch off, its winding machine back to IDLE, its context answered once no other
discharge of it runs. -/
def endDischarge (g : Nat) (s : State) : State :=
  match (lgAt s g).dis with
  | some d =>
    let s := match d.winding with
      | some m => toIdle m s
      | none => endWatch g s
    let s := setDischarge g false (modLg g (fun x => { x with dis := none }) s)
    match d.tag with
    | some t => if dischargesFor s t then s else finish t ST_OK (cfbData s) s
    | none => s
  | none => s

/-- |speed| is below 1 % of base speed. -/
def creeping (s : State) (m : Nat) : Bool := belowTenths (machSpeed s m) 10

/-- Machine `m` may take the winding discharge of group `g`, its speed apart (R328): idle, every leg usable, and its angle
known. In SERVICE the field-engine cores are held in reset and no bridge leaves IDLE (R107, R114), nor does one whose converter
failed its calibration (R126). -/
def windingCandidate (s : State) (g m : Nat) : Bool :=
  machLg s m == g && serviceReason s == 0 && allIn s (machBridges s m) .idle &&
    !(machBridges s m).any (fun b => (bridgeAt s b).calFailA || (bridgeAt s b).calFailB || isHeld (bridgeAt s b)) &&
    (machLegs s m).all (fun l => usable (lowOf s l) && usable (highOf s l)) &&
    (!isPmsm s m || ifAngleOk s m || (machAt s m).pluckOk)

/-- The field engine arms machine `m` for the winding discharge with Bow precharge only. -/
def armWinding (g m : Nat) (s : State) : State :=
  let s := modLg g (fun x => { x with dis := x.dis.map (fun d => { d with winding := some m }) }) s
  let s := startPrecharge m true (modMach m (fun x => { x with ph := .discharging, wdI := 0 }) s)
  cascadeHold s (if allOperating s m then endPrecharge m s else s)

/-- A 20 ms window classes machine `m`, which has no valid interface speed (log entry 13). -/
def watchWinding (m : Nat) (s : State) : State :=
  modMach m (fun x => { x with ph := .discharging, phStart := s.time.dev }) s

/-- The machine for the winding discharge of group `g`, from index `start` on: the first candidate with a valid interface speed
below 1 %, or without one, which a window then judges; none qualifies: F-0508 (R329). -/
def tryWinding (g start : Nat) (s : State) : State :=
  let ok := fun (m : Nat) => decide (start ≤ m) && windingCandidate s g m && (!(hasIf s m && ifSpeedOk s m) || creeping s m)
  match (machines s).find? ok with
  | some m => if hasIf s m && ifSpeedOk s m then armWinding g m s else watchWinding m s
  | none => raise0508 g s

/-- R325: CFB has confirmed the contactors of a group open after an L4's request. -/
def execDischargeAutoStart (g : Fin 2) (s : State) : Out :=
  if monUp s && (lgAt s g).autoWait && lgPar s g 0xD == 1 && (dischargeRefusal s g).isNone then
    .next (beginDischarge g none s)
  else .next s

/-- V_LG has been below 50 V for 10 ms (R325, R328). -/
def linkEmpty (s : State) (g : Nat) : Bool :=
  match (lgAt s g).lowAt with
  | some t => decide (t + 4000000 ≤ s.time.dev)
  | none => false

/-- R325. -/
def execDischargeEnd (g : Fin 2) (s : State) : Out :=
  if (isUp s || startHalted s) && domOn s 3 && linkEmpty s g then .next (endDischarge g s) else .next s

/-- R327: a breach of the supervision, or a latch, of the discharge channel: F-0507, the switch off, and during a discharge the
winding discharge if P_WD_EN allows it. -/
def execDischargeSwitchFault (g : Fin 2) (ifbMv : Int) (s : State) : Out :=
  let x := lgAt s g
  if isUp s && domOn s 3 && ((x.disOn && belowHalf s g x.disAt (disOhms s g) ifbMv) || auxLatched s (2 * g + 1) ||
      (!x.disOn && aboveTenth s g x.disAt (disOhms s g) ifbMv)) then
    let s := raiseFault 0x0507 g (srcLg g) (.linkGroup g) [] (setDischarge g false s)
    match (lgAt s g).dis with
    | some d => if d.winding.isNone && lgPar s g 0xE == 1 then .next (tryWinding g 0 s) else .next s
    | none => .next s
  else .next s

/-- R328: the winding discharge of machine `m` ends below 50 V for 10 ms, or aborts above 1 % of base speed. -/
def execWindingDischargeEnd (m : Fin 8) (s : State) : Out :=
  match windingGroup s m with
  | some g =>
    if !isUp s then .next s
    else if linkEmpty s g then .next (endDischarge g s)
    else if !creeping s m then .next (raise0508 g (toIdle m s))
    else .next s
  | none => .next s

/-- R329: V_LG is not below 60 V within P_DIS_TIME of the start. -/
def execDischargeTimeout (g : Fin 2) (s : State) : Out :=
  let late := match (lgAt s g).dis with
    | some d => decide (d.start + lgPar s g 0xC * 400000 ≤ s.time.dev)
    | none => false
  if (isUp s || startHalted s) && domOn s 3 && late && !vlgBelow s g 60 then .next (raise0508 g s) else .next s

/-! ### Contactors (R360 to R363) -/

/-- P_CFB_TIME in ms. -/
def cfbTime (s : State) : Nat := parN s 0x8F00

/-- R360: the pull-in time of a closed contactor is over; a duty of 100 % disables the economiser. -/
def execContactorPullInEnd (n : Fin 4) (s : State) : Out :=
  let c := ctdAt s n
  if monUp s && c.closed && !c.econ && decide (c.since + ctPar s n 3 * 400000 ≤ s.time.dev) && ctPar s n 4 != 100 then
    .next (modCtd n (fun c => { c with econ := true }) s)
  else .next s

/-- Drivers whose CONTACTOR_SET is context `t`. -/
def driversOf (s : State) (t : Nat) : List Nat := (List.range 4).filter (fun n => (ctdAt s n).tag == some t)

/-- Nothing waits for context `t` any more. -/
def dropContactorTag (t : Nat) (s : State) : State :=
  { s with
    ctds := s.ctds.map (fun (c : Contactor) => if c.tag = some t then { c with tag := none } else c)
    lgs := s.lgs.map (fun (x : LinkGroup) => if x.disWait = some t then { x with disWait := none } else x) }

/-- The discharges that context `t` asked for start; one that cannot ends the command (R494). -/
def startDischarges (t : Nat) (s : State) : State :=
  let gs := [0, 1].filter (fun g => (lgAt s g).disWait == some t)
  match gs.find? (fun g => (dischargeRefusal s g).isSome) with
  | some g =>
    refuse t ST_WRONG_STATE ((dischargeRefusal s g).getD RS_DISCHARGE) (ixByte g) 0 (dropContactorTag t s)
  | none => forEach gs (fun g => beginDischarge g (some t)) s

/-- Every feedback of the drivers that context `t` named shows the command: the reply, or the discharges it asked for (R494). -/
def settleContactors (t : Nat) (s : State) : State :=
  if (driversOf s t).all (fun n => feedbackAll s s.pins.cfb n (ctdAt s n).closed) then
    let s := { s with ctds := s.ctds.map (fun (c : Contactor) =>
      if c.tag = some t then { c with tag := none, checking := false } else c) }
    if dischargesFor s t then startDischarges t s else finish t ST_OK (cfbData s) s
  else s

/-- R494: every feedback in a contactor's mask shows the commanded state. -/
def execFeedbackConfirmsCommand (n : Fin 4) (cfb : BitVec 6) (s : State) : Out :=
  if !monUp s then .next s
  else
    let s := { s with pins := { s.pins with cfb := cfb } }
    if feedbackAll s cfb n (ctdAt s n).closed then
      let s := modCtd n (fun c => { c with checking := false }) s
      match (ctdAt s n).tag with
      | some t => .next (settleContactors t s)
      | none => .next s
    else .next s

/-- The scope of a contactor's fault: the link groups it serves (R361). -/
def ctdScope (s : State) (n : Nat) : Scope := if ctPar s n 0 = 2 then .bothGroups else .linkGroup (ctPar s n 0)

/-- R361: a feedback does not show the commanded state P_CFB_TIME after the command, or has left it for as long. -/
def execContactorFeedbackFail (n : Fin 4) (cfb : BitVec 6) (ms : Nat) (s : State) : Out :=
  if !monUp s then .next s
  else
    let s := { s with pins := { s.pins with cfb := cfb } }
    if feedbackAll s cfb n (ctdAt s n).closed || decide (ms < cfbTime s) then .next s
    else
      let tag := (ctdAt s n).tag
      let s := modCtd n (fun c => { c with checking := false, tag := none }) s
      let s := raiseFault 0x0607 n (srcDom 3) (ctdScope s n) [BitVec.ofNat 8 n.val] s
      match tag with
      | some t => .next (refuse t ST_TIMEOUT RS_NONE (ixByte n) 0 (dropContactorTag t s))
      | none => .next s

/-- A lock-out keeps the contactors of group `g` open (R363): on a bridge of it, on the group, or on the device. -/
def groupLocked (s : State) (g : Nat) : Bool :=
  s.safety.locks.any (fun k => k.code != 0x0503 && (k.scope == .device || k.scope == .bothGroups || k.scope == .linkGroup g ||
    (match k.scope with
      | .bridge b => lgOf s b == g
      | .machine m => machLg s m == g
      | .device => false
      | .bothGroups => false
      | .linkGroup _ => false
      | .nothing => false)))

/-- R494: CONTACTOR_SET. -/
def opContactorSet (t : Nat) (mask command discharge : Byte) (s : State) : State :=
  let ns := (List.range 4).filter (fun n => hasBit mask.toNat n)
  let gs := [0, 1].filter (fun g => ns.any (fun n => ctdCovers s n g))
  let ds := [0, 1].filter (fun g => hasBit discharge.toNat g)
  if mask = 0 ∨ 15 < mask.toNat ∨ 1 < command.toNat ∨ 3 < discharge.toNat ∨ (command = 1 ∧ discharge ≠ 0) then
    refuse t ST_BAD_PARAM RS_NONE 0xFF 0 s
  else if !domOn s 3 then refuse t ST_DOMAIN_OFF RS_NONE 3 0 s
  else if !monUp s then refuse t ST_WRONG_STATE RS_DEVICE_STATE 0xFF 0 s
  else
    let bad := if command = 0 then gs.find? (fun g => anyActive s (lgBridges s g)) else gs.find? (groupLocked s)
    match bad with
    | some g =>
      if command = 0 then refuse t ST_WRONG_STATE RS_BRIDGE_STATE (ixByte g) 0 s
      else refuse t ST_LOCKED_OUT RS_NONE (ixByte g) 0 s
    | none =>
      let ms := if ds.isEmpty then cfbTime s + 100 else (ds.map (fun g => lgPar s g 0xC)).foldl max 0 + 3000
      let s := accept t ms s
      let s := forEach ns (fun n s => modCtd n (fun c => { c with tag := some t }) (commandCtd (command == 1) n s)) s
      let s := forEach ds (fun g => modLg g (fun x => { x with disWait := some t })) s
      settleContactors t s

/-- R494. -/
def execContactorSet (h : Hdr) (mask command discharge : Byte) (s : State) : Out :=
  .next (serve h 0x0B02 [mask, command, discharge] false (fun t s => opContactorSet t mask command discharge s) s)

end Sys2Proof.Machine
end

