-- ==== Sys2Proof/Machine/Trust.lean ====
section
/-! DEFINITION. Owner keys, signed requests, verification of images and data sets (R105, R473, R474, R536 to R543), and peg
records as bytes (R121). -/

namespace Sys2Proof.Machine

/-! ### Owner keys (R537 to R539) -/

/-- State of owner slot `i`. -/
def ownerSlot (s : State) (i : Nat) : OwnerSlot := s.store.owners.getD i .empty

/-- A slot is valid. -/
def slotValid : OwnerSlot → Bool
  | .valid _ => true
  | .empty => false
  | .revoked _ => false

/-- A key entry is usable: its slot is valid and holds the hash of the key (R539). -/
def keyUsable (s : State) (k : OwnerKey) : Bool :=
  match ownerSlot s k.slot.toNat with
  | .valid h => keyHash k.modulus k.exponent == h
  | .empty => false
  | .revoked _ => false

/-- The moduli of the usable keys of a set. -/
def usableKeys (s : State) (p : PSet) : List Rsa := (p.keys.filter (keyUsable s)).map (·.modulus)

/-- A signature over a digest verifies under a modulus (R536). -/
def sigOk (modulus : Rsa) (d : Digest) (sig : Rsa) : Bool := Config.rsaSignature modulus d == sig

/-- Some usable key of a set verifies a signature. -/
def ownerSigOk (s : State) (p : PSet) (d : Digest) (sig : Rsa) : Bool := (usableKeys s p).any (fun m => sigOk m d sig)

/-! ### Signed requests (R473, R474) -/

/-- The signed statement of Table 14.4. -/
def statement (opcode : Nat) (slot form : Byte) (nonce : BitVec 128) (subject : List Byte) : List Byte :=
  beBytes 2 opcode ++ [slot, form] ++ beBytes 32 identityHash.toNat ++ beBytes 16 nonce.toNat ++ (subject ++ zeros 32).take 32

/-- The live nonce of a session: at most 24,000,000,000 ticks old, arrival winning (R474). -/
def liveNonce (s : State) (sid : Nat) : Option (BitVec 128) :=
  match sessAt s sid with
  | some k => match k.nonce with
    | some (n, at_) => if s.time.dev ≤ at_ + 24000000000 then some n else none
    | none => none
  | none => none

/-- The signature of a request by an owner slot verifies under the active set. -/
def slotSigOk (s : State) (slot : Byte) (d : Digest) (sig : Rsa) : Bool :=
  (s.store.act.keys.filter (fun k => k.slot == slot && keyUsable s k)).any (fun k => sigOk k.modulus d sig)

/-- Signature verification of the request in context `t` (R473, R474): the reason of a refusal with ST_NOT_AUTHORISED, none
where it passes; a nonce that was live is consumed. -/
def verifySigned (t opcode : Nat) (slot form : Byte) (subject : List Byte) (sig : Rsa) (s : State) : Option Byte × State :=
  let sid := (ctxAt s t).hdr.session.toNat
  match liveNonce s sid with
  | none => (some RS_NONCE, s)
  | some n =>
    let ok := slotSigOk s slot (Config.sha256 (statement opcode slot form n subject)) sig
    (if ok then none else some RS_NONE, modSess sid (fun k => { k with nonce := none }) s)

/-! ### Peg records (R121, R122) -/

/-- One bit of CRC-32 (IEEE 802.3, reflected). -/
def crcBit (c : U32) : U32 := if c &&& 1 = 1 then (c >>> 1) ^^^ 0xEDB88320 else c >>> 1

/-- One byte of CRC-32. -/
def crcByte (c : U32) (b : Byte) : U32 :=
  crcBit (crcBit (crcBit (crcBit (crcBit (crcBit (crcBit (crcBit (c ^^^ b.setWidth 32))))))))

/-- Distance of an entry from an ESN, modulo 2^32 (R37). -/
def esnAhead (first : Esn) (e : Entry) : Nat := (e.esn - first).toNat

/-- Insertion in ESN order from `first` on. -/
def insertEntry (first : Esn) (e : Entry) : List Entry → List Entry
  | [] => [e]
  | x :: xs => if esnAhead first e ≤ esnAhead first x then e :: x :: xs else x :: insertEntry first e xs

/-- CRC-32 of a byte string. -/
def crc32 (bs : List Byte) : U32 := ~~~(bs.foldl crcByte 0xFFFFFFFF)

/-- The monitor pair copies the machine parameters of the active set and the flux-map records, and verifies the CRC of its copy (R347). What
a CRC that did not verify would do the spec does not say; the model's copy is exact. -/
def copyToMonitor (s : State) : State :=
  let bytes := fun (l : List (Nat × Int)) => l.flatMap (fun p => beBytes 2 p.1 ++ beInt 4 p.2)
  let items := s.store.act.items
  { s with safety := { s.safety with
    monItems := items, monPegs := s.store.owner.filter (fun p => p.kind.toNat == 0x0102),
    monCrcOk := crc32 (bytes items) == crc32 (bytes s.store.act.items) } }

/-- The header and the data of a peg record (Table 3.8). -/
def pegHead (p : Peg) : List Byte :=
  beBytes 2 p.kind.toNat ++ beBytes 2 p.inst.toNat ++ [p.origin, 0x01] ++ beBytes 2 p.data.length ++ beBytes 4 p.esn.toNat ++
    beInt 2 p.temp ++ zeros 2 ++ p.data

/-- A whole peg record. -/
def pegBytes (p : Peg) : List Byte := pegHead p ++ beBytes 4 (crc32 (pegHead p)).toNat

/-- The peg records of a CSET body, one after the other; a record whose CRC fails is ignored. -/
def parsePegs : Nat → List Byte → List Peg
  | 0, _ => []
  | fuel + 1, bs =>
    let n := field bs 6 2
    if bs.length < 20 + n then []
    else
      let rest := parsePegs fuel (bs.drop (20 + n))
      if field bs (16 + n) 4 = (crc32 (bs.take (16 + n))).toNat then
        ⟨BitVec.ofNat 16 (field bs 0 2), BitVec.ofNat 16 (field bs 2 2), BitVec.ofNat 8 (field bs 4 1),
         BitVec.ofNat 32 (field bs 8 4), signed 16 (field bs 12 2), slice bs 16 n⟩ :: rest
      else rest

/-- The owner records of a CSET body. -/
def csetPegs (body : List Byte) : List Peg := parsePegs (body.length / 20 + 1) body

/-! ### Verification of images and data sets (R105, R541 to R543) -/

/-- What verification yields. -/
inductive Verdict where
  | good
  | rollbackOnly
  | bad
deriving DecidableEq, Repr

/-- The seal of a data set is valid: bytes 456 to 487 (R542). -/
def sealOk (m : Manifest) : Bool := (m.ownerSig.toNat / 2 ^ (8 * 352)) == (Config.hmacSha256 Config.sealKey (manifestHead m)).toNat

/-- The device step lies in the manifest's range; 0x00 is not applicable (R104). -/
def devStepOk (m : Manifest) : Bool :=
  (m.devMin == 0 || decide (m.devMin.toNat ≤ Config.deviceStep.toNat)) &&
    (m.devMax == 0 || decide (Config.deviceStep.toNat ≤ m.devMax.toNat))

/-- Bytes 9 to 35 of a data set's manifest are 0 (R541). -/
def dataZero (m : Manifest) : Bool := (slice (manifestHead m) 9 27).all (· == 0)

/-- The signatures of a slot (R105, R541, R543). -/
def signaturesOk (s : State) (c : ImgClass) (sl : Slot) : Bool :=
  let d := manifestDigest sl.man
  match c with
  | .pset =>
    dataZero sl.man && (sealOk sl.man || (match parsePset sl.body with
      | some p => ownerSigOk s p d sl.man.vendorSig
      | none => false))
  | .cset => dataZero sl.man && (sealOk sl.man || ownerSigOk s s.store.act d sl.man.vendorSig)
  | _ =>
    sigOk Config.vendorModulus d sl.man.vendorSig &&
      (if sl.man.ownerSig = 0 then !hasBit s.store.csign (classIx c) else ownerSigOk s s.store.act d sl.man.ownerSig)

/-- The digest, the class and the device step of a slot. -/
def contentOk (c : ImgClass) (sl : Slot) : Bool :=
  sl.man.cls == classCode c && sl.man.bodyLen.toNat == sl.body.length && Config.sha256 sl.body == sl.man.bodyDigest &&
    devStepOk sl.man

/-- Fuse counter of a class; data sets have none (R544). -/
def fuseOf (s : State) (c : ImgClass) : Nat := if classIx c < 5 then (s.store.fuses.getD (classIx c) 0) else 0

/-- Verification under R105, the rules on a PSET's content apart. -/
def verifySlot (s : State) (c : ImgClass) (sl : Slot) : Verdict :=
  if contentOk c sl && signaturesOk s c sl then
    if fuseOf s c ≤ sl.man.rollback.toNat then .good else .rollbackOnly
  else .bad

end Sys2Proof.Machine
end

