-- ==== Sys2Proof/Machine/Soundpost.lean ====
section
/-! DEFINITION. DRV_EN, STO, the write of FAST, and how latches, overrides and lock-outs are cleared (R65 to R69, R162, R330 to
R335, R355 to R359, R369 to R371). -/

namespace Sys2Proof.Machine

/-! ### Causes (R68, R162, R370) -/

/-- A voltage that phase input `i` of a bank has by its comparator's output: beyond the window, or in its middle. -/
def heldVolts (s : State) (k : Bank) (i : Nat) : Int :=
  match ocWindow s k i with
  | some (lo, hi) => if hasBit (bankOf s k).outside.toNat i then hi + 1 else (lo + hi) / 2
  | none => 0

/-- A state of the detectors for a request outside a DRV_EN edge (R370): what State holds of them, self-tests taken as passed and no test
pulse driven (log entry 51). -/
def stateObs (s : State) : EdgeObs where
  protPresent := (List.finRange 52).filter (fun c => (chanAt s c).prot)
  selfTestOk := List.finRange 52
  islands := (List.range 52).map (fun c => ⟨0, (chanAt s c).vbs, (chanAt s c).vbp, (chanAt s c).vbn⟩)
  inA := (List.range 24).map (heldVolts s .a)
  inB := (List.range 24).map (heldVolts s .b)
  chopTest := []
  chopConducts := (List.finRange 2).filter (fun g => (lgAt s g).conducts)
  supplyBad := (if s.dev.supplyA then [Bank.a] else []) ++ (if s.dev.supplyB then [Bank.b] else [])

/-- A list of bounded indices names a number. -/
def hasIx {n : Nat} (l : List (Fin n)) (i : Nat) : Bool := l.any (fun x => x.val == i)

/-- VDC+ of a bridge is at or above P_OV_TRIP - 20 V, or has no reading (R315). -/
def ovStill (s : State) (b : Nat) : Bool :=
  match (bridgeAt s b).vdc with
  | some v => decide (((lgPar s (lgOf s b) 3 : Int) - 20) * 1000 ≤ v)
  | none => true

/-- The cause of a latch of island `c` counts as present (R162, R315). -/
def latchPresent (obs : EdgeObs) (s : State) (c code : Nat) : Bool :=
  let v := obs.islands.getD c default
  if !islandThere (chanAt s c) then true
  else if code = 0x0103 ∨ code = 0x0114 then decide (v.vbpMv ≤ 13000)
  else if code = 0x0104 then decide (v.vbsMv < 16500)
  else if code = 0x0108 ∨ code = 0x0116 then decide (-1800 ≤ v.vbnMv)
  else if code = 0x0106 ∨ code = 0x0107 ∨ code = 0x0109 ∨ code = 0x0117 then !hasIx obs.selfTestOk c
  else if code = 0x0501 then ovStill s (legBridge s (c / 2))
  else hasIx obs.protPresent c

/-- The state of a pair. -/
def pairState (s : State) (ix : Nat) : PairState := if ix = 0 then s.safety.main else s.safety.mon

/-- The test pulse of a chopper meets R320 (R321). -/
def chopTestMeets (s : State) (g : Nat) (x : ChopTest) : Bool :=
  let i := expectedMa s g (chopOhms s g)
  decide (i / 2 ≤ ifbMa s g x.onMv) && decide (ifbMa s g x.offMv < i / 10)

/-- The cause of a fault code at an instance counts as present; F-0620 is judged by `shortStill`. -/
def codePresent (obs : EdgeObs) (s : State) (code ix : Nat) : Bool :=
  if code < 0x0200 ∨ code = 0x0501 then latched (chanAt s ix) code && latchPresent obs s ix code
  else match code with
    | 0x0305 => obs.supplyBad.contains (if ix = 6 then Bank.a else .b)
    | 0x0306 => if ix = 0 then s.dev.driftA else s.dev.driftB
    | 0x0310 => !insideWindow s .a ix 20 (obs.inA.getD ix 0)
    | 0x0311 => !insideWindow s .b ix 20 (obs.inB.getD ix 0)
    | 0x0313 => (lgAt s ix).vlg.isNone
    | 0x0502 => (lgAt s ix).ovWarn
    | 0x0503 => !(chopTestMeets s ix (obs.chopTest.getD ix default) && vlgAbove s ix 100)
    | 0x0504 => (lgAt s ix).uvLim
    | 0x0505 => hasIx obs.chopConducts ix
    | 0x0506 => (lgAt s ix).energyFlag
    | 0x0508 => !vlgBelow s ix 60
    | 0x0601 => !s.safety.main.testOk
    | 0x0602 => !s.safety.mon.testOk
    | 0x0604 => !(pairState s ix).testOk
    | 0x0605 => s.safety.injBad
    | 0x0607 => !feedbackAll s s.pins.cfb ix (ctdAt s ix).closed
    | 0x0630 => s.safety.demA || s.safety.demB
    | 0x0631 => s.pins.stoA != s.pins.stoB
    | 0x0640 => s.safety.main.missed || s.safety.main2.missed
    | 0x0641 => s.safety.mon.missed
    | 0x0642 => s.safety.supBad.any id
    | 0x0643 => s.safety.dieBad
    | 0x0644 => s.safety.diePathBad
    | 0x0705 => hotStill s ix
    | 0x0706 => hotStill s ix
    | 0x0803 => !domOn s ix
    | 0x0804 => onRc40 s
    | 0x0805 => s.dev.severe
    | 0x0830 => s.safety.sramBad
    | 0x0B03 => s.net.noMaster
    | 0x0B05 => !(maskedFlags s ix).isEmpty
    | 0x0B06 => s.net.conflict
    | _ => false

/-- The cause of F-0620 on bridge `b`: an escalating row of Table 9.3 applies (R334). -/
def shortStill (s : State) (b : Nat) : Bool := (selectMode s b).2

/-- The source of a code at an instance (Table 17.5). -/
def codeSrc (code ix : Nat) : U16 :=
  if code < 0x0200 ∨ code = 0x0501 then srcChan ix
  else if code = 0x0201 ∨ code = 0x0203 ∨ code = 0x0620 then srcBridge ix
  else if code = 0x0305 ∨ code = 0x0803 then srcDom ix
  else if code = 0x0306 then srcDom (6 + ix)
  else if code = 0x0310 then srcDom 6
  else if code = 0x0311 then srcDom 7
  else if code = 0x0313 ∨ code / 256 = 5 then srcLg ix
  else if code = 0x0705 ∨ code = 0x0706 then srcTemp ix
  else if code = 0x0804 ∨ code = 0x0805 then srcDom 0
  else if code = 0x0601 ∨ code = 0x0640 ∨ code = 0x0612 then srcDom 2
  else if code = 0x0604 then srcDom (2 + ix)
  else if code = 0x0642 then srcDom 1
  else if code = 0x0830 then srcDom 4
  else if code = 0x0B03 then srcCasc 0
  else if code / 256 = 0x0B then srcDom 5
  else if code / 256 = 2 ∨ code / 256 = 4 ∨ code = 0x0606 ∨ 0x0608 ≤ code ∧ code ≤ 0x0610 then srcMach ix
  else srcDom 3

/-! ### The rising edge of DRV_EN (R68, R69, R162, R308, R334, R335, R371) -/

/-- The islands in the order of R36: L00H, L00L to L23H, L23L, then AUX0 to AUX3. -/
def islandOrder : List Nat := (List.range 24).flatMap (fun l => [highChan l, lowChan l]) ++ List.range' 48 4

/-- Every latch of island `c` is evaluated once: one whose cause is present stays and is reported again, any other is cleared
and recorded (R68, R161; log entry 14). -/
def judgeLatches (obs : EdgeObs) (c : Nat) (s : State) : State :=
  (chanAt s c).latches.foldl (fun s l =>
    if latchPresent obs s c l.code.toNat then
      (recordAt (captureTime s c) l.code.toNat (faultLevel s l.code.toNat) 0 (srcChan c) l.count (l.detail.flatMap (beInt 4)) s).2
    else
      let s := (recordAt s.time.dev l.code.toNat 0 0 (srcChan c) l.count [] s).2
      let s := modChan c (fun x => { x with latches := x.latches.filter (fun k => k.code != l.code) }) s
      if l.code.toNat = 0x0109 then
        let b := legBridge s (c / 2)
        modBridge b (fun br => { br with refreshForce := (bridgeLegs s b).any (fun l => latched (lowOf s l) 0x0109),
                                         lowOnly := (bridgeLegs s b).any (fun l => latched (lowOf s l) 0x0109),
                                         capohBlock := (bridgeLegs s b).any (fun l => (lowOf s l).bowLoad || latched (lowOf s l) 0x0109) }) s
      else s) s

/-- The window latches keep only the inputs still outside their narrowed window (R308). -/
def judgeWindows (obs : EdgeObs) (s : State) : State :=
  let keep := fun (k : Bank) (v : List Int) => BitVec.ofNat 24 (bitsOf ((List.range 24).map (fun i => !insideWindow s k i 20 (v.getD i 0))))
  { s with
    bankA := { s.bankA with oclat := s.bankA.oclat &&& keep .a obs.inA }
    bankB := { s.bankB with oclat := s.bankB.oclat &&& keep .b obs.inB } }

/-- An armed clearance is still within P_LOCK_WIN (R371). -/
def inLockWin (s : State) (k : Lockout) : Bool :=
  match k.armed with
  | some t => decide (s.time.dev ≤ t + parN s 0x8F02 * 400000000)
  | none => false

/-- One armed lock-out at the edge (R371): reported again where its cause is present, else gone, with F-0650. -/
def judgeLockout (present : State → Bool) (k : Lockout) (s : State) : State :=
  if !inLockWin s k then s
  else if present s then
    let s := (recordEvent k.code.toNat 4 (codeSrc k.code.toNat k.ix) [] s).2
    { s with safety := { s.safety with locks := s.safety.locks.map (fun x => if x.esn = k.esn then { x with armed := none } else x) } }
  else
    let s := { s with safety := { s.safety with locks := s.safety.locks.filter (fun x => x.esn != k.esn) } }
    let s := note 0x0650 (codeSrc k.code.toNat k.ix) (beBytes 4 k.esn.toNat) s
    match k.code.toNat, k.scope with
    | 0x0503, .linkGroup g =>
      forEach ((machines s).filter (fun m => machLg s m == g)) (fun m => modMach m (fun x => { x with regenF := 5 }))
        (modLg g (fun x => { x with chopLock := false }) s)
    | _, _ => s

/-- A lock-out of a code stands whose cause belongs to an instance. -/
def locked4 (s : State) (code : U16) (ix : Nat) : Bool := s.safety.locks.any (fun k => k.code == code && k.ix == ix)

/-- A code of L1 that P_FLT_LVL has raised to L2, or an orderly stop's own code, whose chapter states no condition under which its
cause counts as present: R604 takes it as absent at the edge. -/
def absentAtL2 (code : Nat) : Bool :=
  code == 0x0306 || code == 0x0502 || code == 0x0504 || code == 0x0506 || code == 0x0630

/-- An override other than F-0620's stays at the edge (R68, R371). RETIRE's own request stays while the bridge is RETIRED (R232),
and is absent afterwards. -/
def ovrStays (obs : EdgeObs) (s : State) (o : Ovr) : Bool :=
  match o.src with
  | .fault c =>
    if c == 0 then stOf s o.ix == .retired
    else if 4 ≤ o.level && locked4 s c o.ix then true
    else if o.level == 2 && absentAtL2 c.toNat then false
    else codePresent obs s c.toNat o.ix
  | .drvEn => false
  | .sto => s.safety.demA || s.safety.demB
  | .freeze => false

/-- A PMSM bridge in Capo whose machine would rectify (R335). -/
def holdsCapo (s : State) (b : Nat) : Bool :=
  let br := bridgeAt s b
  br.pmsm && (br.mode == .capoLow || br.mode == .capoHigh) && (match bridgeMach s b with
    | some m => rectifies s m
    | none => false)

/-- Overrides of bridge `b` end, but the condition of R335 holds a PMSM bridge in Capo by them for a while. -/
def dropOverrides (stays : Ovr → Bool) (b : Nat) (s : State) : State :=
  let hold := holdsCapo s b
  modBridge b (fun br =>
    let gone := br.ovr.filter (fun o => !stays o)
    if hold then { br with rect := gone } else { br with ovr := br.ovr.filter stays, rect := [] }) s

/-- What an override that stays is reported as (R68): code, instance, level. DRV_EN, a freeze and RETIRE raise no code. -/
def ovrReport (s : State) (o : Ovr) : Option (Nat × Nat × Nat) :=
  match o.src with
  | .fault c => if c == 0 || c.toNat == 0x0620 then none else some (c.toNat, o.ix, o.level)
  | .sto => some (0x0630, 0, faultLevel s 0x0630)
  | .drvEn => none
  | .freeze => none

/-- The overrides of bridge `b` that stay at the edge: their causes are present, or the condition of R335 holds them. -/
def staying (obs : EdgeObs) (s : State) (b : Nat) : List Ovr :=
  (bridgeAt s b).ovr.filter (fun o => holdsCapo s b || ovrStays obs s o)

/-- What is reported again of the overrides that stay, once per source (R68): an island's code is reported with its latch, and a
lock-out by R371. -/
def standing (obs : EdgeObs) (s : State) : List (Nat × Nat × Nat) :=
  ((List.range 8).flatMap (fun b => (staying obs s b).filterMap (fun o =>
    if 4 ≤ o.level then none
    else (ovrReport s o).filter (fun f => (decide (0x0200 ≤ f.1) && f.1 != 0x0501) || !(latched (chanAt s f.2.1) f.1))))).eraseDups

/-- The override is that of F-0620 (R334). -/
def isShort (o : Ovr) : Bool := o.src == .fault 0x0620

/-- F-0620 is judged last, with the usability that results (R334): its lock-outs, then its overrides. -/
def judgeShort (s : State) : State :=
  let s := (s.safety.locks.filter (fun k => k.code.toNat == 0x0620)).foldl (fun s k => judgeLockout (fun s => shortStill s k.ix) k s) s
  forEach (List.range 8) (fun b s =>
    let stays := fun (o : Ovr) => !isShort o || locked4 s 0x0620 o.ix || shortStill s b
    let s := modBridge b (fun br => { br with ovr := br.ovr.filter (fun o => stays o || br.rect.contains o) }) s
    let s := modBridge b (fun br => { br with shortRaised := br.shortRaised && br.ovr.any isShort }) s
    releaseBridge b s) s

/-- What an edge shows of the causes that no register of the module holds, for a LOCKOUT_CLEAR (R370). -/
def seeCauses (obs : EdgeObs) (s : State) : State :=
  { s with
    chans := s.chans.mapIdx (fun c (x : Chan) => { x with prot := hasIx obs.protPresent c })
    lgs := s.lgs.mapIdx (fun g (x : LinkGroup) => { x with conducts := hasIx obs.chopConducts g }) }

/-- The rising edge of a qualifying toggle (R68): what the soundpost reports again, then window latches, island latches, armed
lock-outs, overrides, F-0620, in the order of R36; the refusal and miss counts return to zero and sample recording resumes (R171, R176, R576). -/
def qualifyingEdge (obs : EdgeObs) (s : State) : State :=
  let s := seeCauses obs s
  let s := judgeWindows obs ((standing obs s).foldl (fun s f => (recordEvent f.1 f.2.2 (codeSrc f.1 f.2.1) [] s).2) s)
  let s := forEach islandOrder (judgeLatches obs) s
  let s := (s.safety.locks.filter (fun k => k.code.toNat != 0x0620)).foldl (fun s k =>
    judgeLockout (fun s => codePresent obs s k.code.toNat k.ix) k s) s
  let s := forEach (List.range 8) (fun b s => dropOverrides (fun o => isShort o || ovrStays obs s o) b s) s
  let s := judgeShort s
  let s := { s with bridges := s.bridges.map (fun (br : Bridge) => { br with miss := 0, xon := [] }) }
  { s with recd := { s.recd with postHold := false } }

/-- R68: a rising edge of DRV_EN; the toggle qualifies after 328 D0 ticks low. -/
def execDrvEnRise (lowTicks : Nat) (obs : EdgeObs) (s : State) : Out :=
  let s := { s with pins := { s.pins with drvEn := true } }
  if isUp s && decide (328 ≤ lowTicks) then .next (qualifyingEdge obs s) else .next s

/-- R65: a falling edge of DRV_EN: every active bridge enters SAFE, FROZEN included. -/
def execDrvEnFall (s : State) : Out :=
  let s := { s with pins := { s.pins with drvEn := false } }
  if isLive s then
    let s := override RS_DRV_EN_LOW false ⟨.drvEn, 3, 0⟩ (List.range 8) (markFreeze 4 s)
    .next (forEach ([0, 1].filter (abortedWinding s)) raise0508 s)
  else .next s

/-! ### Safe Torque Off (R355 to R359) -/

/-- A channel demands (R356); a level of F-0630 raised above L0 has its own reaction besides (R20, R22). -/
def demand (ch : StoCh) (s : State) : State :=
  let seen := monUp s
  let s := match ch with
    | .a => { s with pins := { s.pins with stoA := false },
                     safety := { s.safety with demA := true, seenA := s.safety.seenA || seen, disc := s.safety.disc && !s.safety.demB } }
    | .b => { s with pins := { s.pins with stoB := false },
                     safety := { s.safety with demB := true, seenB := s.safety.seenB || seen, disc := s.safety.disc && !s.safety.demA } }
  if isLive s || s.dev.ph == .calibrating then
    let s := override RS_STO_ACTIVE false ⟨.sto, 3, 0⟩ (List.range 8) (markFreeze 3 s)
    let lv := faultLevel s 0x0630
    let (e, s) := recordEvent 0x0630 lv (srcDom 3) [BitVec.ofNat 8 (bitAt s.safety.demA 0 + bitAt s.safety.demB 1)] s
    let s := react lv 0x0630 0 .device false RS_STO_ACTIVE e { s with safety := { s.safety with stoEsn := e } }
    forEach ([0, 1].filter (abortedWinding s)) raise0508 s
  else s

/-- A channel is low: up to 1.0 ms never demands, from 1.1 ms it always does; the filter may do either between (R355; log
entry 3). -/
def lowDemands (lowUs : Nat) (s : State) : Bool × State :=
  if lowUs ≤ 1000 then (false, s)
  else if 1100 ≤ lowUs then (true, s)
  else
    let (i, s) := drawFree s
    (Config.freeBit i, s)

/-- R356: a demand on a channel. The test of R358 counts it once step 5 of start-up is over, whatever the result of its injection test
(DESIGN CHOICE: R103 says "after step 5 has passed"; log entry 51). -/
def execStoDemand (ch : StoCh) (lowUs : Nat) (s : State) : Out :=
  let already := match ch with
    | .a => s.safety.demA
    | .b => s.safety.demB
  if s.dev.ph == .off || already then .next s
  else
    let (yes, s) := lowDemands lowUs s
    .next (if yes then demand ch s else s)

/-- R357: both channels have been high for 10 ms: the STO overrides are released, and a channel seen to demand has passed
(R358). -/
def endDemand (s : State) : State :=
  let judge := monUp s
  let f := s.safety
  let s := { s with pins := { s.pins with stoA := true, stoB := true },
                    safety := { f with demA := false, demB := false, disc := false, passA := f.passA || (judge && f.seenA && f.demA),
                                       passB := f.passB || (judge && f.seenB && f.demB) } }
  forEach (List.range 8) (fun b s =>
    if (bridgeAt s b).ovr.any (fun o => o.src == .sto) then
      let rest := (bridgeAt s b).rect
      let s := dropOverrides (fun o => o.src != .sto) b s
      releaseBridge b (modBridge b (fun br => { br with rect := (rest ++ br.rect).filter (fun o => br.ovr.contains o) }) s)
    else s) s

def execStoDemandEnd (highUs : Nat) (s : State) : Out :=
  if s.dev.ph != .off && decide (10000 ≤ highUs) then .next (endDemand s) else .next s

/-- R359: one channel demands while the other stays high for P_STO_DISC; once for each discrepancy, which a standing lock-out does not keep
from being recorded (R369). -/
def execStoDiscrepancy (ms : Nat) (s : State) : Out :=
  if monUp s && s.safety.demA != s.safety.demB && decide (parN s 0x8F01 ≤ ms) && !s.safety.disc then
    let s := if s.safety.demA then { s with pins := { s.pins with stoB := true } } else { s with pins := { s.pins with stoA := true } }
    let s := { s with safety := { s.safety with disc := true } }
    .next (raiseFault 0x0631 0 (srcDom 3) .device [] s)
  else .next s

/-- R358: STO_STATUS. -/
def opStoStatus (t : Nat) (s : State) : State :=
  let f := s.safety
  finish t ST_OK ([BitVec.ofNat 8 (bitAt s.pins.stoA 0 + bitAt s.pins.stoB 1), flagByte (f.demA || f.demB),
    BitVec.ofNat 8 (bitAt f.passA 0 + bitAt f.passB 1), flagByte (f.demA != f.demB)] ++ beBytes 4 f.stoEsn.toNat) s

/-! ### FAST and the active short (R330, R333 to R335) -/

/-- The speed in PU18 of an electrical frequency in mHz, with the sign of the latest speed. -/
def speedOfHz (s : State) (m mHz : Nat) : Int :=
  let v := toPu18 (60 * (mHz : Int)) (1000 * mPar s m 0x03 * mPar s m 0x06)
  if (machAt s m).spd < 0 then -v else v

/-- The speed that the monitor pair takes, from the first available source (R330): a valid interface; in Capo, the short-circuit currents of
bank B; in freewheel, the island phase voltages; while RUNNING sensorless, the observer; none if unknown. -/
def monitorSpeed (s : State) (m : Nat) (v : SpeedSeen) : Option Int :=
  let held := fun (p : SafeMode → Bool) => (machBridges s m).any (fun b => isHeld (bridgeAt s b) && p (bridgeAt s b).mode)
  let from_ := fun (on : Bool) (x : Option Int) => if on then x else none
  [from_ (hasIf s m && ifSpeedOk s m) (some (ifSpeedPu s m)),
   from_ (held (fun k => k == .capoLow || k == .capoHigh)) (v.capo.map (speedOfHz s m)),
   from_ (held (fun k => k == .freewheel)) (v.free.map (speedOfHz s m)),
   from_ (machRunning s m && isPmsm s m && !usesIf s m) (some (machAt s m).spd)].findSome? id

/-- FAST of a machine after one write (R330). -/
def fastAfter (s : State) (m : Nat) (v : Option Int) (was : Bool) : Bool :=
  match v with
  | none => true
  | some x => if belowTenths x (fwPar s m 0 - fwPar s m 1) then false else was || !belowTenths x (fwPar s m 0)

/-- The holds of R335 end where the link has a reading and the back-EMF is low enough. -/
def endHolds (m b : Nat) (s : State) : State :=
  let br := bridgeAt s b
  if !br.rect.isEmpty && !rectifies s m then
    releaseBridge b (modBridge b (fun br => { br with ovr := br.ovr.filter (fun o => !br.rect.contains o), rect := [] }) s)
  else s

/-- One machine's part of a write of FAST. -/
def writeFast (m : Nat) (v : Option Int) (s : State) : State :=
  let run := machRunning s m
  let s := modMach m (fun x => { x with spdKnown := v.isSome, spd := if run then x.spd else v.getD x.spd }) s
  forEach (machBridges s m) (fun b s =>
    let s := reselect b (modBridge b (fun br => { br with fast := fastAfter s m v br.fast }) s)
    endHolds m b s) s

/-- R330: the monitor pair writes FAST, every 100 us. -/
def execFastWrite (speeds : List SpeedSeen) (s : State) : Out :=
  if speeds.length ≠ 8 then .fault (.illFormed "FAST_WRITE")
  else if monUp s && decide (s.safety.fastWin < s.time.dev / 40000) then
    .next (forEach (machines s) (fun m s => writeFast m (monitorSpeed s m (speeds.getD m default)) s)
      { s with safety := { s.safety with fastWin := s.time.dev / 40000 } })
  else .next s

/-- R334: Table 9.3 escalates on bridge `b`: F-0620, once for the present override. -/
def execActiveShortUnavailable (b : Fin 8) (s : State) : Out :=
  if monUp s && isHeld (bridgeAt s b) && shortStill s b && !(bridgeAt s b).shortRaised then
    .next (raiseFault 0x0620 b (srcBridge b) (.bridge b) [] (modBridge b (fun br => { br with shortRaised := true }) s))
  else .next s

/-! ### Lock-outs (R369 to R371) -/

/-- The cause of a lock-out is present, outside a DRV_EN edge. -/
def lockPresent (s : State) (k : Lockout) : Bool :=
  if k.code.toNat = 0x0620 then shortStill s k.ix
  else if k.code.toNat = 0x0503 then !vlgAbove s k.ix 100
  else codePresent (stateObs s) s k.code.toNat k.ix

/-- R370: LOCKOUT_CLEAR. -/
def opLockoutClear (t : Nat) (esn : Esn) (slot : Byte) (sig : Rsa) (s : State) : State :=
  let v := verifySigned t 0x0B00 slot 0 (beBytes 4 esn.toNat) sig s
  let s := v.2
  match v.1 with
  | some why => refuse t ST_NOT_AUTHORISED why 0xFF 0 s
  | none =>
    match s.safety.locks.find? (fun k => k.esn == esn) with
    | none => refuse t ST_BAD_PARAM RS_NONE 0xFF 0 s
    | some k =>
      if lockPresent s k then refuse t ST_WRONG_STATE RS_CAUSE_PRESENT 0xFF 0 s
      else
        finish t ST_OK [] { s with safety := { s.safety with
          locks := s.safety.locks.map (fun x => if x.esn = esn then { x with armed := some s.time.dev } else x) } }

/-- R371: a clearance not completed within P_LOCK_WIN expires. -/
def execClearanceExpiry (esn : Esn) (s : State) : Out :=
  let over_ := fun (k : Lockout) => k.esn == esn && (match k.armed with
    | some t => decide (t + parN s 0x8F02 * 400000000 ≤ s.time.dev)
    | none => false)
  .next { s with safety := { s.safety with locks := s.safety.locks.map (fun k => if over_ k then { k with armed := none } else k) } }

/-- Scope and index bytes of a lock-out (R369). -/
def lockScope (s : State) : Scope → List Byte
  | .device => [2, 0xFF]
  | .nothing => [2, 0xFF]
  | .linkGroup g => [1, ixByte g]
  | .bothGroups => [1, 0xFF]
  | .bridge b => [0, ixByte b]
  | .machine m => [0, ixByte ((machBridges s m).headD m)]

/-- R369: LOCKOUT_LIST. -/
def opLockoutList (t : Nat) (s : State) : State :=
  let l := s.safety.locks.take 255
  finish t ST_OK ([BitVec.ofNat 8 l.length, 0, 0, 0] ++ l.flatMap (fun k =>
    beBytes 4 k.esn.toNat ++ beBytes 2 k.code.toNat ++ lockScope s k.scope ++
      [flagByte (lockPresent s k), flagByte (inLockWin s k), 0, 0])) s

/-- R370. -/
def execLockoutClear (h : Hdr) (esn : Esn) (slot : Byte) (sig : Rsa) (s : State) : Out :=
  .next (serve h 0x0B00 (beBytes 4 esn.toNat ++ [slot, 0, 0, 0] ++ beBytes 384 sig.toNat) false
    (fun t s => opLockoutClear t esn slot sig s) s)
/-- R358. -/
def execStoStatus (h : Hdr) (s : State) : Out := .next (serve h 0x0B01 [] false opStoStatus s)
/-- R369. -/
def execLockoutList (h : Hdr) (s : State) : Out := .next (serve h 0x0B03 [] false opLockoutList s)

end Sys2Proof.Machine
end

