-- ==== Sys2Proof/Machine/Guard.lean ====
section
/-! DEFINITION. Delayed lockstep, the safety monitor die and the torque monitor (R341 to R354, R364 to R368). -/

namespace Sys2Proof.Machine

/-! ### Pairs -/

def pairIx : Pair → Nat
  | .main => 0
  | .mon => 1

def modPair (p : Pair) (f : PairState → PairState) (s : State) : State :=
  match p with
  | .main => { s with safety := { s.safety with main := f s.safety.main } }
  | .mon => { s with safety := { s.safety with mon := f s.safety.mon } }

/-- The pair is checked by lockstep: the main pair only in Integrity mode (R48). -/
def pairChecked (s : State) : Pair → Bool
  | .main => !s.dev.split
  | .mon => true

/-- R346, R366: the pair halts and restarts; its injection test has to pass again. -/
def haltPair (p : Pair) : State → State :=
  modPair p (fun x => { x with halted := true, testOk := false, suspended := true })

/-- A lockstep or checker fault: the pair halts, and every bridge is overridden (R345, R346). -/
def lockstepFault (code : Nat) (p : Pair) (s : State) : State :=
  raiseFault code (pairIx p) (srcDom (2 + pairIx p)) .device [] (haltPair p s)

/-- The comparator of a pair works on. -/
def compared (s : State) (p : Pair) : Bool := isUp s && pairChecked s p && !(pairState s (pairIx p)).halted

/-- R344, R345: a flag in the injected group of the injection cycle is the injection's; any other is a mismatch. -/
def execLockstepMismatch (pair : Pair) (group : Fin 8) (injCycle : Bool) (s : State) : Out :=
  let own := injCycle && (pairState s (pairIx pair)).injGroup == group.val
  if compared s pair && !own then
    .next (lockstepFault (match pair with
      | .main => 0x0601
      | .mon => 0x0602) pair s)
  else .next s

/-- R345: an invalid dual-rail code, or no flag at the injection. -/
def execCheckerFailure (pair : Pair) (_invalidCode : Bool) (s : State) : Out :=
  if compared s pair then .next (lockstepFault 0x0604 pair s) else .next s

/-- Ticks from one runtime injection to the next (R343). -/
def injPeriod : Nat := 40000000

/-- R343: the runtime injection every 100 ms, groups in turn and bits in turn within each group. -/
def execRuntimeInjection (pair : Pair) (flagged : Bool) (s : State) : Out :=
  if compared s pair && decide ((pairState s (pairIx pair)).injAt ≤ s.time.dev) then
    let s := modPair pair (fun x =>
      let x := { x with injAt := x.injAt + injPeriod }
      if x.injGroup = 7 then { x with injGroup := 0, injBit := (x.injBit + 1) % 64 } else { x with injGroup := x.injGroup + 1 }) s
    .next (if flagged then s else lockstepFault 0x0604 pair s)
  else .next s

/-- A pair is released from reset: its runtime injections begin anew (R343). -/
def releasePair (p : Pair) (s : State) : State :=
  modPair p (fun x => { x with injGroup := 0, injBit := 0, injAt := s.time.dev + injPeriod }) s

/-- What the monitor pair does first as it runs its image again: what the die could not be answered for (R365), and the contactors that an
L4 has asked to be opened meanwhile (R346, R362; DEDUCED, log entry 51). -/
def monRestarted (s : State) : State :=
  let s := forEach (List.range 4) (fun n s =>
    if (ctdAt s n).openWait then modCtd n (fun c => { c with openWait := false }) (commandCtd false n s) else s) s
  if s.safety.wait641 then raiseFault 0x0641 1 (srcDom 3) .device [] { s with safety := { s.safety with wait641 := false } } else s

/-- R346: a halted pair has rerun its injection test; one that fails raises F-0605 and the pair stays halted (R120). -/
def execPairRestartDone (pair : Pair) (inj : Nat) (clean : Bool) (s : State) : Out :=
  if isUp s && (pairState s (pairIx pair)).halted then
    if injPasses inj clean then
      let s := modPair pair (fun x => { x with halted := false, testOk := true }) (releasePair pair s)
      .next (match pair with
        | .main => s
        | .mon => monRestarted { s with safety := { s.safety with monRestart := false } })
    else
      let s := { s with safety := { s.safety with injBad := true } }
      .next (raiseFault 0x0605 (pairIx pair) (srcDom (2 + pairIx pair)) .device [] s)
  else .next s

/-! ### Heartbeats (R364 to R366) -/

/-- The die's link to a sender of heartbeats. -/
def heartState (s : State) : Heart → PairState
  | .main => s.safety.main
  | .mon => s.safety.mon
  | .main2 => s.safety.main2

def modHeart (h : Heart) (f : PairState → PairState) (s : State) : State :=
  match h with
  | .main => modPair .main f s
  | .mon => modPair .mon f s
  | .main2 => { s with safety := { s.safety with main2 := f s.safety.main2 } }

/-- A sender sends heartbeats: core 1 of the main pair only in Split mode (R364). -/
def beats (s : State) : Heart → Bool
  | .main => true
  | .mon => true
  | .main2 => s.dev.split

/-- R364: a heartbeat with the next sequence number and the right answer is accepted; the die then gives a new challenge (log
entry 3). One that is not accepted starts the count of R365 anew. -/
def execHeartbeat (h : Heart) (seq : Byte) (answer : Byte) (s : State) : Out :=
  let x := heartState s h
  if isUp s && beats s h then
    if seq == x.seq + 1 && answer == Config.dieAnswer x.challenge then
      let (i, s) := drawFree s
      let good := min 3 (x.good + 1)
      let back : Bool := x.missed && decide (3 ≤ good)
      let s := modHeart h (fun x => { x with seq := seq, challenge := (Config.freeWord i).setWidth 8, suspended := false,
                                             good := good, missed := x.missed && !back }) s
      .next (match h with
        | .main => s
        | .main2 => s
        | .mon => { s with safety := { s.safety with ctdCut := s.safety.ctdCut && !back } })
    else .next (modHeart h (fun x => { x with good := 0 }) s)
  else .next s

/-- R365: no heartbeat accepted within 3 ms, 30,000 die ticks; a suspension adds at most 200 ms (R366). One missed again starts
the count of accepted ones anew. -/
def execHeartbeatMissed (h : Heart) (dieTicks : Nat) (s : State) : Out :=
  let x := heartState s h
  let limit := if x.suspended then 2030000 else 30000
  if isUp s && beats s h && decide (limit ≤ dieTicks) then
    let s := modHeart h (fun x => { x with missed := true, good := 0 }) s
    if x.missed then .next s
    else match h with
      | .main => .next (raiseFault 0x0640 0 (srcDom 2) .device [] s)
      | .main2 => .next (raiseFault 0x0640 0 (srcDom 2) .device [] s)
      | .mon =>
        let s := forEach (List.range 4) (commandCtd false) { s with safety := { s.safety with ctdCut := true } }
        .next (if mainUp s then raiseFault 0x0641 1 (srcDom 3) .device [] s
          else override RS_BRIDGE_STATE false ⟨.fault 0x0641, 4, 1⟩ (List.range 8) { s with safety := { s.safety with wait641 := true } })
  else .next s

/-! ### Supplies (R367, Table 10.6) -/

/-- Supply setpoint of an operating point in mV (Table 12.9). -/
def mainMv (p : Nat) : Nat := if p = 0 then 900 else if p = 1 then 800 else 750
def monMv (p : Nat) : Nat := if p = 0 then 800 else 750

/-- Window of a supply in mV: during a transition the union of both windows. -/
def supplyWindow (s : State) : Supply → Rat × Rat
  | .vddMain =>
    let a := mainMv s.pwr.mainCur
    let b := if s.pwr.busyMain then mainMv s.pwr.tgtMain else a
    ((min a b : Nat) * (94 / 100), (max a b : Nat) * (106 / 100))
  | .vddMon =>
    let a := monMv s.pwr.monCur
    let b := if s.pwr.busyMon then monMv s.pwr.tgtMon else a
    ((min a b : Nat) * (94 / 100), (max a b : Nat) * (106 / 100))
  | .vddSoc => (752, 848)
  | .vddIo => (1656, 1944)
  | .vdd3v3 => (3036, 3564)

def supplyIx : Supply → Nat
  | .vddMain => 0
  | .vddMon => 1
  | .vddSoc => 2
  | .vddIo => 3
  | .vdd3v3 => 4

def supplyInside (s : State) (k : Supply) (mv : Nat) : Bool :=
  decide ((supplyWindow s k).1 ≤ (mv : Rat)) && decide ((mv : Rat) ≤ (supplyWindow s k).2)

/-- R367: a supply out of its window for 20 die ticks; back inside, its part of the cause is absent. -/
def execSupplyOutOfWindow (sup : Supply) (mv dieTicks : Nat) (s : State) : Out :=
  let set := fun (v : Bool) (s : State) =>
    { s with safety := { s.safety with supBad := s.safety.supBad.set (supplyIx sup) v } }
  if !isLive s then .next s
  else if supplyInside s sup mv then .next (set false s)
  else if dieTicks < 20 ∨ s.safety.supBad.getD (supplyIx sup) false then .next s
  else .next (raiseFault 0x0642 (supplyIx sup) (srcDom 1) .device [] (markFreeze 5 (set true s)))

/-- R367: a supply below its lower limit for 1 ms: the die holds D1 to D15 in reset. Nothing but D0 runs until the supply is
back, and the module then starts again through BOOT (log entry 15). -/
def execSupplyLowReset (sup : Supply) (mv us : Nat) (s : State) : Out :=
  if (isLive s || s.dev.ph == .calibrating || s.dev.ph == .boot) && decide ((mv : Rat) < (supplyWindow s sup).1) && decide (1000 ≤ us) then
    let s := enterBoot .restart s
    .next { s with safety := { s.safety with held := true, supLow := s.safety.supLow.set (supplyIx sup) true },
                   dev := { s.dev with bootCause := none } }
  else .next s

/-- R367: a supply that was low has been back in its window for 10 ms; the reset ends with the last of them. -/
def execSupplyResetRelease (sup : Supply) (mv us : Nat) (s : State) : Out :=
  if s.safety.held && s.safety.supLow.getD (supplyIx sup) false && supplyInside s sup mv && decide (10000 ≤ us) then
    let low := s.safety.supLow.set (supplyIx sup) false
    let s := { s with safety := { s.safety with supLow := low, supBad := s.safety.supBad.set (supplyIx sup) false } }
    .next (if low.any id then s
      else { s with safety := { s.safety with held := false }, dev := { s.dev with bootCause := some .restart } })
  else .next s

/-- R368: the check of the die every 100 ms. -/
def execDieCheck (answerOk : Bool) (ticks : Nat) (s : State) : Out :=
  let ok := answerOk && decide (950000 ≤ ticks ∧ ticks ≤ 1050000)
  if monUp s then
    let s := { s with safety := { s.safety with dieBad := !ok } }
    .next (if ok then s else raiseFault 0x0643 0 (srcDom 3) .device [] s)
  else .next s

/-! ### The torque monitor (R347 to R353) -/

/-- Device time in windows of 1 ms (R347). -/
def windowNow (s : State) : Nat := s.time.dev / 400000

/-- The monitor pair's sums for the present window; those of the window before it, once that is over, wait for its evaluation (R347). -/
def rollMon (s : State) (x : Mon) : Mon :=
  let now := windowNow s
  if x.curWin = now then x
  else { x with done := if x.curWin + 1 = now then x.cur else MonSums.none, cur := MonSums.none, curWin := now }

/-- The state as the monitor pair computes with it: its own copy of the machine parameters and flux maps (R347). -/
def monView (s : State) : State :=
  { s with
    store := { s.store with act := { s.store.act with items := s.safety.monItems }, owner := s.safety.monPegs }
    machs := s.machs.map (fun (x : Mach) => { x with oldItems := none }) }

/-- Codes raised for a machine in one evaluation: consecutive ESNs in order (R351), then what each does. -/
def raiseTrips (codes : List Nat) (m : Nat) (s : State) : State :=
  let e := s.time.esn
  let s := forEach codes (fun code s => (recordEvent code (faultLevel s code) (srcMach m) [] s).2) s
  let s := forEach (List.range codes.length) (fun i s =>
    let code := codes.getD i 0
    react (faultLevel s code) code m (.machine m) false RS_BRIDGE_STATE (e + BitVec.ofNat 32 i) s) s
  forEach ([0, 1].filter (abortedWinding s)) raise0508 s

/-- The mean of a list, 0 for none. -/
def meanRat (l : List Rat) : Rat := if l.isEmpty then 0 else l.foldl (· + ·) 0 / (l.length : Nat)

/-- The samples of trigger `n` of bridge `b`. -/
def trigSample (s : State) (b n : Nat) : Samples :=
  if n = 0 then (bridgeAt s b).smp else (bridgeAt s b).smpX.getD (n - 1) Samples.reset

/-- Currents of a bridge for the monitor pair: bank B (R305), the mean of both banks in Precision sensing (R51), the other bank alone
while one recalibrates (R558). -/
def monCurrents (s : State) (b : Nat) (x : Samples) : List Int :=
  let br := bridgeAt s b
  if br.recalB then x.iA else if bSns s b 0 = 1 && !br.recalA then meanBanks x else x.iB

/-- The angle of machine `m` at a device time for the monitor pair: of the interface, or where it has no valid speed the field engine's
(R347, R348), turned on from trigger 0. -/
def monAngle (s : State) (m t : Nat) : Nat :=
  let base := if hasIf s m && ifAngleOk s m && ifSpeedOk s m then ifElecAngle s m else (machAt s m).theta
  ang18 ((base : Int) + turned s m ((t : Rat) - ((bridgeAt s (setBridge s m 0)).smp.time : Rat)))

/-- The sums of the monitor pair take the samples of trigger `n` of a RUNNING machine (R347): the stator flux is the voltage model's
above 5 % of base speed, integrated from the current model's, which holds at or below it (log entry 52). The machine parameters are the monitor
pair's own copy. -/
def monitorSample (m n : Nat) (state : State) : State :=
  let s := monView state
  let js := List.range (nSets s m)
  let x := rollMon s (machAt s m).mon
  let smp := fun (b : Nat) => trigSample s b n
  let t := (smp (setBridge s m 0)).time
  let i := alphaBeta s m js (fun b => monCurrents s b (smp b))
  let i := (i.1 / 32768, i.2 / 32768)
  let v := alphaBeta s m js (fun b => (smp b).vph)
  let base : Rat := (mPar s m 0x05 : Rat) * 1000
  let v := (v.1 / base, v.2 / base)
  let th := monAngle s m t
  let d := park i th
  let model := unpark (machFluxes s m (ratPu18 d.1) (ratPu18 d.2)) th
  let step := fun (psi v i : Rat) (t0 : Nat) => psi + omegaBase s m * (v - rsPu s m * i) * ((t : Rat) - (t0 : Rat)) / 400000000
  let psi := match x.time with
    | some t0 => if aboveTenths (machSpeed s m) 50 then (step x.psiA v.1 i.1 t0, step x.psiB v.2 i.2 t0) else model
    | none => model
  let dq := park v th
  let c := x.cur
  modMach m (fun y => { y with mon := { x with
    cur := { c with sum := c.sum + kTorque s m (nSets s m) * (psi.1 * i.2 - psi.2 * i.1), n := c.n + 1, vd := c.vd + dq.1, vq := c.vq + dq.2 },
    psiA := psi.1, psiB := psi.2, time := some t } }) state

/-- T_model of R352 in per unit: the torque of R194 of the steady-state currents that the phase voltages and the speed give. -/
def modelTorque (s : State) (m : Nat) (vd vq : Rat) : Rat :=
  let w := fieldPu s m
  let id := (vq / w - psiMPu s m) / lPu s m 0x0A
  let iq := -vd / (w * lPu s m 0x0B)
  torqueOf s m (nSets s m) (ratPu18 id) (ratPu18 iq)

/-- T_req in PU18, and the magnitude of the speed reference under speed control (R349); during a main-pair handover the torque that the
field engines hold. -/
def hostTorque (s : State) (m : Nat) : Int :=
  if s.store.handover.isSome then (machAt s m).tRef
  else match (machAt s m).monRef with
    | .torque t => t
    | .none => 0
    | .speed _ => 0
def hostSpeed (s : State) (m : Nat) : Option Int :=
  if s.store.handover.isSome then none
  else match (machAt s m).monRef with
    | .speed v => some (toPu18 |v| (mPar s m 0x06 * 100))
    | .none => none
    | .torque _ => none

/-- Regeneration of machine `m` is limited: the factor in fifths that is left of its bound (R321). -/
def regenFifths (s : State) (m : Nat) : Nat :=
  if regenLocked s (machLg s m) || (lgAt s (machLg s m)).chopLock then (machAt s m).regenF - 1 else 5

/-- The envelope of machine `m`, low and high bound in PU18 (R350); regeneration is meant as R605 says. -/
def envelope (s : State) (m : Nat) : Int × Int :=
  let margin := roundDiv (safPar s m 2 * 32768) 1000
  let spd := machSpeed s m
  let t := hostTorque s m
  let (lo, hi) := if (hostSpeed s m).isSome then (-32768, 32768) else (min t 0 - margin, max t 0 + margin)
  let f : Int := (machAt s m).regenF
  let moving := !belowTenths spd 10
  let lo := if moving && decide (0 < spd) then lo * f / 5 else lo
  let hi := if moving && decide (spd < 0) then hi * f / 5 else hi
  let (lo, hi) := if (machAt s m).degraded then (max lo (-16384), min hi 16384) else (lo, hi)
  let fast := decide ((safPar s m 3 : Int) * mPar s m 0x07 * 32768 < |spd| * mPar s m 0x06 * 1000)
  (if fast && decide (spd < 0) then 0 else lo, if fast && decide (0 < spd) then 0 else hi)

/-- The conditions of Table 10.4, in its order; the last in Precision sensing, and while a converter of the machine recalibrates
(R352, R558). -/
def monitorConds (s : State) (m : Nat) (tMon tSet vd vq : Rat) : List Bool :=
  let x := machAt s m
  let spd := machSpeed s m
  let band : Rat := (safPar s m 0 : Nat) / 1000
  let blind := belowTenths spd 50 && !(hasIf s m && ifSpeedOk s m)
  let dir : Rat := (sgn spd : Rat)
  let bound : Rat := if 0 < spd then puRat x.envHi else -(puRat x.envLo)
  let tReq := puRat (hostTorque s m)
  let over_ := match hostSpeed s m with
    | some v => decide (32768 < (|spd| - v) * 20) && decide (band < tMon * dir)
    | none => false
  let precise := (machBridges s m).any (fun b => bSns s b 0 == 1 || (bridgeAt s b).recalA || (bridgeAt s b).recalB)
  [decide ((if blind then 2 * band else band) < |tMon - tSet|),
   (spd != 0 && decide (bound < tMon * dir)) || over_,
   decide (tReq * tMon < 0) && decide (band < |tReq|) && decide (band < |tMon|),
   precise && aboveTenths spd 100 && decide (band < |tMon - modelTorque s m vd vq|)]

/-- A count of consecutive evaluations. -/
def bump (c : Bool) (n : Nat) : Nat := if c then min 63 (n + 1) else 0

/-- The means of a window: T_mon, T_set, v_d and v_q in per unit. T_mon is not stated without a sample, nor T_set without a report (log
entry 3). -/
def windowMeans (s : State) (f m : Nat) : Rat × Rat × Rat × Rat :=
  let x := (machAt s m).mon.done
  (if x.n = 0 then puRat (Config.freeInt f) else x.sum / (x.n : Nat), if x.setN = 0 then puRat (Config.freeInt (f + 1)) else x.setSum / (x.setN : Nat),
   if x.n = 0 then 0 else x.vd / (x.n : Nat), if x.n = 0 then 0 else x.vq / (x.n : Nat))

/-- No evaluation of a machine that is not RUNNING counts on (R351). -/
def clearCounts (m : Nat) : State → State := modMach m (fun x => { x with cntDev := 0, cntAcc := 0, cntDir := 0, cntMod := 0 })

/-- The checks of R351 on a RUNNING machine: the counts, and the codes that trip, in table order; a check that has tripped counts anew. -/
def monitorChecks (m : Nat) (s : State) : List Nat × State :=
  let (f, s) := drawMany 2 s
  let (tMon, tSet, vd, vq) := windowMeans s f m
  let conds := monitorConds (monView s) m tMon tSet vd vq
  let c := fun (i : Nat) => conds.getD i false
  let s := modMach m (fun x => { x with
    tMon := ratPu18 tMon, cntDev := bump (c 0) x.cntDev, cntAcc := bump (c 1) x.cntAcc, cntDir := bump (c 2) x.cntDir,
    cntMod := bump (c 3) x.cntMod }) s
  let x := machAt s m
  let trip := fun (n : Nat) => decide (safPar s m 1 ≤ n)
  let codes := [(trip x.cntDev, 0x0606), (trip x.cntAcc, 0x0608), (trip x.cntDir, 0x0609), (trip x.cntMod, 0x0610)]
  let left := fun (n : Nat) => if trip n then 0 else n
  ((codes.filter (·.1)).map (·.2), modMach m (fun x => { x with
    cntDev := left x.cntDev, cntAcc := left x.cntAcc, cntDir := left x.cntDir, cntMod := left x.cntMod }) s)

/-- R347, R350, R351: the evaluation of one window for one machine: of a RUNNING one the checks in table order, and of every machine the
envelope. -/
def monitorWindow (m : Nat) (s : State) : State :=
  let run := machRunning s m
  let s := modMach m (fun x => { x with mon := rollMon s x.mon }) s
  let (codes, s) := if run then monitorChecks m s else ([], clearCounts m s)
  let s := modMach m (fun x => { x with tReq := hostTorque s m, spReq := hostSpeed s m, regenF := regenFifths s m,
                                        mon := { x.mon with done := MonSums.none, win := windowNow s, time := if run then x.mon.time else none } }) s
  let env := envelope (monView s) m
  raiseTrips codes m (modMach m (fun x => { x with envLo := env.1, envHi := env.2 }) s)

/-- A window of 1 ms has ended within the last 50 us, and has not been evaluated for machine `m` (R347). -/
def windowDue (s : State) (m : Nat) : Bool :=
  decide ((machAt s m).mon.win < windowNow s) && decide (s.time.dev % 400000 ≤ 20000)

def execTorqueMonitorWindow (m : Fin 8) (s : State) : Out :=
  if monUp s && machExists s m && windowDue s m then .next (monitorWindow m s) else .next s

end Sys2Proof.Machine
end

