-- ==== Sys2Proof/Machine/CommitRules.lean ====
section
/-! DEFINITION. The rules between the items of a parameter set that every chapter lays down for PARAM_COMMIT, and the state
rules of the items that change (R485). A rule names the parameter that breaks it; the first breach is that of the lowest ID
(log entry 25). -/

namespace Sys2Proof.Machine

/-- A breach: parameter ID and index byte. -/
abbrev Breach := Nat × Byte

/-- One breach where a condition holds. -/
def brk (c : Bool) (id ix : Nat) : List Breach := if c then [(id, BitVec.ofNat 8 ix)] else []

/-- The device as a set would make it: what the topology functions read. -/
def ruleView (p : PSet) (s : State) : State :=
  { s with
    store := { s.store with act := p }
    dev := { s.dev with oldThermal := none }
    bridges := s.bridges.map (fun (b : Bridge) => { b with oldItems := none })
    machs := s.machs.map (fun (m : Mach) => { m with oldItems := none, oldStart := none }) }

/-- The same without replacements: instances as the set names them. -/
def plainView (p : PSet) (s : State) : State :=
  { ruleView p s with store := { s.store with act := p, mapB := List.replicate 8 0xFF, mapL := List.replicate 24 0xFF,
                                              mapP := List.replicate 8 0xFF } }

/-- Machine item `item` of instance `m`. -/
def mId (m item : Nat) : Nat := 0x4000 + 0x100 * m + item

/-- Control period of a bridge in ticks (R172). -/
def ctrlTicks (v : State) (b : Nat) : Nat := 25000 / 2 ^ parN v (mId b 0x80)

/-- Twice the update interval of a bridge in ticks (R169). -/
def updTicks2 (v : State) (b : Nat) : Nat :=
  let per := parN v (0x3000 + 0x100 * b + 0x80)
  if parN v (0x3000 + 0x100 * b + 0x82) = 1 then per else 2 * per

/-- R236, R12. -/
def assignBreaches (v : State) : List Breach :=
  (List.range 8).flatMap (fun b =>
    let six := par v (mId b 1) == 6
    if b % 2 = 1 then brk six (mId b 1) b
    else brk (six && (assigned v b != assigned v (b + 1))) (mId b 1) b)

/-- What both bridges of a six-phase machine share (R11, R53, R56, R166, R173). -/
def sixBreaches (v : State) (b : Nat) : List Breach :=
  let ne := fun (base : Nat) => brk (par v (base + 0x100 * b) != par v (base + 0x100 * (b + 1))) (base + 0x100 * (b + 1)) (b + 1)
  [0x6000, 0x8010, 0x4080, 0x20F0, 0x20F1, 0x3080, 0x3081, 0x3082, 0x3085].flatMap ne ++
    brk (lgOf v b != lgOf v (b + 1)) 0x7F01 b

/-- The advance table rises (R222). -/
def advanceBreaches (v : State) (m : Nat) : List Breach :=
  (List.range 15).flatMap (fun i => brk (decide (par v (mId m (0x41 + i)) ≤ par v (mId m (0x40 + i)))) (mId m (0x41 + i)) m)

/-- The rules on one machine (R195, R209, R214, R219, R222, R249, R260, R268, Table 6.8). -/
def machineBreaches (v : State) (m : Nat) : List Breach :=
  let it := fun (i : Nat) => par v (mId m i)
  let n := (it 0x19).toNat
  let mode := par v (0x5000 + 0x100 * n)
  let bs := if sixLower v m then [m, m + 1] else [m]
  brk (decide (7 * it 0x06 < 2 * it 0x07)) (mId m 0x07) m ++ brk (decide (7 * it 0x04 < 2 * it 0x20)) (mId m 0x20) m ++
  bs.flatMap (fun b => brk (decide (800000000 < it 0x24 * 10 * max (2 * ctrlTicks v b) (updTicks2 v b))) (mId m 0x24) m) ++
  brk (it 0 == 1 && it 0x18 != 0) (mId m 0x18) m ++
  brk (it 0 == 1 && mode != 1 && mode != 3) (0x5000 + 0x100 * n) n ++
  brk (it 0x30 == 1 && sixLower v m && it 0x02 == 30) (mId m 0x30) m ++
  brk (decide (it 0x31 - 200 < it 0x32) || decide (it 0x21 < it 0x32)) (mId m 0x32) m ++
  brk (decide (it 0x21 < it 0x22)) (mId m 0x22) m ++ advanceBreaches v m ++
  brk (decide (it 0x62 * it 0x03 * par v (0x7200 + 0x100 * m) * it 0x06 < 90000000)) (mId m 0x62) m ++
  brk (decide (it 0x6A < it 0x69 + 20)) (mId m 0x6A) m ++
  brk (it 0x18 != 1 && mode == 1 && it 0x03 % par v (0x5003 + 0x100 * n) != 0) (0x5003 + 0x100 * n) n ++
  (if sixLower v m then sixBreaches v m else [])

/-- Two machines use one interface (R267). -/
def sharedIf (v : State) : List Breach :=
  let users := (machines v).filter (hasIf v)
  users.flatMap (fun m => brk (users.any (fun k => decide (k < m) && par v (mId k 0x19) == par v (mId m 0x19))) (mId m 0x19) m)

/-- The rules on one bridge (R52, R168, R169, R172, R190). -/
def bridgeBreaches (v : State) (b : Nat) : List Breach :=
  let w := fun (i : Nat) => parN v (0x3000 + 0x100 * b + i)
  let c2 := 2 * ctrlTicks v b
  let u2 := updTicks2 v b
  let ok := (c2 % u2 == 0 && decide (c2 / u2 ≤ 8)) || (u2 % c2 == 0 && decide (2 ≤ u2 / c2 ∧ u2 / c2 ≤ 32))
  brk (par v (0x6000 + 0x100 * b) == 1 && decide (2 < par v (0x8010 + 0x100 * b))) (0x6000 + 0x100 * b) b ++
  brk (w 0x81 == 0 && w 0x80 % 2 == 1) (0x3080 + 0x100 * b) b ++ brk (w 0x82 == 1 && w 0x81 == 1) (0x3082 + 0x100 * b) b ++
  brk (!ok) (0x3080 + 0x100 * b) b ++
  brk (assigned v b && (stOf v b != .disabled || domOn v (8 + b)) && parN v 0x3F00 % w 0x80 != 0) 0x3F00 b

/-- Dead times against the two-level turn-off (R152), in 1/64 ns. -/
def legBreaches (v : State) (l : Nat) : List Breach :=
  let g := 0x2000 + 0x100 * (l / 3) + 0x10 * (l % 3)
  let w := 0x3000 + 0x100 * (l / 3) + 0x10 * (l % 3)
  brk (par v (g + 4) != 0 && decide (min (par v w) (par v (w + 1)) * 10 < (par v (g + 5) * 50 + 100) * 64)) (g + 4) l

/-- The rules on link groups (R10, R314, R339). -/
def linkBreaches (v : State) : List Breach :=
  [0, 1].flatMap (fun g =>
    let i := fun (k : Nat) => par v (0x7000 + 0x100 * g + k)
    brk (decide (i 0 < i 1 + 10)) (0x7000 + 0x100 * g) g ++ brk (decide (i 2 < i 0)) (0x7002 + 0x100 * g) g ++
      brk (decide (i 3 - 20 < i 2)) (0x7003 + 0x100 * g) g) ++
  brk (decide (8 < par v 0x7F00 + par v 0x7F01)) 0x7F01 0xFF

/-- An interface has a mechanical angle (R268). -/
def hasMechAngle (v : State) (p : Nat) : Bool :=
  let mode := par v (0x5000 + 0x100 * p)
  mode == 2 || mode == 3 || (mode == 1 && par v (0x5003 + 0x100 * p) == 1)

/-- The rules on outputs and compare units (R292 to R294). -/
def outputBreaches (v : State) : List Breach :=
  (List.range 4).flatMap (fun k =>
    brk (decide (poutPar v k 2 < poutPar v k 1)) (0x5801 + 0x10 * k) k ++ brk (poutPar v k 3 == 1 && k % 2 == 1) (0x5803 + 0x10 * k) k) ++
  (List.range 16).flatMap (fun u =>
    brk (cmpPar v u 1 == 1 && !hasMechAngle v (cmpPar v u 0).toNat) (0x5901 + 0x100 * (u / 4) + 0x10 * (u % 4)) u)

/-- Highest T_trip of a class (Table 11.2). -/
def classMaxTrip (c : Nat) : Int := [150, 150, 175, 220, 120].getD c 0

/-- The rules on the thermal items (R385, R394). -/
def thermalBreaches (v : State) : List Breach :=
  (List.range 5).flatMap (fun c =>
    let i := fun (k : Nat) => par v (0x9000 + 0x100 * c + k)
    let id := 0x9000 + 0x100 * c
    (if c = 0 then brk (decide (i 2 ≤ i 0)) (id + 2) c
     else brk (decide (i 1 < i 0 + 8)) (id + 1) c ++ brk (decide (i 2 < i 1)) (id + 2) c) ++
    brk (decide (i 3 ≤ i 2) || decide (classMaxTrip c < i 3)) (id + 3) c) ++
  (List.range 36).flatMap (fun n => (List.range 4).flatMap (fun k =>
    let id := 0x9800 + 0x10 * n + k
    brk (par v id == ((68 + n : Nat) : Int)) id (68 + n)))

/-- Two ranges of identifiers overlap. -/
def overlaps (a n b m : Int) : Bool := decide (a < b + m) && decide (b < a + n)

/-- The rules on the networks and the cascade (R440, R500, R517, Table 15.9). -/
def networkBreaches (v : State) : List Breach :=
  (List.range 4).flatMap (fun n =>
    let i := fun (k : Nat) => par v (0xA000 + 0x100 * n + k)
    let id := 0xA000 + 0x100 * n
    let top : Int := if i 0x42 = 1 then 0x1FFFFFFF else 0x7FF
    let vx := i 0x40 == 1
    brk (vx && decide (top < i 0x41 + 7)) (id + 0x41) n ++
    brk (vx && (decide (top < i 0x43 + 3) || overlaps (i 0x43) 4 (i 0x41) 8)) (id + 0x43) n ++
    brk (vx && (decide (top < i 0x10 + 3) || overlaps (i 0x10) 4 (i 0x41) 8 || overlaps (i 0x10) 4 (i 0x43) 4)) (id + 0x10) n ++
    brk (decide (i 2 != 0) && i 5 == 0) (id + 5) n) ++
  (List.range (netPar v 0x21)).flatMap (fun i =>
    let w := netPar v (i / 2)
    brk ((if i % 2 = 0 then w / 65536 % 4096 else w % 4096) == 0) (0xAF00 + i / 2) i) ++
  brk (decide (netPar v 0x31 < 3 * netPar v 0x30)) 0xAF31 0xFF ++
  brk (!hasBit (netPar v 0x36) 0 || !hasBit (netPar v 0x36) (deviceIndex v)) 0xAF36 0xFF

/-- A replacement is assigned to another use (R561); `v` sees the replacements. -/
def remapBreaches (v : State) : List Breach :=
  (List.range 8).flatMap (fun r =>
    let used := v.store.mapB.contains (ixByte r) || (List.range 3).any (fun k => v.store.mapL.contains (ixByte (3 * r + k)))
    brk (used && assigned v r) (mId r 0x81) r ++
    brk (v.store.mapP.contains (ixByte r) &&
      (par v (0x5000 + 0x100 * r) != 0 || (machines v).any (fun m => hasIf v m && par v (mId m 0x19) == (r : Int))))
      (0x5000 + 0x100 * r) r)

/-- Every breach that is refused with ST_BAD_PARAM. -/
def badBreaches (p : PSet) (s : State) : List Breach :=
  let v := plainView p s
  assignBreaches v ++ (machines v).flatMap (machineBreaches v) ++ sharedIf v ++ (List.range 8).flatMap (bridgeBreaches v) ++
    (List.range 24).flatMap (legBreaches v) ++ linkBreaches v ++ outputBreaches v ++ thermalBreaches v ++ networkBreaches v ++
    remapBreaches (ruleView p s)

/-! ### The record budget (R55, R187) -/

/-- Records per second of one bridge: sample records, and one per occurrence of each selected compare event: boundaries, refreshes and
suppressions are judged at every update interval, of which double update has two in a carrier period (R169, R187). -/
def recordRate (v : State) (b : Nat) : Rat :=
  let ctrl : Rat := (400000000 / ctrlTicks v b : Nat)
  let car : Rat := 400000000 / (parN v (0x3080 + 0x100 * b) : Nat)
  let upd : Rat := car * (if par v (0x3082 + 0x100 * b) = 1 then 2 else 1)
  let div := parN v (0xC000 + 0x100 * b)
  let evt := parN v (0x308C + 0x100 * b)
  let extra := ((List.range 3).filter (fun k => par v (0x3089 + 0x100 * b + k) != 65535)).length
  (if div = 0 then 0 else ctrl / (div : Nat)) +
  (if hasBit evt 0 then upd else 0) +
  (if hasBit evt 1 then ctrl + car * (extra : Nat) else 0) + (if hasBit evt 2 then car else 0) + (if hasBit evt 3 then car else 0)

/-- The breach of the record budget of Table 1.5: an assigned bridge's P_CMP_EVT or P_REC_DIV, the lowest ID. -/
def budgetBreaches (p : PSet) (s : State) : List Breach :=
  let v := plainView p s
  let bs := (List.range 8).filter (assigned v)
  let sum := bs.foldl (fun (a : Rat) b => a + recordRate v b) 0
  if sum ≤ (if s.dev.split then 512000 else 256000) then []
  else bs.flatMap (fun b => brk (par v (0x308C + 0x100 * b) != 0) (0x308C + 0x100 * b) b ++
    brk (par v (0xC000 + 0x100 * b) != 0) (0xC000 + 0x100 * b) b)

/-! ### State rules -/

/-- What a changed item needs before it can take effect. -/
inductive Need where
  | nothing
  /-- Every bridge of a list IDLE or DISABLED. -/
  | idle (bs : List Nat)
  /-- No bridge of a list PRECHARGING, ARMED or RUNNING. -/
  | quiet (bs : List Nat)
  /-- Every bridge of the link group IDLE or DISABLED and no discharge there; or only none active. -/
  | group (g : Nat) (idle : Bool)
deriving DecidableEq, Repr

/-- The bridges that an item of bridge instance `b` concerns: its own, and those of its machine, before and after. -/
def concerned (s v : State) (b : Nat) : List Nat :=
  let ofM := fun (w : State) => match bridgeMach w (mapped w b) with
    | some m => machBridges w m
    | none => []
  mapped s b :: (ofM s ++ ofM v)

/-- What a changed item needs (R54, R165, R192, R235, R265, R302, R339, R375, R432, R466, R498, R534, R580). -/
def itemNeed (s v : State) (id : Nat) : Need :=
  let inst := id % 4096 / 256
  let item := id % 256
  match id / 4096 with
  | 0x2 => if inst < 8 then .idle [mapped s inst] else .group (auxLg (inst - 8)) true
  | 0x3 =>
    if inst = 0xF then .quiet (List.range 8)
    else if item = 0x86 ∨ item = 0x8C then .nothing else .idle [mapped s inst]
  | 0x4 =>
    if item < 0x80 ∧ (runItem item ∨ (sixUpper s inst ∧ sixUpper v inst)) then .nothing
    else .idle (concerned s v inst)
  | 0x5 =>
    if inst < 8 ∧ item ≠ 0x08 ∧ item ≠ 0x0B ∧ item ≠ 0x0C then
      match posMach s (posPhys s inst) with
      | some m => .idle (machBridges s m)
      | none => .nothing
    else .nothing
  | 0x6 => if inst < 8 then .idle [mapped s inst] else .idle (List.range 8)
  | 0x7 =>
    if inst < 2 then .group inst false
    else if inst < 10 then .idle (concerned s v (inst - 2)) else .idle (List.range 8)
  | 0x8 => if inst < 8 then .idle (concerned s v inst) else .quiet (List.range 8)
  | 0xA =>
    if inst < 4 then (if 0x18 ≤ item ∧ item < 0x1E ∨ 0x40 ≤ item then .nothing else .quiet (List.range 8))
    else if item < 0x22 ∨ item = 0x2B ∨ item = 0x34 ∨ item = 0x35 ∨ 0x40 ≤ item then .nothing
    else .quiet (List.range 8)
  | 0xC => if inst < 8 then .idle [mapped s inst] else .nothing
  | _ => .nothing

/-- A need is not met: reason and index. -/
def needFails (s : State) : Need → Option (Byte × Byte)
  | .nothing => none
  | .idle bs => (bs.find? (fun b => stOf s b != .idle && stOf s b != .disabled)).map (fun b => (RS_BRIDGE_STATE, ixByte b))
  | .quiet bs => (bs.find? (fun b => isActive (stOf s b))).map (fun b => (RS_BRIDGE_STATE, ixByte b))
  | .group g idle =>
    match (lgBridges s g).find? (fun b => if idle then stOf s b != .idle && stOf s b != .disabled else isActive (stOf s b)) with
    | some b => some (RS_BRIDGE_STATE, ixByte b)
    | none => if (lgAt s g).dis.isSome then some (RS_DISCHARGE, ixByte g) else none

/-- The items whose values differ between two lists, IDs rising. -/
def changedItems (old new : List (Nat × Int)) : List Nat :=
  ((new.foldl (fun acc p => setItem p.1 0 acc) (old.map (fun p => (p.1, (0 : Int))))).map (·.1)).filter
    (fun id => itemValue old id != itemValue new id)

/-! ### The first breach (R485) -/

/-- The breach of the lowest ID. -/
def firstBreach : List Breach → Option Breach
  | [] => none
  | x :: xs => match firstBreach xs with
    | some y => if y.1 < x.1 then some y else some x
    | none => some x

/-- A refusal: status, reason, index and parameter. -/
abbrev Refused := U16 × Byte × Byte × U16

/-- The rules other than state rules (R105, R485): ST_BAD_PARAM before ST_OUT_OF_RANGE. -/
def contentRefusal (p : PSet) (s : State) : Option Refused :=
  match firstBreach (badBreaches p s) with
  | some (id, ix) => some (ST_BAD_PARAM, RS_NONE, ix, BitVec.ofNat 16 id)
  | none => match firstBreach (budgetBreaches p s) with
    | some (id, ix) => some (ST_OUT_OF_RANGE, RS_NONE, ix, BitVec.ofNat 16 id)
    | none => none

/-- The first changed item whose state rule fails. -/
def stateBreach (s v : State) : List Nat → Option Refused
  | [] => none
  | id :: rest => match needFails s (itemNeed s v id) with
    | some (why, ix) => some (ST_WRONG_STATE, why, ix, BitVec.ofNat 16 id)
    | none => stateBreach s v rest

/-- The refusal of a set under R485. -/
def commitRefusal (p : PSet) (s : State) : Option Refused :=
  match contentRefusal p s with
  | some r => some r
  | none => stateBreach s (ruleView p s) (changedItems s.store.act.items p.items)

/-- The raw items of a PSET body. -/
def psetRawItems (body : List Byte) : List Item :=
  let start := 8 + 392 * field body 4 1
  parseItems (body.drop start) ((body.length - start) / 8)

/-- The content of a PSET body against the last condition of R105: a refusal, or the set. -/
def psetContent (body : List Byte) (s : State) : Except Refused PSet :=
  match parsePset body with
  | none => .error (ST_BAD_PARAM, RS_NONE, 0xFF, 0)
  | some p => match checkItems (psetRawItems body) with
    | some (st, id) => .error (st, RS_NONE, 0xFF, id)
    | none => match contentRefusal p s with
      | some r => .error r
      | none => .ok p

end Sys2Proof.Machine
end

