-- ==== Sys2Proof/Machine/Tuning.lean ====
section
/-! DEFINITION. The parameter and calibration opcodes of groups 0x03 and 0x04 (R482 to R488), the commit instant (R486), and
recalibration (R558 to R560). -/

namespace Sys2Proof.Machine

/-! ### PARAM_READ and PARAM_WRITE -/

/-- The staging area, or the active set of which it would be a copy. -/
def stagedSet (s : State) : PSet :=
  match s.store.staging with
  | some g => g.pset
  | none => s.store.act

/-- One item of a PARAM_READ reply; an undefined ID carries reserved bit 0 and the value 0 (Table 14.9). -/
def readItem (p : PSet) (id : U16) : List Byte :=
  match paramDef id.toNat with
  | some _ => itemBytes id.toNat (psetValue p id.toNat)
  | none => beBytes 2 id.toNat ++ [0, 1] ++ zeros 4

/-- R487: PARAM_READ. -/
def opParamRead (t : Nat) (source : Byte) (ids : List U16) (s : State) : State :=
  if source = 0 then finish t ST_OK (ids.flatMap (readItem s.store.act)) s
  else if source = 1 then finish t ST_OK (ids.flatMap (readItem (stagedSet s))) s
  else refuse t ST_BAD_PARAM RS_NONE 0xFF 0 s

/-- The staging area belongs to another session than that of context `t` (R482). -/
def stagingHeld (t : Nat) (s : State) : Bool :=
  match s.store.staging with
  | some g => g.session != (ctxAt s t).hdr.session
  | none => false

/-- R484: PARAM_WRITE. -/
def opParamWrite (t : Nat) (items : List Item) (s : State) : State :=
  if stagingHeld t s then refuse t ST_WRONG_STATE RS_STAGING_HELD 0xFF 0 s
  else match checkItems items with
    | some (st, id) => refuse t st RS_NONE 0xFF id s
    | none =>
      let p := stagedSet s
      let p := { p with items := applyItems p.items items }
      finish t ST_OK [] { s with store := { s.store with staging := some ⟨(ctxAt s t).hdr.session, p⟩ } }

/-! ### PARAM_COMMIT and SET_SELECT (R485, R488) -/

/-- The digest of the staging content (R485). -/
def stagingDigest (p : PSet) : Digest := Config.sha256 (psetTail p)

/-- R485: PARAM_COMMIT form 0. -/
def opCommitPrepare (t : Nat) (s : State) : State :=
  if stagingHeld t s then refuse t ST_WRONG_STATE RS_STAGING_HELD 0xFF 0 s
  else finish t ST_OK (beBytes 32 (stagingDigest (stagedSet s)).toNat ++ beBytes 4 s.store.act.serial.toNat) s

/-- R487: PARAM_COMMIT form 2. -/
def opCommitDiscard (t : Nat) (s : State) : State :=
  if stagingHeld t s then refuse t ST_WRONG_STATE RS_STAGING_HELD 0xFF 0 s
  else finish t ST_OK [] { s with store := { s.store with staging := none } }

/-- The slot in which a committed set is stored: owner signature zero, sealed (R542). -/
def sealedSlot (p : PSet) : Slot :=
  let m := bareManifest (classCode .pset) 0 (0, 0) (0, 0) (psetBody p)
  { st := .verified, man := { m with ownerSig := sealField m }, body := psetBody p }

/-- Slot B of a class is the one in force; with none in force, the one marked (R548). -/
def usesB (s : State) (c : ImgClass) : Bool := (slotsAt s c).inB.getD (slotsAt s c).markB

/-- The buffer that the set in force does not occupy takes a slot. -/
def storeInactive (c : ImgClass) (sl : Slot) (s : State) : State :=
  let b := usesB s c
  modSlots c (fun k => if b then { k with a := sl } else { k with b := sl }) s

/-- The lowest-indexed bridge that is not DISABLED (R486). -/
def instantBridge (s : State) : Option Nat := (List.range 8).find? (fun b => stOf s b != .disabled)

/-- Some changed ID lies in an interval. -/
def changedIn (changed : List Nat) (lo n : Nat) : Bool := changed.any (fun id => decide (lo ≤ id ∧ id < lo + n))

/-- Position items that take effect at the commit instant (R302). -/
def applyPosition (changed : List Nat) (s : State) : State :=
  let s := forEach ((List.range 8).filter (fun n => changed.any (fun id =>
      id / 256 == 0x50 + n && id % 256 != 8 && id % 256 != 0xB && id % 256 != 0xC))) (fun n s => initPos (posPhys s n) s) s
  let s := forEach ((List.range 4).filter (fun k => changedIn changed (0x5800 + 0x10 * k) 16))
    (modPout · (fun x => { x with acc := 0, queue := [], full := false })) s
  forEach ((List.range 16).filter (fun u => changedIn changed (0x5900 + 0x100 * (u / 4) + 0x10 * (u % 4)) 16))
    (modCmp · (fun x => { x with st := .disarmed, waiting := false, pend := none, hit := none })) s

/-- An Ethernet port restarts: the frames in flight on it are lost (R534). -/
def restartPorts (which : Nat → Bool) (s : State) : State :=
  { s with net := { s.net with frags := s.net.frags.filter (fun f => !which f.eth), egress := s.net.egress.filter (fun f => !which f.port) } }

/-- Network and protocol items that take effect at the commit instant: changed controllers and ports restart (R466, R534), and
a running setpoint supervision restarts its time. -/
def applyNetwork (before : State) (changed : List Nat) (s : State) : State :=
  let s := forEach ((List.range 4).filter (fun n => changed.any (fun id => id / 256 == 0xA0 + n && decide (id % 256 < 0x11))))
    (fun n s => dropCan n (modCan n (fun c => { c with
      rx := List.replicate 16 ⟨[]⟩, seg := List.replicate 4 0, shot := none, recv := 0, tec := 0, passive := false,
      busOff := false, sleep := canPar s n 0 == 0 || !domOn s 5, term := canPar s n 6 == 1 && domOn s 5,
      nominal := (canTiming s n).1, dataPh := (canTiming s n).2 }) s)) s
  let s := restartPorts (hasBit (netPar before 0x22 ^^^ netPar s 0x22 ||| netPar before 0x23 ^^^ netPar s 0x23)) s
  let s := forEach ((List.range 4).filter (fun n => changedIn changed (0xA000 + 0x100 * n + 0x40) 3))
    (fun n s => { s with proto := { s.proto with reasm := s.proto.reasm.mapIdx (fun i r => if i / 4 = n then none else r) } }) s
  if changedIn changed 0xAF40 2 then
    { s with machs := s.machs.map (fun (x : Mach) => if x.bound.isSome then { x with spLast := s.time.dev } else x) }
  else s

/-- A set becomes the active set: each item takes effect at its moment (R486, R497). Bridge and leg items wait for their
bridge's next period boundary, run items for the next control-period boundary, and run items of the starting parameters for the end of
a start phase (R192, R235, R265). -/
def applySet (p : PSet) (s : State) : State :=
  let before := s
  let old := s.store.act.items
  let changed := changedItems old p.items
  let keep := fun (o : Option (List (Nat × Int))) => some (o.getD old)
  let timed := fun (b : Nat) => isUp s && domOn s (8 + b)
  let s := { s with
    bridges := s.bridges.mapIdx (fun b (br : Bridge) => if timed b then { br with oldItems := keep br.oldItems } else br)
    machs := s.machs.mapIdx (fun m (x : Mach) =>
      { x with oldItems := if timed (mapped s m) then keep x.oldItems else none,
               oldStart := if isStart x.ph then keep x.oldStart else none }) }
  let s := copyToMonitor { s with store := { s.store with act := p }, dev := { s.dev with oldThermal := keep s.dev.oldThermal } }
  let s := { s with machs := s.machs.mapIdx (fun m (x : Mach) =>
    { x with saliency := none, mapPending := machExists s m && p.items.contains (mId m 0x2B, 1) }) }
  let s := applyNetwork before changed (applyPosition changed (forgetUnread (relearn before s)))
  let s := if changed.contains 0xB001 then requestMain (parN s 0xB001) s else s
  let s := if changed.contains 0xCF01 then newTrend s else s
  let s := { s with bridges := s.bridges.mapIdx (fun b (br : Bridge) => { br with pmsm := match bridgeMach s b with
    | some m => isPmsm s m
    | none => br.pmsm }) }
  cascadeHold before (switchFe before (choppersOff (fun g => lgPar s g 5 == 0) s))

/-- The commit instant of a pending set (R486): the buffer becomes active and the final reply is sent. -/
def commitNow (s : State) : State :=
  match s.store.pending with
  | none => s
  | some pd =>
    let s := { s with store := { s.store with pending := none } }
    let on := fun (sl : Slot) => { sl with st := SlotState.active }
    let s := modSlots .pset (fun k =>
      if pd.slotB then { k with b := on k.b, markB := true, inB := some true }
      else { k with a := on k.a, markB := false, inB := some false }) s
    let s := applySet pd.pset { s with store := { s.store with psetOk := true } }
    let s := if pd.live then note 0x0A23 (srcDom 1) (beBytes 2 (classCode .pset).toNat ++ beBytes 4 (versionOf s .pset).toNat) s else s
    let data := match pd.tag with
      | some t => if (ctxAt s t).opcode = 0x0303 then beBytes 4 pd.pset.serial.toNat else []
      | none => []
    finishOpt pd.tag ST_OK data s

/-- An accepted set waits for its commit instant, which is the end of storage where every bridge is DISABLED. -/
def awaitInstant (pd : Pending) (s : State) : State :=
  let s := { s with store := { s.store with pending := some pd } }
  if (instantBridge s).isNone then commitNow s else s

/-- R485: PARAM_COMMIT form 1. -/
def opCommitApply (t : Nat) (slot : Byte) (serial : U32) (digest : Digest) (sig : Rsa) (s : State) : State :=
  let p := stagedSet s
  if stagingHeld t s then refuse t ST_WRONG_STATE RS_STAGING_HELD 0xFF 0 s
  else if s.store.pending.isSome then refuse t ST_WRONG_STATE RS_NONE 0xFF 0 s
  else if serial.toNat ≤ s.store.act.serial.toNat then refuse t ST_OUT_OF_RANGE RS_NONE 0xFF 0 s
  else if digest ≠ stagingDigest p then refuse t ST_BAD_PARAM RS_NONE 0xFF 0 s
  else
    let subject := beBytes 32 (Config.sha256 (beBytes 4 serial.toNat ++ beBytes 32 digest.toNat)).toNat
    let v := verifySigned t 0x0302 slot 1 subject sig s
    let s := v.2
    match v.1 with
    | some why => refuse t ST_NOT_AUTHORISED why 0xFF 0 s
    | none =>
      let p := { p with serial := serial }
      match commitRefusal p s with
      | some (st, why, ix, id) => refuse t st why ix id s
      | none =>
        let toB := !usesB s .pset
        let s := storeInactive .pset (sealedSlot p) s
        let upd := match s.store.upd with
          | some u => if u.cls = .pset then none else some u
          | none => none
        let s := { s with store := { s.store with staging := none, upd := upd } }
        awaitInstant ⟨p, some t, toB, false⟩ (accept t 500 s)

/-- The buffer that the set in force does not occupy. -/
def otherSlot (s : State) (c : ImgClass) : Slot := if usesB s c then (slotsAt s c).a else (slotsAt s c).b

/-- R488: SET_SELECT. -/
def opSetSelect (t : Nat) (arg : Byte) (s : State) : State :=
  let sl := otherSlot s .pset
  if arg ≠ 0 then refuse t ST_BAD_PARAM RS_NONE 0xFF 0 s
  else if s.store.pending.isSome then refuse t ST_WRONG_STATE RS_NONE 0xFF 0 s
  else match parsePset sl.body with
    | none => refuse t ST_NOT_AUTHORISED RS_NONE 0xFF 0 s
    | some p =>
      if verifySlot s .pset sl ≠ .good then refuse t ST_NOT_AUTHORISED RS_NONE 0xFF 0 s
      else if p.serial.toNat ≤ s.store.act.serial.toNat then refuse t ST_OUT_OF_RANGE RS_NONE 0xFF 0 s
      else match psetContent sl.body s with
        | .error (st, why, ix, id) => refuse t st why ix id s
        | .ok p => match stateBreach s (ruleView p s) (changedItems s.store.act.items p.items) with
          | some (st, why, ix, id) => refuse t st why ix id s
          | none => awaitInstant ⟨p, some t, !usesB s .pset, false⟩ (accept t 500 s)

/-- A set with a change of bridge scope: what R116 refuses in SERVICE. -/
def onBridgeChange (s : State) (p : PSet) : Bool := (changedItems s.store.act.items p.items).any bridgeScope

/-! ### CAL_READ and CAL_RECAL (R488, R558 to R560) -/

/-- The start-up records of a kind and instance, newest first. -/
def startupPegs (s : State) (kind inst : U16) : List Peg :=
  (s.store.startup.filter (fun p => p.kind == kind && p.inst == inst)).reverse

/-- A stored peg record (Table 14.9). -/
def findPeg (s : State) (kind inst : U16) (origin age : Byte) : Option Peg :=
  match origin.toNat with
  | 1 => if age = 0 then (Config.factoryRecord kind.toNat inst.toNat).map (fun r => ⟨kind, inst, 1, 0, r.1, r.2⟩) else none
  | 2 => if age = 0 then s.store.owner.find? (fun p => p.kind == kind && p.inst == inst) else none
  | _ => (startupPegs s kind inst)[age.toNat]?

/-- R488: CAL_READ. -/
def opCalRead (t : Nat) (kind inst : U16) (origin age : Byte) (s : State) : State :=
  if origin = 0 ∨ 3 < origin.toNat then refuse t ST_BAD_PARAM RS_NONE 0xFF 0 s
  else match findPeg s kind inst origin age with
    | some p => finish t ST_OK (pegBytes p) s
    | none => refuse t ST_OUT_OF_RANGE RS_NONE 0xFF 0 s

/-- The data of a record of a kind, within its length: 12 bytes for kind 0x0001, at most 4,000 for the others (R121, Table 3.8). -/
def pegData (kind : U16) (data : List Byte) : List Byte := if kind = 0x0001 then (data ++ zeros 12).take 12 else data.take 4000

/-- A start-up record is written, the last 32 of its kind and instance kept (R122); its ESN, and the state. The record of a passing
CAL_RECAL takes one of the 32 places: R122 does not say, and it is the model's choice (DESIGN CHOICE, log entry 51). -/
def writeStartup (kind inst : U16) (temp : Int) (data : List Byte) (s : State) : Esn × State :=
  let (e, s) := allocEsn s
  let old := s.store.startup.filter (fun p => p.kind == kind && p.inst == inst)
  let others := s.store.startup.filter (fun p => !(p.kind == kind && p.inst == inst))
  (e, { s with store := { s.store with startup := others ++ (ringAppend 32 old [⟨kind, inst, 3, e, temp, pegData kind data⟩]).1 } })

/-- Converter `c` of a bank is recalibrating. -/
def recalBusy (s : State) (target : Byte) (c : Nat) : Bool := if target = 0 then (bridgeAt s c).recalA else (bridgeAt s c).recalB

/-- The machine of bridge `b` is in a start phase. -/
def startingOn (s : State) (b : Nat) : Bool :=
  match bridgeMach s b with
  | some m => isStart (machAt s m).ph
  | none => false

/-- A recalibration begins: 100 ms deadline. -/
def beginRecal (t : Nat) (target index : Byte) (s : State) : State :=
  let s := accept t 100 s
  let s := { s with store := { s.store with recal := s.store.recal ++ [(target, index, some t)] } }
  if target = 0 then modBridge index.toNat (fun b => { b with recalA := true }) s
  else if target = 1 then modBridge index.toNat (fun b => { b with recalB := true }) s
  else s

/-- R558, R560: CAL_RECAL. -/
def opCalRecal (t : Nat) (target index : Byte) (s : State) : State :=
  let i := index.toNat
  if target.toNat < 2 then
    let d := 6 + target.toNat
    if 8 ≤ i then refuse t ST_BAD_PARAM RS_NONE index 0 s
    else if !domOn s d then refuse t ST_DOMAIN_OFF RS_NONE (ixByte d) 0 s
    else if recalBusy s (1 - target) i || startingOn s i then refuse t ST_WRONG_STATE RS_BRIDGE_STATE index 0 s
    else beginRecal t target index s
  else if target = 2 then
    let b := legBridge s i
    if 24 ≤ i then refuse t ST_BAD_PARAM RS_NONE index 0 s
    else if !domOn s (8 + b) then refuse t ST_DOMAIN_OFF RS_NONE (ixByte (8 + b)) 0 s
    else if allQuiet s [b] then beginRecal t target index s
    else refuse t ST_WRONG_STATE RS_BRIDGE_STATE index 0 s
  else refuse t ST_BAD_PARAM RS_NONE 0xFF 0 s

/-- Peg-record kind and instance that a recalibration writes. -/
def recalRecord (target index : Byte) : U16 × U16 :=
  if target = 0 then (0x0001, index.setWidth 16) else if target = 1 then (0x0001, 0x100 + index.setWidth 16)
  else (0x0002, BitVec.ofNat 16 (lowChan index.toNat))

/-- An island has its bias, answers, and calibrates within its limits (R127, R560). -/
def legPasses (o : IslandObs) (c : Nat) : Bool := o.bias && o.answers && islandPasses c o.cal

/-- The low and high island of leg `l` have run R127 again: one that fails raises F-0121 and counts as absent (R128, R560). -/
def recalLeg (low high : IslandObs) (l : Nat) (s : State) : State :=
  let one := fun (o : IslandObs) (c : Nat) (s : State) =>
    if legPasses o c then
      modChan c (fun x => { x with handFail := false, missed := 0, step := o.step, linkDly := o.linkDly, cal := o.cal }) s
    else modChan c (fun x => { x with handFail := true }) (note 0x0121 (srcChan c) [] s)
  reselect (legBridge s l) (forgetUnread (one low (lowChan l) (one high (highChan l) s)))

/-- A converter has passed a recalibration, whose correction then applies, or failed it and keeps the previous one (R126, R559). -/
def recalConverter (k : Bank) (c : Nat) (x : Corr) (s : State) : State :=
  let pass := corrPasses k c x
  let s := modBridge c (fun b => match k with
    | .a => { b with recalA := false, calFailA := !pass, corrA := if pass then x else b.corrA }
    | .b => { b with recalB := false, calFailB := !pass, corrB := if pass then x else b.corrB }) s
  if pass then s else note (match k with
    | .a => 0x0320
    | .b => 0x0321) (srcBridge c) [] s

/-- Whether a recalibration passes, and the data of its record (R559, R560). -/
def recalResult (target index : Byte) (cal : ConvCal) (low high : IslandObs) (s : State) : Bool × List Byte × Int × State :=
  let conv := fun (k : Bank) =>
    let x := measuredCorr k index.toNat cal (tempAt s (bankDie k)).value
    (corrPasses k index.toNat x, corrBytes x, x.temp, recalConverter k index.toNat x s)
  if target = 0 then conv .a
  else if target = 1 then conv .b
  else
    let l := index.toNat
    let s := recalLeg low high l s
    (legPasses low (lowChan l) && legPasses high (highChan l), islandData s 2 (lowChan l), (tempAt s 0).value, s)

/-- R559: a recalibration ends. Its reply carries the result and the ESN of the new record, a free value where it failed and wrote
none (log entry 3). -/
def execRecalCoverEnd (target index : Byte) (cal : ConvCal) (low high : IslandObs) (s : State) : Out :=
  let mine := fun (r : Byte × Byte × Option Nat) => r.1 == target && r.2.1 == index
  if isUp s && s.store.recal.any mine then
    let tags := (s.store.recal.filter mine).map (fun r => r.2.2)
    let s := { s with store := { s.store with recal := s.store.recal.filter (fun r => !mine r) } }
    let (pass, data, temp, s) := recalResult target index cal low high s
    let (kind, inst) := recalRecord target index
    let (i, s) := drawFree s
    let (e, s) := if pass then writeStartup kind inst temp data s else (Config.freeWord i, s)
    let reply := [flagByte (!pass), 0, 0, 0] ++ beBytes 4 e.toNat
    .next (tags.foldl (fun s t => finishOpt t ST_OK reply s) s)
  else .next s

/-! ### The rows -/

/-- A row with `n` IDs or items: a count of 0 is out of its range (Table 14.9), more than the count byte names is a length that
differs from the opcode's layout (R471), else `done` is what the opcode does. -/
def countRow (n t : Nat) (f : State → State) (s : State) : State :=
  if n = 0 then refuse t ST_OUT_OF_RANGE RS_NONE 0xFF 0 s
  else if 255 < n then refuse t ST_BAD_LENGTH RS_NONE 0xFF 0 s
  else f s

/-- R487. -/
def execParamRead (h : Hdr) (source : Byte) (ids : List U16) (s : State) : Out :=
  .next (serve h 0x0300 ([source, BitVec.ofNat 8 ids.length, 0, 0] ++ ids.flatMap (fun i => beBytes 2 i.toNat)) false
    (fun t s => countRow ids.length t (opParamRead t source ids) s) s)
/-- R484. -/
def execParamWrite (h : Hdr) (items : List Item) (s : State) : Out :=
  .next (serve h 0x0301 ([BitVec.ofNat 8 items.length, 0, 0, 0] ++ items.flatMap (fun i =>
      beBytes 2 i.id.toNat ++ [i.fmt, 0] ++ beBytes 4 i.value.toNat)) (items.any (fun i => bridgeScope i.id.toNat))
    (fun t s => countRow items.length t (opParamWrite t items) s) s)
/-- R485. -/
def execParamCommitPrepare (h : Hdr) (s : State) : Out := .next (serve h 0x0302 [0, 0, 0, 0] false opCommitPrepare s)
/-- R485. -/
def execParamCommitApply (h : Hdr) (slot : Byte) (serial : U32) (digest : Digest) (sig : Rsa) (s : State) : Out :=
  .next (serve h 0x0302 ([1, slot, 0, 0] ++ beBytes 4 serial.toNat ++ beBytes 32 digest.toNat ++ beBytes 384 sig.toNat)
    (onBridgeChange s (stagedSet s)) (fun t s => opCommitApply t slot serial digest sig s) s)
/-- R487. -/
def execParamCommitDiscard (h : Hdr) (s : State) : Out := .next (serve h 0x0302 [2, 0, 0, 0] false opCommitDiscard s)
/-- What SET_SELECT would change is of bridge scope. -/
def selectOnBridge (s : State) : Bool :=
  match parsePset (otherSlot s .pset).body with
  | some p => onBridgeChange s p
  | none => false
/-- R488. -/
def execSetSelect (h : Hdr) (arg : Byte) (s : State) : Out :=
  .next (serve h 0x0303 [arg] (selectOnBridge s) (fun t s => opSetSelect t arg s) s)
/-- R488. -/
def execCalRead (h : Hdr) (kind inst : U16) (origin age : Byte) (s : State) : Out :=
  .next (serve h 0x0400 (beBytes 2 kind.toNat ++ beBytes 2 inst.toNat ++ [origin, age]) false
    (fun t s => opCalRead t kind inst origin age s) s)
/-- R558, R560. -/
def execCalRecal (h : Hdr) (target index : Byte) (s : State) : Out :=
  .next (serve h 0x0401 [target, index] true (fun t s => opCalRecal t target index s) s)

end Sys2Proof.Machine
end

