-- ==== Sys2Proof/Machine/Standby.lean ====
section
/-! DEFINITION. Waking and sleeping: KL15 and KEEP (R63, R64, R102), entry to STANDBY (R422 to R424), the RTC (R425), the CANF0
wake (R509), and the loss and return of KL30 (R586 to R590). -/

namespace Sys2Proof.Machine

/-! ### Entry to STANDBY (R423) -/

/-- Steps 5 and 6: the recorder flushed, lock-outs saved, RET_BANKS loaded, then D15 to D1 off, with D1 to D3 in retention for
listening depth; a contactor driver without D3 is off. -/
def powerDown (listening : Bool) (s : State) : State :=
  let s := flushBuffer s
  let s := { s with
    pwr := { s.pwr with saved := s.pwr.saved ++ s.safety.locks, retBanks := BitVec.ofNat 16 (parN s 0xB002), sby := none,
                        sbyPending := false, listening := listening,
                        wuf := s.store.act.items.filter (fun p => decide (0xA018 ≤ p.1 ∧ p.1 < 0xA01E)) }
    safety := { s.safety with locks := [] }
    ctds := s.ctds.map (fun (c : Contactor) => { c with closed := false, econ := false, checking := false })
    time := holdTime s.time }
  let s := forEach ((List.range' 1 15).reverse) (fun n s =>
    let keep : Bool := listening && decide (n ≤ 3)
    modDom n (fun d => { d with req := if keep then .ret else .off, st := if keep then .ret else .off, busy := false,
                                forcedOff := false, saved := decide (n = 4) && domOn s 4 }) (if domOn s n then leaveOn n false s else s)) s
  { s with dev := { s.dev with ph := .standby, bootCause := none, ready9 := false, resetAt := none } }

/-- Step 1: every RUNNING machine's torque is ramped to zero at P_TQ_RAMP. -/
def rampForStandby (m : Nat) (s : State) : State :=
  if machRunning s m then
    modMach m (fun x => { x with ramp := match x.ramp with
      | .stop cs => .stop cs
      | _ => .standby }) s
  else s

/-- Entry to STANDBY begins. -/
def standbyBegin (listening : Bool) (s : State) : State :=
  if entering s then s
  else forEach (machines s) rampForStandby { s with pwr := { s.pwr with sby := some ⟨2, listening, false⟩ } }

/-- The machines with an active bridge. -/
def activeMachines (s : State) : List Nat := (machines s).filter (fun m => anyActive s (machBridges s m))

/-- A machine may be disarmed in step 2: at zero torque and below P_FW_SPEED. -/
def readyToRest (s : State) (m : Nat) : Bool := belowFwSpeed s m && (!machRunning s m || (machAt s m).tRef == 0)

/-- The entry takes a step number and whether it waits under R424. -/
def setSby (step : Nat) (waiting : Bool) (s : State) : State :=
  { s with pwr := { s.pwr with sby := s.pwr.sby.map (fun e => { e with step := step, waiting := waiting }) } }

/-- Step 2: machines below P_FW_SPEED are disarmed; the entry waits for the others, and while a bridge is in Capo. -/
def standbyDisarm (s : State) : State :=
  let s := forEach ((activeMachines s).filter (readyToRest s))
    (fun m s => toIdle m (endMachineTag m RS_BRIDGE_STATE s)) s
  let turning := (activeMachines s).any (fun m => !belowFwSpeed s m)
  if anyActive s (List.range 8) || s.bridges.any (fun b => b.mode == .capoLow || b.mode == .capoHigh) then setSby 2 turning s
  else setSby 3 false (forEach (List.range 4) (commandCtd false) s)

/-- Step 3: the contactors are open, their feedback checked. -/
def standbyContactors (s : State) : State :=
  if monUp s && s.ctds.any (fun c => c.checking) then s
  else
    let gs := [0, 1].filter (fun g => domOn s 3 && lgPar s g 0xD == 1 && (dischargeRefusal s g).isNone)
    setSby 4 false (forEach gs (fun g => beginDischarge g none) s)

/-- Step 4: the discharges have ended; steps 5 and 6 follow. -/
def standbySleep (s : State) : State :=
  if s.lgs.any (fun g => g.dis.isSome) then s
  else match s.pwr.sby with
    | some e => powerDown e.listening s
    | none => s

/-- The step that an entry to STANDBY has reached. -/
def sbyStep (s : State) : Nat :=
  match s.pwr.sby with
  | some e => e.step
  | none => 0

/-- The entry to STANDBY goes on as far as it can, in a halted start-up too (R428). -/
def standbyAdvance (s : State) : State :=
  if !isUp s && !startHalted s then s
  else
    let s := if sbyStep s = 2 then standbyDisarm s else s
    let s := if sbyStep s = 3 then standbyContactors s else s
    if sbyStep s = 4 then standbySleep s else s

/-- An entry to STANDBY from a halted start-up, in which no machine is active: it begins with the contactors (R423, R428). -/
def standbyHalted (listening : Bool) (s : State) : State :=
  if entering s then s
  else standbyAdvance (forEach (List.range 4) (commandCtd false) { s with pwr := { s.pwr with sby := some ⟨3, listening, false⟩, sbyPending := false } })

/-- A rising edge abandons an entry (R423), or drops one pending in start-up (R102): bridges stay as they are. -/
def abandonStandby (s : State) : State :=
  let s := if entering s then
      { s with machs := s.machs.map (fun (x : Mach) => { x with ramp := if x.ramp = .standby then .none else x.ramp }) }
    else s
  { s with pwr := { s.pwr with sby := none, sbyPending := false } }

/-! ### KL15 and KEEP (R63, R64, R102) -/

/-- R63: a rising edge of KL15 wakes from STANDBY, and abandons an entry. -/
def kl15Edge (s : State) : State :=
  let s := returnD5 { s with pins := { s.pins with kl15 := true } }
  match s.dev.ph with
  | .off => s
  | .standby => if s.pwr.kl30Lost then s else enterBoot (if s.dev.fromOff then .powerUpKl15 else .kl15) s
  | .boot => abandonStandby s
  | .calibrating => abandonStandby s
  | .up => abandonStandby s
  | .frozen => s

def execKl15Rise (s : State) : Out := .next (kl15Edge s)

/-- R64: a high level restarts the count; a rising edge also acts as one. KEEP never wakes the module. -/
def execKl15KeepHigh (pin : WakePin) (edge : Bool) (s : State) : Out :=
  match pin with
  | .kl15 => .next (if edge then kl15Edge s else { s with pins := { s.pins with kl15 := true } })
  | .keep =>
    let s := { s with pins := { s.pins with keep := true } }
    .next (if edge && (isUp s || s.dev.ph == .boot || s.dev.ph == .calibrating) then abandonStandby s else s)

/-- R64: both pins have been low for 16,384 D0 ticks. During start-up the entry is pending (R102); in a start-up halted under
R428 it begins. -/
def execKl15KeepLowCount (ticks : Nat) (s : State) : Out :=
  let s := { s with pins := { s.pins with kl15 := false, keep := false } }
  if ticks < 16384 then .next s
  else match s.dev.ph with
    | .up => .next (standbyAdvance (standbyBegin s.pwr.depthNext s))
    | .boot =>
      if s.safety.held then .next s
      else .next (if s.dev.halted.isSome then standbyHalted s.pwr.depthNext s else { s with pwr := { s.pwr with sbyPending := true } })
    | .calibrating =>
      .next (if s.dev.halted.isSome then standbyHalted s.pwr.depthNext s else { s with pwr := { s.pwr with sbyPending := true } })
    | .off => .next s
    | .standby => .next s
    | .frozen => .next s

/-- R424: every machine that held the entry is below P_FW_SPEED. -/
def execStandbyEntryResume (s : State) : Out := .next (standbyAdvance s)

/-- R424: for every P_SBY_WAIT of the wait, F-0813 with the machines. -/
def execStandbyWaitReport (seconds : Nat) (s : State) : Out :=
  let ms := (activeMachines s).filter (fun m => !belowFwSpeed s m)
  if mainUp s && sbyStep s == 2 && decide (parN s 0xB003 ≤ seconds) && !ms.isEmpty then
    .next (note 0x0813 (srcDom 2) [BitVec.ofNat 8 ((ms.map (fun m => 2 ^ m)).foldl (· + ·) 0)] s)
  else .next s

/-- R422: STANDBY_ENTER; with timing "now" the reply precedes the entry. -/
def opStandbyEnter (t : Nat) (depth timing canWake : Byte) (s : State) : State :=
  let wake := fun (s : State) => { s with pwr := { s.pwr with canWake := BitVec.ofNat 2 canWake.toNat } }
  if 1 < depth.toNat ∨ 1 < timing.toNat ∨ 2 < canWake.toNat then refuse t ST_BAD_PARAM RS_NONE 0xFF 0 s
  else if timing = 1 then
    finish t ST_OK [] (wake { s with pwr := { s.pwr with depthNext := depth == 1 } })
  else if anyActive s (List.range 8) then refuse t ST_WRONG_STATE RS_BRIDGE_STATE 0xFF 0 s
  else if s.pins.kl15 || s.pins.keep then refuse t ST_WRONG_STATE RS_DEVICE_STATE 0xFF 0 s
  else standbyAdvance (standbyBegin (depth == 1) (wake (finish t ST_OK [] s)))

/-! ### Wake sources (R425, R509) -/

/-- R425: the RTC equals its armed alarm. -/
def execRtcAlarm (s : State) : Out :=
  if s.dev.ph == .standby && !s.pwr.kl30Lost && s.pwr.rtcArmed && s.time.rtc == s.pwr.alarm then .next (enterBoot .rtc s) else .next s

/-- R509: what CANF0 sees in listening standby. -/
def execCanWake (ev : CanWakeEv) (s : State) : Out :=
  if s.dev.ph == .standby && s.pwr.listening && !s.pwr.kl30Lost && canWakes s s.pwr.wuf ev then .next (enterBoot .can s)
  else if canWakes s s.pwr.wuf ev then .next (returnD5 s) else .next s

/-- R425: RTC_SET; an entry to BOOT that a RESET has ordered stays as far off as it was. -/
def opRtcSet (t : Nat) (count : BitVec 48) (s : State) : State :=
  let left := fun (n : Nat) => n - s.time.rtc.toNat
  finish t ST_OK [] { s with
    time := { s.time with rtc := count }
    dev := { s.dev with resetAt := s.dev.resetAt.map (fun n => (count.toNat + left n) % 2 ^ 48) } }

/-- R425: ALARM_SET. -/
def opAlarmSet (t : Nat) (alarm : BitVec 48) (armed : Byte) (s : State) : State :=
  if 1 < armed.toNat then refuse t ST_BAD_PARAM RS_NONE 0xFF 0 s
  else if alarm.toNat ≤ s.time.rtc.toNat + 2 then refuse t ST_OUT_OF_RANGE RS_NONE 0xFF 0 s
  else finish t ST_OK [] { s with pwr := { s.pwr with alarm := alarm, rtcArmed := armed == 1 } }

/-! ### KL30 (R586 to R590) -/

/-- R587: KL30 below 12.0 V for 50 us: the write buffer goes to MRAM. -/
def execKl30Loss (mv us : Nat) (s : State) : Out :=
  if s.pins.kl30 && !s.pwr.kl30Lost && decide (mv < 12000) && decide (50 ≤ us) then
    let s := { s with pwr := { s.pwr with kl30Lost := true, kl30Conf := false } }
    .next (if isFrozen s then s else flushBuffer s)
  else .next s

/-- R587: 328 D0 ticks without return: F-0810, every contactor off, and the orderly power-down. -/
def execKl30LossConfirmed (ticks : Nat) (s : State) : Out :=
  if s.pwr.kl30Lost && !s.pwr.kl30Conf && decide (328 ≤ ticks) then
    let s := { s with pwr := { s.pwr with kl30Conf := true } }
    if isFrozen s then .next s
    else
    let s := if isUp s then raiseFault 0x0810 0 (srcDom 3) .device [] (forEach (List.range 4) (commandCtd false) s)
      else { s with ctds := s.ctds.map (fun (c : Contactor) => { c with closed := false }) }
    .next (powerDown false s)
  else .next s

/-- R587, R588: KL30 above 13.0 V for 1 ms: a dip bridged, or, after the confirmation, an entry to BOOT. -/
def execKl30Return (mv us : Nat) (s : State) : Out :=
  if s.pwr.kl30Lost && decide (13000 < mv) && decide (1000 ≤ us) then
    let conf := s.pwr.kl30Conf
    let s := { s with pwr := { s.pwr with kl30Lost := false, kl30Conf := false } }
    if conf && !isFrozen s then .next (enterBoot .kl30Return s)
    else if isUp s then .next (note 0x0811 (srcDom 0) [] s)
    else .next s
  else .next s

/-- The module is OFF: what no supply holds is at its power-up state; MRAM, fuses and the saved lock-outs stay. -/
def goOff (s : State) : State :=
  { s with
    pins := { s.pins with kl30 := false }
    dev := { s.dev with ph := .off, fromOff := true, bootCause := none, resetAt := none }
    time := { s.time with running := false, rtc := 0, rtcAtHold := 0, d0Phase := 0 }
    clk := Clk.reset
    pwr := { Pwr.reset with
      doms := s.pwr.doms.mapIdx (fun n _ => if n = 0 then { Dom.reset with req := .on, st := .on } else Dom.reset)
      saved := s.pwr.saved ++ s.safety.locks }
    recd := { s.recd with buf := [], snapValid := false, snapImage := [], snapEvents := [], snapPending := false, freezeMask := 0 }
    ctds := s.ctds.map (fun _ => Contactor.reset) }

/-- R587: the hold-up ends 20 ms after the loss. -/
def execHoldupEnd (us : Nat) (s : State) : Out :=
  if s.pwr.kl30Lost && decide (20000 ≤ us) then
    .next (goOff (if s.dev.ph == .standby || isFrozen s then s else powerDown false s))
  else .next s

/-- R586: KL30 outside its range but not lost, for 328 D0 ticks. -/
def execKl30OutOfRange (mv ticks : Nat) (s : State) : Out :=
  let out : Bool := decide (12000 ≤ mv ∧ mv < 16000) || decide (32000 < mv ∧ mv ≤ 58000)
  if isUp s && !s.pwr.kl30Lost && out && decide (328 ≤ ticks) then .next (note 0x0812 (srcDom 0) [] s) else .next s

/-- R589, R590: KL30 is applied to a module in OFF. -/
def execKl30Apply (kl15High : Bool) (s : State) : Out :=
  if s.dev.ph == .off then
    let s := { s with
      pins := { s.pins with kl30 := true, kl15 := kl15High }
      dev := { s.dev with ph := .standby, fromOff := true }
      time := { s.time with rtc := 0, rtcAtHold := 0, d0Phase := 0 }
      pwr := { s.pwr with rtcArmed := false, alarm := 0, listening := false } }
    .next (if kl15High then enterBoot .powerUpKl15 s else s)
  else .next s

/-! ### The rows -/

/-- R422. -/
def execStandbyEnter (h : Hdr) (depth timing canWake : Byte) (s : State) : Out :=
  .next (serve h 0x0A02 [depth, timing, canWake] false (fun t s => opStandbyEnter t depth timing canWake s) s)
/-- R425. -/
def execRtcSet (h : Hdr) (count : BitVec 48) (s : State) : Out :=
  .next (serve h 0x0A03 (beBytes 6 count.toNat) false (fun t s => opRtcSet t count s) s)
/-- R425. -/
def execAlarmSet (h : Hdr) (alarm : BitVec 48) (armed : Byte) (s : State) : Out :=
  .next (serve h 0x0A04 (beBytes 6 alarm.toNat ++ [armed]) false (fun t s => opAlarmSet t alarm armed s) s)

end Sys2Proof.Machine
end

