-- ==== Sys2Proof/Machine/Startup.lean ====
section
/-! DEFINITION. The start-up sequence (R77 to R81, R96 to R130, R397, R428, R606): BOOT_ENTRY runs its nine steps as one command,
on what they measure. -/

namespace Sys2Proof.Machine

/-! ### Step 1: time, straps, clocks, domains -/

/-- ESN and device time at an entry to BOOT (R39 to R42): from OFF the allocator skips 0x1_0000 and device time starts at 0; from
STANDBY device time is extrapolated from the RTC. -/
def bootTime (s : State) : State :=
  let t := s.time
  if s.dev.fromOff then
    { s with time := { t with dev := 0, running := true, esn := match s.recd.newest with
      | some e => e + 0x10000
      | none => 0 } }
  else { s with time := { t with dev := t.dev + (t.rtc - t.rtcAtHold).toNat * 390625 / 32, running := true } }

/-- A strap's four samples: its value, 1 where they disagree (R78). -/
def strapValue (samples : List Bool) : Bool := samples.any id
def strapUnstable (samples : List Bool) : Bool := samples.any id && !samples.all id

/-- Sample column `i` of the straps CORE_MODE, BOOT_SEL, CASC_ID1, CASC_ID0. -/
def strapColumn (o : BootObs) (i : Nat) : List Bool := o.straps.map (fun l => l.getD i true)

/-- The straps are read (R77, R78): F-0820 for each unstable one. -/
def bootStraps (o : BootObs) (s : State) : State :=
  let v := fun (i : Nat) => strapValue (strapColumn o i)
  let s := { s with dev := { s.dev with coreStrap := v 0, bootStrap := v 1, casc1 := v 2, casc0 := v 3 } }
  forEach ((List.range 4).filter (fun i => strapUnstable (strapColumn o i))) (fun i s => note 0x0820 (srcDom 0) [ixByte i] s) s

/-- WAKE_CAUSE of an entry (Table 12.13, R590). -/
def causeBits (fromOff : Bool) (c : BootCause) : BitVec 5 :=
  (if fromOff then 16 else 0) ||| (match c with
    | .kl15 => 2
    | .powerUpKl15 => 2
    | .rtc => 1
    | .can => 4
    | .reset => 8
    | .restart => 0
    | .kl30Return => 0)

/-- The units that start from their reset state at every entry to BOOT; what MRAM and D0 hold stays. -/
def bootUnits (s : State) : State :=
  { s with
    bankA := SnsBank.reset
    bankB := SnsBank.reset
    lgs := s.lgs.map (fun _ => LinkGroup.reset)
    pos := s.pos.map (fun (x : PosIf) => { PosIf.reset with retired := x.retired })
    pouts := s.pouts.map (fun _ => Pout.reset)
    cmps := s.cmps.map (fun _ => CmpUnit.reset)
    temps := s.temps.map (fun (x : Sensor) => { Sensor.reset with offset := x.offset })
    net := freshNet s
    proto := { Proto.reset with ctx := s.proto.ctx.map (fun _ => Ctx.reset), sess := s.proto.sess.map (fun _ => none), opened := s.proto.opened }
    safety := { Safety.reset with locks := s.pwr.saved ++ s.safety.locks, demA := s.safety.demA, demB := s.safety.demB,
                                  stoEsn := s.safety.stoEsn, supBad := s.safety.supBad }
    recd := { s.recd with rate := [], sampleEn := true, postHold := false, postEnd := none, esnL34 := 0, sdrop := 0, evovw := 0, entOvw := 0,
                          watcher := List.replicate 8 false, kl05 := false, freezePin := false, freezeOpcode := false }
    dev := { s.dev with reasons := [], commanded := false, recovery := false, monRuns := false, oldThermal := none, startPegs := [], compAt := none, compTold := false, compLate := false, severe := false,
                        supplyA := false, supplyB := false, driftA := false, driftB := false, halted := none }
    pwr := { s.pwr with saved := [], d5Hold := none, capped := false, overrun := false, busyMain := false, busyMon := false,
                        monCur := 0, monReq := 0, waitMain := none, waitMon := none } }

/-- An attempt to switch domain `n` on meets its deadlines (R426): regulation within 66 D0 ticks of its request, and for D1 to D5 XO25
ready within 198. The attempts begin 328 ticks apart (R427). -/
def attemptMeets (o : BootObs) (n k : Nat) : Bool :=
  (match (o.regAt.getD n [])[k]? with
    | some t => decide (t ≤ 66)
    | none => false) &&
  (!decide (1 ≤ n ∧ n ≤ 5) || (match o.xo25At with
    | some t => decide (t ≤ 328 * k + 198)
    | none => false))

/-- The retries that a domain takes, 4 where the first attempt and all three retries fail (R427). -/
def bootTries (o : BootObs) (n : Nat) : Nat := ((List.range 4).find? (attemptMeets o n)).getD 4

/-- A domain does not come up in start-up (R427). -/
def bootFail (o : BootObs) (n : Nat) : Bool := bootTries o n == 4

/-- XO25 is ready within the last deadline of step 1 (R426). -/
def bootXo (o : BootObs) : Bool :=
  match o.xo25At with
  | some t => decide (t ≤ 328 * 3 + 198)
  | none => false

/-- The clocks of step 1: PLLs on XO25 once it is ready, gates open (R398, R408). -/
def bootClocks (o : BootObs) (s : State) : State :=
  { s with clk := { Clk.reset with
    rdy := BitVec.ofNat 5 (0b01010 + bitAt (bootXo o) 0 + bitAt o.xo32kReady 2)
    sel := BitVec.ofNat 7 (0b0010000 + (if bootXo o then 0b0101 else 0) + bitAt o.xo32kReady 6)
    lock := if bootXo o then 0b111 else 0b011
    switching := if bootXo o then [.sys, .pwm] else []
    gate := 0xFFFF1FFF } }


/-- F-0803 of a domain in start-up, held in D0 where D4 does not come on (R427). -/
def noteBoot (o : BootObs) (n : Nat) (s : State) : State :=
  if bootFail o 4 then { s with pwr := { s.pwr with held := s.pwr.held ++ [(n, s.time.dev)] } } else note 0x0803 (srcDom n) [] s

/-- Domains that start-up turns on (R25, R414): on, or failed with F-0803; D1 to D7 first, the FE domains with the verified
set. -/
def bootDomains (o : BootObs) (ns : List Nat) (s : State) : State :=
  forEach ns (fun n s =>
    if decide (n < 8) || feNeeded s (n - 8) then
      if bootFail o n then
        noteBoot o n (modDom n (fun _ => { Dom.reset with req := .on, wakeFail := true, tries := 3 }) s)
      else modDom n (fun d => { Dom.reset with req := .on, st := .on, saved := decide (n = 4) && d.saved && !s.dev.fromOff, tries := bootTries o n }) s
    else modDom n (fun _ => Dom.reset) s) s

/-- The step at which the sequence halts: the first that needs a failed domain, or the crystal (R428). -/
def haltStep (o : BootObs) (s : State) : Option Nat :=
  if !bootXo o then some 1
  else if bootFail o 1 || bootFail o 4 then some 2
  else if bootFail o 5 then some 3
  else if bootFail o 3 then some 5
  else if bootFail o 6 || bootFail o 7 then some 6
  else if bootFail o 2 || (List.range 8).any (fun b => feNeeded s b && bootFail o (8 + b)) then some 7
  else none

/-! ### Step 2: verification (R105 to R109, R541 to R543) -/

/-- A slot of a class at boot: only ACTIVE and PENDING slots are tried (R548). A PSET's content is judged too (R105). -/
def bootVerdict (c : ImgClass) (sl : Slot) (s : State) : Verdict :=
  if sl.st == .active || sl.st == .pending then
    match verifySlot s c sl with
    | .good => if c = .pset then (match psetContent sl.body s with
        | .ok _ => .good
        | .error _ => .bad) else .good
    | v => v
  else .bad

/-- A slot of a class. -/
def classSlot (s : State) (c : ImgClass) (b : Bool) : Slot := if b then (slotsAt s c).b else (slotsAt s c).a

/-- The state of a slot of a class. -/
def setSlotSt (c : ImgClass) (b : Bool) (st : SlotState) : State → State :=
  modSlots c (fun k => if b then { k with b := { k.b with st := st } } else { k with a := { k.a with st := st } })

/-- One slot is tried: whether it verifies, and the state with F-0A01 or F-0A02 where it does not (R106, Table 16.4). -/
def trySlot (c : ImgClass) (b : Bool) (s : State) : Bool × State :=
  let sl := classSlot s c b
  match bootVerdict c sl s with
  | .good => (true, if sl.st == .pending then setSlotSt c b .active s else s)
  | v =>
    let s := note (if v = .rollbackOnly then 0x0A02 else 0x0A01) (srcDom 1) (beBytes 2 (classCode c).toNat ++ [flagByte b]) s
    (false, if sl.st == .pending then setSlotSt c b .invalid s else s)

/-- The slot of a class that the run uses: first the one BOOT_SEL selects (R80, R106). -/
def pickSlot (c : ImgClass) (s : State) : State :=
  let marked := (slotsAt s c).markB
  let first := if s.dev.bootStrap then marked else !marked
  let put := fun (x : Option Bool) => modSlots c (fun k => { k with inB := x })
  let x := trySlot c first s
  if x.1 then put (some first) x.2
  else
    let y := trySlot c (!first) x.2
    put (if y.1 then some (!first) else none) y.2

/-- Some slot of a class verified. -/
def gotClass (s : State) (c : ImgClass) : Bool := (slotsAt s c).inB.isSome

/-- The PSET: the set in force, the core mode, P_CSIGN_REQ, and REFIN's qualification (R46, R47, R109, R397, R563). -/
def bootPset (s : State) : State :=
  let s := pickSlot .pset s
  let before := s
  match (inForce s .pset).bind (fun sl => parsePset sl.body) with
  | some p =>
    let s := relearn before { s with store := { s.store with act := p, psetOk := true } }
    { s with store := { s.store with csign := parN s 0x1001 },
             clk := { s.clk with refq := BitVec.ofNat 16 (parN s 0xB000), refqWritten := true } }
  | none => note 0x0A03 (srcDom 1) [] (relearn before { s with store := { s.store with act := PSet.factory, psetOk := false, csign := 0 } })

/-- Split mode needs the strap and P_CORE_MODE; F-0611 where they disagree (R46, R47). -/
def bootMode (s : State) : State :=
  let want := par s 0x1000 == 1
  let strap := !s.dev.coreStrap
  let s := { s with dev := { s.dev with split := want && strap } }
  if want = strap then s else note 0x0611 (srcDom 2) [] s

/-- The images and the CSET (R106, R107, R109). -/
def bootImages (s : State) : State :=
  let s := pickSlot .cset (pickSlot .ctab (pickSlot .isl (pickSlot .fe (pickSlot .mon (pickSlot .main s)))))
  let s := match inForce s .cset with
    | some sl => { s with store := { s.store with csetOk := true, owner := csetPegs sl.body } }
    | none => note 0x0A04 (srcDom 1) [] { s with store := { s.store with csetOk := false, owner := [] } }
  let bad := [ImgClass.main, .mon, .fe, .isl].any (fun c => !gotClass s c)
  { s with
    dev := { s.dev with recovery := !gotClass s .main, monRuns := gotClass s .mon,
                        reasons := s.dev.reasons ++ (if bad then [.noImage] else []) }
    clk := { s.clk with locked := true } }

/-- The regenerative bound stays 0 under a lock-out of regeneration that outlives the entry to BOOT (R369). -/
def keepRegenZero (s : State) : State :=
  { s with machs := s.machs.mapIdx (fun m (x : Mach) => if regenLocked s (machLg s m) then { x with regenF := 0 } else x) }

def bootVerify (s : State) : State := copyToMonitor (keepRegenZero (bootImages (bootMode (bootPset s))))

/-- REFIN of a slave once it is ready (R398). -/
def bootRefin (o : BootObs) (s : State) : State :=
  if o.refinReady && s.clk.refqWritten then
    let s := { s with clk := { s.clk with rdy := s.clk.rdy ||| 0b10000 } }
    if isSlave s then restorePll .net (restorePll .pwm s) else s
  else s

/-! ### Steps 3 to 8 -/

/-- Step 3: versions and device step against the table (R111 to R113). -/
def bootCompat (s : State) : State :=
  let add := fun (r : StartReason) (s : State) => { s with dev := { s.dev with reasons := s.dev.reasons ++ [r] } }
  match tableInForce s with
  | none => add .noCtab (note 0x0A12 (srcDom 1) [] s)
  | some es =>
    if es.any (fun e => entryMatches e (versionOf s .main) (versionOf s .mon) (versionOf s .fe) (versionOf s .isl)) then s
    else add .untestedSet (note 0x0A10 (srcDom 1) [] s)

/-- A snapshot event as an entry of the event ring (R577): its level, kind and occurrence count, which the image does not hold,
are free values (log entry 3). -/
def snapEntry (i : Nat) (e : Entry) : Entry :=
  { e with level := (Config.freeWord i).toNat % 5, kind := (Config.freeWord (i + 1)).toNat % 5,
           count := (Config.freeWord (i + 2)).toNat % 65536, data := entryData (e.data.take 16) }

/-- The snapshot's events that the event ring does not hold come into it (R577). -/
def mergeEvents (s : State) : State :=
  let new := s.recd.snapEvents.filter (fun e => !s.recd.events.any (fun x => x.esn == e.esn))
  let f := s.time.free
  let r := ringAppend 524288 s.recd.events (new.mapIdx (fun i e => snapEntry (f + 3 * i) e))
  { s with
    time := { s.time with free := f + 3 * new.length }
    recd := { s.recd with events := r.1, evovw := s.recd.evovw + BitVec.ofNat 32 r.2, snapPending := false,
                          entOvw := s.recd.entOvw + BitVec.ofNat 32 r.2,
                          newest := match new.getLast? with
                            | some e => some e.esn
                            | none => s.recd.newest } }

/-- An entry for a marked kind of the freeze event mask (R569); its code is not stated (log entry 3). -/
def noteMask (k : Nat) (s : State) : State :=
  let d := drawFree s
  (recordAt s.time.dev ((Config.freeWord d.1).toNat % 65536) 0 0 (srcDom 0) 1 [ixByte k] d.2).2

/-- Step 4 after a freeze: the snapshot's events, then the kinds of the freeze event mask, which is cleared. -/
def mergeSnapshot (s : State) : State :=
  if !s.recd.snapPending then s
  else
    let s := forEach ((List.range 6).filter (hasBit s.recd.freezeMask.toNat)) noteMask (mergeEvents s)
    { s with recd := { s.recd with freezeMask := 0 } }

/-- Step 4: the SRAM self-test (R117, R118), every word with a correctable fault recorded at L0, and what a freeze left (R569). -/
def bootSram (o : BootObs) (s : State) : State :=
  let s := mergeSnapshot s
  let perMib := fun (k : Nat) => (o.sramCorrectable.filter (fun a => a / 1048576 == k)).length
  let bad := o.sramUncorrectable || (List.range 5).any (fun k => decide (16 < perMib k))
  let s := { s with safety := { s.safety with sramBad := bad } }
  let s := forEach o.sramCorrectable (fun a s => (recordEvent 0x0830 0 (srcDom 4) (beBytes 4 a) s).2) s
  if bad then raiseFault 0x0830 0 (srcDom 4) .device [] s else s

/-- Step 5: the injection test (R119, R120) and the die's override path (R368). -/
def bootInjection (o : BootObs) (s : State) : State :=
  let bad := !(injPasses o.injMon o.injMonClean) || (!s.dev.split && !(injPasses o.injMain o.injMainClean))
  let next := s.time.dev + 40000000
  let s := { s with safety := { s.safety with
    injBad := bad, diePathBad := !o.dieOverrideOk, main := { s.safety.main with injAt := next }, mon := { s.safety.mon with injAt := next } } }
  let s := if bad then raiseFault 0x0605 0 (srcDom 3) .device [] s else s
  if o.dieOverrideOk then s else raiseFault 0x0644 0 (srcDom 3) .device [] s

/-- A bank's reference fails (R125), differences in 0.001 %. -/
def refFails (mine other : Int) : Bool := decide (150 < |mine|) && (decide (200 < |mine - other|) || decide (150 < |other|))

/-- The references disagree (R125): by more than 0.2 % with each other, or both by more than 0.15 % with the bandgap. -/
def refsDisagree (a b : Int) : Bool := decide (200 < |a - b|) || (decide (150 < |a|) && decide (150 < |b|))

/-- Step 6: the converters and the references of both banks (R124 to R126). F-0322 is recorded once, from bank A unless
bank B alone fails, with a bit for each bank that fails (DESIGN CHOICE: the spec gives neither its source nor its data; log entry 51). -/
def bootBanks (o : BootObs) (s : State) : State :=
  let failA := refFails o.refA o.refB
  let failB := refFails o.refB o.refA
  let s := forEach (List.range 8) (fun b s =>
    let a := measuredCorr .a b (o.calA.getD b default) (o.dieTemps.getD 12 0)
    let x := measuredCorr .b b (o.calB.getD b default) (o.dieTemps.getD 15 0)
    let s := modBridge b (fun br => { br with calFailA := !(corrPasses .a b a) || failA, calFailB := !(corrPasses .b b x) || failB,
                                              corrA := a, corrB := x }) s
    let s := if corrPasses .a b a then s else note 0x0320 (srcBridge b) [] s
    if corrPasses .b b x then s else note 0x0321 (srcBridge b) [] s) s
  if refsDisagree o.refA o.refB then
    note 0x0322 (srcBank (if failA || !failB then .a else .b)) [BitVec.ofNat 8 (bitAt failA 0 + bitAt failB 1)] s
  else s

/-- One island's handshake and calibration (R127, R128): F-0120, F-0121, or absent without bias (R27). -/
def takeHandshake (o : IslandObs) (c : Nat) (s : State) : State :=
  let up := o.bias && o.answers
  let s := modChan c (fun x => { x with
    present := o.bias, powered := o.bias, couplerLost := false, handFail := o.bias && (!o.answers || !islandPasses c o.cal), missed := if up then 0 else 3, parked := false
    step := if up then o.step else 0, linkDly := if up then o.linkDly else 0, cal := if up then o.cal else x.cal,
    vbs := o.vbsMv, vbp := o.vbpMv, uvloOk := decide (13000 < o.vbpMv), operating := chanHigh c && decide (16500 ≤ o.vbsMv) }) s
  if !o.bias then s
  else if !o.answers then note 0x0120 (srcChan c) [] s
  else if !islandPasses c o.cal then note 0x0121 (srcChan c) [] s
  else s

/-- No island: bias and answer absent. -/
def IslandObs.none : IslandObs := ⟨false, false, ⟨0, 0, 0, 0⟩, 0, 0, 0, 0⟩

/-- An island is handshaken (R93, R415): its link is fed, its bridge belongs to a machine; the auxiliary islands of an empty LG1 are
unused. -/
def islandUsed (s : State) (c : Nat) : Bool :=
  match servedBridge s c with
  | some b => (bridgeMach s b).isSome && domOn s (8 + b) && domOn s (8 + c / 6)
  | none => !(lgBridges s (auxLg (c - 48))).isEmpty

/-- Step 7: every island whose link is fed and used, then the island steps against the table (R111, R112). -/
def bootIslands (o : BootObs) (s : State) : State :=
  let s := forEach islandOrder (fun c s =>
    takeHandshake (if islandUsed s c then o.islands.getD c IslandObs.none else IslandObs.none) c s) s
  let known := (tableInForce s).isSome && !s.dev.reasons.contains .untestedSet
  if known && !setTested s (versionOf s .main) (versionOf s .mon) (versionOf s .fe) (versionOf s .isl) then
    note 0x0A11 (srcDom 2) [] { s with dev := { s.dev with reasons := s.dev.reasons ++ [.islandStep] } }
  else s

/-- What this start-up measures for a start-up record whose data layout the spec does not give (log entry 3). -/
def measurePeg (s : State) : State :=
  let (i, s) := drawFree s
  { s with dev := { s.dev with startPegs := s.dev.startPegs ++ [Config.freeBytes i] } }

/-- Such a record. -/
def startupPeg (o : BootObs) (kind inst k : Nat) (s : State) : State :=
  (writeStartup (BitVec.ofNat 16 kind) (BitVec.ofNat 16 inst) (o.dieTemps.getD 0 0) (s.dev.startPegs.getD k []) s).2

/-- The start-up record of island `c` of a kind (Table 3.9). -/
def startupIsland (o : BootObs) (kind c : Nat) (s : State) : State :=
  (writeStartup (BitVec.ofNat 16 kind) (BitVec.ofNat 16 c) (o.dieTemps.getD 0 0) (islandData s kind c) s).2

/-- The start-up record of converter `b` of a bank (Table 3.9). -/
def startupCorr (k : Bank) (b : Nat) (s : State) : State :=
  let c := corrOf s k b
  (writeStartup 0x0001 (BitVec.ofNat 16 (convInst k b)) c.temp (corrBytes c) s).2

/-- Step 8: the first compensation (R129), and the start-up records written after it (R122, Table 3.9). -/
def bootCompensate (o : BootObs) (s : State) : State :=
  let die := fun (i : Nat) => o.dieTemps.getD i 0
  let s := forEach (List.range 16) (fun i => modTemp i (fun x => { x with reading := die i, value := die i, read := true })) s
  let s := compensate (measurePeg (measurePeg (measurePeg s)))
  let s := forEach (List.range 8) (startupCorr .b) (forEach (List.range 8) (startupCorr .a) s)
  let isl := (List.range 52).filter (fun c => (chanAt s c).step != 0)
  let s := forEach isl (fun c s => startupIsland o 3 c (startupIsland o 2 c s)) s
  startupPeg o 7 1 2 (startupPeg o 7 0 1 (startupPeg o 6 0 0 s))

/-! ### Step 9 (R115, R130, R606) -/

/-- The bridges of a module that is up: IDLE, DISABLED or RETIRED, with their selector inputs and FE image. -/
def bootBridges (s : State) : State :=
  { s with bridges := s.bridges.mapIdx (fun b (br : Bridge) => { br with
      st := if !s.store.psetOk && br.retiredLeg.isNone then .disabled else idleState s b br,
      feVersion := versionOf s .fe,
      pmsm := match bridgeMach s b with
        | some m => isPmsm s m
        | none => false }) }

/-- Fuse counters follow images that have run without fault to step 9 (R544). -/
def bootFuses (s : State) : State :=
  if s.safety.sramBad || s.safety.injBad then s
  else [ImgClass.main, .mon, .fe, .isl, .ctab].foldl (fun s c => raiseFuse c s) s
where
  /-- The counter of a class is raised to the rollback value of its image in force, with F-0A24. -/
  raiseFuse (c : ImgClass) (s : State) : State :=
    match inForce s c with
    | some sl =>
      if fuseOf s c < sl.man.rollback.toNat then
        note 0x0A24 (srcDom 1) (beBytes 2 (classCode c).toNat ++ [sl.man.rollback])
          { s with store := { s.store with fuses := s.store.fuses.set (classIx c) sl.man.rollback.toNat } }
      else s
    | none => s

/-- Code of a service reason (Table 3.6). -/
def reasonCode : StartReason → Byte
  | .untestedSet => 0x01
  | .islandStep => 0x02
  | .noCtab => 0x03
  | .noImage => 0x05

/-- Every service reason is recorded with its own ESN (R115). -/
def noteReason (s : State) (r : StartReason) : State := noteService (reasonCode r) s

/-- Step 9: the device state is decided, contactors without a monitor image go off, operating points and networks start. -/
def bootFinish (s : State) : State :=
  let s := s.dev.reasons.foldl noteReason (bootFuses s)
  let s := bootBridges { s with dev := { s.dev with ph := .up, step := 9, ready9 := serviceReason s == 0, fromOff := false } }
  let s := if s.dev.monRuns then s else { s with ctds := s.ctds.map (fun (c : Contactor) => { c with closed := false, econ := false }) }
  let p := parN s 0xB001
  let s := { s with
    pwr := { s.pwr with mainReq := p, mainCur := p, tgtMain := p }
    machs := s.machs.mapIdx (fun m (x : Mach) => { x with mapPending := machExists s m && mPar s m 0x2B == 1 }) }
  let s := forEach (List.range 8) initPos (newTrend s)
  if s.pwr.sbyPending then standbyAdvance (standbyBegin s.pwr.depthNext s) else s

/-- The sequence halts at a step (R428). -/
def haltAt (n : Nat) (s : State) : State :=
  let dead := !domOn s 3 || !domOn s 6 || !domOn s 7
  let s := { s with
    dev := { s.dev with ph := if n < 4 then .boot else .calibrating, step := n, halted := some n, fromOff := false }
    bridges := s.bridges.mapIdx (fun b (br : Bridge) =>
      let st := idleState s b br
      { br with st := if dead && st == BridgeState.idle then BridgeState.safe else st }) }
  if s.pwr.sbyPending then standbyHalted s.pwr.depthNext s else s

/-- A step of the sequence runs where the sequence does not halt before it. -/
def bootStep (o : BootObs) (n : Nat) (f : State → State) (s : State) : State :=
  if n < (haltStep o s).getD 10 then f s else s

/-- The network is first served from the end of step 3 on (R101, R502, R532). -/
def bootNetwork (s : State) : State := startCan { s with net := { s.net with timeSince := s.time.dev, lastTime := s.time.dev } }

/-- Steps 2 to 8, as far as the sequence runs. -/
def bootTests (o : BootObs) (s : State) : State :=
  let s := bootStep o 2 (fun s => bootDomains o (List.range' 8 8) (bootRefin o (bootVerify s))) s
  let s := bootStep o 4 (fun s => bootSram o (writeHeldWakes (bootNetwork s))) (bootStep o 3 bootCompat s)
  let s := bootStep o 6 (bootBanks o) (bootStep o 5 (bootInjection o) s)
  bootStep o 8 (bootCompensate o) (bootStep o 7 (bootIslands o) s)

/-- The steps from the verification on, as far as the sequence runs. -/
def bootSteps (o : BootObs) (s : State) : State :=
  match haltStep o s with
  | some n => haltAt n (bootTests o s)
  | none => bootFinish (bootTests o s)

/-- R96: an entry to BOOT runs the sequence of Table 3.1. -/
def execBootEntry (obs : BootObs) (s : State) : Out :=
  if obs.straps.length ≠ 4 ∨ obs.islands.length ≠ 52 ∨ obs.calA.length ≠ 8 ∨ obs.calB.length ≠ 8 ∨
      obs.dieTemps.length ≠ 16 then .fault (.illFormed "BOOT_ENTRY")
  else match s.dev.ph, s.dev.bootCause with
    | .boot, some cause =>
      let bits := causeBits s.dev.fromOff cause
      let s := bootTime (flushBuffer s)
      let s := bootUnits { s with dev := { s.dev with bootCause := none }, pwr := { s.pwr with cause := bits } }
      .next (bootSteps obs (bootDomains obs (List.range' 1 7) (bootClocks obs (bootStraps obs s))))
    | _, _ => .next s

/-- R128: an island's reply has not come within 100 us; the third in a row raises F-0120. -/
def execIslandHandshakeTimeout (ch : ChanIx) (ticks : Nat) (s : State) : Out :=
  let c := ch.val
  if (isUp s || s.dev.ph == .calibrating) && (chanAt s c).present && !(chanAt s c).handFail && decide (40000 ≤ ticks) then
    let n := (chanAt s c).missed + 1
    let s := modChan c (fun x => { x with missed := n, handFail := decide (3 ≤ n) }) s
    let s := forgetUnread s
    if 3 ≤ n then
      let s := note 0x0120 (srcChan c) [] s
      match servedBridge s c with
      | some b => .next (reselect b s)
      | none => .next s
    else .next s
  else .next s

/-- Maximum of a start-up step in us (Table 3.1). -/
def stepMax (n : Nat) : Nat := [0, 10000, 55000, 2000, 30000, 3000, 40000, 70000, 20000, 1000].getD n 0

/-- R99: a step runs past its maximum. -/
def execStartupStepOverrun (step : Fin 10) (us : Nat) (s : State) : Out :=
  if (s.dev.ph == .boot || s.dev.ph == .calibrating || isUp s) && step != 0 && decide (stepMax step < us) then
    .next (note 0x0821 (srcDom 0) [ixByte step] s)
  else .next s

end Sys2Proof.Machine
end

