-- ==== Sys2Proof/Machine/Update.lean ====
section
/-! DEFINITION. Live update (R489, R490, R548 to R555) and the derivation of flux maps (R203). -/

namespace Sys2Proof.Machine

/-! ### UPD_BEGIN, UPD_CHUNK, UPD_VERIFY (R489, R490, R548) -/

/-- A slot of the update in progress. -/
def modUpdSlot (u : Update) (f : Slot → Slot) : State → State :=
  modSlots u.cls (fun k => if u.slotB then { k with b := f k.b } else { k with a := f k.a })

/-- The update ends, its slot INVALID where it was still in the making (Table 16.4). -/
def dropUpdate (s : State) : State :=
  match s.store.upd with
  | some u =>
    let kill := fun (sl : Slot) =>
      if sl.st == SlotState.receiving || sl.st == SlotState.received || sl.st == SlotState.verified then
        { sl with st := SlotState.invalid } else sl
    { modUpdSlot u kill s with store := { (modUpdSlot u kill s).store with upd := none } }
  | none => s

/-- The update belongs to another session than that of context `t` (R489). -/
def updateBusy (t : Nat) (s : State) : Bool :=
  match s.store.upd with
  | some u => u.session != (ctxAt s t).hdr.session
  | none => false

/-- UPD_BEGIN for a class of Table 3.2. -/
def beginUpdate (t : Nat) (c : ImgClass) (total : Nat) (m : Manifest) (s : State) : State :=
  let s := dropUpdate s
  let toB := (slotsAt s c).inB != some true
  let u : Update := ⟨(ctxAt s t).hdr.session, c, toB, total⟩
  let s := modUpdSlot u (fun _ => ⟨if total ≤ 840 then SlotState.received else .receiving, m, []⟩) s
  finish t ST_OK ([flagByte toB, 0, 0, 0] ++ beBytes 2 4000) { s with store := { s.store with upd := some u } }

/-- Another class is being updated (Table 14.2, code 0x16). -/
def otherClass (cls : U16) (s : State) : Bool :=
  match s.store.upd with
  | some u => classCode u.cls != cls
  | none => false

/-- R548: UPD_BEGIN. -/
def opUpdBegin (t : Nat) (cls : U16) (total : U32) (m : Manifest) (s : State) : State :=
  if updateBusy t s || otherClass cls s then refuse t ST_WRONG_STATE RS_UPDATE_BUSY 0xFF 0 s
  else match classOf cls with
    | none => refuse t ST_BAD_PARAM RS_NONE 0xFF 0 s
    | some c =>
      if total.toNat < 840 ∨ 840 + classMax c < total.toNat then refuse t ST_OUT_OF_RANGE RS_NONE 0xFF 0 s
      else beginUpdate t c total.toNat m s

/-- The slot of an update. -/
def updSlot (s : State) (u : Update) : Slot := classSlot s u.cls u.slotB

/-- Bytes received of an update, its manifest's 840 included (R490). -/
def updReceived (s : State) (u : Update) : Nat := 840 + (updSlot s u).body.length

/-- An update opcode, with the update of its own session (R489). -/
def withUpdate (t : Nat) (f : Update → State → State) (s : State) : State :=
  if updateBusy t s then refuse t ST_WRONG_STATE RS_UPDATE_BUSY 0xFF 0 s
  else match s.store.upd with
    | some u => f u s
    | none => refuse t ST_WRONG_STATE RS_NONE 0xFF 0 s

/-- R490: UPD_CHUNK. -/
def opUpdChunk (t : Nat) (offset : U32) (data : List Byte) (s : State) : State :=
  withUpdate t (fun u s =>
    let n := updReceived s u
    if offset.toNat ≠ n ∨ u.total < n + data.length ∨ (updSlot s u).st ≠ .receiving then
      finish t ST_OUT_OF_RANGE (detail RS_NONE 0xFF 0 ++ beBytes 4 n) s
    else
      let n' := n + data.length
      let s := modUpdSlot u (fun sl => { sl with body := sl.body ++ data, st := if n' = u.total then .received else .receiving }) s
      finish t ST_OK (beBytes 4 n') s) s

/-- What UPD_VERIFY finds wrong with a received slot: status and refusal detail (R105, R541 to R543, R485). -/
def verifyRefusal (s : State) (c : ImgClass) (sl : Slot) : Option (U16 × List Byte) :=
  let plain := fun (st : U16) => some (st, detail RS_NONE 0xFF 0)
  if sl.man.bodyLen.toNat ≠ sl.body.length ∨ Config.sha256 sl.body ≠ sl.man.bodyDigest ∨ !signaturesOk s c sl then
    plain ST_NOT_AUTHORISED
  else if sl.man.cls ≠ classCode c ∨ !devStepOk sl.man then plain ST_BAD_PARAM
  else if sl.man.rollback.toNat < fuseOf s c then plain ST_OUT_OF_RANGE
  else if c = .pset then
    match psetContent sl.body s with
    | .error (st, why, ix, id) => some (st, detail why ix id)
    | .ok p => if p.serial.toNat ≤ s.store.act.serial.toNat then plain ST_OUT_OF_RANGE else none
  else none

/-- UPD_VERIFY of an update: a failure makes the slot INVALID and ends the update. -/
def verifyUpdate (t : Nat) (u : Update) (s : State) : State :=
  let fail := fun (st : U16) (data : List Byte) (s : State) =>
    let s := modUpdSlot u (fun sl => { sl with st := .invalid }) s
    finish t st data { s with store := { s.store with upd := none } }
  let sl := updSlot s u
  if sl.st == .verified then refuse t ST_WRONG_STATE RS_NONE 0xFF 0 s
  else
    let s := accept t 2000 s
    if sl.st ≠ .received then fail ST_BAD_LENGTH (detail RS_NONE 0xFF 0) s
    else match verifyRefusal s u.cls sl with
      | some (st, data) => fail st data s
      | none =>
        finish t ST_OK (beBytes 4 sl.man.version.toNat ++ [sl.man.rollback, 0, 0, 0])
          (modUpdSlot u (fun sl => { sl with st := .verified }) s)

def opUpdVerify (t : Nat) (s : State) : State := withUpdate t (verifyUpdate t) s

/-! ### UPD_ACTIVATE (R549, R550) -/

/-- Version in force of a class after an update of class `c` with slot `sl`. -/
def versionAfter (s : State) (c : ImgClass) (sl : Slot) (k : ImgClass) : U32 := if k = c then sl.man.version else versionOf s k

/-- The state as a live activation of a compatibility table would check against it. -/
def withTable (s : State) (c : ImgClass) (b : Bool) : State :=
  if c = .ctab then modSlots .ctab (fun k => { k with inB := some b }) s else s

/-- R549: the set that results is tested, and during an FE or ISL rollout the set before it too. -/
def resultTested (s : State) (c : ImgClass) (b : Bool) : Bool :=
  let v := versionAfter s c (classSlot s c b)
  let s' := withTable s c b
  let now := setTested s' (versionOf s .main) (versionOf s .mon) (versionOf s .fe) (versionOf s .isl)
  setTested s' (v .main) (v .mon) (v .fe) (v .isl) && (if c = .fe ∨ c = .isl then now else true)

/-- A slot goes ACTIVE and marked, and is in force; the other slot is unmarked (Table 16.4). -/
def activateSlot (c : ImgClass) (b : Bool) : State → State :=
  modSlots c (fun k =>
    if b then { k with b := { k.b with st := .active }, markB := true, inB := some true }
    else { k with a := { k.a with st := .active }, markB := false, inB := some false })

/-- F-0A23 for a live activation (R550), and the fuse counter of the class (R544). -/
def noteActivation (c : ImgClass) (s : State) : State :=
  let s := note 0x0A23 (srcDom 1) (beBytes 2 (classCode c).toNat ++ beBytes 4 (versionOf s c).toNat) s
  if classIx c < 5 then bootFuses.raiseFuse c s else s

/-- Every bridge IDLE, DISABLED or RETIRED. -/
def quiet (s : State) : Bool := allQuiet s (List.range 8)

/-- What a live activation of a class does once accepted (Table 16.5). -/
def liveEffect (c : ImgClass) (b : Bool) (s : State) : State :=
  let s := noteActivation c (activateSlot c b s)
  match c with
  | .mon => haltPair .mon { s with safety := { s.safety with monRestart := true }, dev := { s.dev with monRuns := true } }
  | .fe => { s with bridges := s.bridges.map (fun (br : Bridge) => { br with feReload := true }) }
  | .isl => { s with bridges := s.bridges.map (fun (br : Bridge) => { br with islReload := true }) }
  | .cset =>
    let pegs := csetPegs (classSlot s .cset b).body
    copyToMonitor { s with
      store := { s.store with csetOk := true, owner := pegs }
      machs := s.machs.mapIdx (fun m (x : Mach) => { x with saliency := none, mapPending := machExists s m && mPar s m 0x2B == 1 }) }
  | .main => s
  | .ctab => s
  | .pset => s

/-- The condition of Table 16.5 on states: the refusal, or none. -/
def liveRefusal (s : State) (c : ImgClass) (sl : Slot) : Option (U16 × List Byte) :=
  let wrong := some (ST_WRONG_STATE, detail RS_BRIDGE_STATE 0xFF 0)
  match c with
  | .main => wrong
  | .mon =>
    if quiet s && (machines s).all (belowFwSpeed s) && s.lgs.all (fun g => g.dis.isNone) then none else wrong
  | .fe =>
    if sl.man.version.toNat / 2 ^ 24 = (versionOf s .fe).toNat / 2 ^ 24 then none
    else some (ST_INCOMPATIBLE, incompatReport (incompatReason s) s)
  | .isl => none
  | .ctab => none
  | .pset => none
  | .cset => if quiet s then none else wrong

/-- The refusal of a live activation of a PSET: the rules of PARAM_COMMIT form 1 (Table 16.5). -/
def psetRefusal (s : State) (sl : Slot) : Option (U16 × List Byte) :=
  if s.store.pending.isSome then some (ST_WRONG_STATE, detail RS_NONE 0xFF 0)
  else match psetContent sl.body s with
    | .error (st, why, ix, id) => some (st, detail why ix id)
    | .ok p => (stateBreach s (ruleView p s) (changedItems s.store.act.items p.items)).map
        (fun r => (r.1, detail r.2.1 r.2.2.1 r.2.2.2))

/-- The refusal of UPD_ACTIVATE with timing 1 of a VERIFIED slot (R549, R550). -/
def nowRefusal (s : State) (u : Update) : Option (U16 × List Byte) :=
  let sl := updSlot s u
  match liveRefusal s u.cls sl with
  | some r => some r
  | none =>
    if !resultTested s u.cls u.slotB then some (ST_INCOMPATIBLE, incompatReport (incompatReason s) s)
    else if u.cls = .pset then psetRefusal s sl
    else none

/-- UPD_ACTIVATE with timing 1, accepted: a PSET waits for its commit instant. -/
def activateNow (t : Nat) (u : Update) (s : State) : State :=
  if u.cls = .pset then
    match psetContent (updSlot s u).body s with
    | .ok p => awaitInstant ⟨p, some t, u.slotB, true⟩ s
    | .error _ => s
  else finish t ST_OK [] (liveEffect u.cls u.slotB s)

/-- UPD_ACTIVATE with timing 0: the slot is marked for BOOT_SEL. -/
def activateNext (t : Nat) (u : Update) (s : State) : State :=
  let s := modUpdSlot u (fun sl => { sl with st := .pending }) s
  finish t ST_OK [] (modSlots u.cls (fun k => { k with markB := u.slotB }) s)

/-- UPD_ACTIVATE of an update. The update ends with an accepted one (R489); a refused one leaves it as it is. -/
def activateUpdate (t : Nat) (timing : Byte) (u : Update) (s : State) : State :=
  if 1 < timing.toNat then refuse t ST_BAD_PARAM RS_NONE 0xFF 0 s
  else if (updSlot s u).st ≠ .verified then refuse t ST_WRONG_STATE RS_NONE 0xFF 0 s
  else match (if timing = 0 then none else nowRefusal s u) with
    | some (st, data) => finish t st data s
    | none =>
      let s := accept t 500 { s with store := { s.store with upd := none } }
      if timing = 0 then activateNext t u s else activateNow t u s

def opUpdActivate (t : Nat) (timing : Byte) (s : State) : State := withUpdate t (activateUpdate t timing) s

/-! ### Reloads (R550) -/

/-- R550: FEn reloads once Bn is IDLE or DISABLED. -/
def execFeReload (n : Fin 8) (s : State) : Out :=
  let b := n.val
  if isUp s && (bridgeAt s b).feReload && (stOf s b == .idle || stOf s b == .disabled) then
    .next (modBridge b (fun br => { br with feReload := false, feVersion := versionOf s .fe }) s)
  else .next s

/-- R550: the islands of a bridge reload once it is IDLE, DISABLED or RETIRED, and their handshake runs again. -/
def execIslReload (b : Fin 8) (answers : List IslandObs) (s : State) : Out :=
  if answers.length ≠ 6 then .fault (.illFormed "ISL_RELOAD")
  else if isUp s && (bridgeAt s b).islReload && allQuiet s [b.val] && domOn s (8 + b) then
    let s := (bridgeChans s b).zipIdx.foldl (fun s p => takeHandshake (answers.getD p.2 IslandObs.none) p.1 s) s
    let s := forgetUnread s
    .next (modBridge b (fun br => { br with islReload := false }) s)
  else .next s

/-- R203: the derivation of a machine's tables has finished; without a record that passes its checks F-0213 and the analytic map. -/
def execFluxMapDerivationEnd (m : Fin 8) (s : State) : Out :=
  if mainUp s && (machAt s m).mapPending then
    .next (match goodMap s m with
      | some map =>
        let s := modMach m (fun x => { x with mapPending := false, mapUsed := true }) s
        modMach m (fun x => { x with tables := some (deriveTables s m map) }) s
      | none => note 0x0213 (srcMach m) [] (modMach m (fun x => { x with mapPending := false, mapUsed := false, tables := none }) s))
  else .next s

/-! ### Main-pair handover (R551 to R555) -/

/-- Why a handover is refused (R49, R549, R551): status and data; none where it is accepted. -/
def handoverRefusal (t : Nat) (s : State) : Option (U16 × List Byte) :=
  let wrong := fun (why : Byte) => some (ST_WRONG_STATE, detail why 0xFF 0)
  if s.dev.split then wrong RS_SPLIT_MODE
  else match s.store.upd with
    | none => wrong RS_NONE
    | some u =>
      if u.session != (ctxAt s t).hdr.session then wrong RS_UPDATE_BUSY
      else if u.cls ≠ .main ∨ (updSlot s u).st ≠ .verified then wrong RS_NONE
      else if !resultTested s .main u.slotB then some (ST_INCOMPATIBLE, incompatReport (incompatReason s) s)
      else if (machines s).any (fun m => isStart (machAt s m).ph) then wrong RS_START_PHASE
      else if (machines s).any (fun m => (machAt s m).ph == .discharging) then wrong RS_DISCHARGE
      else if (machines s).any (stopping s) then wrong RS_BRIDGE_STATE
      else if (List.range 128).any (fun i => i != t && (ctxAt s i).st == .long && !(ctxAt s i).mute) then wrong RS_DEVICE_STATE
      else none

/-- R551, R552: UPD_HANDOVER: accepted, the die is given notice, and the main pair halts. -/
def opUpdHandover (t : Nat) (s : State) : State :=
  match handoverRefusal t s with
  | some (st, data) => finish t st data s
  | none => match s.store.upd with
    | some u =>
      let s := accept t 300 s
      let s := modPair .main (fun x => { x with suspended := true }) s
      { s with store := { s.store with upd := none, handover := some ⟨some t, s.time.dev, u.slotB, false, none⟩ } }
    | none => s

/-- Setpoint entries stored during the hold take effect at the takeover, the latest per machine (R553). -/
def applyStored (s : State) : State :=
  forEach (List.range 8) (applyLast s.proto.stored) { s with proto := { s.proto with stored := [] } }
where
  /-- The newest of the stored references for machine `m`. -/
  applyLast (l : List (Nat × Ref × Nat × Esn)) (m : Nat) (s : State) : State :=
    match (l.filter (fun e => e.1 == m)).getLast? with
    | some (_, r, n, e) => if takesRefs s m then modMach m (fun x => { x with refEsn := e }) (applyRef n m r s) else s
    | none => s

/-- R552, R555: an image takes over, or the new one fails and the previous slot restarts; the status of the final reply is then
not stated (log entry 3). -/
def takeover (h : Handover) (injectionOk : Bool) (s : State) : State :=
  let starts := fun (b : Bool) => injectionOk && verifySlot s .main (classSlot s .main b) == .good
  let done := fun (s : State) => applyStored (releasePair .main { s with store := { s.store with handover := none } })
  match h.fail with
  | some st => if starts (!h.slotB) then done (finishOpt h.tag st (detail RS_NONE 0xFF 0) s) else s
  | none =>
    if starts h.slotB then
      let s := activateSlot .main h.slotB s
      let s := finishOpt h.tag ST_OK (beBytes 4 (versionOf s .main).toNat) s
      let s := note 0x0A20 (srcDom 2) (beBytes 4 (versionOf s .main).toNat) s
      done (bootFuses.raiseFuse .main s)
    else
      let s := setSlotSt .main h.slotB .invalid s
      let s := note 0x0A22 (srcDom 2) [] s
      let (i, s) := drawFree s
      { s with store := { s.store with handover := some { h with fail := some ((Config.freeWord i).setWidth 16) } } }

def execHandoverTakeover (inj : Nat) (clean : Bool) (s : State) : Out :=
  match s.store.handover with
  | some h => if isUp s then .next (takeover h (injPasses inj clean) s) else .next s
  | none => .next s

/-- R554: no takeover within 200 ms of the halt: the field engines raise F-0A21 and ramp their machines down. -/
def execHandoverTimeout (s : State) : Out :=
  match s.store.handover with
  | some h =>
    if isUp s && !h.late && decide (h.halt + 80000000 ≤ s.time.dev) then
      let s := { s with store := { s.store with handover := some { h with late := true } } }
      .next (forEach ((machines s).filter (machRunning s)) (fun m s => raiseFault 0x0A21 m (srcMach m) (.machine m) [] s) s)
    else .next s
  | none => .next s

/-! ### The rows -/

/-- R548. -/
def execUpdBegin (h : Hdr) (cls : U16) (total : U32) (manifest : Manifest) (s : State) : Out :=
  .next (serve h 0x0500 (beBytes 2 cls.toNat ++ [0, 0] ++ beBytes 4 total.toNat ++ manifestBytes manifest) false
    (fun t s => opUpdBegin t cls total manifest s) s)
/-- R490. -/
def execUpdChunk (h : Hdr) (offset : U32) (data : List Byte) (s : State) : Out :=
  .next (serve h 0x0501 (beBytes 4 offset.toNat ++ data) false (fun t s =>
    if data.length < 1 ∨ 4000 < data.length then refuse t ST_BAD_LENGTH RS_NONE 0xFF 0 s
    else opUpdChunk t offset data s) s)
/-- R548. -/
def execUpdVerify (h : Hdr) (s : State) : Out := .next (serve h 0x0502 [] false opUpdVerify s)
/-- R550. -/
def execUpdActivate (h : Hdr) (timing : Byte) (s : State) : Out :=
  .next (serve h 0x0503 [timing] false (fun t s => opUpdActivate t timing s) s)
/-- R551. -/
def execUpdHandover (h : Hdr) (s : State) : Out := .next (serve h 0x0504 [] false opUpdHandover s)

end Sys2Proof.Machine
end

