-- ==== Sys2Proof/Machine/Recorder.lean ====
section
/-! DEFINITION. The recorder and the trend store as hosts and registers see them (R491, R573 to R578). -/

namespace Sys2Proof.Machine

/-! ### Entries and trend records as bytes (Table 17.4, R578) -/

/-- Bytes 0 to 59 of a recorder entry. -/
def entryHead (e : Entry) : List Byte :=
  beBytes 4 e.esn.toNat ++ beBytes 8 e.time ++ beBytes 2 e.code.toNat ++ [BitVec.ofNat 8 e.level, BitVec.ofNat 8 e.kind] ++
    beBytes 2 e.src.toNat ++ beBytes 2 e.count ++ entryData e.data

/-- The 64 bytes of a recorder entry. -/
def entryBytes (e : Entry) : List Byte := entryHead e ++ beBytes 4 (crc32 (entryHead e)).toNat

/-- The 16 bytes of a trend record. -/
def trendBytes (r : TrendRec) : List Byte :=
  beBytes 8 r.time ++ beInt 2 r.min ++ beInt 2 r.max ++ beInt 2 r.mean ++ beBytes 2 r.n

/-! ### Reading (R491, R577) -/

/-- The entries of both rings at or after an ESN, merged in ESN order (R577). -/
def entriesFrom (first : Esn) (s : State) : List Entry :=
  ((s.recd.events ++ s.recd.samples).filter (fun e => decide (esnAhead first e < 2 ^ 31))).foldr (insertEntry first) []

/-- One part of a REC_READ reply: at most 63 entries. -/
def partBytes (es : List Entry) : List Byte := beBytes 2 es.length ++ zeros 2 ++ es.flatMap entryBytes

/-- The replies of REC_READ: MORE in every part but the last (R438, R491). -/
def sendParts (t : Nat) : Nat → List Entry → State → State
  | 0, es, s => finish t ST_OK (partBytes es) s
  | fuel + 1, es, s =>
    if es.length ≤ 63 then finish t ST_OK (partBytes es) s
    else
      let c := ctxAt s t
      let s := if c.mute then s else (sendReply c.origin c.hdr c.opcode true ST_OK (partBytes (es.take 63)) s).2
      sendParts t fuel (es.drop 63) s

/-- R577: REC_READ. -/
def opRecRead (t : Nat) (first : Esn) (count : U16) (s : State) : State :=
  if count = 0 ∨ 4096 < count.toNat then refuse t ST_OUT_OF_RANGE RS_NONE 0xFF 0 s
  else if !domOn s 4 then refuse t ST_DOMAIN_OFF RS_NONE 4 0 s
  else if !gateOpen s 10 then refuse t ST_BUS_ERROR RS_NONE 0xFF 0 s
  else sendParts t 66 ((entriesFrom first s).take count.toNat) s

/-- The oldest ESN held in either ring; none if both are empty. -/
def oldestEsn (s : State) : Option Esn :=
  match s.recd.events.head?, s.recd.samples.head? with
  | some a, some b => some (if serialAfter a.esn b.esn then b.esn else a.esn)
  | some a, none => some a.esn
  | none, some b => some b.esn
  | none, none => none

/-- R491: REC_INFO; the oldest ESN of an empty recorder, which the spec does not state, is a free value (log entry 3). -/
def opRecInfo (t : Nat) (s : State) : State :=
  if !domOn s 4 then refuse t ST_DOMAIN_OFF RS_NONE 4 0 s
  else if !gateOpen s 10 then refuse t ST_BUS_ERROR RS_NONE 0xFF 0 s
  else
  let (i, s) := drawFree s
  finish t ST_OK (beBytes 4 4194304 ++ beBytes 4 ((oldestEsn s).getD (Config.freeWord i)).toNat ++
    beBytes 4 (s.recd.newest.getD 0).toNat ++ beBytes 4 s.recd.entOvw.toNat ++ beBytes 4 4194304) s

/-- R578: TREND_READ: the records of a channel from the first at or after a device time. -/
def opTrendRead (t : Nat) (channel count : U16) (time : U64) (s : State) : State :=
  if 127 < channel.toNat then refuse t ST_BAD_PARAM RS_NONE (channel.setWidth 8) 0 s
  else if count = 0 ∨ 63 < count.toNat then refuse t ST_OUT_OF_RANGE RS_NONE 0xFF 0 s
  else if !domOn s 4 then refuse t ST_DOMAIN_OFF RS_NONE 4 0 s
  else if !gateOpen s 10 then refuse t ST_BUS_ERROR RS_NONE 0xFF 0 s
  else
    let rs := ((s.recd.trend.getD channel.toNat []).filter (fun r => decide (time.toNat ≤ r.time))).take count.toNat
    finish t ST_OK (beBytes 2 rs.length ++ zeros 2 ++ rs.flatMap trendBytes) s

/-! ### Writing (R575, R576, R578) -/

/-- The recorder runs: D4 on, and the device neither off, in STANDBY nor FROZEN. -/
def recorderOn (s : State) : Bool := domOn s 4 && gateOpen s 10 && (isUp s || s.dev.ph == .boot || s.dev.ph == .calibrating)

/-- R575: the write buffer is written to MRAM. -/
def execRecorderFlush (s : State) : Out := if recorderOn s then .next (flushBuffer s) else .next s

/-- R575: REC_CTL.FLUSH. -/
def recFlush (s : State) : State := if recorderOn s then flushBuffer s else s
def execRecFlush (s : State) : Out := .next (recFlush s)

/-- R576: REC_CTL.SAMPLE_EN; 1 ends a post-trigger pause. -/
def setSampleEn (en : Bool) (s : State) : State :=
  if recorderOn s then { s with recd := { s.recd with sampleEn := en, postHold := s.recd.postHold && !en } } else s
def execRecSampleEnWrite (en : Bool) (s : State) : Out := .next (setSampleEn en s)

/-- R576: the post-trigger time ends, and sample recording pauses. -/
def execPostTriggerEnd (s : State) : Out :=
  match s.recd.postEnd with
  | some e =>
    if recorderOn s && decide (e ≤ s.time.dev) then
      .next { s with recd := { s.recd with postHold := true, postEnd := none } }
    else .next s
  | none => .next s

/-- A trend channel has a source (Table 17.6). -/
def trendSource (s : State) (k : Nat) : Bool :=
  if k < 104 then true else if k < 112 then machExists s (k - 104) else if k < 120 then machExists s (k - 112) else decide (k < 124)

/-- A trend record at the present time (R578); minimum, maximum and mean of no sample, and a count above 65,535, are free values
(log entry 3). -/
def trendRec (s : State) (a : TrendAcc) : TrendRec :=
  let f := s.time.free
  if a.n = 0 then ⟨s.time.dev, Config.freeInt f, Config.freeInt (f + 1), Config.freeInt (f + 2), 0⟩
  else ⟨s.time.dev, a.lo, a.hi, roundDiv a.sum a.n, if a.n ≤ 65535 then a.n else (Config.freeWord f).toNat % 65536⟩

/-- R578: one record of a channel at the end of its period. -/
def execTrendRecord (channel : Fin 128) (s : State) : Out :=
  let k := channel.val
  if recorderOn s && isUp s && decide (s.recd.trendStart.getD k 0 + parN s 0xCF01 * 400000000 ≤ s.time.dev) then
    let r := trendRec s (if trendSource s k then s.recd.trendAcc.getD k ⟨0, 0, 0, 0⟩ else ⟨0, 0, 0, 0⟩)
    let s := (drawFree (drawFree (drawFree s).2).2).2
    .next { s with recd := { s.recd with
      trend := s.recd.trend.modify k (fun l => (ringAppend 32768 l [r]).1),
      trendStart := s.recd.trendStart.set k s.time.dev,
      trendAcc := s.recd.trendAcc.set k ⟨0, 0, 0, 0⟩ } }
  else .next s

/-! ### The rows -/

/-- R491. -/
def execRecInfo (h : Hdr) (s : State) : Out := .next (serve h 0x0600 [] false opRecInfo s)
/-- R577. -/
def execRecRead (h : Hdr) (first : Esn) (count : U16) (s : State) : Out :=
  .next (serve h 0x0601 (beBytes 4 first.toNat ++ beBytes 2 count.toNat) false (fun t s => opRecRead t first count s) s)
/-- R578. -/
def execTrendRead (h : Hdr) (channel : U16) (count : U16) (time : U64) (s : State) : Out :=
  .next (serve h 0x0602 (beBytes 2 channel.toNat ++ beBytes 2 count.toNat ++ beBytes 8 time.toNat) false
    (fun t s => opTrendRead t channel count time s) s)

end Sys2Proof.Machine
end

