-- ==== Sys2Proof/Machine/Security.lean ====
section
/-! DEFINITION. Sessions, attestation and owner slots (R448, R474, R537, R538, R545 to R547). -/

namespace Sys2Proof.Machine

/-- `n` free bytes from a first index on (log entry 3). -/
def freeRun (i n : Nat) : List Byte := (List.range n).map (fun k => (Config.freeWord (i + k)).setWidth 8)

/-! ### SESSION_OPEN and SESSION_CLOSE (R448, R545, R546) -/

/-- ASCII labels of R546. -/
def labelH2M : List Byte := [0x56, 0x58, 0x46, 0x20, 0x48, 0x32, 0x4D]
def labelM2H : List Byte := [0x56, 0x58, 0x46, 0x20, 0x4D, 0x32, 0x48]
def labelConf : List Byte := [0x56, 0x58, 0x46, 0x20, 0x43, 0x4F, 0x4E, 0x46]

/-- A direction key from the session key K and a label (R546). -/
def directionKey (k : Digest) (label : List Byte) : Digest := Config.hmacSha256 k (label ++ beBytes 32 identityHash.toNat)

/-- The lowest free session ID, none while 8 sessions are open (R448). -/
def freeSession (s : State) : Option Nat := (List.range' 1 8).find? (fun i => (sessAt s i).isNone)

/-- The 16 bytes of the key confirmation (R546). -/
def confirmation (kM2H : Digest) (sid : Nat) (seq : U32) : List Byte :=
  (beBytes 32 (Config.hmacSha256 kM2H (labelConf ++ beBytes 1 sid ++ beBytes 4 seq.toNat)).toNat).take 16

/-- A new session in a free ID (R448, R449). -/
def openSession (i : Nat) (k : Digest) (seq : U32) (s : State) : State :=
  let p := s.proto
  let new : Session := ⟨directionKey k labelH2M, directionKey k labelM2H, seq, 0, 0, s.time.dev, none, none, p.opened + 1, 0⟩
  { s with proto := { p with sess := p.sess.set (i - 1) (some new), opened := p.opened + 1 } }

/-- The plaintext of the request in context `t`: what its ciphertext decrypts to under the identity key. -/
def sessionPlain (c : Ctx) : Option (List Byte) := c.plain.getD (Config.oaepDecrypt c.payload)

/-- R545, R448: SESSION_OPEN. -/
def opSessionOpen (t : Nat) (s : State) : State :=
  if !gateOpen s 0 then refuse t ST_BUS_ERROR RS_NONE 0xFF 0 s
  else match sessionPlain (ctxAt s t) with
  | none => refuse t ST_NOT_AUTHORISED RS_NONE 0xFF 0 s
  | some k =>
    if k.length ≠ 32 then refuse t ST_NOT_AUTHORISED RS_NONE 0xFF 0 s
    else match freeSession s with
      | none => refuse t ST_CONTEXT_BUSY RS_NONE 0xFF 0 s
      | some i =>
        let seq := (ctxAt s t).hdr.seq
        let key := BitVec.ofNat 256 (beNat k)
        finish t ST_OK ([ixByte i] ++ zeros 3 ++ confirmation (directionKey key labelM2H) i seq) (openSession i key seq s)

/-- A SESSION_OPEN given as a row: its context holds what the ciphertext decrypts to. -/
def serveSession (h : Hdr) (plain : Option (List Byte)) (s : State) : State :=
  if receives s h.port then
    let a := admits h 0x0701 (zeros 384) s
    if !a.1 then a.2
    else
      let s := modCtx h.tag.toNat (fun c => { c with plain := some plain }) a.2
      if dispatches s && nothingAhead h s then gated 0x0701 false h.tag.toNat (opSessionOpen h.tag.toNat) s else enqueue h s
  else s

/-- R448: SESSION_CLOSE; its reply is sent authenticated before the session closes. -/
def opSessionClose (t : Nat) (s : State) : State :=
  let i := (ctxAt s t).hdr.session.toNat
  closeSession i (finish t ST_OK [] s)

/-- R448: P_SESS_IDLE has passed without an accepted request or setpoint frame. -/
def execSessionIdleTimeout (sid : Fin 8) (s : State) : Out :=
  match sessAt s (sid.val + 1) with
  | some k =>
    if netPar s 0x43 ≠ 0 ∧ k.last + netPar s 0x43 * 400000000 ≤ s.time.dev then .next (closeSession (sid.val + 1) s) else .next s
  | none => .next s

/-! ### KEY_INFO (R474, Table 14.11) -/

/-- Code of an owner slot's state. -/
def slotCode : OwnerSlot → Byte
  | .empty => 0
  | .valid _ => 1
  | .revoked _ => 2

/-- The hash fused in a slot; of an empty slot a free value, from index `i` on (log entry 3). -/
def slotHash (i : Nat) : OwnerSlot → List Byte
  | .empty => freeRun i 32
  | .valid h => beBytes 32 h.toNat
  | .revoked h => beBytes 32 h.toNat

/-- R474: a new signing nonce for a session. -/
def issueNonce (i : Nat) (s : State) : BitVec 128 × State :=
  let n := Config.freeNonce s.store.nonces
  (n, modSess i (fun k => { k with nonce := some (n, s.time.dev) }) { s with store := { s.store with nonces := s.store.nonces + 1 } })

/-- The states of the owner slots, and the fuse counters. -/
def slotStates (s : State) : List Byte := (List.range 4).map (fun i => slotCode (ownerSlot s i))
def fuseBytes (s : State) : List Byte := (List.range 5).map (fun i => ixByte (s.store.fuses.getD i 0))

/-- KEY_INFO. -/
def opKeyInfo (t : Nat) (part : Byte) (s : State) : State :=
  if part = 0 then
    let (f, s) := drawMany 128 s
    let (n, s) := issueNonce (ctxAt s t).hdr.session.toNat s
    finish t ST_OK (beBytes 32 identityHash.toNat ++ slotStates s ++
      (List.range 4).flatMap (fun i => slotHash (f + 32 * i) (ownerSlot s i)) ++ fuseBytes s ++ zeros 3 ++ beBytes 16 n.toNat) s
  else if part = 1 then finish t ST_OK (beBytes 2 Config.certificate.length ++ Config.certificate) s
  else refuse t ST_BAD_PARAM RS_NONE 0xFF 0 s

/-- R474: a signing nonce expires 60 s after issue. -/
def execNonceExpiry (sid : Fin 8) (s : State) : Out :=
  match sessAt s (sid.val + 1) with
  | some k => match k.nonce with
    | some (_, at_) =>
      if at_ + 24000000000 ≤ s.time.dev then .next (modSess (sid.val + 1) (fun k => { k with nonce := none }) s) else .next s
    | none => .next s
  | none => .next s

/-! ### OWNER_SLOT (R537, R538) -/

/-- The state of an owner slot changes; F-0A25. -/
def setOwner (i : Nat) (o : OwnerSlot) (s : State) : State :=
  note 0x0A25 (srcDom 1) [] { s with store := { s.store with owners := s.store.owners.set i o } }

/-- All four owner slots are empty. -/
def allSlotsEmpty (s : State) : Bool := (List.range 4).all (fun i => ownerSlot s i == .empty)

/-- The signature of an OWNER_SLOT: none needed for a first fuse with the signature field all zero (R538). -/
def ownerAuth (t : Nat) (signer action : Byte) (hash : Digest) (sig : Rsa) (s : State) : Option Byte × State :=
  if action = 0 ∧ allSlotsEmpty s ∧ sig = 0 then (none, s)
  else verifySigned t 0x0704 signer action (beBytes 32 hash.toNat) sig s

/-- R537: action 0 fuses the key hash into an empty slot. -/
def opOwnerFuse (t : Nat) (signer target : Byte) (hash : Digest) (sig : Rsa) (s : State) : State :=
  if 3 < target.toNat then refuse t ST_BAD_PARAM RS_NONE target 0 s
  else
    let v := ownerAuth t signer 0 hash sig s
    let s := v.2
    match v.1 with
    | some why => refuse t ST_NOT_AUTHORISED why 0xFF 0 s
    | none =>
      if ownerSlot s target.toNat == .empty then finish t ST_OK [] (setOwner target.toNat (.valid hash) s)
      else refuse t ST_WRONG_STATE RS_NONE target 0 s

/-- R537: action 1 revokes a valid slot, but not the last one. -/
def opOwnerRevoke (t : Nat) (signer target : Byte) (hash : Digest) (sig : Rsa) (s : State) : State :=
  if 3 < target.toNat then refuse t ST_BAD_PARAM RS_NONE target 0 s
  else
    let v := ownerAuth t signer 1 hash sig s
    let s := v.2
    match v.1 with
    | some why => refuse t ST_NOT_AUTHORISED why 0xFF 0 s
    | none =>
      match ownerSlot s target.toNat with
      | .valid k =>
        if ((List.range 4).filter (fun i => slotValid (ownerSlot s i))).length ≤ 1 then refuse t ST_WRONG_STATE RS_NONE target 0 s
        else finish t ST_OK [] (setOwner target.toNat (.revoked k) s)
      | .empty => refuse t ST_WRONG_STATE RS_NONE target 0 s
      | .revoked _ => refuse t ST_WRONG_STATE RS_NONE target 0 s

/-! ### ATTEST (R547) -/

/-- The body digest of the image or set in force of a class; with none in force a free value (log entry 3). -/
def digestOf (s : State) (f : Nat) (c : ImgClass) : List Byte :=
  match inForce s c with
  | some sl => beBytes 32 sl.man.bodyDigest.toNat
  | none => freeRun (f + 32 * classIx c) 32

/-- Bytes 0 to 383 of the report; its ESN is that of the reply which carries it. -/
def attestHead (s : State) (f : Nat) (nonce : Digest) : List Byte :=
  [0x01, devStateCode (devState s), (if isUp s then serviceReason s else 0), flagByte s.dev.split, Config.deviceStep,
   ixByte (deviceIndex s), 0, 0] ++ beBytes 8 s.time.dev ++ beBytes 4 s.time.esn.toNat ++ beBytes 32 nonce.toNat ++
  beBytes 32 identityHash.toNat ++
  [ImgClass.main, .mon, .fe, .isl, .ctab].flatMap (fun c => beBytes 4 (versionOf s c).toNat) ++
  [ImgClass.main, .mon, .fe, .isl, .ctab].flatMap (digestOf s f) ++
  beBytes 32 (Config.sha256 (psetBody s.store.act)).toNat ++ digestOf s f .cset ++ fuseBytes s ++ slotStates s ++ zeros 3 ++
  beBytes 4 s.store.act.serial.toNat ++ s.store.mapB ++ s.store.mapL ++ s.store.mapP

/-- R547: ATTEST. -/
def opAttest (t : Nat) (nonce : Digest) (s : State) : State :=
  if !gateOpen s 0 then refuse t ST_BUS_ERROR RS_NONE 0xFF 0 s
  else
  let (f, s) := drawMany 224 s
  let head := attestHead s f nonce
  finish t ST_OK (head ++ beBytes 384 (Config.rsaSignature Config.identityModulus (Config.sha256 head)).toNat) s

/-! ### The rows -/

/-- R547. -/
def execAttest (h : Hdr) (nonce : Digest) (s : State) : Out :=
  .next (serve h 0x0700 (beBytes 32 nonce.toNat) false (fun t s => opAttest t nonce s) s)
/-- R545. -/
def execSessionOpen (h : Hdr) (plain : Option (List Byte)) (s : State) : Out := .next (serveSession h plain s)
/-- R448. -/
def execSessionClose (h : Hdr) (s : State) : Out := .next (serve h 0x0702 [] false opSessionClose s)
/-- R474. -/
def execKeyInfo (h : Hdr) (part : Byte) (s : State) : Out :=
  .next (serve h 0x0703 [part] false (fun t s => opKeyInfo t part s) s)
/-- The request bytes of OWNER_SLOT. -/
def ownerPayload (action signer target : Byte) (hash : Digest) (sig : Rsa) : List Byte :=
  [action, signer, target, 0] ++ beBytes 32 hash.toNat ++ beBytes 384 sig.toNat
/-- R537, action 0. -/
def execOwnerSlotFuse (h : Hdr) (signer target : Byte) (hash : Digest) (sig : Rsa) (s : State) : Out :=
  .next (serve h 0x0704 (ownerPayload 0 signer target hash sig) false (fun t s => opOwnerFuse t signer target hash sig s) s)
/-- R537, action 1. -/
def execOwnerSlotRevoke (h : Hdr) (signer target : Byte) (hash : Digest) (sig : Rsa) (s : State) : Out :=
  .next (serve h 0x0704 (ownerPayload 1 signer target hash sig) false (fun t s => opOwnerRevoke t signer target hash sig s) s)

end Sys2Proof.Machine
end

