-- ==== Sys2Proof/Machine/Window.lean ====
section
/-! DEFINITION. The diagnostic register window (R430, R492, R579, Tables 12.12 to 12.14 and 17.7 to 17.14): where a word lies, what
it reads, which of its bits may be written, and what a write does. -/

namespace Sys2Proof.Machine

/-! ### Words -/

/-- A word of the window: its block, the instance in the block, and the offset of the word in the instance. -/
structure RegAt where
  block : Nat
  inst : Nat
  off : Nat
deriving DecidableEq, Repr

/-- Blocks of Table 17.7 in its order. -/
def blkClk : Nat := 0
def blkPwr : Nat := 1
def blkFm : Nat := 2
def blkSns : Nat := 3
def blkPwm : Nat := 4
def blkIsl : Nat := 5
def blkTemp : Nat := 6
def blkCan : Nat := 7
def blkEth : Nat := 8
def blkRec : Nat := 9

/-- Instance stride of a block and number of instances. -/
def blkStride : Nat → Nat × Nat
  | 3 => (0x100, 2)
  | 4 => (0x40, 8)
  | 5 => (0x10, 52)
  | 7 => (0x40, 4)
  | _ => (0x10000, 1)

/-- The offsets that a block defines. -/
def offDefined (block off : Nat) : Bool :=
  match block with
  | 0 => decide (off ≤ 0x18)
  | 1 => decide (off ≤ 0x90) || [0xA0, 0xA4, 0xA8, 0xAC].contains off
  | 2 => decide (off ≤ 0x18)
  | 3 => decide (off ≤ 0x0C) || decide (0x20 ≤ off ∧ off ≤ 0x3C)
  | 4 => decide (off ≤ 0x18)
  | 5 => decide (off ≤ 0x0C)
  | 6 => decide (off < 4 * 104) || decide (0x200 ≤ off ∧ off < 0x200 + 4 * 104)
  | 7 => decide (off ≤ 0x10)
  | 8 => decide (off < 0xC0 ∧ off % 0x40 ≤ 0x0C) || [0x100, 0x104, 0x108].contains off
  | 9 => decide (off ≤ 0x10)
  | _ => false

/-- The word at an address; none where it is undefined or not 4-byte aligned (R492). -/
def regAt (addr : Nat) : Option RegAt :=
  if addr % 4 ≠ 0 ∨ addr < 0x40000000 ∨ 0x400A0000 ≤ addr then none
  else
    let k := (addr - 0x40000000) / 0x10000
    let low := addr % 0x10000
    let (stride, n) := blkStride k
    if low / stride < n ∧ offDefined k (low % stride) then some ⟨k, low / stride, low % stride⟩ else none

/-- The domain a word needs (Table 17.7); none for the always-on rail. -/
def regDom (s : State) (r : RegAt) : Option Nat :=
  match r.block with
  | 1 => some 0
  | 2 => some 4
  | 3 => some (6 + r.inst)
  | 4 => some (8 + r.inst)
  | 5 => (servedBridge s r.inst).map (8 + ·)
  | 6 => some 2
  | 7 => some 5
  | 8 => some 5
  | 9 => some 4
  | _ => none

/-- The gate bit of CLK_GATE that a word's port needs (R407); none where no gate covers it. -/
def regGate (s : State) (r : RegAt) : Option Nat :=
  match r.block with
  | 2 => some 9
  | 3 => some (7 + r.inst)
  | 4 => some (16 + r.inst)
  | 5 => (servedBridge s r.inst).map (16 + ·)
  | 7 => some (3 + r.inst)
  | 8 => some 2
  | 9 => some 10
  | _ => none

/-! ### What a word reads -/

/-- Code of a domain state. -/
def domCode : DomState → Nat
  | .on => 0
  | .ret => 1
  | .off => 2

/-- The low `n` bits of a signed number. -/
def low (n : Nat) (v : Int) : Nat := (v % (2 ^ n : Nat)).toNat

/-- CLKCTL (Table 12.12). -/
def readClk (s : State) : Nat → Nat
  | 0x00 => s.clk.rdy.toNat
  | 0x04 => s.clk.sel.toNat
  | 0x08 => s.clk.lock.toNat * 256 + bitAt s.clk.gateForced 7 + bitAt s.clk.swForced 6 + bitAt s.clk.swErr 5 +
      s.clk.coast.toNat * 4 + bitAt s.clk.onRc40 1
  | 0x0C => s.clk.fail.toNat
  | 0x10 => s.clk.gate.toNat
  | 0x14 => s.clk.refq.toNat
  | _ => bitAt s.clk.locked 0

/-- PWRCTL (Table 12.13). -/
def readPwr (s : State) (off : Nat) : Nat :=
  let p := s.pwr
  if off < 0x40 then domCode (domAt s (off / 4)).req
  else if off < 0x80 then
    let d := domAt s ((off - 0x40) / 4)
    bitAt d.ilk 7 + bitAt d.wakeFail 6 + d.tries % 4 * 16 + bitAt d.crcErr 3 + bitAt d.busy 2 + domCode d.st
  else match off with
    | 0x80 => p.monCur % 2 * 32 + p.monReq % 2 * 16 + p.mainCur % 4 * 4 + p.mainReq % 4
    | 0x84 => bitAt p.capped 2 + bitAt p.overrun 1 + bitAt (p.busyMain || p.busyMon) 0
    | 0x88 => bitAt p.depthNext 4 + p.canWake.toNat * 4 + 2 + bitAt p.rtcArmed 0
    | 0x8C => p.cause.toNat
    | 0x90 => p.retBanks.toNat
    | 0xA0 => s.time.rtc.toNat % 2 ^ 32
    | 0xA4 => s.time.rtc.toNat / 2 ^ 32
    | 0xA8 => p.alarm.toNat % 2 ^ 32
    | _ => p.alarm.toNat / 2 ^ 32

/-- FREQMEAS (Table 12.14). -/
def readFm (s : State) : Nat → Nat
  | 0x00 => s.clk.fmRef.toNat * 16 + s.clk.fmIn.toNat
  | 0x04 => s.clk.fmGate.toNat
  | 0x08 => 0
  | 0x0C => fmStat s
  | 0x10 => s.clk.fmNin.toNat
  | 0x14 => s.clk.fmNref.toNat
  | _ => s.clk.fmPpm.toNat

/-- SNSCTL of a bank (Table 17.8). -/
def readSns (s : State) (x off : Nat) : Nat :=
  let k := if x = 0 then s.bankA else s.bankB
  let each := fun (f : Bridge → Bool) => bitsOf (s.bridges.map f)
  match off with
  | 0x00 => bitAt k.refErr 17 + bitAt k.supErr 16 +
      each (fun b => decide (0 < (if x = 0 then b.isumA else b.isumB))) * 256 + each (fun b => if x = 0 then b.calFailA else b.calFailB)
  | 0x04 => k.oclat.toNat
  | 0x08 => bitsOf ((List.range 8).map (fun b => bSns s b 0 == 1))
  | 0x0C => bitAt k.force 5 + k.input.toNat
  | _ => low 32 (k.gen.getD ((off - 0x20) / 4) 0)

/-- The refusals within the last 100 ms, one at the expiry counting still (R176). -/
def recentRefusals (s : State) (b : Nat) : List Nat :=
  (bridgeAt s b).xon.filter (fun t => decide (s.time.dev ≤ t + 40000000))

/-- The words of PWMSTAT of bridge `b` (Table 17.9). -/
def readPwm (s : State) (b off : Nat) : Nat :=
  let br := bridgeAt s b
  match off with
  | 0x00 => min 255 (recentRefusals s b).length * 2 ^ 24 + min 255 br.miss * 2 ^ 16 + bitAt (isHeld br) 15 + bitAt br.refreshForce 14 +
      bitsOf br.refreshAct * 2 ^ 11 + bitAt br.active.sixstep 10 + bitAt br.active.indep 9 + bitAt br.commit 8
  | 0x04 => br.per
  | 0x14 => br.ofs
  | 0x18 => br.evt.toNat
  | _ => (br.active.cmp.getD ((off - 8) / 4) (0, 0)).1

/-- Condition of an island (Table 17.10): a low or auxiliary island that is there is shown as Operating. -/
def islandCond (s : State) (c : Nat) : Nat :=
  let x := chanAt s c
  if x.parked then 3 else if !islandThere x then 0 else if chanHigh c && !x.operating then 1 else 2

/-- ISLSTAT of channel `c` (Table 17.10). -/
def readIsl (s : State) (c off : Nat) : Nat :=
  let x := chanAt s c
  match off with
  | 0x0 => bitsOf ((List.range 23).map (fun i => latched x (0x0101 + i)))
  | 0x4 => x.step.toNat * 2 ^ 24 + islandCond s c * 2 ^ 16 + low 16 ((if chanHigh c then x.vbs else x.vbp) / 10)
  | 0x8 => low 16 x.temp * 2 ^ 16 + x.linkDly % 2 ^ 16
  | _ => x.linkErr.toNat

/-- TEMPSTAT (Table 17.11). -/
def readTemp (s : State) (off : Nat) : Nat :=
  let x := tempAt s (off % 0x200 / 4)
  if off < 0x200 then
    low 16 x.value * 2 ^ 16 + min 63 x.fret * 16 + bitAt x.noval 3 + bitAt x.suspect 2 + bitAt x.invalid 1 + bitAt (isFast s (off % 0x200 / 4)) 0
  else low 16 (roundRat (x.offset * 10))

/-- CANSTAT of a controller (Table 17.12). -/
def readCan (s : State) (n : Nat) : Nat → Nat
  | 0x00 => (canAt s n).recv % 256 * 2 ^ 24 + (canAt s n).tec % 256 * 2 ^ 16 + bitAt (canAt s n).sleep 2 + bitAt (canAt s n).busOff 1 +
      bitAt (canAt s n).passive 0
  | 0x04 => (canAt s n).drop % 2 ^ 32
  | 0x08 => (canAt s n).disc % 2 ^ 16 * 2 ^ 16 + (canAt s n).classic % 2 ^ 16
  | 0x0C => bitAt (canAt s n).lostArb 1 + bitAt (canAt s n).txErr 0
  | _ => (canAt s n).busOffCnt % 2 ^ 32

/-- ETHSTAT (Table 17.13). -/
def readEth (s : State) (off : Nat) : Nat :=
  let p := off / 0x40
  let e := s.net.eth.getD p EthPort.reset
  match off with
  | 0x100 => bitAt s.net.gptpSync 1 + bitAt s.net.qbv 0
  | 0x104 => low 32 s.net.gptpOfs
  | 0x108 => s.proto.unauthDrop.toNat
  | _ => match off % 0x40 with
    | 0x0 => bitAt (portGated s p) 2 + bitAt (hasBit (netPar s 0x23) p) 1 + bitAt e.link 0
    | 0x4 => e.rx % 2 ^ 32
    | 0x8 => e.disc % 2 ^ 32
    | _ => e.down % 2 ^ 32

/-- RECCTL (Table 17.14). -/
def readRec (s : State) : Nat → Nat
  | 0x00 => bitAt s.recd.postHold 2 + bitAt (s.recd.sampleEn && !s.recd.postHold) 1
  | 0x04 => s.recd.sdrop.toNat
  | 0x08 => s.recd.evovw.toNat
  | 0x0C => (s.recd.newest.getD 0).toNat
  | _ => bitAt s.recd.sampleEn 0

/-- What a word of the window reads. -/
def readReg (s : State) (r : RegAt) : Nat :=
  match r.block with
  | 0 => readClk s r.off
  | 1 => readPwr s r.off
  | 2 => readFm s r.off
  | 3 => readSns s r.inst r.off
  | 4 => readPwm s r.inst r.off
  | 5 => readIsl s r.inst r.off
  | 6 => readTemp s r.off
  | 7 => readCan s r.inst r.off
  | 8 => readEth s r.off
  | _ => readRec s r.off

/-! ### What may be written -/

/-- The bits of a word marked RW, and those marked W1C or WO. -/
def regBits (r : RegAt) : Nat × Nat :=
  match r.block with
  | 0 => match r.off with
    | 0x04 => (0x3F, 0)
    | 0x08 => (0, 0xE0)
    | 0x10 => (0xFFFF1FFF, 0)
    | _ => (0, 0)
  | 1 =>
    if r.off < 0x40 then (if r.off = 0 then 0 else 0x3, 0)
    else if r.off < 0x80 then (0, 0x88)
    else match r.off with
      | 0x80 => (0x13, 0)
      | 0x84 => (0, 0x2)
      | 0x88 => (0x1D, 0)
      | 0x90 => (0xFFFF, 0)
      | 0xA8 => (0xFFFFFFFF, 0)
      | 0xAC => (0xFFFF, 0)
      | _ => (0, 0)
  | 2 => match r.off with
    | 0x00 => (0x7F, 0)
    | 0x04 => (0xFFFFFFFF, 0)
    | 0x08 => (0, 0x1)
    | 0x0C => (0, 0x1E)
    | _ => (0, 0)
  | 3 => match r.off with
    | 0x00 => (0, 0x30000)
    | 0x0C => (0x3F, 0)
    | _ => (0, 0)
  | 4 => if r.off = 0x18 then (0, 0xF) else (0, 0)
  | 7 => if r.off = 0x0C then (0, 0x3) else (0, 0)
  | 9 => if r.off = 0x10 then (0x1, 0x2) else (0, 0)
  | _ => (0, 0)

/-! ### What a write does: `v` the merged word, `m` the mask, `c` the W1C and WO bits that the request sets -/

/-- Every gate bit in the mask takes its value; a port is idle as its gate closes through the window. -/
def writeGates (v m : Nat) (s : State) : State :=
  forEach ((List.range 32).filter (hasBit m)) (fun i s => if hasBit v i then openGate i s else closeGate i true s) s

def writeClk (off v m c : Nat) (s : State) : State :=
  match off with
  | 0x04 => writeClkSel v s
  | 0x08 => { s with clk := { s.clk with gateForced := s.clk.gateForced && !hasBit c 7, swForced := s.clk.swForced && !hasBit c 6,
                                         swErr := s.clk.swErr && !hasBit c 5 } }
  | 0x10 => writeGates v m s
  | _ => s

/-- OP_POINT: the requests that the mask names; a refused one leaves its field. -/
def writeOpPoint (v m : Nat) (s : State) : State :=
  let main := v % 4
  let mon := v / 16 % 2
  let s := if m % 4 ≠ 0 ∧ main ≠ 3 then requestMain main s else s
  if hasBit m 4 && !monRefused s mon then requestMon mon s else s

def writePwr (off v m c : Nat) (s : State) : State :=
  if off < 0x40 then (if v % 4 = 3 ∨ off = 0 then s else requestDomain (off / 4) (v % 4) 0 s)
  else if off < 0x80 then
    modDom ((off - 0x40) / 4) (fun d => { d with ilk := d.ilk && !hasBit c 7, crcErr := d.crcErr && !hasBit c 3 }) s
  else match off with
    | 0x80 => writeOpPoint v m s
    | 0x84 => { s with pwr := { s.pwr with overrun := s.pwr.overrun && !hasBit c 1 } }
    | 0x88 => { s with pwr := { s.pwr with depthNext := hasBit v 4, canWake := BitVec.ofNat 2 (v / 4), rtcArmed := hasBit v 0 } }
    | 0x90 => { s with pwr := { s.pwr with retBanks := BitVec.ofNat 16 v } }
    | 0xA8 => { s with pwr := { s.pwr with alarm := s.pwr.alarm.extractLsb' 32 16 ++ BitVec.ofNat 32 v } }
    | 0xAC => { s with pwr := { s.pwr with alarm := BitVec.ofNat 16 v ++ s.pwr.alarm.extractLsb' 0 32 } }
    | _ => s

def writeFm (off v c : Nat) (s : State) : State :=
  match off with
  | 0x00 => { s with clk := { s.clk with fmRef := BitVec.ofNat 3 (v / 16), fmIn := BitVec.ofNat 4 v } }
  | 0x04 => { s with clk := { s.clk with fmGate := BitVec.ofNat 32 v } }
  | 0x08 => if hasBit c 0 && !s.clk.fmBusy then fmBegin s else s
  | 0x0C => { s with clk := { s.clk with fmOvf := s.clk.fmOvf && !hasBit c 4, fmSrcOff := s.clk.fmSrcOff && !hasBit c 3,
                                         fmErr := s.clk.fmErr && !hasBit c 2, fmDone := s.clk.fmDone && !hasBit c 1 } }
  | _ => s

def writeSns (x off v c : Nat) (s : State) : State :=
  let bank : Bank := if x = 0 then .a else .b
  match off with
  | 0x00 => modBank bank (fun k => { k with refErr := k.refErr && !hasBit c 17, supErr := k.supErr && !hasBit c 16 }) s
  | 0x0C => forceComparator bank (hasBit v 5) (BitVec.ofNat 5 v) s
  | _ => s

def writeRec (m v c : Nat) (s : State) : State :=
  let s := if hasBit m 0 then setSampleEn (hasBit v 0) s else s
  if hasBit c 1 then recFlush s else s

/-- The effect of a write (R492). -/
def writeReg (r : RegAt) (v m c : Nat) (s : State) : State :=
  match r.block with
  | 0 => writeClk r.off v m c s
  | 1 => writePwr r.off v m c s
  | 2 => writeFm r.off v c s
  | 3 => writeSns r.inst r.off v c s
  | 4 => modBridge r.inst (fun b => { b with evt := b.evt &&& ~~~(BitVec.ofNat 4 c) }) s
  | 7 => modCan r.inst (fun k => { k with lostArb := k.lostArb && !hasBit c 1, txErr := k.txErr && !hasBit c 0 }) s
  | 9 => writeRec m v c s
  | _ => s

/-! ### REG_READ and REG_WRITE (R492) -/

/-- The refusal of an access to a word: its domain is not on, or its gate closed. -/
def regRefusal (s : State) (r : RegAt) : Option (U16 × Byte) :=
  match regDom s r with
  | some n => if domOn s n then gate else some (ST_DOMAIN_OFF, ixByte n)
  | none => gate
where
  /-- The gate of the word's port (R408). -/
  gate : Option (U16 × Byte) :=
    match regGate s r with
    | some i => if gateOpen s i then none else some (ST_BUS_ERROR, 0xFF)
    | none => none

/-- The words from an address on; none where one is undefined. -/
def regsFrom (addr n : Nat) : Option (List RegAt) := (List.range n).mapM (fun i => regAt (addr + 4 * i))

/-- REG_READ. -/
def opRegRead (t : Nat) (addr : U32) (words : U16) (s : State) : State :=
  if words = 0 ∨ 256 < words.toNat then refuse t ST_OUT_OF_RANGE RS_NONE 0xFF 0 s
  else match regsFrom addr.toNat words.toNat with
    | none => refuse t ST_BAD_PARAM RS_NONE 0xFF 0 s
    | some rs => match rs.findSome? (regRefusal s) with
      | some (st, ix) => refuse t st RS_NONE ix 0 s
      | none => finish t ST_OK (rs.flatMap (fun r => leBytes 4 (readReg s r))) s

/-- The status of a write that the hardware refuses: of CLK_SEL that selects a source wrongly (R399), or of OP_POINT that asks for
point 1 of D3 while a bridge is in use (R421). -/
def writeStatus (s : State) (r : RegAt) (v m : Nat) : Option (U16 × Byte) :=
  if r.block = blkClk ∧ r.off = 4 then
    ([Pll.sys, .pwm, .net].findSome? (fun p => selRefusal s p (refOf v p))).map (fun st => (st, RS_NONE))
  else if r.block = blkPwr ∧ r.off = 0x80 then
    if hasBit m 4 && monRefused s (v / 16 % 2) then some (ST_WRONG_STATE, RS_BRIDGE_STATE) else none
  else none

/-- REG_WRITE: one read-modify-write; bits outside the mask keep their value, W1C and WO bits outside it are written 0. -/
def opRegWrite (t : Nat) (addr mask value : U32) (s : State) : State :=
  match regAt addr.toNat with
  | none => refuse t ST_BAD_PARAM RS_NONE 0xFF 0 s
  | some r =>
    let (rw, act) := regBits r
    let m := mask.toNat
    if m &&& (rw ||| act) ≠ m then refuse t ST_BAD_PARAM RS_NONE 0xFF 0 s
    else match regRefusal s r with
      | some (st, ix) => refuse t st RS_NONE ix 0 s
      | none =>
        let old := BitVec.ofNat 32 (readReg s r)
        let v := ((old &&& ~~~mask) ||| (value &&& mask)) &&& BitVec.ofNat 32 rw
        let bad := writeStatus s r v.toNat m
        let s := writeReg r v.toNat m (value.toNat &&& m &&& act) s
        match bad with
        | some (st, why) => refuse t st why 0xFF 0 s
        | none => finish t ST_OK (leBytes 4 (readReg s r)) s

/-- R492. -/
def execRegRead (h : Hdr) (addr : U32) (words : U16) (s : State) : Out :=
  .next (serve h 0x0900 (beBytes 4 addr.toNat ++ beBytes 2 words.toNat) false (fun t s => opRegRead t addr words s) s)
/-- R492. -/
def execRegWrite (h : Hdr) (addr mask value : U32) (s : State) : Out :=
  .next (serve h 0x0901 (beBytes 4 addr.toNat ++ leBytes 4 mask.toNat ++ leBytes 4 value.toNat) false
    (fun t s => opRegWrite t addr mask value s) s)

end Sys2Proof.Machine
end

