-- ==== Sys2Proof/Machine/Freeze.lean ====
section
/-! DEFINITION. The freeze, the snapshot and the snapshot port (R75, R493, R564 to R572, R603). -/

namespace Sys2Proof.Machine

/-! ### The snapshot image (Table 17.3) -/

/-- Events as the image holds them, in ESN order, those of the event ring and of the write buffer; `e` is the freeze's ESN, after all of
them (R37). -/
def lastEvents (s : State) (e : Esn) : List Entry :=
  let all := (s.recd.events ++ s.recd.buf.filter (fun x => x.kind != 1)).foldr (insertEntry e) []
  all.drop (all.length - 256)

/-- The 32 bytes of an event in the image. -/
def snapEventBytes (e : Entry) : List Byte :=
  beBytes 4 e.esn.toNat ++ beBytes 8 e.time ++ beBytes 2 e.code.toNat ++ beBytes 2 e.src.toNat ++ (entryData e.data).take 16

/-- Bytes 0x0000 to 0x003F; `was` is the device state before the freeze. -/
def snapHeader (s : State) (was src forced : Byte) (e : Esn) : List Byte :=
  [0x01, src, was, forced &&& 0x0F] ++ beBytes 4 e.toNat ++ beBytes 8 s.time.dev ++ beBytes 4 13572 ++
    [flagByte s.dev.split] ++ zeros 43

/-- Bytes 0x0000 to 0x34FF, the free bytes taken from index `f` on (log entry 3): the cores' registers, the field engines, the
PWM shadows and the soundpost words, whose layout the spec does not give, and the places of absent events. -/
def snapBody (s : State) (was src forced : Byte) (e : Esn) (f : Nat) : List Byte :=
  let pwm := fun (b : Nat) =>
    (List.range 7).flatMap (fun k => beBytes 4 (readPwm s b (4 * k))) ++ freeRun (f + 0x1080 + 128 * b + 28) 100
  let ev := (lastEvents s e).flatMap snapEventBytes
  snapHeader s was src forced e ++ (List.range 16).flatMap (fun n => beBytes 4 (readPwr s (0x40 + 4 * n))) ++
    freeRun (f + 0x80) 0x1000 ++ (List.range 8).flatMap pwm ++ freeRun (f + 0x1480) 0x80 ++
    ev ++ freeRun (f + 0x1500 + ev.length) (0x2000 - ev.length)

/-- The whole image. -/
def snapImageOf (s : State) (was src forced : Byte) (e : Esn) (f : Nat) : List Byte :=
  snapBody s was src forced e f ++ beBytes 4 (crc32 (snapBody s was src forced e f)).toNat

/-! ### Taking a freeze (R564 to R567) -/

/-- R75, R76, R564: a FREEZE edge is stored only while the device is up. -/
def execFreezePinRise (s : State) : Out :=
  .next (if isUp s then { s with recd := { s.recd with freezePin := true } } else s)

/-- R493: FREEZE; its reply is handed to its transport first. -/
def opFreeze (t : Nat) (s : State) : State :=
  let s := finish t ST_OK [] s
  { s with recd := { s.recd with freezeOpcode := true } }

/-- Step 1 on bridge `b`: the soundpost holds it by the freeze; the firmware, which halts, ends nothing. -/
def freezeBridge (b : Nat) (s : State) : State :=
  let br := bridgeAt s b
  if isActive br.st then
    reselect b (modBridge b (fun br => { br with st := .safe, ovr := br.ovr ++ [⟨.freeze, 3, 0⟩] }) s)
  else s

/-- A PMSM bridge in Capo. -/
def capoBridge (br : Bridge) : Bool := br.pmsm && (br.mode == .capoLow || br.mode == .capoHigh)

/-- The electrical speed of the machine of bridge `b` lies above 12,000 rpm (R567). -/
def freezeFast (s : State) (b : Nat) : Bool :=
  match bridgeMach s b with
  | some m => decide (12000 * 32768 < (machSpeed s m).natAbs * (mParN s m 0x06 * mParN s m 0x03))
  | none => false

/-- Step 1: the soundpost, the allocator, and the freeze watcher (R567, R603). -/
def freezeStep1 (s : State) : State :=
  let s := forEach (List.range 8) freezeBridge s
  let slow := fun (b : Nat) => !freezeFast s b
  { s with recd := { s.recd with
    watcher := (List.range 8).map (fun b => capoBridge (bridgeAt s b) && slow b)
    kl05 := (List.range 8).any (fun b => capoBridge (bridgeAt s b) && !slow b)
    freezeMask := 0 } }

/-- Step 5: the clocks stop; the chopper and the discharge switch are off, closed contactors run at their economiser duty. -/
def freezeStop (s : State) : State :=
  let s := forEach [0, 1] (fun g s => driveAux (2 * g + 1) false (driveAux (2 * g) false
    (modLg g (fun x => { x with chopOn := false, disOn := false }) s))) s
  { s with
    dev := { s.dev with ph := .frozen, resetAt := none }
    ctds := s.ctds.map (fun (c : Contactor) => { c with econ := c.econ || c.closed })
    safety := { s.safety with main := { s.safety.main with suspended := true }, mon := { s.safety.mon with suspended := true },
                               main2 := { s.safety.main2 with suspended := true } }
    pwr := { s.pwr with sby := none }
    time := holdTime s.time
    recd := { s.recd with freezePin := false, freezeOpcode := false } }

/-- R565: the freeze of Table 17.1. -/
def takeFreeze (forced : Byte) (s : State) : State :=
  let src := BitVec.ofNat 8 (bitAt s.recd.freezePin 0 + bitAt s.recd.freezeOpcode 1)
  let (f, s) := drawMany 13572 s
  let (e, s) := allocEsn s
  let was := devStateCode (devState s)
  let s := freezeStep1 s
  freezeStop { s with recd := { s.recd with
    snapValid := true, snapImage := snapImageOf s was src forced e f, snapEsn := e, snapTime := s.time.dev,
    snapEvents := lastEvents s e, snapPending := true } }

/-- R564, R565: a requested freeze is taken. -/
def execFreezeTake (forced : Byte) (s : State) : Out :=
  if isUp s && (s.recd.freezePin || s.recd.freezeOpcode) then .next (takeFreeze forced s)
  else .next s

/-! ### While FROZEN (R567, R568) -/

/-- The half-period, in D0 ticks, exceeds that of P_FW_SPEED - P_FW_HYS of the machine (R567). -/
def halfTooLong (s : State) (m halfTicks : Nat) : Bool :=
  let thr := fwPar s m 0 - fwPar s m 1
  decide (1966080000 < 2 * halfTicks * thr * mParN s m 0x06 * mParN s m 0x03)

/-- R567: the watcher of a bridge clears FAST; the bridge goes from Capo to freewheel unless an overvoltage override holds it. -/
def execFreezeWatcherFastClear (b : Fin 8) (halfTicks : Nat) (s : State) : Out :=
  match bridgeMach s b with
  | some m =>
    if isFrozen s && s.recd.watcher.getD b false && halfTooLong s m halfTicks then
      let s := { s with recd := { s.recd with watcher := s.recd.watcher.set b false } }
      .next (reselect b (modBridge b (fun br => { br with fast := false }) s))
    else .next s
  | none => .next s

/-- R568, R603: RESTART is refused while a PMSM bridge is in Capo with FAST set, and under KL-05. -/
def restartBlocked (s : State) : Bool := s.recd.kl05 || s.bridges.any (fun br => capoBridge br && br.fast)

/-- R568: RESTART, acted on as SNP_nCS rises; what the write buffer held is in the snapshot (R577). -/
def execRestart (vio : Bool) (second : Byte) (s : State) : Out :=
  if vio && second == 0x95 && isFrozen s && !restartBlocked s then
    let s := enterBoot .restart s
    .next { s with recd := { s.recd with buf := [], kl05 := false, watcher := List.replicate 8 false } }
  else .next s

/-! ### The snapshot port (Table 17.2) and SNAPSHOT_INFO -/

/-- The four bytes of STATUS. -/
def snpStatusBytes (s : State) : List Byte :=
  [BitVec.ofNat 8 (bitAt (isFrozen s) 0 + bitAt s.recd.snapValid 1 + bitAt (isFrozen s && restartBlocked s) 2 + bitAt s.recd.kl05 3), 0x01] ++
    beBytes 2 s.recd.freezeMask.toNat

/-- R571: STATUS. -/
def execSnpStatus (vio : Bool) (s : State) : Out := if vio then .next (emit (.snpBytes (snpStatusBytes s)) s) else .next s

/-- Image bytes from an address, 0x00 beyond the end or without a valid image. -/
def imageBytes (s : State) (addr count : Nat) : List Byte :=
  let img := if s.recd.snapValid then slice s.recd.snapImage addr count else []
  img ++ zeros (count - img.length)

/-- R571: READ. -/
def execSnpRead (vio : Bool) (addr : BitVec 24) (count : Nat) (s : State) : Out :=
  if vio then .next (emit (.snpBytes (imageBytes s addr.toNat count)) s) else .next s

/-- R570: SNAPSHOT_INFO; without a valid image the ESN and the time of its freeze are free values (log entry 3). -/
def opSnapshotInfo (t : Nat) (s : State) : State :=
  let (f, s) := drawMany 12 s
  let what := if s.recd.snapValid then beBytes 4 s.recd.snapEsn.toNat ++ beBytes 8 s.recd.snapTime else freeRun f 12
  finish t ST_OK ([flagByte s.recd.snapValid, 0x01, 0, 0] ++ beBytes 4 13572 ++ what) s

/-- R493. -/
def execFreeze (h : Hdr) (s : State) : Out := .next (serve h 0x0903 [] false opFreeze s)
/-- R570. -/
def execSnapshotInfo (h : Hdr) (s : State) : Out := .next (serve h 0x0904 [] false opSnapshotInfo s)

end Sys2Proof.Machine
end

