-- ==== Sys2Proof/Machine/Pwm.lean ====
section
/-! DEFINITION. The PWM timers (R167 to R191): shadow loading, on-times, the interlock, six-step toggles, ADC triggers with their
samples (R303 to R306, R310, R271), and carrier synchronisation. -/

namespace Sys2Proof.Machine

/-- The timer of bridge `b` runs: the module is up and the field-engine domain on. -/
def timerOn (s : State) (b : Nat) : Bool := isUp s && domOn s (8 + b)

/-- The control period of bridge `b`'s machine in ticks. -/
def ctrlPeriod (s : State) (b : Nat) : Nat := ctrlTicks s (bridgeInst s b)

/-- Bridge `b` loads twice in each carrier period (R169). -/
def doubleUpdate (s : State) (b : Nat) : Bool := bPwm s b 0x82 == 1

/-- The update interval of bridge `b` in ticks (R169). -/
def updInterval (s : State) (b : Nat) : Nat := bPwm s b 0x80 / (if doubleUpdate s b then 2 else 1)

/-- Update intervals in one control period, at least one (R172). -/
def updatesPerControl (s : State) (b : Nat) : Nat := max 1 (ctrlPeriod s b / updInterval s b)

/-! ### The place of the boundaries (R168, R169, R188) -/

/-- Steps since the counter of bridge `b` was last at 0, at the end of the present tick: the boundaries fall at E + off_b + j P_PWM_PER
(R188). -/
def carrierPhase (s : State) (b : Nat) : Nat :=
  let per : Int := 16 * bPwm s b 0x80
  let ofs : Int := 16 * roundDiv (bPwm s b 0x83 * bPwm s b 0x80) 65536
  (((nowSteps s : Int) + 15 - (s.net.epoch + ofs)).emod per).toNat

/-- A period boundary of bridge `b` falls into this tick, or into the last one where a slew of device time passed over it (R43, R188):
the counter at 0, or at its peak in double update (R169); none is taken twice. -/
def boundaryDue (s : State) (b : Nat) (peak : Bool) : Bool :=
  let half := 8 * bPwm s b 0x80
  let x := carrierPhase s b
  let at_ : Bool := if peak then doubleUpdate s b && decide (half ≤ x ∧ x < half + 32) else decide (x < 32)
  at_ && (match (bridgeAt s b).lastBoundary with
    | some t => decide (t + 2 ≤ s.time.dev)
    | none => true)

/-- Ticks from now to the next period boundary of bridge `b`. -/
def toBoundary (s : State) (b : Nat) : Nat :=
  let per := if doubleUpdate s b then 8 * bPwm s b 0x80 else 16 * bPwm s b 0x80
  (per - carrierPhase s b % per + 15) / 16

/-- The counter of bridge `b` in steps, at `p` steps of the carrier period (R168): up to P_PWM_PER/2 and down again, or straight up. -/
def counterAt (s : State) (b p : Nat) : Nat :=
  if bPwm s b 0x81 = 1 then p else min p (16 * bPwm s b 0x80 - p)

/-- The stage-3 request of a high side with compare value `c` at `p` steps of the carrier period (R168). -/
def requestAt (s : State) (b c p : Nat) : Bool :=
  if bPwm s b 0x81 = 1 then decide (p < c) else decide (c ≤ counterAt s b p ∧ c < 8 * bPwm s b 0x80)

/-! ### The request over an update interval (R143, R168, R174, R178 to R180) -/

/-- What a leg's high-side request does over an update interval: levels with their lengths in steps, in order; whether a pulse is
suppressed, and whether a refresh is inserted. -/
structure Plan where
  segs : List (Bool × Nat)
  sup : Bool
  ref : Bool

/-- The request all the interval long. -/
def Plan.all (T : Nat) (high sup ref : Bool) : Plan := ⟨[(high, T)], sup, ref⟩

/-- A single-update centre-aligned period of `T` steps with compare value `c` (R168), entered with the request at `lv`. The refresh leaves the
low side on for 1.5 us centred on the valley (R143, R180); a pulse or a gap shorter than P_MINPULSE after dead time is suppressed, the
refresh never (R178, R180). The low side's two parts of a period that it enters on are one on-time, which runs on across the valleys; where it
is not yet on, its first part is judged alone. With both sides too short the high side is not turned on (DESIGN CHOICE: log entry 38). -/
def centrePlan (T c rise fall mp : Nat) (refresh : Bool) (lv : Option Bool) : Plan :=
  let clamp := refresh && decide (2 * c < 9600 + fall)
  let up := if clamp then 4800 else min c (T / 2)
  let down := if clamp then T - (4800 + fall) else T - min c (T / 2)
  let r := down - up
  let pulse : Bool := decide (0 < r ∧ r < T)
  let low := if lv = some false then T - r - fall else up - fall
  let hs := pulse && decide (r - rise < mp)
  let ls := pulse && decide (low < mp) && !refresh
  if hs then .all T false true clamp else if ls then .all T true true clamp else ⟨[(false, up), (true, r), (false, T - down)], false, clamp⟩

/-- An edge-aligned period (R168), entered with the request at `lv`: the request is on from the boundary for `c` steps, without a dead time
where the high side is on already; the refresh ends at the next boundary (R180). -/
def edgePlan (T c rise fall mp : Nat) (refresh : Bool) (lv : Option Bool) : Plan :=
  let r := if refresh then min (min c T) (T - (9600 + fall)) else min c T
  let pulse : Bool := decide (0 < r ∧ r < T)
  let hs := pulse && decide ((if lv = some true then r else r - rise) < mp)
  let ls := pulse && decide (T - r - fall < mp) && !refresh
  let ref := decide (r < min c T)
  if hs then .all T false true ref else if ls then .all T true true ref else ⟨[(true, r), (false, T - r)], false, ref⟩

/-- The rising half of a double-update period, `H` steps with compare value `c`, entered with the request at `lv` (R169, R179): each part is
judged on its own against P_MINPULSE/2, the low side's less its dead time where it has to turn on at the valley. -/
def risingPlan (H c rise fall mp : Nat) (refresh : Bool) (lv : Option Bool) : Plan :=
  let up := min H (if refresh then max c 4800 else c)
  let a := H - up
  let pulse : Bool := decide (0 < a ∧ a < H)
  let hs := pulse && decide (2 * (a - rise) < mp)
  let ls := pulse && decide (2 * (if lv = some false then up else up - fall) < mp) && !refresh
  let ref := decide (min H c < up)
  if hs then .all H false true ref else if ls then .all H true true ref else ⟨[(false, up), (true, a)], false, ref⟩

/-- The falling half, entered with the request at `lv` (R169, R179): a second part below the threshold ends the pulse at the peak. -/
def fallingPlan (H c rise fall mp : Nat) (refresh lv : Bool) : Plan :=
  let b := H - min H (if refresh then max c (4800 + fall) else c)
  let pulse : Bool := decide (0 < b ∧ b < H)
  let hs := pulse && decide (2 * (if lv then b else b - rise) < mp)
  let ls := pulse && decide (2 * (H - b - fall) < mp) && !refresh
  let ref := decide (b < H - min H c)
  if hs then .all H false true ref else if ls then .all H true true ref else ⟨[(true, b), (false, H - b)], false, ref⟩

/-- The plan of a stage-3 request that stands at one level in six-step (R184): the refresh of a high leg, nothing suppressed. -/
def sixPlan (T fall : Nat) (edgeAligned double peak high refresh : Bool) : Plan :=
  let before := if edgeAligned || peak then 0 else 4800
  let after := if edgeAligned then 9600 + fall else if double && !peak then 0 else 4800 + fall
  if high && refresh then ⟨[(false, before), (true, T - before - after), (false, after)], false, true⟩ else .all T high false false

/-- The transitions of a request that starts at step `t` from level `lv`, none where neither side was requested. -/
def planEdges : Nat → Option Bool → List (Bool × Nat) → List (Nat × Bool)
  | _, _, [] => []
  | t, lv, (x, n) :: rest =>
    if n = 0 then planEdges t lv rest
    else if lv = some x then planEdges (t + n) lv rest
    else (t, x) :: planEdges (t + n) (some x) rest

/-- On-time of a side over a plan (R174): each stretch of its level, less the dead time where it begins with a change. -/
def planOn (high : Bool) (dead : Nat) : Option Bool → List (Bool × Nat) → Nat
  | _, [] => 0
  | lv, (x, n) :: rest =>
    if n = 0 then planOn high dead lv rest
    else (if x = high then (if lv = some high then n else n - dead) else 0) + planOn high dead (some x) rest

/-- What is left of a plan after its first `n` steps. -/
def planAfter : Nat → List (Bool × Nat) → List (Bool × Nat)
  | _, [] => []
  | n, (x, k) :: rest => if k ≤ n then planAfter (n - k) rest else (x, k - n) :: rest

/-- The level at the end of a plan. -/
def planEnd (p : List (Bool × Nat)) (lv : Option Bool) : Option Bool :=
  p.foldl (fun l x => if x.2 = 0 then l else some x.1) lv

/-- The request that phase `k` of bridge `b` ends with so far: high, low, or neither. -/
def legLevel (br : Bridge) (k : Nat) : Option Bool :=
  if br.reqHigh.getD k false then some true else if br.reqLow.getD k false then some false else none

/-- The plan of phase `k` of bridge `b` for the interval that begins, from compare values `c` (R168, R169, R184). -/
def legPlan (s : State) (b k : Nat) (peak : Bool) (c : Nat × Nat) : Plan :=
  let br := bridgeAt s b
  let l := bridgeLeg s b k
  let rise := deadTime s l true
  let fall := deadTime s l false
  let mp := bPwm s b 0x84
  let fresh := br.refreshAct.getD k false
  let dbl := doubleUpdate s b
  let T := 16 * updInterval s b
  if br.active.sixstep then sixPlan T fall (bPwm s b 0x81 == 1) dbl peak (br.sixHigh.getD k false) fresh
  else if bPwm s b 0x81 = 1 then edgePlan T c.1 rise fall mp fresh (legLevel br k)
  else if !dbl then centrePlan T c.1 rise fall mp fresh (legLevel br k)
  else if peak then fallingPlan T c.2 rise fall mp fresh (legLevel br k == some true)
  else risingPlan T c.1 rise fall mp fresh (legLevel br k)

/-- A compare event selected by P_CMP_EVT (R187): an ESN, and a record of kind 2 with its time. -/
def compareEvent (bit b time : Nat) (happened : Bool) (s : State) : State :=
  if happened && assigned s b && hasBit (bPwm s b 0x8C) bit then (recordAt time 0 0 2 (srcBridge b) 1 [] s).2 else s

/-- PWM_EVT takes a bit (Table 17.9). -/
def pwmEvent (bit b : Nat) (happened : Bool) (s : State) : State :=
  if happened then modBridge b (fun br => { br with evt := br.evt ||| BitVec.ofNat 4 (2 ^ bit) }) s else s

/-- The edges of phase `k` over an interval that begins at step `t` join those to be sent: complementary operation. -/
def planLeg (b k t : Nat) (p : Plan) (s : State) : State :=
  let l := bridgeLeg s b k
  let lv := legLevel (bridgeAt s b) k
  let rise := deadTime s l true
  let fall := deadTime s l false
  modBridge b (fun br => { br with
    sched := (planEdges t lv p.segs).foldl (fun l e => riseReq k (if e.2 then rise else fall) e.2 e.1 l) br.sched,
    onHigh := br.onHigh.set k (planOn true rise lv p.segs), onLow := br.onLow.set k (planOn false fall lv p.segs),
    reqHigh := br.reqHigh.set k (planEnd p.segs lv == some true), reqLow := br.reqLow.set k (planEnd p.segs lv == some false) }) s

/-- Independent operation of a RUNNING bridge (R167): the high-side request from its compare value, the low-side request, which is on below
its own, apart. -/
def planApart (b k t : Nat) (ph pl : Plan) (s : State) : State :=
  let l := bridgeLeg s b k
  let br := bridgeAt s b
  let side := fun (high : Bool) (es : List (Nat × Bool)) (x : List CmdEdge) => es.foldl (fun x e =>
    if e.2 == high then riseReq k (deadTime s l high) high e.1 x else fallReq k high e.1 x) x
  let lh := some (br.reqHigh.getD k false)
  let ll := some (!(br.reqLow.getD k false))
  modBridge b (fun br => { br with
    sched := side false (planEdges t ll pl.segs) (side true (planEdges t lh ph.segs) br.sched),
    onHigh := br.onHigh.set k (planOn true (deadTime s l true) lh ph.segs), onLow := br.onLow.set k (planOn false (deadTime s l false) ll pl.segs),
    reqHigh := br.reqHigh.set k (planEnd ph.segs lh == some true), reqLow := br.reqLow.set k (planEnd pl.segs ll == some false) }) s

/-- One leg of the interval that begins at step `t`; a leg in a float window has no edge (R225). -/
def formLeg (b k t : Nat) (peak : Bool) (s : State) : State :=
  let br := bridgeAt s b
  if br.active.sixstep && br.floating.getD k false then modBridge b (fun br => { br with onHigh := br.onHigh.set k 0, onLow := br.onLow.set k 0 }) s
  else
  let p := legPlan s b k peak (br.active.cmp.getD k (0, 0))
  if br.active.indep then planApart b k t p (legPlan s b k peak (br.active.cmpLow.getD k (0, 0))) s else planLeg b k t p s

/-- Whether a refresh is inserted, and a pulse suppressed, on any leg in the interval that begins. -/
def planFlags (s : State) (b : Nat) (peak : Bool) : Bool × Bool :=
  let ps := [0, 1, 2].map (fun k => legPlan s b k peak ((bridgeAt s b).active.cmp.getD k (0, 0)))
  (ps.any (·.ref), ps.any (·.sup))

/-- The edges of a bridge's three legs in the interval that begins (R143, R146, R167, R178, R180): only a RUNNING bridge that no override holds
has any from its compare values. A refresh and a suppression are events of the carrier period, recorded as it is complete (R187). -/
def formTimes (b : Nat) (peak : Bool) (s : State) : State :=
  let br := bridgeAt s b
  let fresh := [0, 1, 2].map (fun k => br.mode != .capoHigh && ((highOf s (bridgeLeg s b k)).warn || br.refreshForce))
  let s := modBridge b (fun br => { br with refreshAct := fresh }) s
  if br.st != .running || isHeld br then
    modBridge b (fun br => { br with onHigh := [0, 0, 0], onLow := [0, 0, 0], didRef := false, didSup := false }) s
  else
    let half := 8 * bPwm s b 0x80
    let t := nowSteps s + 15 - (if peak then carrierPhase s b - half else carrierPhase s b)
    let f := planFlags s b peak
    let s := forEach [0, 1, 2] (fun k s => formLeg b k t peak s) s
    let ref := f.1 || (peak && br.didRef)
    let sup := f.2 || (peak && br.didSup)
    let s := pwmEvent 3 b f.2 (pwmEvent 2 b f.1 (modBridge b (fun br => { br with didRef := ref, didSup := sup }) s))
    if doubleUpdate s b && !peak then s
    else compareEvent 3 b s.time.dev sup (compareEvent 2 b s.time.dev ref s)

/-! ### Shadow loading (R170, R171, R183) -/

/-- Low 32 bits of device time. -/
def nowLow (s : State) : U32 := BitVec.ofNat 32 s.time.dev

/-- Ticks from now to an instant, modulo 2^32; more than 2^31 counts as past (R184). -/
def ticksTo (s : State) (t : U32) : Nat := (t - nowLow s).toNat

/-- The update interval of bridge `b` in progress: the step at which it began, and whether that was the peak. -/
def intervalStart (s : State) (b : Nat) : Nat × Bool :=
  let x := carrierPhase s b
  let half := 8 * bPwm s b 0x80
  let peak := doubleUpdate s b && decide (half ≤ x)
  (nowSteps s + 15 - (if peak then x - half else x), peak)

/-- The stage-3 request of phase `k` in six-step is `high` from step `t` on (R174, R184): it passes through the refresh of the interval in
progress and through dead time, in place of what was still to come of the leg. -/
def setLeg (b k t : Nat) (high : Bool) (s : State) : State :=
  let br := bridgeAt s b
  let l := bridgeLeg s b k
  let dead := fun (x : Bool) => deadTime s l x
  let (t0, peak) := intervalStart s b
  let plan := fun (x : Bool) => (sixPlan (16 * updInterval s b) (dead false) (bPwm s b 0x81 == 1) (doubleUpdate s b) peak x
    (br.refreshAct.getD k false)).segs
  let old := planAfter (t - t0) (plan (br.sixHigh.getD k false))
  let new := planAfter (t - t0) (plan high)
  let lv := if (legLevel br k).isNone then none else (planAfter (t - t0 - 1) (plan (br.sixHigh.getD k false))).head?.map (·.1)
  let begun := fun (e : CmdEdge) => if e.on then e.time - dead e.high else e.time
  let kept := br.sched.filter (fun e => !(e.phase == k && decide (t ≤ begun e ∧ t0 < begun e)))
  modBridge b (fun br => { br with
    sched := (planEdges t lv new).foldl (fun l e => riseReq k (dead e.2) e.2 e.1 l) kept,
    onHigh := br.onHigh.set k (br.onHigh.getD k 0 + planOn true (dead true) lv new - planOn true (dead true) lv old),
    onLow := br.onLow.set k (br.onLow.getD k 0 + planOn false (dead false) lv new - planOn false (dead false) lv old),
    sixHigh := br.sixHigh.set k high, reqHigh := br.reqHigh.set k (planEnd new lv == some true),
    reqLow := br.reqLow.set k (planEnd new lv == some false) }) s

/-- Phase `k`'s stage-3 request changes, with no edge yet: while the leg floats or the interlock holds it, and at a load, whose interval is
formed from it. -/
def flipSix (b k : Nat) : State → State := modBridge b (fun br => { br with sixHigh := br.sixHigh.set k (!(br.sixHigh.getD k false)) })

/-- The first toggle of phase `k` is used up. -/
def dropToggle (b k : Nat) : State → State :=
  modBridge b (fun br => { br with active := { br.active with toggles := br.active.toggles.modify k (fun l => l.drop 1) } })

/-- The first toggle of phase `k` is executed at its step; a late one now. -/
def runToggle (b k : Nat) (s : State) : State :=
  let br := bridgeAt s b
  let step := match br.active.toggles.getD k [] with
    | t :: _ => if ticksTo s t.time = 0 then t.step.toNat else 0
    | [] => 0
  dropToggle b k (if br.held.getD k false || br.floating.getD k false then flipSix b k s
    else setLeg b k (nowSteps s + step) (!(br.sixHigh.getD k false)) s)

/-- Toggles of phase `k` that are already past when they load are executed at the load, each with F-0205 (R184). -/
def lateToggles (b k : Nat) (s : State) : State :=
  let late := ((bridgeAt s b).active.toggles.getD k []).filter (fun t => decide (2 ^ 31 < ticksTo s t.time))
  late.foldl (fun s _ => note 0x0205 (srcBridge b) [] (pwmEvent 1 b true (dropToggle b k (flipSix b k s)))) s

/-- Every shadow of the bridge loads (R170). Six-step begins from the rail at which each leg is clamped (R183). -/
def loadShadows (b : Nat) (s : State) : State :=
  let was := (bridgeAt s b).active.sixstep
  let s := modBridge b (fun br => { br with active := br.shadow, commit := false, miss := 0,
                                            cover := updatesPerControl s b - 1 }) s
  let br := bridgeAt s b
  if br.st == .running && br.active.sixstep then
    let s := if was then s else modBridge b (fun br => { br with sixHigh := br.reqHigh }) s
    forEach [0, 1, 2] (lateToggles b) s
  else s

/-- A boundary of a RUNNING bridge finds COMMIT clear (R171): the active values repeat; past the update intervals that the last
commit serves, the update is missed (log entry 17). -/
def missUpdate (b : Nat) (s : State) : State :=
  let br := bridgeAt s b
  if br.st == .running && !isHeld br then
    if 0 < br.cover then modBridge b (fun br => { br with cover := br.cover - 1 }) s
    else
      let s := pwmEvent 0 b true (modBridge b (fun br => { br with miss := min 255 (br.miss + 1) }) s)
      if br.miss = 0 then note 0x0202 (srcBridge b) [] s else s
  else s

/-- The PWM epoch takes a correction of SYNC, at most 8 steps while a bridge is active (R189). The first boundary of any bridge of the slave
takes it (DESIGN CHOICE: the spec says "its next period boundary" of the slave; log entry 51). -/
def fixEpoch (s : State) : State :=
  let d := if anyActive s (List.range 8) then clampInt (-8) 8 s.net.epochFix else s.net.epochFix
  { s with net := { s.net with epoch := s.net.epoch + d, epochFix := 0 } }

/-- A sequence that runs on bridge `b` uses independent operation (R149, R167, R254, R328). -/
def wantsIndep (s : State) (b : Nat) : Bool :=
  let br := bridgeAt s b
  (br.st == .precharging && br.pulseOk) || (match bridgeMach s b with
    | some m => (br.st == .armed && (machAt s m).ph == .plucking) || (br.st == .running && (machAt s m).ph == .discharging)
    | none => false)

/-- The field engine has selected the operation of a bridge that is not RUNNING by its next boundary (R167, R170; log entry
26). -/
def selectIndep (b : Nat) (s : State) : State :=
  let br := bridgeAt s b
  if br.st != .running && br.shadow.indep != wantsIndep s b then
    modBridge b (fun br => { br with shadow := { br.shadow with indep := !br.shadow.indep }, commit := true }) s
  else s

/-! ### The pulses of the pluck test (R254) -/

/-- Direction index of the `i`th pulse (R254): 0, 6, 1, 7 and so on. -/
def pulseDir (i : Nat) : Nat := if i % 2 = 0 then i / 2 else 6 + i / 2

/-- Phase `k` is high in the active vector at `n` × 30°, for even `n`. -/
def vectorHigh (n k : Nat) : Bool := decide ((n + 24 - 4 * k) % 12 < 3 ∨ 9 < (n + 24 - 4 * k) % 12)

/-- Direction `n` in the frame of set `j`, whose angle P_6P_SHIFT matches (R254). -/
def setDir (s : State) (m j n : Nat) : Nat := if j = 0 then n % 12 else (n + 12 - mParN s m 0x02 / 30) % 12

/-- The active vectors of a pulse in direction `n`, with their lengths in steps, of `T` steps in all: one vector, or two equal halves on the
two adjacent ones (R254). -/
def pulseVectors (n T : Nat) : List (Nat × Nat) :=
  if n % 2 = 0 then [(n, T)] else [((n + 11) % 12, T / 2), ((n + 1) % 12, T - T / 2)]

/-- The command edges of phase `k` over a pulse that begins at step `t`, with every switch off before and after it (R174, R254). -/
def pulseEdges (s : State) (b k t : Nat) (prev : Option Bool) : List (Nat × Nat) → List CmdEdge → List CmdEdge
  | [], l => fallReq k false t (fallReq k true t l)
  | (n, T) :: rest, l =>
    let high := vectorHigh n k
    pulseEdges s b k (t + T) (some high) rest
      (if prev = some high then l else riseReq k (deadTime s (bridgeLeg s b k) high) high t l)

/-- The pluck pulse of machine `m` that begins at tick `at_`: both sets of a six-phase machine together (R254). -/
def firePulse (m at_ : Nat) (s : State) : State :=
  match (machAt s m).pluck with
  | some p =>
    let s := modMach m (fun x => { x with pluck := some { p with start := some at_ } }) s
    forEach (List.range (nSets s m)) (fun j s =>
      let b := setBridge s m j
      let v := pulseVectors (setDir s m j (pulseDir p.resp.length)) (3200 * p.halfUs)
      forEach [0, 1, 2] (fun k => modBridge b (fun br => { br with sched := pulseEdges s b k (16 * at_) none v br.sched })) s) s
  | none => s

/-- The first pulse begins once independent operation is in force on every bridge of the machine (R167, R254). -/
def startPulses (b : Nat) (s : State) : State :=
  match bridgeMach s b with
  | some m =>
    match (machAt s m).pluck with
    | some p =>
      if (machAt s m).ph == .plucking && p.start.isNone && (machBridges s m).all (fun b => (bridgeAt s b).active.indep) then
        firePulse m s.time.dev s
      else s
    | none => s
  | none => s

/-- A control period of bridge `b`'s machine comes later in this tick: the commands that wait are of the same tick (R171). -/
def controlWaits (s : State) (b : Nat) : Bool :=
  s.pending.any (fun c => match c with
    | .controlPeriod m _ => (machBridges s m).contains b
    | _ => false)

/-- Load or miss, then the edges of the interval (R170, R171). -/
def finishBoundary (b : Nat) (peak : Bool) (s : State) : State :=
  let s := modBridge b (fun br => { br with lateCommit := false }) s
  formTimes b peak (if (bridgeAt s b).commit then loadShadows b s else missUpdate b s)

/-- A control period of bridge `b`'s machine begins in this tick, or in the last one where a slew passed over it; before arming, when none
has begun, a period boundary counts as one (R172, R235; DEDUCED, log entry 51). -/
def controlEdge (s : State) (b : Nat) : Bool :=
  match (bridgeAt s b).ctrlAt with
  | some t => decide ((s.time.dev - t) % ctrlPeriod s b < 2)
  | none => true

/-- At a control-period boundary of bridge `b`, items marked "run" take effect on a machine that is not RUNNING too (R235). -/
def restItems (b : Nat) (s : State) : State :=
  if controlEdge s b then
    forEach ((List.range 8).filter (fun m => mapped s m == b && !machRunning s m)) (fun m => modMach m (fun x => { x with oldItems := none })) s
  else s

/-- A period boundary of bridge `b`: the bridge's items of an earlier set end, a pending set has its commit instant (R486), the
shadows load or the update is missed, and the edges of the interval follow. A COMMIT still to come in this tick loads too (R171). The legs that
the interlock held resume from the requests then present (R175), in double update at the peak as well, which R169 makes a period
boundary (DESIGN CHOICE: R175 also says "for the rest of that carrier period"; log entry 51). -/
def periodBoundary (b : Nat) (peak : Bool) (s : State) : State :=
  let s := modBridge b (fun br => { br with
    oldItems := none, lastBoundary := some s.time.dev, held := [false, false, false],
    sched := br.sched.map (fun e => if br.held.getD e.phase false && e.on then { e with time := max e.time (nowSteps s) } else e) }) s
  let s := restItems b s
  let ofs := (roundDiv (bPwm s b 0x83 * bPwm s b 0x80) 65536).toNat
  let s := modBridge b (fun br => { br with
    per := bPwm s b 0x80, ofs := ofs,
    ctrlAt := if br.ctrlAt.isNone && (br.st == .armed || br.st == .running) then some s.time.dev else br.ctrlAt }) s
  let s := if instantBridge s == some b then commitNow s else s
  let s := compareEvent 0 b s.time.dev true (selectIndep b s)
  let s := if stOf s b == .running && controlWaits s b then
      modBridge b (fun br => { br with lateCommit := true }) s
    else startPulses b (finishBoundary b peak s)
  fixEpoch s

/-- R169, R170, R188: the counter is at 0, or at its peak in double update. -/
def execPeriodBoundary (b : Fin 8) (peak : Bool) (s : State) : Out :=
  if timerOn s b && boundaryDue s b peak then .next (periodBoundary b peak s) else .next s

/-- The counter of bridge `b` is at its peak: the boundary of this tick is that of the falling half (R169). -/
def atPeak (s : State) (b : Nat) : Bool :=
  let half := 8 * bPwm s b 0x80
  doubleUpdate s b && decide (half ≤ carrierPhase s b ∧ carrierPhase s b < half + 32)

/-- The control period of machine `m` is over: a boundary of this tick that waited for its COMMIT loads, or misses its update (R171). -/
def settleLate (m : Nat) (s : State) : State :=
  forEach (machBridges s m) (fun b s =>
    if (bridgeAt s b).lateCommit then finishBoundary b (atPeak s b) s else s) s

/-- R171: the fourth consecutive missed update: F-0203, raised by the timer. -/
def execMissedUpdateLimit (b : Fin 8) (s : State) : Out :=
  if timerOn s b && decide (4 ≤ (bridgeAt s b).miss) && stOf s b == .running then
    .next (raiseFault 0x0203 b (srcBridge b) (.bridge b) [] s)
  else .next s

/-! ### Command edges (R167, R174) -/

/-- A command edge reaches its island (stage 8). -/
def applyEdge (b : Nat) (e : CmdEdge) (s : State) : State :=
  let l := bridgeLeg s b e.phase
  let c := if e.high then highChan l else lowChan l
  if e.on then onOrRefuse c s else offCmd c e.time s

/-- An on command of a leg that the interlock holds: it does not leave the timer (R175). -/
def heldOn (br : Bridge) (e : CmdEdge) : Bool := e.on && br.held.getD e.phase false

/-- The command edges of bridge `b` whose tick has passed are sent; those within the longest keep-out are remembered (R186). An on command that
the interlock holds back waits for the boundary that releases its leg, unless its request ends before (R175). -/
def sendEdges (b : Nat) (s : State) : State :=
  let now := nowSteps s
  let br := bridgeAt s b
  let due := br.sched.filter (fun e => decide (e.time < now) && !heldOn br e)
  if due.isEmpty then s
  else
    let ended := fun (e : CmdEdge) => due.any (fun o => o.phase == e.phase && o.high == e.high && !o.on && decide (e.time ≤ o.time))
    let s := modBridge b (fun br => { br with
      sched := br.sched.filter (fun e => !decide (e.time < now) || (heldOn br e && !ended e)),
      sent := (br.sent ++ due).filter (fun e => decide (now ≤ e.time + 12816)) }) s
    due.foldl (fun s e => applyEdge b e s) s

/-- The gate of channel `c` in one tick (R152, R153): the two-level turn-off ends after P_TLTO_TIME, and a falling gate passes the off-level
plus 2.0 V, where the Miller clamp engages, on a tick that the spec leaves open (log entry 3). -/
def gateTick (c : Nat) (s : State) : State :=
  let x := chanAt s c
  match x.gate with
  | .tlto =>
    if x.gateAt + 20 * (chanGate s c 5).toNat ≤ s.time.dev then modChan c (fun x => { x with gate := .falling, gateAt := s.time.dev }) s else s
  | .falling =>
    let (i, s) := drawFree s
    if Config.freeBit i then modChan c (fun x => { x with gate := .off, gateAt := s.time.dev, clamp := true }) s else s
  | .off => s
  | .on => s
  | .softOff => s

/-- The float windows of phase `k` of bridge `b` in one tick (R225): both switches are held off while one lasts, and then take the request
that stands. -/
def floatTick (b k : Nat) (s : State) : State :=
  let br := bridgeAt s b
  let inside := br.active.sixstep && br.st == .running && !isHeld br &&
    (br.active.floats.getD k []).any (fun w => decide (w.1 ≤ s.time.dev ∧ s.time.dev < w.2))
  if inside == br.floating.getD k false then s
  else
    let s := modBridge b (fun br => { br with floating := br.floating.set k inside }) s
    if inside then
      modBridge b (fun br => { br with sched := fallReq k false (nowSteps s) (fallReq k true (nowSteps s) br.sched),
                                       reqHigh := br.reqHigh.set k false, reqLow := br.reqLow.set k false }) s
    else if br.active.sixstep && br.st == .running && !isHeld br && !br.held.getD k false then setLeg b k (nowSteps s) (br.sixHigh.getD k false) s
    else s

/-- The float windows, the command edges and the gates of one tick. -/
def gatesTick (s : State) : State :=
  let s := forEach (List.range 8) (fun b => forEach [0, 1, 2] (floatTick b)) s
  forEach (List.range 52) gateTick (forEach (List.range 8) sendEdges s)

/-! ### The interlock (R175, R176) -/

/-- The requests of a pulse on leg `l` of bridge `b` from now on: what is still to come, and the sides that are on. -/
def pulseRequests (s : State) (b l : Nat) : List CmdEdge :=
  let on := [false, true].filter (fun high => (chanAt s (if high then highChan l else lowChan l)).cmd)
  (bridgeAt s b).sched.filter (fun e => e.phase == legPhase s l) ++ on.map (fun high => ⟨nowSteps s, legPhase s l, high, true⟩)

/-- R175: both requests of a leg are on: both sides off, held off until the next boundary, and the refusal counted. F-0201 is recorded
here while the count is within P_XON_LIMIT; the refusal that exceeds it is REFUSAL_LIMIT's (log entry 18). A RUNNING bridge forms the
requests anew at the boundary; the pulses of another bridge keep theirs. -/
def execInterlockRefusal (leg : Fin 24) (s : State) : Out :=
  let b := legBridge s leg
  let k := legPhase s leg
  if timerOn s b && isActive (stOf s b) then
    let asked := if stOf s b == .running then [] else pulseRequests s b leg
    let s := driveLeg false .none leg s
    let s := modBridge b (fun br => { br with sched := br.sched ++ asked, xon := recentRefusals s b ++ [s.time.dev], xonLeg := leg.val,
                                              held := br.held.set k true, reqHigh := br.reqHigh.set k false, reqLow := br.reqLow.set k false,
                                              onHigh := br.onHigh.set k 0, onLow := br.onLow.set k 0 }) s
    if (bridgeAt s b).xon.length ≤ bPwm s b 0x86 then .next (note 0x0201 (srcBridge b) [ixByte leg] s) else .next s
  else .next s

/-- Number, record and act on a fault at a level of at least `lo`. -/
def raiseAtLeast (lo code ix : Nat) (src : U16) (sc : Scope) (data : List Byte) (s : State) : State :=
  let lv := max lo (faultLevel s code)
  let (e, s) := recordEvent code lv src data s
  let s := react lv code ix sc false RS_BRIDGE_STATE e s
  forEach ([0, 1].filter (abortedWinding s)) raise0508 s

/-- R176: more than P_XON_LIMIT refusals within 100 ms: F-0201 at L3, with the leg of the refusal that exceeds it. -/
def execRefusalLimit (b : Fin 8) (s : State) : Out :=
  let raised := (bridgeAt s b).ovr.any (fun o => o.src == .fault 0x0201)
  if timerOn s b && isActive (stOf s b) && decide (bPwm s b 0x86 < (recentRefusals s b).length) && !raised then
    .next (raiseAtLeast 3 0x0201 b (srcBridge b) (.bridge b) [ixByte (bridgeAt s b).xonLeg] s)
  else .next s

/-! ### Six-step (R184) -/

/-- R184: the leg's next toggle instant is reached. While the interlock holds the leg only its request changes (R175). -/
def execSixstepToggle (leg : Fin 24) (s : State) : Out :=
  let b := legBridge s leg
  let k := legPhase s leg
  let br := bridgeAt s b
  match br.active.toggles.getD k [] with
  | t :: _ =>
    let due : Bool := ticksTo s t.time == 0 || decide (2 ^ 31 < ticksTo s t.time)
    if timerOn s b && br.active.sixstep && br.st == .running && due then .next (runToggle b k s)
    else .next s
  | [] => .next s

/-! ### Triggers and samples (R185, R186, R303 to R306, R310, R271) -/

/-- The trigger time after the keep-out rule, relative to the original one: each edge within `K` ticks before the trigger, or
within the moved window, moves it to `K` after the edge (R186). -/
def movedTrigger (K : Int) (edges : List Int) : Int :=
  (edges.foldl (fun l e => insertSorted e l) []).foldl (fun t e => if e ≤ t ∧ t < e + K then e + K else t) 0

/-- The phases whose leg has an edge within `K` before the original trigger. -/
def edgePhases (K : Int) (edges : List (Nat × Int)) : List Bool :=
  [0, 1, 2].map (fun k => edges.any (fun e => e.1 == k && decide (e.2 ≤ 0 ∧ 0 < e.2 + K)))

/-- The command edges of phase `k` that its toggles and float windows in force still bring in six-step, in steps from this tick: the off
command at each change of the request, and the on command a dead time later (R174, R184, R225). -/
def sixEdges (s : State) (b k : Nat) : List Int :=
  let br := bridgeAt s b
  if br.active.sixstep && br.st == .running then
    let l := bridgeLeg s b k
    let at_ := fun (t : Toggle) => 16 * (t.time - nowLow s).toInt + t.step.toNat
    let toggles := (br.active.toggles.getD k []).map at_
    let windows := (br.active.floats.getD k []).map (fun w => (16 * ((w.1 : Int) - s.time.dev), 16 * ((w.2 : Int) - s.time.dev)))
    let high := fun (x : Int) => br.sixHigh.getD k false != decide ((toggles.filter (fun t => decide (t ≤ x))).length % 2 = 1)
    let change := fun (x : Int) => [x, x + deadTime s l (high x)]
    (toggles.filter (fun t => !windows.any (fun w => decide (w.1 ≤ t ∧ t < w.2)))).flatMap change ++
      windows.flatMap (fun w => w.1 :: change w.2)
  else []

/-- The command edges of bridge `b` near now: the phase, and the time in steps relative to this tick (R186). -/
def edgesNear (s : State) (b : Nat) : List (Nat × Int) :=
  ((bridgeAt s b).sent ++ (bridgeAt s b).sched).map (fun e => (e.phase, (e.time : Int) - nowSteps s)) ++
    [0, 1, 2].flatMap (fun k => (sixEdges s b k).map (fun x => (k, x)))

/-- Current of a phase input in amperes from its code, corrected by the bank's peg record (R304); none without a valid owner record. -/
def inputAmps (s : State) (bank : Bank) (input : Nat) (code : Int) : Option Rat :=
  (sensorRecord s bank input).map (fun r =>
    (corrected s bank (input / 3) code * 5 / 32768 - (r.1 : Rat) / 1000000) * ((r.2 : Rat) / 1000))

/-- The current in PU18 of the bridge's machine (R304); without a valid record the sample has no stated value (log entry 3). -/
def inputPu (s : State) (f b : Nat) (bank : Bank) (input : Nat) (code : Int) : Int :=
  match bridgeMach s b, inputAmps s bank input code with
  | some m, some i => ratPu18 (i / (mPar s m 0x04 : Rat))
  | none, some _ => satPu18 (Config.freeInt f)
  | none, none => satPu18 (Config.freeInt f)
  | some _, none => satPu18 (Config.freeInt f)

/-- The three currents of one bank. -/
def bankSamples (s : State) (f b : Nat) (bank : Bank) (codes : List Int) : List Int :=
  (bridgeLegs s b).zipIdx.map (fun p => inputPu s (f + p.2) b bank p.1 (codes.getD p.2 0))

/-- The sum of a bank's three currents in amperes. -/
def bankSum (s : State) (b : Nat) (bank : Bank) (codes : List Int) : Rat :=
  ((bridgeLegs s b).zipIdx.map (fun p => (inputAmps s bank p.1 (codes.getD p.2 0)).getD 0)).foldl (· + ·) 0

/-- The count of consecutive violations of R310. -/
def sumCount (s : State) (b : Nat) (busy edge : Bool) (sum : Rat) (n : Nat) : Nat :=
  if busy || edge then n
  else if (bSns s b 3 : Rat) < |sum| then min 255 (n + 1) else 0

/-- The value of a general input (R306), index `i` from 0 to 15, from the code of its converter, corrected by the bank's peg record. -/
def genValue (s : State) (i : Nat) (code : Int) : Int :=
  let mv := corrected s (if i < 8 then .a else .b) (i % 8) code * 5000 / 32768
  clampInt (-2147483648) 2147483647 (roundRat ((mv - par s (0x6F20 + i)) * par s (0x6F30 + i) / 1000))

/-- General input `b` of both banks is converted (R306). -/
def sampleGen (b : Nat) (o : TrigObs) (s : State) : State :=
  let s := if domOn s 6 && par s (0x6F10 + b) == 1 then modBank .a (fun k => { k with gen := k.gen.set b (genValue s b o.genA) }) s else s
  if domOn s 7 && par s (0x6F10 + 8 + b) == 1 then modBank .b (fun k => { k with gen := k.gen.set b (genValue s (8 + b) o.genB) }) s else s

/-- Interface `p` latches its angle, speed and direction for the machine that it serves (R271). -/
def latchNow (p : Nat) (s : State) : State :=
  match posMach s p with
  | some m => modPos p (fun x => { x with latTheta := angleNow s p, latSpeed := ifSpeedPu s m, latFwd := x.fwd, latchAt := none }) s
  | none => s

/-- Trigger 0 of the lower bridge of a machine latches its interface, at the instant to which R186 has moved it (R271). -/
def latchPosition (b : Nat) (s : State) : State :=
  match bridgeMach s b with
  | some m =>
    if hasIf s m && (machBridges s m).head? == some b then
      let at_ := (bridgeAt s b).smp.time
      if at_ ≤ s.time.dev then latchNow (machIf s m) s else modPos (machIf s m) (fun x => { x with latchAt := some at_ }) s
    else s
  | none => s

/-- The latch of a moved trigger 0. -/
def latchTick (p : Nat) (s : State) : State :=
  if (posAt s p).latchAt.any (fun t => decide (t ≤ s.time.dev)) then latchNow p s else s

/-- The samples that a trigger takes, and the ticks by which the keep-out moves it (R186). -/
def trigSamples (s : State) (f b : Nat) (o : TrigObs) : Samples :=
  let K : Int := 16 * bPwm s b 0x88
  let t := (movedTrigger K ((edgesNear s b).map (·.2)) + 15) / 16
  let pass : Bool := decide ((toBoundary s b : Int) < t)
  { iA := bankSamples s f b .a o.codeA
    iB := bankSamples s (f + 3) b .b o.codeB
    edge := if pass then edgePhases K (edgesNear s b) else [false, false, false]
    vph := o.vph
    moved := if pass then 0 else t.toNat
    time := s.time.dev + (if pass then 0 else t.toNat) }

/-- Trigger 0 of bridge `b`: the samples of the current loop, the current sums, the general inputs, the position latch. -/
def trigger0 (b : Nat) (o : TrigObs) (s : State) : State :=
  let (f, s) := drawMany 6 s
  let x := trigSamples s f b o
  let edge := x.edge.any id
  let s := modBridge b (fun br =>
    { br with smp := x, vdc := if givesReading s b then o.vdc else none,
              isumA := sumCount s b br.recalA edge (bankSum s b .a o.codeA) br.isumA,
              isumB := sumCount s b br.recalB edge (bankSum s b .b o.codeB) br.isumB }) s
  let s := modBridge b (fun br => { br with sumA := br.sumA && decide (0 < br.isumA), sumB := br.sumB && decide (0 < br.isumB) }) s
  latchPosition b (sampleGen b o s)

/-- Triggers 1 to 3 (R305). -/
def triggerX (b n : Nat) (o : TrigObs) (s : State) : State :=
  let (f, s) := drawMany 6 s
  let x := trigSamples s f b o
  modBridge b (fun br => { br with smpX := br.smpX.set (n - 1) x }) s

/-- Trigger `n` of a bridge is in use: trigger 0 always, 1 to 3 unless their position disables them (R185). -/
def trigUsed (s : State) (b n : Nat) : Bool := n == 0 || bPwm s b (0x88 + n) != 65535

/-- P_ADC_OFS of bridge `b` in ticks. -/
def adcOffset (s : State) (b : Nat) : Int := bParId s b (0x3000 + 0x100 * bridgeInst s b + 0x87)

/-- The instant of trigger `n` falls into this tick, or into the last one where a slew passed over it (R185): trigger 0 P_ADC_OFS after a
control-period boundary; where those have not begun, it is taken at any tick (DESIGN CHOICE: the spec does not say when it fires before
arming; log entry 51); triggers 1 to 3 at their position of the carrier period, P_ADC_OFS later. -/
def trigDue (s : State) (b n : Nat) : Bool :=
  if n = 0 then
    match (bridgeAt s b).ctrlAt with
    | some t => decide (((s.time.dev : Int) - adcOffset s b - t).emod (ctrlPeriod s b) < 2)
    | none => true
  else
    let per : Int := 16 * bPwm s b 0x80
    decide (((carrierPhase s b : Int) - roundDiv (bPwm s b (0x88 + n) * per) 65536 - 16 * adcOffset s b).emod per < 32)

/-- The monitor pair takes the samples of a RUNNING machine at the triggers of its lower bridge (R305, R347). -/
def monitorTrigger (b n : Nat) (s : State) : State :=
  match bridgeMach s b with
  | some m => if monUp s && machRunning s m && setBridge s m 0 == b then monitorSample m n s else s
  | none => s

/-- R185: a trigger fires. On a DISABLED bridge, trigger 0 is the bank's own sample of the general input (R306, log entry 49). -/
def execAdcTrigger (b : Fin 8) (obs : TrigObs) (s : State) : Out :=
  if obs.codeA.length ≠ 3 ∨ obs.codeB.length ≠ 3 ∨ obs.vph.length ≠ 3 then .fault (.illFormed "ADC_TRIGGER")
  else if timerOn s b && stOf s b != .disabled && trigUsed s b obs.trig && trigDue s b obs.trig then
    let n := obs.trig.val
    let s := if n = 0 then trigger0 b obs s else triggerX b n obs s
    .next (compareEvent 1 b (trigSample s b n).time true (monitorTrigger b n s))
  else if isUp s && stOf s b == .disabled && obs.trig.val == 0 then .next (sampleGen b obs s)
  else .next s

/-! ### Carrier synchronisation (R189, R190) -/

/-- Steps by which a SYNC pulse differs from the same multiple of P_SYNC_PER as the present epoch places it (R189; log
entry 19). -/
def syncDifference (s : State) (arrival : Nat) : Int :=
  let per : Int := parN s 0x3F00 * 16
  let at_ := (arrival : Int) - parN s 0x3F01 - s.net.epoch
  at_ - roundDiv at_ per * per

/-- R189: a slave judges the arrival of SYNC_IN; its epoch is corrected at the next period boundary. -/
def execSyncPulse (arrival : Nat) (s : State) : Out :=
  if isUp s && isSlave s then
    let d := syncDifference s arrival
    .next { s with net := { s.net with epochFix := d, syncLost := s.net.syncLost && decide (320 < |d|),
                                       syncDiff := clampInt (-32768) 32767 (roundDiv (d * 25) 16) } }
  else .next s

/-- R190: SYNC absent, or off by more than 50 ns, for P_SYNC_LOSS consecutive periods: F-0204 once. -/
def execSyncLoss (periods : Nat) (s : State) : Out :=
  if isUp s && isSlave s && decide (parN s 0x3F02 ≤ periods) && !s.net.syncLost then
    .next (note 0x0204 (srcDom 1) [] { s with net := { s.net with syncLost := true } })
  else .next s

end Sys2Proof.Machine
end

