-- ==== Sys2Proof/Machine/Control.lean ====
section
/-! DEFINITION. Field-oriented control (R193 to R234): the control period of Table 6.3, the reference update of the main pair,
six-step with its entry and exit, zero-crossings, degraded operation, field-engine rotation, and the ramps of torque. Per-unit quantities are PU18 codes
where State holds them and rationals in between. -/

namespace Sys2Proof.Machine

/-! ### Torque limits of the main pair (R33, R316, R317, R323, R605) -/

/-- A factor between 0 and 1. -/
def unit01 (x : Rat) : Rat := max 0 (min 1 x)

/-- The factor on the regenerative bound of group `g`: overvoltage warning and resistor energy. -/
def regenFactor (s : State) (g : Nat) : Rat :=
  let x := lgAt s g
  let ov : Rat := match x.vlg with
    | some v =>
      if x.ovWarn then unit01 (((lgPar s g 3 : Rat) - (v : Rat) / 1000) / ((lgPar s g 3 : Rat) - (lgPar s g 2 : Rat))) else 1
    | none => 1
  let en : Rat := if x.energyFlag then unit01 (10 - 10 * (x.energy : Rat) / (lgPar s g 8 : Rat)) else 1
  ov * en

/-- The factor on the motoring bound of group `g`: undervoltage. -/
def motorFactor (s : State) (g : Nat) : Rat :=
  let x := lgAt s g
  match x.vlg with
  | some v => if x.uvLim then unit01 (((v : Rat) / 1000 - (lgPar s g 4 : Rat) + 100) / 100) else 1
  | none => 1

/-- The torque that the current limit leaves of a bound, as the thermal derating has it (R33, R387). -/
def underCurrentLimit (s : State) (m : Nat) (t : Int) : Int :=
  let n := (controlledSets s m).length
  let r := if isPmsm s m then (pmsmRefs s m n t).1 else imRefs s m n t
  let l := limitCurrents (currentLimit s m) r.1 r.2
  if l = r then t else ratPu18 (torqueOf s m n l.1 l.2)

/-- The lower and upper torque bound of the envelope and the DC-link limits: a factor multiplies the bound that the other limits leave
(R33, R316, R317, R605). -/
def linkBounds (s : State) (m : Nat) : Int × Int :=
  let x := machAt s m
  let g := machLg s m
  let spd := machSpeed s m
  let moving := !belowTenths spd 10
  let fr := regenFactor s g
  let fm := motorFactor s g
  let lo := if moving && decide (0 < spd) then fr else fm
  let hi := if moving && decide (spd < 0) then fr else fm
  let part := fun (f : Rat) (t : Int) => if f = 1 then t else roundRat ((underCurrentLimit s m t : Rat) * f)
  (part lo x.envLo, part hi x.envHi)

/-- A torque within the bounds of the envelope and the DC link. -/
def withinBounds (s : State) (m : Nat) (t : Int) : Int := max (linkBounds s m).1 (min (linkBounds s m).2 t)

/-- A torque in PU18 within the limits of the main pair: the envelope's and the DC link's, and half of rated torque where a RETIRE or a
rotation asks for it (R33, R232, R557). -/
def limitedTorque (s : State) (m : Nat) (t : Int) : Int :=
  let t := withinBounds s m t
  if (machAt s m).halfLim then clampInt (-16384) 16384 t else t

/-! ### The reference update (R201 to R203, R213, R252) -/

/-- The speed loop's gain in per unit of torque per rad/s (R201). -/
def speedGain (s : State) (m : Nat) : Rat :=
  2 * Config.pi * ((mPar s m 0x2D : Rat) / 10) * ((mPar s m 0x2E : Rat) / 1000) / (mPar s m 0x08 : Rat)

/-- One run of the speed loop (R201): the torque reference after limits. -/
def speedLoop (m : Nat) (v : Int) (s : State) : State :=
  let x := machAt s m
  let kp := speedGain s m
  let err := ((v : Rat) / 100 - speedRpm s m) * 2 * Config.pi / 60
  let integ := if x.inSpeed then x.integ else puRat x.tRef - kp * err
  let raw := kp * err + integ
  let clamped := ratPu18 (clampRat 1 raw)
  let t := limitedTorque s m clamped
  let kept : Bool := decide (|raw| ≤ 1) && t == clamped
  let ki := kp * 2 * Config.pi * ((mPar s m 0x2D : Rat) / 10) / 4
  modMach m (fun x => { x with tCmd := t, inSpeed := true, integ := if kept then integ + ki * err / 2000 else integ }) s

/-- The torque reference that the latest reference asks for, after limits. -/
def takeTorque (m : Nat) (s : State) : State :=
  match (machAt s m).ref with
  | .speed v => speedLoop m v s
  | .torque t => modMach m (fun x => { x with tCmd := limitedTorque s m t, inSpeed := false }) s
  | .none => modMach m (fun x => { x with tCmd := 0, inSpeed := false }) s

/-- A ramp at P_TQ_RAMP leads the torque now: an orderly stop, DISARM, RETIRE, STANDBY, R261, a rotation, or the torque held
through a start (R252). -/
def ramping (x : Mach) : Bool := x.ramp != .none || x.rot == .ramping || decide (x.matchAge < 9)

/-- The torque that machine `m` goes to. -/
def torqueGoal (s : State) (m : Nat) : Int :=
  let x := machAt s m
  if !isPmsm s m && !x.fluxOk then 0
  else match x.ramp with
    | .none => if x.matchAge < 8 then 0 else if x.rot == .ramping then clampInt (-16384) 16384 x.tCmd else x.tCmd
    | .retire _ _ => clampInt (-16384) 16384 x.tCmd
    | .stop _ => 0
    | .disarm => 0
    | .standby => 0
    | .coast => 0

/-- The torque reference becomes current references (R202, R203, R213), within the current limit. -/
def convertTorque (m : Nat) (s : State) : State :=
  let t := (machAt s m).tRef
  let n := (controlledSets s m).length
  let r := if isPmsm s m then pmsmRefs s m n t else (imRefs s m n t, true)
  let l := limitCurrents (currentLimit s m) r.1.1 r.1.2
  modMach m (fun x => { x with idRef := l.1, iqRef := l.2, tLim := |torqueOf s m n l.1 l.2|, curLim := l != r.1 || !r.2 }) s

/-- R201: the main pair converts the reference of a RUNNING machine; a torque that a ramp leads keeps within the bounds too (R316,
R317). -/
def referenceUpdate (m : Nat) (s : State) : State :=
  let s := takeTorque m (modMach m (fun x => { x with frets := machFrets s m }) s)
  let t := if ramping (machAt s m) then withinBounds s m (machAt s m).tRef else torqueGoal s m
  convertTorque m (modMach m (fun x => { x with tRef := t }) s)

/-- The machine is RUNNING under torque control, not in a winding discharge. -/
def drives (s : State) (m : Nat) : Bool := machRunning s m && (machAt s m).ph != .discharging

/-- R201: every new torque reference, and every 500 us. -/
def execReferenceUpdate (m : Fin 8) (s : State) : Out :=
  if mainUp s && drives s m then .next (referenceUpdate m s) else .next s

/-! ### The angle of the control period (R197, R212, R224 to R227, R259 to R263) -/

/-- The speed limit of zero-crossing in tenths of a percent (R227). -/
def zcLimit (s : State) (m : Nat) : Nat := max 50 (mParN s m 0x37)

/-- The observer takes the angle from the zero-crossings (R226, R227); F-0410, or F-0411 where no observer is configured. -/
def leaveCrossings (m : Nat) (s : State) : State :=
  let s := modMach m (fun x => { x with zcAngle := false, zcOk := 0, zcMiss := 0, srcAge := 0 }) s
  if mPar s m 0x18 = 0 then raiseFault 0x0411 m (srcMach m) (.machine m) [] s
  else raiseFault 0x0410 m (srcMach m) (.machine m) [] s

/-- The mode of the observer by speed (R260, R261). An injection in progress goes on where a PSET or CSET that became active has cleared the
stored saliency (DESIGN CHOICE: the spec does not say; log entry 51). -/
def observerMode (m : Nat) (s : State) : State :=
  let x := machAt s m
  let spd := machSpeed s m
  if !x.inject && belowTenths spd (mParN s m 0x69) then
    if injectionOk s m then modMach m (fun x => { x with inject := true, srcAge := 0 }) s
    else coastMachine m s
  else if x.inject && aboveTenths spd (mParN s m 0x6A) then
    modMach m (fun x => { x with inject := false, srcAge := 0 }) s
  else modMach m (fun x => { x with raised := x.raised.erase 0x040B }) s

/-- A machine has an observer: a PMSM that P_ANG_SRC lets use one (R240). -/
def hasObserver (s : State) (m : Nat) : Bool := isPmsm s m && mPar s m 0x18 != 0

/-- The injected voltage of the next control period in per unit: ±P_INJ_V along the estimated d axis, ramped over 16 control periods
(R259, R260). -/
def injected (s : State) (m : Nat) : Rat :=
  let x := machAt s m
  if isPmsm s m && !usesIf s m then
    (mPar s m 0x68 : Rat) / 1000 * (x.injRamp : Rat) / 16 * (if x.injPos then 1 else -1)
  else 0

/-- The observer's loop takes an error in ANG18 counts, from the angle it predicts (R259); its gains are not stated (log entry 20). -/
def Obs.track (bw : Nat) (pred err : Rat) (o : Obs) : Obs :=
  let g := Config.pllGains bw
  { o with theta := pred + g.1 * err, speed := o.speed + g.2 * err }

/-- Back-EMF mode over one control period (R259): the voltage less R_s i integrated, corrected towards the current-model flux with a
corner of P_OBS_BW / 10; less L_q i it is the active flux, whose angle the loop follows. -/
def observeEmf (s : State) (m : Nat) (pred : Rat) (v i : Rat × Rat) (o : Obs) : Obs :=
  let T : Rat := (ctrlPeriod s m : Rat) / 400000000
  let th := ang18 (roundRat pred)
  let d := park i th
  let f := machFluxes s m (ratPu18 d.1) (ratPu18 d.2)
  let model := unpark f th
  let corner := 2 * Config.pi * (mPar s m 0x6B : Rat) / 10
  let w := omegaBase s m
  let a := o.psiA + (w * (v.1 - rsPu s m * i.1) + corner * (model.1 - o.psiA)) * T
  let b := o.psiB + (w * (v.2 - rsPu s m * i.2) + corner * (model.2 - o.psiB)) * T
  let xa := a - lPu s m 0x0B * i.1
  let xb := b - lPu s m 0x0B * i.2
  { o with psiA := a, psiB := b, active := Config.sqrt (xa * xa + xb * xb) }.track (mParN s m 0x6B) pred
    (angDiff (Config.atan18 xa xb) th)

/-- Injection mode over one control period (R259): the difference of successive q currents, with the sign of the injected voltage,
drives the loop. The flux follows the current model. -/
def observeInjection (s : State) (m : Nat) (pred : Rat) (i : Rat × Rat) (o : Obs) : Obs :=
  let x := machAt s m
  let d := park i (ang18 (roundRat pred))
  let sign : Rat := if x.injPos then 1 else -1
  let consts := [psiMPu s m, lPu s m 0x0A, lPu s m 0x0B]
  let dd := ratPu18 d.1 - o.lastD
  let dq := ratPu18 d.2 - o.lastQ
  let p := unpark (machFluxes s m (ratPu18 d.1) (ratPu18 d.2)) (ang18 (roundRat pred))
  { o with psiA := p.1, psiB := p.2,
           share := Config.injShare dd dq (mParN s m 0x68) (x.saliency.getD 0) consts }.track (mParN s m 0x6B) pred
    (Config.injScale (mParN s m 0x68) consts * sign * (dq : Rat))

/-- The observer is out of the limits of R262: in back-EMF mode the active flux, in injection mode the response. -/
def Obs.out (s : State) (m : Nat) (o : Obs) : Bool :=
  if (machAt s m).inject then decide (2 * o.share < 1)
  else decide ((mPar s m 0x6C : Rat) / 100 * psiMPu s m < |o.active - psiMPu s m|)

/-- The observer of machine `m` over one control period, in the mode that the speed has chosen (R259, R260). -/
def observe (m : Nat) (s : State) : State :=
  if hasObserver s m then
    let x := machAt s m
    let js := controlledSets s m
    let pred := x.obs.theta + elecHz s m 32768 * x.obs.speed * (ctrlPeriod s m : Rat) * 262144 / 400000000
    let i := alphaBeta s m js (loopCurrents s)
    let i := (i.1 / 32768, i.2 / 32768)
    let v := alphaBeta s m js (fun b => (bridgeAt s b).smp.vph)
    let base : Rat := (mPar s m 0x05 : Rat) * 1000
    let o := if x.inject then observeInjection s m pred i x.obs else observeEmf s m pred (v.1 / base, v.2 / base) i x.obs
    let d := park i (ang18 (roundRat o.theta))
    let bad := if o.out s m then some (o.badSince.getD s.time.dev) else none
    modMach m (fun x => { x with obs := { o with lastD := ratPu18 d.1, lastQ := ratPu18 d.2, badSince := bad },
                                 raised := if bad.isNone then x.raised.erase 0x040A else x.raised }) s
  else s

/-- The angle that the loop of R225 extrapolates from the latest valid crossing, at a device time. -/
def crossingTheta (s : State) (m t : Nat) : Int :=
  let x := machAt s m
  (x.zcTheta : Int) + roundRat (elecHz s m 32768 * x.zcSpd * ((t : Rat) - (x.zcTime : Rat)) * 262144 / 400000000)

/-- The angle from the source in use, before any slew: an interface that has become invalid is extrapolated from its last angle and
speed (R286). -/
def sourceAngle (s : State) (m : Nat) : Nat :=
  let x := machAt s m
  if !isPmsm s m then x.theta
  else if x.six && x.zcAngle then ang18 (crossingTheta s m (bridgeAt s (setBridge s m 0)).smp.time)
  else if usesIf s m then
    if ifAngleOk s m then ifElecAngle s m else ang18 ((x.theta : Int) + turned s m (ctrlPeriod s m))
  else ang18 (roundRat x.obs.theta)

/-- At most 728 counts of a slew are taken back (R227). -/
def slewStep (d : Int) : Int := if 728 < d then d - 728 else if d < -728 then d + 728 else 0

/-- Half-ticks from the trigger-0 sample of bridge `b` to the middle of the interval in which what is committed now applies (R197):
t_load is the boundary of this tick that waits for its COMMIT, or the next one. -/
def halfToMiddle (s : State) (m b : Nat) : Int :=
  let tLoad := s.time.dev + (if (bridgeAt s b).lateCommit then 0 else toBoundary s b)
  2 * ((tLoad : Int) - (bridgeAt s b).smp.time) + (max (ctrlPeriod s m) (updInterval s b) : Nat)

/-- Step 2 of Table 6.3: angle and speed, with the slew of a change of source, and the compensation of R197. -/
def takeAngle (m : Nat) (s : State) : State :=
  let s := observe m s
  let s := if isPmsm s m && !usesIf s m then
      observerMode m (modMach m (fun x => { x with spd := ratPu18 x.obs.speed, spdKnown := true }) s)
    else if hasIf s m then modMach m (fun x => { x with spd := (posAt s (machIf s m)).latSpeed, spdKnown := true }) s
    else s
  let x := machAt s m
  let src := sourceAngle s m
  let old := ang18 ((x.theta : Int) + turned s m (ctrlPeriod s m))
  let slew := if isPmsm s m then slewStep (if x.srcAge = 0 then angDiff old src else x.slew) else 0
  let th := ang18 ((src : Int) + slew)
  let comp := turned s m ((halfToMiddle s m (setBridge s m 0) : Rat) / 2)
  modMach m (fun x => { x with theta := th, slew := slew, srcAge := min 21 (x.srcAge + 1), thetaC := ang18 ((th : Int) + comp) }) s

/-- Temperature-corrected rotor time constant of an induction machine in seconds (R212). -/
def rotorTau (s : State) (m : Nat) : Rat :=
  let rr := (mPar s m 0x12 : Rat) / 1000000 * (1 + (mPar s m 0x14 : Rat) / 100000 * (windingTemp s m - 20))
  (mPar s m 0x11 : Rat) / 10000000 / rr

/-- R212, R213: the current model of an induction machine over one control period; without flux the slip has no stated value (log
entry 3). -/
def imModel (f m : Nat) (s : State) : State :=
  let x := machAt s m
  let T : Rat := (ctrlPeriod s m : Rat) / 400000000
  let tau := rotorTau s m
  let lm := lPu s m 0x10
  let psi := x.psiR + (lm * puRat x.iD - x.psiR) * T / tau
  let slip := if psi = 0 then puRat (Config.freeInt f) else lm * puRat x.iQ / (tau * psi)
  let s := modMach m (fun x => { x with psiR := psi, slip := slip }) s
  let adv := turned s m (ctrlPeriod s m)
  let reached := decide (9 * fluxRef s m ≤ 10 * psi)
  modMach m (fun x => { x with theta := ang18 ((x.theta : Int) + adv), fluxOk := x.fluxOk || reached }) s

/-! ### Ramps (R232, R252, R604, R423, R479) -/

/-- PU18 codes of torque by which P_TQ_RAMP allows a change in one control period. -/
def rampStep (s : State) (m : Nat) : Int :=
  max 1 (roundDiv (mPar s m 0x2A * 32768 * ctrlPeriod s m) 400000000)

/-- A value moves towards a goal by at most `d`. -/
def approach (d x goal : Int) : Int := if x + d < goal then x + d else if goal < x - d then x - d else goal

/-- The ramp of a machine advances by one control period; a ramp from 0 after a start ends at its goal (R252). -/
def advanceRamp (m : Nat) (s : State) : State :=
  let x := machAt s m
  let goal := torqueGoal s m
  if ramping x then
    let t := approach (rampStep s m) x.tRef goal
    modMach m (fun x => { x with tRef := t,
                                 matchAge := if x.matchAge < 8 then x.matchAge + 1
                                             else if t == goal then 9 else x.matchAge }) s
  else if goal == 0 && x.tRef != 0 && !isPmsm s m then modMach m (fun x => { x with tRef := 0 }) s
  else s

/-- R261: the torque is at zero and switching stops: the machine is back in ARMED. -/
def endCoast (m : Nat) (s : State) : State :=
  let x := machAt s m
  if x.ramp == .coast && x.tRef == 0 then
    let s := machSwitchesOff m s
    let s := forEach ((machBridges s m).filter (fun b => stOf s b == .running))
      (fun b => modBridge b (fun br => { br with st := .armed })) s
    let ref := x.ref
    let at_ := s.time.dev
    modMach m (fun y => { y with leftRun := some at_, ref := ref, bound := x.bound }) (machineLeaves m s)
  else s

/-! ### References of the control period (R205, R206, R230, R328) -/

/-- Torque of the safed set of a degraded machine in per unit, from bank A's currents (R230). -/
def safedTorque (s : State) (m : Nat) : Rat :=
  let i := dqCurrents s m [(machAt s m).safedSet] (fun b => (bridgeAt s b).smp.iA) (machAt s m).theta
  torqueOf s m 1 i.1 i.2

/-- The references of a degraded machine: half of rated torque at most, with the drag of the safed set made up (R230); in a
rotation there is none (R557). -/
def degradedRefs (s : State) (m : Nat) (id iq : Int) : Int × Int :=
  let drag := if (machAt s m).rot = .none then safedTorque s m else 0
  let t := clampRat (1 / 2) (torqueOf s m 1 id iq - drag)
  (id, iqFor s m 1 id t)

/-- R205: the torque of the references on the nearer bound of the envelope, i_d kept: the references, and whether they were
clamped. -/
def envelopeClamp (s : State) (m : Nat) (id iq : Int) : Int × Int × Bool :=
  let x := machAt s m
  let n := (controlledSets s m).length
  let t := torqueOf s m n id iq
  if t < puRat x.envLo then (id, iqFor s m n id (puRat x.envLo), true)
  else if puRat x.envHi < t then (id, iqFor s m n id (puRat x.envHi), true)
  else (id, iq, false)

/-- One run of the voltage loop of R206, which drives the modulation index demanded towards P_FW_M: Δi_d, or what an induction machine's
flux reference is lowered by (R213), never positive and within `lim`, and the integrator, which stands while the output is limited. The
gains for P_FW_BW are not stated (log entry 20). -/
def weaken (s : State) (m : Nat) (lim : Rat) : Rat × Rat :=
  let x := machAt s m
  let g := Config.fwGains (mParN s m 0x23)
  let err := (mPar s m 0x22 : Rat) / 10000 - x.mDem
  let raw := g.1 * err + x.fwInt
  let out := max (-lim) (min 0 raw)
  (out, if out = raw then x.fwInt + g.2 * err * ((ctrlPeriod s m : Rat) / 400000000) else x.fwInt)

/-- Step 4 of Table 6.3: the current references of the period. In a winding discharge i_q* is 0 and i_d* is ramped to P_WD_I, at
a rate the spec does not state (R328, log entry 3); for 8 control periods after a lock and match i_q* is 0 (R252). -/
def stepRefs (f m : Nat) (s : State) : (Int × Int) × State :=
  let x := machAt s m
  if x.ph == .discharging then
    let top := lgPar s (machLg s m) 0xF
    let wd := min top (x.wdI + (Config.freeInt f).natAbs)
    ((toPu18 wd (mPar s m 0x04), 0), modMach m (fun x => { x with wdI := wd }) s)
  else
    let base := if x.degraded then degradedRefs s m x.idRef x.iqRef else (x.idRef, x.iqRef)
    let (id, iq, hit) := envelopeClamp s m base.1 base.2
    let lim := currentLimit s m
    let fw := weaken s m (if isPmsm s m then lim else fluxPu s m 0x13)
    let iq := if x.matchAge < 8 then 0 else iq
    let id := if x.matchAge < 8 then 0 else id
    let l := limitCurrents lim (if isPmsm s m then ratPu18 (puRat id + fw.1) else id) iq
    let s := if hit && !x.clamped then raiseFault 0x0217 m (srcMach m) (.machine m) [] s else s
    (l, modMach m (fun x => { x with clamped := hit, dId := fw.1, fwInt := fw.2, curLim := x.curLim || l.2 != iq }) s)

/-! ### Current loops and voltage (R206 to R208, R217, R259) -/

/-- m_lim in 0.0001 (R208, R144, R220, R223): P_M_MAX, raised towards 1.0 for six-step, and no higher than a refresh clamp
leaves. -/
def modLimit (s : State) (m : Nat) : Nat :=
  let x := machAt s m
  let top := mParN s m 0x21 + (10000 - mParN s m 0x21) * x.sixRamp / 8
  let legs := (controlledSets s m).flatMap (fun j => [0, 1, 2].map (fun k => (setBridge s m j, k)))
  legs.foldl (fun lo p =>
    let T := 16 * (bridgeAt s p.1).per
    let l := bridgeLeg s p.1 p.2
    if (bridgeAt s p.1).refreshAct.getD p.2 false && decide (0 < T) then
      min lo ((T - (9600 + legPwm s l 0 + legPwm s l 1)) * 10000 / T)
    else lo) top

/-- The d and q loops of R207 over one control period, and the limit of R208, which serves d first: the amplitude demanded before
the limit, and the state. -/
def currentLoops (refs : Int × Int) (m : Nat) (s : State) : Rat × State :=
  let x := machAt s m
  let T : Rat := (ctrlPeriod s m : Rat) / 400000000
  let bw := 2 * Config.pi * (mPar s m 0x24 : Rat)
  let ki := bw * rsPu s m
  let w := fieldPu s m
  let f := machFluxes s m x.iD x.iQ
  let eD := puRat (refs.1 - x.iD)
  let eQ := puRat (refs.2 - x.iQ)
  let nD := x.intD + ki * eD * T
  let nQ := x.intQ + ki * eQ * T
  let inj := injected s m
  let vD := bw * lPu s m 0x0A / omegaBase s m * eD + nD - w * f.2 + inj
  let vQ := bw * lPu s m 0x0B / omegaBase s m * eQ + nQ + w * f.1
  let ml := modLimit s m
  let top := (ml : Rat) / 10000 * 2 * linkPu s m / Config.pi
  let lD := clampRat top vD
  let lQ := clampRat (Config.sqrt (top * top - lD * lD)) vQ
  (Config.sqrt (vD * vD + vQ * vQ), modMach m (fun x => { x with
    vD := ratPu18 lD, vQ := ratPu18 lQ, vLim := lD != vD || lQ != vQ, mLim := ml,
    intD := if lD = vD then nD else x.intD, intQ := if lQ = vQ then nQ else x.intQ,
    injRamp := if x.inject then min 16 (x.injRamp + 1) else x.injRamp - 1, injPos := !x.injPos }) s)

/-- The resonant term of an x or y loop over one control period: its two components turn at 6 ω_e, and the error joins the first (R217;
gain and form in log entry 20). -/
def resonate (turn : Nat) (gain err : Rat) (z : Rat × Rat) : Rat × Rat :=
  let r := unpark z turn
  (r.1 + gain * err, r.2)

/-- The x and y loops of R217 over one control period, on a six-phase machine with both sets. -/
def xyLoops (m : Nat) (s : State) : State :=
  let x := machAt s m
  if nSets s m = 2 ∧ !x.degraded then
    let T : Rat := (ctrlPeriod s m : Rat) / 400000000
    let bw := mParN s m 0x25
    let g := Config.xyGains bw (lPu s m 0x0D)
    let k := Config.xyResonant bw (lPu s m 0x0D) * T
    let turn := ang18 (6 * turned s m (ctrlPeriod s m))
    let eX := -puRat x.iX
    let eY := -puRat x.iY
    let nX := x.intX + g.2 * eX * T
    let nY := x.intY + g.2 * eY * T
    let rX := resonate turn k eX x.resX
    let rY := resonate turn k eY x.resY
    modMach m (fun x => { x with intX := nX, intY := nY, resX := rX, resY := rY, vX := g.1 * eX + nX + rX.1, vY := g.1 * eY + nY + rY.1 }) s
  else modMach m (fun x => { x with intX := 0, intY := 0, resX := (0, 0), resY := (0, 0), vX := 0, vY := 0 }) s

/-! ### Modulation (R168, R181, R182) -/

/-- The offset that the modulation adds to the phase voltages `v` of one bridge, against a link of `dc`, all in per unit (R181). In
discontinuous modulation a leg at the largest positive voltage goes before one at an equally large negative one (DESIGN CHOICE: the spec
does not say which is clamped at the tie; log entry 51). -/
def zeroSequence (mode : Nat) (lowOnly : Bool) (dc : Rat) (v : List Rat) : Rat :=
  let hi := v.foldl max (v.getD 0 0)
  let lo := v.foldl min (v.getD 0 0)
  if mode = 0 then -(hi + lo) / 2
  else if lowOnly || decide (|hi| < |lo|) then -dc / 2 - lo
  else dc / 2 - hi

/-- F-0115 is set, or the refresh-force bit, on a bridge (R181, R220). -/
def weakHighSide (s : State) (b : Nat) : Bool :=
  (bridgeAt s b).refreshForce || (bridgeLegs s b).any (fun l => (lowOf s l).bowLoad)

/-- The phase voltages of set `j` for a vector (R216). -/
def phaseVolts (s : State) (m j : Nat) (mag : Rat) (th : Nat) (x y : Rat) : List Rat :=
  [0, 1, 2].map (fun k =>
    let p := phaseAngle s m j k
    let main := mag * Config.cos18 (ang18 ((th : Int) - p))
    if mPar s m 0x02 = 30 then main + x * Config.cos18 (ang18 (5 * p)) + y * Config.sin18 (ang18 (5 * p))
    else main + (if j = 0 then 1 else -1) * (x * Config.cos18 p + y * Config.sin18 p))

/-- The compare value of a duty (R168). -/
def compareOf (s : State) (b : Nat) (d : Rat) : Nat :=
  let per := bPwm s b 0x80
  if bPwm s b 0x81 = 1 then (roundRat (unit01 d * per * 16)).toNat else (roundRat ((1 - unit01 d) * per * 8)).toNat

/-- The compare values of bridge `b` for phase voltages (R181); without a link voltage the duties have no stated value (log
entry 3). -/
def duties (s : State) (f b : Nat) (dc : Rat) (v : List Rat) : List (Nat × Nat) :=
  let z := zeroSequence (bPwm s b 0x85) (weakHighSide s b) dc v
  v.zipIdx.map (fun p =>
    let c := compareOf s b (if dc = 0 then puRat (Config.freeInt (f + p.2)) else 1 / 2 + (p.1 + z) / dc)
    (c, c))

/-- Vertex `k` of the hexagon, in ANG18. -/
def vertex (k : Int) : Int := roundDiv (k * 262144) 6

/-- Distance of an angle from the nearest vertex of the hexagon in ANG18 counts, and that vertex. -/
def nearVertex (th : Nat) : Int × Nat :=
  let v := ang18 (vertex (roundDiv (6 * th) 262144))
  (|angDiff th v|, v)

/-- The largest magnitude inside the hexagon at an angle, against a link of `dc`: the edge lies dc / √3 from the centre (R182). -/
def hexagon (dc : Rat) (th : Nat) : Rat :=
  let d := (nearVertex th).1
  dc / (Config.sqrt 3 * Config.cos18 (ang18 (vertex 1 / 2 - d)))

/-- A table that rises from its first point to its last, at `x` from 0 to 1: each point but the two ends within `tol` in 100,000 of the one
given, as an FE image has it (R182; log entry 20). -/
def risingTable (points : List Nat) (trim : Nat → Int) (tol : Int) (x : Rat) : Rat :=
  let n := points.length - 1
  let point := fun (k : Nat) => (points.getD k 0 : Rat) * (100000 + (if k = 0 ∨ n ≤ k then 0 else clampInt (-tol) tol (trim k) : Int)) / 100000
  let top := fun (k : Nat) => ((List.range (k + 1)).map point).foldl max 0
  let at_ := max 0 (min (n : Rat) (n * x))
  let i := ⌊at_⌋.toNat
  top i + (top (i + 1) - top i) * (at_ - (i : Nat))

/-- The magnitude, in 0.000001 of m, whose limitation to the hexagon gives the fundamental m, at 17 values of m from 0.9069 to 0.9517: solved
from the fundamental that R182 requires. -/
def preCompPoints : List Nat := [906900, 910031, 913516, 917300, 921382, 925780, 930520, 935641, 941199, 947269, 953956, 961415, 969887,
  979782, 991921, 1008512, 1047198]

/-- The hold angle in ANG18 counts whose fundamental is m, at 64 values of m from 0.9517 to 1.0 (R182). -/
def holdPoints : List Nat := [0, 1831, 2443, 2945, 3382, 3783, 4154, 4496, 4824, 5145, 5443, 5734, 6018, 6295, 6565, 6827, 7082, 7336, 7591,
  7839, 8079, 8319, 8560, 8800, 9033, 9266, 9499, 9732, 9965, 10191, 10424, 10657, 10883, 11116, 11349, 11582, 11815, 12048, 12281, 12521,
  12754, 13002, 13242, 13489, 13737, 13992, 14247, 14509, 14778, 15048, 15332, 15616, 15914, 16220, 16533, 16868, 17210, 17582, 17975,
  18412, 18893, 19453, 20174, 21845]

/-- The vector as modulated (R182): linear up to m = 0.9069; up to 0.9517 pre-compensated and limited to the hexagon; above it, on the
hexagon, its angle held at the nearest vertex for the hold angle of the FE image's table. The fundamental is m within ±0.5 %. -/
def modulated (dc mag : Rat) (th : Nat) : Rat × Nat :=
  let x := Config.pi * mag / (2 * dc)
  if Config.pi * mag * 10000 ≤ 9069 * 2 * dc then (mag, th)
  else if Config.pi * mag * 10000 ≤ 9517 * 2 * dc then
    let pre := risingTable preCompPoints Config.preCompTrim 300 ((x - 9069 / 10000) * 10000 / 448)
    (min (pre / 1000000 * 2 * dc / Config.pi) (hexagon dc th), th)
  else
    let hold := risingTable holdPoints Config.holdTrim 1000 ((x - 9517 / 10000) * 10000 / 483)
    let v := nearVertex th
    let out := if (v.1 : Rat) ≤ hold then v.2 else th
    (hexagon dc out, out)

/-- A bridge's shadows are written and COMMIT is set (R170). -/
def writeShadows (b : Nat) (r : PwmRegs) : State → State := modBridge b (fun br => { br with shadow := r, commit := true })

/-- Carrier mode for the controlled sets: the shadows of each RUNNING bridge, the upper bridge's only where the inter-engine data
arrived (R199). In the independent operation of a winding discharge the low-side request has the same compare value (R167, R328). -/
def commitCarrier (f m : Nat) (s : State) : State :=
  let x := machAt s m
  let dc := linkPu s m
  let mag := Config.sqrt (puRat x.vD * puRat x.vD + puRat x.vQ * puRat x.vQ)
  let v := modulated dc mag (ang18 ((x.thetaC : Int) + Config.atan18 (puRat x.vD) (puRat x.vQ)))
  let xy := unpark (x.vX, x.vY) (xyFrame s m x.thetaC)
  forEach (controlledSets s m) (fun j s =>
    let b := setBridge s m j
    if stOf s b == .running && (j == 0 || x.linkOk) then
      let c := duties s (f + 3 * j) b dc (phaseVolts s m j v.1 v.2 xy.1 xy.2)
      writeShadows b { cmp := c, cmpLow := c, toggles := [[], [], []], floats := [[], [], []], sixstep := false,
                       indep := x.ph == .discharging } s
    else s) s

/-! ### Six-step (R219 to R223) -/

/-- Advance table of R222. -/
def advSpd (s : State) (m i : Nat) : Int := mPar s m (0x40 + i)
def advAng (s : State) (m i : Nat) : Int := mPar s m (0x50 + i)

/-- θ_adv at a speed magnitude in PU18 (R222). -/
def advance (s : State) (m : Nat) (v : Int) : Int :=
  if v ≤ advSpd s m 0 then advAng s m 0
  else if advSpd s m 15 ≤ v then advAng s m 15
  else
    let i := ((List.range 15).filter (fun i => decide (advSpd s m i ≤ v))).foldl max 0
    advAng s m i + roundDiv ((advAng s m (i + 1) - advAng s m i) * (v - advSpd s m i)) (advSpd s m (i + 1) - advSpd s m i)

/-- The angle by which the six-step vector leads θ_e, its trim apart (R221). -/
def sixLead (s : State) (m : Nat) : Int := 65536 + advance s m |machSpeed s m|

/-- θ_v of R221. -/
def sixAngle (s : State) (m : Nat) (trim : Rat) : Nat :=
  ang18 ((machAt s m).theta + sgn (machSpeed s m) * (sixLead s m + roundRat trim))

/-- The trim that puts θ_v at an angle, within ±P_ADV_TRIM (R221, R222). -/
def trimFor (s : State) (m th : Nat) : Rat :=
  let spd := sgn (machSpeed s m)
  clampRat (mPar s m 0x33 : Rat) (angDiff (ang18 (spd * ((th : Int) - (machAt s m).theta))) (ang18 (sixLead s m)) : Rat)

/-- Phase `k` of a six-step vector is high (R221). -/
def sixHigh (th k : Nat) : Bool := decide (ang18 ((th : Int) - k * 0x15555 + 0x10000) < 0x20000)

/-- Counts to the next crossing of phase `k` in the direction of rotation. -/
def toCrossing (th k : Nat) (fwd : Bool) : Int :=
  let p := ang18 ((th : Int) - k * 0x15555 + 0x10000)
  let r : Nat := p % 0x20000
  if fwd then (0x20000 - r : Int) else (if r = 0 then 0x20000 else (r : Int))

/-- Steps of device time at which the angle has turned by `d` counts since the sample of the control period (R184). -/
def turnTime (s : State) (m : Nat) (d : Rat) : Nat :=
  16 * (bridgeAt s (setBridge s m 0)).smp.time + (roundRat (d * 16 * 400000000 / (262144 * |fieldHz s m|))).toNat

/-- The toggle instants of phase `k` from the load of the shadows on, `first` ticks from now, and within `horizon` ticks, at most two
(R184, R221): an earlier one belongs to the values in force. -/
def legToggles (s : State) (m th k first horizon : Nat) : List Toggle :=
  let d := toCrossing th k (decide (0 ≤ machSpeed s m))
  let ts := ([0, 1, 2, 3].map (fun (n : Nat) => turnTime s m (d + 0x20000 * n : Int))).filter
    (fun t => decide (16 * (s.time.dev + first) ≤ t ∧ t ≤ 16 * (s.time.dev + horizon)))
  (ts.take 2).map (fun t => ⟨BitVec.ofNat 32 (t / 16), BitVec.ofNat 4 t⟩)

/-- P_ZC_WIN in ANG18 counts (R225). -/
def floatWidth (s : State) (m : Nat) : Rat := (mPar s m 0x35 : Rat) * 262144 / 3600

/-- Counts to the next crossing of the back-EMF of phase `k` in the direction of rotation, from an electrical angle (R225). -/
def toZero (th k : Nat) (fwd : Bool) : Int :=
  let r : Nat := ang18 ((th : Int) - thirds k) % 0x20000
  if fwd then (0x20000 - r : Int) else (if r = 0 then 0x20000 else (r : Int))

/-- The float windows of phase `k`, in ticks (R225): centred on each predicted crossing, and begun no earlier than 2° after the leg's
preceding toggle. -/
def legFloats (s : State) (m th thV k first : Nat) : List (Nat × Nat) :=
  let fwd := decide (0 ≤ machSpeed s m)
  let half := floatWidth s m / 2
  let tog := toCrossing thV k fwd
  ([-1, 0, 1].map (fun (n : Int) =>
    let c : Rat := (toZero th k fwd + 0x20000 * n : Int)
    let before : Rat := (tog + 0x20000 * ⌊(c - tog) / 0x20000⌋ : Rat)
    let a := max (c - half) (before + 262144 * 2 / 360)
    (turnTime s m a / 16, turnTime s m (c + half) / 16))).filter (fun w => decide (w.1 < w.2 ∧ s.time.dev + first ≤ w.2))

/-- The speed allows zero-crossings: above the higher of 5 % of base speed and P_ZC_MIN (R227), and once it has been left, above that
plus 1 % of base speed. -/
def crossingSpeed (s : State) (m : Nat) : Bool :=
  aboveTenths (machSpeed s m) (zcLimit s m + (if (machAt s m).zcLow then 10 else 0))

/-- Zero-crossing commutation serves machine `m`: six-step of a PMSM on the observer (R224). -/
def crossingsServe (s : State) (m : Nat) : Bool := isPmsm s m && mPar s m 0x18 == 1 && (machAt s m).six

/-- The six-step shadows of every RUNNING bridge of a machine: both bridges receive the same instants (R221), with the float windows
where zero-crossings serve (R225). -/
def commitSix (m : Nat) (s : State) : State :=
  let x := machAt s m
  let still : Bool := machSpeed s m == 0
  let zc := crossingsServe s m && (x.zcAngle || crossingSpeed s m)
  forEach (controlledSets s m) (fun j s =>
    let b := setBridge s m j
    let first := if (bridgeAt s b).lateCommit then 0 else toBoundary s b
    let horizon := ctrlPeriod s m + 2 * updInterval s b
    if stOf s b == .running && (j == 0 || x.linkOk) then
      writeShadows b { (bridgeAt s b).shadow with
        toggles := [0, 1, 2].map (fun k => if still then [] else legToggles s m x.thetaV k first horizon)
        floats := [0, 1, 2].map (fun k => if still || !zc then [] else legFloats s m x.theta x.thetaV k first)
        sixstep := true
        indep := false } s
    else s) s

/-- The observer of machine `m` is invalid: out of its limits for P_OBS_TIME (R262). -/
def observerGone (s : State) (m : Nat) : Bool :=
  match (machAt s m).obs.badSince with
  | some t => decide (t + mParN s m 0x6D * 40000 ≤ s.time.dev)
  | none => false

/-- The angle source of machine `m` is valid (R220): the interface's angle, or the observer under R262; the zero-crossings while they
give the angle (R226). -/
def sourceValid (s : State) (m : Nat) : Bool :=
  let x := machAt s m
  if !isPmsm s m || (x.six && x.zcAngle) then true else if usesIf s m then ifAngleOk s m else !observerGone s m

/-- The conditions of R220 other than the first. -/
def sixConds (s : State) (m : Nat) : Bool :=
  let x := machAt s m
  decide (0 < sgn x.tRef * sgn (machSpeed s m)) && !x.degraded && (machBridges s m).all (fun b => !weakHighSide s b) &&
    sourceValid s m

/-- Six-step is available (R219). -/
def sixAllowed (s : State) (m : Nat) : Bool :=
  isPmsm s m && mPar s m 0x30 == 1 && (nSets s m == 1 || mPar s m 0x02 == 0)

/-- The modulation index that the current loops ask for, in 0.0001, before the limit of R208; not stated without a link voltage
(log entry 3). -/
def demandedIndex (s : State) (f m : Nat) (v : Rat) : Rat :=
  if linkPu s m = 0 then (Config.freeInt f : Rat) else Config.pi * v * 10000 / (2 * linkPu s m)

/-- The magnitude of the voltage that current references need at the present speed, in per unit (R223). -/
def neededVolts (s : State) (m : Nat) (refs : Int × Int) : Rat :=
  let f := machFluxes s m refs.1 refs.2
  let w := fieldPu s m
  let r := if isPmsm s m then rsPu s m else rPu s m 0x0C
  let vd := r * puRat refs.1 - w * f.2
  let vq := r * puRat refs.2 + w * f.1
  Config.sqrt (vd * vd + vq * vq)

/-- Counts of consecutive periods for entry, by the index that the current loops demand, and for exit, by the index needed for the present
reference; the ramp of m_lim over 8 periods (R220, R223), and the index for the voltage loop (R206). -/
def sixCounts (f m : Nat) (v : Rat) (refs : Int × Int) (s : State) : State :=
  let d := demandedIndex s f m v
  let need := demandedIndex s f m (neededVolts s m refs)
  let ok := sixAllowed s m && sixConds s m && decide ((mPar s m 0x31 : Rat) ≤ d)
  modMach m (fun x => { x with
    mDem := d / 10000
    sixIn := if x.six then 0 else if ok then min 16 (x.sixIn + 1) else 0
    sixOut := if x.six && decide (need < (mPar s m 0x32 : Rat)) then min 16 (x.sixOut + 1) else 0
    sixRamp := if x.six then 8 else if 16 ≤ (if ok then x.sixIn + 1 else 0) then min 8 (x.sixRamp + 1) else x.sixRamp - 1 }) s

/-- Six-step ends (R223): carrier mode at m = 1.0 with the present voltage angle, the integrators preloaded with that vector; an
angle taken from crossings goes back to the observer (R224). -/
def leaveSix (m : Nat) (s : State) : State :=
  let x := machAt s m
  let mag := 2 * linkPu s m / Config.pi
  let th := ang18 ((x.thetaV : Int) - x.theta)
  let vd := mag * Config.cos18 th
  let vq := mag * Config.sin18 th
  let s := modMach m (fun x => { x with
    six := false, sixInt := 0, sixIn := 0, sixOut := 0, sixRamp := 8, intD := vd, intQ := vq, vD := ratPu18 vd, vQ := ratPu18 vq,
    srcAge := if x.zcAngle then 0 else x.srcAge, zcAngle := false, zcOk := 0, zcMiss := 0, zcLow := false }) s
  let (f, s) := drawMany 6 s
  commitCarrier f m s

/-- θ_v of six-step from the present voltage vector, in the control period in progress (R220). -/
def entryAngle (s : State) (m : Nat) : Nat :=
  let x := machAt s m
  ang18 ((x.theta : Int) + Config.atan18 (puRat x.vD) (puRat x.vQ))

/-- R220: the machine enters six-step in a period in which every leg is clamped, with θ_v where the voltage vector stands. -/
def enterSix (m : Nat) (s : State) : State :=
  let th := entryAngle s m
  let trim := trimFor s m th
  let s := modMach m (fun y => { y with six := true, sixOut := 0, dTheta := trim, sixInt := trim, thetaV := th }) s
  commitSix m s

/-- The rail at which compare values leave a leg throughout a period, high or low; none where it switches (R168). -/
def clampRail (s : State) (b : Nat) (c : Nat × Nat) : Option Bool :=
  let edge := bPwm s b 0x81 == 1
  let top := if edge then 16 * bPwm s b 0x80 else 8 * bPwm s b 0x80
  if c.1 = 0 ∧ c.2 = 0 then some (!edge) else if top ≤ c.1 ∧ top ≤ c.2 then some edge else none

/-- Every leg of the machine is clamped, in the period in force and in the one committed, at the rail that the six-step vector has as it loads:
no edge is added or removed by the change (R183). -/
def allClamped (s : State) (m : Nat) : Bool :=
  (controlledSets s m).all (fun j =>
    let b := setBridge s m j
    let load := s.time.dev + (if (bridgeAt s b).lateCommit then 0 else toBoundary s b)
    let th := ang18 ((entryAngle s m : Int) + turned s m ((load : Rat) - ((bridgeAt s (setBridge s m 0)).smp.time : Rat)))
    [0, 1, 2].all (fun k =>
      clampRail s b ((bridgeAt s b).active.cmp.getD k (0, 0)) == some (sixHigh th k) &&
        (clampRail s b ((bridgeAt s b).shadow.cmp.getD k (0, 0))).isSome))

/-- R220: 16 periods have met the conditions, m_lim has reached 1.0, and every leg is clamped. -/
def execSixstepEntry (m : Fin 8) (s : State) : Out :=
  let x := machAt s m
  if isUp s && drives s m && !x.six && sixAllowed s m && decide (16 ≤ x.sixIn) && decide (8 ≤ x.sixRamp) && sixConds s m &&
      allClamped s m then .next (enterSix m s)
  else .next s

/-- R223: 16 periods below P_6S_OFF, or a condition of R220 other than the first fails. -/
def execSixstepExit (m : Fin 8) (s : State) : Out :=
  let x := machAt s m
  if isUp s && x.six && (decide (16 ≤ x.sixOut) || !sixConds s m || !sixAllowed s m) then .next (leaveSix m s)
  else .next s

/-- One control period in six-step (R221): the trim is the output of a PI regulator on the error of the torque, in the direction of
rotation and within ±P_ADV_TRIM, with gains for P_6S_BW that are not stated (log entry 20); at a new table θ_v stays where it was
(R222). -/
def stepSix (m : Nat) (newTable : Bool) (s : State) : State :=
  let x := machAt s m
  let lim := (mPar s m 0x33 : Rat)
  let g := Config.sixGains (mParN s m 0x34)
  let err := (puRat x.tRef - torqueOf s m (controlledSets s m).length x.iD x.iQ) * sgn (machSpeed s m)
  let raw := g.1 * err + x.sixInt
  let trim := if newTable then trimFor s m (ang18 ((x.thetaV : Int) + turned s m (ctrlPeriod s m))) else clampRat lim raw
  let next := if newTable then trim
    else if trim = raw then x.sixInt + g.2 * err * ((ctrlPeriod s m : Rat) / 400000000) else x.sixInt
  let s := modMach m (fun y => { y with dTheta := trim, sixInt := next, thetaV := sixAngle s m trim }) s
  commitSix m s

/-! ### Degraded operation (R229, R230) -/

/-- The healthy set of a six-phase machine one of whose bridges runs alone. -/
def loneSet (s : State) (m : Nat) : Option Nat :=
  if sixLower s m then
    if stOf s m == .running && (stOf s (m + 1) == .safe || stOf s (m + 1) == .retired) then some 0
    else if stOf s (m + 1) == .running && (stOf s m == .safe || stOf s m == .retired) then some 1
    else none
  else none

/-- R229: the other set has been lost: degraded operation, or the healthy bridge to its safe state. -/
def detectLoss (m : Nat) (s : State) : State :=
  let x := machAt s m
  match loneSet s m with
  | some j =>
    if x.degraded || x.rot != .none then s
    else if mPar s m 0x2C = 1 then
      let s := modMach m (fun x => { x with degraded := true, ph := .degraded, safedSet := 1 - j, iX := 0, iY := 0,
                                            tRef := clampInt (-16384) 16384 x.tRef }) s
      let s := raiseFault 0x0214 m (srcMach m) (.machine m) [] s
      if (machAt s m).six then leaveSix m s else s
    else raiseFault 0x0215 m (srcMach m) (.bridge (setBridge s m j)) [] s
  | none => s

/-! ### Field-engine rotation (R556, R557) -/

/-- The back-EMF that bridge `j` of a machine measures with every switch off, d and q in per unit: its phase voltages of the latest
trigger 0 (R312; log entry 50). -/
def measuredEmf (s : State) (m j : Nat) : Rat × Rat :=
  let v := alphaBeta s m [j] (fun b => (bridgeAt s b).smp.vph)
  let base : Rat := (mPar s m 0x05 : Rat) * 1000
  park (v.1 / base, v.2 / base) (machAt s m).theta

/-- Bridge `b` of a rotating machine goes to IDLE with every switch off (R557). -/
def rotateOut (b : Nat) (s : State) : State := switchesOff b (modBridge b (fun br => { br with st := .idle }) s)

/-- The bridge of set `j` rejoins, the integrators preloaded with the back-EMF it measures (R557, R252). -/
def rejoin (m j : Nat) (s : State) : State :=
  let e := measuredEmf s m j
  let s := modMach m (fun x => { x with intD := e.1, intQ := e.2 }) s
  modBridge (setBridge s m j) (fun br => { br with st := .running, miss := 0, cover := 0, recCnt := 0 }) s

/-- R557: the next stage of the rotation of six-phase machine `m`. It stands while the machine ramps for another reason. -/
def rotate (m : Nat) (s : State) : State :=
  let x := machAt s m
  if x.ramp != .none then s
  else match x.rot with
  | .none =>
    if allIn s (machBridges s m) .running && (machBridges s m).all (fun b => (bridgeAt s b).feReload) && mPar s m 0x2C == 1 &&
        !rectifies s m && !x.degraded then
      modMach m (fun x => { x with rot := .ramping, halfLim := true, ph := .degraded }) s
    else s
  | .ramping =>
    if |x.tRef| ≤ 16384 then
      let s := modMach m (fun x => { x with rot := .upperOut, degraded := true, safedSet := 1, iX := 0, iY := 0 }) s
      rotateOut (m + 1) (if x.six then leaveSix m s else s)
    else s
  | .upperOut =>
    if (bridgeAt s (m + 1)).feReload then s
    else rotateOut m (modMach m (fun x => { x with rot := .lowerOut, safedSet := 0 }) (rejoin m 1 s))
  | .lowerOut =>
    if (bridgeAt s m).feReload then s
    else modMach m (fun x => { x with rot := .none, halfLim := false, degraded := false, ph := .none }) (rejoin m 0 s)

/-- R556, R557. -/
def execFeRotation (m : Fin 8) (s : State) : Out :=
  if mainUp s && sixLower s m then .next (rotate m s) else .next s

/-! ### Supervision and records (R206, R210, R218, R318, R574) -/

/-- i_dc_b in PU18: the on-time fractions of the high sides times the phase currents of the loop (R51, R318). -/
def formIdc (b : Nat) (s : State) : State :=
  let br := bridgeAt s b
  let full : Rat := (16 * updInterval s b : Nat)
  modBridge b (fun x => { x with
    iDc := if full = 0 then 0
      else satPu18 (roundRat (((br.onHigh.zip (loopCurrents s b)).map (fun p => (p.1 : Rat) * (p.2 : Rat) / full)).foldl (· + ·) 0)) }) s

/-- Samples are recorded: SAMPLE_EN, and no post-trigger pause (R576). -/
def samplesOn (s : State) : Bool := s.recd.sampleEn && !s.recd.postHold && domOn s 4 && gateOpen s 10

/-- V_dc of a bridge in PU18: its leg-0 reading (R313). -/
def vdcPu (s : State) (m b : Nat) : Int :=
  match (bridgeAt s b).vdc with
  | some v => toPu18 v (mPar s m 0x05 * 1000)
  | none => 0

/-- The samples of a bridge's latest trigger, one of triggers 1 to 3 included: what its sample record holds and whose time it carries (R186,
R305; DEDUCED, log entry 51). -/
def latestSample (s : State) (b : Nat) : Samples :=
  (bridgeAt s b).smpX.foldl (fun x y => if x.time < y.time then y else x) (bridgeAt s b).smp

/-- The data of a sample record (R574). -/
def sampleData (s : State) (m b : Nat) : List Byte :=
  let x := machAt s m
  ((latestSample s b).iA ++ [x.iD, x.iQ, x.vD, x.vQ, (x.theta : Int), machSpeed s m, vdcPu s m b]).flatMap (beInt 4)

/-- Every P_REC_DIV control periods the bridge's sample record goes to the recorder (R55, R196). -/
def sampleRecord (m b : Nat) (s : State) : State :=
  let div := (bParId s b (0xC000 + 0x100 * bridgeInst s b)).toNat
  let n := (bridgeAt s b).recCnt + 1
  if div = 0 then s
  else if n < div then modBridge b (fun br => { br with recCnt := n }) s
  else
    let s := modBridge b (fun br => { br with recCnt := 0 }) s
    if samplesOn s then
      let (e, s) := allocEsn s
      pushSample ⟨e, (latestSample s b).time, 0, 0, 1, srcBridge b, 1, entryData (sampleData s m b)⟩ s
    else s

/-- The magnitude of a pair of PU18 codes exceeds a limit in A. -/
def exceedsAmps (s : State) (m : Nat) (x y : Int) (amps : Int) : Bool :=
  let lim : Rat := (amps : Rat) / (mPar s m 0x04 : Rat) * 32768
  decide (lim * lim < (x * x + y * y : Int))

/-- Step 8 of Table 6.3: the counts of R210 and R218, and whether a limit holds the torque below its reference (R206). -/
def supervise (refs : Int × Int) (m : Nat) (s : State) : State :=
  let x := machAt s m
  let track := exceedsAmps s m (refs.1 - x.iD) (refs.2 - x.iQ) (mPar s m 0x28) && !x.vLim && decide (20 < x.srcAge)
  let xy := exceedsAmps s m x.iX x.iY (mPar s m 0x26)
  let torque := torqueOf s m (controlledSets s m).length x.iD x.iQ
  let low := (x.clamped || x.curLim || x.vLim) && decide (torque * sgn x.tRef < |puRat x.tRef|)
  modMach m (fun x => { x with
    trkCnt := if track then x.trkCnt + 1 else 0
    xyCnt := if xy then x.xyCnt + 1 else 0
    raised := let l := if track then x.raised else x.raised.erase 0x0210
              if xy then l else l.erase 0x0212
    reduced := if low then some (x.reduced.getD s.time.dev) else none
    f0211 := x.f0211 && low }) s

/-! ### The control period (R196) -/

/-- The torque of the references of a period is reported to the monitor pair (R349). -/
def reportTorque (m : Nat) (refs : Int × Int) (s : State) : State :=
  let t := torqueOf s m (controlledSets s m).length refs.1 refs.2
  modMach m (fun x =>
    let y := rollMon s x.mon
    { x with mon := { y with cur := { y.cur with setSum := y.cur.setSum + t, setN := y.cur.setN + 1 } } }) s

/-- Table 6.3 for a RUNNING machine. -/
def controlSteps (m : Nat) (newTable : Bool) (s : State) : State :=
  let (f, s) := drawMany 9 s
  let s := advanceRamp m s
  let s := if isPmsm s m then s else imModel (f + 1) m s
  let s := takeAngle m s
  let th := (machAt s m).theta
  let i := dqCurrents s m (controlledSets s m) (loopCurrents s) th
  let xy := xyCurrents s m th
  let s := modMach m (fun x => { x with iD := i.1, iQ := i.2, iX := xy.1, iY := xy.2 }) s
  let (refs, s) := stepRefs f m s
  let (v, s) := currentLoops refs m (reportTorque m refs s)
  let s := sixCounts (f + 2) m v refs (xyLoops m s)
  let s := if (machAt s m).six then stepSix m newTable s else commitCarrier (f + 3) m s
  let s := supervise refs m s
  forEach (machBridges s m) (fun b s => sampleRecord m b (formIdc b s)) s

/-- The advance table of a machine has changed with the set that takes effect at this control period (R222). -/
def newAdvance (s : State) (m : Nat) : Bool :=
  match (machAt s m).oldItems with
  | some old => (List.range' 0x40 0x20).any (fun i => itemValue old (0x4000 + 0x100 * m + i) != par s (0x4000 + 0x100 * m + i))
  | none => false

/-- A control-period boundary of machine `m`: items marked "run" take effect (R235), the loss of a set is seen (R229), and the
steps run. -/
def controlPeriod (m : Nat) (o : CtrlObs) (s : State) : State :=
  let newTable := newAdvance s m
  let s := modMach m (fun x => { x with oldItems := none, linkOk := o.linkOk }) s
  let s := detectLoss m s
  if machRunning s m then
    let s := if (machAt s m).zcAngle && !aboveTenths (machSpeed s m) (zcLimit s m) then
        modMach m (fun x => { x with zcLow := true }) (leaveCrossings m s)
      else s
    endCoast m (controlSteps m newTable s)
  else s

/-- The machine is RUNNING, and the control periods that began at a period boundary after arming have come to one that has not been
carried out (R172, R196). -/
def controlDue (s : State) (m : Nat) : Bool :=
  machRunning s m && (match (bridgeAt s (setBridge s m 0)).ctrlAt with
    | some t => decide ((bridgeAt s (setBridge s m 0)).ctrlIx ≤ (s.time.dev - t) / ctrlPeriod s m)
    | none => false)

/-- The control period in progress has been carried out. -/
def countControl (m : Nat) (s : State) : State :=
  let b := setBridge s m 0
  modBridge b (fun br => { br with ctrlIx := (s.time.dev - br.ctrlAt.getD 0) / ctrlPeriod s m + 1 }) s

/-- R196: a control period of a RUNNING machine; a boundary of the same tick that waited for its COMMIT then loads (R171). On a machine that is
not RUNNING, items marked "run" take effect (R235). -/
def execControlPeriod (m : Fin 8) (obs : CtrlObs) (s : State) : Out :=
  if !isUp s then .next s
  else if machRunning s m then .next (settleLate m (if controlDue s m then controlPeriod m obs (countControl m s) else s))
  else .next (settleLate m (restItems (setBridge s m 0) s))

/-! ### Supervision rows -/

/-- R206: a limit has held the torque below its reference for more than 10 ms: F-0211, once per occurrence. -/
def execTorqueNotReachable (m : Fin 8) (s : State) : Out :=
  let x := machAt s m
  let long := match x.reduced with
    | some t => decide (t + 4000000 < s.time.dev)
    | none => false
  if isUp s && drives s m && !x.f0211 && long then
    .next (raiseFault 0x0211 m (srcMach m) (.machine m) [] (modMach m (fun x => { x with f0211 := true }) s))
  else .next s

/-- An occurrence of a code of machine `m` is raised, once. -/
def raiseOnce (code m : Nat) (s : State) : State :=
  if (machAt s m).raised.contains code then s
  else raiseFault code m (srcMach m) (.machine m) [] (modMach m (fun x => { x with raised := code :: x.raised }) s)

/-- R210: the current error has exceeded P_TRK_ERR for longer than P_TRK_TIME, in control periods. -/
def execTrackingError (m : Fin 8) (s : State) : Out :=
  if isUp s && machRunning s m && decide (mParN s m 0x29 * 40000 < (machAt s m).trkCnt * ctrlPeriod s m) then .next (raiseOnce 0x0210 m s)
  else .next s

/-- R218: the x-y current has exceeded P_XY_LIM for longer than P_XY_TIME, in control periods. -/
def execXyExcess (m : Fin 8) (s : State) : Out :=
  if isUp s && machRunning s m && decide (mParN s m 0x27 * 400000 < (machAt s m).xyCnt * ctrlPeriod s m) then .next (raiseOnce 0x0212 m s)
  else .next s

/-- R213: the rotor flux has not reached 90 % of its reference within 10 τ_r. -/
def execImFluxTimeout (m : Fin 8) (s : State) : Out :=
  let x := machAt s m
  if isUp s && machRunning s m && !isPmsm s m && !x.fluxOk &&
      decide (10 * rotorTau s m * 400000000 < ((s.time.dev - x.ranAt : Nat) : Rat)) then .next (raiseOnce 0x0216 m s)
  else .next s

/-! ### Zero-crossings (R224 to R227) -/

/-- The electrical angle that a valid crossing of phase `k` sets (R225): the back-EMF vector leads θ_e by a right angle in the
direction of rotation (R250), so phase `k` rises through zero at `k` × 120° + 180° (log entry 22). -/
def crossingAngle (k : Nat) (rising : Bool) : Nat := ang18 ((thirds k : Int) + (if rising then 131072 else 0))

/-- The phase voltage has left both rails by more than 5 % of V_dc (R225). -/
def offRails (dc mv : Int) : Bool := decide (dc < 20 * mv ∧ 20 * mv < 19 * dc)

/-- The first crossing of V_dc / 2 in the samples of a float window, where it is valid (R225): its direction and time. -/
def findCrossing (dc : Int) : Bool → List ZcSample → Option (Bool × Nat)
  | off, a :: b :: rest =>
    let off := off || offRails dc a.mv
    let up : Bool := decide (2 * a.mv < dc ∧ dc ≤ 2 * b.mv)
    let down : Bool := decide (dc < 2 * a.mv ∧ 2 * b.mv ≤ dc)
    if up || down then (if off then some (up, b.time) else none) else findCrossing dc off (b :: rest)
  | _, [_] => none
  | _, [] => none

/-- R225: a float window of phase `k` ends. A valid crossing sets the angle, and the loop that extrapolates it takes the error. -/
def windowEnd (m k : Nat) (samples : List ZcSample) (s : State) : State :=
  let x := machAt s m
  match findCrossing ((bridgeAt s (setBridge s m 0)).vdc.getD 0) false samples with
  | some (rising, t) =>
    let th := crossingAngle k rising
    let first : Bool := x.zcOk == 0 && !x.zcAngle
    let err := angDiff th (ang18 (crossingTheta s m t))
    let spd := if first then puRat (machSpeed s m) else x.zcSpd + (Config.pllGains (mParN s m 0x6B)).2 * err
    let take := x.zcAngle || decide (6 ≤ x.zcOk + 1)
    modMach m (fun x => { x with zcOk := min 6 (x.zcOk + 1), zcMiss := 0, zcLow := false, zcTheta := th, zcTime := t, zcSpd := spd,
                                 srcAge := if take && !x.zcAngle then 0 else x.srcAge, zcAngle := take }) s
  | none => modMach m (fun x => { x with zcOk := if x.zcAngle then x.zcOk else 0, zcMiss := x.zcMiss + 1 }) s

def execZcWindowEnd (m : Fin 8) (k : Fin 3) (samples : List ZcSample) (s : State) : Out :=
  if isUp s && crossingsServe s m && ((machAt s m).zcAngle || crossingSpeed s m) then .next (windowEnd m k samples s)
  else .next s

/-- R226: P_ZC_MISS consecutive windows without a valid crossing. -/
def execZcMissLimit (m : Fin 8) (s : State) : Out :=
  if isUp s && (machAt s m).six && (machAt s m).zcAngle && decide (mParN s m 0x36 ≤ (machAt s m).zcMiss) then
    .next (leaveCrossings m s)
  else .next s

end Sys2Proof.Machine
end

