-- ==== Sys2Proof/Machine/Starting.lean ====
section
/-! DEFINITION. Starting, catching and sensorless position (R236 to R264): the ends of the check time and of the catch window, the
pluck test, the lock and match, rectification, and the observer's validity. -/

namespace Sys2Proof.Machine

/-! ### Start phases (R239, R265) -/

/-- A start phase of machine `m` ends: items of Table 7.4 that changed meanwhile take effect (R265). -/
def endPhase (m : Nat) (s : State) : State :=
  modMach m (fun x => { x with ph := .none, extended := false, ready := false, pluck := none, autoStart := false, dir := 0,
                               found := none, oldStart := none }) s

/-- A start is refused: the final reply, the machine stays ARMED; a start under R241 leaves the reference held (R241). -/
def refuseStart (m : Nat) (reason : Byte) (s : State) : State :=
  let held := (machAt s m).autoStart
  let s := finishMach m ST_WRONG_STATE (detail reason (ixByte m) 0) s
  modMach m (fun x => { x with refBlocked := held }) (endPhase m s)

/-- A start is refused and its code recorded (Table 7.3). -/
def failStart (m code : Nat) (reason : Byte) (s : State) : State := refuseStart m reason (note code (srcMach m) [] s)

/-- DC current of a bridge in mA (R318). -/
def idcMilli (s : State) (b : Nat) : Rat :=
  match bridgeMach s b with
  | some m => puRat (bridgeAt s b).iDc * (mPar s m 0x04 : Rat) * 1000
  | none => 0

/-- Current attributed to the RUNNING bridges of the machine's link group other than its own, in mA (R318). -/
def othersIdc (s : State) (m : Nat) : Rat :=
  (((lgBridges s (machLg s m)).filter (fun b => stOf s b == .running && !(machBridges s m).contains b)).map
    (idcMilli s)).foldl (· + ·) 0

/-- R243 within one tick: the phase-current magnitude from bank A, or the current into the link at the assigned IDC inputs beyond that of
the other RUNNING bridges, exceeds P_RECT_I. -/
def rectifying (s : State) (m : Nat) (idc0Mv idc1Mv : Int) : Bool :=
  let g := machLg s m
  let lim : Rat := (mPar s m 0x63 : Rat) * 1000
  let amps := (machBridges s m).any (fun b => (bridgeAt s b).smp.iA.any (fun i =>
    decide (mPar s m 0x63 * 32768 < |i| * mPar s m 0x04)))
  let part := fun (n : Nat) (mv : Int) => if par s (0x6F00 + n) == g then (mv : Rat) * (par s (0x6F02 + n) : Rat) / 10 else 0
  amps || ((par s 0x6F00 == g || par s 0x6F01 == g) && decide (lim + othersIdc s m < part 0 idc0Mv + part 1 idc1Mv))

/-- A pluck pulse is in progress: the test of R243 runs in the gaps only. -/
def pulsing (s : State) (m : Nat) : Bool :=
  match (machAt s m).pluck with
  | some p => (machAt s m).ph == .plucking && (match p.start with
    | some t => decide (t ≤ s.time.dev ∧ s.time.dev < t + 200 * p.halfUs)
    | none => false)
  | none => false

/-- Rectification of machine `m` is recognised on these measurements (R243). -/
def recognised (s : State) (m : Nat) (idc0Mv idc1Mv : Int) (us : Nat) : Bool :=
  isUp s && isStart (machAt s m).ph && !pulsing s m && decide (500 ≤ us) && rectifying s m idc0Mv idc1Mv

/-- A rectification of this tick overrides every other outcome of the start (R247): the commands that wait are of the same tick. -/
def rectWaits (s : State) (m : Nat) : Bool :=
  s.pending.any (fun c => match c with
    | .rectificationDetect k a b us => k.val == m && recognised s m a b us
    | _ => false)

/-- R246: |speed| is at least P_FW_SPEED and its vehicle-frame sign is opposite to the intended direction. -/
def reversed (s : State) (m : Nat) (spd : Int) : Bool :=
  !belowTenths spd (fwPar s m 0) && decide (sgn spd * mPar s m 0x1A * (machAt s m).dir < 0)

/-- R245: |speed| exceeds P_CATCH_MAX × P_SPD_MAX. -/
def tooFast (s : State) (m : Nat) (spd : Int) : Bool :=
  decide ((mPar s m 0x60 : Rat) / 1000 * (mPar s m 0x07 : Rat) < |puRat spd| * (mPar s m 0x06 : Rat))

/-- The checks at the end of a window in the order of R247; a start that passes waits for its lock and match. -/
def startChecks (m : Nat) (spd : Int) (s : State) : State :=
  let s := if reversed s m spd then note 0x0405 (srcMach m) [] s else s
  if tooFast s m spd then failStart m 0x0406 RS_CATCH_SPEED s
  else modMach m (fun x => { x with ready := true, readyAt := s.time.dev }) s

/-! ### The sensor start (R242) -/

/-- R242: the flux estimate of an induction machine has decayed since it last left RUNNING. -/
def rebuildFlux (m : Nat) (s : State) : State :=
  if isPmsm s m then s
  else modMach m (fun x => { x with
    fluxOk := false
    psiR := match x.leftRun with
      | some t => x.psiR * Config.exp (-(((s.time.dev - t : Nat) : Rat) / 400000000 / rotorTau s m))
      | none => 0 }) s

/-- The end of P_FS_CHK: an interface that no longer gives a valid angle refuses the start as at START (R240). -/
def checkEnd (m : Nat) (s : State) : State :=
  if ifAngleOk s m then startChecks m (machSpeed s m) s else refuseStart m RS_NO_ANGLE s

/-- R242: P_FS_CHK has passed since CHECKING began. -/
def execCheckTimeEnd (m : Fin 8) (s : State) : Out :=
  let x := machAt s m
  if isUp s && x.ph == .checking && !x.ready && !rectWaits s m && decide (x.phStart + mParN s m 0x64 * 40000 ≤ s.time.dev) then
    .next (checkEnd m s)
  else .next s

/-! ### The flying start (R248 to R251, R253) -/

/-- Every line-to-line peak has stayed below P_FS_VMIN × P_V_BASE (R248). -/
def quietEmf (s : State) (m : Nat) (o : CatchObs) : Bool := decide (o.peakMv < mParN s m 0x61 * mParN s m 0x05)

/-- The crossings of a set, in the order of time. -/
def setCrossings (o : CatchObs) (j : Nat) : List Crossing := o.crossings.filter (fun c => c.set.val == j)

/-- The place of a crossing in the sequence of positive rotation: v_uv rising, v_wu falling, v_vw rising, v_uv falling, v_wu rising, v_vw
falling (R250). -/
def crossingKind (c : Crossing) : Nat :=
  match c.pair with
  | 0 => if c.rising then 0 else 3
  | 1 => if c.rising then 2 else 5
  | 2 => if c.rising then 4 else 1

/-- The sign of the rotation in whose sequence crossings follow each other; none where they follow none (R250). -/
def rotation (cs : List Crossing) : Option Int :=
  let next := fun (d : Nat) => (cs.zip (cs.drop 1)).all (fun p => crossingKind p.2 == (crossingKind p.1 + d) % 6)
  if cs.length < 2 then none else if next 1 then some 1 else if next 5 then some (-1) else none

/-- The angle of the back-EMF vector at a crossing, seen from its own set (R250): a line-to-line voltage crosses zero where the vector
stands across it. -/
def crossingEmf (dir : Int) (c : Crossing) : Nat :=
  ang18 (roundDiv (((crossingKind c : Int) + (if dir = 1 then 4 else 1)) * 262144) 6)

/-- The least-squares parabola of crossing times over their index: the time between crossings at the last one, and its change from each
to the next (R250). -/
def fitTimes (ts : List Nat) : Rat × Rat :=
  let n : Rat := (ts.length : Nat)
  let xs := ts.zipIdx.map (fun p => ((p.1 : Rat), (p.2 : Rat) - (n - 1) / 2))
  let total := fun (f : Rat × Rat → Rat) => (xs.map f).foldl (· + ·) 0
  let s2 := total (fun p => p.2 * p.2)
  let s4 := total (fun p => p.2 * p.2 * p.2 * p.2)
  let c1 := total (fun p => p.2 * p.1) / s2
  let c2 := total (fun p => (p.2 * p.2 - s2 / n) * p.1) / (s4 - s2 * s2 / n)
  (c1 + c2 * (n - 1), 2 * c2)

/-- The phase-locked loop of bandwidth P_OBS_BW on the angles of crossings (R252): angle in counts and speed in per unit, from a time on;
its gains are not stated (log entry 20). -/
def trackCrossings (s : State) (m : Nat) (dir : Int) : List Crossing → Nat → Rat × Rat → Rat × Rat
  | [], _, x => x
  | c :: rest, t, (th, spd) =>
    let g := Config.pllGains (mParN s m 0x6B)
    let pred := th + elecHz s m 32768 * spd * ((c.time : Rat) - t) * 262144 / 400000000
    let err := angDiff (crossingEmf dir c) (ang18 (roundRat pred))
    trackCrossings s m dir rest c.time (pred + g.1 * err, spd + g.2 * err)

/-- What the crossings of the last 1.5 periods give (R250, R252): the amplitude from the largest line-to-line magnitude between them, and
the angle at the last crossing, after the loop through the last half-period. -/
def measureCatch (s : State) (m : Nat) (dir : Int) (cs : List Crossing) : Found :=
  let f := fitTimes (cs.map (·.time))
  let hz := elecHz s m 32768
  let freq : Rat := dir / (6 * f.1)
  let spd := freq * 400000000 / hz
  let start := cs.getD 6 default
  let x := trackCrossings s m dir (cs.drop 7) start.time ((crossingEmf dir start : Nat), spd)
  { theta := x.1 - dir * 0x10000, speed := x.2, emfMv := (((cs.drop 1).map (·.peakMv)).foldl max 0 : Nat) / Config.sqrt 3,
    rate := -(dir * f.2 / (6 * f.1 * f.1 * f.1)), period := 6 * f.1, time := (cs.getD 9 default).time }

/-- The sets of a six-phase machine agree in angle within 5° after P_6P_SHIFT, at the last crossing of set 2 (R250). -/
def setsAgree (s : State) (m : Nat) (o : CatchObs) (dir : Int) (x : Found) : Bool :=
  let c2 := setCrossings o 1
  match c2.getLast? with
  | some c =>
    let one := ang18 (roundRat (x.theta + dir * 0x10000 + elecHz s m 32768 * x.speed * ((c.time : Rat) - x.time) * 262144 / 400000000))
    decide (6 ≤ c2.length) && rotation (c2.drop (c2.length - min 10 c2.length)) == some dir &&
      decide (|angDiff (ang18 ((crossingEmf dir c : Int) + setShift s m)) one| * 360 ≤ 5 * 262144)
  | none => false

/-- The evaluation of a window (R250): the estimated period, and the measurement where it is consistent. The two successive periods compared are
those from the first to the seventh crossing and from the fourth to the tenth, against 10 % of the first (DESIGN CHOICE: the spec
names neither; log entry 51). -/
def evaluateCatch (s : State) (m : Nat) (o : CatchObs) : Rat × Option Found :=
  let c1 := setCrossings o 0
  let cs := c1.drop (c1.length - 10)
  let t := fun (i : Nat) => ((cs.getD i default).time : Int)
  let p1 := t 6 - t 0
  let p2 := t 9 - t 3
  match rotation cs with
  | some dir =>
    let x := measureCatch s m dir cs
    (x.period, if cs.length = 10 ∧ |p1 - p2| * 10 ≤ p1 ∧ (nSets s m = 1 ∨ setsAgree s m o dir x) then some x else none)
  | none => (6 * (fitTimes (cs.map (·.time))).1, none)

/-- Ticks since the window of machine `m` began. -/
def windowTicks (s : State) (m : Nat) : Nat := s.time.dev - (machAt s m).phStart

/-- 20 ms have passed (R248). -/
def windowLong (s : State) (m : Nat) : Bool := decide (8000000 ≤ windowTicks s m)

/-- A consistent measurement goes on to the checks of R245 and R246. -/
def caught (m : Nat) (x : Found) (s : State) : State :=
  startChecks m (ratPu18 x.speed) (modMach m (fun y => { y with found := some x }) s)

/-- The CATCHING window of START ends (R248): a machine at standstill or slow goes on with the pluck test (R253), a turning one is
measured (R250) and its window extended once, by 1.5 of the estimated periods (R251). -/
def catchEnd (m : Nat) (o : CatchObs) (s : State) : State :=
  if windowLong s m && quietEmf s m o then beginPluck m false s
  else if windowLong s m && decide (10 ≤ (setCrossings o 0).length) then
    match evaluateCatch s m o with
    | (_, some x) => caught m x s
    | (period, none) => modMach m (fun x => { x with extended := true, extEnd := s.time.dev + ⌈period * 3 / 2⌉.toNat }) s
  else if mParN s m 0x62 * 400000 ≤ windowTicks s m then beginPluck m false s
  else s

/-- The 20 ms window of PLUCK_TEST ends (R258). -/
def pluckWindowEnd (m : Nat) (o : CatchObs) (s : State) : State :=
  if !windowLong s m then s else if quietEmf s m o then beginPluck m true s else refuseStart m RS_CATCH_SPEED s

/-- The link group for whose winding discharge machine `m` is being watched (R328, log entry 13). -/
def watchedGroup (s : State) (m : Nat) : Option Nat :=
  [0, 1].find? (fun g => machLg s m == g && (machAt s m).ph == .discharging && allIn s (machBridges s m) .idle &&
    match (lgAt s g).dis with
    | some d => d.winding.isNone
    | none => false)

/-- The 20 ms window of a winding discharge ends: the machine qualifies at standstill, with the speed that its back-EMF implies
below 1 % of base speed; else the next one is tried (R328). -/
def watchEnd (g m : Nat) (o : CatchObs) (s : State) : State :=
  if !windowLong s m then s
  else
    let slow := decide ((o.peakMv : Rat) / 1000 < Config.sqrt 3 * psiMPu s m * psiBase s m * omegaBase s m / 100)
    let s' := modMach m (fun x => { x with ph := .none }) s
    if quietEmf s m o && slow && windingCandidate s' g m then armWinding g m s' else tryWinding g (m + 1) s'

/-- The end of a window of machine `m`: of START, of PLUCK_TEST, or of a winding discharge. -/
def windowOver (m : Nat) (o : CatchObs) (s : State) : State :=
  let x := machAt s m
  match watchedGroup s m with
  | some g => watchEnd g m o s
  | none =>
    if x.ph == .catching && !x.ready && !x.extended then
      match x.pluck with
      | some _ => pluckWindowEnd m o s
      | none => catchEnd m o s
    else s

/-- R248. -/
def execCatchWindowEnd (m : Fin 8) (obs : CatchObs) (s : State) : Out :=
  if isUp s && !rectWaits s m then .next (windowOver m obs s) else .next s

/-- R251: the window extended once ends. -/
def execCatchExtensionEnd (m : Fin 8) (obs : CatchObs) (s : State) : Out :=
  let x := machAt s m
  if isUp s && x.ph == .catching && x.extended && !x.ready && !rectWaits s m && decide (x.extEnd ≤ s.time.dev) then
    .next (match (evaluateCatch s m obs).2 with
      | some f => caught m f s
      | none => failStart m 0x0406 RS_CATCH_FAIL s)
  else .next s

/-! ### Rectification (R243, R244) -/

/-- R244: held for 500 us in a start phase. -/
def execRectificationDetect (m : Fin 8) (idc0Mv idc1Mv : Int) (us : Nat) (s : State) : Out :=
  if recognised s m idc0Mv idc1Mv us then .next (raiseWhy RS_RECTIFYING 0x0407 m (srcMach m) (.machine m) [] s)
  else .next s

/-! ### The pluck test (R254 to R258) -/

/-- θ[n] in ANG18 for `k` times n × 30° (R256). -/
def pulseAngle (k n : Nat) : Nat := ang18 (roundDiv (k * n * 262144) 12)

/-- A sum of R256 over the responses, times a function of `k` times the direction. -/
def pluckSum (resp : List Rat) (k : Nat) (f : Nat → Rat) : Rat :=
  (resp.zipIdx.map (fun p => p.1 * f (pulseAngle k (pulseDir p.2)))).foldl (· + ·) 0

/-- What R256 makes of twelve responses. -/
structure PluckResult where
  a0 : Rat
  a1 : Rat
  a2 : Rat
  phi1 : Nat
  d : Nat
deriving DecidableEq, Repr

/-- R256: the amplitudes, the angle of the first harmonic, and the d axis nearer to it. -/
def evaluatePluck (resp : List Rat) : PluckResult :=
  let x1 := pluckSum resp 1 Config.cos18 / 6
  let y1 := pluckSum resp 1 Config.sin18 / 6
  let x2 := pluckSum resp 2 Config.cos18 / 6
  let y2 := pluckSum resp 2 Config.sin18 / 6
  let phi1 := Config.atan18 x1 y1
  let phi2 := Config.atan18 x2 y2 / 2
  let far := ang18 ((phi2 : Int) + 0x20000)
  { a0 := resp.foldl (· + ·) 0 / 12, a1 := Config.sqrt (x1 * x1 + y1 * y1), a2 := Config.sqrt (x2 * x2 + y2 * y2), phi1 := phi1,
    d := if |angDiff far phi1| < |angDiff phi2 phi1| then far else phi2 }

/-- The saliency of R256; free where a0 = a2, for which the spec states none (log entry 3). -/
def pluckSaliency (f : Nat) (r : PluckResult) : Rat :=
  if r.a0 = r.a2 then ((Config.freeWord f).toNat : Rat) / 1000 else (r.a0 + r.a2) / (r.a0 - r.a2)

/-- The polarity is unresolved (R256). -/
def unresolved (s : State) (m : Nat) (r : PluckResult) : Bool :=
  decide (r.a1 < (mPar s m 0x67 : Rat) / 1000 * r.a0 ∨ 0x8000 < |angDiff r.phi1 r.d|)

/-- A 16-bit code of a value; free where it does not fit, for which the spec states none. -/
def code16 (f : Nat) (x : Rat) : Nat :=
  let c := roundRat x
  if 0 ≤ c ∧ c < 65536 then c.toNat else (Config.freeWord f).toNat % 65536

/-- The electrical angle that the interface of machine `m` gives now (R268). -/
def presentAngle (s : State) (m : Nat) : Nat := elecAngleOf s m (angleNow s (machIf s m))

/-- The reply of PLUCK_TEST (Table 14.8). -/
def pluckReply (s : State) (f m : Nat) (sal : Rat) (r : PluckResult) : List Byte :=
  let margin : Rat := if r.a0 = 0 then ((Config.freeWord (f + 1)).toNat : Rat) else r.a1 / r.a0 * 1000
  beBytes 4 r.d ++ beBytes 2 (code16 f (sal * 1000)) ++ beBytes 2 (code16 (f + 1) margin) ++
    (if hasIf s m && ifAngleOk s m then beInt 4 (angDiff (presentAngle s m) r.d) else beBytes 4 0x80000000)

/-- A pluck test has passed (R258): the saliency is stored; PLUCK_TEST replies, and START waits for its next period boundary. -/
def passPluck (m : Nat) (testOnly : Bool) (f : Nat) (sal : Rat) (r : PluckResult) (s : State) : State :=
  let s := modMach m (fun x => { x with saliency := some (roundRat (sal * 1000)).toNat, pluckOk := true }) s
  if testOnly then endPhase m (finishMach m ST_OK (pluckReply s f m sal r) s)
  else modMach m (fun x => { x with ready := true, readyAt := s.time.dev, theta := r.d, inject := true, injRamp := 0 }) s

/-- The tick at which the pulse after the one of `p` begins: after P_PLUCK_GAP with every switch off (R254). -/
def afterPulse (s : State) (m : Nat) (p : Pluck) : Nat := max s.time.dev (p.start.getD 0 + 200 * p.halfUs + mParN s m 0x66 * 4000)

/-- A test whose polarity is unresolved is repeated with pulses of 1.5 × P_PLUCK_T, at most 80 us (R257). -/
def repeatPluck (m : Nat) (p : Pluck) (s : State) : State :=
  let raised := min 160 (3 * mParN s m 0x65)
  firePulse m (afterPulse s m p) (modMach m (fun x => { x with
    pluck := some { p with resp := [], peak := 0, repeated := true, halfUs := raised } }) s)

/-- After the twelfth pulse (R255 to R257). -/
def judgePluck (m : Nat) (p : Pluck) (s : State) : State :=
  if p.peak * 20 < 32768 then failStart m 0x0408 RS_PLUCK_FAIL s
  else
    let (f, s) := drawMany 4 s
    let r := evaluatePluck p.resp
    let sal := pluckSaliency f r
    if sal < 105 / 100 then failStart m 0x0409 RS_PLUCK_FAIL s
    else if unresolved s m r then
      if p.repeated then failStart m 0x0409 RS_PLUCK_FAIL s else repeatPluck m p s
    else passPluck m p.testOnly (f + 1) sal r s

/-- Steps for which a vector is applied, from its length: less the dead time of the sides that turn on (R174, R255). -/
def vectorOn (s : State) (b : Nat) (prev : Option Nat) (n T : Nat) : Nat :=
  let changed := [0, 1, 2].filter (fun k => match prev with
    | some p => vectorHigh p k != vectorHigh n k
    | none => true)
  T - (changed.map (fun k => deadTime s (bridgeLeg s b k) (vectorHigh n k))).foldl max 0

/-- Seconds for which the vectors of a pulse are applied to bridge `b` (R255). -/
def vectorsOn (s : State) (b : Nat) : Option Nat → List (Nat × Nat) → Rat
  | _, [] => 0
  | prev, (n, T) :: rest => (vectorOn s b prev n T : Rat) / 6400000000 + vectorsOn s b (some n) rest

/-- The volt-seconds along direction `n` of a pulse of `T` steps: two thirds of V_dc for the on-time, and the cosine of 30° where two
vectors form it (R254, R255). -/
def pulseVoltSeconds (s : State) (m n T : Nat) (vdcMv : Int) : Rat :=
  let one := fun (j : Nat) =>
    let d := setDir s m j n
    vectorsOn s (setBridge s m j) none (pulseVectors d T) * (if d % 2 = 0 then 1 else Config.cos18 (pulseAngle 1 1))
  2 / 3 * (vdcMv : Rat) / 1000 * meanRat ((List.range (nSets s m)).map one)

/-- y_n of R255; not stated without volt-seconds (log entry 3). -/
def pulseResponse (f : Nat) (proj volts : Rat) : Rat := if volts = 0 then (Config.freeInt f : Rat) else proj / volts

/-- Bank A currents of the sample of a pulse in PU18, by bridge (R255). -/
def pulseCurrents (s : State) (f m : Nat) (o : PluckObs) (b : Nat) : List Int :=
  let j := (machBridges s m).idxOf b
  bankSamples s (f + 3 * j) b .a (o.codes.getD j [])

/-- One pulse and its sample: a sample above P_I_MAX stops the test at once (R255). -/
def onePulse (m : Nat) (p : Pluck) (o : PluckObs) (s : State) : State :=
  let (f, s) := drawMany 7 s
  let cur := pulseCurrents s f m o
  let peak := (((machBridges s m).flatMap cur).map Int.natAbs).foldl max 0
  if mPar s m 0x20 * 32768 < (peak : Int) * mPar s m 0x04 then failStart m 0x0408 RS_PLUCK_FAIL s
  else
    let n := pulseDir p.resp.length
    let proj := (park (alphaBeta s m (List.range (nSets s m)) cur) (pulseAngle 1 n)).1 / 32768
    let y := pulseResponse (f + 6) proj (pulseVoltSeconds s m n (3200 * p.halfUs) o.vdcMv)
    let p := { p with resp := p.resp ++ [y], peak := max p.peak peak }
    let s := modMach m (fun x => { x with pluck := some p }) s
    if p.resp.length < 12 then firePulse m (afterPulse s m p) s else judgePluck m p s

/-- R254, R255: a pulse of the pluck test has ended, and its sample is evaluated. -/
def execPluckPulse (m : Fin 8) (obs : PluckObs) (s : State) : Out :=
  let x := machAt s m
  match x.pluck with
  | some p =>
    let ended := match p.start with
      | some t => decide (t + 200 * p.halfUs ≤ s.time.dev)
      | none => false
    if isUp s && x.ph == .plucking && !x.ready && ended && !rectWaits s m then .next (onePulse m p obs s) else .next s
  | none => .next s

/-! ### The lock and match (R252, R258) -/

/-- The angle, the speed in PU18 and the voltage vector in PU18 with which a start goes over to RUNNING: of a flying start the measurement,
extrapolated to now (R252); of a pluck test its angle at standstill (R258); of a sensor start the interface's, with the back-EMF that its
bridge measures (R242, R252). -/
def matchFrom (m : Nat) (s : State) : Nat × Int × (State → Int × Int) :=
  let x := machAt s m
  match x.found with
  | some c =>
    let dt : Rat := (s.time.dev : Rat) - (c.time : Rat)
    let hz := elecHz s m 32768
    let turn := (hz * c.speed / 400000000 * dt + c.rate * dt * dt / 2) * 262144
    let spd := c.speed + c.rate * dt * 400000000 / hz
    let v : Int := toPu18 (roundRat c.emfMv) (mPar s m 0x05 * 1000)
    (ang18 (roundRat (c.theta + turn)), ratPu18 spd, fun _ => (0, if spd < 0 then -v else v))
  | none =>
    if x.ph == .plucking then (x.theta, 0, fun _ => (0, 0))
    else (presentAngle s m, ifSpeedPu s m, fun s => let e := measuredEmf s m 0; (ratPu18 e.1, ratPu18 e.2))

/-- R252: the first commit: the loops preloaded, the machine RUNNING, ST_OK. A bridge whose period boundary is now loads at it. -/
def lockMatch (m : Nat) (s : State) : State :=
  let (f, s) := drawMany 7 s
  let (th, spd, volts) := matchFrom m s
  let plucked := (machAt s m).ph == .plucking
  let onObs := mPar s m 0x18 == 2 && !ifAngleOk s m
  let s := rebuildFlux m (endPhase m (finishMach m ST_OK [] s))
  let s := modMach m (fun x => { x with
    theta := th, spd := spd, spdKnown := true, onObs := onObs, inject := plucked, obs := Obs.from s m th (puRat spd) }) s
  let v := volts s
  let b := setBridge s m 0
  let hold : Rat := (max (ctrlPeriod s m) (updInterval s b) : Nat)
  let s := modMach m (fun x => { x with matchAge := 0, thetaC := ang18 ((th : Int) + turned s m (hold / 2)) }) (freshRun v.1 v.2 m s)
  let s := setBridges .running m s
  let s := forEach (machBridges s m) (fun b => modBridge b (fun br => { br with miss := 0, cover := 0, recCnt := 0 })) s
  let s := commitCarrier (f + 1) m s
  forEach (machBridges s m) (fun b s =>
    if (bridgeAt s b).lastBoundary == some s.time.dev then finishBoundary b (atPeak s b) s else s) s

/-- R252: the first period boundary of the machine's lower bridge after the evaluation. -/
def execLockAndMatch (m : Fin 8) (s : State) : Out :=
  let x := machAt s m
  if isUp s && isStart x.ph && x.ready && allIn s (machBridges s m) .armed && decide (x.readyAt < s.time.dev) &&
      (bridgeAt s (setBridge s m 0)).lastBoundary == some s.time.dev && !rectWaits s m then
    .next (lockMatch m s)
  else .next s

/-! ### Validity of the observer (R262) -/

/-- R262: the observer has been out of its limits for P_OBS_TIME. It is judged while it is the angle source (DESIGN CHOICE: the spec does not
say whether the observer of a P_ANG_SRC 2 machine is judged while the interface serves; log entry 51). -/
def execObserverInvalid (m : Fin 8) (s : State) : Out :=
  if isUp s && machRunning s m && isPmsm s m && !usesIf s m && observerGone s m then .next (raiseOnce 0x040A m s) else .next s

end Sys2Proof.Machine
end

