-- ==== Sys2Proof/Machine/Protocol.lean ====
section
/-! DEFINITION. The Vexfi packet protocol (R433 to R466): packets and their checks, UDP datagrams and CAN FD segments, forwarding
by the master, fast setpoint frames, dispatch, and the deadlines of contexts and setpoints. -/

namespace Sys2Proof.Machine

/-! ### Arrival (R439, R446, Table 13.3) -/

/-- What arrives is handled with its origin known to its replies. -/
def withOrigin (o : List Byte) (f : State → State) (s : State) : State :=
  let s := f { s with proto := { s.proto with origin := o } }
  { s with proto := { s.proto with origin := [] } }

/-- A packet discarded without reply (check 1). -/
def discardPacket (s : State) : State := { s with proto := { s.proto with discarded := s.proto.discarded + 1 } }

/-- The header of a packet (Table 13.1). -/
def parseHdr (p : Port) (b : List Byte) : Hdr :=
  ⟨b.getD 4 0, b.getD 5 0, BitVec.ofNat 32 (field b 8 4), hasBit (field b 1 1) 1, hasBit (field b 1 1) 3, p⟩

/-- The length that a header announces: header, payload and MAC. -/
def packetLength (b : List Byte) : Nat := 24 + field b 6 2 + (if hasBit (field b 1 1) 1 then 16 else 0)

/-- The MAC of an authenticated packet verifies under a session's host-to-module key (R434). -/
def macOk (k : Session) (b : List Byte) : Bool :=
  beNat (b.drop (b.length - 16)) == macTop 16 (Config.hmacSha256 k.kH2M (b.take (b.length - 16)))

/-- Check 5 fails (R448): the sixteenth in a row closes the session and is recorded. -/
def macFailed (h : Hdr) (op : Nat) (k : Session) (s : State) : State :=
  let i := h.session.toNat
  let s := bounce h op ST_MAC_FAIL (modSess i (fun k => { k with macFails := k.macFails + 1 }) s)
  if k.macFails + 1 < 16 then s else note 0x0904 (srcNet (portIx h.port)) [] (closeSession i s)

/-- Checks 4 to 9; a request that passes is queued for dispatch. -/
def checkRequest (h : Hdr) (op : Nat) (b : List Byte) (s : State) : State :=
  let payload := slice b 24 (field b 6 2)
  let take := fun (s : State) =>
    let a := admits h op payload s
    if a.1 then enqueue h a.2 else a.2
  if h.auth then
    match sessAt s h.session.toNat with
    | some k =>
      if macOk k b then take (modSess h.session.toNat (fun k => { k with macFails := 0 }) s) else macFailed h op k s
    | none => bounce h op ST_NOT_AUTHORISED s
  else take s

/-- Table 13.3 from check 1; `padOk` says that what follows the packet on CAN FD keeps check 2. -/
def checkPacket (p : Port) (b : List Byte) (padOk : Bool) (s : State) : State :=
  if b.length < 24 ∨ b.getD 0 0 ≠ 0x02 ∨ hasBit (field b 1 1) 0 then discardPacket s
  else
    let h := parseHdr p b
    let op := field b 2 2
    if 4096 < field b 6 2 ∨ b.length ≠ packetLength b ∨ !padOk then bounce h op ST_BAD_LENGTH s
    else if field b 1 1 / 16 ≠ 0 then bounce h op ST_BAD_PARAM s
    else checkRequest h op b s

/-- Padding is all 0x00, and stands on CAN FD alone. -/
def paddingOk (p : Port) (pad : List Byte) : Bool := pad.all (· == 0) && (pad.isEmpty || (portCan p).isSome)

/-- R446. -/
def execPacketArrival (port : Port) (bytes padding : List Byte) (s : State) : Out :=
  if receives s port then .next (checkPacket port bytes (paddingOk port padding) s) else .next s

/-! ### Fast setpoint frames (R458 to R461, R553) -/

/-- The reference of a frame's entry (Table 13.5). -/
def entryRef (s : State) (m : Nat) (b : List Byte) : Ref :=
  let v := signed 32 (field b (8 + 4 * m) 4)
  if hasBit (field b 3 1) m then speedRef s m v else torqueRef s m v

/-- Machine `m` takes an entry from session `i` (R460, R461, R462). -/
def entryPasses (s : State) (i m : Nat) : Bool :=
  machExists s m && takesRefs s m && !boundElsewhere s m i && !(machAt s m).timedOut && (machAt s m).ph != .discharging

/-- One entry of an accepted frame: ignored and counted, or taken; it is stored while a handover holds the main pair. -/
def takeEntry (i : Nat) (b : List Byte) (m : Nat) (s : State) : State :=
  if entryPasses s i m then
    let r := entryRef s m b
    let (n, s) := nextArrival (modMach m (fun x => { x with bound := some i, spLast := s.time.dev }) s)
    if s.store.handover.isSome then
      { s with proto := { s.proto with stored := s.proto.stored ++ [(m, r, n, s.time.esn)] } }
    else applyRef n m r s
  else { s with proto := { s.proto with spIgnored := s.proto.spIgnored + 1 } }

/-- The MAC of a frame verifies: the first 8 bytes over bytes 0 to 55 (Table 13.5). -/
def frameMacOk (k : Session) (b : List Byte) : Bool :=
  field b 56 8 == macTop 8 (Config.hmacSha256 k.kH2M (b.take 56))

/-- A frame is accepted in its session (R459). -/
def frameAccepted (k : Session) (b : List Byte) : Bool :=
  frameMacOk k b && (slice b 40 16).all (· == 0) &&
    (match k.spSeq with
      | some q => serialAfter (BitVec.ofNat 32 (field b 4 4)) q
      | none => true)

/-- An accepted frame: its session's idle time and numbers, where state frames go, and its entries. -/
def acceptFrame (p : Port) (i : Nat) (b : List Byte) (s : State) : State :=
  let s := modSess i (fun k => { k with last := s.time.dev, spSeq := some (BitVec.ofNat 32 (field b 4 4)) }) s
  let s := { s with proto := { s.proto with spSrc := some (i, p, s.proto.origin) } }
  forEach ((List.range 8).filter (hasBit (field b 2 1))) (takeEntry i b) s

/-- A rejected frame is discarded: F-0901 at most once per 100 ms per transport (R459). -/
def rejectFrame (p : Port) (s : State) : State := noteLimited 0x0901 (srcNet (portIx p)) (s.time.dev + 40000000) s

/-- The references of a frame that has passed its MAC check are copied to the monitor pair (R349). -/
def copyEntries (b : List Byte) (s : State) : State :=
  forEach ((List.range 8).filter (hasBit (field b 2 1))) (fun m => modMach m (fun x => { x with monRef := entryRef s m b })) s

/-- R459: a frame of 64 bytes and type 0x12; anything else is discarded and counted (R458). -/
def setpointFrame (p : Port) (b : List Byte) (s : State) : State :=
  if b.length ≠ 64 ∨ b.getD 0 0 ≠ 0x12 then discardPacket s
  else
    let i := field b 1 1
    match sessAt s i with
    | some k =>
      if !gateOpen s 0 then rejectFrame p s
      else
      let s := if frameMacOk k b then copyEntries b s else s
      if frameAccepted k b then acceptFrame p i b s else rejectFrame p s
    | none => rejectFrame p s

/-! ### CAN FD buffers and segments (R440 to R442, R503 to R505) -/

/-- The device serves index `d` on controller buffers (R503). -/
def servesIndex (s : State) (d : Nat) : Bool :=
  if deviceIndex s = 0 then d == 0 || (inCascade s && hasBit (netPar s 0x32) d) else d == deviceIndex s

/-- The buffers of an identifier: 2d and 2d + 1 for setpoints, 8 + 2d and 9 + 2d for requests (Table 15.2). -/
def bufferPair (request : Bool) (d : Nat) : Nat × Nat := if request then (8 + 2 * d, 9 + 2 * d) else (2 * d, 2 * d + 1)

/-- The oldest frame stored for an identifier (R505). -/
def oldestFrame (n : Nat) (request : Bool) (d : Nat) (s : State) : Option (List Byte) :=
  let c := canAt s n
  let fa := (c.rx.getD (bufferPair request d).1 ⟨[]⟩).frames
  let fb := (c.rx.getD (bufferPair request d).2 ⟨[]⟩).frames
  match fa, fb with
  | x :: _, y :: _ => some (if x.1 ≤ y.1 then x.2 else y.2)
  | x :: _, [] => some x.2
  | [], y :: _ => some y.2
  | [], [] => none

/-- The command-context unit ends its read of the oldest stored frame of an identifier: a shadow's frame moves up (R504, R505). -/
def readBuffer (n : Nat) (request : Bool) (d : Nat) (s : State) : State :=
  let (a, b) := bufferPair request d
  modCan n (fun c =>
    let fa := (c.rx.getD a ⟨[]⟩).frames
    let fb := (c.rx.getD b ⟨[]⟩).frames
    let first : Bool := match fa, fb with
      | x :: _, y :: _ => decide (x.1 ≤ y.1)
      | _ :: _, [] => true
      | [], _ => false
    if first then { c with rx := c.rx.set a ⟨fa.drop 1⟩ } else { c with rx := c.rx.set b ⟨fb.drop 1⟩ }) s

/-- A reassembly is discarded and counted: F-0903 at most once per 100 ms per controller (R442). -/
def dropReassembly (n d : Nat) (s : State) : State :=
  let s := modCan n (fun c => { c with disc := c.disc + 1 })
    { s with proto := { s.proto with reasm := s.proto.reasm.set (4 * n + d) none } }
  noteLimited 0x0903 (srcNet (3 + n)) (s.time.dev + 40000000) s

/-- The master forwards to device `d` over the ring; what cannot reach it is discarded and counted (R444). -/
def forwardTo (d : Nat) (origin packet : List Byte) (s : State) : State :=
  let r := sendRing d 0x04 (originBytes origin ++ packet) s
  if r.1 then r.2 else { r.2 with proto := { r.2.proto with unreach := r.2.proto.unreach + 1 } }

/-- Origin bytes of a frame on controller `n` (Table 15.6). -/
def canOrigin (n id : Nat) : List Byte := [BitVec.ofNat 8 (3 + n), 0, 0, 0] ++ beBytes 4 id

/-- A packet reassembled from segments, `lastLen` bytes of them in the last one: what follows its announced length is padding
(R441, check 2). -/
def segmentsDone (can : Fin 4) (d : Nat) (b : List Byte) (lastLen : Nat) (s : State) : State :=
  let n := if b.length < 24 then b.length else packetLength b
  let padOk := decide (b.length < n + lastLen) && (b.drop n).all (· == 0)
  let origin := canOrigin can (canPar s can 0x41 + 2 * d)
  if d = deviceIndex s then withOrigin origin (checkPacket (canPort can) (b.take n) padOk) s
  else forwardTo d origin (if padOk then b.take n else b) s

/-- Bytes of a packet received so far that count towards 4,136 (R442): the padding of a last segment does not. -/
def segmentBytes (b : List Byte) (lastLen : Nat) (last : Bool) : Nat :=
  let n := packetLength b
  if last && decide (24 ≤ b.length ∧ n ≤ b.length ∧ b.length < n + lastLen) then n else b.length

/-- A segment joins what is reassembled so far. -/
def joinSegment (can : Fin 4) (d : Nat) (sofar data : List Byte) (next : Nat) (last : Bool) (s : State) : State :=
  let b := sofar ++ data
  let ix := 4 * can.val + d
  if 4136 < segmentBytes b data.length last then dropReassembly can d s
  else if last then
    segmentsDone can d b data.length { s with proto := { s.proto with reasm := s.proto.reasm.set ix none } }
  else { s with proto := { s.proto with reasm := s.proto.reasm.set ix (some ⟨b, next, s.time.dev⟩) } }

/-- R441, R442: one segment frame for device `d`. -/
def takeSegment (can : Fin 4) (d : Nat) (frame : List Byte) (s : State) : State :=
  let c := field frame 0 1
  let count := c % 64
  let data := frame.drop 1
  let first := hasBit c 7
  let last := hasBit c 6
  let s := match s.proto.reasm.getD (4 * can.val + d) none with
    | some r => if first || decide (r.last + netPar s 0x42 * 40000 < s.time.dev) then dropReassembly can d s else s
    | none => s
  if first then (if count = 0 then joinSegment can d [] data 1 last s else dropReassembly can d s)
  else match s.proto.reasm.getD (4 * can.val + d) none with
    | some r =>
      if count = r.next then joinSegment can d r.bytes data ((count + 1) % 64) last s else dropReassembly can d s
    | none => dropReassembly can d s

/-- R442: the unit reads a segment frame out of its buffer; one without a control byte holds nothing. -/
def execCanSegment (can dev : Fin 4) (s : State) : Out :=
  match oldestFrame can true dev s with
  | some f =>
    if receives s (canPort can) && servesIndex s dev then
      let s := readBuffer can true dev s
      .next (if f.isEmpty then s else takeSegment can dev f s)
    else .next s
  | none => .next s

/-- R442: the gap between two segments exceeds P_SEG_GAP. -/
def execSegmentGapTimeout (can dev : Fin 4) (s : State) : Out :=
  match s.proto.reasm.getD (4 * can.val + dev.val) none with
  | some r =>
    if served s && decide (r.last + netPar s 0x42 * 40000 < s.time.dev) then .next (dropReassembly can dev s) else .next s
  | none => .next s

/-- R459: a fast setpoint frame at the command-context unit; on CAN FD it is read out of its buffer, and answered by state frames on
that controller (R506). -/
def execFastSetpointFrame (src : SpSource) (s : State) : Out :=
  match src with
  | .udp eth bytes => .next (if receives s (ethPort eth) then setpointFrame (ethPort eth) bytes s else s)
  | .ring bytes => .next (if receives s .ring then setpointFrame .ring bytes s else s)
  | .can n => match oldestFrame n false (deviceIndex s) s with
    | some f => .next (if receives s (canPort n) then setpointFrame (canPort n) f (readBuffer n false (deviceIndex s) s) else s)
    | none => .next s

/-! ### UDP (R439, R444, R511) -/

/-- A datagram on an Ethernet port is discarded and counted (R439). -/
def discardDatagram (p : Nat) (s : State) : State :=
  { s with net := { s.net with eth := s.net.eth.modify p (fun e => { e with disc := e.disc + 1 }) } }

/-- A datagram on port 48160: a packet or a fast setpoint frame. -/
def ownDatagram (p : Fin 3) (origin payload : List Byte) (s : State) : State :=
  let t := payload.getD 0 0
  if payload.length = 0 ∨ 4136 < payload.length then discardDatagram p s
  else if t = 0x02 then withOrigin origin (checkPacket (ethPort p) payload true) s
  else if t = 0x12 ∧ payload.length = 64 then withOrigin origin (setpointFrame (ethPort p) payload) s
  else discardDatagram p s

/-- R439, R444: only in the VLAN of R511, on a port that is enabled. -/
def udpArrives (p : Fin 3) (dstPort : Nat) (payload : List Byte) (src : U32) (srcPort : U16) (s : State) : State :=
  let s := { s with net := { s.net with eth := s.net.eth.modify p (fun e => { e with rx := e.rx + 1 }) } }
  let origin := [BitVec.ofNat 8 p.val, 0] ++ beBytes 2 srcPort.toNat ++ beBytes 4 src.toNat
  if dstPort = 48160 then ownDatagram p origin payload s
  else if decide (48160 < dstPort ∧ dstPort < 48164) && deviceIndex s == 0 then forwardTo (dstPort - 48160) origin payload s
  else s

/-- The bytes of a datagram from its start on, as far as its fragments reach without a gap. -/
def joinParts (parts : List (Nat × List Byte)) : Nat → List Byte → List Byte
  | 0, b => b
  | n + 1, b => match parts.find? (fun p => p.1 == b.length && !p.2.isEmpty) with
    | some p => joinParts parts n (b ++ p.2)
    | none => b

/-- A fragment joins those of its datagram (R439): complete, the datagram is taken with the ports of its header; one that would hold more
than 4,136 bytes is discarded and counted. -/
def takeFragment (p : Fin 3) (src : U32) (ident : U16) (offset : Nat) (more : Bool) (bytes : List Byte) (s : State) : State :=
  let mine := fun (f : FragSet) => f.eth == p.val && f.src == src && f.ident == ident
  let old := (s.net.frags.find? mine).getD ⟨p, src, ident, [], none, s.time.dev⟩
  let new : FragSet := { old with parts := old.parts ++ [(offset, bytes)], size := if more then old.size else some (offset + bytes.length) }
  let others := s.net.frags.filter (fun f => !mine f)
  let b := joinParts new.parts new.parts.length []
  if 4144 < offset + bytes.length then discardDatagram p { s with net := { s.net with frags := others } }
  else if new.size = some b.length then
    udpArrives p (field b 2 2) (b.drop 8) src (BitVec.ofNat 16 (field b 0 2)) { s with net := { s.net with frags := others } }
  else { s with net := { s.net with frags := others ++ [new] } }

/-- R439: a datagram, or a fragment of one. -/
def execUdpDatagram (eth : Fin 3) (dstPort vlan : U16) (payload : UdpData) (srcAddr : U32) (srcPort : U16) (s : State) : Out :=
  if receives s (ethPort eth) && vlan.toNat == netPar s 0x27 then
    match payload with
    | .whole b => .next (udpArrives eth dstPort.toNat b srcAddr srcPort s)
    | .fragment ident offset more b => .next (takeFragment eth srcAddr ident offset more b s)
  else .next s

/-! ### CASC_STATUS (R491) -/

/-- The ring state that the device sees: 0 ring, 1 chain, 2 isolated (R529). -/
def ringState (s : State) : Nat := if s.net.rin.down && s.net.rout.down then 2 else if endBits s = 0 then 0 else 1

/-- Devices present: itself, and those heard and not lost (Table 15.6). -/
def devsPresent (s : State) : Nat :=
  bitsOf ((List.range 4).map (fun d => d == deviceIndex s || ((s.net.rem.getD d Remote.reset).heard && !remoteLost s d)))

def opCascStatus (t : Nat) (s : State) : State :=
  finish t ST_OK ([ixByte (deviceIndex s), ixByte (ringState s), ixByte (devsPresent s), ixByte (endBits s)] ++
    beInt 4 s.net.ofs ++ beInt 2 s.net.syncDiff) s

/-- R491. -/
def execCascStatus (h : Hdr) (s : State) : Out := .next (serve h 0x0800 [] false opCascStatus s)

/-! ### Dispatch (R456) -/

/-- What an opcode's payload asks for: whether a write takes effect on a bridge (R116), and the opcode's meaning. -/
abbrev Call := Bool × (Nat → State → State)

/-- A payload of a fixed length. -/
def fixed (n : Nat) (p : List Byte) (f : Nat → State → State) : Option Call := if p.length = n then some (false, f) else none

/-- A value that no form of the opcode names. -/
def badForm (t : Nat) (s : State) : State := refuse t ST_BAD_PARAM RS_NONE 0xFF 0 s

def b16 (p : List Byte) (i : Nat) : U16 := BitVec.ofNat 16 (field p i 2)
def b32 (p : List Byte) (i : Nat) : U32 := BitVec.ofNat 32 (field p i 4)
def b48 (p : List Byte) (i : Nat) : BitVec 48 := BitVec.ofNat 48 (field p i 6)
def b256 (p : List Byte) (i : Nat) : Digest := BitVec.ofNat 256 (field p i 32)
def bRsa (p : List Byte) (i : Nat) : Rsa := BitVec.ofNat 3072 (field p i 384)

/-- The items of a PARAM_WRITE (R483). -/
def writtenItems (p : List Byte) (n : Nat) : List Item :=
  (List.range n).map (fun i => ⟨b16 p (4 + 8 * i), p.getD (6 + 8 * i) 0, b32 p (8 + 8 * i)⟩)

/-- A count of 0 is outside its range (Table 14.9). -/
def noCount (t : Nat) (s : State) : State := refuse t ST_OUT_OF_RANGE RS_NONE 0xFF 0 s

/-- Groups 0x01 and 0x02 (Tables 14.7 and 14.8). -/
def callDrive (op : Nat) (p : List Byte) : Option Call :=
  let b := fun (i : Nat) => p.getD i 0
  match op with
  | 0x0100 => fixed 0 p opIdentify
  | 0x0101 => fixed 0 p opGetState
  | 0x0102 => fixed 1 p (if b 0 = 0 then opServiceLeave else if b 0 = 1 then opServiceEnter else badForm)
  | 0x0103 => fixed 1 p (fun t => opReset t (b 0))
  | 0x0104 => fixed 1 p (fun t => opCtxQuery t (b 0))
  | 0x0200 => fixed 1 p (fun t => opArm t (b 0))
  | 0x0201 => fixed 1 p (fun t => opDisarm t (b 0))
  | 0x0202 => fixed 8 p (fun t => opTorqueSet t (b 0) (b32 p 4))
  | 0x0203 => fixed 8 p (fun t => opSpeedSet t (b 0) (b32 p 4))
  | 0x0204 => fixed 2 p (fun t => opSafeState t (b 0) (b 1))
  | 0x0205 => fixed 2 p (fun t => opStart t (b 0) (b 1))
  | 0x0206 => fixed 1 p (fun t => opPluckTest t (b 0))
  | 0x0207 => fixed 2 p (fun t => opRetire t (b 0) (b 1))
  | 0x0208 => fixed 8 p (fun t => opCmpArm t (b 0) (b 1) (b32 p 4))
  | 0x0209 => fixed 1 p (fun t => opCmpStatus t (b 0))
  | _ => fixed 3 p (fun t => opRemap t (b 0) (b 1) (b 2))

/-- Groups 0x03 to 0x05 (Tables 14.9 and 14.10). -/
def callSets (op : Nat) (p : List Byte) (s : State) : Option Call :=
  let b := fun (i : Nat) => p.getD i 0
  match op with
  | 0x0300 =>
    let n := field p 1 1
    if p.length < 4 ∨ p.length ≠ 4 + 2 * n then none
    else if n = 0 then some (false, noCount)
    else some (false, fun t => opParamRead t (b 0) ((List.range n).map (fun i => b16 p (4 + 2 * i))))
  | 0x0301 =>
    let n := field p 0 1
    if p.length < 4 ∨ p.length ≠ 4 + 8 * n then none
    else if n = 0 then some (false, noCount)
    else some ((writtenItems p n).any (fun i => bridgeScope i.id.toNat), fun t => opParamWrite t (writtenItems p n))
  | 0x0302 =>
    if b 0 = 1 then
      (if p.length = 424 then
        some (onBridgeChange s (stagedSet s), fun t => opCommitApply t (b 1) (b32 p 4) (b256 p 8) (bRsa p 40))
      else none)
    else fixed 4 p (if b 0 = 0 then opCommitPrepare else if b 0 = 2 then opCommitDiscard else badForm)
  | 0x0303 => if p.length = 1 then some (selectOnBridge s, fun t => opSetSelect t (b 0)) else none
  | 0x0400 => fixed 6 p (fun t => opCalRead t (b16 p 0) (b16 p 2) (b 4) (b 5))
  | 0x0401 => if p.length = 2 then some (true, fun t => opCalRecal t (b 0) (b 1)) else none
  | 0x0500 => fixed 848 p (fun t => opUpdBegin t (b16 p 0) (b32 p 4) (parseManifest (p.drop 8)))
  | 0x0501 =>
    if p.length < 5 ∨ 4004 < p.length then none else some (false, fun t => opUpdChunk t (b32 p 0) (p.drop 4))
  | 0x0502 => fixed 0 p opUpdVerify
  | 0x0503 => fixed 1 p (fun t => opUpdActivate t (b 0))
  | _ => fixed 0 p opUpdHandover

/-- Groups 0x06 to 0x08 (Table 14.11). -/
def callTrust (op : Nat) (p : List Byte) : Option Call :=
  let b := fun (i : Nat) => p.getD i 0
  match op with
  | 0x0600 => fixed 0 p opRecInfo
  | 0x0601 => fixed 6 p (fun t => opRecRead t (b32 p 0) (b16 p 4))
  | 0x0602 => fixed 12 p (fun t => opTrendRead t (b16 p 0) (b16 p 2) (BitVec.ofNat 64 (field p 4 8)))
  | 0x0700 => fixed 32 p (fun t => opAttest t (b256 p 0))
  | 0x0701 => fixed 384 p opSessionOpen
  | 0x0702 => fixed 0 p opSessionClose
  | 0x0703 => fixed 1 p (fun t => opKeyInfo t (b 0))
  | 0x0704 => fixed 420 p (if b 0 = 0 then fun t => opOwnerFuse t (b 1) (b 2) (b256 p 4) (bRsa p 36)
      else if b 0 = 1 then fun t => opOwnerRevoke t (b 1) (b 2) (b256 p 4) (bRsa p 36) else badForm)
  | _ => fixed 0 p opCascStatus

/-- Groups 0x09 to 0x0B (Table 14.12). -/
def callPower (op : Nat) (p : List Byte) : Option Call :=
  let b := fun (i : Nat) => p.getD i 0
  match op with
  | 0x0900 => fixed 6 p (fun t => opRegRead t (b32 p 0) (b16 p 4))
  | 0x0901 => fixed 12 p (fun t => opRegWrite t (b32 p 0) (BitVec.ofNat 32 (leNat (slice p 4 4))) (BitVec.ofNat 32 (leNat (slice p 8 4))))
  | 0x0902 => fixed 6 p (fun t => opFreqMeasure t (b 0) (b 1) (b32 p 2))
  | 0x0903 => fixed 0 p opFreeze
  | 0x0904 => fixed 0 p opSnapshotInfo
  | 0x0A00 => fixed 4 p (fun t => opDomainSet t (b 0) (b 1) (b16 p 2))
  | 0x0A01 => fixed 2 p (fun t => opOpPoint t (b 0) (b 1))
  | 0x0A02 => fixed 3 p (fun t => opStandbyEnter t (b 0) (b 1) (b 2))
  | 0x0A03 => fixed 6 p (fun t => opRtcSet t (b48 p 0))
  | 0x0A04 => fixed 7 p (fun t => opAlarmSet t (b48 p 0) (b 6))
  | 0x0B00 => fixed 392 p (fun t => opLockoutClear t (b32 p 0) (b 4) (bRsa p 8))
  | 0x0B01 => fixed 0 p opStoStatus
  | 0x0B02 => fixed 3 p (fun t => opContactorSet t (b 0) (b 1) (b 2))
  | _ => fixed 0 p opLockoutList

/-- What a queued request asks for; none where its payload has not the opcode's length (R471). -/
def callOf (op : Nat) (p : List Byte) (s : State) : Option Call :=
  if op < 0x0300 then callDrive op p else if op < 0x0600 then callSets op p s else if op < 0x0900 then callTrust op p
  else callPower op p

/-- Check 10 and the meaning of the request in context `t`. -/
def runContext (t : Nat) (s : State) : State :=
  let c := ctxAt s t
  match callOf c.opcode.toNat c.payload s with
  | some (onBridge, f) => gated c.opcode.toNat onBridge t (f t) s
  | none => refuse t ST_BAD_LENGTH RS_NONE 0xFF 0 s

/-- One entry of a dispatch queue; a context that is SHORT no more is passed over. -/
def runEntry (t : Nat) (s : State) : State := if (ctxAt s t).st == .short then runContext t s else s

/-- The next request, urgent ones first, each queue in order of arrival (R456). -/
def takeNext (s : State) : State :=
  match s.proto.urgentQ, s.proto.normalQ with
  | t :: q, _ => runEntry t { s with proto := { s.proto with urgentQ := q } }
  | [], t :: q => runEntry t { s with proto := { s.proto with normalQ := q } }
  | [], [] => s

/-- R456. -/
def execDispatch (s : State) : Out := if served s && dispatches s then .next (takeNext s) else .next s

/-! ### Deadlines (R452, R453, R462) -/

/-- The machines whose waiting context is `t`. -/
def machinesTagged (s : State) (t : Nat) : List Nat := (List.range 8).filter (fun m => (machAt s m).tag == some t)

/-- A set that waits for its commit instant is given up: the active set and the markings stay, and its buffer holds no set. -/
def dropPending (s : State) : State :=
  match s.store.pending with
  | some pd =>
    let drop := fun (sl : Slot) => if sl.st == SlotState.verified then { sl with st := SlotState.invalid } else sl
    let s := modSlots .pset (fun k => if pd.slotB then { k with b := drop k.b } else { k with a := drop k.a }) s
    { s with store := { s.store with pending := none } }
  | none => s

/-- The abort of a long operation (Tables 14.8 to 14.12). -/
def abortOp (t : Nat) (c : Ctx) (s : State) : State :=
  let ms := machinesTagged s t
  match c.opcode.toNat with
  | 0x0200 => forEach ms (fun m s => if precharging s m then toIdle m s else modMach m (fun x => { x with armWait := false }) s) s
  | 0x0201 => let m := field c.payload 0 1; commandSafe m (srcMach m) (.machine m) s
  | 0x0205 => forEach ms endPhase s
  | 0x0206 => forEach ms endPhase s
  | 0x0207 => forEach ms (fun m => modMach m (fun x => match x.ramp with
      | .retire _ _ => { x with ramp := .none, halfLim := false }
      | _ => { x with halfLim := false })) s
  | 0x0302 => dropPending s
  | 0x0303 => dropPending s
  | 0x0503 => dropPending s
  | 0x0401 =>
    let i := field c.payload 1 1
    let s := { s with store := { s.store with recal := s.store.recal.filter (fun r => r.2.2 != some t) } }
    if field c.payload 0 1 = 0 then modBridge i (fun b => { b with recalA := false }) s
    else if field c.payload 0 1 = 1 then modBridge i (fun b => { b with recalB := false }) s
    else s
  | 0x0902 => { s with clk := { s.clk with fmBusy := false } }
  | 0x0B02 => dropContactorTag t (forEach (driversOf s t) (commandCtd false) s)
  | _ => s

/-- The deadline of context `t` expires: ST_TIMEOUT from the command-context unit. In SHORT the command is not executed; in LONG
its abort runs, and what is left of the operation goes on without a context. -/
def expireContext (t : Nat) (s : State) : State :=
  let c := ctxAt s t
  let s := { s with proto := { s.proto with urgentQ := s.proto.urgentQ.filter (· != t),
                                            normalQ := s.proto.normalQ.filter (· != t) } }
  let s := finish t ST_TIMEOUT (detail RS_NONE 0xFF 0) s
  if c.st == .long then retag t none (abortOp t c s) else s

/-- The contexts of a tag: its own, and those that closed sessions left under it (Table 13.4). -/
def tagContexts (s : State) (tag : Nat) : List Nat :=
  tag :: ((ctxPlaces s).filter (fun i => decide (128 ≤ i) && (ctxAt s i).hdr.tag.toNat == tag))

/-- The deadline of context `i` has passed. -/
def ctxOver (s : State) (i : Nat) : Bool :=
  ((ctxAt s i).st == .short || (ctxAt s i).st == .long) && decide ((ctxAt s i).deadline ≤ s.time.dev)

/-- R452: an end of the command in the tick of the deadline counts (R45). -/
def execContextDeadline (tag : Fin 128) (s : State) : Out := .next (forEach ((tagContexts s tag).filter (ctxOver s)) expireContext s)

/-- R462: no accepted entry within P_SP_TIMEOUT × P_SP_PERIOD: TIMED_OUT, and F-0902 at L2. -/
def execSetpointTimeout (m : Fin 8) (s : State) : Out :=
  let x := machAt s m
  if isUp s && x.bound.isSome && !x.timedOut &&
      (machBridges s m).any (fun b => stOf s b == .armed || stOf s b == .running) &&
      decide (x.spLast + netPar s 0x41 * netPar s 0x40 * 40000 ≤ s.time.dev) then
    .next (raiseFault 0x0902 m (srcMach m) (.machine m) [] (modMach m (fun x => { x with timedOut := true }) s))
  else .next s

end Sys2Proof.Machine
end

