-- ==== Sys2Proof/Machine/Network.lean ====
section
/-! DEFINITION. The links of the module (R499 to R518, R88): CAN FD controllers and state frames, Ethernet ports, time
synchronisation and time-aware shaping, and the boundary-scan TAP. -/

namespace Sys2Proof.Machine

/-! ### CAN FD (R501, R503 to R505) -/

/-- A controller runs: enabled, and not in bus-off (R501). -/
def canRuns (s : State) (n : Nat) : Bool := served s && canPar s n 0 == 1 && !(canAt s n).busOff && gateOpen s (3 + n)

/-- The Vexfi identifier of a served device that a frame carries, in the format of P_VX_CAN_XTD: a request or a setpoint, and the device
(R440, R503). -/
def vexfiIndex (s : State) (n : Nat) (xtd : Bool) (id : Nat) : Option (Bool × Nat) :=
  let ds := (List.range 4).filter (servesIndex s)
  if xtd != (canPar s n 0x42 == 1) then none
  else match ds.find? (fun d => canPar s n 0x43 + d == id) with
    | some d => some (false, d)
    | none => (ds.find? (fun d => canPar s n 0x41 + 2 * d == id)).map (fun d => (true, d))

/-- A frame carries a Vexfi identifier of a served device, that of its replies included (R440). -/
def onVexfi (s : State) (n : Nat) (xtd : Bool) (id : Nat) : Bool :=
  (vexfiIndex s n xtd id).isSome ||
    (xtd == (canPar s n 0x42 == 1) && (List.range 4).any (fun d => servesIndex s d && canPar s n 0x41 + 2 * d + 1 == id))

/-- A frame with its primary and its shadow full is dropped and counted: F-0913 at most once per 100 ms per controller (R504). -/
def dropFrame (n : Nat) (s : State) : State :=
  noteLimited 0x0913 (srcNet (3 + n)) (s.time.dev + 40000000) (modCan n (fun c => { c with drop := c.drop + 1 }) s)

/-- A frame is stored in a buffer of its identifier, in the two of it alternately where P_CAN_ALT is 1 (R504, R505). -/
def storeFrame (n : Nat) (request : Bool) (d : Nat) (data : List Byte) (s : State) : State :=
  let c := canAt s n
  let k := (if request then 4 else 0) + d
  let (lo, hi) := bufferPair request d
  let up := canPar s n 7 == 1 && c.alt.getD k false
  let i := if up then hi else lo
  let fs := (c.rx.getD i ⟨[]⟩).frames
  if fs.length < 2 then
    modCan n (fun c => { c with rx := c.rx.set i ⟨fs ++ [(c.arrived, data)]⟩, alt := c.alt.set k (!up), arrived := c.arrived + 1 }) s
  else dropFrame n s

/-- A CAN FD frame on a Vexfi identifier: setpoint frames of another device are forwarded by the master, everything else waits in
its buffer (R444, R504). -/
def takeFrame (n : Nat) (request : Bool) (d id : Nat) (data : List Byte) (s : State) : State :=
  if !request && d != deviceIndex s then forwardTo d (canOrigin n id) data s else storeFrame n request d data s

/-- R504: a complete frame. Remote frames, and frames with a recessive res bit, are ignored (Table 15.1); classical frames on Vexfi
identifiers are ignored and counted (R440). -/
def execCanFrameReceive (can : Fin 4) (id : BitVec 29) (form : CanForm) (data : List Byte) (s : State) : Out :=
  if receives s (canPort can) && !form.remote && !form.res then
    if form.fd then
      match vexfiIndex s can form.xtd id.toNat with
      | some (request, d) => .next (takeFrame can request d id.toNat data s)
      | none => .next s
    else if onVexfi s can form.xtd id.toNat then .next (modCan can (fun c => { c with classic := c.classic + 1 }) s)
    else .next s
  else .next s

/-- A frame that a controller sends: CAN FD, in the format of P_VX_CAN_XTD, with BRS where the data rate exceeds the nominal rate, which is 125
to 1,000 kbit/s and 1 to 8 Mbit/s (R440, R499, R500). -/
def sendFrame (n id : Nat) (bytes : List Byte) (s : State) : State :=
  emit (.canFrame n (canPar s n 0x42 == 1) (canPar s n 1 != 3 || canPar s n 2 != 0) id bytes) s

/-- A transmit buffer of a controller holds something: 16 + `k` a reply, 20 a state frame (Table 15.2). -/
def canWaits (s : State) (n k : Nat) : Bool := if k = 4 then (canAt s n).shot.isSome else !(s.net.canTx.getD (4 * n + k) []).isEmpty

/-- A buffer obtains a transmit slot: its next segment, or its state frame, goes out (R443, R506). -/
def sendSlot (n k : Nat) (s : State) : State :=
  if k = 4 then match (canAt s n).shot with
    | some (d, f) => sendFrame n (canPar s n 0x10 + d) f (modCan n (fun c => { c with shot := none }) s)
    | none => s
  else match s.net.canTx.getD (4 * n + k) [] with
    | p :: rest =>
      let i := (canAt s n).seg.getD k 0
      let done := lastSegment p i
      let s := modCan n (fun c => { c with seg := c.seg.set k (if done then 0 else i + 1) }) s
      sendFrame n (canPar s n 0x41 + 2 * k + 1) (segment p i)
        (if done then { s with net := { s.net with canTx := s.net.canTx.set (4 * n + k) rest } } else s)
    | [] => s

/-- The bus of a controller in one tick: which buffer obtains a slot, if any, is its arbitration's; a segment that loses it stays first
(R443; log entry 3). -/
def canTick (n : Nat) (s : State) : State :=
  if canRuns s n && (List.range 5).any (canWaits s n) then
    let (i, s) := drawFree s
    let k := (Config.freeWord i).toNat % 8
    if k < 5 then sendSlot n k s else s
  else s

/-- R501: bus-off: F-0910, and queued frames are discarded. -/
def execCanBusOff (can : Fin 4) (s : State) : Out :=
  if canRuns s can then
    .next (note 0x0910 (srcNet (3 + can)) [] (dropCan can (modCan can (fun c =>
      { c with busOff := true, passive := true, busOffCnt := c.busOffCnt + 1,
               seg := List.replicate 4 0, shot := none }) s)))
  else .next s

/-- R501: recovery after 128 occurrences of 11 recessive bits; the error counters start anew (ISO 11898-1). -/
def execCanBusOffRecovery (can : Fin 4) (occurrences : Nat) (s : State) : Out :=
  if served s && (canAt s can).busOff && decide (128 ≤ occurrences) then
    .next (modCan can (fun c => { c with busOff := false, passive := false, recv := 0, tec := 0 }) s)
  else .next s

/-! ### State frames (R506, R507) -/

/-- A signed 16-bit field, saturated at the ends of its range. -/
def s16 (v : Int) : List Byte := beInt 2 (clampInt (-32768) 32767 v)

/-- Bytes 0 to 55 of a state frame (Table 15.3). -/
def stateHead (s : State) (i : Nat) (q : U32) : List Byte :=
  [0x13, ixByte i, ixByte (deviceIndex s), devStateCode (devState s)] ++ beBytes 4 q.toNat ++ beBytes 8 s.time.dev ++
  (List.range 8).map (fun b => bridgeCode (stOf s b)) ++
  (List.range 8).flatMap (fun m => if machExists s m then s16 (roundDiv (vehicleSpeed s m) 100) else zeros 2) ++
  (List.range 8).flatMap (fun m =>
    if machExists s m then s16 (mPar s m 0x1A * roundDiv ((machAt s m).tRef * 1000) 32768) else zeros 2)

/-- On CAN FD a state frame waits in buffer 20, in place of one that still does (R507). -/
def waitState (p : Port) (d : Nat) (f : List Byte) (s : State) : State :=
  match portCan p with
  | some n => modCan n (fun c => { c with shot := some (d, f) }) s
  | none => s

/-- A state frame of session `i` to where its latest setpoint frame came from; on a port that is down it is lost (R506, R513). -/
def sendState (i : Nat) (p : Port) (origin : List Byte) (k : Session) (s : State) : State :=
  let (e, s) := allocEsn s
  let q := k.stSeq + 1
  let head := stateHead s i q
  let bytes := head ++ beBytes 8 (macTop 8 (Config.hmacSha256 k.kM2H head))
  let s := modSess i (fun k => { k with stSeq := q }) s
  if p = .ring then (sendRing 0 0x04 (originBytes origin ++ bytes) s).2
  else if portLost s p || !portOn s p then s
  else sendEth p origin bytes (emit (.stateFrame p origin e bytes) (waitState p (deviceIndex s) bytes s))

/-- R506: P_ST_PERIOD has passed since a state frame was last due. -/
def execStateFrame (s : State) : Out :=
  if served s && netPar s 0x2B != 0 && periodOver s s.net.stAt (netPar s 0x2B * 40000) then
    let s := { s with net := { s.net with stAt := some s.time.dev } }
    match s.proto.spSrc with
    | some (i, p, origin) => match sessAt s i with
      | some k => .next (sendState i p origin k s)
      | none => .next s
    | none => .next s
  else .next s

/-- R507: the state frame of buffer 20 lost arbitration or met an error, and is not retransmitted. -/
def execOneShotFail (can : Fin 4) (lostArb : Bool) (s : State) : Out :=
  if canRuns s can && (canAt s can).shot.isSome then
    .next (noteLimited 0x0914 (srcNet (3 + can)) (s.time.dev + 40000000)
      (modCan can (fun c => if lostArb then { c with shot := none, lostArb := true } else { c with shot := none, txErr := true }) s))
  else .next s

/-! ### Ethernet (R439, R510, R513) -/

/-- A port is enabled and its switch has D5. -/
def ethOn (s : State) (p : Nat) : Bool := served s && hasBit (netPar s 0x22) p

def modEth (p : Nat) (f : EthPort → EthPort) (s : State) : State :=
  { s with net := { s.net with eth := s.net.eth.modify p f } }

/-- R513: the link of a port drops. -/
def execEthLinkDown (p : Fin 3) (s : State) : Out :=
  if ethOn s p && !portLost s (ethPort p) then
    .next (note 0x0911 (srcNet p) [ixByte p] (modEth p (fun e => { e with link := false, down := e.down + 1 }) s))
  else .next s

/-- R513: the link of a port comes up. -/
def execEthLinkUp (p : Fin 3) (s : State) : Out :=
  if ethOn s p then .next (modEth p (fun e => { e with link := true }) s) else .next s

/-- R439: the reassembly time of 10 ms: the datagrams on a port whose first fragment came `ms` ago or earlier are given up and counted. -/
def execIpv4ReassemblyTimeout (eth : Fin 3) (ms : Nat) (s : State) : Out :=
  let late := fun (f : FragSet) => f.eth == eth.val && decide (f.since + ms * 400000 ≤ s.time.dev)
  if ethOn s eth && decide (10 ≤ ms) then
    .next (forEach (List.range (s.net.frags.filter late).length) (fun _ s => discardDatagram eth s) { s with net := { s.net with frags := s.net.frags.filter (fun f => !late f) } })
  else .next s

/-- R510: the ARP responder answers for P_IP_ADDR. -/
def execArpRequest (p : Fin 3) (target : U32) (s : State) : Out :=
  if ethOn s p && !portLost s (ethPort p) && target.toNat == netPar s 0x24 then .next (emit (.arp p target) s) else .next s

/-- R510: an ICMP echo, at most 10 replies in each second of device time. -/
def echo (p : Nat) (s : State) : State :=
  let win := s.time.dev / 400000000
  let n := if s.net.icmpWin = win then s.net.icmpCnt else 0
  if n < 10 then emit (.icmp p) { s with net := { s.net with icmpWin := win, icmpCnt := n + 1 } } else s

def execIcmpEchoRequest (p : Fin 3) (dst : U32) (s : State) : Out :=
  if ethOn s p && !portLost s (ethPort p) && dst.toNat == netPar s 0x24 then .next (echo p s) else .next s

/-! ### Device time (R43, R514, R515) -/

/-- Times held in State that are judged on the 400 MHz timebase move with a step of device time, so that no interval changes. -/
def shiftTimes (d : Nat) (s : State) : State :=
  let o := fun (t : Option Nat) => t.map (· + d)
  { s with
    proto := { s.proto with
      ctx := s.proto.ctx.map (fun (c : Ctx) => { c with deadline := c.deadline + d })
      left := s.proto.left.map (fun (c : Ctx) => { c with deadline := c.deadline + d })
      sess := s.proto.sess.map (Option.map (fun (k : Session) =>
        { k with last := k.last + d, nonce := k.nonce.map (fun n => (n.1, n.2 + d)) }))
      reasm := s.proto.reasm.map (Option.map (fun (r : Reasm) => { r with last := r.last + d })) }
    machs := s.machs.map (fun (x : Mach) =>
      { x with phStart := x.phStart + d, spLast := x.spLast + d, leftRun := o x.leftRun, reduced := o x.reduced,
               readyAt := x.readyAt + d, extEnd := x.extEnd + d, ranAt := x.ranAt + d, zcTime := x.zcTime + d,
               found := x.found.map (fun k => { k with time := k.time + d }), obs := { x.obs with badSince := o x.obs.badSince },
               pluck := x.pluck.map (fun k => { k with start := o k.start }), mon := { x.mon with time := o x.mon.time } })
    bridges := s.bridges.map (fun (b : Bridge) =>
      { b with xon := b.xon.map (· + d), lastBoundary := o b.lastBoundary, ctrlAt := o b.ctrlAt, pulseAt := b.pulseAt + d,
               sched := b.sched.map (fun e => { e with time := e.time + 16 * d }),
               sent := b.sent.map (fun e => { e with time := e.time + 16 * d }) })
    chans := s.chans.map (fun (c : Chan) => { c with gateAt := c.gateAt + d, offAt := c.offAt + 16 * d, refused := o c.refused })
    pos := s.pos.map (fun (x : PosIf) =>
      { x with track := { x.track with time := x.track.time + d, lockAt := o x.track.lockAt }, checkAt := x.checkAt + d,
               latchAt := o x.latchAt, hallBadAt := o x.hallBadAt, edges := x.edges.map (fun e => (e.1, e.2 + d / 4)), lastEdge := x.lastEdge.map (· + d / 4),
               initAt := x.initAt + d / 4, winAt := x.winAt + d / 4, bad := x.bad.map (· + d / 4) })
    pouts := s.pouts.map (fun (x : Pout) => { x with since := o x.since })
    cmps := s.cmps.map (fun (x : CmpUnit) => { x with recUntil := x.recUntil + d })
    lgs := s.lgs.map (fun (x : LinkGroup) =>
      { x with chopAt := x.chopAt + d, formAt := x.formAt + d, disAt := x.disAt + d, lowAt := o x.lowAt, dis := x.dis.map (fun k => { k with start := k.start + d }) })
    ctds := s.ctds.map (fun (c : Contactor) => { c with since := c.since + d })
    safety := { s.safety with main := { s.safety.main with injAt := s.safety.main.injAt + d }, mon := { s.safety.mon with injAt := s.safety.mon.injAt + d },
                               locks := s.safety.locks.map (fun (k : Lockout) => { k with armed := o k.armed }) }
    temps := s.temps.map (fun (x : Sensor) => { x with hist := x.hist.map (fun h => (h.1 + d, h.2)), measAt := o x.measAt, learnAt := o x.learnAt, monAt := o x.monAt })
    dev := { s.dev with compAt := o s.dev.compAt }
    store := { s.store with handover := s.store.handover.map (fun h => { h with halt := h.halt + d }) }
    recd := { s.recd with postEnd := o s.recd.postEnd,
                          trendStart := s.recd.trendStart.map (· + d),
                          rate := s.recd.rate.map (fun (r : RateSlot) => { r with until_ := r.until_ + d }) }
    net := { s.net with sentLog := s.net.sentLog.map (fun e => (e.1, e.2.1, e.2.2 + d)),
                        stAt := o s.net.stAt, ringAt := o s.net.ringAt, lkAt := o s.net.lkAt,
                        frags := s.net.frags.map (fun f => { f with since := f.since + d }), eth := s.net.eth.map (fun e => { e with busy := e.busy + d }),
                        lastTime := s.net.lastTime + d, timeSince := s.net.timeSince + d,
                        rem := s.net.rem.map (fun (r : Remote) => { r with seenAt := r.seenAt + d }),
                        rin := { s.net.rin with linkAt := s.net.rin.linkAt + d, reqAt := o s.net.rin.reqAt }
                        rout := { s.net.rout with linkAt := s.net.rout.linkAt + d, reqAt := o s.net.rout.reqAt } } }

/-- A forward step of device time: the gate cycle in progress ends (R43, R518). -/
def stepTime (d : Nat) (s : State) : State :=
  let s := shiftTimes d s
  { s with time := { s.time with dev := s.time.dev + d }, net := { s.net with slew := 0, qbv := false } }

/-- R43: device time is ahead of its reference by `off` ticks: more than 10 us behind, with no bridge active, it is stepped, and
otherwise slewed. -/
def correctTime (off : Int) (s : State) : State :=
  if off < -4000 ∧ !(anyActive s (List.range 8)) then stepTime off.natAbs s
  else { s with net := { s.net with slew := -off } }

/-- R514: a Sync message with device time ahead of the grandmaster by `offset` ticks; a slave follows the ring instead. -/
def execGptpSync (offset : Int) (s : State) : Out :=
  if served s && netPar s 0x29 == 1 then
    let s := { s with net := { s.net with
      gptpSync := true, gptpOfs := clampInt (-2147483648) 2147483647 (roundDiv (offset * 5) 2) } }
    if isSlave s then .next s else .next (correctTime offset s)
  else .next s

/-- R515: three Sync intervals without a Sync message. -/
def execGptpSyncLoss (intervals : Nat) (s : State) : Out :=
  if served s && netPar s 0x29 == 1 && decide (3 ≤ intervals) && (s.net.gptpSync || intervals == 3) then
    .next (note 0x0912 (srcDom 5) [] { s with net := { s.net with gptpSync := false } })
  else .next s

/-! ### Time-aware shaping (R516 to R518) -/

/-- The gate control list of the active set (Table 15.9): gates and interval in us of each entry. -/
def configuredGcl (s : State) : List (Nat × Nat) :=
  (List.range (netPar s 0x21)).map (fun i =>
    let w := netPar s (i / 2)
    let h := if i % 2 = 0 then w / 65536 else w % 65536
    (h / 4096, h % 4096))

/-- The cycle length of a list in ticks. -/
def cycleTicks (l : List (Nat × Nat)) : Nat := (l.map (fun e => e.2 * 400)).foldl (· + ·) 0

/-- The list whose cycles run now. -/
def runningGcl (s : State) : List (Nat × Nat) := if s.net.gcl.isEmpty then configuredGcl s else s.net.gcl

/-- R516, R518: a cycle begins at a whole multiple of the cycle length, and a changed list takes effect with it. -/
def execQbvCycleStart (s : State) : Out :=
  let c := cycleTicks (runningGcl s)
  if served s && decide (0 < c) && s.time.dev % c == 0 then
    .next { s with net := { s.net with
      gcl := configuredGcl s, gclPorts := netPar s 0x20, qbv := netPar s 0x20 != 0, qbvStart := s.time.dev } }
  else .next s

/-- Ticks for which the gate of a class stays open from the start of a list. -/
def openLead (c : Nat) : List (Nat × Nat) → Nat
  | [] => 0
  | (g, us) :: r => if hasBit g c then us * 400 + openLead c r else 0

/-- Ticks for which the gate of a class stays open from `pos` ticks into a list; 0 where it is closed there. -/
def openFrom (c : Nat) : List (Nat × Nat) → Nat → Nat
  | [], _ => 0
  | (g, us) :: r, pos =>
    if us * 400 ≤ pos then openFrom c r (pos - us * 400)
    else if hasBit g c then us * 400 - pos + openLead c r else 0

/-- Ticks that a frame takes on a port's line: its part of the datagram with IP and Ethernet header, check sequence, the tag where the VLAN
is tagged, at least 64 bytes, and preamble and gap (IEEE 802.3), at 1 Gbit/s on ETH0 and ETH1 and 100 Mbit/s on ETH2 (Table 15.4). -/
def frameTicks (f : EthFrame) : Nat :=
  let bytes := max 64 (f.length + 20 + 18 + (if f.vid = 0 then 0 else 4)) + 20
  if f.port = 2 then bytes * 32 else (bytes * 16 + 4) / 5

/-- A frame may start now: it completes before the gate of its class closes (R516, R517, Table 15.4). -/
def frameFits (s : State) (f : EthFrame) : Bool :=
  let l := s.net.gcl
  let c := f.pcp / 2
  let pos := (s.time.dev - s.net.qbvStart) % cycleTicks l
  l.all (fun e => hasBit e.1 c) || decide (frameTicks f ≤ openFrom c (l ++ l) pos)

/-- The frames of a port that wait: with its link down they are discarded; ungated they go out; gated, the first starts when the line is free
and it fits (R513, R517). -/
def egressTick (p : Nat) (s : State) : State :=
  let mine := s.net.egress.filter (fun f => f.port == p)
  let keep := s.net.egress.filter (fun f => f.port != p)
  let send := fun (fs left : List EthFrame) (s : State) =>
    fs.foldl (fun s f => emit (.ethFrame f) s) { s with net := { s.net with egress := left } }
  match mine with
  | [] => s
  | f :: rest =>
    if !(s.net.eth.getD p EthPort.reset).link && (s.net.eth.getD p EthPort.reset).down != 0 then send [] keep s
    else if !portGated s p then send mine keep s
    else if (s.net.eth.getD p EthPort.reset).busy ≤ s.time.dev ∧ frameFits s f then
      send [f] (rest ++ keep) (modEth p (fun e => { e with busy := s.time.dev + frameTicks f }) s)
    else s

/-! ### Boundary scan (R88) -/

/-- The instruction that the TAP holds: one that R88 does not name is not accepted. -/
def tapTakes (s : State) (op : Byte) : Byte := if op.toNat ≤ 3 then op else s.pins.tap

/-- R88, on J8 that VIO supplies; without VIO the TAP is held in reset (R87, R93). -/
def execTapInstruction (op : Byte) (vio : Bool) (s : State) : Out :=
  let s := { s with pins := { s.pins with tap := if vio then tapTakes s op else 0 } }
  if tapRuns s = 2 then
    let (f, s) := drawMany 56 s
    .next { s with pins := { s.pins with cells := pinCells f s } }
  else .next s

end Sys2Proof.Machine
end

