-- ==== Sys2Proof/Machine/Ring.lean ====
section
/-! DEFINITION. The cascade ring (R519 to R532): frames and forwarding, time, fault broadcast, links, lost devices. -/

namespace Sys2Proof.Machine

/-! ### What the device sends (R520, R524, R526) -/

/-- The FAULT flags of the device (R526): a link group with an override at L3 or above, an STO demand, LOCKED. -/
def ownFlags (s : State) : Nat :=
  let safe := fun (g : Nat) => (lgBridges s g).any (fun b => (bridgeAt s b).ovr.any (fun o => decide (3 ≤ o.level)))
  bitAt (safe 0) 0 + bitAt (safe 1) 1 + bitAt (s.safety.demA || s.safety.demB) 2 + bitAt (devState s == .locked) 3

/-- Payload of a FAULT frame (Table 15.6). -/
def faultPayload (s : State) : List Byte := [ixByte (ownFlags s), devStateCode (devState s), 0, 0]

/-- A FAULT frame on both ports (R523, R526). -/
def sendFault (s : State) : State :=
  broadcastRing 0x02 (faultPayload s) { s with net := { s.net with sent := BitVec.ofNat 4 (ownFlags s) } }

/-- The ring's fault path acts: on the always-on rail, FROZEN included. -/
def faultPath (s : State) : Bool := inCascade s && (isLive s || served s)

/-- R526: a flag of the soundpost has changed since it was sent. -/
def execFaultFlagChange (s : State) : Out :=
  if faultPath s && ownFlags s != s.net.sent.toNat then .next (sendFault s) else .next s

/-- Flags of every device as the master collects them, 4 bits each (Table 15.6). -/
def summedFlags (s : State) : Nat :=
  (List.range 4).foldl (fun n d =>
    n + (if d = deviceIndex s then ownFlags s else (s.net.rem.getD d Remote.reset).flags.toNat) * 16 ^ d) 0

/-- FAULT_SUM and TIME of the master (Table 15.6, R523). -/
def sendMaster (s : State) : State :=
  let s := broadcastRing 0x03 (beBytes 2 (summedFlags s) ++ [ixByte (devsPresent s), ixByte (endBits s)]) s
  broadcastRing 0x01 (beBytes 8 s.time.dev ++ zeros 8) s

/-- R520: every P_CASC_TPER, in FROZEN at the row itself, as the timebase stands; a master in an index conflict sends no TIME and no FAULT_SUM (R531). -/
def execRingPeriodicSend (s : State) : Out :=
  if faultPath s && (s.dev.ph == .frozen || periodOver s s.net.ringAt (netPar s 0x30 * 400)) then
    let s := sendFault { s with net := { s.net with ringAt := some s.time.dev } }
    .next (if served s && deviceIndex s == 0 && !s.net.conflict then sendMaster s else s)
  else .next s

/-- The state that a device reports of its own ports in LINK: 0, 1 or 2 of them down (Table 15.6; log entry 23). -/
def linkState (s : State) : Nat := (if s.net.rin.down then 1 else 0) + (if s.net.rout.down then 1 else 0)

/-- R520: a LINK frame on each port every 1 ms. Its destination is not stated (log entry 3). -/
def execRingLinkSend (s : State) : Out :=
  if served s && inCascade s && periodOver s s.net.lkAt 400000 then
    let (f, s) := drawFree { s with net := { s.net with lkAt := some s.time.dev } }
    let (fr, s) := newFrame 0x05 ((Config.freeWord f).setWidth 8) [ixByte (deviceIndex s), ixByte (linkState s), 0, 0] s
    .next (putRing fr .rout (putRing fr .rin s))
  else .next s

def modRing (p : RingPort) (f : RingP → RingP) (s : State) : State :=
  match p with
  | .rin => { s with net := { s.net with rin := f s.net.rin } }
  | .rout => { s with net := { s.net with rout := f s.net.rout } }

/-- R524: every 1 s a port's link delay is measured: half the round trip less the peer's turnaround. -/
def execRingDelayReq (port : RingPort) (t1 t2 t3 t4 : Nat) (s : State) : Out :=
  if served s && inCascade s && !(ringPort s port).down && periodOver s (ringPort s port).reqAt 400000000 then
    let (f, s) := drawFree s
    let (fr, s) := newFrame 0x06 ((Config.freeWord f).setWidth 8) (beBytes 8 (t1 / 16)) s
    .next (modRing port (fun p => { p with delay := ((t4 - t1) - (t3 - t2)) / 2, reqAt := some s.time.dev }) (putRing fr port s))
  else .next s

/-! ### Links (R529) -/

/-- The master sees a chain end for the first time: F-0B02 with the chain ends (R529). -/
def judgeChain (s : State) : State :=
  if deviceIndex s = 0 ∧ inCascade s then
    if endBits s = 0 then { s with net := { s.net with chainRec := false } }
    else if s.net.chainRec then s
    else note 0x0B02 (srcCasc 0) [ixByte (endBits s)] { s with net := { s.net with chainRec := true } }
  else s

/-- Code of a ring port in event data: 0 IN, 1 OUT. -/
def ringIx : RingPort → Byte
  | .rin => 0
  | .rout => 1

/-- The failure takes the link down (R529): 1 us without lock, 3 ms without a LINK frame, three frames in a row with a CRC error. -/
def failsLink (s : State) (p : RingP) : RingFail → Bool
  | .noLock ns => decide (1000 ≤ ns)
  | .noLink => decide (p.linkAt + 1200000 ≤ s.time.dev)
  | .crc => decide (3 ≤ p.crcBad)

/-- R529: a port's link is down: F-0B01 names the port. -/
def execRingLinkDown (port : RingPort) (why : RingFail) (s : State) : Out :=
  if served s && inCascade s && !(ringPort s port).down && failsLink s (ringPort s port) why then
    .next (judgeChain (note 0x0B01 (srcCasc (deviceIndex s)) [ringIx port, 0] (modRing port (fun p => { p with down := true, crcBad := 0 }) s)))
  else .next s

/-- R529: a link is restored after 100 ms; the return to a ring is recorded under F-0B01 with its restored flag. -/
def execRingLinkRestored (port : RingPort) (ms : Nat) (s : State) : Out :=
  if served s && inCascade s && (ringPort s port).down && decide (100 ≤ ms) then
    let s := modRing port (fun p => { p with down := false, seen := 0, linkAt := s.time.dev, crcBad := 0 }) s
    let s := if deviceIndex s = 0 then s else { s with net := { s.net with ends := 0 } }
    let s := if endBits s = 0 then note 0x0B01 (srcCasc (deviceIndex s)) [ringIx port, 1] s else s
    .next (judgeChain s)
  else .next s

/-! ### Lost devices, lost master, index conflict (R530 to R532) -/

def modRem (d : Nat) (f : Remote → Remote) (s : State) : State :=
  { s with net := { s.net with rem := s.net.rem.modify d f } }

/-- R530: nothing has arrived from a device for P_CASC_MLOSS. -/
def execCascadeDeviceLost (d : Fin 4) (s : State) : Out :=
  let r := s.net.rem.getD d Remote.reset
  if served s && inCascade s && d.val != deviceIndex s && hasBit (netPar s 0x36) d && decide (r.seenAt + netPar s 0x31 * 400 ≤ s.time.dev) && !r.lost then
    .next (cascadeHold s (note 0x0B04 (srcCasc d) [ixByte d] (modRem d (fun r => { r with lost := true }) s)))
  else .next s

/-- R532: a slave has had no TIME frame for P_CASC_MLOSS: F-0B03 at L2 for every bridge. -/
def execMasterLost (s : State) : Out :=
  if served s && isSlave s && !s.net.noMaster && decide (s.net.lastTime + netPar s 0x31 * 400 ≤ s.time.dev) then
    .next (raiseFault 0x0B03 0 (srcCasc 0) .device [] { s with net := { s.net with noMaster := true } })
  else .next s

/-- R531: an index conflict, until the next entry to BOOT: F-0B06 and the safe state of every bridge. -/
def indexConflict (s : State) : State :=
  if s.net.conflict then s
  else raiseFault 0x0B06 0 (srcDom 5) .device [] { s with net := { s.net with conflict := true } }

/-- A frame of the device's own index, type and sequence left it within the last 1 ms (R531). -/
def sentLately (s : State) (f : RingFrame) : Bool :=
  s.net.sentLog.any (fun e => e.1 == f.typ && e.2.1 == f.seq && decide (s.time.dev ≤ e.2.2 + 400000))

/-! ### Acting on a frame (R522, R524, R526) -/

/-- R524, R43: a TIME frame at a slave: master time is the frame's time, its residence and the link delay of its port, in
156.25 ps steps. -/
def takeTime (port : RingPort) (f : RingFrame) (s : State) : State :=
  let now := s.time.dev
  let off : Int := (now : Int) * 16 - (field f.payload 0 8 * 16 + field f.payload 8 4 + (ringPort s port).delay : Nat)
  let gap := decide (s.net.lastTime + netPar s 0x31 * 400 < now)
  let since := if gap then now else s.net.timeSince
  let s := { s with net := { s.net with
    ofs := clampInt (-2147483648) 2147483647 (roundDiv (off * 25) 16), lastTime := now, timeSince := since,
    noMaster := s.net.noMaster && decide (now < since + 40000000) } }
  correctTime (roundDiv off 16) s

/-- R526: a FAULT frame's flags. -/
def takeFault (d : Nat) (f : RingFrame) (s : State) : State :=
  modRem d (fun r => { r with flags := BitVec.ofNat 4 (field f.payload 0 1) }) s

/-- R526: the flags and the chain ends of FAULT_SUM. -/
def takeSum (f : RingFrame) (s : State) : State :=
  let v := field f.payload 0 2
  { s with net := { s.net with
    rem := s.net.rem.mapIdx (fun d (r : Remote) => { r with sum := BitVec.ofNat 4 (v / 16 ^ d) })
    ends := BitVec.ofNat 4 (field f.payload 3 1) } }

/-- What a slave sends back by a controller: a state frame, or a reply, on the identifier of the slave's index (R444, R506, Table 15.2). -/
def relayCan (p : Port) (id : Nat) (body : List Byte) (s : State) : State :=
  match portCan p with
  | some n =>
    if body.getD 0 0 = 0x13 then waitState p (id - canPar s n 0x43) body s else queueCan n ((id - canPar s n 0x41) / 2) body s
  | none => s

/-- A VEXFI frame for this device: on a slave a packet or a setpoint frame, judged as if on its own transport; on the master
what a slave sends back, which leaves by the port or identifier of its origin (R444, R521). -/
def takeVexfi (f : RingFrame) (s : State) : State :=
  let origin := f.payload.take 8
  let body := f.payload.drop 8
  if deviceIndex s = 0 then
    let o := field origin 0 1
    let p : Option Port := if o < 3 then [Port.eth0, .eth1, .eth2][o]? else [Port.can0, .can1, .can2, .can3][o - 3]?
    match p with
    | some p => if portLost s p || !portOn s p then s
      else sendEth p origin body (emit (.relay p origin body) (relayCan p (field origin 4 4) body s))
    | none => s
  else if receives s .ring then
    withOrigin origin (fun s => if body.getD 0 0 = 0x12 then setpointFrame .ring body s else checkPacket .ring body true s) s
  else s

/-- The first copy of a frame is acted on; TIME and FAULT_SUM are the master's. -/
def actFrame (port : RingPort) (f : RingFrame) (s : State) : State :=
  let d := f.src.toNat
  match f.typ.toNat with
  | 0x01 => if d = 0 ∧ isSlave s then takeTime port f s else s
  | 0x02 => takeFault d f s
  | 0x03 => if d = 0 then takeSum f s else s
  | 0x04 => takeVexfi f s
  | _ => s

/-- A DELAY_RESP to a request of the port: half the round trip less the peer's turnaround, its arrival taken with interpolator resolution
(R524; log entry 3). -/
def answered (port : RingPort) (f : RingFrame) (s : State) : State :=
  if (ringPort s port).reqAt.isSome then
    let (i, s) := drawFree s
    let t4 := s.time.dev * 16 + (Config.freeWord i).toNat % 16
    let turn := (field f.payload 16 8 - field f.payload 8 8) * 16
    modRing port (fun p => { p with delay := (t4 - field f.payload 0 8 * 16 - turn) / 2 }) s
  else s

/-- A frame of the neighbour that is never forwarded: LINK, DELAY_REQ or DELAY_RESP (Table 15.6). -/
def takeLocal (port : RingPort) (f : RingFrame) (s : State) : State :=
  if f.typ = 0x05 then
    if field f.payload 0 1 = deviceIndex s then indexConflict s
    else judgeChain (modRing port (fun p => { p with seen := field f.payload 1 1, linkAt := s.time.dev }) s)
  else if f.typ = 0x06 then
    let (i, s) := drawFree s
    let (fr, s) := newFrame 0x07 (BitVec.ofNat 8 f.src.toNat)
      (beBytes 8 (field f.payload 0 8) ++ beBytes 8 s.time.dev ++ beBytes 8 (s.time.dev + (Config.freeWord i).toNat)) s
    putRing fr port s
  else if f.typ = 0x07 then answered port f s
  else s

/-- A forwarded frame: one hop more, and in TIME the residence, which one hop bounds at 120 ns (R519, R524). -/
def forwarded (i : Nat) (f : RingFrame) : RingFrame :=
  let stay := (Config.freeWord i).toNat % 769
  let p := f.payload
  { f with
    hops := f.hops + 1
    payload := if f.typ = 0x01 then p.take 8 ++ beBytes 4 (field p 8 4 + stay) ++ p.drop 12 else p }

/-- A frame goes on (R522): one to all unless its hop count would exceed 3, one to another device by the other port. -/
def passOn (port : RingPort) (f : RingFrame) (s : State) : State :=
  let go : Bool := if f.dst = 0xFF then decide (f.hops.toNat + 1 ≤ 3) else f.dst.toNat != deviceIndex s
  if go && !(ringPort s (otherRing port)).down then
    let (i, s) := drawFree s
    emit (.forward (otherRing port) (forwarded i f)) s
  else s

/-- A frame that is for this device. -/
def forUs (s : State) (f : RingFrame) : Bool := f.dst == 0xFF || f.dst.toNat == deviceIndex s

/-- A frame from another device with a good CRC: its source is heard, and its first copy acted on (R522, R530). -/
def hearFrame (port : RingPort) (f : RingFrame) (s : State) : State :=
  let d := f.src.toNat
  let k := f.typ.toNat - 1
  let old := (s.net.rem.getD d Remote.reset).seqs.getD k []
  let s := modRem d (fun r => { r with heard := true, lost := false, seenAt := s.time.dev }) s
  if 5 ≤ f.typ.toNat then takeLocal port f s
  else if forUs s f && !old.contains f.seq then
    actFrame port f (modRem d (fun r => { r with seqs := r.seqs.set k ((f.seq :: old).take 128) }) s)
  else s

/-- A frame arrives on a port (R520, R522, R531). -/
def ringFrame (port : RingPort) (f : RingFrame) (s : State) : State :=
  let own : Bool := f.src.toNat == deviceIndex s
  let s := modRing port (fun p => { p with crcBad := if f.crcOk then 0 else p.crcBad + 1 }) s
  let s' := if own || decide (5 ≤ f.typ.toNat) then s else passOn port f s
  if !f.crcOk then s'
  else if own then (if sentLately s f then s' else indexConflict s')
  else cascadeHold s (hearFrame port f s')

/-- R522: off BOOT's network service, and while FROZEN, only the fault path acts (R526 to R528). -/
def execRingFrameReceive (port : RingPort) (f : RingFrame) (s : State) : Out :=
  if served s || (faultPath s && (f.typ == 0x02 || f.typ == 0x03)) then .next (ringFrame port f s) else .next s

end Sys2Proof.Machine
end

