-- ==== Sys2Proof/Machine/Dispatch.lean ====
section
/-! DEFINITION. One arm per command: the meaning it calls, its name written in full. -/

namespace Sys2Proof.Machine

def exec (i : Instr) (s : State) : Host.Outcome State Fault Refusal :=
  match i with
  | .identify h => Sys2Proof.Machine.execIdentify h s
  | .getState h => Sys2Proof.Machine.execGetState h s
  | .setOpModeEnter h => Sys2Proof.Machine.execSetOpModeEnter h s
  | .setOpModeLeave h => Sys2Proof.Machine.execSetOpModeLeave h s
  | .reset h arg => Sys2Proof.Machine.execReset h arg s
  | .ctxQuery h tag => Sys2Proof.Machine.execCtxQuery h tag s
  | .arm h machine => Sys2Proof.Machine.execArm h machine s
  | .disarm h machine => Sys2Proof.Machine.execDisarm h machine s
  | .torqueSet h machine torque => Sys2Proof.Machine.execTorqueSet h machine torque s
  | .speedSet h machine speed => Sys2Proof.Machine.execSpeedSet h machine speed s
  | .safeState h scope index => Sys2Proof.Machine.execSafeState h scope index s
  | .start h machine dir => Sys2Proof.Machine.execStart h machine dir s
  | .pluckTest h machine => Sys2Proof.Machine.execPluckTest h machine s
  | .retire h kind index => Sys2Proof.Machine.execRetire h kind index s
  | .cmpArm h unit form target => Sys2Proof.Machine.execCmpArm h unit form target s
  | .cmpStatus h unit => Sys2Proof.Machine.execCmpStatus h unit s
  | .remap h kind retired repl => Sys2Proof.Machine.execRemap h kind retired repl s
  | .paramRead h source ids => Sys2Proof.Machine.execParamRead h source ids s
  | .paramWrite h items => Sys2Proof.Machine.execParamWrite h items s
  | .paramCommitPrepare h => Sys2Proof.Machine.execParamCommitPrepare h s
  | .paramCommitApply h slot serial digest sig => Sys2Proof.Machine.execParamCommitApply h slot serial digest sig s
  | .paramCommitDiscard h => Sys2Proof.Machine.execParamCommitDiscard h s
  | .setSelect h arg => Sys2Proof.Machine.execSetSelect h arg s
  | .calRead h kind inst origin age => Sys2Proof.Machine.execCalRead h kind inst origin age s
  | .calRecal h target index => Sys2Proof.Machine.execCalRecal h target index s
  | .updBegin h cls total manifest => Sys2Proof.Machine.execUpdBegin h cls total manifest s
  | .updChunk h offset data => Sys2Proof.Machine.execUpdChunk h offset data s
  | .updVerify h => Sys2Proof.Machine.execUpdVerify h s
  | .updActivate h timing => Sys2Proof.Machine.execUpdActivate h timing s
  | .updHandover h => Sys2Proof.Machine.execUpdHandover h s
  | .recInfo h => Sys2Proof.Machine.execRecInfo h s
  | .recRead h first count => Sys2Proof.Machine.execRecRead h first count s
  | .trendRead h channel count time => Sys2Proof.Machine.execTrendRead h channel count time s
  | .attest h nonce => Sys2Proof.Machine.execAttest h nonce s
  | .sessionOpen h plain => Sys2Proof.Machine.execSessionOpen h plain s
  | .sessionClose h => Sys2Proof.Machine.execSessionClose h s
  | .keyInfo h part => Sys2Proof.Machine.execKeyInfo h part s
  | .ownerSlotFuse h signer target hash sig => Sys2Proof.Machine.execOwnerSlotFuse h signer target hash sig s
  | .ownerSlotRevoke h signer target hash sig => Sys2Proof.Machine.execOwnerSlotRevoke h signer target hash sig s
  | .cascStatus h => Sys2Proof.Machine.execCascStatus h s
  | .regRead h addr words => Sys2Proof.Machine.execRegRead h addr words s
  | .regWrite h addr mask value => Sys2Proof.Machine.execRegWrite h addr mask value s
  | .freqMeasure h inSel refSel nRef => Sys2Proof.Machine.execFreqMeasure h inSel refSel nRef s
  | .freeze h => Sys2Proof.Machine.execFreeze h s
  | .snapshotInfo h => Sys2Proof.Machine.execSnapshotInfo h s
  | .domainSet h domain request hold => Sys2Proof.Machine.execDomainSet h domain request hold s
  | .opPoint h pair point => Sys2Proof.Machine.execOpPoint h pair point s
  | .standbyEnter h depth timing canWake => Sys2Proof.Machine.execStandbyEnter h depth timing canWake s
  | .rtcSet h count => Sys2Proof.Machine.execRtcSet h count s
  | .alarmSet h alarm armed => Sys2Proof.Machine.execAlarmSet h alarm armed s
  | .lockoutClear h esn slot sig => Sys2Proof.Machine.execLockoutClear h esn slot sig s
  | .stoStatus h => Sys2Proof.Machine.execStoStatus h s
  | .contactorSet h mask command discharge => Sys2Proof.Machine.execContactorSet h mask command discharge s
  | .lockoutList h => Sys2Proof.Machine.execLockoutList h s
  | .clkSelWrite value => Sys2Proof.Machine.execClkSelWrite value s
  | .clockSwitchForced oldEdge => Sys2Proof.Machine.execClockSwitchForced oldEdge s
  | .clkGateOpen bit => Sys2Proof.Machine.execClkGateOpen bit s
  | .clkGateClose bit idleAt => Sys2Proof.Machine.execClkGateClose bit idleAt s
  | .gateCloseForced bit idleAt => Sys2Proof.Machine.execGateCloseForced bit idleAt s
  | .domCtlRequest n req hold => Sys2Proof.Machine.execDomCtlRequest n req hold s
  | .opPointRegRequest pair point => Sys2Proof.Machine.execOpPointRegRequest pair point s
  | .fmStart => Sys2Proof.Machine.execFmStart s
  | .recFlush => Sys2Proof.Machine.execRecFlush s
  | .recSampleEnWrite en => Sys2Proof.Machine.execRecSampleEnWrite en s
  | .snsTestForce bank force input => Sys2Proof.Machine.execSnsTestForce bank force input s
  | .snpStatus vio => Sys2Proof.Machine.execSnpStatus vio s
  | .snpRead vio addr count => Sys2Proof.Machine.execSnpRead vio addr count s
  | .restart vio second => Sys2Proof.Machine.execRestart vio second s
  | .kl15Rise => Sys2Proof.Machine.execKl15Rise s
  | .kl15KeepHigh pin edge => Sys2Proof.Machine.execKl15KeepHigh pin edge s
  | .kl15KeepLowCount ticks => Sys2Proof.Machine.execKl15KeepLowCount ticks s
  | .standbyEntryResume => Sys2Proof.Machine.execStandbyEntryResume s
  | .standbyWaitReport seconds => Sys2Proof.Machine.execStandbyWaitReport seconds s
  | .drvEnFall => Sys2Proof.Machine.execDrvEnFall s
  | .drvEnRise lowTicks obs => Sys2Proof.Machine.execDrvEnRise lowTicks obs s
  | .clearanceExpiry esn => Sys2Proof.Machine.execClearanceExpiry esn s
  | .freezePinRise => Sys2Proof.Machine.execFreezePinRise s
  | .freezeTake forced => Sys2Proof.Machine.execFreezeTake forced s
  | .freezeWatcherFastClear b halfTicks => Sys2Proof.Machine.execFreezeWatcherFastClear b halfTicks s
  | .stoDemand ch lowUs => Sys2Proof.Machine.execStoDemand ch lowUs s
  | .stoDemandEnd highUs => Sys2Proof.Machine.execStoDemandEnd highUs s
  | .stoDiscrepancy ms => Sys2Proof.Machine.execStoDiscrepancy ms s
  | .kl30Loss mv us => Sys2Proof.Machine.execKl30Loss mv us s
  | .kl30LossConfirmed ticks => Sys2Proof.Machine.execKl30LossConfirmed ticks s
  | .kl30Return mv us => Sys2Proof.Machine.execKl30Return mv us s
  | .holdupEnd us => Sys2Proof.Machine.execHoldupEnd us s
  | .kl30OutOfRange mv ticks => Sys2Proof.Machine.execKl30OutOfRange mv ticks s
  | .kl30Apply kl15High => Sys2Proof.Machine.execKl30Apply kl15High s
  | .bootEntry obs => Sys2Proof.Machine.execBootEntry obs s
  | .islandHandshakeTimeout ch ticks => Sys2Proof.Machine.execIslandHandshakeTimeout ch ticks s
  | .startupStepOverrun step us => Sys2Proof.Machine.execStartupStepOverrun step us s
  | .domainWakeDeadline dom ticks regAt => Sys2Proof.Machine.execDomainWakeDeadline dom ticks regAt s
  | .domainWakeRetry dom ticks => Sys2Proof.Machine.execDomainWakeRetry dom ticks s
  | .feRestoreComplete n us => Sys2Proof.Machine.execFeRestoreComplete n us s
  | .d5HoldExpiry cause ms => Sys2Proof.Machine.execD5HoldExpiry cause ms s
  | .opPointTransitionDone pair => Sys2Proof.Machine.execOpPointTransitionDone pair s
  | .opPointOverrun pair us => Sys2Proof.Machine.execOpPointOverrun pair us s
  | .rtcAlarm => Sys2Proof.Machine.execRtcAlarm s
  | .canWake ev => Sys2Proof.Machine.execCanWake ev s
  | .sourceReady src us => Sys2Proof.Machine.execSourceReady src us s
  | .pllCoast pll missing => Sys2Proof.Machine.execPllCoast pll missing s
  | .clockSourceFail src missing ppm => Sys2Proof.Machine.execClockSourceFail src missing ppm s
  | .clockFailHandling src => Sys2Proof.Machine.execClockFailHandling src s
  | .clockLossSevere pll kind => Sys2Proof.Machine.execClockLossSevere pll kind s
  | .clockRestore => Sys2Proof.Machine.execClockRestore s
  | .freqMeasureDone nIn => Sys2Proof.Machine.execFreqMeasureDone nIn s
  | .freqMeasureSrcOff => Sys2Proof.Machine.execFreqMeasureSrcOff s
  | .desaturation ch senseMv sinceOnNs heldNs gmon now => Sys2Proof.Machine.execDesaturation ch senseMv sinceOnNs heldNs gmon now s
  | .softTurnoffEnd ch gateMv ns => Sys2Proof.Machine.execSoftTurnoffEnd ch gateMv ns s
  | .vbpUndervoltage ch mv ns => Sys2Proof.Machine.execVbpUndervoltage ch mv ns s
  | .vbpUvloRelease ch mv ns => Sys2Proof.Machine.execVbpUvloRelease ch mv ns s
  | .vbnOutOfRange ch mv ns => Sys2Proof.Machine.execVbnOutOfRange ch mv ns s
  | .vbsOk leg mv ns => Sys2Proof.Machine.execVbsOk leg mv ns s
  | .vbsWarn leg mv ns => Sys2Proof.Machine.execVbsWarn leg mv ns s
  | .vbsWarnClear leg mv ns => Sys2Proof.Machine.execVbsWarnClear leg mv ns s
  | .vbsUv leg mv ns => Sys2Proof.Machine.execVbsUv leg mv ns s
  | .highIslandStartReturn leg mv ns => Sys2Proof.Machine.execHighIslandStartReturn leg mv ns s
  | .bowMeasurement leg ua vbsMv switching => Sys2Proof.Machine.execBowMeasurement leg ua vbsMv switching s
  | .bowFailure leg ua vbsMv ms => Sys2Proof.Machine.execBowFailure leg ua vbsMv ms s
  | .gateMonitorBreach ch on sinceNs heldNs now => Sys2Proof.Machine.execGateMonitorBreach ch on sinceNs heldNs now s
  | .islandOverlapRefusal ch kind => Sys2Proof.Machine.execIslandOverlapRefusal ch kind s
  | .islandLinkLoss ch link carrierNs frames bias => Sys2Proof.Machine.execIslandLinkLoss ch link carrierNs frames bias s
  | .islandLinkTrained ch link => Sys2Proof.Machine.execIslandLinkTrained ch link s
  | .auxFaultLatch aux code now => Sys2Proof.Machine.execAuxFaultLatch aux code now s
  | .prechargePulse m => Sys2Proof.Machine.execPrechargePulse m s
  | .prechargeComplete m => Sys2Proof.Machine.execPrechargeComplete m s
  | .prechargeTimeout m => Sys2Proof.Machine.execPrechargeTimeout m s
  | .periodBoundary b peak => Sys2Proof.Machine.execPeriodBoundary b peak s
  | .missedUpdateLimit b => Sys2Proof.Machine.execMissedUpdateLimit b s
  | .lockAndMatch m => Sys2Proof.Machine.execLockAndMatch m s
  | .interlockRefusal leg => Sys2Proof.Machine.execInterlockRefusal leg s
  | .refusalLimit b => Sys2Proof.Machine.execRefusalLimit b s
  | .sixstepToggle leg => Sys2Proof.Machine.execSixstepToggle leg s
  | .adcTrigger b obs => Sys2Proof.Machine.execAdcTrigger b obs s
  | .syncPulse arrival => Sys2Proof.Machine.execSyncPulse arrival s
  | .syncLoss periods => Sys2Proof.Machine.execSyncLoss periods s
  | .controlPeriod m obs => Sys2Proof.Machine.execControlPeriod m obs s
  | .referenceUpdate m => Sys2Proof.Machine.execReferenceUpdate m s
  | .torqueNotReachable m => Sys2Proof.Machine.execTorqueNotReachable m s
  | .trackingError m => Sys2Proof.Machine.execTrackingError m s
  | .xyExcess m => Sys2Proof.Machine.execXyExcess m s
  | .imFluxTimeout m => Sys2Proof.Machine.execImFluxTimeout m s
  | .sixstepEntry m => Sys2Proof.Machine.execSixstepEntry m s
  | .sixstepExit m => Sys2Proof.Machine.execSixstepExit m s
  | .zcWindowEnd m k samples => Sys2Proof.Machine.execZcWindowEnd m k samples s
  | .zcMissLimit m => Sys2Proof.Machine.execZcMissLimit m s
  | .orderlyStopEnd m => Sys2Proof.Machine.execOrderlyStopEnd m s
  | .disarmRampEnd m => Sys2Proof.Machine.execDisarmRampEnd m s
  | .retireRampEnd m => Sys2Proof.Machine.execRetireRampEnd m s
  | .rectificationDetect m idc0Mv idc1Mv us => Sys2Proof.Machine.execRectificationDetect m idc0Mv idc1Mv us s
  | .checkTimeEnd m => Sys2Proof.Machine.execCheckTimeEnd m s
  | .catchWindowEnd m obs => Sys2Proof.Machine.execCatchWindowEnd m obs s
  | .catchExtensionEnd m obs => Sys2Proof.Machine.execCatchExtensionEnd m obs s
  | .pluckPulse m obs => Sys2Proof.Machine.execPluckPulse m obs s
  | .observerInvalid m => Sys2Proof.Machine.execObserverInvalid m s
  | .quadEdge p a b held => Sys2Proof.Machine.execQuadEdge p a b held s
  | .dividedOutputEmit k => Sys2Proof.Machine.execDividedOutputEmit k s
  | .indexMark p => Sys2Proof.Machine.execIndexMark p s
  | .illegalTransition p held z => Sys2Proof.Machine.execIllegalTransition p held z s
  | .illegalEventLimit p => Sys2Proof.Machine.execIllegalEventLimit p s
  | .hallEdge p state heldUs => Sys2Proof.Machine.execHallEdge p state heldUs s
  | .hallInvalid p state heldUs => Sys2Proof.Machine.execHallInvalid p state heldUs s
  | .hallInvalidHeld p => Sys2Proof.Machine.execHallInvalidHeld p s
  | .amplitudeWindowFault p pairs => Sys2Proof.Machine.execAmplitudeWindowFault p pairs s
  | .excitationFault p periods => Sys2Proof.Machine.execExcitationFault p periods s
  | .inputFrequencyLimit p => Sys2Proof.Machine.execInputFrequencyLimit p s
  | .trackingLock p phase => Sys2Proof.Machine.execTrackingLock p phase s
  | .interfaceRecovery p => Sys2Proof.Machine.execInterfaceRecovery p s
  | .speedWindow p => Sys2Proof.Machine.execSpeedWindow p s
  | .speedZeroTimeout p => Sys2Proof.Machine.execSpeedZeroTimeout p s
  | .compareLoad u => Sys2Proof.Machine.execCompareLoad u s
  | .compareFire u => Sys2Proof.Machine.execCompareFire u s
  | .compareRearm u => Sys2Proof.Machine.execCompareRearm u s
  | .windowComparatorTrip bank input mv heldNs => Sys2Proof.Machine.execWindowComparatorTrip bank input mv heldNs s
  | .currentSumViolation bank b => Sys2Proof.Machine.execCurrentSumViolation bank b s
  | .sensorSupplyFault bank supplyMv refTenthMv us => Sys2Proof.Machine.execSensorSupplyFault bank supplyMv refTenthMv us s
  | .linkVoltageFormation g readings => Sys2Proof.Machine.execLinkVoltageFormation g readings s
  | .ovTrip b mv heldNs => Sys2Proof.Machine.execOvTrip b mv heldNs s
  | .ovWarn g us => Sys2Proof.Machine.execOvWarn g us s
  | .uvLimit g us => Sys2Proof.Machine.execUvLimit g us s
  | .chopperOn g => Sys2Proof.Machine.execChopperOn g s
  | .chopperOff g => Sys2Proof.Machine.execChopperOff g s
  | .chopperUnavailable g ifbMv => Sys2Proof.Machine.execChopperUnavailable g ifbMv s
  | .chopperUncommanded g ifbMv => Sys2Proof.Machine.execChopperUncommanded g ifbMv s
  | .chopperEnergyLimit g => Sys2Proof.Machine.execChopperEnergyLimit g s
  | .dischargeAutoStart g => Sys2Proof.Machine.execDischargeAutoStart g s
  | .dischargeEnd g => Sys2Proof.Machine.execDischargeEnd g s
  | .dischargeSwitchFault g ifbMv => Sys2Proof.Machine.execDischargeSwitchFault g ifbMv s
  | .windingDischargeEnd m => Sys2Proof.Machine.execWindingDischargeEnd m s
  | .dischargeTimeout g => Sys2Proof.Machine.execDischargeTimeout g s
  | .fastWrite speeds => Sys2Proof.Machine.execFastWrite speeds s
  | .activeShortUnavailable b => Sys2Proof.Machine.execActiveShortUnavailable b s
  | .lockstepMismatch pair group injCycle => Sys2Proof.Machine.execLockstepMismatch pair group injCycle s
  | .checkerFailure pair invalidCode => Sys2Proof.Machine.execCheckerFailure pair invalidCode s
  | .runtimeInjection pair flagged => Sys2Proof.Machine.execRuntimeInjection pair flagged s
  | .pairRestartDone pair inj clean => Sys2Proof.Machine.execPairRestartDone pair inj clean s
  | .torqueMonitorWindow m => Sys2Proof.Machine.execTorqueMonitorWindow m s
  | .heartbeat sender seq answer => Sys2Proof.Machine.execHeartbeat sender seq answer s
  | .heartbeatMissed sender dieTicks => Sys2Proof.Machine.execHeartbeatMissed sender dieTicks s
  | .supplyOutOfWindow sup mv dieTicks => Sys2Proof.Machine.execSupplyOutOfWindow sup mv dieTicks s
  | .supplyLowReset sup mv us => Sys2Proof.Machine.execSupplyLowReset sup mv us s
  | .supplyResetRelease sup mv us => Sys2Proof.Machine.execSupplyResetRelease sup mv us s
  | .dieCheck answerOk ticks => Sys2Proof.Machine.execDieCheck answerOk ticks s
  | .contactorPullInEnd n => Sys2Proof.Machine.execContactorPullInEnd n s
  | .contactorFeedbackFail n cfb ms => Sys2Proof.Machine.execContactorFeedbackFail n cfb ms s
  | .tempMeasurement readings => Sys2Proof.Machine.execTempMeasurement readings s
  | .offsetLearn sensor => Sys2Proof.Machine.execOffsetLearn sensor s
  | .monitorTripCheck sensor r => Sys2Proof.Machine.execMonitorTripCheck sensor r s
  | .tempCompensation gapA refA gapB refB => Sys2Proof.Machine.execTempCompensation gapA refA gapB refB s
  | .tempCompensationLate => Sys2Proof.Machine.execTempCompensationLate s
  | .packetArrival port bytes padding => Sys2Proof.Machine.execPacketArrival port bytes padding s
  | .udpDatagram eth dstPort vlan payload srcAddr srcPort => Sys2Proof.Machine.execUdpDatagram eth dstPort vlan payload srcAddr srcPort s
  | .canSegment can dev => Sys2Proof.Machine.execCanSegment can dev s
  | .segmentGapTimeout can dev => Sys2Proof.Machine.execSegmentGapTimeout can dev s
  | .fastSetpointFrame src => Sys2Proof.Machine.execFastSetpointFrame src s
  | .dispatch => Sys2Proof.Machine.execDispatch s
  | .contextDeadline tag => Sys2Proof.Machine.execContextDeadline tag s
  | .sessionIdleTimeout sid => Sys2Proof.Machine.execSessionIdleTimeout sid s
  | .setpointTimeout m => Sys2Proof.Machine.execSetpointTimeout m s
  | .nonceExpiry sid => Sys2Proof.Machine.execNonceExpiry sid s
  | .canFrameReceive can id form data => Sys2Proof.Machine.execCanFrameReceive can id form data s
  | .canBusOff can => Sys2Proof.Machine.execCanBusOff can s
  | .canBusOffRecovery can occurrences => Sys2Proof.Machine.execCanBusOffRecovery can occurrences s
  | .stateFrame => Sys2Proof.Machine.execStateFrame s
  | .oneShotFail can lostArb => Sys2Proof.Machine.execOneShotFail can lostArb s
  | .ethLinkDown p => Sys2Proof.Machine.execEthLinkDown p s
  | .gptpSync offset => Sys2Proof.Machine.execGptpSync offset s
  | .gptpSyncLoss intervals => Sys2Proof.Machine.execGptpSyncLoss intervals s
  | .qbvCycleStart => Sys2Proof.Machine.execQbvCycleStart s
  | .ringFrameReceive port f => Sys2Proof.Machine.execRingFrameReceive port f s
  | .ringPeriodicSend => Sys2Proof.Machine.execRingPeriodicSend s
  | .ringLinkSend => Sys2Proof.Machine.execRingLinkSend s
  | .ringDelayReq port t1 t2 t3 t4 => Sys2Proof.Machine.execRingDelayReq port t1 t2 t3 t4 s
  | .faultFlagChange => Sys2Proof.Machine.execFaultFlagChange s
  | .ringLinkDown port why => Sys2Proof.Machine.execRingLinkDown port why s
  | .ringLinkRestored port ms => Sys2Proof.Machine.execRingLinkRestored port ms s
  | .cascadeDeviceLost d => Sys2Proof.Machine.execCascadeDeviceLost d s
  | .masterLost => Sys2Proof.Machine.execMasterLost s
  | .recorderFlush => Sys2Proof.Machine.execRecorderFlush s
  | .postTriggerEnd => Sys2Proof.Machine.execPostTriggerEnd s
  | .trendRecord channel => Sys2Proof.Machine.execTrendRecord channel s
  | .handoverTakeover inj clean => Sys2Proof.Machine.execHandoverTakeover inj clean s
  | .handoverTimeout => Sys2Proof.Machine.execHandoverTimeout s
  | .feReload n => Sys2Proof.Machine.execFeReload n s
  | .islReload b answers => Sys2Proof.Machine.execIslReload b answers s
  | .feRotation m => Sys2Proof.Machine.execFeRotation m s
  | .recalCoverEnd target index cal low high => Sys2Proof.Machine.execRecalCoverEnd target index cal low high s
  | .feedbackConfirmsCommand n cfb => Sys2Proof.Machine.execFeedbackConfirmsCommand n cfb s
  | .fluxMapDerivationEnd m => Sys2Proof.Machine.execFluxMapDerivationEnd m s
  | .retentionRestore dom crcOk => Sys2Proof.Machine.execRetentionRestore dom crcOk s
  | .ipv4ReassemblyTimeout eth ms => Sys2Proof.Machine.execIpv4ReassemblyTimeout eth ms s
  | .ethLinkUp p => Sys2Proof.Machine.execEthLinkUp p s
  | .arpRequest p target => Sys2Proof.Machine.execArpRequest p target s
  | .icmpEchoRequest p dst => Sys2Proof.Machine.execIcmpEchoRequest p dst s
  | .tapInstruction op vio => Sys2Proof.Machine.execTapInstruction op vio s

end Sys2Proof.Machine
end

