-- ==== Sys2Proof/Machine/Tick.lean ====
section
/-! DEFINITION. The passing of time: one tick of the 400 MHz timebase, with the Drone domain's 32.768 kHz tick that falls in
every 390,625/32 of them (R40, R425; log entry 9). -/

namespace Sys2Proof.Machine

/-- An accepted RESET has reached its D0 tick (R477). -/
def resetDue (s : State) : Bool := s.dev.resetAt == some s.time.rtc.toNat

/-- One D0 tick: the RTC counts while D0 is supplied (R425), and an accepted RESET enters BOOT on its tick (R477). -/
def d0Tick (s : State) : State :=
  if s.dev.ph == .off then s
  else
    let s := { s with time := { s.time with rtc := s.time.rtc + 1 } }
    if resetDue s then enterBoot .reset s else s

/-- The Drone domain's clock runs on by 2.5 ns: one D0 tick is 390,625/32 timebase ticks. -/
def d0Advance (s : State) : State :=
  let p := s.time.d0Phase + 32
  if p < 390625 then { s with time := { s.time with d0Phase := p } }
  else d0Tick { s with time := { s.time with d0Phase := p % 390625 } }

/-- The timebase runs: PLL_PWM has locked, and neither STANDBY nor FROZEN stops it (R40, R565). -/
def timebaseRuns (s : State) : Bool := s.time.running && (isUp s || s.dev.ph == .boot || s.dev.ph == .calibrating)

/-- The ticks on which a slew may act: at most six in each D0 tick of 12,207 ticks, so at most 500 ppm (R43). -/
def slewSlot (s : State) : Bool := decide (64000 ≤ s.time.d0Phase) && decide (s.time.d0Phase % 64000 < 32)

/-- One tick of device time. A correction under way gains or holds one tick; on which of the permitted ticks is left open
(R43; log entry 3). -/
def devTick (s : State) : State :=
  let on := { s with time := { s.time with dev := s.time.dev + 1 } }
  if s.net.slew = 0 ∨ !slewSlot s then on
  else
    let (n, s') := drawFree s
    if !(Config.freeBit n) then { s' with time := { s'.time with dev := s'.time.dev + 1 } }
    else if 0 < s.net.slew then
      { s' with time := { s'.time with dev := s'.time.dev + 2 }, net := { s'.net with slew := s.net.slew - 1 } }
    else { s' with net := { s'.net with slew := s.net.slew + 1 } }

/-- R189: the master of a cascade drives SYNC_OUT as its device time passes a multiple of P_SYNC_PER. -/
def syncPulse (before : Nat) (s : State) : State :=
  let per := parN s 0x3F00
  let now := s.time.dev
  if isUp s ∧ deviceIndex s = 0 ∧ inCascade s ∧ before / per < now / per then
    emit (.syncOut (now / per * per)) s
  else s

/-- The tracking loops are updated, the latches of moved triggers taken, and the pulses of the outputs end (R271, R272, R293). -/
def posTick (s : State) : State :=
  forEach (List.range 4) poutTick (forEach (List.range 8) latchTick (forEach (List.range 8) trackTick s))

/-- Half the output of PLL_PWM while it coasts: the timebase misses every other tick (R401). -/
def missesTick (s : State) : Bool := hasBit s.clk.coast.toNat 1 && s.time.d0Phase / 32 % 2 == 1

/-- Speed and torque of a machine into their trend channels (Table 17.6). -/
def sampleMach (m : Nat) (s : State) : State :=
  trendAdd (112 + m) (mPar s m 0x1A * roundDiv ((machAt s m).tRef * 1000) 32768)
    (trendAdd (104 + m) (roundDiv (vehicleSpeed s m) 100) s)

/-- V_LG, while it has a value, and the resistor energy of a link group into their trend channels (Table 17.6). -/
def sampleLink (g : Nat) (s : State) : State :=
  let e := roundRat ((lgAt s g).energy * 1000 / (lgPar s g 8 : Rat))
  match (lgAt s g).vlg with
  | some v => trendAdd (122 + g) e (trendAdd (120 + g) (roundDiv v 1000) s)
  | none => trendAdd (122 + g) e s

/-- The channels that are no temperature (Table 17.6). -/
def sampleTrend (s : State) : State := forEach [0, 1] sampleLink (forEach (machines s) sampleMach s)

/-- Every 10 ms the channels that are no temperature are sampled (R578). -/
def trendTick (before : Nat) (s : State) : State :=
  if recorderOn s && isUp s && decide (before / 4000000 < s.time.dev / 4000000) then sampleTrend s else s

/-- What the timebase times in one tick: the tracking loops and outputs, the gates, SYNC_OUT, the CAN FD buffers and the gated Ethernet ports. -/
def timebaseTick (s : State) : State :=
  trendTick s.time.dev (forEach (List.range 3) egressTick (forEach (List.range 4) canTick (posTick (gatesTick (syncPulse s.time.dev (devTick s))))))

/-- 2.5 ns pass: the timers send their command edges and the gates follow, and so do the position interfaces; an entry to STANDBY in progress goes on. -/
def tick (s : State) : State :=
  let s := if timebaseRuns s && !missesTick s then timebaseTick s else s
  let s := if entering s then standbyAdvance s else s
  d0Advance s

end Sys2Proof.Machine
end

