-- ==== Sys2Proof/Machine/Arrival.lean ====
section
/-! DEFINITION. The order in which items that arrive in one timebase tick stand in the queue (R36): one sender, whose commands of one tick
arrive in the order of the nine sources, so that the ESNs that they allocate are consecutive in that order. -/

namespace Sys2Proof.Machine

/-- Rank of a source of R36 and a place within it. -/
def esnPlace (source place : Nat) : Nat := source * 64 + place

/-- The place of an island: of a leg the high one first, then its low partner, and AUX0 to AUX3 after L23L. -/
def islandPlace (c : Nat) : Nat := if c < 48 then 2 * (c / 2) + (1 - c % 2) else c

/-- Where R36 puts what a command brings: its source, 1 to 9, and its place there: link group, island, field engine, bank or interface by
its number. A detector that the list does not name stands with the part that records its event (DEDUCED; log entry 33). -/
def esnSource : Instr → Nat
  | .identify .. => esnPlace 9 0
  | .getState .. => esnPlace 9 0
  | .setOpModeEnter .. => esnPlace 9 0
  | .setOpModeLeave .. => esnPlace 9 0
  | .reset .. => esnPlace 9 0
  | .ctxQuery .. => esnPlace 9 0
  | .arm .. => esnPlace 9 0
  | .disarm .. => esnPlace 9 0
  | .torqueSet .. => esnPlace 9 0
  | .speedSet .. => esnPlace 9 0
  | .safeState .. => esnPlace 9 0
  | .start .. => esnPlace 9 0
  | .pluckTest .. => esnPlace 9 0
  | .retire .. => esnPlace 9 0
  | .cmpArm .. => esnPlace 9 0
  | .cmpStatus .. => esnPlace 9 0
  | .remap .. => esnPlace 9 0
  | .paramRead .. => esnPlace 9 0
  | .paramWrite .. => esnPlace 9 0
  | .paramCommitPrepare .. => esnPlace 9 0
  | .paramCommitApply .. => esnPlace 9 0
  | .paramCommitDiscard .. => esnPlace 9 0
  | .setSelect .. => esnPlace 9 0
  | .calRead .. => esnPlace 9 0
  | .calRecal .. => esnPlace 9 0
  | .updBegin .. => esnPlace 9 0
  | .updChunk .. => esnPlace 9 0
  | .updVerify .. => esnPlace 9 0
  | .updActivate .. => esnPlace 9 0
  | .updHandover .. => esnPlace 9 0
  | .recInfo .. => esnPlace 9 0
  | .recRead .. => esnPlace 9 0
  | .trendRead .. => esnPlace 9 0
  | .attest .. => esnPlace 9 0
  | .sessionOpen .. => esnPlace 9 0
  | .sessionClose .. => esnPlace 9 0
  | .keyInfo .. => esnPlace 9 0
  | .ownerSlotFuse .. => esnPlace 9 0
  | .ownerSlotRevoke .. => esnPlace 9 0
  | .cascStatus .. => esnPlace 9 0
  | .regRead .. => esnPlace 9 0
  | .regWrite .. => esnPlace 9 0
  | .freqMeasure .. => esnPlace 9 0
  | .freeze .. => esnPlace 9 0
  | .snapshotInfo .. => esnPlace 9 0
  | .domainSet .. => esnPlace 9 0
  | .opPoint .. => esnPlace 9 0
  | .standbyEnter .. => esnPlace 9 0
  | .rtcSet .. => esnPlace 9 0
  | .alarmSet .. => esnPlace 9 0
  | .lockoutClear .. => esnPlace 9 0
  | .stoStatus .. => esnPlace 9 0
  | .contactorSet .. => esnPlace 9 0
  | .lockoutList .. => esnPlace 9 0
  | .clkSelWrite .. => esnPlace 9 0
  | .clockSwitchForced .. => esnPlace 8 0
  | .clkGateOpen .. => esnPlace 9 0
  | .clkGateClose .. => esnPlace 9 0
  | .gateCloseForced .. => esnPlace 8 0
  | .domCtlRequest .. => esnPlace 9 0
  | .opPointRegRequest .. => esnPlace 9 0
  | .fmStart => esnPlace 9 0
  | .recFlush => esnPlace 9 0
  | .recSampleEnWrite .. => esnPlace 9 0
  | .snsTestForce bank _ _ => esnPlace 6 (if bank == .a then 0 else 1)
  | .snpStatus .. => esnPlace 9 0
  | .snpRead .. => esnPlace 9 0
  | .restart .. => esnPlace 9 0
  | .kl15Rise => esnPlace 8 0
  | .kl15KeepHigh .. => esnPlace 8 0
  | .kl15KeepLowCount .. => esnPlace 8 0
  | .standbyEntryResume => esnPlace 8 0
  | .standbyWaitReport .. => esnPlace 8 0
  | .drvEnFall => esnPlace 1 0
  | .drvEnRise .. => esnPlace 1 0
  | .clearanceExpiry .. => esnPlace 1 0
  | .freezePinRise => esnPlace 1 0
  | .freezeTake .. => esnPlace 1 0
  | .freezeWatcherFastClear .. => esnPlace 1 0
  | .stoDemand .. => esnPlace 1 0
  | .stoDemandEnd .. => esnPlace 1 0
  | .stoDiscrepancy .. => esnPlace 4 0
  | .kl30Loss .. => esnPlace 1 0
  | .kl30LossConfirmed .. => esnPlace 1 0
  | .kl30Return .. => esnPlace 1 0
  | .holdupEnd .. => esnPlace 1 0
  | .kl30OutOfRange .. => esnPlace 1 0
  | .kl30Apply .. => esnPlace 1 0
  | .bootEntry .. => esnPlace 8 0
  | .islandHandshakeTimeout ch _ => esnPlace 2 (islandPlace ch.val)
  | .startupStepOverrun .. => esnPlace 8 0
  | .domainWakeDeadline .. => esnPlace 8 0
  | .domainWakeRetry .. => esnPlace 8 0
  | .feRestoreComplete n _ => esnPlace 5 n.val
  | .d5HoldExpiry .. => esnPlace 8 0
  | .opPointTransitionDone .. => esnPlace 8 0
  | .opPointOverrun .. => esnPlace 8 0
  | .rtcAlarm => esnPlace 8 0
  | .canWake .. => esnPlace 8 0
  | .sourceReady .. => esnPlace 8 0
  | .pllCoast .. => esnPlace 8 0
  | .clockSourceFail .. => esnPlace 8 0
  | .clockFailHandling .. => esnPlace 8 0
  | .clockLossSevere .. => esnPlace 8 0
  | .clockRestore => esnPlace 8 0
  | .freqMeasureDone .. => esnPlace 8 0
  | .freqMeasureSrcOff => esnPlace 8 0
  | .desaturation ch _ _ _ _ _ => esnPlace 2 (islandPlace ch.val)
  | .softTurnoffEnd ch _ _ => esnPlace 2 (islandPlace ch.val)
  | .vbpUndervoltage ch _ _ => esnPlace 2 (islandPlace ch.val)
  | .vbpUvloRelease ch _ _ => esnPlace 2 (islandPlace ch.val)
  | .vbnOutOfRange ch _ _ => esnPlace 2 (islandPlace ch.val)
  | .vbsOk leg _ _ => esnPlace 2 (2 * leg.val)
  | .vbsWarn leg _ _ => esnPlace 2 (2 * leg.val)
  | .vbsWarnClear leg _ _ => esnPlace 2 (2 * leg.val)
  | .vbsUv leg _ _ => esnPlace 2 (2 * leg.val)
  | .highIslandStartReturn leg _ _ => esnPlace 2 (2 * leg.val)
  | .bowMeasurement leg _ _ _ => esnPlace 2 (2 * leg.val + 1)
  | .bowFailure leg _ _ _ => esnPlace 2 (2 * leg.val + 1)
  | .gateMonitorBreach ch _ _ _ _ => esnPlace 2 (islandPlace ch.val)
  | .islandOverlapRefusal ch _ => esnPlace 2 (islandPlace ch.val)
  | .islandLinkLoss ch _ _ _ _ => esnPlace 2 (islandPlace ch.val)
  | .islandLinkTrained ch _ => esnPlace 2 (islandPlace ch.val)
  | .auxFaultLatch aux _ _ => esnPlace 2 (48 + aux.val)
  | .prechargePulse m => esnPlace 5 m.val
  | .prechargeComplete m => esnPlace 5 m.val
  | .prechargeTimeout m => esnPlace 5 m.val
  | .periodBoundary b _ => esnPlace 5 b.val
  | .missedUpdateLimit b => esnPlace 5 b.val
  | .lockAndMatch m => esnPlace 5 m.val
  | .interlockRefusal leg => esnPlace 5 (leg.val / 3)
  | .refusalLimit b => esnPlace 5 b.val
  | .sixstepToggle leg => esnPlace 5 (leg.val / 3)
  | .adcTrigger b _ => esnPlace 5 b.val
  | .syncPulse .. => esnPlace 5 0
  | .syncLoss .. => esnPlace 5 0
  | .controlPeriod m _ => esnPlace 5 m.val
  | .referenceUpdate m => esnPlace 5 m.val
  | .torqueNotReachable m => esnPlace 5 m.val
  | .trackingError m => esnPlace 5 m.val
  | .xyExcess m => esnPlace 5 m.val
  | .imFluxTimeout m => esnPlace 5 m.val
  | .sixstepEntry m => esnPlace 5 m.val
  | .sixstepExit m => esnPlace 5 m.val
  | .zcWindowEnd m _ _ => esnPlace 5 m.val
  | .zcMissLimit m => esnPlace 5 m.val
  | .orderlyStopEnd m => esnPlace 5 m.val
  | .disarmRampEnd m => esnPlace 5 m.val
  | .retireRampEnd m => esnPlace 5 m.val
  | .rectificationDetect m _ _ _ => esnPlace 5 m.val
  | .checkTimeEnd m => esnPlace 5 m.val
  | .catchWindowEnd m _ => esnPlace 5 m.val
  | .catchExtensionEnd m _ => esnPlace 5 m.val
  | .pluckPulse m _ => esnPlace 5 m.val
  | .observerInvalid m => esnPlace 5 m.val
  | .quadEdge p _ _ _ => esnPlace 7 p.val
  | .dividedOutputEmit .. => esnPlace 7 8
  | .indexMark p => esnPlace 7 p.val
  | .illegalTransition p _ _ => esnPlace 7 p.val
  | .illegalEventLimit p => esnPlace 7 p.val
  | .hallEdge p _ _ => esnPlace 7 p.val
  | .hallInvalid p _ _ => esnPlace 7 p.val
  | .hallInvalidHeld p => esnPlace 7 p.val
  | .amplitudeWindowFault p _ => esnPlace 7 p.val
  | .excitationFault p _ => esnPlace 7 p.val
  | .inputFrequencyLimit p => esnPlace 7 p.val
  | .trackingLock p _ => esnPlace 7 p.val
  | .interfaceRecovery p => esnPlace 7 p.val
  | .speedWindow p => esnPlace 7 p.val
  | .speedZeroTimeout p => esnPlace 7 p.val
  | .compareLoad u => esnPlace 7 (u.val / 4)
  | .compareFire u => esnPlace 7 (u.val / 4)
  | .compareRearm u => esnPlace 7 (u.val / 4)
  | .windowComparatorTrip .. => esnPlace 1 0
  | .currentSumViolation bank _ => esnPlace 6 (if bank == .a then 0 else 1)
  | .sensorSupplyFault bank _ _ _ => esnPlace 6 (if bank == .a then 0 else 1)
  | .linkVoltageFormation g _ => esnPlace 1 (3 * g.val + 3)
  | .ovTrip b _ _ => esnPlace 2 (6 * b.val + 1)
  | .ovWarn g _ => esnPlace 1 (3 * g.val + 3)
  | .uvLimit g _ => esnPlace 1 (3 * g.val + 3)
  | .chopperOn g => esnPlace 1 (3 * g.val + 1)
  | .chopperOff g => esnPlace 1 (3 * g.val + 1)
  | .chopperUnavailable g _ => esnPlace 1 (3 * g.val + 1)
  | .chopperUncommanded g _ => esnPlace 1 (3 * g.val + 1)
  | .chopperEnergyLimit g => esnPlace 1 (3 * g.val + 1)
  | .dischargeAutoStart g => esnPlace 1 (3 * g.val + 2)
  | .dischargeEnd g => esnPlace 1 (3 * g.val + 2)
  | .dischargeSwitchFault g _ => esnPlace 1 (3 * g.val + 2)
  | .windingDischargeEnd m => esnPlace 5 m.val
  | .dischargeTimeout g => esnPlace 1 (3 * g.val + 2)
  | .fastWrite .. => esnPlace 4 0
  | .activeShortUnavailable .. => esnPlace 4 0
  | .lockstepMismatch .. => esnPlace 1 0
  | .checkerFailure .. => esnPlace 1 0
  | .runtimeInjection .. => esnPlace 4 0
  | .pairRestartDone .. => esnPlace 4 0
  | .torqueMonitorWindow .. => esnPlace 4 0
  | .heartbeat .. => esnPlace 4 0
  | .heartbeatMissed .. => esnPlace 3 0
  | .supplyOutOfWindow .. => esnPlace 3 0
  | .supplyLowReset .. => esnPlace 3 0
  | .supplyResetRelease .. => esnPlace 3 0
  | .dieCheck .. => esnPlace 4 0
  | .contactorPullInEnd .. => esnPlace 4 0
  | .contactorFeedbackFail .. => esnPlace 4 0
  | .tempMeasurement .. => esnPlace 8 0
  | .offsetLearn .. => esnPlace 8 0
  | .monitorTripCheck .. => esnPlace 4 0
  | .tempCompensation .. => esnPlace 8 0
  | .tempCompensationLate => esnPlace 8 0
  | .packetArrival .. => esnPlace 9 0
  | .udpDatagram .. => esnPlace 9 0
  | .canSegment .. => esnPlace 9 0
  | .segmentGapTimeout .. => esnPlace 9 0
  | .fastSetpointFrame .. => esnPlace 9 0
  | .dispatch => esnPlace 9 0
  | .contextDeadline .. => esnPlace 9 0
  | .sessionIdleTimeout .. => esnPlace 9 0
  | .setpointTimeout .. => esnPlace 9 0
  | .nonceExpiry .. => esnPlace 9 0
  | .canFrameReceive .. => esnPlace 9 0
  | .canBusOff .. => esnPlace 9 0
  | .canBusOffRecovery .. => esnPlace 9 0
  | .stateFrame => esnPlace 9 0
  | .oneShotFail .. => esnPlace 9 0
  | .ethLinkDown .. => esnPlace 9 0
  | .gptpSync .. => esnPlace 9 0
  | .gptpSyncLoss .. => esnPlace 9 0
  | .qbvCycleStart => esnPlace 9 0
  | .ringFrameReceive .. => esnPlace 9 0
  | .ringPeriodicSend => esnPlace 9 0
  | .ringLinkSend => esnPlace 9 0
  | .ringDelayReq .. => esnPlace 9 0
  | .faultFlagChange => esnPlace 9 0
  | .ringLinkDown .. => esnPlace 9 0
  | .ringLinkRestored .. => esnPlace 9 0
  | .cascadeDeviceLost .. => esnPlace 9 0
  | .masterLost => esnPlace 9 0
  | .recorderFlush => esnPlace 8 0
  | .postTriggerEnd => esnPlace 8 0
  | .trendRecord .. => esnPlace 8 0
  | .handoverTakeover .. => esnPlace 8 0
  | .handoverTimeout => esnPlace 5 0
  | .feReload n => esnPlace 5 n.val
  | .islReload b _ => esnPlace 5 b.val
  | .feRotation m => esnPlace 5 m.val
  | .recalCoverEnd .. => esnPlace 8 0
  | .feedbackConfirmsCommand .. => esnPlace 4 0
  | .fluxMapDerivationEnd .. => esnPlace 8 0
  | .retentionRestore .. => esnPlace 8 0
  | .ipv4ReassemblyTimeout .. => esnPlace 9 0
  | .ethLinkUp .. => esnPlace 9 0
  | .arpRequest .. => esnPlace 9 0
  | .icmpEchoRequest .. => esnPlace 9 0
  | .tapInstruction .. => esnPlace 9 0

/-- Commands in the order of R36; those of one place keep their order. -/
def inTickOrder (cs : List Instr) : List Instr := (List.range 640).flatMap (fun k => cs.filter (fun c => esnSource c == k))

/-- The items of one timebase tick come to the queue (R36). -/
def arrive (cs : List Instr) (s : State) : State := { s with pending := s.pending ++ inTickOrder cs }

end Sys2Proof.Machine
end

