-- ==== Sys2Proof/Safety.lean ====
section
/-! DEFINITION. The terms in which statements about the machine are made: how many units a state holds, what is one-way, when a
request runs at once and what its reply holds, and what a group of commands leaves as it was. -/

namespace Sys2Proof.Machine

/-! ### The units of the module (R7 to R12) -/

/-- A state has the units that the spec gives the module: 8 bridges and machines (R8, R12), 52 channels (R9), 2 link groups
(R10), 4 contactor drivers, 8 position interfaces with 4 divided outputs and 16 compare units, 104 temperature sensors, 16 power
domains, 4 CAN controllers, 128 contexts and 8 sessions, 7 image classes, 4 owner slots and 5 rollback fuses. -/
structure WellBuilt (s : State) : Prop where
  bridges : s.bridges.length = 8
  machs : s.machs.length = 8
  chans : s.chans.length = 52
  lgs : s.lgs.length = 2
  ctds : s.ctds.length = 4
  pos : s.pos.length = 8
  pouts : s.pouts.length = 4
  cmps : s.cmps.length = 16
  temps : s.temps.length = 104
  doms : s.pwr.doms.length = 16
  can : s.net.can.length = 4
  ctx : s.proto.ctx.length = 128
  sess : s.proto.sess.length = 8
  slots : s.store.slots.length = 7
  owners : s.store.owners.length = 4
  fuses : s.store.fuses.length = 5

/-! ### What is one-way (R537, R544) -/

/-- What an owner slot may become: from empty anything, from valid only revoked with the same key, from revoked nothing else. -/
def OwnerSlot.mayBecome : OwnerSlot → OwnerSlot → Prop
  | .empty, _ => True
  | .valid k, o => o = .valid k ∨ o = .revoked k
  | .revoked k, o => o = .revoked k

/-- Fuses and owner slots have only moved forward. -/
def FusesOneWay (s t : State) : Prop :=
  (∀ i : Nat, (ownerSlot s i).mayBecome (ownerSlot t i)) ∧
  ∀ i : Nat, s.store.fuses.getD i 0 ≤ t.store.fuses.getD i 0

/-! ### Reset (Tables 12.12 to 12.14 and 17.8 to 17.14) -/

/-- The value that the tables give a word of the diagnostic window at reset: the words not named here reset to 0. -/
def resetWord (r : RegAt) : Nat :=
  match r.block with
  | 0 => if r.off = 0 then 0b01010 else if r.off = 4 then 0b0010000 else if r.off = 0x14 then 0x03E8 else 0
  | 1 => if r.off = 0 ∨ r.off = 0x40 then 0 else if r.off < 0x80 ∨ r.off = 0x88 then 0b10 else 0
  | 2 => if r.off = 4 then 25000 else 0
  | 7 => if r.off = 0 then 0b100 else 0
  | 9 => if r.off = 0 then 0b010 else if r.off = 0x10 then 0b01 else 0
  | _ => 0

/-! ### Requests -/

/-- A request row is received, passes checks 4, 6, 8 and 9 of Table 13.3, is dispatched at once, with no urgent and no
earlier request waiting (R456), and meets no state rule that refuses it; `u` is the state in which the opcode's own meaning begins. -/
structure Begins (h : Hdr) (opcode : Nat) (payload : List Byte) (onBridge : Bool) (s u : State) : Prop where
  received : receives s h.port = true
  passed : admits h opcode payload s = (true, u)
  dispatched : dispatches u = true
  first : nothingAhead h u = true
  allowed : stateRefusal opcode onBridge u = none

/-- The context of a request is DONE and retains its final reply (Table 13.4): this status, this data, the request's tag, session
and sequence number. -/
def Replies (h : Hdr) (status : U16) (data : List Byte) (t : State) : Prop :=
  (ctxAt t h.tag.toNat).st = .done ∧
  ∃ r, (ctxAt t h.tag.toNat).final = some r ∧ r.status = status ∧ r.data = data ∧ r.more = false ∧
    r.tag = h.tag ∧ r.session = h.session ∧ r.seq = h.seq

/-- The context of a request is LONG with a deadline `ms` milliseconds after the acceptance (R452). -/
def RunsLong (h : Hdr) (ms : Nat) (t : State) : Prop :=
  (ctxAt t h.tag.toNat).st = .long ∧ (ctxAt t h.tag.toNat).deadline = t.time.dev + ms * 400000

/-- Between `s` and `t` only context `tag` has changed, and what sending a reply takes: the output, the replies queued on CAN and at gated Ethernet
ports, the event sequence number, the ring's frame counters, and free values drawn. -/
def OnlyReply (tag : Nat) (s t : State) : Prop :=
  t = { s with
    out := t.out
    time := { s.time with esn := t.time.esn, free := t.time.free }
    net := { s.net with canTx := t.net.canTx, egress := t.net.egress, seqs := t.net.seqs, sentLog := t.net.sentLog }
    proto := { s.proto with ctx := t.proto.ctx } } ∧
  ∀ i, i ≠ tag → t.proto.ctx[i]? = s.proto.ctx[i]?

/-- The command ends at once: it answers the request with ST_OK and this data, and beyond the reply the state becomes `v`. -/
def Completes (c : Instr) (h : Hdr) (data : List Byte) (s v : State) : Prop :=
  ∃ t, exec c s = .next t ∧ Replies h ST_OK data t ∧ OnlyReply h.tag.toNat v t

/-- The command is accepted (ST_ACCEPTED, R452) and goes on for up to `ms` milliseconds: its context is LONG, and beyond that and the
reply the state becomes `v`. -/
def Accepts (c : Instr) (h : Hdr) (ms : Nat) (s v : State) : Prop :=
  ∃ t, exec c s = .next t ∧ RunsLong h ms t ∧ OnlyReply h.tag.toNat v t

/-! ### Faults and events -/

/-- The newest entry of the write buffer of `t` is an event of this code, level, source and data, numbered with the next event
sequence number of `s` and stamped with its device time (R35, R573). -/
def Recorded (code level : Nat) (src : U16) (data : List Byte) (s t : State) : Prop :=
  ∃ e, t.recd.buf.getLast? = some e ∧ e.code = BitVec.ofNat 16 code ∧ e.level = level ∧ e.src = src ∧ e.esn = s.time.esn ∧
    e.time = s.time.dev ∧ e.count = 1 ∧ e.data = entryData data

/-- What no fault and no event changes: pins, the device and its phase, device time and RTC, sensing banks, position interfaces
with their outputs and compare units, temperature sensors, stores, clocks, power, the commands waiting, and of the networks all but
the replies queued on CAN and the ring's frame counters. -/
def FaultFrame (s t : State) : Prop :=
  t.pins = s.pins ∧ t.dev = s.dev ∧ t.time.dev = s.time.dev ∧ t.time.rtc = s.time.rtc ∧ t.bankA = s.bankA ∧ t.bankB = s.bankB ∧
  t.pos = s.pos ∧ t.pouts = s.pouts ∧ t.cmps = s.cmps ∧ t.temps = s.temps ∧ t.store = s.store ∧ t.clk = s.clk ∧
  t.pwr = s.pwr ∧ t.pending = s.pending ∧ 
  t.net = { s.net with canTx := t.net.canTx, egress := t.net.egress, seqs := t.net.seqs, sentLog := t.net.sentLog }

/-! ### What each command may change -/

/-- The parts of a state. -/
inductive Part where
  | pins | device | time | rtc | bridges | machines | channels | banks | linkGroups | contactors | safety | positions | outputs
  | compares | temps | store | clocks | power | sessions | contexts | can | ethernet | network | recorder | sent
deriving DecidableEq, Repr

/-- The networks without the CAN controllers, what these and gated Ethernet ports have to send, the Ethernet ports and the ring's frame counters. -/
def Net.rest (n : Net) : Net := { n with can := [], eth := [], canTx := [], egress := [], seqs := [], sentLog := [] }

/-- A part of two states is the same. `time` is the device time, `sent` what the module has sent and, on CAN and at gated Ethernet ports, has
still to send. Not among the parts are the event sequence numbers, the free values drawn, and the counters of the command-context unit and
of the ring's frames. -/
def Part.same (s t : State) : Part → Prop
  | .pins => t.pins = s.pins
  | .device => t.dev = s.dev
  | .time => t.time.dev = s.time.dev
  | .rtc => t.time.rtc = s.time.rtc
  | .bridges => t.bridges = s.bridges
  | .machines => t.machs = s.machs
  | .channels => t.chans = s.chans
  | .banks => t.bankA = s.bankA ∧ t.bankB = s.bankB
  | .linkGroups => t.lgs = s.lgs
  | .contactors => t.ctds = s.ctds
  | .safety => t.safety = s.safety
  | .positions => t.pos = s.pos
  | .outputs => t.pouts = s.pouts
  | .compares => t.cmps = s.cmps
  | .temps => t.temps = s.temps
  | .store => t.store = s.store
  | .clocks => t.clk = s.clk
  | .power => t.pwr = s.pwr
  | .sessions => t.proto.sess = s.proto.sess
  | .contexts => t.proto.ctx = s.proto.ctx ∧ t.proto.left = s.proto.left
  | .can => t.net.can = s.net.can
  | .ethernet => t.net.eth = s.net.eth
  | .network => t.net.rest = s.net.rest
  | .recorder => t.recd = s.recd
  | .sent => t.out = s.out ∧ t.net.canTx = s.net.canTx ∧ t.net.egress = s.net.egress

/-- What recording an event or raising a fault may change (R20, R35): the reaction acts on bridges and their channels, ends the
commands and machine phases it interrupts, stops a discharge, opens contactors and stands as a lock-out. -/
def faultParts : List Part :=
  [.bridges, .machines, .channels, .linkGroups, .contactors, .safety, .contexts, .recorder, .sent]

/-- What taking a request may change: what an event may (R447 records F-0905), the session's record of numbers, and whatever still
ran under the tag of a closed session, which runs on in a place of its own (log entry 4). -/
def requestParts : List Part :=
  [.bridges, .machines, .channels, .linkGroups, .contactors, .safety, .store, .clocks, .sessions, .contexts, .recorder, .sent]

/-- What an entry to BOOT resets (R97, R100, R448, R451). -/
def bootParts : List Part :=
  [.device, .bridges, .machines, .channels, .safety, .store, .power, .sessions, .contexts, .can, .ethernet, .network, .sent]

/-- The parts that a command may change; it leaves every other part as it was. -/
def mayChange : Instr → List Part
  | .identify .. => requestParts
  | .getState .. => requestParts
  | .setOpModeEnter .. => requestParts ++ [.device]
  | .setOpModeLeave .. => requestParts ++ [.device]
  | .reset .. => requestParts ++ [.device]
  | .ctxQuery .. => requestParts
  | .arm .. => requestParts ++ [.power]
  | .disarm .. => requestParts
  | .torqueSet .. => requestParts
  | .speedSet .. => requestParts
  | .safeState .. => requestParts
  | .start .. => requestParts
  | .pluckTest .. => requestParts
  | .retire .. => requestParts ++ [.positions, .outputs]
  | .cmpArm .. => requestParts ++ [.outputs, .compares]
  | .cmpStatus .. => requestParts
  | .remap .. => requestParts ++ [.positions, .outputs]
  | .paramRead .. => requestParts
  | .paramWrite .. => requestParts
  | .paramCommitPrepare .. => requestParts
  | .paramCommitApply .. => requestParts ++ [.device, .banks, .positions, .outputs, .compares, .temps, .power, .can,
      .ethernet, .network]
  | .paramCommitDiscard .. => requestParts
  | .setSelect .. => requestParts ++ [.device, .banks, .positions, .outputs, .compares, .temps, .power, .can, .ethernet, .network]
  | .calRead .. => requestParts
  | .calRecal .. => requestParts
  | .updBegin .. => requestParts
  | .updChunk .. => requestParts
  | .updVerify .. => requestParts
  | .updActivate .. => requestParts ++ [.device, .banks, .positions, .outputs, .compares, .temps, .power, .can, .ethernet,
      .network]
  | .updHandover .. => requestParts
  | .recInfo .. => requestParts
  | .recRead .. => requestParts
  | .trendRead .. => requestParts
  | .attest .. => requestParts
  | .sessionOpen .. => requestParts
  | .sessionClose .. => requestParts
  | .keyInfo .. => requestParts
  | .ownerSlotFuse .. => requestParts
  | .ownerSlotRevoke .. => requestParts
  | .cascStatus .. => requestParts
  | .regRead .. => requestParts
  | .regWrite .. => requestParts ++ [.device, .banks, .positions, .outputs, .power, .can, .ethernet, .network]
  | .freqMeasure .. => requestParts
  | .freeze .. => requestParts
  | .snapshotInfo .. => requestParts
  | .domainSet .. => requestParts ++ [.banks, .positions, .outputs, .power, .can, .ethernet, .network]
  | .opPoint .. => requestParts ++ [.power]
  | .standbyEnter .. => requestParts ++ [.device, .banks, .positions, .outputs, .power, .can, .ethernet, .network]
  | .rtcSet .. => requestParts ++ [.device, .rtc]
  | .alarmSet .. => requestParts ++ [.power]
  | .lockoutClear .. => requestParts
  | .stoStatus .. => requestParts
  | .contactorSet .. => requestParts
  | .lockoutList .. => requestParts
  | .clkSelWrite .. => [.device, .clocks]
  | .clockSwitchForced .. => faultParts ++ [.clocks]
  | .clkGateOpen .. => [.clocks]
  | .clkGateClose .. => [.clocks]
  | .gateCloseForced .. => faultParts ++ [.clocks]
  | .domCtlRequest .. => [.bridges, .machines, .channels, .banks, .linkGroups, .positions, .outputs, .store, .power,
      .sessions, .contexts, .can, .ethernet, .network, .sent]
  | .opPointRegRequest .. => [.power]
  | .fmStart .. => [.clocks]
  | .recFlush .. => [.recorder]
  | .recSampleEnWrite .. => [.recorder]
  | .snsTestForce .. => faultParts ++ [.banks]
  | .snpStatus .. => [.sent]
  | .snpRead .. => [.sent]
  | .restart .. => bootParts ++ [.recorder]
  | .kl15Rise .. => bootParts ++ [.pins, .banks, .linkGroups, .positions, .outputs]
  | .kl15KeepHigh .. => bootParts ++ [.pins, .banks, .linkGroups, .positions, .outputs]
  | .kl15KeepLowCount .. => faultParts ++ [.pins, .device, .banks, .positions, .outputs, .store, .power, .sessions, .can,
      .ethernet, .network]
  | .standbyEntryResume .. => faultParts ++ [.device, .banks, .positions, .outputs, .store, .power, .sessions, .can,
      .ethernet, .network]
  | .standbyWaitReport .. => faultParts
  | .drvEnFall .. => faultParts ++ [.pins]
  | .drvEnRise .. => faultParts ++ [.pins, .banks]
  | .clearanceExpiry .. => [.safety]
  | .freezePinRise .. => [.recorder]
  | .freezeTake .. => [.device, .bridges, .channels, .linkGroups, .contactors, .safety, .power, .recorder]
  | .freezeWatcherFastClear .. => [.bridges, .channels, .recorder]
  | .stoDemand .. => faultParts ++ [.pins]
  | .stoDemandEnd .. => faultParts ++ [.pins, .temps]
  | .stoDiscrepancy .. => faultParts ++ [.pins]
  | .kl30Loss .. => [.power, .recorder]
  | .kl30LossConfirmed .. => faultParts ++ [.device, .banks, .positions, .outputs, .store, .power, .sessions, .can,
      .ethernet, .network]
  | .kl30Return .. => faultParts ++ [.device, .store, .power, .sessions, .can, .ethernet, .network]
  | .holdupEnd .. => requestParts ++ [.pins, .device, .rtc, .banks, .positions, .outputs, .power, .can, .ethernet, .network]
  | .kl30OutOfRange .. => faultParts
  | .kl30Apply .. => bootParts ++ [.pins, .rtc]
  | .bootEntry .. => requestParts ++ [.device, .time, .rtc, .banks, .positions, .outputs, .compares, .temps, .power, .can,
      .ethernet, .network]
  | .islandHandshakeTimeout .. => faultParts ++ [.temps]
  | .startupStepOverrun .. => faultParts
  | .domainWakeDeadline .. => faultParts ++ [.positions, .outputs, .power, .can]
  | .domainWakeRetry .. => [.power]
  | .feRestoreComplete .. => [.bridges, .channels, .positions, .outputs, .power]
  | .d5HoldExpiry .. => [.bridges, .machines, .channels, .banks, .linkGroups, .positions, .outputs, .store, .power,
      .sessions, .contexts, .can, .ethernet, .network, .sent]
  | .opPointTransitionDone .. => faultParts ++ [.power]
  | .opPointOverrun .. => faultParts ++ [.power]
  | .rtcAlarm .. => bootParts
  | .canWake .. => bootParts ++ [.banks, .linkGroups, .positions, .outputs]
  | .sourceReady .. => [.device, .bridges, .channels, .clocks]
  | .pllCoast .. => faultParts ++ [.clocks]
  | .clockSourceFail .. => [.clocks]
  | .clockFailHandling .. => faultParts ++ [.clocks]
  | .clockLossSevere .. => faultParts ++ [.device, .clocks]
  | .clockRestore .. => [.device, .clocks]
  | .freqMeasureDone .. => [.clocks, .contexts, .sent]
  | .freqMeasureSrcOff .. => [.clocks, .contexts, .sent]
  | .desaturation .. => faultParts
  | .softTurnoffEnd .. => [.channels]
  | .vbpUndervoltage .. => faultParts
  | .vbpUvloRelease .. => [.channels]
  | .vbnOutOfRange .. => faultParts
  | .vbsOk .. => [.bridges, .channels]
  | .vbsWarn .. => faultParts
  | .vbsWarnClear .. => [.channels]
  | .vbsUv .. => faultParts
  | .highIslandStartReturn .. => faultParts
  | .bowMeasurement .. => faultParts
  | .bowFailure .. => faultParts
  | .gateMonitorBreach .. => faultParts
  | .islandOverlapRefusal .. => faultParts
  | .islandLinkLoss .. => faultParts ++ [.temps]
  | .islandLinkTrained .. => faultParts
  | .auxFaultLatch .. => faultParts
  | .prechargePulse .. => [.bridges]
  | .prechargeComplete .. => [.bridges, .machines, .channels, .contexts, .sent]
  | .prechargeTimeout .. => faultParts
  | .periodBoundary .. => faultParts ++ [.device, .banks, .positions, .outputs, .compares, .temps, .store, .power, .sessions,
      .can, .ethernet, .network]
  | .missedUpdateLimit .. => faultParts
  | .lockAndMatch .. => faultParts
  | .interlockRefusal .. => faultParts
  | .refusalLimit .. => faultParts
  | .sixstepToggle .. => [.bridges]
  | .adcTrigger .. => [.bridges, .machines, .banks, .positions, .store, .recorder]
  | .syncPulse .. => [.network]
  | .syncLoss .. => faultParts ++ [.network]
  | .controlPeriod .. => faultParts
  | .referenceUpdate .. => [.machines]
  | .torqueNotReachable .. => faultParts
  | .trackingError .. => faultParts
  | .xyExcess .. => faultParts
  | .imFluxTimeout .. => faultParts
  | .sixstepEntry .. => [.bridges, .machines]
  | .sixstepExit .. => [.bridges, .machines]
  | .zcWindowEnd .. => [.machines]
  | .zcMissLimit .. => faultParts
  | .orderlyStopEnd .. => faultParts
  | .disarmRampEnd .. => [.bridges, .machines, .channels, .contexts, .sent]
  | .retireRampEnd .. => [.bridges, .machines, .channels, .contexts, .sent]
  | .rectificationDetect .. => faultParts
  | .checkTimeEnd .. => faultParts
  | .catchWindowEnd .. => faultParts
  | .catchExtensionEnd .. => faultParts
  | .pluckPulse .. => faultParts
  | .observerInvalid .. => faultParts
  | .quadEdge .. => faultParts ++ [.positions, .outputs, .compares]
  | .dividedOutputEmit .. => [.outputs, .sent]
  | .indexMark .. => faultParts ++ [.positions, .outputs, .compares]
  | .illegalTransition .. => faultParts ++ [.positions, .outputs, .compares]
  | .illegalEventLimit .. => faultParts ++ [.positions, .outputs, .compares]
  | .hallEdge .. => faultParts ++ [.positions, .outputs, .compares]
  | .hallInvalid .. => faultParts ++ [.positions]
  | .hallInvalidHeld .. => faultParts ++ [.positions, .outputs, .compares]
  | .amplitudeWindowFault .. => faultParts ++ [.positions, .outputs, .compares]
  | .excitationFault .. => faultParts ++ [.positions, .outputs, .compares]
  | .inputFrequencyLimit .. => faultParts ++ [.positions, .outputs, .compares]
  | .trackingLock .. => [.positions]
  | .interfaceRecovery .. => [.positions, .outputs]
  | .speedWindow .. => [.machines, .positions]
  | .speedZeroTimeout .. => [.machines, .positions]
  | .compareLoad .. => [.outputs, .compares, .recorder, .sent]
  | .compareFire .. => [.outputs, .compares, .recorder, .sent]
  | .compareRearm .. => [.compares]
  | .windowComparatorTrip .. => faultParts ++ [.banks]
  | .currentSumViolation .. => faultParts
  | .sensorSupplyFault .. => faultParts ++ [.device, .banks]
  | .linkVoltageFormation .. => faultParts
  | .ovTrip .. => faultParts
  | .ovWarn .. => faultParts
  | .uvLimit .. => faultParts
  | .chopperOn .. => [.channels, .linkGroups]
  | .chopperOff .. => [.channels, .linkGroups]
  | .chopperUnavailable .. => faultParts
  | .chopperUncommanded .. => faultParts
  | .chopperEnergyLimit .. => faultParts
  | .dischargeAutoStart .. => [.channels, .linkGroups]
  | .dischargeEnd .. => [.bridges, .machines, .channels, .linkGroups, .contexts, .sent]
  | .dischargeSwitchFault .. => faultParts
  | .windingDischargeEnd .. => faultParts
  | .dischargeTimeout .. => faultParts
  | .fastWrite .. => [.bridges, .machines, .channels, .safety]
  | .activeShortUnavailable .. => faultParts
  | .lockstepMismatch .. => faultParts
  | .checkerFailure .. => faultParts
  | .runtimeInjection .. => faultParts
  | .pairRestartDone .. => faultParts
  | .torqueMonitorWindow .. => faultParts ++ [.store]
  | .heartbeat .. => [.safety]
  | .heartbeatMissed .. => faultParts
  | .supplyOutOfWindow .. => faultParts
  | .supplyLowReset .. => bootParts
  | .supplyResetRelease .. => [.device, .safety]
  | .dieCheck .. => faultParts
  | .contactorPullInEnd .. => [.contactors]
  | .contactorFeedbackFail .. => faultParts ++ [.pins]
  | .tempMeasurement .. => faultParts ++ [.device, .temps, .power]
  | .offsetLearn .. => [.temps]
  | .monitorTripCheck .. => faultParts ++ [.temps]
  | .tempCompensation .. => faultParts ++ [.device]
  | .tempCompensationLate .. => faultParts ++ [.device]
  | .packetArrival .. => requestParts
  | .udpDatagram .. => requestParts ++ [.ethernet, .network]
  | .canSegment .. => requestParts ++ [.can]
  | .segmentGapTimeout .. => faultParts ++ [.can]
  | .fastSetpointFrame .. => faultParts ++ [.sessions, .can]
  | .dispatch .. => requestParts ++ [.device, .rtc, .banks, .positions, .outputs, .compares, .temps, .power, .can, .ethernet,
      .network]
  | .contextDeadline .. => faultParts ++ [.store, .clocks]
  | .sessionIdleTimeout .. => [.machines, .store, .sessions, .contexts]
  | .setpointTimeout .. => faultParts
  | .nonceExpiry .. => [.sessions]
  | .canFrameReceive .. => faultParts ++ [.can]
  | .canBusOff .. => faultParts ++ [.can]
  | .canBusOffRecovery .. => [.can]
  | .stateFrame .. => [.sessions, .can, .network, .sent]
  | .oneShotFail .. => faultParts ++ [.can]
  | .ethLinkDown .. => faultParts ++ [.ethernet]
  | .gptpSync .. => [.device, .time, .bridges, .machines, .channels, .linkGroups, .contactors, .safety, .positions, .outputs,
      .compares, .temps, .store, .sessions, .contexts, .ethernet, .network, .recorder]
  | .gptpSyncLoss .. => faultParts ++ [.network]
  | .qbvCycleStart .. => [.network]
  | .ringFrameReceive .. => requestParts ++ [.device, .time, .positions, .outputs, .compares, .temps, .can, .ethernet, .network]
  | .ringPeriodicSend .. => [.network, .sent]
  | .ringLinkSend .. => [.network, .sent]
  | .ringDelayReq .. => [.network, .sent]
  | .faultFlagChange .. => [.network, .sent]
  | .ringLinkDown .. => faultParts ++ [.network]
  | .ringLinkRestored .. => faultParts ++ [.network]
  | .cascadeDeviceLost .. => faultParts ++ [.network]
  | .masterLost .. => faultParts ++ [.network]
  | .recorderFlush .. => [.recorder]
  | .postTriggerEnd .. => [.recorder]
  | .trendRecord .. => [.recorder]
  | .handoverTakeover .. => faultParts ++ [.store]
  | .handoverTimeout .. => faultParts ++ [.store]
  | .feReload .. => [.bridges]
  | .islReload .. => faultParts ++ [.temps]
  | .feRotation .. => [.bridges, .machines, .channels]
  | .recalCoverEnd .. => faultParts ++ [.temps, .store]
  | .feedbackConfirmsCommand .. => [.pins, .channels, .linkGroups, .contactors, .contexts, .sent]
  | .fluxMapDerivationEnd .. => faultParts
  | .retentionRestore .. => faultParts ++ [.banks, .positions, .outputs, .store, .power, .sessions, .can, .ethernet, .network]
  | .ipv4ReassemblyTimeout .. => [.ethernet, .network]
  | .ethLinkUp .. => [.ethernet]
  | .arpRequest .. => [.sent]
  | .icmpEchoRequest .. => [.network, .sent]
  | .tapInstruction .. => [.pins]

end Sys2Proof.Machine
end

