-- ==== Sys2Proof/WellFormed.lean ====
section
/-! DEFINITION. Well-formed commands: operand lists have the length that the command's form gives them. -/

namespace Sys2Proof

/-- The measurements of one start-up have one entry per strap sample, converter, die sensor and island (R77, R124, R127, R129). -/
def BootObs.wf (o : BootObs) : Bool :=
  o.straps.length == 4 && o.straps.all (fun l => l.length == 4) && o.calA.length == 8 && o.calB.length == 8 &&
    o.islands.length == 52 && o.dieTemps.length == 16

/-- The samples of one trigger have one entry per phase (R303, R312). -/
def TrigObs.wf (o : TrigObs) : Bool := o.codeA.length == 3 && o.codeB.length == 3 && o.vph.length == 3

/-- A command is well formed. -/
def Instr.wf : Instr → Bool
  | .bootEntry o => o.wf
  | .adcTrigger _ o => o.wf
  | .islReload _ a => a.length == 6
  | .linkVoltageFormation _ r => r.length == 8
  | .fastWrite v => v.length == 8
  | .canFrameReceive _ _ _ d => d.length ≤ 64
  | .paramRead _ _ ids => 1 ≤ ids.length && ids.length ≤ 255
  | .paramWrite _ items => 1 ≤ items.length && items.length ≤ 255
  | .updChunk _ _ d => 1 ≤ d.length && d.length ≤ 4000
  | _ => true

end Sys2Proof
end

