-- ==== Sys2Proof/Certificates/Slice0/Obligations.lean ====
section
/-! DEFINITION. What is stated of the machine: what each command does and where it completes, what every step keeps, what events and
faults do, which requests are refused, and what reset leaves. -/

open Sys2Proof Sys2Proof.Machine

/-! ### The queue and time -/

/-- A step takes the command at the front of the queue and runs it with the queue's rest. -/
def Obligations.StepTakesFront : Prop :=
  (∀ (c : Instr) (s : State), step { s with pending := c :: s.pending } = exec c s) ∧
  ∀ (c : Instr) (rest : List Instr) (s : State), s.pending = c :: rest → step s = exec c { s with pending := rest }

/-- On an empty queue one tick of the timebase passes, the model's own choice (log entry 9): device time stands still while the
timebase is stopped or while a coasting PLL_PWM misses the tick, gains one tick while no correction is under way, and never more
than two (R40, R43, R401). -/
def Obligations.EmptyQueuePassesOneTick : Prop :=
  ∀ s : State, s.pending = [] → ∃ t, step s = .next t ∧ t.pending = [] ∧
    (timebaseRuns s = false ∨ missesTick s = true → t.time.dev = s.time.dev) ∧
    (timebaseRuns s = true → missesTick s = false → s.net.slew = 0 → t.time.dev = s.time.dev + 1) ∧
    (timebaseRuns s = true → s.time.dev ≤ t.time.dev ∧ t.time.dev ≤ s.time.dev + 2)

/-- A command whose operands are well formed ends in a next state, whatever the state, and leaves the queue behind it alone; so does
every command that ends in a next state. -/
def Obligations.WellFormedCommandsAnswer : Prop :=
  (∀ (c : Instr) (s : State), Instr.wf c = true → ∃ t, exec c s = .next t) ∧
  ∀ (c : Instr) (s t : State), exec c s = .next t → t.pending = s.pending

/-- R40: device time never decreases; it starts at 0 in the first BOOT after OFF. -/
def Obligations.DeviceTimeNeverDecreases : Prop :=
  ∀ s t : State, step s = .next t →
    s.time.dev ≤ t.time.dev ∨
    (s.dev.fromOff = true ∧ t.time.dev = 0 ∧ ∃ o rest, s.pending = .bootEntry o :: rest)

/-- R46: start-up sets Split mode where the strap and P_CORE_MODE both select it and Integrity mode otherwise, and no other step
changes the mode. -/
def Obligations.CoreModeIsSetInBoot : Prop :=
  (∀ s : State, (bootMode s).dev.split = (!s.dev.coreStrap && par s 0x1000 == 1)) ∧
  ∀ s t : State, step s = .next t → (s.dev.ph ≠ .boot ∨ ∀ o rest, s.pending ≠ .bootEntry o :: rest) →
    t.dev.split = s.dev.split

/-! ### Reset and what every step keeps -/

/-- The module as delivered has the units of R7 to R12. -/
def Obligations.ResetHasItsUnits : Prop := WellBuilt State.reset

/-- Every step keeps the units of the module: no bridge, channel, sensor, domain, context, session or slot appears or goes. -/
def Obligations.StepsKeepTheUnits : Prop :=
  ∀ s t : State, WellBuilt s → step s = .next t → WellBuilt t

/-- At reset every word of the diagnostic window reads the value that its table gives (Tables 12.12 to 12.14 and 17.8 to 17.14). -/
def Obligations.EveryWordResetsAsTabled : Prop :=
  ∀ (addr : Nat) (r : RegAt), regAt addr = some r → readReg State.reset r = resetWord r

/-- At reset the queue is empty, no ESN has been allocated, no session is open, every context is FREE, nothing is locked out and
nothing is recorded (R39, R451, R540). That the device starts in OFF is the model's choice (log entry 1). -/
def Obligations.ResetIsEmpty : Prop :=
  let s := State.reset
  s.pending = [] ∧ s.dev.ph = .off ∧ s.time.esn = 0 ∧ s.time.dev = 0 ∧ s.recd.events = [] ∧ s.recd.samples = [] ∧ s.recd.buf = [] ∧
  (∀ k ∈ s.proto.sess, k = none) ∧ (∀ c ∈ s.proto.ctx, c.st = .free) ∧ s.safety.locks = [] ∧
  (∀ o ∈ s.store.owners, o = .empty) ∧ s.store.act.items = [] ∧ ∀ b ∈ s.bridges, b.st = .disabled

/-- R537, R544: over any step, a revoked owner slot stays revoked with its key, a valid one becomes at most revoked, none returns to
empty, and no rollback fuse falls. -/
def Obligations.OwnerSlotsAndFusesAreOneWay : Prop :=
  ∀ s t : State, step s = .next t → FusesOneWay s t

/-- What a command leaves alone: of the parts of the state (`Part`), every one that is not in the command's list (`mayChange`) is
unchanged when the command answers a next state. -/
def Obligations.CommandsChangeOnlyTheirParts : Prop :=
  ∀ (c : Instr) (s t : State), exec c s = .next t → ∀ p, p ∉ mayChange c → Part.same s t p

/-! ### FROZEN (R566, R568) -/

/-- R568: the device leaves FROZEN only by the RESTART command of the snapshot port or by the end of the hold-up after a loss of KL30.
Apart from them only the die's reset for a low supply, whose checks R566 lets continue, moves it (log entry 15). -/
def Obligations.FrozenIsLeftOnly : Prop :=
  ∀ s t : State, s.dev.ph = .frozen → s.dev.resetAt = none → step s = .next t → t.dev.ph ≠ .frozen →
    (∃ m v rest, s.pending = .restart m v :: rest) ∨ (∃ us rest, s.pending = .holdupEnd us :: rest) ∨
    ∃ sup mv us rest, s.pending = .supplyLowReset sup mv us :: rest

/-- An accepted RESET does not outlive the entry to FROZEN, so no D0 tick of a FROZEN device enters BOOT: reset has this and every step
keeps it. -/
def Obligations.FrozenHoldsNoReset : Prop :=
  (State.reset.dev.ph = .frozen → State.reset.dev.resetAt = none) ∧
  ∀ s t : State, (s.dev.ph = .frozen → s.dev.resetAt = none) → step s = .next t →
    t.dev.ph = .frozen → t.dev.resetAt = none

/-! ### Events, faults and reactions -/

/-- R35, R39, R573: outside FROZEN an event takes the next event sequence number, advances the allocator by one, and stands as the
newest entry of the write buffer with its code, level, source, device time and 40 bytes of data; nothing but the allocator and the
recorder changes. In FROZEN nothing is numbered or recorded. R36: the commands of one tick join the queue in the order of the nine
sources and, within a source, of the place that R36 names there; commands of the same place keep the order in which they came, and none
is lost or added. That the queue's order is what numbers the items of several rows, and the source of a row that R36 does not name, are
the model's choice (log entry 33). -/
def Obligations.EventsAreNumberedInOrder : Prop :=
  (∀ (cs : List Instr) (s : State),
    arrive cs s = { s with pending := s.pending ++ inTickOrder cs } ∧
    (inTickOrder cs).Perm cs ∧
    (inTickOrder cs).Pairwise (fun a b => esnSource a ≤ esnSource b) ∧
    ∀ k : Nat, (inTickOrder cs).filter (fun c => esnSource c == k) = cs.filter (fun c => esnSource c == k)) ∧
  ∀ (code level : Nat) (src : U16) (data : List Byte) (s : State),
    let r := recordEvent code level src data s
    (s.dev.ph = .frozen → r.2 = s) ∧
    (s.dev.ph ≠ .frozen → r.1 = s.time.esn ∧ r.2.time.esn = s.time.esn + 1 ∧ Recorded code level src data s r.2 ∧
    r.2 = { s with time := { s.time with esn := s.time.esn + 1 }, recd := r.2.recd })

/-- Raising a fault changes nothing of pins, device, times, sensing banks, position interfaces, temperature sensors, stores, clocks,
power and the queue; and outside FROZEN, while no winding discharge runs that it could abort, its entry is the newest, at the level
that R22 gives the code, never below its minimum. -/
def Obligations.RaisedFaultsAreRecorded : Prop :=
  ∀ (code ix : Nat) (src : U16) (sc : Scope) (data : List Byte) (s : State),
    (∀ lo, minLevel code = some lo → lo ≤ faultLevel s code) ∧
    FaultFrame s (raiseFault code ix src sc data s) ∧
    (s.dev.ph ≠ .frozen → (∀ g d, (lgAt s g).dis = some d → d.winding = none) →
      Recorded code (faultLevel s code) src data s (raiseFault code ix src sc data s))

/-- R20, R21: below L2 a fault only records; at L3 and L4 every bridge of its scope that was active is SAFE afterwards and held by an
override of this fault; at L4 a lock-out that covers the scope stands, and every contactor driver that covers a link group of the
scope is commanded open, or opens when a monitor pair that restarts is back. F-0503 overrides nothing. -/
def Obligations.ReactionsFollowTheLevel : Prop :=
  ∀ (level code ix : Nat) (sc : Scope) (idleToo : Bool) (why : Byte) (e : Esn) (s : State),
    let t := react level code ix sc idleToo why e s
    (level < 2 → t = s) ∧
    (code = 0x0503 → 2 < level → t.bridges = s.bridges ∧ t.chans = s.chans ∧ t.ctds = s.ctds) ∧
    (WellBuilt s → code ≠ 0x0503 → 2 < level →
      ∀ b ∈ scopeBridges s sc, b < 8 → isActive (stOf s b) = true →
        stOf t b = .safe ∧ ∃ o ∈ (bridgeAt t b).ovr, o = ⟨.fault (BitVec.ofNat 16 code), level, ix⟩) ∧
    (code ≠ 0x0503 → level = 4 →
      (∃ k ∈ t.safety.locks, k.code.toNat = code % 65536 ∧ ∀ b ∈ scopeBridges s sc, b ∈ lockBridges s k) ∧
      ∀ n g b, n < 4 → n < s.ctds.length → g < 2 → b ∈ scopeBridges s sc → lgOf s b = g → ctdCovers s n g = true →
        if s.safety.mon.halted then (ctdAt t n).openWait = true else (ctdAt t n).closed = false)

/-- R371: a clearance judged at the DRV_EN edge. Outside its window the lock-out stands untouched; a cause still present keeps it,
spends the clearance and reports it again at L4 with a fresh number; an absent cause removes it and F-0650 is recorded, here for
a device without a winding discharge that the reaction to F-0650 could abort. -/
def Obligations.ClearancesAreJudgedAtTheEdge : Prop :=
  ∀ (present : State → Bool) (k : Lockout) (s : State), k ∈ s.safety.locks → s.dev.ph ≠ .frozen →
    (inLockWin s k = false → judgeLockout present k s = s) ∧
    (inLockWin s k = true → present s = true →
      let t := judgeLockout present k s
      t.safety.locks = s.safety.locks.map (fun x => if x.esn = k.esn then { x with armed := none } else x) ∧
      Recorded k.code.toNat 4 (codeSrc k.code.toNat k.ix) [] s t) ∧
    (inLockWin s k = true → present s = false → faultLevel s 0x0650 < 2 → (∀ g d, (lgAt s g).dis = some d → d.winding = none) →
      let t := judgeLockout present k s
      (∀ x ∈ t.safety.locks, x.esn ≠ k.esn) ∧ (∀ x ∈ s.safety.locks, x.esn ≠ k.esn → x ∈ t.safety.locks) ∧
      Recorded 0x0650 (faultLevel s 0x0650) (codeSrc k.code.toNat k.ix) (beBytes 4 k.esn.toNat) s t)

/-! ### Requests that are refused -/

/-- R449: SESSION_OPEN sets H to its own number, with no number below H accepted; then a number after H in the window of 2^31
becomes H; one of the 64 below H that was not accepted is accepted; every other one is refused with ST_REPLAYED. Bit j - 1 of the
record of an accepted number stands for H - j. A packet that got this far has passed check 5: the session's count of failures is 0
(R448), and the monitor pair holds the reference it carries (R349, `copyRef`; log entry 34). -/
def Obligations.SequenceNumbersDecideReplay : Prop :=
  ∀ (h : Hdr) (opcode : Nat) (payload : List Byte) (s : State) (k : Session), WellBuilt s →
    h.auth = true → gateOpen s 0 = true → sessAt s h.session.toNat = some k →
    (∀ i key q, 1 ≤ i → i ≤ 8 →
      ∃ k', sessAt (openSession i key q s) i = some k' ∧ k'.high = q ∧ ∀ j, hasBit k'.seen.toNat j = false) ∧
    let up := (h.seq - k.high).toNat
    let below := (k.high - h.seq).toNat
    let c := copyRef opcode payload s
    let taken := fun (k' : Session) => k'.macFails = 0 ∧ admits h opcode payload s =
      admitTail h opcode payload { c with proto := { c.proto with sess := c.proto.sess.set (h.session.toNat - 1) (some k') } }
    (1 ≤ up → up < 2 ^ 31 → ∃ k', taken k' ∧ k'.high = h.seq ∧
      ∀ j, 1 ≤ j → j ≤ 64 → hasBit k'.seen.toNat (j - 1) = (j == up || decide (up < j) && hasBit k.seen.toNat (j - up - 1))) ∧
    (1 ≤ below → below ≤ 64 → hasBit k.seen.toNat (below - 1) = false → ∃ k', taken k' ∧ k'.high = k.high ∧
      ∀ j, 1 ≤ j → j ≤ 64 → hasBit k'.seen.toNat (j - 1) = (j == below || hasBit k.seen.toNat (j - 1))) ∧
    (¬ (1 ≤ up ∧ up < 2 ^ 31) → ¬ (1 ≤ below ∧ below ≤ 64 ∧ hasBit k.seen.toNat (below - 1) = false) →
      admits h opcode payload s =
        (false, bounce h opcode ST_REPLAYED (modSess h.session.toNat (fun k => { k with macFails := 0 }) c)))

/-- R449, R450: a number is accepted once. After it was accepted it is refused, and a refused number not more than 2^30 behind H stays
refused whichever number is accepted next, as long as that advances H by less than 2^30. -/
def Obligations.AcceptedNumbersStayRefused : Prop :=
  ∀ (now : Nat) (q p : U32) (k : Session),
    (seqOk k q = true → seqOk (takeSeq now q k) q = false) ∧
    (seqOk k q = false → (k.high - q).toNat < 2 ^ 30 → seqOk k p = true →
      ((p - k.high).toNat < 2 ^ 30 ∨ (k.high - p).toNat ≤ 64) → seqOk (takeSeq now p k) q = false)

/-- R446, R447, R450, R457, R470: the first failing check of 4, 6, 7, 8 and 9 decides the outcome, and a request that passes them
occupies its context. Only IDENTIFY, GET_STATE, ATTEST and SESSION_OPEN need no session, and only DISARM, TORQUE_SET, SPEED_SET,
SAFE_STATE and FREEZE may be URGENT. With the gate of SEC closed no tag can be checked: such a packet is refused with ST_BUS_ERROR, the
model's reading of R407 (log entry 51). -/
def Obligations.ChecksDecideInOrder : Prop :=
  (∀ opcode : Nat, opcodeOpen opcode = true ↔ opcode ∈ [0x0100, 0x0101, 0x0700, 0x0701]) ∧
  (∀ opcode : Nat, opcodeUrgent opcode = true ↔ opcode ∈ [0x0201, 0x0202, 0x0203, 0x0204, 0x0903]) ∧
  ∀ (h : Hdr) (opcode : Nat) (payload : List Byte) (s : State),
    (h.auth = true → gateOpen s 0 = false → admits h opcode payload s = (false, bounce h opcode ST_BUS_ERROR s)) ∧
    (h.auth = true → gateOpen s 0 = true → sessAt s h.session.toNat = none →
      admits h opcode payload s = (false, bounce h opcode ST_NOT_AUTHORISED s)) ∧
    (h.auth = false → h.session ≠ 0 → admits h opcode payload s = (false, bounce h opcode ST_NOT_AUTHORISED s)) ∧
    (h.auth = false → h.session = 0 → opcodeDefined opcode = false →
      admits h opcode payload s = (false, bounce h opcode ST_BAD_OPCODE s)) ∧
    (h.auth = false → h.session = 0 → opcodeDefined opcode = true → opcodeOpen opcode = false →
      admits h opcode payload s = (false, bounce h opcode ST_NOT_AUTHORISED s)) ∧
    (∀ k, h.auth = true → gateOpen s 0 = true → sessAt s h.session.toNat = some k → seqOk k h.seq = true →
      let v := modSess h.session.toNat (takeSeq s.time.dev h.seq)
        (modSess h.session.toNat (fun k => { k with macFails := 0 }) (copyRef opcode payload s))
      (opcodeDefined opcode = false → admits h opcode payload s = (false, bounce h opcode ST_BAD_OPCODE v)) ∧
      (opcodeDefined opcode = true → h.urgent = true → opcodeUrgent opcode = false →
        admits h opcode payload s = (false, bounce h opcode ST_BAD_PARAM v)) ∧
      (opcodeDefined opcode = true → (h.urgent = true → opcodeUrgent opcode = true) → 127 < h.tag.toNat →
        admits h opcode payload s = (false, bounce h opcode ST_BAD_PARAM v)) ∧
      (opcodeDefined opcode = true → (h.urgent = true → opcodeUrgent opcode = true) → h.tag.toNat ≤ 127 →
        admits h opcode payload s =
          if ctxFree (ctxAt v h.tag.toNat) then (true, occupy h opcode payload v) else (false, bounce h opcode ST_CONTEXT_BUSY v))) ∧
    (∀ ok v, h.auth = false → h.session = 0 → opcodeDefined opcode = true → opcodeOpen opcode = true →
      countUnauth h.port s = (ok, v) →
      (ok = false → admits h opcode payload s = (false, v)) ∧
      (ok = true → h.urgent = true → opcodeUrgent opcode = false → admits h opcode payload s = (false, bounce h opcode ST_BAD_PARAM v)) ∧
      (ok = true → (h.urgent = true → opcodeUrgent opcode = true) → 127 < h.tag.toNat →
        admits h opcode payload s = (false, bounce h opcode ST_BAD_PARAM v)) ∧
      (ok = true → (h.urgent = true → opcodeUrgent opcode = true) → h.tag.toNat ≤ 127 →
        admits h opcode payload s =
          if ctxFree (ctxAt v h.tag.toNat) then (true, occupy h opcode payload v) else (false, bounce h opcode ST_CONTEXT_BUSY v)))

/-- R446, R450: an authenticated packet refused at checks 4 to 9 occupies no context and does nothing: beyond its reply only the record
of accepted numbers and failures of its own session may have changed, and the reference that the monitor pair holds for a machine
(R349, log entry 34). -/
def Obligations.RefusedPacketsOccupyNoContext : Prop :=
  ∀ (h : Hdr) (opcode : Nat) (payload : List Byte) (s : State), h.auth = true → (admits h opcode payload s).1 = false →
    let t := (admits h opcode payload s).2
    t.proto.ctx = s.proto.ctx ∧
    (∀ i, i ≠ h.session.toNat → sessAt t i = sessAt s i) ∧
    (t.machs = s.machs ∨ t.machs = (copyRef opcode payload s).machs) ∧
    (∀ m, { machAt t m with monRef := .none } = { machAt s m with monRef := .none }) ∧
    t = { s with
      out := t.out
      machs := t.machs
      time := { s.time with esn := t.time.esn, free := t.time.free }
      net := { s.net with canTx := t.net.canTx, egress := t.net.egress, seqs := t.net.seqs, sentLog := t.net.sentLog }
      proto := { s.proto with sess := t.proto.sess } }

/-- R370: LOCKOUT_CLEAR needs an authenticated session and is judged in order: without a live signing nonce it is refused with
ST_NOT_AUTHORISED and NONCE and consumes none; then the signature, the ESN and the cause decide, the nonce is consumed whatever the
outcome, and an accepted one answers ST_OK and arms the clearance. -/
def Obligations.LockoutClearJudgesInOrder : Prop :=
  (∀ (h : Hdr) (p : List Byte) (s : State), h.auth = false → (admits h 0x0B00 p s).1 = false) ∧
  ∀ (h : Hdr) (esn : Esn) (slot : Byte) (sig : Rsa) (s u : State), WellBuilt s →
    Begins h 0x0B00 (beBytes 4 esn.toNat ++ [slot, 0, 0, 0] ++ beBytes 384 sig.toNat) false s u →
    let c := Instr.lockoutClear h esn slot sig
    let refused := fun (st : U16) (why : Byte) (v : State) =>
      ∃ t, exec c s = .next t ∧ Replies h st (detail why 0xFF 0) t ∧ OnlyReply h.tag.toNat v t
    (liveNonce u h.session.toNat = none → refused ST_NOT_AUTHORISED RS_NONCE u) ∧
    (∀ n, liveNonce u h.session.toNat = some n →
      let good := slotSigOk u slot (Config.sha256 (Machine.statement 0x0B00 slot 0 n (beBytes 4 esn.toNat))) sig
      let v := modSess h.session.toNat (fun k => { k with nonce := none }) u
      (good = false → refused ST_NOT_AUTHORISED RS_NONE v) ∧
      (good = true → (∀ k ∈ u.safety.locks, k.esn ≠ esn) → refused ST_BAD_PARAM RS_NONE v) ∧
      (∀ k, good = true → u.safety.locks.find? (fun k => k.esn == esn) = some k → lockPresent v k = true →
        refused ST_WRONG_STATE RS_CAUSE_PRESENT v) ∧
      (∀ k, good = true → u.safety.locks.find? (fun k => k.esn == esn) = some k → lockPresent v k = false →
        Completes c h [] s { v with safety := { v.safety with
          locks := v.safety.locks.map (fun x => if x.esn = esn then { x with armed := some v.time.dev } else x) } }))

/-- Table 13.3, check 10, and R101, R108, R116: a RESET, an ARM or a REG_WRITE that passes the checks but that the device's state
refuses changes nothing and answers the refusal's status. -/
def Obligations.StateRulesRefuseRequests : Prop :=
  ∀ (h : Hdr) (s u : State) (status : U16) (d : List Byte), WellBuilt s → receives s h.port = true →
    dispatches u = true → nothingAhead h u = true →
    (∀ p, admits h 0x0103 [p] s = (true, u) → stateRefusal 0x0103 false u = some (status, d) →
      ∃ t, exec (.reset h p) s = .next t ∧ Replies h status d t ∧ OnlyReply h.tag.toNat u t) ∧
    (∀ m, admits h 0x0200 [m] s = (true, u) → stateRefusal 0x0200 false u = some (status, d) →
      ∃ t, exec (.arm h m) s = .next t ∧ Replies h status d t ∧ OnlyReply h.tag.toNat u t) ∧
    (∀ a m v, admits h 0x0901 (beBytes 4 a.toNat ++ leBytes 4 m.toNat ++ leBytes 4 v.toNat) s = (true, u) →
      stateRefusal 0x0901 false u = some (status, d) →
      ∃ t, exec (.regWrite h a m v) s = .next t ∧ Replies h status d t ∧ OnlyReply h.tag.toNat u t)

/-! ### Requests that only read -/

/-- R468, R475, R476, R578, R570, R528, R359 and R369: the queries without operands answer ST_OK with the data that the state
holds, and change nothing but their own context and what a reply takes. Values that the spec leaves open are free values (log entry
3). -/
def Obligations.QueriesWithoutOperandsAnswer : Prop :=
  ∀ (h : Hdr) (nonce : Digest) (s u : State), WellBuilt s →
    (Begins h 0x0100 [] false s u → ∃ t, exec (.identify h) s = .next t ∧ Replies h ST_OK (identifyData u) t ∧
      OnlyReply h.tag.toNat u t) ∧
    (Begins h 0x0101 [] false s u → ∃ t, exec (.getState h) s = .next t ∧ Replies h ST_OK (stateData u) t ∧
      OnlyReply h.tag.toNat u t) ∧
    (Begins h 0x0600 [] false s u → domOn u 4 = true → gateOpen u 10 = true → ∃ t, exec (.recInfo h) s = .next t ∧
      Replies h ST_OK (beBytes 4 4194304 ++ beBytes 4 ((oldestEsn u).getD (Config.freeWord u.time.free)).toNat ++
        beBytes 4 (u.recd.newest.getD 0).toNat ++ beBytes 4 u.recd.entOvw.toNat ++ beBytes 4 4194304) t ∧
      OnlyReply h.tag.toNat u t) ∧
    (Begins h 0x0700 (beBytes 32 nonce.toNat) false s u → gateOpen u 0 = true → ∃ t, exec (.attest h nonce) s = .next t ∧
      Replies h ST_OK (attestHead u u.time.free nonce ++ beBytes 384 (Config.rsaSignature Config.identityModulus
        (Config.sha256 (attestHead u u.time.free nonce))).toNat) t ∧
      OnlyReply h.tag.toNat u t) ∧
    (Begins h 0x0800 [] false s u → ∃ t, exec (.cascStatus h) s = .next t ∧
      Replies h ST_OK ([ixByte (deviceIndex u), ixByte (ringState u), ixByte (devsPresent u), ixByte (endBits u)] ++
        beInt 4 u.net.ofs ++ beInt 2 u.net.syncDiff) t ∧
      OnlyReply h.tag.toNat u t) ∧
    (Begins h 0x0904 [] false s u → ∃ t, exec (.snapshotInfo h) s = .next t ∧
      Replies h ST_OK ([flagByte u.recd.snapValid, 0x01, 0, 0] ++ beBytes 4 13572 ++
        (if u.recd.snapValid then beBytes 4 u.recd.snapEsn.toNat ++ beBytes 8 u.recd.snapTime
          else freeRun u.time.free 12)) t ∧
      OnlyReply h.tag.toNat u t) ∧
    (Begins h 0x0B01 [] false s u → ∃ t, exec (.stoStatus h) s = .next t ∧
      Replies h ST_OK ([BitVec.ofNat 8 (bitAt u.pins.stoA 0 + bitAt u.pins.stoB 1), flagByte (u.safety.demA || u.safety.demB),
        BitVec.ofNat 8 (bitAt u.safety.passA 0 + bitAt u.safety.passB 1), flagByte (u.safety.demA != u.safety.demB)] ++
        beBytes 4 u.safety.stoEsn.toNat) t ∧
      OnlyReply h.tag.toNat u t) ∧
    (Begins h 0x0B03 [] false s u → ∃ t, exec (.lockoutList h) s = .next t ∧
      Replies h ST_OK ([BitVec.ofNat 8 (u.safety.locks.take 255).length, 0, 0, 0] ++ (u.safety.locks.take 255).flatMap (fun k =>
        beBytes 4 k.esn.toNat ++ beBytes 2 k.code.toNat ++ lockScope u k.scope ++
          [flagByte (lockPresent u k), flagByte (inLockWin u k), 0, 0])) t ∧
      OnlyReply h.tag.toNat u t)

/-- R453, R481, R487, R485, R488, R580, R577, R494: the queries with operands in their ranges answer ST_OK with the data that the
state holds, and change nothing but their own context and what a reply takes. REC_READ sends at most 63 entries in a reply; the
final reply holds the last of them. -/
def Obligations.QueriesWithOperandsAnswer : Prop :=
  ∀ (h : Hdr) (s u : State), WellBuilt s →
    (∀ (tag : Byte), Begins h 0x0104 [tag] false s u → tag.toNat ≤ 127 → (ctxAt u tag.toNat).mute = false →
      (ctxAt u tag.toNat).gen = (ctxAt u h.tag.toNat).gen → (ctxAt u tag.toNat).gen ≠ 0 →
      ((ctxAt u tag.toNat).st = .short ∨ (ctxAt u tag.toNat).st = .long →
        ∃ t, exec (.ctxQuery h tag) s = .next t ∧
          Replies h ST_OK ([ctxCode (ctxAt u tag.toNat).st, 0] ++ beBytes 2 (ctxAt u tag.toNat).opcode.toNat ++
            beBytes 4 (msLeft u (ctxAt u tag.toNat))) t ∧ OnlyReply h.tag.toNat u t) ∧
      (∀ r, (ctxAt u tag.toNat).st = .done → (ctxAt u tag.toNat).final = some r →
        ∃ t, exec (.ctxQuery h tag) s = .next t ∧
          Replies h ST_OK ([0x03, 0] ++ beBytes 2 (ctxAt u tag.toNat).opcode.toNat ++ beBytes 4 0 ++ replyBytes r) t ∧
          OnlyReply h.tag.toNat u t)) ∧
    (∀ (unit : Byte), Begins h 0x0209 [unit] false s u → unit.toNat < 16 → gateOpen u 12 = true →
      ∃ t, exec (.cmpStatus h unit) s = .next t ∧
        Replies h ST_OK ([cmpCode (cmpAt u unit.toNat).st, BitVec.ofNat 8 (bitAt (cmpAt u unit.toNat).late 0 +
          bitAt (cmpAt u unit.toNat).repFlag 1 + bitAt (cmpAt u unit.toNat).back 2)] ++
          beBytes 2 (cmpAt u unit.toNat).unrec ++ beBytes 4 (cmpAt u unit.toNat).esn.toNat ++
          beBytes 8 (cmpAt u unit.toNat).time ++ beBytes 4 (cmpAt u unit.toNat).angle) t ∧ OnlyReply h.tag.toNat u t) ∧
    (∀ (source : Byte) (ids : List U16), Begins h 0x0300 ([source, BitVec.ofNat 8 ids.length, 0, 0] ++
        ids.flatMap (fun i => beBytes 2 i.toNat)) false s u → 1 ≤ ids.length → ids.length ≤ 255 →
      (source = 0 → ∃ t, exec (.paramRead h source ids) s = .next t ∧
        Replies h ST_OK (ids.flatMap (readItem u.store.act)) t ∧ OnlyReply h.tag.toNat u t) ∧
      (source = 1 → ∃ t, exec (.paramRead h source ids) s = .next t ∧
        Replies h ST_OK (ids.flatMap (readItem (stagedSet u))) t ∧ OnlyReply h.tag.toNat u t)) ∧
    (Begins h 0x0302 [0, 0, 0, 0] false s u → stagingHeld h.tag.toNat u = false →
      ∃ t, exec (.paramCommitPrepare h) s = .next t ∧
        Replies h ST_OK (beBytes 32 (stagingDigest (stagedSet u)).toNat ++ beBytes 4 u.store.act.serial.toNat) t ∧
        OnlyReply h.tag.toNat u t) ∧
    (∀ (kind inst : U16) (origin age : Byte) (p : Peg),
      Begins h 0x0400 (beBytes 2 kind.toNat ++ beBytes 2 inst.toNat ++ [origin, age]) false s u →
      origin = 1 ∨ origin = 2 ∨ origin = 3 → findPeg u kind inst origin age = some p →
      ∃ t, exec (.calRead h kind inst origin age) s = .next t ∧ Replies h ST_OK (pegBytes p) t ∧ OnlyReply h.tag.toNat u t) ∧
    (∀ (first : Esn) (count : U16), Begins h 0x0601 (beBytes 4 first.toNat ++ beBytes 2 count.toNat) false s u →
      1 ≤ count.toNat → count.toNat ≤ 4096 → domOn u 4 = true → gateOpen u 10 = true →
      let es := (entriesFrom first u).take count.toNat
      ∃ t, exec (.recRead h first count) s = .next t ∧
        Replies h ST_OK (partBytes (es.drop (63 * ((es.length - 1) / 63)))) t ∧ OnlyReply h.tag.toNat u t) ∧
    (∀ (channel count : U16) (time : U64),
      Begins h 0x0602 (beBytes 2 channel.toNat ++ beBytes 2 count.toNat ++ beBytes 8 time.toNat) false s u →
      channel.toNat ≤ 127 → 1 ≤ count.toNat → count.toNat ≤ 63 → domOn u 4 = true → gateOpen u 10 = true →
      let rs := ((u.recd.trend.getD channel.toNat []).filter (fun r => decide (time.toNat ≤ r.time))).take count.toNat
      ∃ t, exec (.trendRead h channel count time) s = .next t ∧
        Replies h ST_OK (beBytes 2 rs.length ++ zeros 2 ++ rs.flatMap trendBytes) t ∧ OnlyReply h.tag.toNat u t) ∧
    (∀ (addr : U32) (words : U16) (rs : List RegAt), Begins h 0x0900 (beBytes 4 addr.toNat ++ beBytes 2 words.toNat) false s u →
      1 ≤ words.toNat → words.toNat ≤ 256 → regsFrom addr.toNat words.toNat = some rs → rs.findSome? (regRefusal u) = none →
      ∃ t, exec (.regRead h addr words) s = .next t ∧
        Replies h ST_OK (rs.flatMap (fun r => leBytes 4 (readReg u r))) t ∧ OnlyReply h.tag.toNat u t)

/-! ### Requests about the device and its machines -/

/-- R476, R477, R493, R448: SET_OP_MODE enters a commanded SERVICE, recorded with reason 0x04, and leaves it again, RESET schedules an entry to BOOT 10 ms
after its reply on the D0 clock unless one waits already, FREEZE requests a freeze behind its reply, and SESSION_CLOSE closes the sending session after its
reply. -/
def Obligations.DeviceRequestsComplete : Prop :=
  ∀ (h : Hdr) (s u : State), WellBuilt s →
    (Begins h 0x0102 [0x01] false s u →
      (devState u = .service → Completes (.setOpModeEnter h) h [] s u) ∧
      (devState u ≠ .service → anyActive u (List.range 8) = false →
        Completes (.setOpModeEnter h) h [] s (noteService 0x04 { u with dev := { u.dev with commanded := true } }))) ∧
    (Begins h 0x0102 [0x00] false s u → devState u = .service → serviceReason u = 0x04 →
      Completes (.setOpModeLeave h) h [] s { u with dev := { u.dev with commanded := false } }) ∧
    (Begins h 0x0103 [0] false s u → anyActive u (List.range 8) = false →
      Completes (.reset h 0) h [] s { u with dev := { u.dev with resetAt := some (u.dev.resetAt.getD (u.time.rtc + 328).toNat) } }) ∧
    (Begins h 0x0903 [] false s u →
      Completes (.freeze h) h [] s { u with recd := { u.recd with freezeOpcode := true } }) ∧
    (Begins h 0x0702 [] false s u → ∃ t, exec (.sessionClose h) s = .next (closeSession h.session.toNat t) ∧
      Replies h ST_OK [] t ∧ OnlyReply h.tag.toNat u t)

/-- R147, R479, R480: ARM of a machine whose high islands all operate enables its gate commands, otherwise it starts precharge and
answers ST_ACCEPTED; while the monitor pair is not at operating point 0 it first waits for that (R421); DISARM takes every bridge that is active but not RUNNING to IDLE and answers ST_OK, and ramps the torque of a
RUNNING machine to zero; SAFE_STATE writes a request for the safe state with F-0612 at level L3 or above. An ARM also answers a fault
flag that the cascade holds (cascadeHold). -/
def Obligations.ArmingRequestsComplete : Prop :=
  ∀ (h : Hdr) (machine : Byte) (s u : State), WellBuilt s → machExists u machine.toNat = true →
    (Begins h 0x0200 [machine] false s u → armRefusal u machine.toNat = none →
      let v := seekMon 0 { u with pwr := { u.pwr with monReq := 0 } }
      (v.pwr.busyMon = false → v.pwr.monCur = 0 → allOperating v machine.toNat = true →
        exec (.arm h machine) s = .next (cascadeHold u (finish h.tag.toNat ST_OK [] (freshArm machine.toNat v)))) ∧
      (v.pwr.busyMon = false → v.pwr.monCur = 0 → allOperating v machine.toNat = false →
        exec (.arm h machine) s = .next (cascadeHold u (startPrecharge machine.toNat false
          (modMach machine.toNat (fun x => { x with tag := some h.tag.toNat })
            (accept h.tag.toNat (bGate v machine.toNat 0xF1 + 100) v))))) ∧
      (v.pwr.busyMon = true ∨ v.pwr.monCur ≠ 0 →
        exec (.arm h machine) s = .next (cascadeHold u (accept h.tag.toNat (bGate v machine.toNat 0xF1 + 100)
          (modMach machine.toNat (fun x => { x with tag := some h.tag.toNat, armWait := true }) v))))) ∧
    (Begins h 0x0201 [machine] false s u →
      (machRunning u machine.toNat = false → anyActive u (machBridges u machine.toNat) = false →
        Completes (.disarm h machine) h [] s u) ∧
      (machRunning u machine.toNat = false → anyActive u (machBridges u machine.toNat) = true →
        exec (.disarm h machine) s = .next (finish h.tag.toNat ST_OK []
          (toIdle machine.toNat (endMachineTag machine.toNat RS_BRIDGE_STATE u)))) ∧
      (machRunning u machine.toNat = true → rectifies u machine.toNat = false → (machAt u machine.toNat).ramp = .none →
        Accepts (.disarm h machine) h (rampTime u machine.toNat + 100) s
          (modMach machine.toNat (fun x => { x with ramp := .disarm }) u))) ∧
    (Begins h 0x0204 [0, machine] false s u → exec (.safeState h 0 machine) s =
      .next (finish h.tag.toNat ST_OK [] (commandSafe machine.toNat (srcMach machine.toNat) (.machine machine.toNat) u))) ∧
    (∀ lg : Byte, lg.toNat < 2 → Begins h 0x0204 [1, lg] false s u → exec (.safeState h 1 lg) s =
      .next (finish h.tag.toNat ST_OK [] (commandSafe lg.toNat (srcLg lg.toNat) (.linkGroup lg.toNat) u))) ∧
    (∀ i : Byte, Begins h 0x0204 [2, i] false s u → exec (.safeState h 2 i) s =
      .next (finish h.tag.toNat ST_OK [] (commandSafe 0 (srcDom 2) .device u)))

/-- R461, R201, R479, R237, R254: TORQUE_SET and SPEED_SET within their ranges make the reference the machine's, unless another
session holds it, it is in winding discharge, or a setpoint that arrived later set it; START of an ARMED machine at rest begins the checks of a sensor start or the catch
of a flying start in the direction named; PLUCK_TEST of an ARMED PMSM without a usable speed begins a catch window that the test
follows. -/
def Obligations.MotionRequestsComplete : Prop :=
  ∀ (h : Hdr) (machine : Byte) (s u : State), WellBuilt s → machExists u machine.toNat = true →
    let m := machine.toNat
    (∀ torque : U32, Begins h 0x0202 ([machine, 0, 0, 0] ++ beBytes 4 torque.toNat) false s u →
      torqueInRange u m torque.toInt = true → takesRefs u m = true → (machAt u m).ph ≠ .discharging →
      boundElsewhere u m h.session.toNat = false →
      Completes (.torqueSet h machine torque) h [] s (applyRef (ctxAt u h.tag.toNat).arrival m (torqueRef u m torque.toInt) u)) ∧
    (∀ speed : U32, Begins h 0x0203 ([machine, 0, 0, 0] ++ beBytes 4 speed.toNat) false s u →
      speedInRange u m speed.toInt = true → takesRefs u m = true → (machAt u m).ph ≠ .discharging →
      boundElsewhere u m h.session.toNat = false →
      Completes (.speedSet h machine speed) h [] s (applyRef (ctxAt u h.tag.toNat).arrival m (speedRef u m speed.toInt) u)) ∧
    (∀ (dir : Byte) (d : Int), dir = 0x01 ∧ d = 1 ∨ dir = 0xFF ∧ d = -1 → Begins h 0x0205 [machine, dir] false s u →
      allIn u (machBridges u m) .armed = true → isStart (machAt u m).ph = false → (machAt u m).tRef = 0 →
      (mPar u m 0x18 = 0 → ifAngleOk u m = true) →
      Accepts (.start h machine dir) h 2000 s (modMach m (fun x => { x with
        ph := if usesIf u m then .checking else .catching, phStart := u.time.dev, extended := false, dir := d, autoStart := false,
        tag := some h.tag.toNat, pluck := none }) u)) ∧
    (Begins h 0x0206 [machine] false s u → allIn u (machBridges u m) .armed = true → isPmsm u m = true →
      isStart (machAt u m).ph = false → (machAt u m).tRef = 0 → (hasIf u m && ifSpeedOk u m) = false →
      Accepts (.pluckTest h machine) h 200 s (modMach m (fun x => { x with
        ph := .catching, phStart := u.time.dev, extended := false, tag := some h.tag.toNat, pluck := some (Pluck.fresh true) }) u))

/-- R481, R263, R295, R561: RETIRE takes a leg or a bridge that is IDLE, DISABLED or SAFE out at once and a position interface
whose machine does not run, and ramps the torque of a running six-phase machine down first; CMP_ARM hands a target to the
scheduler or disarms the unit, after a comparison that the angle has already reached has fired; REMAP gives a retired leg, bridge or interface the spare named, and names it again to remove the
mapping. -/
def Obligations.UnitRequestsComplete : Prop :=
  ∀ (h : Hdr) (index repl : Byte) (s u : State), WellBuilt s →
    let i := index.toNat
    let r := repl.toNat
    (Begins h 0x0207 [1, index] false s u → i < 8 →
      (stOf u i = .idle ∨ stOf u i = .disabled ∨ stOf u i = .safe →
        exec (.retire h 1 index) s = .next (finish h.tag.toNat ST_OK [bridgeCode .retired] (retireBridge i 3 u))) ∧
      (∀ m, stOf u i = .running → bridgeMach u i = some m → (machBridges u m).length = 2 →
        allIn u (machBridges u m) .running = true → (machAt u m).ramp = .none → (machAt u m).tag = none →
        Accepts (.retire h 1 index) h 2000 s
          (modMach m (fun x => { x with ramp := .retire i 3, halfLim := true, tag := some h.tag.toNat }) u))) ∧
    (Begins h 0x0207 [0, index] false s u → i < 24 →
      stOf u (legBridge u i) = .idle ∨ stOf u (legBridge u i) = .disabled ∨ stOf u (legBridge u i) = .safe →
      exec (.retire h 0 index) s = .next (finish h.tag.toNat ST_OK [bridgeCode .retired]
        (retireBridge (legBridge u i) (legPhase u i) u))) ∧
    (Begins h 0x0207 [2, index] false s u → i < 8 → (∀ m, ifMachine u i = some m → machRunning u m = false) →
      Completes (.retire h 2 index) h [bridgeCode .retired] s
        (stopPouts i (modPos i (fun x => { x with retired := true, angleValid := false, speedValid := false }) u))) ∧
    (Begins h 0x0208 ([index, 2, 0, 0] ++ beBytes 4 0) false s u → i < 16 → gateOpen u 12 = true →
      exec (.cmpArm h index 2 0) s = .next (finish h.tag.toNat ST_OK []
        (modCmp i (fun x => { x with st := .disarmed, waiting := false, pend := none }) (fireHit i u)))) ∧
    (∀ (form : Byte) (target : U32), Begins h 0x0208 ([index, form, 0, 0] ++ beBytes 4 target.toNat) false s u → i < 16 → gateOpen u 12 = true →
      form.toNat < 2 → target.toNat < 262144 → domOn u (8 + cmpIf u i) = true →
      Completes (.cmpArm h index form target) h [] s
        (modCmp i (fun x => { x with pend := some (target.toNat, form == 1) }) u)) ∧
    (Begins h 0x020A [0, index, repl] false s u → i < 24 → r < 24 → r ≠ i → stOf u (i / 3) = .retired →
      (bridgeAt u (i / 3)).retiredLeg = some (i % 3) → r % 3 = i % 3 → spareBridge u (r / 3) = true →
      lgOf u (r / 3) = lgOf u (i / 3) → machineStill u (i / 3) = true → domOn u (8 + r / 3) = true →
      u.store.mapL.contains (ixByte r) = false →
      exec (.remap h 0 index repl) s = .next (finish h.tag.toNat ST_OK [] (returnBridge (i / 3)
        { u with store := { u.store with mapL := u.store.mapL.set i (ixByte r) } }))) ∧
    (Begins h 0x020A [1, index, repl] false s u → i < 8 → r < 8 → r ≠ i → stOf u i = .retired → assigned u i = true →
      sixLower u i = false → sixUpper u i = false → spareBridge u r = true → lgOf u r = lgOf u i → machineStill u i = true →
      let v := { u with store := { u.store with mapB := u.store.mapB.set i (ixByte r) } }
      Completes (.remap h 1 index repl) h [] s (modBridge r (fun br => { br with st := idleState v r br }) v)) ∧
    (Begins h 0x020A [2, index, repl] false s u → i < 8 → r < 8 → r ≠ i → (posAt u i).retired = true → posPar u r 0 = 0 →
      ifMachine u r = none → u.store.mapP.contains (ixByte r) = false →
      (machines u).find? (fun m => hasIf u m && mParN u m 0x19 == i) = none →
      Completes (.remap h 2 index repl) h [] s
        (initPos r { u with store := { u.store with mapP := u.store.mapP.set i (ixByte r) } })) ∧
    (Begins h 0x020A [0, index, index] false s u → i < 24 → u.store.mapL.getD i 0xFF ≠ 0xFF → machineStill u (i / 3) = true →
      stOf u (i / 3) ≠ .retired →
      Completes (.remap h 0 index index) h [] s { u with store := { u.store with mapL := u.store.mapL.set i 0xFF } })

/-- R484, R485, R487, R488, R558: PARAM_WRITE puts the items into the staging area of its session; PARAM_COMMIT form 1 stores the
staged set under its serial in the inactive buffer and waits for the commit instant, and form 2 drops the staging area; SET_SELECT
lets the other buffer's set wait for the commit instant; CAL_RECAL begins the recalibration of a bank converter or of the islands of
a leg. -/
def Obligations.ParameterRequestsComplete : Prop :=
  ∀ (h : Hdr) (s u v : State), WellBuilt s →
    (∀ items : List Item, Begins h 0x0301 ([BitVec.ofNat 8 items.length, 0, 0, 0] ++ items.flatMap (fun i =>
        beBytes 2 i.id.toNat ++ [i.fmt, 0] ++ beBytes 4 i.value.toNat)) (items.any (fun i => bridgeScope i.id.toNat)) s u →
      1 ≤ items.length → items.length ≤ 255 → stagingHeld h.tag.toNat u = false → checkItems items = none →
      let p := { stagedSet u with items := applyItems (stagedSet u).items items }
      Completes (.paramWrite h items) h [] s { u with store := { u.store with staging := some ⟨h.session, p⟩ } }) ∧
    (∀ (slot : Byte) (serial : U32) (digest : Digest) (sig : Rsa),
      Begins h 0x0302 ([1, slot, 0, 0] ++ beBytes 4 serial.toNat ++ beBytes 32 digest.toNat ++ beBytes 384 sig.toNat)
        (onBridgeChange s (stagedSet s)) s u →
      stagingHeld h.tag.toNat u = false → u.store.pending = none → u.store.act.serial.toNat < serial.toNat →
      digest = stagingDigest (stagedSet u) → u.store.upd = none →
      verifySigned h.tag.toNat 0x0302 slot 1
        (beBytes 32 (Config.sha256 (beBytes 4 serial.toNat ++ beBytes 32 digest.toNat)).toNat) sig u = (none, v) →
      let p := { stagedSet u with serial := serial }
      commitRefusal p v = none →
      let k := storeInactive .pset (sealedSlot p) v
      exec (.paramCommitApply h slot serial digest sig) s = .next (awaitInstant ⟨p, some h.tag.toNat, !usesB v .pset, false⟩
        (accept h.tag.toNat 500 { k with store := { k.store with staging := none, upd := none } }))) ∧
    (Begins h 0x0302 [2, 0, 0, 0] false s u → stagingHeld h.tag.toNat u = false →
      Completes (.paramCommitDiscard h) h [] s { u with store := { u.store with staging := none } }) ∧
    (∀ p : Machine.PSet, Begins h 0x0303 [0] (selectOnBridge s) s u → u.store.pending = none →
      parsePset (otherSlot u .pset).body = some p →
      verifySlot u .pset (otherSlot u .pset) = .good → u.store.act.serial.toNat < p.serial.toNat →
      psetContent (otherSlot u .pset).body u = .ok p →
      stateBreach u (ruleView p u) (changedItems u.store.act.items p.items) = none →
      exec (.setSelect h 0) s = .next (awaitInstant ⟨p, some h.tag.toNat, !usesB u .pset, false⟩ (accept h.tag.toNat 500 u))) ∧
    (∀ index : Byte, Begins h 0x0401 [0, index] true s u → index.toNat < 8 → domOn u 6 = true →
      recalBusy u 1 index.toNat = false → startingOn u index.toNat = false →
      Accepts (.calRecal h 0 index) h 100 s (modBridge index.toNat (fun b => { b with recalA := true })
        { u with store := { u.store with recal := u.store.recal ++ [(0, index, some h.tag.toNat)] } })) ∧
    (∀ index : Byte, Begins h 0x0401 [1, index] true s u → index.toNat < 8 → domOn u 7 = true →
      recalBusy u 0 index.toNat = false → startingOn u index.toNat = false →
      Accepts (.calRecal h 1 index) h 100 s (modBridge index.toNat (fun b => { b with recalB := true })
        { u with store := { u.store with recal := u.store.recal ++ [(1, index, some h.tag.toNat)] } })) ∧
    (∀ index : Byte, Begins h 0x0401 [2, index] true s u → index.toNat < 24 → domOn u (8 + legBridge u index.toNat) = true →
      allQuiet u [legBridge u index.toNat] = true →
      Accepts (.calRecal h 2 index) h 100 s
        { u with store := { u.store with recal := u.store.recal ++ [(2, index, some h.tag.toNat)] } })

/-- R548, R490, R550, R551: UPD_BEGIN opens the inactive slot of the class, UPD_CHUNK appends the next bytes, UPD_VERIFY marks a
slot whose checks pass VERIFIED, UPD_ACTIVATE marks it PENDING and names it for the next entry to BOOT, and UPD_HANDOVER suspends
the main pair's control and lets the new image take over within 300 ms. -/
def Obligations.UpdateRequestsComplete : Prop :=
  ∀ (h : Hdr) (x : Update) (s u : State), WellBuilt s →
    (∀ (cls : U16) (total : U32) (manifest : Manifest) (c : ImgClass),
      Begins h 0x0500 (beBytes 2 cls.toNat ++ [0, 0] ++ beBytes 4 total.toNat ++ manifestBytes manifest) false s u →
      updateBusy h.tag.toNat u = false → otherClass cls u = false → classOf cls = some c → 840 < total.toNat → total.toNat ≤ 840 + classMax c →
      let d := dropUpdate u
      let toB := (slotsAt d c).inB != some true
      let n : Update := ⟨h.session, c, toB, total.toNat⟩
      let v := modUpdSlot n (fun _ => ⟨.receiving, manifest, []⟩) d
      Completes (.updBegin h cls total manifest) h ([flagByte toB, 0, 0, 0] ++ beBytes 2 4000) s
        { v with store := { v.store with upd := some n } }) ∧
    (∀ (offset : U32) (data : List Byte), Begins h 0x0501 (beBytes 4 offset.toNat ++ data) false s u →
      1 ≤ data.length → data.length ≤ 4000 → updateBusy h.tag.toNat u = false → u.store.upd = some x →
      offset.toNat = updReceived u x → updReceived u x + data.length ≤ x.total → (updSlot u x).st = .receiving →
      Completes (.updChunk h offset data) h (beBytes 4 (updReceived u x + data.length)) s
        (modUpdSlot x (fun sl => { sl with st := if updReceived u x + data.length = x.total then .received else .receiving
                                           body := sl.body ++ data }) u)) ∧
    (Begins h 0x0502 [] false s u → updateBusy h.tag.toNat u = false → u.store.upd = some x → (updSlot u x).st = .received →
      verifyRefusal u x.cls (updSlot u x) = none →
      exec (.updVerify h) s = .next (finish h.tag.toNat ST_OK
        (beBytes 4 (updSlot u x).man.version.toNat ++ [(updSlot u x).man.rollback, 0, 0, 0])
        (modUpdSlot x (fun sl => { sl with st := .verified }) (accept h.tag.toNat 2000 u)))) ∧
    (Begins h 0x0503 [0] false s u → updateBusy h.tag.toNat u = false → u.store.upd = some x → (updSlot u x).st = .verified →
      exec (.updActivate h 0) s = .next (finish h.tag.toNat ST_OK [] (modSlots x.cls (fun k => { k with markB := x.slotB })
        (modUpdSlot x (fun sl => { sl with st := .pending })
          (accept h.tag.toNat 500 { u with store := { u.store with upd := none } }))))) ∧
    (Begins h 0x0503 [1] false s u → updateBusy h.tag.toNat u = false → u.store.upd = some x → (updSlot u x).st = .verified →
      nowRefusal u x = none → exec (.updActivate h 1) s =
        .next (activateNow h.tag.toNat x (accept h.tag.toNat 500 { u with store := { u.store with upd := none } }))) ∧
    (Begins h 0x0504 [] false s u → u.store.upd = some x → handoverRefusal h.tag.toNat u = none →
      Accepts (.updHandover h) h 300 s (modPair .main (fun p => { p with suspended := true }) { u with store :=
        { u.store with upd := none, handover := some ⟨some h.tag.toNat, u.time.dev, x.slotB, false, none⟩ } }))

/-- R545, R448, R474, R537, R370: SESSION_OPEN whose ciphertext decrypts to 32 bytes opens the lowest free session and answers the
key confirmation; KEY_INFO answers the key summary with a fresh signing nonce, or the certificate; OWNER_SLOT fuses an empty slot or
revokes one of several valid ones; LOCKOUT_CLEAR arms the clearance of the lock-out named, whose cause is absent. The hash of an empty
slot in the summary is a free value (log entry 3). -/
def Obligations.SecurityRequestsComplete : Prop :=
  ∀ (h : Hdr) (s u v : State), WellBuilt s →
    (∀ (k : List Byte) (i : Nat), Begins h 0x0701 (zeros 384) false s u → gateOpen u 0 = true → k.length = 32 → freeSession u = some i →
      let key := BitVec.ofNat 256 (beNat k)
      Completes (.sessionOpen h (some k)) h
        ([ixByte i] ++ zeros 3 ++ confirmation (directionKey key labelM2H) i h.seq) s (openSession i key h.seq u)) ∧
    (Begins h 0x0703 [0] false s u →
      let x := { u with time := { u.time with free := u.time.free + 128 } }
      let n := (issueNonce h.session.toNat x).1
      Completes (.keyInfo h 0) h (beBytes 32 identityHash.toNat ++ slotStates u ++
        (List.range 4).flatMap (fun i => slotHash (u.time.free + 32 * i) (ownerSlot u i)) ++ fuseBytes u ++ zeros 3 ++
        beBytes 16 n.toNat) s (issueNonce h.session.toNat x).2) ∧
    (Begins h 0x0703 [1] false s u →
      Completes (.keyInfo h 1) h (beBytes 2 Config.certificate.length ++ Config.certificate) s u) ∧
    (∀ (signer target : Byte) (hash : Digest) (sig : Rsa), target.toNat < 4 →
      (Begins h 0x0704 (ownerPayload 0 signer target hash sig) false s u →
        ownerAuth h.tag.toNat signer 0 hash sig u = (none, v) → ownerSlot u target.toNat = .empty →
        exec (.ownerSlotFuse h signer target hash sig) s =
          .next (finish h.tag.toNat ST_OK [] (setOwner target.toNat (.valid hash) v))) ∧
      (∀ k, Begins h 0x0704 (ownerPayload 1 signer target hash sig) false s u →
        ownerAuth h.tag.toNat signer 1 hash sig u = (none, v) → ownerSlot u target.toNat = .valid k →
        1 < ((List.range 4).filter (fun i => slotValid (ownerSlot u i))).length →
        exec (.ownerSlotRevoke h signer target hash sig) s =
          .next (finish h.tag.toNat ST_OK [] (setOwner target.toNat (.revoked k) v)))) ∧
    (∀ (esn : Esn) (slot : Byte) (sig : Rsa) (k : Lockout),
      Begins h 0x0B00 (beBytes 4 esn.toNat ++ [slot, 0, 0, 0] ++ beBytes 384 sig.toNat) false s u →
      verifySigned h.tag.toNat 0x0B00 slot 0 (beBytes 4 esn.toNat) sig u = (none, v) →
      u.safety.locks.find? (fun k => k.esn == esn) = some k → lockPresent v k = false →
      Completes (.lockoutClear h esn slot sig) h [] s { v with safety := { v.safety with
        locks := v.safety.locks.map (fun x => if x.esn = esn then { x with armed := some v.time.dev } else x) } })

/-- R492, R406, R411, R420: REG_WRITE of a register that takes the masked bits writes it and answers its new content; FREQ_MEASURE
starts the counter and is accepted for the gate time and 100 ms; DOMAIN_SET hands the request to the power sequencer after its reply;
OP_POINT requests the operating point and answers the one in force. -/
def Obligations.ServiceRequestsComplete : Prop :=
  ∀ (h : Hdr) (s u : State), WellBuilt s →
    (∀ (addr mask value : U32) (r : RegAt),
      Begins h 0x0901 (beBytes 4 addr.toNat ++ leBytes 4 mask.toNat ++ leBytes 4 value.toNat) false s u →
      regAt addr.toNat = some r → mask.toNat &&& ((regBits r).1 ||| (regBits r).2) = mask.toNat → regRefusal u r = none →
      let new := ((BitVec.ofNat 32 (readReg u r) &&& ~~~mask) ||| (value &&& mask)) &&& BitVec.ofNat 32 (regBits r).1
      writeStatus u r new.toNat mask.toNat = none →
      let v := writeReg r new.toNat mask.toNat (value.toNat &&& mask.toNat &&& (regBits r).2) u
      exec (.regWrite h addr mask value) s = .next (finish h.tag.toNat ST_OK (leBytes 4 (readReg v r)) v)) ∧
    (∀ (inSel refSel : Byte) (nRef : U32) (f : Nat), Begins h 0x0902 ([inSel, refSel] ++ beBytes 4 nRef.toNat) false s u →
      u.clk.fmBusy = false → domOn u 4 = true → gateOpen u 9 = true → (∀ n, fmDomain inSel.toNat = some n → domOn u n = true) →
      inSel.toNat < 12 → refSel.toNat < 4 → fmRefHz refSel.toNat = some f →
      let x := { u.clk with fmIn := BitVec.ofNat 4 inSel.toNat, fmRef := BitVec.ofNat 3 refSel.toNat, fmGate := nRef }
      fmInRange { u with clk := x } = true →
      Accepts (.freqMeasure h inSel refSel nRef) h ((nRef.toNat * 1000 + f - 1) / f + 100) s
        { u with clk := { x with fmTag := some h.tag.toNat, fmBusy := true } }) ∧
    (∀ (domain request : Byte) (hold : U16), Begins h 0x0A00 ([domain, request] ++ beBytes 2 hold.toNat) false s u →
      1 ≤ domain.toNat → domain.toNat ≤ 15 → request.toNat ≤ 2 →
      domainRefusal u domain.toNat request.toNat hold.toNat = none →
      exec (.domainSet h domain request hold) s =
        .next (changeDomain domain.toNat request.toNat hold.toNat (finish h.tag.toNat ST_OK [] u))) ∧
    (∀ point : Byte,
      (point.toNat < 3 → Begins h 0x0A01 [0, point] false s u →
        let v := requestMain point.toNat u
        exec (.opPoint h 0 point) s = .next (finish h.tag.toNat ST_OK [BitVec.ofNat 8 v.pwr.mainCur] v)) ∧
      (point.toNat < 2 → Begins h 0x0A01 [1, point] false s u → monRefused u point.toNat = false →
        let v := requestMon point.toNat u
        exec (.opPoint h 1 point) s = .next (finish h.tag.toNat ST_OK [BitVec.ofNat 8 v.pwr.monCur] v)))

/-- R422, R423, R425, R494: STANDBY_ENTER begins the entry with no bridge active and the wake pins low, or stores the depth for the
next one; RTC_SET sets the count, and a RESET that waits keeps its distance; ALARM_SET sets and arms the alarm; CONTACTOR_SET
commands the drivers of the mask, asks for the discharges and ends at once where the feedback already shows the commands. -/
def Obligations.StandbyAndContactorRequestsComplete : Prop :=
  ∀ (h : Hdr) (s u : State), WellBuilt s →
    (∀ depth canWake : Byte, depth.toNat < 2 → canWake.toNat < 3 →
      (Begins h 0x0A02 [depth, 1, canWake] false s u → Completes (.standbyEnter h depth 1 canWake) h [] s
        { u with pwr := { u.pwr with depthNext := depth == 1, canWake := BitVec.ofNat 2 canWake.toNat } }) ∧
      (Begins h 0x0A02 [depth, 0, canWake] false s u → anyActive u (List.range 8) = false → u.pins.kl15 = false →
        u.pins.keep = false →
        let v := finish h.tag.toNat ST_OK [] u
        exec (.standbyEnter h depth 0 canWake) s = .next (standbyAdvance (standbyBegin (depth == 1)
          { v with pwr := { v.pwr with canWake := BitVec.ofNat 2 canWake.toNat } })))) ∧
    (∀ count : BitVec 48, Begins h 0x0A03 (beBytes 6 count.toNat) false s u →
      Completes (.rtcSet h count) h [] s { u with
        time := { u.time with rtc := count },
        dev := { u.dev with resetAt := u.dev.resetAt.map (fun n => (count.toNat + (n - u.time.rtc.toNat)) % 2 ^ 48) } }) ∧
    (∀ (alarm : BitVec 48) (armed : Byte), Begins h 0x0A04 (beBytes 6 alarm.toNat ++ [armed]) false s u →
      armed.toNat < 2 → u.time.rtc.toNat + 2 < alarm.toNat →
      Completes (.alarmSet h alarm armed) h [] s { u with pwr := { u.pwr with alarm := alarm, rtcArmed := armed == 1 } }) ∧
    (∀ mask command discharge : Byte, Begins h 0x0B02 [mask, command, discharge] false s u →
      mask ≠ 0 → mask.toNat ≤ 15 → command.toNat ≤ 1 → discharge.toNat ≤ 3 → (command = 1 → discharge = 0) →
      domOn u 3 = true → monUp u = true →
      let ns := (List.range 4).filter (fun n => hasBit mask.toNat n)
      let gs := [0, 1].filter (fun g => ns.any (fun n => ctdCovers u n g))
      let ds := [0, 1].filter (fun g => hasBit discharge.toNat g)
      (command = 0 → gs.find? (fun g => anyActive u (lgBridges u g)) = none) →
      (command = 1 → gs.find? (groupLocked u) = none) →
      let ms := if ds.isEmpty then cfbTime u + 100 else (ds.map (fun g => lgPar u g 0xC)).foldl max 0 + 3000
      exec (.contactorSet h mask command discharge) s = .next (settleContactors h.tag.toNat
        (forEach ds (fun g => modLg g (fun x => { x with disWait := some h.tag.toNat }))
          (forEach ns (fun n s => modCtd n (fun c => { c with tag := some h.tag.toNat }) (commandCtd (command == 1) n s))
            (accept h.tag.toNat ms u)))))

/-! ### Rows of the diagnostic window, the snapshot port and the pins -/

/-- R399, R400, R408, R409, R404: a write of CLK_SEL judges its three fields one after another; a field whose source is not ready, or
that an active bridge forbids, sets SWERR and keeps its value; the oldest switch under way that is forced sets CLKSW_FORCED and
records F-0806; a gate opens at
once; it closes at once when its port is idle within 256 cycles and otherwise waits, and a forced close sets GATE_FORCED and records
F-0807; a START of the counter inside its range sets BUSY and outside it ERR. -/
def Obligations.ClockRegisterRowsAct : Prop :=
  ∀ (s : State),
    (∀ value : U32, isUp s = true →
      exec (.clkSelWrite value) s = .next (writeSel value.toNat .net (writeSel value.toNat .pwm (writeSel value.toNat .sys s)))) ∧
    (∀ (value : Nat) (p : Pll),
      (∀ st, selRefusal s p (refOf value p) = some st →
        writeSel value p s = { s with clk := { s.clk with swErr := true } }) ∧
      (selRefusal s p (refOf value p) = none → refOf s.clk.sel.toNat p = refOf value p → writeSel value p s = s) ∧
      (selRefusal s p (refOf value p) = none → refOf s.clk.sel.toNat p ≠ refOf value p →
        let v := takeRef p (refOf value p) s
        writeSel value p s = { v with dev := { v.dev with severe := v.dev.severe && p == .net } })) ∧
    (∀ (p : Pll) (code : Nat), refOf s.clk.sel.toNat p ≠ code → p ∉ s.clk.switching →
      (takeRef p code s).clk.switching = s.clk.switching ++ [p]) ∧
    (∀ (q : Pll) (qs : List Pll), s.clk.switching = q :: qs →
      (∀ k : Nat, k ≤ 8 → exec (.clockSwitchForced (some k)) s = .next { s with clk := { s.clk with switching := qs } }) ∧
      (∀ edge : Option Nat, (∀ k, edge = some k → 8 < k) → exec (.clockSwitchForced edge) s =
        .next (note 0x0806 (srcDom 0) [] { s with clk := { s.clk with switching := qs, swForced := true } }))) ∧
    (∀ bit : Fin 32, isUp s = true → gateBit bit = true → exec (.clkGateOpen bit) s = .next { s with
      clk := { s.clk with gate := s.clk.gate ||| maskBit bit, closing := s.clk.closing &&& ~~~(maskBit bit) } }) ∧
    (∀ (bit : Fin 32) (idleAt : Nat), isUp s = true → gateBit bit = true → gateOpen s bit = true →
      (gateHeld s bit = true → exec (.clkGateClose bit idleAt) s = .next { s with clk := { s.clk with swErr := true } }) ∧
      (gateHeld s bit = false → idleAt ≤ 256 → exec (.clkGateClose bit idleAt) s = .next { s with
        clk := { s.clk with gate := s.clk.gate &&& ~~~(maskBit bit), closing := s.clk.closing &&& ~~~(maskBit bit) } }) ∧
      (gateHeld s bit = false → 256 < idleAt → exec (.clkGateClose bit idleAt) s = .next { s with
        clk := { s.clk with closing := s.clk.closing ||| maskBit bit } })) ∧
    (∀ bit : Fin 32, isUp s = true → hasBit s.clk.closing.toNat bit.val = true →
      exec (.gateCloseForced bit none) s = .next (note 0x0807 (srcDom 0) [] { s with
        clk := { s.clk with gate := s.clk.gate &&& ~~~(maskBit bit.val), closing := s.clk.closing &&& ~~~(maskBit bit.val),
                            gateForced := true } }) ∧
      ∀ k : Nat, k ≤ 256 → exec (.gateCloseForced bit (some k)) s = .next { s with
        clk := { s.clk with gate := s.clk.gate &&& ~~~(maskBit bit.val), closing := s.clk.closing &&& ~~~(maskBit bit.val),
                            gateForced := s.clk.gateForced } }) ∧
    (isUp s = true → fmUsable s = true → s.clk.fmBusy = false →
      (fmInRange s = true → exec .fmStart s = .next { s with clk := { s.clk with fmBusy := true } }) ∧
      (fmInRange s = false → exec .fmStart s = .next { s with clk := { s.clk with fmErr := true } }))

/-- R411, R420, R575, R576, R579, R571, R568: a domain request outside D0 goes to the sequencer; an operating point is requested; the
write buffer goes to MRAM; sample records stop and resume; a forced comparator trips its input; the snapshot port answers STATUS and
READ and leaves FROZEN at a RESTART that nothing blocks. -/
def Obligations.WindowAndSnapshotRowsAct : Prop :=
  ∀ (s : State),
    (∀ (n : Fin 16) (req : BitVec 2) (hold : U16), s.dev.ph ≠ .off → n.val ≠ 0 → req ≠ 3 →
      (∀ why, domainRefusal s n req.toNat hold.toNat = some why →
        exec (.domCtlRequest n req hold) s = .next (modDom n (fun d => { d with ilk := true }) s)) ∧
      (domainRefusal s n req.toNat hold.toNat = none →
        exec (.domCtlRequest n req hold) s = .next (changeDomain n req.toNat hold.toNat s))) ∧
    (∀ point : BitVec 2, isUp s = true → point ≠ 3 →
      exec (.opPointRegRequest .main point) s = .next (requestMain point.toNat s)) ∧
    (∀ point : BitVec 2, isUp s = true → point.toNat ≤ 1 → monRefused s point.toNat = false →
      exec (.opPointRegRequest .mon point) s = .next (seekMon point.toNat { s with pwr := { s.pwr with monReq := point.toNat } })) ∧
    (recorderOn s = true → exec .recFlush s = .next (flushBuffer s) ∧
      ∀ en : Bool, exec (.recSampleEnWrite en) s =
        .next { s with recd := { s.recd with sampleEn := en, postHold := s.recd.postHold && !en } }) ∧
    (∀ (bank : Bank) (input : BitVec 5), isUp s = true → domOn s (bankDom bank) = true →
      let v := fun (force : Bool) => modBank bank (fun k => { k with force := force, input := input }) s
      exec (.snsTestForce bank false input) s = .next (v false) ∧
      (input.toNat < 24 → comparatorOn (v true) bank input.toNat = true →
        exec (.snsTestForce bank true input) s = .next (tripComparator bank input.toNat (v true)))) ∧
    (exec (.snpStatus true) s = .next (emit (.snpBytes (snpStatusBytes s)) s) ∧
      ∀ (addr : BitVec 24) (count : Nat), exec (.snpRead true addr count) s =
        .next (emit (.snpBytes (imageBytes s addr.toNat count)) s)) ∧
    (isFrozen s = true → restartBlocked s = false → ∃ t, exec (.restart true 0x95) s = .next t ∧ t.dev.ph = .boot ∧
      t.dev.bootCause = some .restart ∧ t.recd.buf = [] ∧ t.safety.locks = s.safety.locks)

/-- R63, R64, R412, R424, R606: a rising edge of KL15 switches D5 on again while it is off under a hold time; in STANDBY it enters
BOOT, and otherwise KL15 or KEEP high abandons an entry to STANDBY; both low for 16,384 ticks of the D0 clock begin that entry, make it
pending in BOOT, or take a start-up that has halted to STANDBY; a resumed entry goes on where it waits, and a long wait
is recorded as F-0813 with the turning machines. -/
def Obligations.WakePinRowsAct : Prop :=
  ∀ (s : State),
    (s.dev.ph = .standby → s.pwr.kl30Lost = false →
      exec .kl15Rise s = .next (enterBoot (if s.dev.fromOff then .powerUpKl15 else .kl15)
        (returnD5 { s with pins := { s.pins with kl15 := true } }))) ∧
    (s.dev.ph = .up ∨ s.dev.ph = .boot ∨ s.dev.ph = .calibrating →
      exec .kl15Rise s = .next (abandonStandby (returnD5 { s with pins := { s.pins with kl15 := true } }))) ∧
    (∀ h : Nat, s.pwr.d5Hold = some h → domOn s 5 = false → (domAt s 5).busy = false → returnD5 s = changeDomain 5 0 0 s) ∧
    (s.pwr.d5Hold = none ∨ domOn s 5 = true ∨ (domAt s 5).busy = true → returnD5 s = s) ∧
    (exec (.kl15KeepHigh .kl15 true) s = exec .kl15Rise s ∧
      exec (.kl15KeepHigh .kl15 false) s = .next { s with pins := { s.pins with kl15 := true } } ∧
      exec (.kl15KeepHigh .keep false) s = .next { s with pins := { s.pins with keep := true } }) ∧
    (s.dev.ph = .up → exec (.kl15KeepHigh .keep true) s = .next (abandonStandby { s with pins := { s.pins with keep := true } })) ∧
    (∀ ticks : Nat, let v := { s with pins := { s.pins with kl15 := false, keep := false } }
      (ticks < 16384 → exec (.kl15KeepLowCount ticks) s = .next v) ∧
      (16384 ≤ ticks → s.dev.ph = .up →
        exec (.kl15KeepLowCount ticks) s = .next (standbyAdvance (standbyBegin s.pwr.depthNext v))) ∧
      (16384 ≤ ticks → s.dev.ph = .boot → s.safety.held = false → s.dev.halted = none →
        exec (.kl15KeepLowCount ticks) s = .next { v with pwr := { s.pwr with sbyPending := true } }) ∧
      (16384 ≤ ticks → s.dev.ph = .boot ∧ s.safety.held = false ∨ s.dev.ph = .calibrating → s.dev.halted.isSome = true →
        exec (.kl15KeepLowCount ticks) s = .next (standbyHalted s.pwr.depthNext v))) ∧
    (∀ e : SbyEntry, isUp s = true → s.pwr.sby = some e → e.step = 4 → s.lgs.any (fun g => g.dis.isSome) = false →
      exec .standbyEntryResume s = .next (powerDown e.listening s)) ∧
    (∀ seconds : Nat, mainUp s = true → sbyStep s = 2 → parN s 0xB003 ≤ seconds →
      let ms := (activeMachines s).filter (fun m => !belowFwSpeed s m)
      ms ≠ [] → exec (.standbyWaitReport seconds) s = .next (note 0x0813 (srcDom 2)
        [BitVec.ofNat 8 ((ms.map (fun m => 2 ^ m)).foldl (· + ·) 0)] s))

/-- R65, R68, R371, R75, R565, R567: DRV_EN low puts every active bridge into the safe state; a rising edge after at least 328 ticks
low judges latches, overrides and lock-outs again; a clearance not completed in its window ends; the pin FREEZE requests a freeze; a
requested freeze captures the snapshot and stops the device; and the freeze watcher clears FAST of a bridge whose half-period is too
long. -/
def Obligations.EnableAndFreezeRowsAct : Prop :=
  ∀ (s : State),
    (isLive s = true → ∃ v, v = override RS_DRV_EN_LOW false ⟨.drvEn, 3, 0⟩ (List.range 8)
        (markFreeze 4 { s with pins := { s.pins with drvEn := false } }) ∧
      exec .drvEnFall s = .next (forEach ([0, 1].filter (abortedWinding v)) raise0508 v)) ∧
    (∀ (lowTicks : Nat) (obs : EdgeObs), isUp s = true → 328 ≤ lowTicks →
      exec (.drvEnRise lowTicks obs) s = .next (qualifyingEdge obs { s with pins := { s.pins with drvEn := true } })) ∧
    (∀ esn : Esn, exec (.clearanceExpiry esn) s = .next { s with safety := { s.safety with
      locks := s.safety.locks.map (fun k =>
        if (k.esn == esn && (match k.armed with
          | some t => decide (t + parN s 0x8F02 * 400000000 ≤ s.time.dev)
          | none => false)) = true then { k with armed := none } else k) } }) ∧
    (isUp s = true → exec .freezePinRise s = .next { s with recd := { s.recd with freezePin := true } }) ∧
    (∀ forced : Byte, isUp s = true → s.recd.freezePin = true ∨ s.recd.freezeOpcode = true →
      ∃ t, exec (.freezeTake forced) s = .next t ∧ t = takeFreeze forced s ∧ t.dev.ph = .frozen) ∧
    (∀ (b : Fin 8) (m halfTicks : Nat), bridgeMach s b = some m → isFrozen s = true → s.recd.watcher.getD b false = true →
      halfTooLong s m halfTicks = true → exec (.freezeWatcherFastClear b halfTicks) s =
        .next (reselect b (modBridge b (fun br => { br with fast := false })
          { s with recd := { s.recd with watcher := s.recd.watcher.set b false } })))

/-- R356, R357, R359: an STO channel low for 1.1 ms demands, unless it demands already; both high for 10 ms end the demand; one
channel demanding alone for P_STO_DISC raises F-0631, once in that disagreement. A channel low between 1.0 and 1.1 ms may or may not demand: a free value (log
entry 3). -/
def Obligations.StoRowsAct : Prop :=
  ∀ (s : State),
    (∀ lowUs : Nat, s.dev.ph ≠ .off → 1100 ≤ lowUs →
      (s.safety.demA = false → exec (.stoDemand .a lowUs) s = .next (demand .a s)) ∧
      (s.safety.demB = false → exec (.stoDemand .b lowUs) s = .next (demand .b s))) ∧
    (∀ lowUs : Nat, lowUs ≤ 1000 → exec (.stoDemand .a lowUs) s = .next s ∧ exec (.stoDemand .b lowUs) s = .next s) ∧
    (∀ lowUs : Nat, s.dev.ph ≠ .off → s.safety.demA = false → 1000 < lowUs → lowUs < 1100 →
      let v := { s with time := { s.time with free := s.time.free + 1 } }
      exec (.stoDemand .a lowUs) s = .next (if Config.freeBit s.time.free then demand .a v else v)) ∧
    (∀ highUs : Nat, s.dev.ph ≠ .off → 10000 ≤ highUs → exec (.stoDemandEnd highUs) s = .next (endDemand s)) ∧
    (∀ ms : Nat, monUp s = true → parN s 0x8F01 ≤ ms → s.safety.disc = false →
      let v := { s with safety := { s.safety with disc := true } }
      (s.safety.demA = true → s.safety.demB = false → exec (.stoDiscrepancy ms) s =
        .next (raiseFault 0x0631 0 (srcDom 3) .device [] { v with pins := { s.pins with stoB := true } })) ∧
      (s.safety.demA = false → s.safety.demB = true → exec (.stoDiscrepancy ms) s =
        .next (raiseFault 0x0631 0 (srcDom 3) .device [] { v with pins := { s.pins with stoA := true } })))

/-- R586, R587, R588, R590, R96, R99: KL30 below 12.0 V for 50 µs starts the hold-up and writes the buffer to MRAM; 328 ticks without
return confirm the loss, open the contactors, raise F-0810 and power the module down; its return before the confirmation is recorded
as F-0811 and after it enters BOOT; the hold-up's end leaves the module OFF; KL30 out of range is recorded as F-0812; KL30 applied in
OFF leads to STANDBY, or to BOOT with KL15 high; an entry to BOOT runs the steps of Table 3.1; and an overrun step is recorded. -/
def Obligations.SupplyAndStartRowsAct : Prop :=
  ∀ (s : State),
    (∀ mv us : Nat, s.pins.kl30 = true → s.pwr.kl30Lost = false → mv < 12000 → 50 ≤ us →
      let v := { s with pwr := { s.pwr with kl30Lost := true, kl30Conf := false } }
      (isFrozen s = false → exec (.kl30Loss mv us) s = .next (flushBuffer v)) ∧
      (isFrozen s = true → exec (.kl30Loss mv us) s = .next v)) ∧
    (∀ ticks : Nat, s.pwr.kl30Lost = true → s.pwr.kl30Conf = false → 328 ≤ ticks → isUp s = true →
      let v := { s with pwr := { s.pwr with kl30Conf := true } }
      exec (.kl30LossConfirmed ticks) s = .next (powerDown false
        (raiseFault 0x0810 0 (srcDom 3) .device [] (forEach (List.range 4) (commandCtd false) v)))) ∧
    (∀ mv us : Nat, s.pwr.kl30Lost = true → 13000 < mv → 1000 ≤ us →
      let v := { s with pwr := { s.pwr with kl30Lost := false, kl30Conf := false } }
      (s.pwr.kl30Conf = false → isUp s = true → exec (.kl30Return mv us) s = .next (note 0x0811 (srcDom 0) [] v)) ∧
      (s.pwr.kl30Conf = true → isFrozen s = false → exec (.kl30Return mv us) s = .next (enterBoot .kl30Return v))) ∧
    (∀ us : Nat, s.pwr.kl30Lost = true → 20000 ≤ us → ∃ t, exec (.holdupEnd us) s = .next t ∧ t.dev.ph = .off ∧
      t.store.fuses = s.store.fuses ∧ t.store.owners = s.store.owners) ∧
    (∀ mv ticks : Nat, isUp s = true → s.pwr.kl30Lost = false → 328 ≤ ticks →
      12000 ≤ mv ∧ mv < 16000 ∨ 32000 < mv ∧ mv ≤ 58000 →
      exec (.kl30OutOfRange mv ticks) s = .next (note 0x0812 (srcDom 0) [] s)) ∧
    (s.dev.ph = .off → ∃ t u, exec (.kl30Apply false) s = .next t ∧ t.dev.ph = .standby ∧ t.time.rtc = 0 ∧
      exec (.kl30Apply true) s = .next u ∧ u.dev.ph = .boot ∧ u.dev.bootCause = some .powerUpKl15) ∧
    (∀ (obs : BootObs) (cause : BootCause), obs.straps.length = 4 → obs.islands.length = 52 → obs.calA.length = 8 →
      obs.calB.length = 8 → obs.dieTemps.length = 16 → s.dev.ph = .boot → s.dev.bootCause = some cause →
      let v := bootTime (flushBuffer s)
      let w := bootUnits { v with dev := { v.dev with bootCause := none },
                                  pwr := { v.pwr with cause := causeBits s.dev.fromOff cause } }
      exec (.bootEntry obs) s = .next (bootSteps obs (bootDomains obs (List.range' 1 7) (bootClocks obs (bootStraps obs w))))) ∧
    (∀ (step : Fin 10) (us : Nat), isUp s = true → step ≠ 0 → stepMax step < us →
      exec (.startupStepOverrun step us) s = .next (note 0x0821 (srcDom 0) [ixByte step] s))

/-- R426, R427, R417, R412, R420, R425, R509: a domain whose regulator is in regulation in time is on, and one that is not is tried
again after 328 ticks, until the fourth failure ends in WAKE_FAIL and F-0803; a restored field engine returns 180 µs after the wake;
D5 left under a hold time comes back; an operating point is reached, or given up after 100 µs with OVERRUN and F-0808; and the alarm
and a wake frame of CANF0 enter BOOT from STANDBY. -/
def Obligations.DomainRowsAct : Prop :=
  ∀ (s : State),
    (∀ (dom : Fin 16) (ticks : Nat), (domAt s dom).busy = true → (domAt s dom).forcedOff = false → isUp s = true →
      (∀ k : Nat, k ≤ 66 → k ≤ ticks → exec (.domainWakeDeadline dom ticks (some k)) s = .next (domainOn dom s)) ∧
      ∀ regAt : Option Nat, (∀ k, regAt = some k → 66 < k) → 66 ≤ ticks →
        ((domAt s dom).tries < 3 → exec (.domainWakeDeadline dom ticks regAt) s = .next
          (modDom dom (fun d => { d with forcedOff := true, st := .off, saved := false }) s)) ∧
        (3 ≤ (domAt s dom).tries → ∃ v, v = modDom dom (fun d =>
            { d with forcedOff := false, busy := false, wakeFail := true, st := .off, saved := false }) s ∧
          exec (.domainWakeDeadline dom ticks regAt) s = .next (wakeFailed dom v))) ∧
    (∀ (dom : Fin 16) (ticks : Nat), (domAt s dom).busy = true → (domAt s dom).forcedOff = true → 328 ≤ ticks →
      (domAt s dom).tries < 3 → exec (.domainWakeRetry dom ticks) s =
        .next (modDom dom (fun d => { d with forcedOff := false, tries := d.tries + 1 }) s)) ∧
    (∀ (n : Fin 8) (us : Nat), (domAt s (8 + n)).saved = true → (domAt s (8 + n)).st = .on → 180 ≤ us →
      exec (.feRestoreComplete n us) s = .next (returnFe n (modDom (8 + n) (fun d => { d with saved := false }) s))) ∧
    (∀ h ms : Nat, s.pwr.d5Hold = some h → domOn s 5 = false → (domAt s 5).busy = false →
      (10 * h ≤ ms → exec (.d5HoldExpiry .expiry ms) s = .next (changeDomain 5 0 0 s)) ∧
      exec (.d5HoldExpiry .kl15Rise ms) s = .next (changeDomain 5 0 0 s) ∧
      ∀ ev : CanWakeEv, canWakes s s.pwr.wuf ev = true →
        exec (.d5HoldExpiry (.canWake ev) ms) s = .next (changeDomain 5 0 0 s) ∧
        (s.dev.ph ≠ .standby → exec (.canWake ev) s = .next (changeDomain 5 0 0 s))) ∧
    (s.pwr.busyMain = true → exec (.opPointTransitionDone .main) s = .next (settleMain s.pwr.tgtMain s) ∧
      ∀ us : Nat, 100 ≤ us → exec (.opPointOverrun .main us) s = .next (settleMain s.pwr.mainCur
        (note 0x0808 (srcDom 2) [] { s with pwr := { s.pwr with overrun := true } }))) ∧
    (s.pwr.busyMon = true → exec (.opPointTransitionDone .mon) s = .next (settleMon s.pwr.tgtMon s) ∧
      ∀ us : Nat, 100 ≤ us → exec (.opPointOverrun .mon us) s = .next (settleMon s.pwr.monCur
        (note 0x0808 (srcDom 3) [] { s with pwr := { s.pwr with overrun := true } }))) ∧
    (s.dev.ph = .standby → s.pwr.kl30Lost = false → s.pwr.rtcArmed = true → s.time.rtc = s.pwr.alarm →
      exec .rtcAlarm s = .next (enterBoot .rtc s)) ∧
    (s.dev.ph = .standby → s.pwr.kl30Lost = false → s.pwr.listening = true →
      (∀ ns : Nat, s.pwr.canWake = 1 → 5000 ≤ ns → exec (.canWake (.dominant ns)) s = .next (enterBoot .can s)) ∧
      (∀ (xtd : Bool) (id : BitVec 29) (dlc : Nat) (data : List Byte), s.pwr.canWake = 2 →
        isWakeFrame s.pwr.wuf xtd id dlc data = true →
        exec (.canWake (.frame xtd id dlc data)) s = .next (enterBoot .can s)) ∧
      (∀ n : Nat, s.pwr.canWake = 2 → 31 < n → exec (.canWake (.errors n)) s = .next (enterBoot .can s)))

/-- R396, R397, R401, R403: a source that has run for its qualification delay is ready and its failure mark clear (REFIN once REFQ was
written); a PLL that misses four reference edges coasts, with F-0802; a source that misses four edges or leaves its window
fails: it is no longer ready, waits for the monitor pair, and hands each PLL on it to that PLL's fallback; the monitor pair records
F-0801 for it, and raises F-0804 where a PLL then runs on RC40; a severe loss raises F-0805 and takes the PLL's lock away, which the loss of a PLL_NET that
stands still is not; with every
bridge IDLE or DISABLED each PLL takes its best reference again. R404, R405: the end of the gate gives the counts and the deviation
and sets DONE; a count above 32 bits sets OVF, and what FM_NIN then holds is a free value, the model's choice (log entry 3); a source
that goes off sets SRC_OFF and ends FREQ_MEASURE with ST_SRC_NOT_READY. -/
def Obligations.ClockSourceRowsAct : Prop :=
  ∀ (s : State),
    (∀ (src : ClkSrc) (us : Nat), s.dev.ph ≠ .off → qualDelay s src ≤ us → (src = .refin → s.clk.refqWritten = true) →
      ∃ t, exec (.sourceReady src us) s = .next t ∧ srcReady t src = true ∧ hasBit t.clk.fail.toNat (srcBit src) = false ∧
        t.machs = s.machs ∧ t.recd = s.recd ∧ t.pins = s.pins ∧ t.safety = s.safety) ∧
    (∀ (pll : Pll) (missing : Nat), isLive s = true → 4 ≤ missing → hasBit s.clk.coast.toNat (pllBit pll) = false →
      exec (.pllCoast pll missing) s =
        .next (note 0x0802 (srcDom 0) [] { s with clk := { s.clk with coast := setPll pll true s.clk.coast } })) ∧
    (∀ (src : ClkSrc) (missing : Nat) (ppm : Int), s.dev.ph ≠ .off → srcReady s src = true →
      4 ≤ missing ∨ srcWindow s src < |ppm| →
      exec (.clockSourceFail src missing ppm) s = .next (fallback src .net (fallback src .pwm (fallback src .sys
        { s with clk := { s.clk with rdy := s.clk.rdy &&& ~~~(BitVec.ofNat 5 (2 ^ srcBit src)),
                                     fail := s.clk.fail ||| BitVec.ofNat 5 (2 ^ srcBit src), nmi := s.clk.nmi ++ [src],
                                     sel := if src = .xo32k then s.clk.sel &&& 0b0111111 else s.clk.sel } })))) ∧
    (∀ src : ClkSrc, monUp s = true → s.clk.nmi.contains src = true →
      let v := note 0x0801 (srcDom 0) [BitVec.ofNat 8 (srcBit src)]
        { s with clk := { s.clk with nmi := s.clk.nmi.filter (· != src) } }
      (onRc40 v = true → exec (.clockFailHandling src) s = .next (raiseFault 0x0804 0 (srcDom 0) .device [] v)) ∧
      (onRc40 v = false → exec (.clockFailHandling src) s = .next v)) ∧
    (∀ kind : SevereKind, s.clk.netStopped = true → exec (.clockLossSevere .net kind) s = .next s) ∧
    (∀ pll : Pll, isLive s = true → pll ≠ .net ∨ s.clk.netStopped = false →
      let v := { s with dev := { s.dev with severe := true }, clk := { s.clk with lock := setPll pll false s.clk.lock } }
      (∀ us : Nat, 100 ≤ us →
        exec (.clockLossSevere pll (.notLocked us)) s = .next (raiseFault 0x0805 0 (srcDom 0) .device [] v)) ∧
      (∀ ppm : Int, pll = .pwm → 50000 < |ppm| →
        exec (.clockLossSevere pll (.outOfRange ppm)) s = .next (raiseFault 0x0805 0 (srcDom 0) .device [] v)) ∧
      (∀ src : ClkSrc, pllSrc s pll = some src → srcReady s src = false →
        exec (.clockLossSevere pll .noFallback) s = .next (raiseFault 0x0805 0 (srcDom 0) .device [] v)) ∧
      (pllSrc s pll = none →
        exec (.clockLossSevere pll .noFallback) s = .next (raiseFault 0x0805 0 (srcDom 0) .device [] v))) ∧
    (isUp s = true → allIdle s (List.range 8) = true →
      let v := restorePll .net (restorePll .pwm (restorePll .sys s))
      exec .clockRestore s = .next { v with dev := { v.dev with severe := v.dev.severe && !refsReady v } }) ∧
    (s.clk.fmBusy = true →
      (∀ nIn : Nat, ∃ t, exec (.freqMeasureDone nIn) s = .next t ∧
        t.clk.fmDone = true ∧ t.clk.fmBusy = false ∧ t.clk.fmTag = none ∧ t.clk.fmNref = s.clk.fmGate ∧
        (nIn < 2 ^ 32 → t.clk.fmNin = BitVec.ofNat 32 nIn ∧ t.clk.fmOvf = s.clk.fmOvf ∧
          t.clk.fmPpm = fmPpmOf nIn s.clk.fmGate.toNat ((fmRefHz s.clk.fmRef.toNat).getD 1) ((fmInHz s s.clk.fmIn.toNat).getD 1)) ∧
        (2 ^ 32 ≤ nIn → t.clk.fmOvf = true)) ∧
      exec .freqMeasureSrcOff s = .next (fmFinish ST_SRC_NOT_READY (detail RS_NONE 0xFF 0)
        { s with clk := { s.clk with fmSrcOff := true, fmBusy := false } }))

/-! ### Rows of the islands, the PWM timers and the control loops -/

/-- R150, R151, R133, R145, R141, R154, R157, R160: a breach seen by an island turns its gate off, by soft turn-off for desaturation
and for VBS too low, and latches its code; the soundpost then acts (latchOff). A desaturation that comes with a breach of the gate
window sets both latches and acts on both in order of their numbers. Soft turn-off ends less than 2.0 V above the off-level or after
10 µs; in the second case the channel counts as on until its gate is seen low (R157). Both sides of a leg commanded on turn both
channels off, the high one first; a refusal already told within the last 20 ticks is told once. -/
def Obligations.IslandLatchRowsAct : Prop :=
  ∀ (s : State),
    (∀ (ch : ChanIx) (senseMv sinceOnNs heldNs : Nat) (now : IslandNow), let c := ch.val
      let v := seeIsland now c s
      islandActs s c = true → (chanAt s c).cmd = true → 100 * sideGate s c 0 1 < senseMv →
      120 ≤ heldNs → 50 * sideGate s c 2 3 + 120 ≤ sinceOnNs →
      exec (.desaturation ch senseMv sinceOnNs heldNs false now) s =
        .next (latchOff (chanCode c 0x0101 0x0102 0x0112) true senseMv now.gateMv c v) ∧
      let a := setLatch (chanCode c 0x0101 0x0102 0x0112) (latchDetail v c senseMv now.gateMv) c (gateDown true c v)
      let b := setLatch (chanCode c 0x0105 0x0105 0x0113) (latchDetail a.2 c senseMv now.gateMv) c a.2
      exec (.desaturation ch senseMv sinceOnNs heldNs true now) s = .next (actLatch (chanCode c 0x0105 0x0105 0x0113) c b.1
        (actLatch (chanCode c 0x0101 0x0102 0x0112) c a.1 b.2))) ∧
    (∀ (ch : ChanIx) (gateMv : Int) (ns : Nat), (chanAt s ch).gate = .softOff →
      gateMv < offLevel s ch + 2000 ∨ 10000 ≤ ns → exec (.softTurnoffEnd ch gateMv ns) s =
        .next (modChan ch (fun x => { x with
          gate := if gateMv < offLevel s ch + 2000 then .off else .falling, gateAt := s.time.dev, clamp := true }) s)) ∧
    (∀ (ch : ChanIx) (mv : Int) (ns : Nat), let c := ch.val
      let v := gateDown false c (modChan c (fun x => { x with uvloOk := false, vbp := mv }) s)
      chanHigh c = false → (chanAt s c).uvloOk = true → mv < 12000 → 1000 ≤ ns →
      (islandActs v c = true →
        exec (.vbpUndervoltage ch mv ns) s = .next (latchOff (chanCode c 0x0103 0x0103 0x0114) false 0 0 c v)) ∧
      (islandActs v c = false → exec (.vbpUndervoltage ch mv ns) s = .next v)) ∧
    (∀ (ch : ChanIx) (mv : Int) (ns : Nat), let c := ch.val
      chanHigh c = false → islandActs s c = true → -1500 < mv → 1000 ≤ ns →
      exec (.vbnOutOfRange ch mv ns) s =
        .next (latchOff (chanCode c 0x0108 0x0108 0x0116) false 0 0 c (modChan c (fun x => { x with vbn := mv }) s))) ∧
    (∀ (leg : Fin 24) (mv : Int) (ns : Nat), let c := highChan leg
      islandActs s c = true → (chanAt s c).operating = true → mv ≤ 13000 → 1000 ≤ ns →
      exec (.vbsUv leg mv ns) s = .next (latchOff 0x0104 true 0 0 c (modChan c (fun x => { x with vbs := mv }) s))) ∧
    (∀ (leg : Fin 24) (ua : Nat) (vbsMv : Int) (ms : Nat), let c := lowChan leg
      islandActs s c = true → (chanAt s c).uvloOk = true → ua < 1000 → vbsMv < 19000 → 10 ≤ ms → mainUp s = true →
      ∃ v, v = latchIsland 0x0109 [0, 0, vbsMv, (chanAt s c).vbp] c s ∧
        exec (.bowFailure leg ua vbsMv ms) s = .next (if mainUp v then markCapoh (legBridge s leg)
          (modBridge (legBridge s leg) (fun br => { br with refreshForce := true, lowOnly := true }) v) else v)) ∧
    (∀ (ch : ChanIx) (sinceNs heldNs : Nat) (now : IslandNow), let c := ch.val
      let v := seeIsland now c s
      let tlto := if chanGate s c 4 = 0 then 0 else 50 * (chanGate s c 5).toNat
      let off := .next (latchOff (chanCode c 0x0105 0x0105 0x0113) ((chanAt s c).gate == .softOff) 0 now.gateMv c v)
      islandActs s c = true → 120 ≤ heldNs →
      ((chanAt s c).cmd = true → now.gateMv < onLevel v c - 2000 → 50 * (chanGate s c 6).toNat < sinceNs →
        exec (.gateMonitorBreach ch true sinceNs heldNs now) s = off) ∧
      ((chanAt s c).cmd = false → offLevel v c + 2000 < now.gateMv → 50 * (chanGate s c 6).toNat + tlto < sinceNs →
        exec (.gateMonitorBreach ch false sinceNs heldNs now) s = off)) ∧
    (∀ ch : ChanIx, ch.val < 48 → islandActs s ch = true → ∀ kind : OverlapKind, overlapMet s ch kind = true →
      (chanAt s ch).refused.any (fun t => decide (s.time.dev < t + 20)) = false →
      (kind ≠ .bothCommanded → exec (.islandOverlapRefusal ch kind) s = .next (latchOff 0x0106 false 0 0 ch s)) ∧
      (kind = .bothCommanded → exec (.islandOverlapRefusal ch kind) s =
        .next (forEach [highChan (ch.val / 2), lowChan (ch.val / 2)]
          (fun i s => if islandActs s i then latchOff 0x0106 false 0 0 i s else s) s))) ∧
    (∀ (aux : Fin 4) (code : U16) (now : IslandNow), [0x0112, 0x0113, 0x0114, 0x0116, 0x0117].contains code.toNat = true →
      islandActs s (48 + aux.val) = true → exec (.auxFaultLatch aux code now) s =
        .next (latchOff code.toNat (code == 0x0112) 0 now.gateMv (48 + aux.val) (seeIsland now (48 + aux.val) s)))

/-- R133, R138, R142, R143, R140, R156, R128: a supply back above its threshold releases the gate or moves the high island to
Operating; a low VBS while Operating is flagged and recorded as F-0110 until it recovers; a high island below 8 V returns to Start; a
Bow load above 0.8 mA is recorded as F-0115; a lost link turns the channel off and takes its island away until it trains again, when
what the island latched in between is told; a lost coupler carrier acts on both channels of the leg, which count as missing until it
trains; temperature sensors that are no longer read forget their values (R380); and the third
handshake missed in a row records F-0120. -/
def Obligations.IslandConditionRowsAct : Prop :=
  ∀ (s : State),
    (∀ (ch : ChanIx) (mv : Int) (ns : Nat), chanHigh ch = false → (chanAt s ch).uvloOk = false → 13000 < mv → 1000 ≤ ns →
      exec (.vbpUvloRelease ch mv ns) s = .next (modChan ch (fun x => { x with uvloOk := true, vbp := mv }) s)) ∧
    (∀ (leg : Fin 24) (mv : Int) (ns : Nat), 1000 ≤ ns → let c := highChan leg
      ((highOf s leg).operating = false → 16500 ≤ mv → exec (.vbsOk leg mv ns) s =
        .next (reselect (legBridge s leg) (modChan c (fun x => { x with operating := true, vbs := mv }) s))) ∧
      (islandActs s c = true → (chanAt s c).operating = true → (chanAt s c).warn = false → mv ≤ 15000 →
        exec (.vbsWarn leg mv ns) s =
          .next (reportIsland 0x0110 c (modChan c (fun x => { x with warn := true, vbs := mv }) s))) ∧
      ((highOf s leg).warn = true → 16500 ≤ mv →
        exec (.vbsWarnClear leg mv ns) s = .next (modChan c (fun x => { x with warn := false, vbs := mv }) s)) ∧
      (let v := gateDown false c (modChan c (fun x => { x with operating := false, vbs := mv }) s)
       let trips := islandActs v c && (stOf v (legBridge s leg) == .armed || stOf v (legBridge s leg) == .running) &&
         !latched (chanAt v c) 0x0104
       (chanAt s c).operating = true → mv < 8000 →
         (trips = true → exec (.highIslandStartReturn leg mv ns) s = .next (latchOff 0x0104 false 0 0 c v)) ∧
         (trips = false → exec (.highIslandStartReturn leg mv ns) s = .next (reselect (legBridge s leg) v)))) ∧
    (∀ (leg : Fin 24) (ua : Nat) (vbsMv : Int), mainUp s = true → islandActs s (lowChan leg) = true → 19500 < vbsMv →
      (ua ≤ 1800 → exec (.bowMeasurement leg ua vbsMv false) s =
        .next (markCapoh (legBridge s leg) (modChan (lowChan leg) (fun x => { x with bowLoad := false }) s))) ∧
      (1800 < ua → exec (.bowMeasurement leg ua vbsMv false) s = .next (reportIsland 0x0115 (lowChan leg)
        (markCapoh (legBridge s leg) (modChan (lowChan leg) (fun x => { x with bowLoad := true }) s))))) ∧
    (∀ (ch : ChanIx) (carrierNs frames : Nat) (bias : Bool), let c := ch.val
      (chanAt s c).powered = true → (chanAt s c).parked = false →
      (let v := modChan c (fun x => { x with present := false, uvloOk := x.uvloOk && bias, operating := x.operating && bias })
         (lossAt c (modChan c (fun x => { x with powered := bias }) s))
       let w := match servedBridge (forgetUnread v) c with
         | some b => reselect b (forgetUnread v)
         | none => forgetUnread v
       (200 ≤ carrierNs → exec (.islandLinkLoss ch .edge carrierNs frames bias) s = .next w) ∧
       (200 ≤ carrierNs ∨ 4 ≤ frames → exec (.islandLinkLoss ch .data carrierNs frames bias) s = .next w)) ∧
      (c < 48 → 200 ≤ carrierNs → let legs := [highChan (c / 2), lowChan (c / 2)]
        let v := forgetUnread (forEach legs lossAt (forEach legs (fun i => modChan i (fun x => { x with couplerLost := true })) s))
        exec (.islandLinkLoss ch .coupler carrierNs frames bias) s = .next (reselect (legBridge v (c / 2)) v))) ∧
    (∀ (ch : ChanIx) (b : Nat), let c := ch.val
      servedBridge s c = some b → isLive s = true → domOn s (8 + b) = true → (chanAt s c).present = false →
      ∀ link : LinkKind, link ≠ .coupler → let v := modChan c (fun x => { x with present := true, powered := true }) s
        exec (.islandLinkTrained ch link) s =
          .next (tellKept c v)) ∧
    (∀ c : Nat, islandThere (chanAt s c) = true →
      tellKept c s = ((chanAt s c).latches.filter (fun l => !l.told)).foldl (fun s l => tellLatch c l s) s) ∧
    (∀ ch : ChanIx, ch.val < 48 → exec (.islandLinkTrained ch .coupler) s =
      .next (forEach [highChan (ch.val / 2), lowChan (ch.val / 2)]
        (fun i s => tellKept i (modChan i (fun x => { x with couplerLost := false }) s)) s)) ∧
    (∀ (ch : ChanIx) (ticks : Nat), isUp s = true ∨ s.dev.ph = .calibrating → (chanAt s ch).present = true → (chanAt s ch).handFail = false →
      40000 ≤ ticks →
      ((chanAt s ch).missed < 2 → exec (.islandHandshakeTimeout ch ticks) s =
        .next (forgetUnread (modChan ch (fun x => { x with missed := (chanAt s ch).missed + 1, handFail := false }) s))) ∧
      ((chanAt s ch).missed = 2 → ∃ v, v = note 0x0120 (srcChan ch) []
          (forgetUnread (modChan ch (fun x => { x with missed := 3, handFail := true }) s)) ∧
        exec (.islandHandshakeTimeout ch ticks) s = .next (match servedBridge v ch with
          | some b => reselect b v
          | none => v)))

/-- R149, R147, R170, R171, R252, R175, R176, R184, R185: each millisecond of precharge may bring a pulse; precharge ends when every
high island operates, or at P_PRE_TMO with F-0111 and ST_TIMEOUT; a period boundary loads the shadows of its bridge; the fourth
missed update raises F-0203; a start locks and matches at a period boundary after the one it became ready in; both requests of a leg
on in one tick hold both sides off, until the requests part, and record F-0201, which too many in 100 ms raise at L3; a due six-step instant toggles its leg;
and a trigger samples. -/
def Obligations.PwmRowsAct : Prop :=
  ∀ (s : State),
    (∀ m : Fin 8, isUp s = true → precharging s m = true →
      (exec (.prechargePulse m) s = .next (forEach (machBridges s m) (fun b v =>
        let br := bridgeAt v b
        if (br.pulseOk && pulsesAllowed s m && decide (br.pulses < bGate v b 0xF2)) = true then
          if (!br.active.indep || br.pulses != 0 && decide (v.time.dev < br.pulseAt + 400000)) = true then v
          else zeroPulse b (modBridge b (fun br => { br with pulses := br.pulses + 1, pulseAt := v.time.dev }) v)
        else modBridge b (fun br => { br with pulseOk := false }) v) s)) ∧
      (allOperating s m = true → exec (.prechargeComplete m) s = .next (endPrecharge m s)) ∧
      (allOperating s m = false → (machAt s m).phStart + bGate s m 0xF1 * 400000 ≤ s.time.dev →
        ∃ v, v = finishMach m ST_TIMEOUT (detail RS_NONE (ixByte m) 0) (note 0x0111 (srcMach m) [] (toIdle m s)) ∧
          exec (.prechargeTimeout m) s = .next (match windingGroup s m with
            | some g => raise0508 g v
            | none => v))) ∧
    (∀ (b : Fin 8) (peak : Bool), timerOn s b = true → boundaryDue s b peak = true →
      exec (.periodBoundary b peak) s = .next (periodBoundary b peak s)) ∧
    (∀ b : Fin 8, timerOn s b = true → 4 ≤ (bridgeAt s b).miss → stOf s b = .running →
      exec (.missedUpdateLimit b) s = .next (raiseFault 0x0203 b (srcBridge b) (.bridge b) [] s)) ∧
    (∀ m : Fin 8, isUp s = true → isStart (machAt s m).ph = true → (machAt s m).ready = true →
      allIn s (machBridges s m) .armed = true → (machAt s m).readyAt < s.time.dev →
      (bridgeAt s (setBridge s m 0)).lastBoundary = some s.time.dev → rectWaits s m = false →
      exec (.lockAndMatch m) s = .next (lockMatch m s)) ∧
    (∀ leg : Fin 24, let b := legBridge s leg
      let k := legPhase s leg
      timerOn s b = true → isActive (stOf s b) = true →
      let u := driveLeg false .none leg s
      let asked := if stOf s b = .running then [] else pulseRequests s b leg
      let v := modBridge b (fun br => { br with
        sched := br.sched ++ asked, xon := recentRefusals u b ++ [u.time.dev], xonLeg := leg.val, held := br.held.set k true,
        reqHigh := br.reqHigh.set k false, reqLow := br.reqLow.set k false,
        onHigh := br.onHigh.set k 0, onLow := br.onLow.set k 0 }) u
      ((bridgeAt v b).xon.length ≤ bPwm v b 0x86 →
        exec (.interlockRefusal leg) s = .next (note 0x0201 (srcBridge b) [ixByte leg] v)) ∧
      (bPwm v b 0x86 < (bridgeAt v b).xon.length → exec (.interlockRefusal leg) s = .next v)) ∧
    (∀ b : Fin 8, timerOn s b = true → isActive (stOf s b) = true → bPwm s b 0x86 < (recentRefusals s b).length →
      (bridgeAt s b).ovr.any (fun o => o.src == .fault 0x0201) = false →
      exec (.refusalLimit b) s =
        .next (raiseAtLeast 3 0x0201 b (srcBridge b) (.bridge b) [ixByte (bridgeAt s b).xonLeg] s)) ∧
    (∀ (leg : Fin 24) (t : Toggle) (ts : List Toggle), let b := legBridge s leg
      let k := legPhase s leg
      (bridgeAt s b).active.toggles.getD k [] = t :: ts → timerOn s b = true → (bridgeAt s b).active.sixstep = true →
      (bridgeAt s b).st = .running → ticksTo s t.time = 0 ∨ 2 ^ 31 < ticksTo s t.time →
      exec (.sixstepToggle leg) s = .next (runToggle b k s)) ∧
    (∀ (b : Fin 8) (obs : TrigObs), obs.codeA.length = 3 → obs.codeB.length = 3 → obs.vph.length = 3 →
      (timerOn s b = true → stOf s b ≠ .disabled → trigUsed s b obs.trig = true → trigDue s b obs.trig = true →
        let n := obs.trig.val
        let v := if n = 0 then trigger0 b obs s else triggerX b n obs s
        exec (.adcTrigger b obs) s = .next (compareEvent 1 b (trigSample v b n).time true (monitorTrigger b n v))) ∧
      (isUp s = true → stOf s b = .disabled → obs.trig = 0 → exec (.adcTrigger b obs) s = .next (sampleGen b obs s)))

/-- R189, R190, R172, R196, R201, R206, R210, R218, R213, R220, R223, R225, R226: a slave takes the correction of its PWM epoch from a
SYNC arrival, and records its loss as F-0204; a running machine whose control period is due runs it, and one that does not run lets the items of a new set act there; a driving one runs its reference
update; torque below its reference is recorded once as F-0211; tracking, x-y and flux breaches that last raise F-0210, F-0212 and
F-0216 once; six-step is entered and left under its conditions; and a float window around a crossing ends. -/
def Obligations.ControlRowsAct : Prop :=
  ∀ (s : State) (m : Fin 8),
    (∀ arrival : Nat, isUp s = true → isSlave s = true → let d := syncDifference s arrival
      exec (.syncPulse arrival) s = .next { s with net := { s.net with
        epochFix := d, syncLost := s.net.syncLost && decide (320 < |d|),
        syncDiff := clampInt (-32768) 32767 (roundDiv (d * 25) 16) } }) ∧
    (∀ periods : Nat, isUp s = true → isSlave s = true → parN s 0x3F02 ≤ periods → s.net.syncLost = false →
      exec (.syncLoss periods) s = .next (note 0x0204 (srcDom 1) [] { s with net := { s.net with syncLost := true } })) ∧
    (∀ obs : CtrlObs, isUp s = true →
      (machRunning s m = true → controlDue s m = true →
        exec (.controlPeriod m obs) s = .next (settleLate m (controlPeriod m obs (countControl m s)))) ∧
      (machRunning s m = false → exec (.controlPeriod m obs) s = .next (settleLate m (restItems (setBridge s m 0) s)))) ∧
    (mainUp s = true → drives s m = true → exec (.referenceUpdate m) s = .next (referenceUpdate m s)) ∧
    (∀ since : Nat, isUp s = true → drives s m = true → (machAt s m).reduced = some since → since + 4000000 < s.time.dev →
      (machAt s m).f0211 = false → exec (.torqueNotReachable m) s =
        .next (raiseFault 0x0211 m (srcMach m) (.machine m) [] (modMach m (fun x => { x with f0211 := true }) s))) ∧
    (isUp s = true → machRunning s m = true →
      (mParN s m 0x29 * 40000 < (machAt s m).trkCnt * ctrlPeriod s m →
        exec (.trackingError m) s = .next (raiseOnce 0x0210 m s)) ∧
      (mParN s m 0x27 * 400000 < (machAt s m).xyCnt * ctrlPeriod s m →
        exec (.xyExcess m) s = .next (raiseOnce 0x0212 m s)) ∧
      (isPmsm s m = false → (machAt s m).fluxOk = false →
        10 * rotorTau s m * 400000000 < ((s.time.dev - (machAt s m).ranAt : Nat) : Rat) →
        exec (.imFluxTimeout m) s = .next (raiseOnce 0x0216 m s))) ∧
    (isUp s = true → drives s m = true → (machAt s m).six = false → sixAllowed s m = true → 16 ≤ (machAt s m).sixIn →
      8 ≤ (machAt s m).sixRamp → sixConds s m = true → allClamped s m = true →
      exec (.sixstepEntry m) s = .next (enterSix m s)) ∧
    (isUp s = true → (machAt s m).six = true →
      16 ≤ (machAt s m).sixOut ∨ sixConds s m = false ∨ sixAllowed s m = false →
      exec (.sixstepExit m) s = .next (leaveSix m s)) ∧
    (∀ (k : Fin 3) (samples : List ZcSample), isUp s = true → crossingsServe s m = true →
      (machAt s m).zcAngle = true ∨ crossingSpeed s m = true →
      exec (.zcWindowEnd m k samples) s = .next (windowEnd m k samples s))

/-! ### Rows of starting, position and sensing -/

/-- R226, R604, R479, R232, R244, R242, R248, R251, R254, R262: too many windows without a crossing end six-step on crossings; an
orderly stop that reached zero torque applies the safe state of each of its causes; a DISARM ramp that did takes the machine to IDLE,
and a RETIRE ramp within half rated torque retires the bridge; diode current for 500 µs in a start raises F-0407; the check time, the
catch window, its extension and each pluck pulse move the start on, unless diode current arrives with them (R247); and an observer out
of its limits for P_OBS_TIME raises F-040A once. -/
def Obligations.StartingRowsAct : Prop :=
  ∀ (s : State) (m : Fin 8), isUp s = true →
    ((machAt s m).six = true → (machAt s m).zcAngle = true → mParN s m 0x36 ≤ (machAt s m).zcMiss →
      exec (.zcMissLimit m) s = .next (leaveCrossings m s)) ∧
    (∀ causes : List (Nat × Nat), (machAt s m).ramp = .stop causes → (machAt s m).tRef = 0 →
      let v := causes.foldl (fun s c =>
        override RS_BRIDGE_STATE false ⟨.fault (BitVec.ofNat 16 c.1), 2, c.2⟩ (machBridges s m) s) s
      exec (.orderlyStopEnd m) s = .next (forEach ([0, 1].filter (abortedWinding v)) raise0508 v)) ∧
    ((machAt s m).ramp = .disarm → (machAt s m).tRef = 0 → let v := toIdle m s
      (allIn v (machBridges v m) .idle = true →
        exec (.disarmRampEnd m) s = .next (forEach (disarmTags v m) (fun t => finish t ST_OK []) v)) ∧
      (allIn v (machBridges v m) .idle = false → exec (.disarmRampEnd m) s = .next v)) ∧
    (∀ b leg : Nat, (machAt s m).ramp = .retire b leg → |(machAt s m).tRef| ≤ 16384 →
      exec (.retireRampEnd m) s = .next (finishOpt (machAt s m).tag ST_OK [bridgeCode .retired] (retireBridge b leg
        (overrideBridge RS_BRIDGE_STATE false ⟨.fault 0, 3, b⟩ b
          (modMach m (fun x => { x with ramp := .none, tag := none, halfLim := false }) s))))) ∧
    (∀ (idc0Mv idc1Mv : Int) (us : Nat), isStart (machAt s m).ph = true → pulsing s m = false → 500 ≤ us →
      rectifying s m idc0Mv idc1Mv = true →
      exec (.rectificationDetect m idc0Mv idc1Mv us) s =
        .next (raiseWhy RS_RECTIFYING 0x0407 m (srcMach m) (.machine m) [] s)) ∧
    ((machAt s m).ph = .checking → (machAt s m).ready = false → rectWaits s m = false →
      (machAt s m).phStart + mParN s m 0x64 * 40000 ≤ s.time.dev →
      exec (.checkTimeEnd m) s = .next (checkEnd m s)) ∧
    (∀ obs : CatchObs, (machAt s m).ph = .catching → (machAt s m).ready = false → rectWaits s m = false →
      exec (.catchWindowEnd m obs) s = .next (windowOver m obs s) ∧
      ((machAt s m).extended = true → (machAt s m).extEnd ≤ s.time.dev →
        (∀ f, (evaluateCatch s m obs).2 = some f → exec (.catchExtensionEnd m obs) s = .next (caught m f s)) ∧
        ((evaluateCatch s m obs).2 = none →
          exec (.catchExtensionEnd m obs) s = .next (failStart m 0x0406 RS_CATCH_FAIL s)))) ∧
    (∀ (p : Pluck) (since : Nat) (obs : PluckObs), (machAt s m).pluck = some p → p.start = some since →
      since + 200 * p.halfUs ≤ s.time.dev → (machAt s m).ph = .plucking → (machAt s m).ready = false → rectWaits s m = false →
      exec (.pluckPulse m obs) s = .next (onePulse m p obs s)) ∧
    (∀ since : Nat, machRunning s m = true → isPmsm s m = true → usesIf s m = false →
      (machAt s m).obs.badSince = some since → since + mParN s m 0x6D * 40000 ≤ s.time.dev →
      exec (.observerInvalid m) s = .next (raiseOnce 0x040A m s))

/-- R277, R273, R279, R280, R282, R283, R274, R276, R272, R270, R287, R288, R290: an accepted change of the quadrature levels counts; a
qualified mark sets or checks the count; an illegal transition holds the count and is recorded as F-0402, and too many in 10 ms declare
the interface faulty; Hall edges set the angle, and an invalid Hall state is counted, recorded as F-0403 and, held for 1 ms, declares
the interface faulty; pairs outside the window, excitation faults and too high a frequency raise F-0401, F-0412 and F-0414; a locked
tracking loop sets both valid flags; an interface whose checks pass for 100 ms starts anew; and speed windows form the speed. -/
def Obligations.PositionRowsAct : Prop :=
  ∀ (s : State) (p : Fin 8), posOn s p = true →
    (∀ (a b : Bool) (held : Nat), qfAccepts s p held = true → (posAt s p).faulty = false →
      exec (.quadEdge p a b held) s = .next (takeLevels p a b s)) ∧
    (posMode s p = 3 ∨ posMode s p = 2 → (posAt s p).faulty = false → bothHigh s p = true →
      exec (.indexMark p) s = .next (takeIndex p s)) ∧
    (∀ (a b : Bool) (held : Nat) (z : Bool), posMode s p = 3 → qfAccepts s p held = true → (posAt s p).levels = some (a, b) →
      ((posAt s p).faulty = false → let v := takeLevels p (!a) (!b) s
        ((z && bothHigh v p) = true → exec (.illegalTransition p held z) s = .next (takeIndex p v)) ∧
        ((z && bothHigh v p) = false → exec (.illegalTransition p held z) s = .next v)) ∧
      ((posAt s p).faulty = true → exec (.illegalTransition p held z) s =
        .next (failCheck p (modPos p (fun x => { x with levels := some (!a, !b) }) s)))) ∧
    (posPar s p 8 < ((recentBad s p).length : Int) →
      (posMode s p = 3 → exec (.illegalEventLimit p) s = .next (declareFaulty 0x0402 p s)) ∧
      (posMode s p = 4 → exec (.illegalEventLimit p) s = .next (declareFaulty 0x0403 p s))) ∧
    (∀ (state : BitVec 3) (heldUs : Nat), hallAccepts s p heldUs = true →
      ((posAt s p).faulty = false → exec (.hallEdge p state heldUs) s = .next (takeHall p state s)) ∧
      ((posAt s p).faulty = true → exec (.hallEdge p state heldUs) s = .next (watchHall p state s)) ∧
      (hallBad s p state = true →
        ((posAt s p).faulty = false → exec (.hallInvalid p state heldUs) s = .next (badHall p state s)) ∧
        ((posAt s p).faulty = true → exec (.hallInvalid p state heldUs) s = .next (watchHall p state s)))) ∧
    (∀ since : Nat, posMode s p = 4 → (posAt s p).hallBadAt = some since → since + 400000 ≤ s.time.dev →
      exec (.hallInvalidHeld p) s = .next (declareFaulty 0x0403 p s)) ∧
    (∀ pairs : List (Int × Int), posMode s p = 1 ∨ posMode s p = 2 →
      exec (.amplitudeWindowFault p pairs) s = .next (pairs.foldl (fun s q => takePair p q s) s)) ∧
    (∀ periods : List (Nat × Nat), posMode s p = 1 →
      exec (.excitationFault p periods) s = .next (periods.foldl (fun s o => takePeriod p o s) s)) ∧
    (posMode s p = 1 ∧ (posPar s p 1 : Rat) < 8 * signalHz s p ∨ posMode s p = 2 ∧ 200000 < signalHz s p →
      ((posAt s p).faulty = false → exec (.inputFrequencyLimit p) s = .next (posFault 0x0414 p (failCheck p s))) ∧
      ((posAt s p).faulty = true → exec (.inputFrequencyLimit p) s = .next (failCheck p s))) ∧
    (∀ phase since : Nat, posMode s p = 1 → (posAt s p).faulty = false → (posAt s p).angleValid = false →
      (posAt s p).track.lockAt = some since → since + 4000000 ≤ s.time.dev →
      exec (.trackingLock p phase) s = .next (modPos p (fun x =>
        { x with speedValid := true, angleValid := true, fwd := true, excPhase := phase % 262144 }) s)) ∧
    ((posAt s p).faulty = true → (posAt s p).hallBadAt = none → (posAt s p).checkAt + 40000000 ≤ s.time.dev →
      (∀ m, posMach s p = some m → machRunning s m = false) → exec (.interfaceRecovery p) s = .next (initPos p s)) ∧
    (let tEnd := (posAt s p).winAt + (posAt s p).winLen
     tEnd ≤ now10 s →
      let v := { s with time := { s.time with free := s.time.free + 1 } }
      let w := if (posAt s p).speedValid = true then passSpeed p (measureSpeed s.time.free p tEnd v) else v
      exec (.speedWindow p) s = .next (modPos p (fun x => { x with
        edges := x.edges.filter (fun e => decide (tEnd < e.2)), track := { x.track with sum := 0, n := 0 },
        winAt := tEnd, winLen := 1000 * (posPar w p 0xB).toNat }) w)) ∧
    ((posAt s p).speedValid = true → posMode s p = 2 ∨ posMode s p = 3 ∨ posMode s p = 4 →
      ((posAt s p).lastEdge.getD (posAt s p).initAt : Int) + 100000 * posPar s p 0xC ≤ now10 s →
      exec (.speedZeroTimeout p) s = .next (passSpeed p (modPos p (fun x => { x with rpm100 := 0, edges := [] }) s)))

/-- R293, R296, R297: with their gates open, a divided output with room shows the oldest count of its queue; the scheduler loads a
pending target; an armed unit fires once its angle has reached or passed the target, and a repeat unit arms again 0x1_0000 away from its target. -/
def Obligations.OutputAndCompareRowsAct : Prop :=
  ∀ (s : State), isUp s = true →
    (∀ (k : Fin 4) (up : Bool) (rest : List Bool), gateOpen s 11 = true → poutValid s k = true → poutIsB s k = false → poutPar s k 3 ≠ 2 →
      poutRoom s k = true → (poutAt s k).queue = up :: rest →
      exec (.dividedOutputEmit k) s = .next (showCount k up (modPout k (fun x => { x with queue := rest, full := false }) s))) ∧
    (∀ (u : Fin 16) (target : Nat) (rep : Bool), gateOpen s 12 = true → (cmpAt s u).pend = some (target, rep) →
      exec (.compareLoad u) s = .next (loadCmp u target rep (fireHit u s))) ∧
    (∀ (u : Fin 16) (forward : Bool) (angle time : Nat), gateOpen s 12 = true → (cmpAt s u).st = .armed → (cmpAt s u).hit = some (forward, angle, time) →
      exec (.compareFire u) s = .next (fireCmp u false forward time angle s)) ∧
    (∀ u : Fin 16, gateOpen s 12 = true → (cmpAt s u).waiting = true → 0x10000 ≤ |angDiff (cmpAngle s u) (cmpAt s u).target| →
      exec (.compareRearm u) s = .next (modCmp u (fun x => { x with waiting := false }) s))

/-- R307, R308, R310, R311, R315, R316, R317: a phase current found out of its window trips its comparator; P_ISUM_CNT current sums out
of their limit raise F-0301 or F-0302 once; a sensor supply or reference out of range for 100 µs raises F-0305 once, until both are in
range; and the link voltage above or below its limits latches F-0501, raises F-0502 or F-0504, and lowers the limits until it is
10 V back. -/
def Obligations.SensingRowsAct : Prop :=
  ∀ (s : State), isUp s = true →
    (∀ (bank : Bank) (input : Fin 24) (mv : Int) (heldNs : Nat), comparatorOn s bank input = true →
      let v := compareInput bank input mv s
      hasBit (bankOf v bank).outside.toNat input = true → filterNs v input ≤ heldNs →
      exec (.windowComparatorTrip bank input mv heldNs) s = .next (tripComparator bank input v)) ∧
    (∀ (b : Fin 8) (m : Nat), bridgeMach s b = some m →
      (domOn s 6 = true → (bridgeAt s b).recalA = false → (bridgeAt s b).sumA = false → bSns s b 4 ≤ (bridgeAt s b).isumA →
        exec (.currentSumViolation .a b) s = .next (raiseFault 0x0301 b (srcBridge b) (.machine m) []
          (modBridge b (fun br => { br with sumA := true }) s))) ∧
      (domOn s 7 = true → (bridgeAt s b).recalB = false → (bridgeAt s b).sumB = false → bSns s b 4 ≤ (bridgeAt s b).isumB →
        exec (.currentSumViolation .b b) s = .next (raiseFault 0x0302 b (srcBridge b) (.machine m) []
          (modBridge b (fun br => { br with sumB := true }) s)))) ∧
    (∀ supplyMv refTenthMv us : Nat, 100 ≤ us →
      let low := decide (supplyMv < 4750)
      let off := decide (refTenthMv < 24875) || decide (25125 < refTenthMv)
      (domOn s 6 = true →
        let v := modBank .a (fun k => { k with supErr := k.supErr || low, refErr := k.refErr || off }) s
        ((low || off) = true → s.dev.supplyA = false → exec (.sensorSupplyFault .a supplyMv refTenthMv us) s =
          .next (raiseFault 0x0305 6 (srcBank .a) .device [] { v with dev := { v.dev with supplyA := true } })) ∧
        ((low || off) = true → s.dev.supplyA = true → exec (.sensorSupplyFault .a supplyMv refTenthMv us) s = .next v) ∧
        ((low || off) = false → exec (.sensorSupplyFault .a supplyMv refTenthMv us) s =
          .next { s with dev := { s.dev with supplyA := false } })) ∧
      (domOn s 7 = true →
        let v := modBank .b (fun k => { k with supErr := k.supErr || low, refErr := k.refErr || off }) s
        ((low || off) = true → s.dev.supplyB = false → exec (.sensorSupplyFault .b supplyMv refTenthMv us) s =
          .next (raiseFault 0x0305 7 (srcBank .b) .device [] { v with dev := { v.dev with supplyB := true } })) ∧
        ((low || off) = true → s.dev.supplyB = true → exec (.sensorSupplyFault .b supplyMv refTenthMv us) s = .next v) ∧
        ((low || off) = false → exec (.sensorSupplyFault .b supplyMv refTenthMv us) s =
          .next { s with dev := { s.dev with supplyB := false } }))) ∧
    (∀ (b : Fin 8) (mv : Int) (heldNs : Nat), islandActs s (lowChan (bridgeLeg s b 0)) = true →
      (lgPar s (lgOf s b) 3 : Int) * 1000 < mv → 500 ≤ heldNs →
      exec (.ovTrip b mv heldNs) s = .next (latchIsland 0x0501 [mv] (lowChan (bridgeLeg s b 0)) s)) ∧
    (∀ (g : Fin 2) (us : Nat), mainUp s = true → 10 ≤ us →
      ((lgAt s g).ovWarn = false → vlgAbove s g (lgPar s g 2) = true → exec (.ovWarn g us) s =
        .next (raiseFault 0x0502 g (srcLg g) (.linkGroup g) [] (modLg g (fun x => { x with ovWarn := true }) s))) ∧
      ((lgAt s g).ovWarn = true → vlgBelow s g ((lgPar s g 2 : Int) - 10) = true →
        exec (.ovWarn g us) s = .next (modLg g (fun x => { x with ovWarn := false }) s)) ∧
      ((lgAt s g).uvLim = false → lgPar s g 4 ≠ 0 → vlgBelow s g (lgPar s g 4) = true → exec (.uvLimit g us) s =
        .next (raiseFault 0x0504 g (srcLg g) (.linkGroup g) [] (modLg g (fun x => { x with uvLim := true }) s))) ∧
      ((lgAt s g).uvLim = true → lgPar s g 4 = 0 ∨ vlgAbove s g ((lgPar s g 4 : Int) + 10) = true →
        exec (.uvLimit g us) s = .next (modLg g (fun x => { x with uvLim := false }) s)))

/-! ### Rows of the DC link, the safety paths and the temperature model -/

/-- R313, R319, R321, R322, R323, R325, R327, R328, R329: V_LG is the median of the readings, and without any it is lost; the chopper
goes on at V_CH_ON and off at V_CH_OFF after two samples; a chopper that carries no current, or carries some while off, raises F-0503
or F-0505, and its energy near the limit F-0506; a waiting discharge begins, ends below 50 V for 10 ms, is refused as F-0507 with a
breached supervision, and too slow raises F-0508. -/
def Obligations.LinkRowsAct : Prop :=
  ∀ (s : State) (g : Fin 2),
    (∀ readings : List (Option Int), readings.length = 8 → isUp s = true → domOn s 3 = true →
      let u := heatResistor g s
      let val := fun (b : Nat) => if givesReading u b then readings.getD b none else none
      let v := forEach (lgBridges u g) (fun b => modBridge b (fun br => { br with vdc := val b })) u
      let vs := ((lgBridges u g).filterMap val).foldl (fun l v => insertSorted v l) []
      (vs = [] → exec (.linkVoltageFormation g readings) s = .next (loseReadings g v)) ∧
      (vs.length = 1 → exec (.linkVoltageFormation g readings) s = .next (formVlg g vs v)) ∧
      (∀ a b, vs = [a, b] → exec (.linkVoltageFormation g readings) s = .next (markPair g a b (formVlg g vs v))) ∧
      (3 ≤ vs.length → exec (.linkVoltageFormation g readings) s = .next (forEach (lgBridges u g)
        (fun b => markOpt (vs.getD (vs.length / 2) 0) (val b) b) (formVlg g vs v)))) ∧
    (chopHeld s g = true →
      (chopperAvailable s g = true → (lgAt s g).chopOn = false → 2 ≤ (lgAt s g).onRun →
        exec (.chopperOn g) s = .next (setChopper g true s)) ∧
      (isUp s = true → (lgAt s g).chopOn = true → 2 ≤ (lgAt s g).offRun →
        exec (.chopperOff g) s = .next (setChopper g false s))) ∧
    (∀ ifbMv : Int, chopSupervised s g = true →
      ((lgAt s g).chopLock = false → ((lgAt s g).chopOn = true ∧ belowHalf s g (lgAt s g).chopAt (chopOhms s g) ifbMv = true) ∨
          auxLatched s (2 * g.val) = true →
        exec (.chopperUnavailable g ifbMv) s = .next (raiseFault 0x0503 g (srcLg g) (.linkGroup g) []
          (modLg g (fun x => { x with chopLock := true }) (setChopper g false s)))) ∧
      ((lgAt s g).chopOn = false → aboveTenth s g (lgAt s g).chopAt (chopOhms s g) ifbMv = true →
        exec (.chopperUncommanded g ifbMv) s = .next (raiseFault 0x0505 g (srcLg g) (.linkGroup g) []
          (modLg g (fun x => { x with conducts := true }) s))) ∧
      ((lgAt s g).chopOn = false → aboveTenth s g (lgAt s g).chopAt (chopOhms s g) ifbMv = false →
        exec (.chopperUncommanded g ifbMv) s = .next (modLg g (fun x => { x with conducts := false }) s))) ∧
    (chopSupervised s g = true → let u := heatResistor g s
      (9 / 10 * (lgPar u g 8 : Rat) < (lgAt u g).energy →
        ((lgAt u g).energyFlag = false → exec (.chopperEnergyLimit g) s = .next (raiseFault 0x0506 g (srcLg g) (.linkGroup g) []
          (modLg g (fun x => { x with energyFlag := true }) u))) ∧
        ((lgAt u g).energyFlag = true →
          exec (.chopperEnergyLimit g) s = .next (modLg g (fun x => { x with energyFlag := true }) u))) ∧
      ((lgAt u g).energy ≤ 9 / 10 * (lgPar u g 8 : Rat) →
        exec (.chopperEnergyLimit g) s = .next (modLg g (fun x => { x with energyFlag := false }) u))) ∧
    (monUp s = true → (lgAt s g).autoWait = true → lgPar s g 0xD = 1 → dischargeRefusal s g = none →
      exec (.dischargeAutoStart g) s = .next (beginDischarge g none s)) ∧
    (∀ since : Nat, (lgAt s g).lowAt = some since → since + 4000000 ≤ s.time.dev →
      (isUp s = true ∨ startHalted s = true → domOn s 3 = true → exec (.dischargeEnd g) s = .next (endDischarge g s)) ∧
      (∀ m : Fin 8, isUp s = true → windingGroup s m = some g.val → exec (.windingDischargeEnd m) s = .next (endDischarge g s))) ∧
    (∀ ifbMv : Int, isUp s = true → domOn s 3 = true →
      ((lgAt s g).disOn = true ∧ belowHalf s g (lgAt s g).disAt (disOhms s g) ifbMv = true) ∨
        auxLatched s (2 * g.val + 1) = true ∨
        ((lgAt s g).disOn = false ∧ aboveTenth s g (lgAt s g).disAt (disOhms s g) ifbMv = true) →
      ∃ v, v = raiseFault 0x0507 g (srcLg g) (.linkGroup g) [] (setDischarge g false s) ∧
        (∀ d, (lgAt v g).dis = some d → d.winding = none → lgPar v g 0xE = 1 →
          exec (.dischargeSwitchFault g ifbMv) s = .next (tryWinding g 0 v)) ∧
        ((lgAt v g).dis = none → exec (.dischargeSwitchFault g ifbMv) s = .next v)) ∧
    (∀ m : Fin 8, windingGroup s m = some g.val → isUp s = true → linkEmpty s g = false → creeping s m = false →
      exec (.windingDischargeEnd m) s = .next (raise0508 g (toIdle m s))) ∧
    (∀ d : Discharge, isUp s = true ∨ startHalted s = true → domOn s 3 = true → (lgAt s g).dis = some d →
      d.start + lgPar s g 0xC * 400000 ≤ s.time.dev → vlgBelow s g 60 = false →
      exec (.dischargeTimeout g) s = .next (raise0508 g s))

/-- R330, R334, R345, R343, R346, R347, R364, R365: the monitor pair writes the FAST inputs from the speeds; an active short that is
not available raises F-0620; a comparator mismatch or a failed checker raises F-0601, F-0602 or F-0604 and halts the pair; each
injection moves on to the next bit; a pair that passes the injection test runs again, and one that fails raises F-0605; a torque
window is judged; and a heartbeat is accepted with its number and answer, while a missing one raises F-0640, or F-0641 with the
contactor supply cut. The next challenge is a free value (log entry 3). -/
def Obligations.MonitorRowsAct : Prop :=
  ∀ (s : State),
    (∀ speeds : List SpeedSeen, speeds.length = 8 → monUp s = true → s.safety.fastWin < s.time.dev / 40000 →
      exec (.fastWrite speeds) s = .next (forEach (machines s)
        (fun m v => writeFast m (monitorSpeed v m (speeds.getD m default)) v)
        { s with safety := { s.safety with fastWin := s.time.dev / 40000 } })) ∧
    (∀ b : Fin 8, monUp s = true → isHeld (bridgeAt s b) = true → shortStill s b = true → (bridgeAt s b).shortRaised = false →
      exec (.activeShortUnavailable b) s = .next (raiseFault 0x0620 b (srcBridge b) (.bridge b) []
        (modBridge b (fun br => { br with shortRaised := true }) s))) ∧
    (∀ group : Fin 8,
      (compared s .main = true → exec (.lockstepMismatch .main group false) s = .next (lockstepFault 0x0601 .main s)) ∧
      (compared s .mon = true → exec (.lockstepMismatch .mon group false) s = .next (lockstepFault 0x0602 .mon s))) ∧
    (∀ (pair : Pair) (code : Bool), compared s pair = true →
      exec (.checkerFailure pair code) s = .next (lockstepFault 0x0604 pair s)) ∧
    (∀ pair : Pair, compared s pair = true → (pairState s (pairIx pair)).injAt ≤ s.time.dev → ∃ v, v = modPair pair (fun x =>
        if x.injGroup = 7 then { x with injAt := x.injAt + injPeriod, injGroup := 0, injBit := (x.injBit + 1) % 64 }
        else { x with injAt := x.injAt + injPeriod, injGroup := x.injGroup + 1 }) s ∧
      exec (.runtimeInjection pair true) s = .next v ∧
      exec (.runtimeInjection pair false) s = .next (lockstepFault 0x0604 pair v)) ∧
    (∀ (pair : Pair) (inj : Nat) (clean : Bool), isUp s = true → (pairState s (pairIx pair)).halted = true →
      let v := modPair pair (fun x =>
        { x with halted := false, testOk := true, injGroup := 0, injBit := 0, injAt := s.time.dev + injPeriod }) s
      (injPasses inj clean = true → pair = .main → exec (.pairRestartDone pair inj clean) s = .next v) ∧
      (injPasses inj clean = true → pair = .mon → exec (.pairRestartDone pair inj clean) s =
        .next (monRestarted { v with safety := { v.safety with monRestart := false } })) ∧
      (injPasses inj clean = false → exec (.pairRestartDone pair inj clean) s =
        .next (raiseFault 0x0605 (pairIx pair) (srcDom (2 + pairIx pair)) .device []
          { s with safety := { s.safety with injBad := true } }))) ∧
    (∀ m : Fin 8, monUp s = true → machExists s m = true → windowDue s m = true →
      exec (.torqueMonitorWindow m) s = .next (monitorWindow m s)) ∧
    (∀ h : Heart, isUp s = true → beats s h = true → let x := heartState s h
      ∃ t, exec (.heartbeat h (x.seq + 1) (Config.dieAnswer x.challenge)) s = .next t ∧
        (heartState t h).seq = x.seq + 1 ∧ (heartState t h).suspended = false ∧
        (heartState t h).good = min 3 (x.good + 1) ∧
        ((heartState t h).missed = true ↔ x.missed = true ∧ min 3 (x.good + 1) < 3)) ∧
    (∀ ticks : Nat, isUp s = true →
      (s.safety.main.missed = false → s.safety.main.suspended = false → 30000 ≤ ticks →
        exec (.heartbeatMissed .main ticks) s = .next (raiseFault 0x0640 0 (srcDom 2) .device []
          (modPair .main (fun x => { x with missed := true, good := 0 }) s))) ∧
      (s.dev.split = true → s.safety.main2.missed = false → s.safety.main2.suspended = false → 30000 ≤ ticks →
        exec (.heartbeatMissed .main2 ticks) s = .next (raiseFault 0x0640 0 (srcDom 2) .device []
          (modHeart .main2 (fun x => { x with missed := true, good := 0 }) s))) ∧
      (s.safety.mon.missed = false → s.safety.mon.suspended = false → 30000 ≤ ticks →
        let v := modPair .mon (fun x => { x with missed := true, good := 0 }) s
        let w := forEach (List.range 4) (commandCtd false) { v with safety := { v.safety with ctdCut := true } }
        (mainUp w = true → exec (.heartbeatMissed .mon ticks) s = .next (raiseFault 0x0641 1 (srcDom 3) .device [] w)) ∧
        (mainUp w = false → exec (.heartbeatMissed .mon ticks) s =
          .next (override RS_BRIDGE_STATE false ⟨.fault 0x0641, 4, 1⟩ (List.range 8)
            { w with safety := { w.safety with wait641 := true } }))))

/-- R367, R368, R360, R361: a supply out of its window for 2 µs raises F-0642 once; below its lower limit for 1 ms it holds the
domains in reset until every one that was low is back for 10 ms; a die check that fails raises F-0643; a contactor driver goes to its economiser duty
after P_CT_PULL; and feedback that does not match within P_CFB_TIME raises F-0607 and ends the CONTACTOR_SET with ST_TIMEOUT. -/
def Obligations.DieAndContactorRowsAct : Prop :=
  ∀ (s : State),
    (∀ (sup : Supply) (mv ticks : Nat), isLive s = true → let set := fun (v : Bool) =>
        { s with safety := { s.safety with supBad := s.safety.supBad.set (supplyIx sup) v } }
      (supplyInside s sup mv = true → exec (.supplyOutOfWindow sup mv ticks) s = .next (set false)) ∧
      (supplyInside s sup mv = false → 20 ≤ ticks → s.safety.supBad.getD (supplyIx sup) false = false →
        exec (.supplyOutOfWindow sup mv ticks) s =
          .next (raiseFault 0x0642 (supplyIx sup) (srcDom 1) .device [] (markFreeze 5 (set true))))) ∧
    (∀ (sup : Supply) (mv us : Nat), isLive s = true → ((mv : Rat) < (supplyWindow s sup).1) → 1000 ≤ us →
      ∃ t, exec (.supplyLowReset sup mv us) s = .next t ∧ t.dev.ph = .boot ∧ t.dev.bootCause = none ∧ t.safety.held = true) ∧
    (∀ (sup : Supply) (mv us : Nat), s.safety.held = true → s.safety.supLow.getD (supplyIx sup) false = true →
      supplyInside s sup mv = true → 10000 ≤ us →
      let low := s.safety.supLow.set (supplyIx sup) false
      let v := { s with safety := { s.safety with supLow := low, supBad := s.safety.supBad.set (supplyIx sup) false } }
      (true ∈ low → exec (.supplyResetRelease sup mv us) s = .next v) ∧
      (true ∉ low → exec (.supplyResetRelease sup mv us) s = .next { v with
        safety := { v.safety with held := false }, dev := { s.dev with bootCause := some .restart } })) ∧
    (∀ (answerOk : Bool) (ticks : Nat), monUp s = true →
      (answerOk = true → 950000 ≤ ticks → ticks ≤ 1050000 →
        exec (.dieCheck answerOk ticks) s = .next { s with safety := { s.safety with dieBad := false } }) ∧
      (answerOk = false ∨ ticks < 950000 ∨ 1050000 < ticks → exec (.dieCheck answerOk ticks) s =
        .next (raiseFault 0x0643 0 (srcDom 3) .device [] { s with safety := { s.safety with dieBad := true } }))) ∧
    (∀ n : Fin 4, monUp s = true → (ctdAt s n).closed = true → (ctdAt s n).econ = false →
      (ctdAt s n).since + ctPar s n 3 * 400000 ≤ s.time.dev → ctPar s n 4 ≠ 100 → exec (.contactorPullInEnd n) s = .next (modCtd n (fun c => { c with econ := true }) s)) ∧
    (∀ (n : Fin 4) (cfb : BitVec 6) (ms : Nat), monUp s = true → let v := { s with pins := { s.pins with cfb := cfb } }
      feedbackAll v cfb n (ctdAt v n).closed = false → cfbTime v ≤ ms →
      ∃ w, w = raiseFault 0x0607 n (srcDom 3) (ctdScope (modCtd n (fun c => { c with checking := false, tag := none }) v) n)
          [BitVec.ofNat 8 n.val] (modCtd n (fun c => { c with checking := false, tag := none }) v) ∧
        (∀ t, (ctdAt v n).tag = some t → exec (.contactorFeedbackFail n cfb ms) s =
          .next (refuse t ST_TIMEOUT RS_NONE (ixByte n) 0 (dropContactorTag t w))) ∧
        ((ctdAt v n).tag = none → exec (.contactorFeedbackFail n cfb ms) s = .next w))

/-- R379, R384, R390, R392, R394: the readings of a sweep, the first under the thermal items of a new set, are taken, cross-checked and, each with a value, judged, and the temperature cap
follows; the learned offset moves a tenth of the deviation per P_TO_TAU; the monitor pair repeats the trip rule on its own readings; the compensation takes
the present temperatures and checks the references, and one that comes late is recorded as F-0711 once. -/
def Obligations.TemperatureRowsAct : Prop :=
  ∀ (s : State),
    (∀ readings : List (Fin 104 × Reading), mainUp s = true →
      let u := forgetUnread { s with dev := { s.dev with oldThermal := none } }
      let l := measuredNow u readings
      exec (.tempMeasurement readings) s = .next (updateCap (forEach l (settleSensor u) (forEach l (crossCheck u readings)
        (forEach l (fun i => takeReading i (readingOf readings i)) u))))) ∧
    (∀ (i : Fin 104) (m : Rat), mainUp s = true → sensorRead s i = true → (tempAt s i).read = true →
      (tempAt s i).invalid = false → (tempAt s i).suspect = false → periodOver s (tempAt s i).learnAt slowPeriod = true →
      neighbourMedian s s i = some m →
      let dev : Rat := ((tempAt s i).reading : Rat) - (m + (tempAt s i).offset)
      exec (.offsetLearn i) s = .next (modTemp i (fun x => { x with
        learnAt := some s.time.dev, dev := dev,
        offset := clampRat ((thermParN s 0x9F00 * 5 : Nat) : Rat)
          ((tempAt s i).offset + dev * (1 / 10) / (thermParN s 0x9F01 : Nat)) }) s)) ∧
    (∀ (i : Fin 104) (r : Reading) (t : Rat), monUp s = true → sensorRead s i = true →
      periodOver s (tempAt s i).monAt slowPeriod = true →
      let v := modTemp i (fun x => { x with monAt := some s.time.dev, own := validReading s i r }) s
      readsBelow v i r = false → monitorValue v i = some t → (tTrip v i : Rat) ≤ t →
      exec (.monitorTripCheck i r) s = .next (forEach (sensorMachines v i) (raiseTrip i) v)) ∧
    (∀ gapA refA gapB refB : Int, mainUp s = true → periodOver s s.dev.compAt slowPeriod = true →
      exec (.tempCompensation gapA refA gapB refB) s =
        .next (refCheck .b gapB refB (refCheck .a gapA refA (compensate s)))) ∧
    (∀ at_ : Nat, isUp s = true → s.dev.compAt = some at_ → at_ + 3 * slowPeriod < s.time.dev → s.dev.compTold = false →
      exec .tempCompensationLate s =
        .next (note 0x0711 (srcTemp 0) [] { s with dev := { s.dev with compTold := true } }))

/-! ### Rows of the protocol, the networks, the recorder and the updates -/

/-- R446, R447, R439, R442, R459: a packet too short or of another version is counted and discarded; one whose lengths disagree is
answered ST_BAD_LENGTH, and the others meet the remaining checks of Table 13.3; a datagram on the device's port is taken as a packet,
and on a slave's forwarded by the master; a fragment joins the datagram it belongs to; a CAN segment joins its reassembly, which a gap
ends; and a setpoint frame whose tag is right is copied for the monitor pair, and acts where its session accepts it. -/
def Obligations.ArrivalRowsAct : Prop :=
  ∀ (s : State),
    (∀ (port : Port) (bytes padding : List Byte), receives s port = true →
      (bytes.length < 24 ∨ bytes.getD 0 0 ≠ 0x02 → exec (.packetArrival port bytes padding) s = .next (discardPacket s)) ∧
      (24 ≤ bytes.length → bytes.getD 0 0 = 0x02 → hasBit (field bytes 1 1) 0 = false →
        (4096 < field bytes 6 2 ∨ bytes.length ≠ packetLength bytes ∨ paddingOk port padding = false →
          exec (.packetArrival port bytes padding) s = .next (bounce (parseHdr port bytes) (field bytes 2 2) ST_BAD_LENGTH s)) ∧
        (field bytes 6 2 ≤ 4096 → bytes.length = packetLength bytes → paddingOk port padding = true →
          field bytes 1 1 / 16 = 0 → exec (.packetArrival port bytes padding) s =
            .next (checkRequest (parseHdr port bytes) (field bytes 2 2) bytes s)))) ∧
    (∀ (eth : Fin 3) (vlan : U16) (payload : List Byte) (srcAddr : U32) (srcPort : U16), receives s (ethPort eth) = true →
      vlan.toNat = netPar s 0x27 →
      let v := { s with net := { s.net with eth := s.net.eth.modify eth (fun e => { e with rx := e.rx + 1 }) } }
      let origin := [BitVec.ofNat 8 eth.val, 0] ++ beBytes 2 srcPort.toNat ++ beBytes 4 srcAddr.toNat
      exec (.udpDatagram eth 48160 vlan (.whole payload) srcAddr srcPort) s = .next (ownDatagram eth origin payload v) ∧
      (deviceIndex v = 0 → exec (.udpDatagram eth 48161 vlan (.whole payload) srcAddr srcPort) s =
        .next (forwardTo 1 origin payload v)) ∧
      (∀ (dstPort ident : U16) (offset : Nat) (more : Bool),
        exec (.udpDatagram eth dstPort vlan (.fragment ident offset more payload) srcAddr srcPort) s =
          .next (takeFragment eth srcAddr ident offset more payload s))) ∧
    (∀ (can dev : Fin 4) (frame : List Byte), oldestFrame can true dev s = some frame → receives s (canPort can) = true →
      servesIndex s dev = true → let v := readBuffer can true dev s
      (frame ≠ [] → exec (.canSegment can dev) s = .next (takeSegment can dev frame v)) ∧
      (frame = [] → exec (.canSegment can dev) s = .next v)) ∧
    (∀ (can dev : Fin 4) (r : Reasm), served s = true → s.proto.reasm.getD (4 * can.val + dev.val) none = some r →
      r.last + netPar s 0x42 * 40000 < s.time.dev →
      exec (.segmentGapTimeout can dev) s = .next (noteLimited 0x0903 (srcNet (3 + can)) (s.time.dev + 40000000)
        (modCan can (fun c => { c with disc := c.disc + 1 })
          { s with proto := { s.proto with reasm := s.proto.reasm.set (4 * can.val + dev.val) none } }))) ∧
    (∀ (bytes : List Byte) (k : Session), bytes.length = 64 → bytes.getD 0 0 = 0x12 → sessAt s (field bytes 1 1) = some k →
      let judged := fun (port : Port) (v : State) =>
        if gateOpen v 0 = false then rejectFrame port v
        else let w := if frameMacOk k bytes then copyEntries bytes v else v
          if frameAccepted k bytes then acceptFrame port (field bytes 1 1) bytes w else rejectFrame port w
      (∀ eth : Fin 3, receives s (ethPort eth) = true →
        exec (.fastSetpointFrame (.udp eth bytes)) s = .next (judged (ethPort eth) s)) ∧
      (receives s .ring = true → exec (.fastSetpointFrame (.ring bytes)) s = .next (judged .ring s)) ∧
      (∀ n : Fin 4, receives s (canPort n) = true → oldestFrame n false (deviceIndex s) s = some bytes →
        exec (.fastSetpointFrame (.can n)) s = .next (judged (canPort n) (readBuffer n false (deviceIndex s) s))))

/-- R456, R452, R448, R462, R474, R506: the main pair takes the next request, urgent ones first; a context past its deadline answers
ST_TIMEOUT and a LONG one runs its opcode's abort, one that a closed session left under the tag too; a session idle for P_SESS_IDLE closes; a machine without setpoints for its timeout
raises F-0902, also while only one of its bridges takes references; a nonce ends 60 s after its issue; and a state frame goes out once a
period in the latest setpoint session. -/
def Obligations.ContextAndSessionRowsAct : Prop :=
  ∀ (s : State),
    (served s = true → dispatches s = true →
      (∀ q rest, s.proto.urgentQ = q :: rest →
        exec .dispatch s = .next (runEntry q { s with proto := { s.proto with urgentQ := rest } })) ∧
      (∀ q rest, s.proto.urgentQ = [] → s.proto.normalQ = q :: rest →
        exec .dispatch s = .next (runEntry q { s with proto := { s.proto with normalQ := rest } }))) ∧
    (∀ tag : Fin 128, (ctxAt s tag).deadline ≤ s.time.dev → (∀ c ∈ s.proto.left, c.hdr.tag.toNat ≠ tag.val) →
      s.proto.ctx.length = 128 →
      ∃ v, v = finish tag ST_TIMEOUT (detail RS_NONE 0xFF 0) { s with proto := { s.proto with
          urgentQ := s.proto.urgentQ.filter (· != tag.val),
          normalQ := s.proto.normalQ.filter (· != tag.val) } } ∧
        ((ctxAt s tag).st = .short → exec (.contextDeadline tag) s = .next v) ∧
        ((ctxAt s tag).st = .long →
          exec (.contextDeadline tag) s = .next (retag tag none (abortOp tag (ctxAt s tag) v)))) ∧
    (∀ (tag : Fin 128) (c : Ctx), s.proto.left = [c] → c.hdr.tag.toNat = tag.val → s.proto.ctx.length = 128 →
      (ctxAt s tag).st = .free ∨ (ctxAt s tag).st = .done → c.st = .short ∨ c.st = .long → c.deadline ≤ s.time.dev →
      exec (.contextDeadline tag) s = .next (expireContext 128 s)) ∧
    (∀ (sid : Fin 8) (k : Session), sessAt s (sid.val + 1) = some k →
      (netPar s 0x43 ≠ 0 → k.last + netPar s 0x43 * 400000000 ≤ s.time.dev →
        exec (.sessionIdleTimeout sid) s = .next (closeSession (sid.val + 1) s)) ∧
      (∀ (n : BitVec 128) (issued : Nat), k.nonce = some (n, issued) → issued + 24000000000 ≤ s.time.dev →
        exec (.nonceExpiry sid) s = .next (modSess (sid.val + 1) (fun k => { k with nonce := none }) s))) ∧
    (∀ m : Fin 8, isUp s = true → (machAt s m).bound.isSome = true → (machAt s m).timedOut = false →
      (machBridges s m).any (fun b => stOf s b == .armed || stOf s b == .running) = true →
      (machAt s m).spLast + netPar s 0x41 * netPar s 0x40 * 40000 ≤ s.time.dev →
      exec (.setpointTimeout m) s =
        .next (raiseFault 0x0902 m (srcMach m) (.machine m) [] (modMach m (fun x => { x with timedOut := true }) s))) ∧
    (∀ (i : Nat) (p : Port) (origin : List Byte) (k : Session), served s = true → netPar s 0x2B ≠ 0 →
      periodOver s s.net.stAt (netPar s 0x2B * 40000) = true → s.proto.spSrc = some (i, p, origin) → sessAt s i = some k →
      exec .stateFrame s = .next (sendState i p origin k { s with net := { s.net with stAt := some s.time.dev } }))

/-- R499, R504, R501, R507, R513, R439, R510: an FD frame for the device is stored, a classical one on an identifier of VEXFI counted, and
a remote one or one that raises a protocol exception ignored; bus-off is recorded as
F-0910 and left after 128 occurrences; a state frame that fails marks its flag and is recorded as F-0914; a port's link that drops is
recorded as F-0911 until it comes up again; datagrams whose fragments are not complete in 10 ms are dropped and counted; and ARP and, ten times a second, ICMP echo
are answered. -/
def Obligations.BusRowsAct : Prop :=
  ∀ (s : State),
    (∀ (can : Fin 4) (id : BitVec 29) (form : CanForm) (data : List Byte),
      (form.remote = true ∨ form.res = true → exec (.canFrameReceive can id form data) s = .next s) ∧
      (receives s (canPort can) = true → form.remote = false → form.res = false →
        (∀ (request : Bool) (d : Nat), form.fd = true → vexfiIndex s can form.xtd id.toNat = some (request, d) →
          exec (.canFrameReceive can id form data) s = .next (takeFrame can request d id.toNat data s)) ∧
        (form.fd = false → onVexfi s can form.xtd id.toNat = true → exec (.canFrameReceive can id form data) s =
          .next (modCan can (fun c => { c with classic := c.classic + 1 }) s)))) ∧
    (∀ can : Fin 4, canRuns s can = true →
      exec (.canBusOff can) s = .next (note 0x0910 (srcNet (3 + can)) [] (dropCan can (modCan can (fun c =>
        { c with busOff := true, passive := true, busOffCnt := c.busOffCnt + 1, seg := List.replicate 4 0, shot := none }) s))) ∧
      ((canAt s can).shot.isSome = true →
        exec (.oneShotFail can true) s = .next (noteLimited 0x0914 (srcNet (3 + can)) (s.time.dev + 40000000)
          (modCan can (fun c => { c with shot := none, lostArb := true }) s)) ∧
        exec (.oneShotFail can false) s = .next (noteLimited 0x0914 (srcNet (3 + can)) (s.time.dev + 40000000)
          (modCan can (fun c => { c with shot := none, txErr := true }) s)))) ∧
    (∀ (can : Fin 4) (occurrences : Nat), served s = true → (canAt s can).busOff = true → 128 ≤ occurrences →
      exec (.canBusOffRecovery can occurrences) s =
        .next (modCan can (fun c => { c with busOff := false, passive := false, recv := 0, tec := 0 }) s)) ∧
    (∀ p : Fin 3, ethOn s p = true →
      exec (.ethLinkUp p) s = .next (modEth p (fun e => { e with link := true }) s) ∧
      (∀ ms : Nat, 10 ≤ ms →
        let late := fun (f : FragSet) => f.eth == p.val && decide (f.since + ms * 400000 ≤ s.time.dev)
        exec (.ipv4ReassemblyTimeout p ms) s = .next { s with net := { s.net with
          frags := s.net.frags.filter (fun f => !late f)
          eth := s.net.eth.modify p (fun e => { e with disc := e.disc + (s.net.frags.filter late).length }) } }) ∧
      (portLost s (ethPort p) = false →
        exec (.ethLinkDown p) s =
          .next (note 0x0911 (srcNet p) [ixByte p] (modEth p (fun e => { e with link := false, down := e.down + 1 }) s)) ∧
        ∀ addr : U32, addr.toNat = netPar s 0x24 →
          exec (.arpRequest p addr) s = .next (emit (.arp p addr) s) ∧
          (let win := s.time.dev / 400000000
           let n := if s.net.icmpWin = win then s.net.icmpCnt else 0
           (n < 10 → exec (.icmpEchoRequest p addr) s =
             .next (emit (.icmp p) { s with net := { s.net with icmpWin := win, icmpCnt := n + 1 } })) ∧
           (10 ≤ n → exec (.icmpEchoRequest p addr) s = .next s))))

/-- R514, R515, R516: a Sync message sets the offset, and corrects the device time of all but a slave; its loss is recorded as F-0912;
a cycle of the gate list starts at a multiple of its length. R520, R522, R524, R526, R529, R530, R532: a device of the ring passes
frames on and hears them, sends FAULT, TIME, LINK and DELAY_REQ frames once in their periods (FAULT also while FROZEN), takes a failed port down with F-0B01 and up again, and
declares a silent device lost with F-0B04, or its master with F-0B03. A byte that the spec does not give in a LINK or DELAY_REQ frame
is a free value (log entry 3). -/
def Obligations.TimeAndRingRowsAct : Prop :=
  ∀ (s : State),
    (served s = true → netPar s 0x29 = 1 →
      (∀ offset : Int, ∃ v, v = { s with net := { s.net with
          gptpSync := true, gptpOfs := clampInt (-2147483648) 2147483647 (roundDiv (offset * 5) 2) } } ∧
        (isSlave s = true → exec (.gptpSync offset) s = .next v) ∧
        (isSlave s = false → exec (.gptpSync offset) s = .next (correctTime offset v))) ∧
      (∀ n : Nat, 3 ≤ n → s.net.gptpSync = true ∨ n = 3 → exec (.gptpSyncLoss n) s =
        .next (note 0x0912 (srcDom 5) [] { s with net := { s.net with gptpSync := false } }))) ∧
    (served s = true → 0 < cycleTicks (runningGcl s) → s.time.dev % cycleTicks (runningGcl s) = 0 →
      exec .qbvCycleStart s = .next { s with net := { s.net with
        gcl := configuredGcl s, gclPorts := netPar s 0x20, qbv := netPar s 0x20 != 0, qbvStart := s.time.dev } }) ∧
    (served s = true → inCascade s = true →
      (∀ (port : RingPort) (f : RingFrame), exec (.ringFrameReceive port f) s = .next (ringFrame port f s)) ∧
      (let a := newFrame 0x05 ((Config.freeWord s.time.free).setWidth 8) [ixByte (deviceIndex s), ixByte (linkState s), 0, 0]
         { s with time := { s.time with free := s.time.free + 1 }, net := { s.net with lkAt := some s.time.dev } }
       periodOver s s.net.lkAt 400000 = true → exec .ringLinkSend s = .next (putRing a.1 .rout (putRing a.1 .rin a.2))) ∧
      (∀ (port : RingPort) (t1 t2 t3 t4 : Nat), (ringPort s port).down = false →
        periodOver s (ringPort s port).reqAt 400000000 = true →
        let a := newFrame 0x06 ((Config.freeWord s.time.free).setWidth 8) (beBytes 8 (t1 / 16))
          { s with time := { s.time with free := s.time.free + 1 } }
        exec (.ringDelayReq port t1 t2 t3 t4) s =
          .next (modRing port (fun p => { p with delay := ((t4 - t1) - (t3 - t2)) / 2, reqAt := some s.time.dev }) (putRing a.1 port a.2))) ∧
      (∀ (port : RingPort) (why : RingFail), (ringPort s port).down = false → failsLink s (ringPort s port) why = true →
        exec (.ringLinkDown port why) s = .next (judgeChain (note 0x0B01 (srcCasc (deviceIndex s)) [ringIx port, 0]
          (modRing port (fun p => { p with down := true, crcBad := 0 }) s)))) ∧
      (∀ (port : RingPort) (ms : Nat), (ringPort s port).down = true → 100 ≤ ms →
        let u := modRing port (fun p => { p with down := false, seen := 0, linkAt := s.time.dev, crcBad := 0 }) s
        let v := if deviceIndex u = 0 then u else { u with net := { u.net with ends := 0 } }
        exec (.ringLinkRestored port ms) s =
          .next (judgeChain (if endBits v = 0 then note 0x0B01 (srcCasc (deviceIndex v)) [ringIx port, 1] v else v))) ∧
      (∀ d : Fin 4, d.val ≠ deviceIndex s → hasBit (netPar s 0x36) d = true →
        (s.net.rem.getD d Remote.reset).seenAt + netPar s 0x31 * 400 ≤ s.time.dev →
        (s.net.rem.getD d Remote.reset).lost = false → exec (.cascadeDeviceLost d) s =
          .next (cascadeHold s (note 0x0B04 (srcCasc d) [ixByte d] (modRem d (fun r => { r with lost := true }) s))))) ∧
    (served s = true → isSlave s = true → s.net.noMaster = false → s.net.lastTime + netPar s 0x31 * 400 ≤ s.time.dev →
      exec .masterLost s =
        .next (raiseFault 0x0B03 0 (srcCasc 0) .device [] { s with net := { s.net with noMaster := true } })) ∧
    (faultPath s = true →
      (s.dev.ph = .frozen ∨ periodOver s s.net.ringAt (netPar s 0x30 * 400) = true →
       let v := sendFault { s with net := { s.net with ringAt := some s.time.dev } }
       (served v = true → deviceIndex v = 0 → v.net.conflict = false → exec .ringPeriodicSend s = .next (sendMaster v)) ∧
       (served v = false ∨ deviceIndex v ≠ 0 → exec .ringPeriodicSend s = .next v)) ∧
      (ownFlags s ≠ s.net.sent.toNat → exec .faultFlagChange s = .next (sendFault s)))

/-- R575, R576, R578, R416, R203, R88, R494: the write buffer goes to MRAM; sample recording pauses at the end of its time after an L3
or L4 event; a trend record of the samples gathered is written each period; a restored domain keeps its contents with a right CRC, and
with a wrong one starts anew and is recorded as F-0809; the flux map a machine asked for is used where its record passes the checks,
through the tables derived from it, and refused with F-0213 where not; with VIO present the TAP takes its instruction, a SAMPLE captures
the pins (levels that the state does not hold are free values, log entry 3), and EXTEST runs only in SERVICE with no active
bridge; and feedback that confirms a command ends its CONTACTOR_SET. A trend record's values without a sample are free values, the
model's choice (log entry 3). -/
def Obligations.RecorderAndMapRowsAct : Prop :=
  ∀ (s : State),
    (recorderOn s = true → exec .recorderFlush s = .next (flushBuffer s) ∧
      (∀ e : Nat, s.recd.postEnd = some e → e ≤ s.time.dev →
        exec .postTriggerEnd s = .next { s with recd := { s.recd with postHold := true, postEnd := none } }) ∧
      (∀ channel : Fin 128, isUp s = true →
        s.recd.trendStart.getD channel 0 + parN s 0xCF01 * 400000000 ≤ s.time.dev →
        let r := trendRec s (if trendSource s channel then s.recd.trendAcc.getD channel ⟨0, 0, 0, 0⟩ else ⟨0, 0, 0, 0⟩)
        exec (.trendRecord channel) s = .next { s with
          time := { s.time with free := s.time.free + 3 },
          recd := { s.recd with trend := s.recd.trend.modify channel (fun l => (ringAppend 32768 l [r]).1),
                                trendStart := s.recd.trendStart.set channel s.time.dev,
                                trendAcc := s.recd.trendAcc.set channel ⟨0, 0, 0, 0⟩ } })) ∧
    (∀ dom : Fin 16, (domAt s dom).saved = true → domOn s dom = true →
      let v := note 0x0809 (srcDom dom) [] (leaveOn dom false (modDom dom (fun d => { d with saved := false, crcErr := true }) s))
      (dom.val < 8 → exec (.retentionRestore dom true) s = .next (modDom dom (fun d => { d with saved := false }) s) ∧
        exec (.retentionRestore dom false) s = .next (if dom.val = 5 then startCan v else v)) ∧
      (8 ≤ dom.val → exec (.retentionRestore dom true) s = .next s ∧
        exec (.retentionRestore dom false) s = .next (returnFe (dom.val - 8) v))) ∧
    (∀ m : Fin 8, mainUp s = true → (machAt s m).mapPending = true →
      (∀ f, goodMap s m = some f →
        let v := modMach m (fun x => { x with mapPending := false, mapUsed := true }) s
        exec (.fluxMapDerivationEnd m) s = .next (modMach m (fun x => { x with tables := some (deriveTables v m f) }) v)) ∧
      (goodMap s m = none → exec (.fluxMapDerivationEnd m) s = .next (note 0x0213 (srcMach m) []
        (modMach m (fun x => { x with mapPending := false, mapUsed := false, tables := none }) s)))) ∧
    (∀ op : Byte,
      let v := { s with pins := { s.pins with tap := tapTakes s op } }
      let w := { s with pins := { s.pins with tap := 0 } }
      let u := { v with time := { v.time with free := v.time.free + 56 } }
      (tapRuns v = 2 → exec (.tapInstruction op true) s =
        .next { u with pins := { u.pins with cells := pinCells v.time.free u } }) ∧
      (tapRuns v ≠ 2 → exec (.tapInstruction op true) s = .next v) ∧
      exec (.tapInstruction op false) s = .next w ∧
      (tapRuns v = 3 → v.dev.ph = .up ∧ serviceReason v ≠ 0 ∧ anyActive v (List.range 8) = false)) ∧
    (∀ (n : Fin 4) (cfb : BitVec 6) (t : Nat), monUp s = true → let v := { s with pins := { s.pins with cfb := cfb } }
      feedbackAll v cfb n (ctdAt v n).closed = true →
      let w := modCtd n (fun c => { c with checking := false }) v
      (ctdAt w n).tag = some t → exec (.feedbackConfirmsCommand n cfb) s = .next (settleContactors t w))

/-- R551, R552, R554, R557, R559: while a handover runs, the new main image takes over when its slot verifies and its injection test
passes, with F-0A20 and its version in the reply; where not, it is marked INVALID with F-0A22 and the image before it takes over once it
starts, and the request ends with a status that the spec does not give, a free value, the model's choice (log entry 3). No takeover
within 200 ms of the halt raises F-0A21 once for each machine that runs. A field engine or the islands of a bridge reload once the
bridge is idle; a six-phase machine rotates its engines; and a recalibration that passes writes its record and one that fails keeps the
corrections, each ending with its reply. -/
def Obligations.UpdateRowsAct : Prop :=
  ∀ (s : State), isUp s = true →
    (∀ (h : Handover) (inj : Nat) (clean : Bool), s.store.handover = some h →
      let starts := fun (b : Bool) => injPasses inj clean && verifySlot s .main (classSlot s .main b) == .good
      let done := fun (v : State) => applyStored (releasePair .main { v with store := { v.store with handover := none } })
      (h.fail = none → starts h.slotB = true →
        let u := activateSlot .main h.slotB s
        let v := finishOpt h.tag ST_OK (beBytes 4 (versionOf u .main).toNat) u
        exec (.handoverTakeover inj clean) s =
          .next (done (bootFuses.raiseFuse .main (note 0x0A20 (srcDom 2) (beBytes 4 (versionOf v .main).toNat) v)))) ∧
      (h.fail = none → starts h.slotB = false →
        let v := note 0x0A22 (srcDom 2) [] (setSlotSt .main h.slotB .invalid s)
        exec (.handoverTakeover inj clean) s = .next { v with
          time := { v.time with free := v.time.free + 1 },
          store := { v.store with handover := some { h with fail := some ((Config.freeWord v.time.free).setWidth 16) } } }) ∧
      (∀ st : U16, h.fail = some st →
        (starts (!h.slotB) = true → exec (.handoverTakeover inj clean) s =
          .next (done (finishOpt h.tag st (detail RS_NONE 0xFF 0) s))) ∧
        (starts (!h.slotB) = false → exec (.handoverTakeover inj clean) s = .next s))) ∧
    (∀ h : Handover, s.store.handover = some h → h.late = false → h.halt + 80000000 ≤ s.time.dev →
      let v := { s with store := { s.store with handover := some { h with late := true } } }
      exec .handoverTimeout s = .next (forEach ((machines v).filter (machRunning v))
        (fun m s => raiseFault 0x0A21 m (srcMach m) (.machine m) [] s) v)) ∧
    (∀ n : Fin 8, (bridgeAt s n).feReload = true → stOf s n = .idle ∨ stOf s n = .disabled →
      exec (.feReload n) s = .next (modBridge n (fun br => { br with feReload := false, feVersion := versionOf s .fe }) s)) ∧
    (∀ (b : Fin 8) (answers : List IslandObs), answers.length = 6 → (bridgeAt s b).islReload = true →
      allQuiet s [b.val] = true → domOn s (8 + b) = true →
      exec (.islReload b answers) s = .next (modBridge b (fun br => { br with islReload := false })
        (forgetUnread ((bridgeChans s b).zipIdx.foldl (fun s p => takeHandshake (answers.getD p.2 IslandObs.none) p.1 s) s)))) ∧
    (∀ m : Fin 8, mainUp s = true → sixLower s m = true → exec (.feRotation m) s = .next (rotate m s)) ∧
    (∀ (target index : Byte) (cal : ConvCal) (low high : IslandObs),
      let mine := fun (r : Byte × Byte × Option Nat) => r.1 == target && r.2.1 == index
      s.store.recal.any mine = true →
      let r := recalResult target index cal low high
        { s with store := { s.store with recal := s.store.recal.filter (fun r => !mine r) } }
      let w := { r.2.2.2 with time := { r.2.2.2.time with free := r.2.2.2.time.free + 1 } }
      let p := if r.1 then writeStartup (recalRecord target index).1 (recalRecord target index).2 r.2.2.1 r.2.1 w
        else (Config.freeWord r.2.2.2.time.free, w)
      exec (.recalCoverEnd target index cal low high) s = .next (((s.store.recal.filter mine).map (fun r => r.2.2)).foldl
        (fun s t => finishOpt t ST_OK ([flagByte (!r.1), 0, 0, 0] ++ beBytes 4 p.1.toNat) s) p.2))
end

