-- ==== Sys2Proof/Laws/FrameOps.lean ====
section
/-! SUPPORT. One lemma per function: what the shared operations of Machine/Ops.lean keep: the queue, the unit counts, the fuses, the device time, the core mode and the device phase. -/

namespace Sys2Proof.Machine

set_option linter.unusedTactic false
set_option linter.unusedSimpArgs false

/-! ### Machine/Ops.lean -/

/-! ### What a state after keeps of a state before -/

/-- The queue, and how many units of each kind the module has. -/
@[simp] abbrev SameUnits (s t : State) : Prop :=
  t.pending = s.pending ∧
  t.bridges.length = s.bridges.length ∧
  t.machs.length = s.machs.length ∧
  t.chans.length = s.chans.length ∧
  t.lgs.length = s.lgs.length ∧
  t.ctds.length = s.ctds.length ∧
  t.pos.length = s.pos.length ∧
  t.pouts.length = s.pouts.length ∧
  t.cmps.length = s.cmps.length ∧
  t.temps.length = s.temps.length ∧
  t.pwr.doms.length = s.pwr.doms.length ∧
  t.net.can.length = s.net.can.length ∧
  t.proto.ctx.length = s.proto.ctx.length ∧
  t.proto.sess.length = s.proto.sess.length ∧
  t.store.slots.length = s.store.slots.length

/-- Those, and the fuses, the device time, the core mode and the device's phase. -/
@[simp] abbrev Keeps (s t : State) : Prop :=
  SameUnits s t ∧
  t.store.owners = s.store.owners ∧
  t.store.fuses = s.store.fuses ∧
  t.time.dev = s.time.dev ∧
  t.dev.split = s.dev.split ∧
  t.dev.ph = s.dev.ph

/-- What a meaning answers keeps all that. -/
def OutKeeps (s : State) : Out → Prop
  | .next t => Keeps s t
  | .fault _ => True
  | .refused _ => True

@[simp] theorem outKeeps_next (s t : State) : OutKeeps s (.next t) ↔ Keeps s t := Iff.rfl
@[simp] theorem outKeeps_fault (s : State) (e : Fault) : OutKeeps s (.fault e) ↔ True := Iff.rfl
@[simp] theorem outKeeps_refused (s : State) (e : Refusal) : OutKeeps s (.refused e) ↔ True := Iff.rfl

/-! ### Loops and choices -/

theorem foldl_proj {α β γ : Type} (v : β → γ) (l : List α) (f : β → α → β) (h : ∀ i s, v (f s i) = v s) (s : β) :
    v (l.foldl f s) = v s := by
  induction l generalizing s with
  | nil => rfl
  | cons a l ih => simp [ih, h]

@[simp] theorem foldl_pending {α : Type} (l : List α) (f : State → α → State) (h : ∀ i s, (f s i).pending = s.pending) (s : State) :
    (l.foldl f s).pending = s.pending := foldl_proj (·.pending) l f h s
@[simp] theorem forEach_pending (l : List Nat) (f : Nat → State → State) (h : ∀ i s, (f i s).pending = s.pending) (s : State) :
    (forEach l f s).pending = s.pending := foldl_pending l _ h s
@[simp] theorem ite_pending (c : Prop) [Decidable c] (a b : State) :
    (if c then a else b).pending = if c then a.pending else b.pending := by split <;> rfl
@[simp] theorem foldl_owners {α : Type} (l : List α) (f : State → α → State) (h : ∀ i s, (f s i).store.owners = s.store.owners) (s : State) :
    (l.foldl f s).store.owners = s.store.owners := foldl_proj (·.store.owners) l f h s
@[simp] theorem forEach_owners (l : List Nat) (f : Nat → State → State) (h : ∀ i s, (f i s).store.owners = s.store.owners) (s : State) :
    (forEach l f s).store.owners = s.store.owners := foldl_owners l _ h s
@[simp] theorem ite_owners (c : Prop) [Decidable c] (a b : State) :
    (if c then a else b).store.owners = if c then a.store.owners else b.store.owners := by split <;> rfl
@[simp] theorem foldl_fuses {α : Type} (l : List α) (f : State → α → State) (h : ∀ i s, (f s i).store.fuses = s.store.fuses) (s : State) :
    (l.foldl f s).store.fuses = s.store.fuses := foldl_proj (·.store.fuses) l f h s
@[simp] theorem forEach_fuses (l : List Nat) (f : Nat → State → State) (h : ∀ i s, (f i s).store.fuses = s.store.fuses) (s : State) :
    (forEach l f s).store.fuses = s.store.fuses := foldl_fuses l _ h s
@[simp] theorem ite_fuses (c : Prop) [Decidable c] (a b : State) :
    (if c then a else b).store.fuses = if c then a.store.fuses else b.store.fuses := by split <;> rfl
@[simp] theorem foldl_dev {α : Type} (l : List α) (f : State → α → State) (h : ∀ i s, (f s i).time.dev = s.time.dev) (s : State) :
    (l.foldl f s).time.dev = s.time.dev := foldl_proj (·.time.dev) l f h s
@[simp] theorem forEach_dev (l : List Nat) (f : Nat → State → State) (h : ∀ i s, (f i s).time.dev = s.time.dev) (s : State) :
    (forEach l f s).time.dev = s.time.dev := foldl_dev l _ h s
@[simp] theorem ite_dev (c : Prop) [Decidable c] (a b : State) :
    (if c then a else b).time.dev = if c then a.time.dev else b.time.dev := by split <;> rfl
@[simp] theorem foldl_split {α : Type} (l : List α) (f : State → α → State) (h : ∀ i s, (f s i).dev.split = s.dev.split) (s : State) :
    (l.foldl f s).dev.split = s.dev.split := foldl_proj (·.dev.split) l f h s
@[simp] theorem forEach_split (l : List Nat) (f : Nat → State → State) (h : ∀ i s, (f i s).dev.split = s.dev.split) (s : State) :
    (forEach l f s).dev.split = s.dev.split := foldl_split l _ h s
@[simp] theorem ite_split (c : Prop) [Decidable c] (a b : State) :
    (if c then a else b).dev.split = if c then a.dev.split else b.dev.split := by split <;> rfl
@[simp] theorem foldl_ph {α : Type} (l : List α) (f : State → α → State) (h : ∀ i s, (f s i).dev.ph = s.dev.ph) (s : State) :
    (l.foldl f s).dev.ph = s.dev.ph := foldl_proj (·.dev.ph) l f h s
@[simp] theorem forEach_ph (l : List Nat) (f : Nat → State → State) (h : ∀ i s, (f i s).dev.ph = s.dev.ph) (s : State) :
    (forEach l f s).dev.ph = s.dev.ph := foldl_ph l _ h s
@[simp] theorem ite_ph (c : Prop) [Decidable c] (a b : State) :
    (if c then a else b).dev.ph = if c then a.dev.ph else b.dev.ph := by split <;> rfl
@[simp] theorem foldl_bridges {α : Type} (l : List α) (f : State → α → State) (h : ∀ i s, (f s i).bridges.length = s.bridges.length) (s : State) :
    (l.foldl f s).bridges.length = s.bridges.length := foldl_proj (·.bridges.length) l f h s
@[simp] theorem forEach_bridges (l : List Nat) (f : Nat → State → State) (h : ∀ i s, (f i s).bridges.length = s.bridges.length) (s : State) :
    (forEach l f s).bridges.length = s.bridges.length := foldl_bridges l _ h s
@[simp] theorem ite_bridges (c : Prop) [Decidable c] (a b : State) :
    (if c then a else b).bridges.length = if c then a.bridges.length else b.bridges.length := by split <;> rfl
@[simp] theorem foldl_machs {α : Type} (l : List α) (f : State → α → State) (h : ∀ i s, (f s i).machs.length = s.machs.length) (s : State) :
    (l.foldl f s).machs.length = s.machs.length := foldl_proj (·.machs.length) l f h s
@[simp] theorem forEach_machs (l : List Nat) (f : Nat → State → State) (h : ∀ i s, (f i s).machs.length = s.machs.length) (s : State) :
    (forEach l f s).machs.length = s.machs.length := foldl_machs l _ h s
@[simp] theorem ite_machs (c : Prop) [Decidable c] (a b : State) :
    (if c then a else b).machs.length = if c then a.machs.length else b.machs.length := by split <;> rfl
@[simp] theorem foldl_chans {α : Type} (l : List α) (f : State → α → State) (h : ∀ i s, (f s i).chans.length = s.chans.length) (s : State) :
    (l.foldl f s).chans.length = s.chans.length := foldl_proj (·.chans.length) l f h s
@[simp] theorem forEach_chans (l : List Nat) (f : Nat → State → State) (h : ∀ i s, (f i s).chans.length = s.chans.length) (s : State) :
    (forEach l f s).chans.length = s.chans.length := foldl_chans l _ h s
@[simp] theorem ite_chans (c : Prop) [Decidable c] (a b : State) :
    (if c then a else b).chans.length = if c then a.chans.length else b.chans.length := by split <;> rfl
@[simp] theorem foldl_lgs {α : Type} (l : List α) (f : State → α → State) (h : ∀ i s, (f s i).lgs.length = s.lgs.length) (s : State) :
    (l.foldl f s).lgs.length = s.lgs.length := foldl_proj (·.lgs.length) l f h s
@[simp] theorem forEach_lgs (l : List Nat) (f : Nat → State → State) (h : ∀ i s, (f i s).lgs.length = s.lgs.length) (s : State) :
    (forEach l f s).lgs.length = s.lgs.length := foldl_lgs l _ h s
@[simp] theorem ite_lgs (c : Prop) [Decidable c] (a b : State) :
    (if c then a else b).lgs.length = if c then a.lgs.length else b.lgs.length := by split <;> rfl
@[simp] theorem foldl_ctds {α : Type} (l : List α) (f : State → α → State) (h : ∀ i s, (f s i).ctds.length = s.ctds.length) (s : State) :
    (l.foldl f s).ctds.length = s.ctds.length := foldl_proj (·.ctds.length) l f h s
@[simp] theorem forEach_ctds (l : List Nat) (f : Nat → State → State) (h : ∀ i s, (f i s).ctds.length = s.ctds.length) (s : State) :
    (forEach l f s).ctds.length = s.ctds.length := foldl_ctds l _ h s
@[simp] theorem ite_ctds (c : Prop) [Decidable c] (a b : State) :
    (if c then a else b).ctds.length = if c then a.ctds.length else b.ctds.length := by split <;> rfl
@[simp] theorem foldl_pos {α : Type} (l : List α) (f : State → α → State) (h : ∀ i s, (f s i).pos.length = s.pos.length) (s : State) :
    (l.foldl f s).pos.length = s.pos.length := foldl_proj (·.pos.length) l f h s
@[simp] theorem forEach_pos (l : List Nat) (f : Nat → State → State) (h : ∀ i s, (f i s).pos.length = s.pos.length) (s : State) :
    (forEach l f s).pos.length = s.pos.length := foldl_pos l _ h s
@[simp] theorem ite_pos (c : Prop) [Decidable c] (a b : State) :
    (if c then a else b).pos.length = if c then a.pos.length else b.pos.length := by split <;> rfl
@[simp] theorem foldl_pouts {α : Type} (l : List α) (f : State → α → State) (h : ∀ i s, (f s i).pouts.length = s.pouts.length) (s : State) :
    (l.foldl f s).pouts.length = s.pouts.length := foldl_proj (·.pouts.length) l f h s
@[simp] theorem forEach_pouts (l : List Nat) (f : Nat → State → State) (h : ∀ i s, (f i s).pouts.length = s.pouts.length) (s : State) :
    (forEach l f s).pouts.length = s.pouts.length := foldl_pouts l _ h s
@[simp] theorem ite_pouts (c : Prop) [Decidable c] (a b : State) :
    (if c then a else b).pouts.length = if c then a.pouts.length else b.pouts.length := by split <;> rfl
@[simp] theorem foldl_cmps {α : Type} (l : List α) (f : State → α → State) (h : ∀ i s, (f s i).cmps.length = s.cmps.length) (s : State) :
    (l.foldl f s).cmps.length = s.cmps.length := foldl_proj (·.cmps.length) l f h s
@[simp] theorem forEach_cmps (l : List Nat) (f : Nat → State → State) (h : ∀ i s, (f i s).cmps.length = s.cmps.length) (s : State) :
    (forEach l f s).cmps.length = s.cmps.length := foldl_cmps l _ h s
@[simp] theorem ite_cmps (c : Prop) [Decidable c] (a b : State) :
    (if c then a else b).cmps.length = if c then a.cmps.length else b.cmps.length := by split <;> rfl
@[simp] theorem foldl_temps {α : Type} (l : List α) (f : State → α → State) (h : ∀ i s, (f s i).temps.length = s.temps.length) (s : State) :
    (l.foldl f s).temps.length = s.temps.length := foldl_proj (·.temps.length) l f h s
@[simp] theorem forEach_temps (l : List Nat) (f : Nat → State → State) (h : ∀ i s, (f i s).temps.length = s.temps.length) (s : State) :
    (forEach l f s).temps.length = s.temps.length := foldl_temps l _ h s
@[simp] theorem ite_temps (c : Prop) [Decidable c] (a b : State) :
    (if c then a else b).temps.length = if c then a.temps.length else b.temps.length := by split <;> rfl
@[simp] theorem foldl_doms {α : Type} (l : List α) (f : State → α → State) (h : ∀ i s, (f s i).pwr.doms.length = s.pwr.doms.length) (s : State) :
    (l.foldl f s).pwr.doms.length = s.pwr.doms.length := foldl_proj (·.pwr.doms.length) l f h s
@[simp] theorem forEach_doms (l : List Nat) (f : Nat → State → State) (h : ∀ i s, (f i s).pwr.doms.length = s.pwr.doms.length) (s : State) :
    (forEach l f s).pwr.doms.length = s.pwr.doms.length := foldl_doms l _ h s
@[simp] theorem ite_doms (c : Prop) [Decidable c] (a b : State) :
    (if c then a else b).pwr.doms.length = if c then a.pwr.doms.length else b.pwr.doms.length := by split <;> rfl
@[simp] theorem foldl_can {α : Type} (l : List α) (f : State → α → State) (h : ∀ i s, (f s i).net.can.length = s.net.can.length) (s : State) :
    (l.foldl f s).net.can.length = s.net.can.length := foldl_proj (·.net.can.length) l f h s
@[simp] theorem forEach_can (l : List Nat) (f : Nat → State → State) (h : ∀ i s, (f i s).net.can.length = s.net.can.length) (s : State) :
    (forEach l f s).net.can.length = s.net.can.length := foldl_can l _ h s
@[simp] theorem ite_can (c : Prop) [Decidable c] (a b : State) :
    (if c then a else b).net.can.length = if c then a.net.can.length else b.net.can.length := by split <;> rfl
@[simp] theorem foldl_ctx {α : Type} (l : List α) (f : State → α → State) (h : ∀ i s, (f s i).proto.ctx.length = s.proto.ctx.length) (s : State) :
    (l.foldl f s).proto.ctx.length = s.proto.ctx.length := foldl_proj (·.proto.ctx.length) l f h s
@[simp] theorem forEach_ctx (l : List Nat) (f : Nat → State → State) (h : ∀ i s, (f i s).proto.ctx.length = s.proto.ctx.length) (s : State) :
    (forEach l f s).proto.ctx.length = s.proto.ctx.length := foldl_ctx l _ h s
@[simp] theorem ite_ctx (c : Prop) [Decidable c] (a b : State) :
    (if c then a else b).proto.ctx.length = if c then a.proto.ctx.length else b.proto.ctx.length := by split <;> rfl
@[simp] theorem foldl_sess {α : Type} (l : List α) (f : State → α → State) (h : ∀ i s, (f s i).proto.sess.length = s.proto.sess.length) (s : State) :
    (l.foldl f s).proto.sess.length = s.proto.sess.length := foldl_proj (·.proto.sess.length) l f h s
@[simp] theorem forEach_sess (l : List Nat) (f : Nat → State → State) (h : ∀ i s, (f i s).proto.sess.length = s.proto.sess.length) (s : State) :
    (forEach l f s).proto.sess.length = s.proto.sess.length := foldl_sess l _ h s
@[simp] theorem ite_sess (c : Prop) [Decidable c] (a b : State) :
    (if c then a else b).proto.sess.length = if c then a.proto.sess.length else b.proto.sess.length := by split <;> rfl
@[simp] theorem foldl_slots {α : Type} (l : List α) (f : State → α → State) (h : ∀ i s, (f s i).store.slots.length = s.store.slots.length) (s : State) :
    (l.foldl f s).store.slots.length = s.store.slots.length := foldl_proj (·.store.slots.length) l f h s
@[simp] theorem forEach_slots (l : List Nat) (f : Nat → State → State) (h : ∀ i s, (f i s).store.slots.length = s.store.slots.length) (s : State) :
    (forEach l f s).store.slots.length = s.store.slots.length := foldl_slots l _ h s
@[simp] theorem ite_slots (c : Prop) [Decidable c] (a b : State) :
    (if c then a else b).store.slots.length = if c then a.store.slots.length else b.store.slots.length := by split <;> rfl

@[simp] theorem holdTime_dev (t : Time) : (holdTime t).dev = t.dev := by unfold holdTime; split <;> rfl
@[simp] theorem holdTime_rtc (t : Time) : (holdTime t).rtc = t.rtc := by unfold holdTime; split <;> rfl
@[simp] theorem holdTime_esn (t : Time) : (holdTime t).esn = t.esn := by unfold holdTime; split <;> rfl

@[simp] theorem freshNet_can (s : State) : (freshNet s).can.length = s.net.can.length := by simp [freshNet]

theorem modBridge_keeps (b : Nat) (f : Bridge → Bridge) (s : State) : Keeps s (modBridge b f s) := by
  unfold modBridge
  try dsimp only
  repeat' split
  all_goals simp [Keeps]
theorem modMach_keeps (m : Nat) (f : Mach → Mach) (s : State) : Keeps s (modMach m f s) := by
  unfold modMach
  try dsimp only
  repeat' split
  all_goals simp [Keeps]
theorem modChan_keeps (c : Nat) (f : Chan → Chan) (s : State) : Keeps s (modChan c f s) := by
  unfold modChan
  try dsimp only
  repeat' split
  all_goals simp [Keeps]
theorem modLg_keeps (g : Nat) (f : LinkGroup → LinkGroup) (s : State) : Keeps s (modLg g f s) := by
  unfold modLg
  try dsimp only
  repeat' split
  all_goals simp [Keeps]
theorem modCtd_keeps (n : Nat) (f : Contactor → Contactor) (s : State) : Keeps s (modCtd n f s) := by
  unfold modCtd
  try dsimp only
  repeat' split
  all_goals simp [Keeps]
theorem modPos_keeps (p : Nat) (f : PosIf → PosIf) (s : State) : Keeps s (modPos p f s) := by
  unfold modPos
  try dsimp only
  repeat' split
  all_goals simp [Keeps]
theorem modPout_keeps (k : Nat) (f : Pout → Pout) (s : State) : Keeps s (modPout k f s) := by
  unfold modPout
  try dsimp only
  repeat' split
  all_goals simp [Keeps]
theorem modCmp_keeps (u : Nat) (f : CmpUnit → CmpUnit) (s : State) : Keeps s (modCmp u f s) := by
  unfold modCmp
  try dsimp only
  repeat' split
  all_goals simp [Keeps]
theorem modTemp_keeps (i : Nat) (f : Sensor → Sensor) (s : State) : Keeps s (modTemp i f s) := by
  unfold modTemp
  try dsimp only
  repeat' split
  all_goals simp [Keeps]
theorem modDom_keeps (n : Nat) (f : Dom → Dom) (s : State) : Keeps s (modDom n f s) := by
  unfold modDom
  try dsimp only
  repeat' split
  all_goals simp [Keeps]
theorem modCan_keeps (n : Nat) (f : CanCtl → CanCtl) (s : State) : Keeps s (modCan n f s) := by
  unfold modCan
  try dsimp only
  repeat' split
  all_goals simp [Keeps]
theorem modCtx_keeps (t : Nat) (f : Ctx → Ctx) (s : State) : Keeps s (modCtx t f s) := by
  unfold modCtx
  try dsimp only
  repeat' split
  all_goals simp [Keeps]
theorem modSlots_keeps (c : ImgClass) (f : ClassSlots → ClassSlots) (s : State) : Keeps s (modSlots c f s) := by
  unfold modSlots
  try dsimp only
  repeat' split
  all_goals simp [Keeps]
theorem modSess_keeps (i : Nat) (f : Session → Session) (s : State) : Keeps s (modSess i f s) := by
  unfold modSess
  try dsimp only
  repeat' split
  all_goals simp [Keeps]
theorem drawFree_keeps (s : State) : Keeps s (drawFree s).2 := by
  unfold drawFree
  try dsimp only
  repeat' split
  all_goals simp [Keeps]
theorem drawMany_keeps (n : Nat) (s : State) : Keeps s (drawMany n s).2 := by
  unfold drawMany
  try dsimp only
  repeat' split
  all_goals simp [Keeps]
theorem emit_keeps (o : Output) (s : State) : Keeps s (emit o s) := by
  unfold emit
  try dsimp only
  repeat' split
  all_goals simp [Keeps]
theorem allocEsn_keeps (s : State) : Keeps s (allocEsn s).2 := by
  unfold allocEsn
  try dsimp only
  repeat' split
  all_goals simp [Keeps]
theorem flushBuffer_keeps (s : State) : Keeps s (flushBuffer s) := by
  unfold flushBuffer
  try dsimp only
  repeat' split
  all_goals simp [Keeps]
theorem pushEvent_keeps (e : Entry) (s : State) : Keeps s (pushEvent e s) := by
  unfold pushEvent
  try dsimp only
  repeat' split
  all_goals simp [Keeps, id flushBuffer_keeps]
theorem pushSample_keeps (e : Entry) (s : State) : Keeps s (pushSample e s) := by
  unfold pushSample
  try dsimp only
  repeat' split
  all_goals simp [Keeps]
theorem noteEvent_keeps (level : Nat) (e : Esn) (s : State) : Keeps s (noteEvent level e s) := by
  unfold noteEvent
  try dsimp only
  repeat' split
  all_goals simp [Keeps]
theorem recordAt_keeps (time code level kind : Nat) (src : U16) (count : Nat) (data : List Byte) (s : State) : Keeps s (recordAt time code level kind src count data s).2 := by
  unfold recordAt
  try dsimp only
  repeat' split
  all_goals simp [Keeps, id allocEsn_keeps, id noteEvent_keeps, id pushEvent_keeps]
theorem recordEvent_keeps (code level : Nat) (src : U16) (data : List Byte) (s : State) : Keeps s (recordEvent code level src data s).2 := by
  unfold recordEvent
  try dsimp only
  repeat' split
  all_goals simp [Keeps, id recordAt_keeps]
theorem noteService_keeps (reason : Byte) (s : State) : Keeps s (noteService reason s) := by
  unfold noteService
  try dsimp only
  repeat' split
  all_goals simp [Keeps, id recordAt_keeps]
theorem recordLimited_keeps (code level kind : Nat) (src : U16) (until_ : Nat) (data : List Byte) (s : State) : Keeps s (recordLimited code level kind src until_ data s).2 := by
  unfold recordLimited
  try dsimp only
  repeat' split
  all_goals simp [Keeps, id allocEsn_keeps, id recordAt_keeps]
theorem markFreeze_keeps (bit : Nat) (s : State) : Keeps s (markFreeze bit s) := by
  unfold markFreeze
  try dsimp only
  repeat' split
  all_goals simp [Keeps]
theorem newFrame_keeps (typ dst : Byte) (payload : List Byte) (s : State) : Keeps s (newFrame typ dst payload s).2 := by
  unfold newFrame
  try dsimp only
  repeat' split
  all_goals simp [Keeps]
theorem putRing_keeps (f : RingFrame) (p : RingPort) (s : State) : Keeps s (putRing f p s) := by
  unfold putRing
  try dsimp only
  repeat' split
  all_goals simp [Keeps, id emit_keeps]
theorem broadcastRing_keeps (typ : Byte) (payload : List Byte) (s : State) : Keeps s (broadcastRing typ payload s) := by
  unfold broadcastRing
  try dsimp only
  repeat' split
  all_goals simp [Keeps, id newFrame_keeps, id putRing_keeps]
theorem sendRing_keeps (d : Nat) (typ : Byte) (payload : List Byte) (s : State) : Keeps s (sendRing d typ payload s).2 := by
  unfold sendRing
  try dsimp only
  repeat' split
  all_goals simp [Keeps, id newFrame_keeps, id putRing_keeps]
theorem trendAdd_keeps (k : Nat) (v : Int) (s : State) : Keeps s (trendAdd k v s) := by
  unfold trendAdd
  try dsimp only
  repeat' split
  all_goals simp [Keeps]
theorem newTrend_keeps (s : State) : Keeps s (newTrend s) := by
  unfold newTrend
  try dsimp only
  repeat' split
  all_goals simp [Keeps]
theorem queueCan_keeps (n d : Nat) (p : List Byte) (s : State) : Keeps s (queueCan n d p s) := by
  unfold queueCan
  try dsimp only
  repeat' split
  all_goals simp [Keeps]
theorem dropCan_keeps (n : Nat) (s : State) : Keeps s (dropCan n s) := by
  unfold dropCan
  try dsimp only
  repeat' split
  all_goals simp [Keeps]
theorem handCan_keeps (port : Port) (d : Nat) (p : List Byte) (s : State) : Keeps s (handCan port d p s) := by
  unfold handCan
  try dsimp only
  repeat' split
  all_goals simp [Keeps, id queueCan_keeps]
theorem sendEth_keeps (port : Port) (dest packet : List Byte) (s : State) : Keeps s (sendEth port dest packet s) := by
  unfold sendEth
  try dsimp only
  repeat' split
  all_goals simp [Keeps, id emit_keeps]
theorem deliver_keeps (r : Reply) (s : State) : Keeps s (deliver r s) := by
  unfold deliver
  try dsimp only
  repeat' split
  all_goals simp [Keeps, id emit_keeps, id handCan_keeps, id sendEth_keeps, id sendRing_keeps]
theorem sendReply_keeps (origin : List Byte) (h : Hdr) (opcode : U16) (more : Bool) (status : U16) (data : List Byte) (s : State) : Keeps s (sendReply origin h opcode more status data s).2 := by
  unfold sendReply
  try dsimp only
  repeat' split
  all_goals simp [Keeps, id allocEsn_keeps, id deliver_keeps]
theorem finish_keeps (t : Nat) (status : U16) (data : List Byte) (s : State) : Keeps s (finish t status data s) := by
  unfold finish
  try dsimp only
  repeat' split
  all_goals simp [Keeps, id modCtx_keeps, id sendReply_keeps]
theorem refuse_keeps (t : Nat) (status : U16) (reason index : Byte) (param : U16) (s : State) : Keeps s (refuse t status reason index param s) := by
  unfold refuse
  try dsimp only
  repeat' split
  all_goals simp [Keeps, id finish_keeps]
theorem accept_keeps (t deadlineMs : Nat) (s : State) : Keeps s (accept t deadlineMs s) := by
  unfold accept
  try dsimp only
  repeat' split
  all_goals simp [Keeps, id modCtx_keeps, id sendReply_keeps]
theorem finishOpt_keeps (t : Option Nat) (status : U16) (data : List Byte) (s : State) : Keeps s (finishOpt t status data s) := by
  unfold finishOpt
  try dsimp only
  repeat' split
  all_goals simp [Keeps, id finish_keeps]
theorem onCmd_keeps (c : Nat) (s : State) : Keeps s (onCmd c s) := by
  unfold onCmd
  try dsimp only
  repeat' split
  all_goals simp [Keeps, id modChan_keeps]
theorem offCmd_keeps (c t : Nat) (s : State) : Keeps s (offCmd c t s) := by
  unfold offCmd
  try dsimp only
  repeat' split
  all_goals simp [Keeps, id modChan_keeps]
theorem driveSide_keeps (keep want high : Bool) (l : Nat) (s : State) : Keeps s (driveSide keep want high l s) := by
  unfold driveSide
  try dsimp only
  repeat' split
  all_goals simp [Keeps, id modBridge_keeps, id offCmd_keeps]
theorem driveLeg_keeps (keep : Bool) (mode : SafeMode) (l : Nat) (s : State) : Keeps s (driveLeg keep mode l s) := by
  unfold driveLeg
  try dsimp only
  repeat' split
  all_goals simp [Keeps, id driveSide_keeps]
theorem clearRequests_keeps (b : Nat) (s : State) : Keeps s (clearRequests b s) := by
  unfold clearRequests
  try dsimp only
  repeat' split
  all_goals simp [Keeps, id modBridge_keeps]
theorem switchesOff_keeps (b : Nat) (s : State) : Keeps s (switchesOff b s) := by
  unfold switchesOff
  try dsimp only
  repeat' split
  all_goals simp [Keeps, id clearRequests_keeps, id driveLeg_keeps]
theorem reselect_keeps (b : Nat) (s : State) : Keeps s (reselect b s) := by
  unfold reselect
  try dsimp only
  repeat' split
  all_goals simp [Keeps, id clearRequests_keeps, id driveLeg_keeps, id modBridge_keeps]
theorem machineLeaves_keeps (m : Nat) (s : State) : Keeps s (machineLeaves m s) := by
  unfold machineLeaves
  try dsimp only
  repeat' split
  all_goals simp [Keeps, id modMach_keeps]
theorem endMachineTag_keeps (m : Nat) (reason : Byte) (s : State) : Keeps s (endMachineTag m reason s) := by
  unfold endMachineTag
  try dsimp only
  repeat' split
  all_goals simp [Keeps, id modMach_keeps, id refuse_keeps]
theorem holdRequests_keeps (causes : List (Nat × Nat)) (b : Nat) (s : State) : Keeps s (holdRequests causes b s) := by
  unfold holdRequests
  try dsimp only
  repeat' split
  all_goals simp [Keeps, id modBridge_keeps]
theorem stopPulses_keeps (b : Nat) (s : State) : Keeps s (stopPulses b s) := by
  unfold stopPulses
  try dsimp only
  repeat' split
  all_goals simp [Keeps, id modBridge_keeps, id switchesOff_keeps]
theorem machineHit_keeps (why : Byte) (b m : Nat) (prev : BridgeState) (s : State) : Keeps s (machineHit why b m prev s) := by
  unfold machineHit
  try dsimp only
  repeat' split
  all_goals simp [Keeps, id endMachineTag_keeps, id holdRequests_keeps, id machineLeaves_keeps, id modBridge_keeps, id modMach_keeps, id
      stopPulses_keeps]
theorem enterSafe_keeps (why : Byte) (b : Nat) (s : State) : Keeps s (enterSafe why b s) := by
  unfold enterSafe
  try dsimp only
  repeat' split
  all_goals simp [Keeps, id machineHit_keeps, id modBridge_keeps]
theorem overrideBridge_keeps (why : Byte) (idleToo : Bool) (o : Ovr) (b : Nat) (s : State) : Keeps s (overrideBridge why idleToo o b s) := by
  unfold overrideBridge
  try dsimp only
  repeat' split
  all_goals simp [Keeps, id enterSafe_keeps, id modBridge_keeps, id reselect_keeps]
theorem override_keeps (why : Byte) (idleToo : Bool) (o : Ovr) (bs : List Nat) (s : State) : Keeps s (override why idleToo o bs s) := by
  unfold override
  try dsimp only
  repeat' split
  all_goals simp [Keeps, id overrideBridge_keeps]
theorem releaseBridge_keeps (b : Nat) (s : State) : Keeps s (releaseBridge b s) := by
  unfold releaseBridge
  try dsimp only
  repeat' split
  all_goals simp [Keeps, id modBridge_keeps, id reselect_keeps, id switchesOff_keeps]
theorem addLockout_keeps (code ix : Nat) (sc : Scope) (e : Esn) (s : State) : Keeps s (addLockout code ix sc e s) := by
  unfold addLockout
  try dsimp only
  repeat' split
  all_goals simp [Keeps]
theorem commandCtd_keeps (close : Bool) (n : Nat) (s : State) : Keeps s (commandCtd close n s) := by
  unfold commandCtd
  try dsimp only
  repeat' split
  all_goals simp [Keeps, id modCtd_keeps]
theorem openContactors_keeps (bs : List Nat) (s : State) : Keeps s (openContactors bs s) := by
  unfold openContactors
  try dsimp only
  repeat' split
  all_goals simp [Keeps, id commandCtd_keeps, id modCtd_keeps, id modLg_keeps]
theorem stopMachine_keeps (code ix : Nat) (idleToo : Bool) (m : Nat) (s : State) : Keeps s (stopMachine code ix idleToo m s) := by
  unfold stopMachine
  try dsimp only
  repeat' split
  all_goals simp [Keeps, id modMach_keeps, id override_keeps]
theorem react_keeps (level code ix : Nat) (sc : Scope) (idleToo : Bool) (why : Byte) (e : Esn) (s : State) : Keeps s (react level code ix sc idleToo why e s) := by
  unfold react
  try dsimp only
  repeat' split
  all_goals simp [Keeps, id addLockout_keeps, id openContactors_keeps, id override_keeps, id stopMachine_keeps]
theorem raiseBase_keeps (code ix : Nat) (src : U16) (sc : Scope) (idleToo : Bool) (why : Byte) (data : List Byte) (s : State) : Keeps s (raiseBase code ix src sc idleToo why data s) := by
  unfold raiseBase
  try dsimp only
  repeat' split
  all_goals simp [Keeps, id react_keeps, id recordEvent_keeps]
theorem driveAux_keeps (n : Nat) (on : Bool) (s : State) : Keeps s (driveAux n on s) := by
  unfold driveAux
  try dsimp only
  repeat' split
  all_goals simp [Keeps, id offCmd_keeps, id onCmd_keeps]
theorem setChopper_keeps (g : Nat) (on : Bool) (s : State) : Keeps s (setChopper g on s) := by
  unfold setChopper
  try dsimp only
  repeat' split
  all_goals simp [Keeps, id driveAux_keeps, id modLg_keeps]
theorem choppersOff_keeps (p : Nat → Bool) (s : State) : Keeps s (choppersOff p s) := by
  unfold choppersOff
  try dsimp only
  repeat' split
  all_goals simp [Keeps, id setChopper_keeps]
theorem endWatch_keeps (g : Nat) (s : State) : Keeps s (endWatch g s) := by
  unfold endWatch
  try dsimp only
  repeat' split
  all_goals simp [Keeps, id modMach_keeps]
theorem dropDischargeTag_keeps (tag : Option Nat) (s : State) : Keeps s (dropDischargeTag tag s) := by
  unfold dropDischargeTag
  try dsimp only
  repeat' split
  all_goals simp [Keeps]
theorem raise0508_keeps (g : Nat) (s : State) : Keeps s (raise0508 g s) := by
  unfold raise0508
  try dsimp only
  repeat' split
  all_goals simp [Keeps, id driveAux_keeps, id dropDischargeTag_keeps, id endWatch_keeps, id finishOpt_keeps, id modLg_keeps, id raiseBase_keeps]
theorem raiseWhy_keeps (why : Byte) (code ix : Nat) (src : U16) (sc : Scope) (data : List Byte) (s : State) : Keeps s (raiseWhy why code ix src sc data s) := by
  unfold raiseWhy
  try dsimp only
  repeat' split
  all_goals simp [Keeps, id raise0508_keeps, id raiseBase_keeps]
theorem raiseFault_keeps (code ix : Nat) (src : U16) (sc : Scope) (data : List Byte) (s : State) : Keeps s (raiseFault code ix src sc data s) := by
  unfold raiseFault
  try dsimp only
  repeat' split
  all_goals simp [Keeps, id raiseWhy_keeps]
theorem reactSrc_keeps (code : Nat) (src : U16) (e : Esn) (s : State) : Keeps s (reactSrc code src e s) := by
  unfold reactSrc
  try dsimp only
  repeat' split
  all_goals simp [Keeps, id raise0508_keeps, id react_keeps]
theorem note_keeps (code : Nat) (src : U16) (data : List Byte) (s : State) : Keeps s (note code src data s) := by
  unfold note
  try dsimp only
  repeat' split
  all_goals simp [Keeps, id reactSrc_keeps, id recordEvent_keeps]
theorem noteLimited_keeps (code : Nat) (src : U16) (until_ : Nat) (s : State) : Keeps s (noteLimited code src until_ s) := by
  unfold noteLimited
  try dsimp only
  repeat' split
  all_goals simp [Keeps, id reactSrc_keeps, id recordLimited_keeps]
theorem cascadeHit_keeps (g : Nat) (old cur : List Nat) (s : State) : Keeps s (cascadeHit g old cur s) := by
  unfold cascadeHit
  try dsimp only
  repeat' split
  all_goals simp [Keeps, id raise0508_keeps, id react_keeps, id recordEvent_keeps]
theorem cascadeHold_keeps (before s : State) : Keeps s (cascadeHold before s) := by
  unfold cascadeHold
  split <;> simp [id cascadeHit_keeps]
theorem setLatch_keeps (code : Nat) (detailVals : List Int) (c : Nat) (s : State) : Keeps s (setLatch code detailVals c s).2 := by
  unfold setLatch
  try dsimp only
  repeat' split
  all_goals simp [Keeps, id markFreeze_keeps, id modChan_keeps, id recordAt_keeps]
theorem actLatch_keeps (code c : Nat) (e : Option Esn) (s : State) : Keeps s (actLatch code c e s) := by
  unfold actLatch
  try dsimp only
  repeat' split
  all_goals simp [Keeps, id raise0508_keeps, id react_keeps, id reselect_keeps]
theorem latchIsland_keeps (code : Nat) (detailVals : List Int) (c : Nat) (s : State) : Keeps s (latchIsland code detailVals c s) := by
  unfold latchIsland
  try dsimp only
  repeat' split
  all_goals simp [Keeps, id actLatch_keeps, id setLatch_keeps]
theorem closeSession_keeps (i : Nat) (s : State) : Keeps s (closeSession i s) := by
  unfold closeSession
  try dsimp only
  repeat' split
  all_goals simp [Keeps, id modSlots_keeps]
theorem enterBoot_keeps (cause : BootCause) (s : State) : SameUnits s (enterBoot cause s) ∧ (enterBoot cause s).store.owners = s.store.owners ∧ (enterBoot cause s).store.fuses = s.store.fuses ∧ (enterBoot cause s).time.dev = s.time.dev ∧ (enterBoot cause s).dev.split = s.dev.split := by
  unfold enterBoot
  try dsimp only
  repeat' split
  all_goals simp [id closeSession_keeps]

end Sys2Proof.Machine
end

