-- ==== Sys2Proof/Laws/FrameDrive.lean ====
section
/-! SUPPORT. One lemma per function: the same for thermal, machine, request and position functions and their commands. -/

namespace Sys2Proof.Machine

set_option linter.unusedTactic false
set_option linter.unusedSimpArgs false

/-! ### Machine/Thermal.lean -/

theorem forgetSensor_keeps (i : Nat) (s : State) : Keeps s (forgetSensor i s) := by
  unfold forgetSensor
  try dsimp only
  repeat' split
  all_goals simp [Keeps, id modTemp_keeps]
theorem forgetUnread_keeps (s : State) : Keeps s (forgetUnread s) := by
  unfold forgetUnread
  try dsimp only
  repeat' split
  all_goals simp [Keeps, id forgetSensor_keeps]
theorem relearn_keeps (before s : State) : Keeps s (relearn before s) := by
  unfold relearn
  try dsimp only
  repeat' split
  all_goals simp [Keeps, id modTemp_keeps]
theorem seekMain_keeps (target : Nat) (s : State) : Keeps s (seekMain target s) := by
  unfold seekMain
  try dsimp only
  repeat' split
  all_goals simp [Keeps]
theorem seekMon_keeps (target : Nat) (s : State) : Keeps s (seekMon target s) := by
  unfold seekMon
  try dsimp only
  repeat' split
  all_goals simp [Keeps]
theorem updateCap_keeps (s : State) : Keeps s (updateCap s) := by
  unfold updateCap
  try dsimp only
  repeat' split
  all_goals simp [Keeps, id seekMain_keeps]
theorem takeReading_keeps (i : Nat) (r : Reading) (s : State) : Keeps s (takeReading i r s) := by
  unfold takeReading
  try dsimp only
  repeat' split
  all_goals simp [Keeps, id modTemp_keeps, id note_keeps]
theorem crossCheck_keeps (v : State) (rs : List (Fin 104 × Reading)) (i : Nat) (s : State) : Keeps s (crossCheck v rs i s) := by
  unfold crossCheck
  try dsimp only
  repeat' split
  all_goals simp [Keeps, id modTemp_keeps, id note_keeps]
theorem takeValue_keeps (v : State) (i : Nat) (s : State) : Keeps s (takeValue v i s) := by
  unfold takeValue
  try dsimp only
  repeat' split
  all_goals simp [Keeps, id modTemp_keeps, id note_keeps]
theorem riseRule_keeps (i : Nat) (rate : Option Int) (s : State) : Keeps s (riseRule i rate s) := by
  unfold riseRule
  try dsimp only
  repeat' split
  all_goals simp [Keeps, id modTemp_keeps, id note_keeps]
theorem fretRule_keeps (i : Nat) (rate : Option Int) (s : State) : Keeps s (fretRule i rate s) := by
  unfold fretRule
  try dsimp only
  repeat' split
  all_goals simp [Keeps, id modTemp_keeps, id note_keeps]
theorem fastRule_keeps (i : Nat) (s : State) : Keeps s (fastRule i s) := by
  unfold fastRule
  try dsimp only
  repeat' split
  all_goals simp [Keeps, id modTemp_keeps]
theorem raiseHot_keeps (code i m : Nat) (s : State) : Keeps s (raiseHot code i m s) := by
  unfold raiseHot
  try dsimp only
  repeat' split
  all_goals simp [Keeps, id modTemp_keeps, id raiseWhy_keeps]
theorem stopRule_keeps (i : Nat) (rate : Option Int) (s : State) : Keeps s (stopRule i rate s) := by
  unfold stopRule
  try dsimp only
  repeat' split
  all_goals simp [Keeps, id modTemp_keeps, id raiseHot_keeps]
theorem judge_keeps (i : Nat) (s : State) : Keeps s (judge i s) := by
  unfold judge
  try dsimp only
  repeat' split
  all_goals simp [Keeps, id fastRule_keeps, id fretRule_keeps, id modTemp_keeps, id riseRule_keeps, id stopRule_keeps]
theorem settleSensor_keeps (v : State) (i : Nat) (s : State) : Keeps s (settleSensor v i s) := by
  unfold settleSensor
  try dsimp only
  repeat' split
  all_goals simp [Keeps, id judge_keeps, id takeValue_keeps, id trendAdd_keeps]
theorem execTempMeasurement_keeps (readings : List (Fin 104 × Reading)) (s : State) : OutKeeps s (execTempMeasurement readings s) := by
  unfold execTempMeasurement
  try dsimp only
  repeat' split
  all_goals simp [Keeps, id crossCheck_keeps, id forgetUnread_keeps, id settleSensor_keeps, id takeReading_keeps, id updateCap_keeps]
theorem execOffsetLearn_keeps (i : Fin 104) (s : State) : OutKeeps s (execOffsetLearn i s) := by
  unfold execOffsetLearn
  try dsimp only
  repeat' split
  all_goals simp [Keeps, id modTemp_keeps]
theorem raiseTrip_keeps (i m : Nat) (s : State) : Keeps s (raiseTrip i m s) := by
  unfold raiseTrip
  try dsimp only
  repeat' split
  all_goals simp [Keeps, id modTemp_keeps, id raiseWhy_keeps]
theorem execMonitorTripCheck_keeps (i : Fin 104) (r : Reading) (s : State) : OutKeeps s (execMonitorTripCheck i r s) := by
  unfold execMonitorTripCheck
  try dsimp only
  repeat' split
  all_goals simp [Keeps, id modTemp_keeps, id raiseTrip_keeps]
theorem refCheck_keeps (bank : Bank) (gap ref : Int) (s : State) : Keeps s (refCheck bank gap ref s) := by
  unfold refCheck
  try dsimp only
  repeat' split
  all_goals simp [Keeps, id react_keeps, id recordEvent_keeps]
theorem compensate_keeps (s : State) : Keeps s (compensate s) := by
  unfold compensate
  try dsimp only
  repeat' split
  all_goals simp [Keeps, id note_keeps]
theorem execTempCompensation_keeps (gapA refA gapB refB : Int) (s : State) : OutKeeps s (execTempCompensation gapA refA gapB refB s) := by
  unfold execTempCompensation
  try dsimp only
  repeat' split
  all_goals simp [Keeps, id compensate_keeps, id refCheck_keeps]
theorem execTempCompensationLate_keeps (s : State) : OutKeeps s (execTempCompensationLate s) := by
  unfold execTempCompensationLate
  try dsimp only
  repeat' split
  all_goals simp [Keeps, id note_keeps]

/-! ### Machine/Motor.lean -/

theorem stopPouts_keeps (p : Nat) (s : State) : Keeps s (stopPouts p s) := by
  unfold stopPouts
  try dsimp only
  repeat' split
  all_goals simp [Keeps, id modPout_keeps]
theorem setBridges_keeps (st : BridgeState) (m : Nat) (s : State) : Keeps s (setBridges st m s) := by
  unfold setBridges
  try dsimp only
  repeat' split
  all_goals simp [Keeps, id modBridge_keeps]
theorem machSwitchesOff_keeps (m : Nat) (s : State) : Keeps s (machSwitchesOff m s) := by
  unfold machSwitchesOff
  try dsimp only
  repeat' split
  all_goals simp [Keeps, id switchesOff_keeps]
theorem toIdle_keeps (m : Nat) (s : State) : Keeps s (toIdle m s) := by
  unfold toIdle
  try dsimp only
  repeat' split
  all_goals simp [Keeps, id machineLeaves_keeps, id modBridge_keeps, id modMach_keeps, id switchesOff_keeps]
theorem finishMach_keeps (m : Nat) (status : U16) (data : List Byte) (s : State) : Keeps s (finishMach m status data s) := by
  unfold finishMach
  try dsimp only
  repeat' split
  all_goals simp [Keeps, id finishOpt_keeps, id modMach_keeps]
theorem coastMachine_keeps (m : Nat) (s : State) : Keeps s (coastMachine m s) := by
  unfold coastMachine
  try dsimp only
  repeat' split
  all_goals simp [Keeps, id finishMach_keeps, id modMach_keeps, id note_keeps]
theorem handToObserver_keeps (m : Nat) (s : State) : Keeps s (handToObserver m s) := by
  unfold handToObserver
  try dsimp only
  repeat' split
  all_goals simp [Keeps, id coastMachine_keeps, id modMach_keeps]

/-! ### Machine/Model.lean -/

theorem freshRun_keeps (vd vq : Int) (m : Nat) (s : State) : Keeps s (freshRun vd vq m s) := by
  unfold freshRun
  try dsimp only
  repeat' split
  all_goals simp [Keeps, id modMach_keeps]

/-! ### Machine/Requests.lean -/

theorem bounce_keeps (h : Hdr) (opcode : Nat) (status : U16) (s : State) : Keeps s (bounce h opcode status s) := by
  unfold bounce
  try dsimp only
  repeat' split
  all_goals simp [Keeps, id sendReply_keeps]
theorem countUnauth_keeps (p : Port) (s : State) : Keeps s (countUnauth p s).2 := by
  unfold countUnauth
  try dsimp only
  repeat' split
  all_goals simp [Keeps, id noteLimited_keeps]
theorem retag_keeps (t : Nat) (u : Option Nat) (s : State) : Keeps s (retag t u s) := by
  unfold retag
  try dsimp only
  repeat' split
  all_goals simp [Keeps]
theorem orphan_keeps (t : Nat) (s : State) : Keeps s (orphan t s) := by
  unfold orphan
  try dsimp only
  repeat' split
  all_goals simp [Keeps, id retag_keeps]
theorem nextArrival_keeps (s : State) : Keeps s (nextArrival s).2 := by
  unfold nextArrival
  try dsimp only
  repeat' split
  all_goals simp [Keeps]
theorem occupy_keeps (h : Hdr) (opcode : Nat) (payload : List Byte) (s : State) : Keeps s (occupy h opcode payload s) := by
  unfold occupy
  try dsimp only
  repeat' split
  all_goals simp [Keeps, id modCtx_keeps, id nextArrival_keeps, id orphan_keeps]
theorem admitTail_keeps (h : Hdr) (opcode : Nat) (payload : List Byte) (s : State) : Keeps s (admitTail h opcode payload s).2 := by
  unfold admitTail
  try dsimp only
  repeat' split
  all_goals simp [Keeps, id bounce_keeps, id countUnauth_keeps, id occupy_keeps]
theorem admitSeq_keeps (h : Hdr) (opcode : Nat) (payload : List Byte) (s : State) : Keeps s (admitSeq h opcode payload s).2 := by
  unfold admitSeq
  try dsimp only
  repeat' split
  all_goals simp [Keeps, id admitTail_keeps, id bounce_keeps, id modSess_keeps]
theorem copyRef_keeps (opcode : Nat) (payload : List Byte) (s : State) : Keeps s (copyRef opcode payload s) := by
  unfold copyRef
  try dsimp only
  repeat' split
  all_goals simp [Keeps, id modMach_keeps]
theorem admits_keeps (h : Hdr) (opcode : Nat) (payload : List Byte) (s : State) : Keeps s (admits h opcode payload s).2 := by
  unfold admits
  try dsimp only
  repeat' split
  all_goals simp [Keeps, id admitSeq_keeps, id admitTail_keeps, id bounce_keeps, id copyRef_keeps]
@[simp] theorem gated_pending (opcode : Nat) (onBridge : Bool) (t : Nat) (f : State → State)
    (h : ∀ s, (f s).pending = s.pending) (s : State) : (gated opcode onBridge t f s).pending = s.pending := by
  unfold gated; split <;> simp [h, id finish_keeps]
@[simp] theorem gated_owners (opcode : Nat) (onBridge : Bool) (t : Nat) (f : State → State)
    (h : ∀ s, (f s).store.owners = s.store.owners) (s : State) : (gated opcode onBridge t f s).store.owners = s.store.owners := by
  unfold gated; split <;> simp [h, id finish_keeps]
@[simp] theorem gated_fuses (opcode : Nat) (onBridge : Bool) (t : Nat) (f : State → State)
    (h : ∀ s, (f s).store.fuses = s.store.fuses) (s : State) : (gated opcode onBridge t f s).store.fuses = s.store.fuses := by
  unfold gated; split <;> simp [h, id finish_keeps]
@[simp] theorem gated_dev (opcode : Nat) (onBridge : Bool) (t : Nat) (f : State → State)
    (h : ∀ s, (f s).time.dev = s.time.dev) (s : State) : (gated opcode onBridge t f s).time.dev = s.time.dev := by
  unfold gated; split <;> simp [h, id finish_keeps]
@[simp] theorem gated_split (opcode : Nat) (onBridge : Bool) (t : Nat) (f : State → State)
    (h : ∀ s, (f s).dev.split = s.dev.split) (s : State) : (gated opcode onBridge t f s).dev.split = s.dev.split := by
  unfold gated; split <;> simp [h, id finish_keeps]
@[simp] theorem gated_bridges (opcode : Nat) (onBridge : Bool) (t : Nat) (f : State → State)
    (h : ∀ s, (f s).bridges.length = s.bridges.length) (s : State) : (gated opcode onBridge t f s).bridges.length = s.bridges.length := by
  unfold gated; split <;> simp [h, id finish_keeps]
@[simp] theorem gated_machs (opcode : Nat) (onBridge : Bool) (t : Nat) (f : State → State)
    (h : ∀ s, (f s).machs.length = s.machs.length) (s : State) : (gated opcode onBridge t f s).machs.length = s.machs.length := by
  unfold gated; split <;> simp [h, id finish_keeps]
@[simp] theorem gated_chans (opcode : Nat) (onBridge : Bool) (t : Nat) (f : State → State)
    (h : ∀ s, (f s).chans.length = s.chans.length) (s : State) : (gated opcode onBridge t f s).chans.length = s.chans.length := by
  unfold gated; split <;> simp [h, id finish_keeps]
@[simp] theorem gated_lgs (opcode : Nat) (onBridge : Bool) (t : Nat) (f : State → State)
    (h : ∀ s, (f s).lgs.length = s.lgs.length) (s : State) : (gated opcode onBridge t f s).lgs.length = s.lgs.length := by
  unfold gated; split <;> simp [h, id finish_keeps]
@[simp] theorem gated_ctds (opcode : Nat) (onBridge : Bool) (t : Nat) (f : State → State)
    (h : ∀ s, (f s).ctds.length = s.ctds.length) (s : State) : (gated opcode onBridge t f s).ctds.length = s.ctds.length := by
  unfold gated; split <;> simp [h, id finish_keeps]
@[simp] theorem gated_pos (opcode : Nat) (onBridge : Bool) (t : Nat) (f : State → State)
    (h : ∀ s, (f s).pos.length = s.pos.length) (s : State) : (gated opcode onBridge t f s).pos.length = s.pos.length := by
  unfold gated; split <;> simp [h, id finish_keeps]
@[simp] theorem gated_pouts (opcode : Nat) (onBridge : Bool) (t : Nat) (f : State → State)
    (h : ∀ s, (f s).pouts.length = s.pouts.length) (s : State) : (gated opcode onBridge t f s).pouts.length = s.pouts.length := by
  unfold gated; split <;> simp [h, id finish_keeps]
@[simp] theorem gated_cmps (opcode : Nat) (onBridge : Bool) (t : Nat) (f : State → State)
    (h : ∀ s, (f s).cmps.length = s.cmps.length) (s : State) : (gated opcode onBridge t f s).cmps.length = s.cmps.length := by
  unfold gated; split <;> simp [h, id finish_keeps]
@[simp] theorem gated_temps (opcode : Nat) (onBridge : Bool) (t : Nat) (f : State → State)
    (h : ∀ s, (f s).temps.length = s.temps.length) (s : State) : (gated opcode onBridge t f s).temps.length = s.temps.length := by
  unfold gated; split <;> simp [h, id finish_keeps]
@[simp] theorem gated_doms (opcode : Nat) (onBridge : Bool) (t : Nat) (f : State → State)
    (h : ∀ s, (f s).pwr.doms.length = s.pwr.doms.length) (s : State) : (gated opcode onBridge t f s).pwr.doms.length = s.pwr.doms.length := by
  unfold gated; split <;> simp [h, id finish_keeps]
@[simp] theorem gated_can (opcode : Nat) (onBridge : Bool) (t : Nat) (f : State → State)
    (h : ∀ s, (f s).net.can.length = s.net.can.length) (s : State) : (gated opcode onBridge t f s).net.can.length = s.net.can.length := by
  unfold gated; split <;> simp [h, id finish_keeps]
@[simp] theorem gated_ctx (opcode : Nat) (onBridge : Bool) (t : Nat) (f : State → State)
    (h : ∀ s, (f s).proto.ctx.length = s.proto.ctx.length) (s : State) : (gated opcode onBridge t f s).proto.ctx.length = s.proto.ctx.length := by
  unfold gated; split <;> simp [h, id finish_keeps]
@[simp] theorem gated_sess (opcode : Nat) (onBridge : Bool) (t : Nat) (f : State → State)
    (h : ∀ s, (f s).proto.sess.length = s.proto.sess.length) (s : State) : (gated opcode onBridge t f s).proto.sess.length = s.proto.sess.length := by
  unfold gated; split <;> simp [h, id finish_keeps]
@[simp] theorem gated_slots (opcode : Nat) (onBridge : Bool) (t : Nat) (f : State → State)
    (h : ∀ s, (f s).store.slots.length = s.store.slots.length) (s : State) : (gated opcode onBridge t f s).store.slots.length = s.store.slots.length := by
  unfold gated; split <;> simp [h, id finish_keeps]
@[simp] theorem gated_ph (opcode : Nat) (onBridge : Bool) (t : Nat) (f : State → State)
    (h : ∀ s, (f s).dev.ph = s.dev.ph) (s : State) : (gated opcode onBridge t f s).dev.ph = s.dev.ph := by
  unfold gated; split <;> simp [h, id finish_keeps]

theorem enqueue_keeps (h : Hdr) (s : State) : Keeps s (enqueue h s) := by
  unfold enqueue
  try dsimp only
  repeat' split
  all_goals simp [Keeps]
@[simp] theorem serve_pending (hd : Hdr) (opcode : Nat) (payload : List Byte) (onBridge : Bool) (f : Nat → State → State)
    (h : ∀ t s, (f t s).pending = s.pending) (s : State) : (serve hd opcode payload onBridge f s).pending = s.pending := by
  unfold serve; dsimp only; repeat' split
  all_goals simp [h, id admits_keeps, id enqueue_keeps]
@[simp] theorem serve_owners (hd : Hdr) (opcode : Nat) (payload : List Byte) (onBridge : Bool) (f : Nat → State → State)
    (h : ∀ t s, (f t s).store.owners = s.store.owners) (s : State) : (serve hd opcode payload onBridge f s).store.owners = s.store.owners := by
  unfold serve; dsimp only; repeat' split
  all_goals simp [h, id admits_keeps, id enqueue_keeps]
@[simp] theorem serve_fuses (hd : Hdr) (opcode : Nat) (payload : List Byte) (onBridge : Bool) (f : Nat → State → State)
    (h : ∀ t s, (f t s).store.fuses = s.store.fuses) (s : State) : (serve hd opcode payload onBridge f s).store.fuses = s.store.fuses := by
  unfold serve; dsimp only; repeat' split
  all_goals simp [h, id admits_keeps, id enqueue_keeps]
@[simp] theorem serve_dev (hd : Hdr) (opcode : Nat) (payload : List Byte) (onBridge : Bool) (f : Nat → State → State)
    (h : ∀ t s, (f t s).time.dev = s.time.dev) (s : State) : (serve hd opcode payload onBridge f s).time.dev = s.time.dev := by
  unfold serve; dsimp only; repeat' split
  all_goals simp [h, id admits_keeps, id enqueue_keeps]
@[simp] theorem serve_split (hd : Hdr) (opcode : Nat) (payload : List Byte) (onBridge : Bool) (f : Nat → State → State)
    (h : ∀ t s, (f t s).dev.split = s.dev.split) (s : State) : (serve hd opcode payload onBridge f s).dev.split = s.dev.split := by
  unfold serve; dsimp only; repeat' split
  all_goals simp [h, id admits_keeps, id enqueue_keeps]
@[simp] theorem serve_bridges (hd : Hdr) (opcode : Nat) (payload : List Byte) (onBridge : Bool) (f : Nat → State → State)
    (h : ∀ t s, (f t s).bridges.length = s.bridges.length) (s : State) : (serve hd opcode payload onBridge f s).bridges.length = s.bridges.length := by
  unfold serve; dsimp only; repeat' split
  all_goals simp [h, id admits_keeps, id enqueue_keeps]
@[simp] theorem serve_machs (hd : Hdr) (opcode : Nat) (payload : List Byte) (onBridge : Bool) (f : Nat → State → State)
    (h : ∀ t s, (f t s).machs.length = s.machs.length) (s : State) : (serve hd opcode payload onBridge f s).machs.length = s.machs.length := by
  unfold serve; dsimp only; repeat' split
  all_goals simp [h, id admits_keeps, id enqueue_keeps]
@[simp] theorem serve_chans (hd : Hdr) (opcode : Nat) (payload : List Byte) (onBridge : Bool) (f : Nat → State → State)
    (h : ∀ t s, (f t s).chans.length = s.chans.length) (s : State) : (serve hd opcode payload onBridge f s).chans.length = s.chans.length := by
  unfold serve; dsimp only; repeat' split
  all_goals simp [h, id admits_keeps, id enqueue_keeps]
@[simp] theorem serve_lgs (hd : Hdr) (opcode : Nat) (payload : List Byte) (onBridge : Bool) (f : Nat → State → State)
    (h : ∀ t s, (f t s).lgs.length = s.lgs.length) (s : State) : (serve hd opcode payload onBridge f s).lgs.length = s.lgs.length := by
  unfold serve; dsimp only; repeat' split
  all_goals simp [h, id admits_keeps, id enqueue_keeps]
@[simp] theorem serve_ctds (hd : Hdr) (opcode : Nat) (payload : List Byte) (onBridge : Bool) (f : Nat → State → State)
    (h : ∀ t s, (f t s).ctds.length = s.ctds.length) (s : State) : (serve hd opcode payload onBridge f s).ctds.length = s.ctds.length := by
  unfold serve; dsimp only; repeat' split
  all_goals simp [h, id admits_keeps, id enqueue_keeps]
@[simp] theorem serve_pos (hd : Hdr) (opcode : Nat) (payload : List Byte) (onBridge : Bool) (f : Nat → State → State)
    (h : ∀ t s, (f t s).pos.length = s.pos.length) (s : State) : (serve hd opcode payload onBridge f s).pos.length = s.pos.length := by
  unfold serve; dsimp only; repeat' split
  all_goals simp [h, id admits_keeps, id enqueue_keeps]
@[simp] theorem serve_pouts (hd : Hdr) (opcode : Nat) (payload : List Byte) (onBridge : Bool) (f : Nat → State → State)
    (h : ∀ t s, (f t s).pouts.length = s.pouts.length) (s : State) : (serve hd opcode payload onBridge f s).pouts.length = s.pouts.length := by
  unfold serve; dsimp only; repeat' split
  all_goals simp [h, id admits_keeps, id enqueue_keeps]
@[simp] theorem serve_cmps (hd : Hdr) (opcode : Nat) (payload : List Byte) (onBridge : Bool) (f : Nat → State → State)
    (h : ∀ t s, (f t s).cmps.length = s.cmps.length) (s : State) : (serve hd opcode payload onBridge f s).cmps.length = s.cmps.length := by
  unfold serve; dsimp only; repeat' split
  all_goals simp [h, id admits_keeps, id enqueue_keeps]
@[simp] theorem serve_temps (hd : Hdr) (opcode : Nat) (payload : List Byte) (onBridge : Bool) (f : Nat → State → State)
    (h : ∀ t s, (f t s).temps.length = s.temps.length) (s : State) : (serve hd opcode payload onBridge f s).temps.length = s.temps.length := by
  unfold serve; dsimp only; repeat' split
  all_goals simp [h, id admits_keeps, id enqueue_keeps]
@[simp] theorem serve_doms (hd : Hdr) (opcode : Nat) (payload : List Byte) (onBridge : Bool) (f : Nat → State → State)
    (h : ∀ t s, (f t s).pwr.doms.length = s.pwr.doms.length) (s : State) : (serve hd opcode payload onBridge f s).pwr.doms.length = s.pwr.doms.length := by
  unfold serve; dsimp only; repeat' split
  all_goals simp [h, id admits_keeps, id enqueue_keeps]
@[simp] theorem serve_can (hd : Hdr) (opcode : Nat) (payload : List Byte) (onBridge : Bool) (f : Nat → State → State)
    (h : ∀ t s, (f t s).net.can.length = s.net.can.length) (s : State) : (serve hd opcode payload onBridge f s).net.can.length = s.net.can.length := by
  unfold serve; dsimp only; repeat' split
  all_goals simp [h, id admits_keeps, id enqueue_keeps]
@[simp] theorem serve_ctx (hd : Hdr) (opcode : Nat) (payload : List Byte) (onBridge : Bool) (f : Nat → State → State)
    (h : ∀ t s, (f t s).proto.ctx.length = s.proto.ctx.length) (s : State) : (serve hd opcode payload onBridge f s).proto.ctx.length = s.proto.ctx.length := by
  unfold serve; dsimp only; repeat' split
  all_goals simp [h, id admits_keeps, id enqueue_keeps]
@[simp] theorem serve_sess (hd : Hdr) (opcode : Nat) (payload : List Byte) (onBridge : Bool) (f : Nat → State → State)
    (h : ∀ t s, (f t s).proto.sess.length = s.proto.sess.length) (s : State) : (serve hd opcode payload onBridge f s).proto.sess.length = s.proto.sess.length := by
  unfold serve; dsimp only; repeat' split
  all_goals simp [h, id admits_keeps, id enqueue_keeps]
@[simp] theorem serve_slots (hd : Hdr) (opcode : Nat) (payload : List Byte) (onBridge : Bool) (f : Nat → State → State)
    (h : ∀ t s, (f t s).store.slots.length = s.store.slots.length) (s : State) : (serve hd opcode payload onBridge f s).store.slots.length = s.store.slots.length := by
  unfold serve; dsimp only; repeat' split
  all_goals simp [h, id admits_keeps, id enqueue_keeps]
@[simp] theorem serve_ph (hd : Hdr) (opcode : Nat) (payload : List Byte) (onBridge : Bool) (f : Nat → State → State)
    (h : ∀ t s, (f t s).dev.ph = s.dev.ph) (s : State) : (serve hd opcode payload onBridge f s).dev.ph = s.dev.ph := by
  unfold serve; dsimp only; repeat' split
  all_goals simp [h, id admits_keeps, id enqueue_keeps]

/-! ### Machine/Drive.lean -/

@[simp] theorem withMachine_pending (t : Nat) (machine : Byte) (f : Nat → State → State)
    (h : ∀ t s, (f t s).pending = s.pending) (s : State) : (withMachine t machine f s).pending = s.pending := by
  unfold withMachine; split <;> simp [h, id refuse_keeps]
@[simp] theorem withMachine_owners (t : Nat) (machine : Byte) (f : Nat → State → State)
    (h : ∀ t s, (f t s).store.owners = s.store.owners) (s : State) : (withMachine t machine f s).store.owners = s.store.owners := by
  unfold withMachine; split <;> simp [h, id refuse_keeps]
@[simp] theorem withMachine_fuses (t : Nat) (machine : Byte) (f : Nat → State → State)
    (h : ∀ t s, (f t s).store.fuses = s.store.fuses) (s : State) : (withMachine t machine f s).store.fuses = s.store.fuses := by
  unfold withMachine; split <;> simp [h, id refuse_keeps]
@[simp] theorem withMachine_dev (t : Nat) (machine : Byte) (f : Nat → State → State)
    (h : ∀ t s, (f t s).time.dev = s.time.dev) (s : State) : (withMachine t machine f s).time.dev = s.time.dev := by
  unfold withMachine; split <;> simp [h, id refuse_keeps]
@[simp] theorem withMachine_split (t : Nat) (machine : Byte) (f : Nat → State → State)
    (h : ∀ t s, (f t s).dev.split = s.dev.split) (s : State) : (withMachine t machine f s).dev.split = s.dev.split := by
  unfold withMachine; split <;> simp [h, id refuse_keeps]
@[simp] theorem withMachine_bridges (t : Nat) (machine : Byte) (f : Nat → State → State)
    (h : ∀ t s, (f t s).bridges.length = s.bridges.length) (s : State) : (withMachine t machine f s).bridges.length = s.bridges.length := by
  unfold withMachine; split <;> simp [h, id refuse_keeps]
@[simp] theorem withMachine_machs (t : Nat) (machine : Byte) (f : Nat → State → State)
    (h : ∀ t s, (f t s).machs.length = s.machs.length) (s : State) : (withMachine t machine f s).machs.length = s.machs.length := by
  unfold withMachine; split <;> simp [h, id refuse_keeps]
@[simp] theorem withMachine_chans (t : Nat) (machine : Byte) (f : Nat → State → State)
    (h : ∀ t s, (f t s).chans.length = s.chans.length) (s : State) : (withMachine t machine f s).chans.length = s.chans.length := by
  unfold withMachine; split <;> simp [h, id refuse_keeps]
@[simp] theorem withMachine_lgs (t : Nat) (machine : Byte) (f : Nat → State → State)
    (h : ∀ t s, (f t s).lgs.length = s.lgs.length) (s : State) : (withMachine t machine f s).lgs.length = s.lgs.length := by
  unfold withMachine; split <;> simp [h, id refuse_keeps]
@[simp] theorem withMachine_ctds (t : Nat) (machine : Byte) (f : Nat → State → State)
    (h : ∀ t s, (f t s).ctds.length = s.ctds.length) (s : State) : (withMachine t machine f s).ctds.length = s.ctds.length := by
  unfold withMachine; split <;> simp [h, id refuse_keeps]
@[simp] theorem withMachine_pos (t : Nat) (machine : Byte) (f : Nat → State → State)
    (h : ∀ t s, (f t s).pos.length = s.pos.length) (s : State) : (withMachine t machine f s).pos.length = s.pos.length := by
  unfold withMachine; split <;> simp [h, id refuse_keeps]
@[simp] theorem withMachine_pouts (t : Nat) (machine : Byte) (f : Nat → State → State)
    (h : ∀ t s, (f t s).pouts.length = s.pouts.length) (s : State) : (withMachine t machine f s).pouts.length = s.pouts.length := by
  unfold withMachine; split <;> simp [h, id refuse_keeps]
@[simp] theorem withMachine_cmps (t : Nat) (machine : Byte) (f : Nat → State → State)
    (h : ∀ t s, (f t s).cmps.length = s.cmps.length) (s : State) : (withMachine t machine f s).cmps.length = s.cmps.length := by
  unfold withMachine; split <;> simp [h, id refuse_keeps]
@[simp] theorem withMachine_temps (t : Nat) (machine : Byte) (f : Nat → State → State)
    (h : ∀ t s, (f t s).temps.length = s.temps.length) (s : State) : (withMachine t machine f s).temps.length = s.temps.length := by
  unfold withMachine; split <;> simp [h, id refuse_keeps]
@[simp] theorem withMachine_doms (t : Nat) (machine : Byte) (f : Nat → State → State)
    (h : ∀ t s, (f t s).pwr.doms.length = s.pwr.doms.length) (s : State) : (withMachine t machine f s).pwr.doms.length = s.pwr.doms.length := by
  unfold withMachine; split <;> simp [h, id refuse_keeps]
@[simp] theorem withMachine_can (t : Nat) (machine : Byte) (f : Nat → State → State)
    (h : ∀ t s, (f t s).net.can.length = s.net.can.length) (s : State) : (withMachine t machine f s).net.can.length = s.net.can.length := by
  unfold withMachine; split <;> simp [h, id refuse_keeps]
@[simp] theorem withMachine_ctx (t : Nat) (machine : Byte) (f : Nat → State → State)
    (h : ∀ t s, (f t s).proto.ctx.length = s.proto.ctx.length) (s : State) : (withMachine t machine f s).proto.ctx.length = s.proto.ctx.length := by
  unfold withMachine; split <;> simp [h, id refuse_keeps]
@[simp] theorem withMachine_sess (t : Nat) (machine : Byte) (f : Nat → State → State)
    (h : ∀ t s, (f t s).proto.sess.length = s.proto.sess.length) (s : State) : (withMachine t machine f s).proto.sess.length = s.proto.sess.length := by
  unfold withMachine; split <;> simp [h, id refuse_keeps]
@[simp] theorem withMachine_slots (t : Nat) (machine : Byte) (f : Nat → State → State)
    (h : ∀ t s, (f t s).store.slots.length = s.store.slots.length) (s : State) : (withMachine t machine f s).store.slots.length = s.store.slots.length := by
  unfold withMachine; split <;> simp [h, id refuse_keeps]
@[simp] theorem withMachine_ph (t : Nat) (machine : Byte) (f : Nat → State → State)
    (h : ∀ t s, (f t s).dev.ph = s.dev.ph) (s : State) : (withMachine t machine f s).dev.ph = s.dev.ph := by
  unfold withMachine; split <;> simp [h, id refuse_keeps]

theorem startPrecharge_keeps (m : Nat) (bowOnly : Bool) (s : State) : Keeps s (startPrecharge m bowOnly s) := by
  unfold startPrecharge
  try dsimp only
  repeat' split
  all_goals simp [Keeps, id modBridge_keeps, id modMach_keeps]
theorem freshArm_keeps (m : Nat) (s : State) : Keeps s (freshArm m s) := by
  unfold freshArm
  try dsimp only
  repeat' split
  all_goals simp [Keeps, id machineLeaves_keeps, id modBridge_keeps, id setBridges_keeps]
theorem armMachine_keeps (t m : Nat) (s : State) : Keeps s (armMachine t m s) := by
  unfold armMachine
  try dsimp only
  repeat' split
  all_goals simp [Keeps, id accept_keeps, id finish_keeps, id freshArm_keeps, id modMach_keeps, id refuse_keeps, id seekMon_keeps, id
      startPrecharge_keeps]
theorem opArm_keeps (t : Nat) (machine : Byte) (s : State) : Keeps s (opArm t machine s) := by
  unfold opArm
  try dsimp only
  repeat' split
  all_goals simp [Keeps, id armMachine_keeps, id cascadeHold_keeps]
theorem endPrecharge_keeps (m : Nat) (s : State) : Keeps s (endPrecharge m s) := by
  unfold endPrecharge
  try dsimp only
  repeat' split
  all_goals simp [Keeps, id finishMach_keeps, id freshArm_keeps, id freshRun_keeps, id modBridge_keeps, id modMach_keeps, id
      setBridges_keeps, id stopPulses_keeps]
theorem execPrechargeComplete_keeps (m : Fin 8) (s : State) : OutKeeps s (execPrechargeComplete m s) := by
  unfold execPrechargeComplete
  try dsimp only
  repeat' split
  all_goals simp [Keeps, id endPrecharge_keeps]
theorem execPrechargeTimeout_keeps (m : Fin 8) (s : State) : OutKeeps s (execPrechargeTimeout m s) := by
  unfold execPrechargeTimeout
  try dsimp only
  repeat' split
  all_goals simp [Keeps, id endPrecharge_keeps, id finishMach_keeps, id note_keeps, id raise0508_keeps, id toIdle_keeps]
theorem zeroPulse_keeps (b : Nat) (s : State) : Keeps s (zeroPulse b s) := by
  unfold zeroPulse
  try dsimp only
  repeat' split
  all_goals simp [Keeps, id modBridge_keeps]
theorem execPrechargePulse_keeps (m : Fin 8) (s : State) : OutKeeps s (execPrechargePulse m s) := by
  unfold execPrechargePulse
  try dsimp only
  repeat' split
  all_goals simp [Keeps, id modBridge_keeps, id zeroPulse_keeps]
theorem disarmRunning_keeps (t m : Nat) (s : State) : Keeps s (disarmRunning t m s) := by
  unfold disarmRunning
  try dsimp only
  repeat' split
  all_goals simp [Keeps, id accept_keeps, id finishMach_keeps, id modMach_keeps, id refuse_keeps]
theorem disarmMachine_keeps (t m : Nat) (s : State) : Keeps s (disarmMachine t m s) := by
  unfold disarmMachine
  try dsimp only
  repeat' split
  all_goals simp [Keeps, id disarmRunning_keeps, id endMachineTag_keeps, id finish_keeps, id toIdle_keeps]
theorem opDisarm_keeps (t : Nat) (machine : Byte) (s : State) : Keeps s (opDisarm t machine s) := by
  unfold opDisarm
  try dsimp only
  repeat' split
  all_goals simp [Keeps, id disarmMachine_keeps]
theorem execDisarmRampEnd_keeps (m : Fin 8) (s : State) : OutKeeps s (execDisarmRampEnd m s) := by
  unfold execDisarmRampEnd
  try dsimp only
  repeat' split
  all_goals simp [Keeps, id finish_keeps, id toIdle_keeps]
theorem autoStart_keeps (m : Nat) (v : Int) (s : State) : Keeps s (autoStart m v s) := by
  unfold autoStart
  try dsimp only
  repeat' split
  all_goals simp [Keeps, id modMach_keeps]
theorem applyRef_keeps (arrival m : Nat) (r : Ref) (s : State) : Keeps s (applyRef arrival m r s) := by
  unfold applyRef
  try dsimp only
  repeat' split
  all_goals simp [Keeps, id autoStart_keeps, id modMach_keeps]
theorem setRef_keeps (t m : Nat) (r : Ref) (s : State) : Keeps s (setRef t m r s) := by
  unfold setRef
  try dsimp only
  repeat' split
  all_goals simp [Keeps, id applyRef_keeps, id finish_keeps, id refuse_keeps]
theorem opTorqueSet_keeps (t : Nat) (machine : Byte) (torque : U32) (s : State) : Keeps s (opTorqueSet t machine torque s) := by
  unfold opTorqueSet
  try dsimp only
  repeat' split
  all_goals simp [Keeps, id refuse_keeps, id setRef_keeps]
theorem opSpeedSet_keeps (t : Nat) (machine : Byte) (speed : U32) (s : State) : Keeps s (opSpeedSet t machine speed s) := by
  unfold opSpeedSet
  try dsimp only
  repeat' split
  all_goals simp [Keeps, id refuse_keeps, id setRef_keeps]
theorem commandSafe_keeps (ix : Nat) (src : U16) (sc : Scope) (s : State) : Keeps s (commandSafe ix src sc s) := by
  unfold commandSafe
  try dsimp only
  repeat' split
  all_goals simp [Keeps, id addLockout_keeps, id openContactors_keeps, id override_keeps, id raise0508_keeps, id recordEvent_keeps]
theorem opSafeState_keeps (t : Nat) (scope index : Byte) (s : State) : Keeps s (opSafeState t scope index s) := by
  unfold opSafeState
  try dsimp only
  repeat' split
  all_goals simp [Keeps, id commandSafe_keeps, id finish_keeps, id refuse_keeps]
theorem startMachine_keeps (t m : Nat) (d : Int) (s : State) : Keeps s (startMachine t m d s) := by
  unfold startMachine
  try dsimp only
  repeat' split
  all_goals simp [Keeps, id accept_keeps, id autoStart_keeps, id modMach_keeps, id refuse_keeps]
theorem opStart_keeps (t : Nat) (machine dir : Byte) (s : State) : Keeps s (opStart t machine dir s) := by
  unfold opStart
  try dsimp only
  repeat' split
  all_goals simp [Keeps, id refuse_keeps, id startMachine_keeps]
theorem beginPluck_keeps (m : Nat) (testOnly : Bool) (s : State) : Keeps s (beginPluck m testOnly s) := by
  unfold beginPluck
  try dsimp only
  repeat' split
  all_goals simp [Keeps, id modMach_keeps]
theorem pluckMachine_keeps (t m : Nat) (s : State) : Keeps s (pluckMachine t m s) := by
  unfold pluckMachine
  try dsimp only
  repeat' split
  all_goals simp [Keeps, id accept_keeps, id beginPluck_keeps, id modMach_keeps, id refuse_keeps]
theorem opPluckTest_keeps (t : Nat) (machine : Byte) (s : State) : Keeps s (opPluckTest t machine s) := by
  unfold opPluckTest
  try dsimp only
  repeat' split
  all_goals simp [Keeps, id pluckMachine_keeps]
theorem retireBridge_keeps (b leg : Nat) (s : State) : Keeps s (retireBridge b leg s) := by
  unfold retireBridge
  try dsimp only
  repeat' split
  all_goals simp [Keeps, id modBridge_keeps]
theorem retireLegOrBridge_keeps (t b leg : Nat) (index : Byte) (s : State) : Keeps s (retireLegOrBridge t b leg index s) := by
  unfold retireLegOrBridge
  try dsimp only
  repeat' split
  all_goals simp [Keeps, id accept_keeps, id finish_keeps, id modMach_keeps, id refuse_keeps, id retireBridge_keeps]
theorem retireIf_keeps (t p : Nat) (s : State) : Keeps s (retireIf t p s) := by
  unfold retireIf
  try dsimp only
  repeat' split
  all_goals simp [Keeps, id finish_keeps, id handToObserver_keeps, id modPos_keeps, id refuse_keeps, id stopPouts_keeps]
theorem opRetire_keeps (t : Nat) (kind index : Byte) (s : State) : Keeps s (opRetire t kind index s) := by
  unfold opRetire
  try dsimp only
  repeat' split
  all_goals simp [Keeps, id refuse_keeps, id retireIf_keeps, id retireLegOrBridge_keeps]
theorem execRetireRampEnd_keeps (m : Fin 8) (s : State) : OutKeeps s (execRetireRampEnd m s) := by
  unfold execRetireRampEnd
  try dsimp only
  repeat' split
  all_goals simp [Keeps, id finishOpt_keeps, id modMach_keeps, id overrideBridge_keeps, id retireBridge_keeps]
theorem returnBridge_keeps (b : Nat) (s : State) : Keeps s (returnBridge b s) := by
  unfold returnBridge
  try dsimp only
  repeat' split
  all_goals simp [Keeps, id modBridge_keeps]
theorem remapLeg_keeps (t l r : Nat) (index : Byte) (s : State) : Keeps s (remapLeg t l r index s) := by
  unfold remapLeg
  try dsimp only
  repeat' split
  all_goals simp [Keeps, id finish_keeps, id refuse_keeps, id returnBridge_keeps]
theorem remapBridge_keeps (t b r : Nat) (index : Byte) (s : State) : Keeps s (remapBridge t b r index s) := by
  unfold remapBridge
  try dsimp only
  repeat' split
  all_goals simp [Keeps, id finish_keeps, id modBridge_keeps, id refuse_keeps, id returnBridge_keeps]
theorem initPos_keeps (p : Nat) (s : State) : Keeps s (initPos p s) := by
  unfold initPos
  try dsimp only
  repeat' split
  all_goals simp [Keeps, id modPos_keeps, id stopPouts_keeps]
theorem remapIf_keeps (t n r : Nat) (index : Byte) (s : State) : Keeps s (remapIf t n r index s) := by
  unfold remapIf
  try dsimp only
  repeat' split
  all_goals simp [Keeps, id finish_keeps, id initPos_keeps, id modPos_keeps, id refuse_keeps]
theorem opRemap_keeps (t : Nat) (kind retired repl : Byte) (s : State) : Keeps s (opRemap t kind retired repl s) := by
  unfold opRemap
  try dsimp only
  repeat' split
  all_goals simp [Keeps, id refuse_keeps, id remapBridge_keeps, id remapIf_keeps, id remapLeg_keeps]
theorem execOrderlyStopEnd_keeps (m : Fin 8) (s : State) : OutKeeps s (execOrderlyStopEnd m s) := by
  unfold execOrderlyStopEnd
  try dsimp only
  repeat' split
  all_goals simp [Keeps, id override_keeps, id raise0508_keeps]
theorem execArm_keeps (h : Hdr) (machine : Byte) (s : State) : OutKeeps s (execArm h machine s) := by
  unfold execArm
  try dsimp only
  repeat' split
  all_goals simp [Keeps, id opArm_keeps]
theorem execDisarm_keeps (h : Hdr) (machine : Byte) (s : State) : OutKeeps s (execDisarm h machine s) := by
  unfold execDisarm
  try dsimp only
  repeat' split
  all_goals simp [Keeps, id opDisarm_keeps]
theorem execTorqueSet_keeps (h : Hdr) (machine : Byte) (torque : U32) (s : State) : OutKeeps s (execTorqueSet h machine torque s) := by
  unfold execTorqueSet
  try dsimp only
  repeat' split
  all_goals simp [Keeps, id opTorqueSet_keeps]
theorem execSpeedSet_keeps (h : Hdr) (machine : Byte) (speed : U32) (s : State) : OutKeeps s (execSpeedSet h machine speed s) := by
  unfold execSpeedSet
  try dsimp only
  repeat' split
  all_goals simp [Keeps, id opSpeedSet_keeps]
theorem execSafeState_keeps (h : Hdr) (scope index : Byte) (s : State) : OutKeeps s (execSafeState h scope index s) := by
  unfold execSafeState
  try dsimp only
  repeat' split
  all_goals simp [Keeps, id opSafeState_keeps]
theorem execStart_keeps (h : Hdr) (machine dir : Byte) (s : State) : OutKeeps s (execStart h machine dir s) := by
  unfold execStart
  try dsimp only
  repeat' split
  all_goals simp [Keeps, id opStart_keeps]
theorem execPluckTest_keeps (h : Hdr) (machine : Byte) (s : State) : OutKeeps s (execPluckTest h machine s) := by
  unfold execPluckTest
  try dsimp only
  repeat' split
  all_goals simp [Keeps, id opPluckTest_keeps]
theorem execRetire_keeps (h : Hdr) (kind index : Byte) (s : State) : OutKeeps s (execRetire h kind index s) := by
  unfold execRetire
  try dsimp only
  repeat' split
  all_goals simp [Keeps, id opRetire_keeps]
theorem execRemap_keeps (h : Hdr) (kind retired repl : Byte) (s : State) : OutKeeps s (execRemap h kind retired repl s) := by
  unfold execRemap
  try dsimp only
  repeat' split
  all_goals simp [Keeps, id opRemap_keeps]

/-! ### Machine/Position.lean -/

theorem compareUnit_keeps (u theta : Nat) (delta : Int) (t0 : Nat) (s : State) : Keeps s (compareUnit u theta delta t0 s) := by
  unfold compareUnit
  try dsimp only
  repeat' split
  all_goals simp [Keeps, id modCmp_keeps]
theorem compareUnits_keeps (p theta : Nat) (delta : Int) (t0 : Nat) (s : State) : Keeps s (compareUnits p theta delta t0 s) := by
  unfold compareUnits
  try dsimp only
  repeat' split
  all_goals simp [Keeps, id compareUnit_keeps]
theorem feedPout_keeps (delta : Int) (k : Nat) (s : State) : Keeps s (feedPout delta k s) := by
  simp only [feedPout]
  repeat' split
  all_goals simp [id modPout_keeps, id note_keeps]
theorem feedPouts_keeps (p : Nat) (delta : Int) (s : State) : Keeps s (feedPouts p delta s) := by
  unfold feedPouts
  try dsimp only
  repeat' split
  all_goals simp [Keeps, id feedPout_keeps]
theorem showCount_keeps (k : Nat) (up : Bool) (s : State) : Keeps s (showCount k up s) := by
  unfold showCount
  try dsimp only
  repeat' split
  all_goals simp [Keeps, id emit_keeps, id modPout_keeps]
theorem execDividedOutputEmit_keeps (k : Fin 4) (s : State) : OutKeeps s (execDividedOutputEmit k s) := by
  unfold execDividedOutputEmit
  try dsimp only
  repeat' split
  all_goals simp [Keeps, id modPout_keeps, id showCount_keeps]
theorem poutTick_keeps (k : Nat) (s : State) : Keeps s (poutTick k s) := by
  unfold poutTick
  try dsimp only
  repeat' split
  all_goals simp [Keeps, id modPout_keeps]
theorem fireCmp_keeps (u : Nat) (late fwd : Bool) (time angle : Nat) (s : State) : Keeps s (fireCmp u late fwd time angle s) := by
  unfold fireCmp
  try dsimp only
  repeat' split
  all_goals simp [Keeps, id emit_keeps, id modCmp_keeps, id modPout_keeps, id recordLimited_keeps]
theorem fireHit_keeps (u : Nat) (s : State) : Keeps s (fireHit u s) := by
  unfold fireHit
  try dsimp only
  repeat' split
  all_goals simp [Keeps, id fireCmp_keeps]
theorem loseAngle_keeps (p m : Nat) (s : State) : Keeps s (loseAngle p m s) := by
  unfold loseAngle
  try dsimp only
  repeat' split
  all_goals simp [Keeps, id handToObserver_keeps, id raiseFault_keeps]
theorem abortUnits_keeps (p : Nat) (s : State) : Keeps s (abortUnits p s) := by
  unfold abortUnits
  try dsimp only
  repeat' split
  all_goals simp [Keeps, id fireHit_keeps, id modCmp_keeps]
theorem recordFaulty_keeps (cause p : Nat) (s : State) : Keeps s (recordFaulty cause p s).2 := by
  unfold recordFaulty
  try dsimp only
  repeat' split
  all_goals simp [Keeps, id recordEvent_keeps]
theorem actFaulty_keeps (p : Nat) (e : Esn) (s : State) : Keeps s (actFaulty p e s) := by
  unfold actFaulty
  try dsimp only
  repeat' split
  all_goals simp [Keeps, id abortUnits_keeps, id loseAngle_keeps, id modPos_keeps, id reactSrc_keeps, id stopPouts_keeps]
theorem declareFaulty_keeps (cause p : Nat) (s : State) : Keeps s (declareFaulty cause p s) := by
  unfold declareFaulty
  try dsimp only
  repeat' split
  all_goals simp [Keeps, id actFaulty_keeps, id recordFaulty_keeps]
theorem posFault_keeps (code p : Nat) (s : State) : Keeps s (posFault code p s) := by
  unfold posFault
  try dsimp only
  repeat' split
  all_goals simp [Keeps, id actFaulty_keeps, id reactSrc_keeps, id recordEvent_keeps, id recordFaulty_keeps]
theorem failCheck_keeps (p : Nat) (s : State) : Keeps s (failCheck p s) := by
  unfold failCheck
  try dsimp only
  repeat' split
  all_goals simp [Keeps, id modPos_keeps]
theorem execInterfaceRecovery_keeps (p : Fin 8) (s : State) : OutKeeps s (execInterfaceRecovery p s) := by
  unfold execInterfaceRecovery
  try dsimp only
  repeat' split
  all_goals simp [Keeps, id initPos_keeps]
theorem acceptEdge_keeps (p : Nat) (delta : Int) (s : State) : Keeps s (acceptEdge p delta s) := by
  unfold acceptEdge
  try dsimp only
  repeat' split
  all_goals simp [Keeps, id feedPouts_keeps, id modPos_keeps]
theorem edgeAngle_keeps (p theta : Nat) (s : State) : Keeps s (edgeAngle p theta s) := by
  unfold edgeAngle
  try dsimp only
  repeat' split
  all_goals simp [Keeps, id compareUnits_keeps, id modPos_keeps]
theorem countEdge_keeps (p : Nat) (delta : Int) (s : State) : Keeps s (countEdge p delta s) := by
  unfold countEdge
  try dsimp only
  repeat' split
  all_goals simp [Keeps, id acceptEdge_keeps, id edgeAngle_keeps]
theorem takeIndex_keeps (p : Nat) (s : State) : Keeps s (takeIndex p s) := by
  unfold takeIndex
  try dsimp only
  repeat' split
  all_goals simp [Keeps, id failCheck_keeps, id modPos_keeps, id note_keeps, id posFault_keeps]
theorem execIndexMark_keeps (p : Fin 8) (s : State) : OutKeeps s (execIndexMark p s) := by
  unfold execIndexMark
  try dsimp only
  repeat' split
  all_goals simp [Keeps, id takeIndex_keeps]
theorem countBad_keeps (code p : Nat) (s : State) : Keeps s (countBad code p s) := by
  unfold countBad
  try dsimp only
  repeat' split
  all_goals simp [Keeps, id failCheck_keeps, id modPos_keeps, id note_keeps]
theorem takeLevels_keeps (p : Nat) (a b : Bool) (s : State) : Keeps s (takeLevels p a b s) := by
  unfold takeLevels
  try dsimp only
  repeat' split
  all_goals simp [Keeps, id countBad_keeps, id countEdge_keeps, id modPos_keeps]
theorem execQuadEdge_keeps (p : Fin 8) (a b : Bool) (held : Nat) (s : State) : OutKeeps s (execQuadEdge p a b held s) := by
  unfold execQuadEdge
  try dsimp only
  repeat' split
  all_goals simp [Keeps, id takeLevels_keeps]
theorem execIllegalTransition_keeps (p : Fin 8) (held : Nat) (z : Bool) (s : State) : OutKeeps s (execIllegalTransition p held z s) := by
  unfold execIllegalTransition
  try dsimp only
  repeat' split
  all_goals simp [Keeps, id failCheck_keeps, id modPos_keeps, id takeIndex_keeps, id takeLevels_keeps]
theorem execIllegalEventLimit_keeps (p : Fin 8) (s : State) : OutKeeps s (execIllegalEventLimit p s) := by
  unfold execIllegalEventLimit
  try dsimp only
  repeat' split
  all_goals simp [Keeps, id declareFaulty_keeps]
theorem badHall_keeps (p : Nat) (state : BitVec 3) (s : State) : Keeps s (badHall p state s) := by
  unfold badHall
  try dsimp only
  repeat' split
  all_goals simp [Keeps, id countBad_keeps, id modPos_keeps]
theorem enterSector_keeps (p k : Nat) (state : BitVec 3) (fwd : Bool) (s : State) : Keeps s (enterSector p k state fwd s) := by
  unfold enterSector
  try dsimp only
  repeat' split
  all_goals simp [Keeps, id acceptEdge_keeps, id edgeAngle_keeps, id modPos_keeps]
theorem takeHall_keeps (p : Nat) (state : BitVec 3) (s : State) : Keeps s (takeHall p state s) := by
  unfold takeHall
  try dsimp only
  repeat' split
  all_goals simp [Keeps, id badHall_keeps, id enterSector_keeps, id modPos_keeps]
theorem watchHall_keeps (p : Nat) (state : BitVec 3) (s : State) : Keeps s (watchHall p state s) := by
  unfold watchHall
  try dsimp only
  repeat' split
  all_goals simp [Keeps, id failCheck_keeps, id modPos_keeps]
theorem execHallEdge_keeps (p : Fin 8) (state : BitVec 3) (heldUs : Nat) (s : State) : OutKeeps s (execHallEdge p state heldUs s) := by
  unfold execHallEdge
  try dsimp only
  repeat' split
  all_goals simp [Keeps, id takeHall_keeps, id watchHall_keeps]
theorem execHallInvalid_keeps (p : Fin 8) (state : BitVec 3) (heldUs : Nat) (s : State) : OutKeeps s (execHallInvalid p state heldUs s) := by
  unfold execHallInvalid
  try dsimp only
  repeat' split
  all_goals simp [Keeps, id badHall_keeps, id watchHall_keeps]
theorem execHallInvalidHeld_keeps (p : Fin 8) (s : State) : OutKeeps s (execHallInvalidHeld p s) := by
  unfold execHallInvalidHeld
  try dsimp only
  repeat' split
  all_goals simp [Keeps, id declareFaulty_keeps]
theorem takePair_keeps (p : Nat) (raw : Int × Int) (s : State) : Keeps s (takePair p raw s) := by
  unfold takePair
  try dsimp only
  repeat' split
  all_goals simp [Keeps, id failCheck_keeps, id modPos_keeps, id posFault_keeps]
theorem execAmplitudeWindowFault_keeps (p : Fin 8) (pairs : List (Int × Int)) (s : State) : OutKeeps s (execAmplitudeWindowFault p pairs s) := by
  unfold execAmplitudeWindowFault
  try dsimp only
  repeat' split
  all_goals simp [Keeps, id takePair_keeps]
theorem takePeriod_keeps (p : Nat) (o : Nat × Nat) (s : State) : Keeps s (takePeriod p o s) := by
  unfold takePeriod
  try dsimp only
  repeat' split
  all_goals simp [Keeps, id failCheck_keeps, id modPos_keeps, id posFault_keeps]
theorem execExcitationFault_keeps (p : Fin 8) (periods : List (Nat × Nat)) (s : State) : OutKeeps s (execExcitationFault p periods s) := by
  unfold execExcitationFault
  try dsimp only
  repeat' split
  all_goals simp [Keeps, id takePeriod_keeps]
theorem trackStep_keeps (p : Nat) (s : State) : Keeps s (trackStep p s) := by
  unfold trackStep
  try dsimp only
  repeat' split
  all_goals simp [Keeps, id compareUnits_keeps, id feedPouts_keeps, id modPos_keeps]
theorem trackTick_keeps (p : Nat) (s : State) : Keeps s (trackTick p s) := by
  unfold trackTick
  try dsimp only
  repeat' split
  all_goals simp [Keeps, id trackStep_keeps]
theorem execInputFrequencyLimit_keeps (p : Fin 8) (s : State) : OutKeeps s (execInputFrequencyLimit p s) := by
  unfold execInputFrequencyLimit
  try dsimp only
  repeat' split
  all_goals simp [Keeps, id failCheck_keeps, id posFault_keeps]
theorem execTrackingLock_keeps (p : Fin 8) (phase : Nat) (s : State) : OutKeeps s (execTrackingLock p phase s) := by
  unfold execTrackingLock
  try dsimp only
  repeat' split
  all_goals simp [Keeps, id modPos_keeps]
theorem passSpeed_keeps (p : Nat) (s : State) : Keeps s (passSpeed p s) := by
  unfold passSpeed
  try dsimp only
  repeat' split
  all_goals simp [Keeps, id modMach_keeps]
theorem measureSpeed_keeps (f p tEnd : Nat) (s : State) : Keeps s (measureSpeed f p tEnd s) := by
  unfold measureSpeed
  try dsimp only
  repeat' split
  all_goals simp [Keeps, id modPos_keeps]
theorem execSpeedWindow_keeps (p : Fin 8) (s : State) : OutKeeps s (execSpeedWindow p s) := by
  unfold execSpeedWindow
  try dsimp only
  repeat' split
  all_goals simp [Keeps, id drawFree_keeps, id measureSpeed_keeps, id modPos_keeps, id passSpeed_keeps]
theorem execSpeedZeroTimeout_keeps (p : Fin 8) (s : State) : OutKeeps s (execSpeedZeroTimeout p s) := by
  unfold execSpeedZeroTimeout
  try dsimp only
  repeat' split
  all_goals simp [Keeps, id modPos_keeps, id passSpeed_keeps]
theorem loadCmp_keeps (u target : Nat) (rep : Bool) (s : State) : Keeps s (loadCmp u target rep s) := by
  unfold loadCmp
  try dsimp only
  repeat' split
  all_goals simp [Keeps, id fireCmp_keeps, id modCmp_keeps]
theorem execCompareLoad_keeps (u : Fin 16) (s : State) : OutKeeps s (execCompareLoad u s) := by
  unfold execCompareLoad
  try dsimp only
  repeat' split
  all_goals simp [Keeps, id fireHit_keeps, id loadCmp_keeps]
theorem execCompareFire_keeps (u : Fin 16) (s : State) : OutKeeps s (execCompareFire u s) := by
  unfold execCompareFire
  try dsimp only
  repeat' split
  all_goals simp [Keeps, id fireHit_keeps]
theorem execCompareRearm_keeps (u : Fin 16) (s : State) : OutKeeps s (execCompareRearm u s) := by
  unfold execCompareRearm
  try dsimp only
  repeat' split
  all_goals simp [Keeps, id modCmp_keeps]
theorem opCmpArm_keeps (t : Nat) (unit form : Byte) (target : U32) (s : State) : Keeps s (opCmpArm t unit form target s) := by
  unfold opCmpArm
  try dsimp only
  repeat' split
  all_goals simp [Keeps, id finish_keeps, id fireHit_keeps, id modCmp_keeps, id refuse_keeps]
theorem opCmpStatus_keeps (t : Nat) (unit : Byte) (s : State) : Keeps s (opCmpStatus t unit s) := by
  unfold opCmpStatus
  try dsimp only
  repeat' split
  all_goals simp [Keeps, id finish_keeps, id refuse_keeps]
theorem execCmpArm_keeps (h : Hdr) (unit form : Byte) (target : U32) (s : State) : OutKeeps s (execCmpArm h unit form target s) := by
  unfold execCmpArm
  try dsimp only
  repeat' split
  all_goals simp [Keeps, id opCmpArm_keeps]
theorem execCmpStatus_keeps (h : Hdr) (unit : Byte) (s : State) : OutKeeps s (execCmpStatus h unit s) := by
  unfold execCmpStatus
  try dsimp only
  repeat' split
  all_goals simp [Keeps, id opCmpStatus_keeps]

/-! ### Machine/System.lean -/

theorem opIdentify_keeps (t : Nat) (s : State) : Keeps s (opIdentify t s) := by
  unfold opIdentify
  try dsimp only
  repeat' split
  all_goals simp [Keeps, id finish_keeps]
theorem opGetState_keeps (t : Nat) (s : State) : Keeps s (opGetState t s) := by
  unfold opGetState
  try dsimp only
  repeat' split
  all_goals simp [Keeps, id drawFree_keeps, id finish_keeps]
theorem opServiceEnter_keeps (t : Nat) (s : State) : Keeps s (opServiceEnter t s) := by
  unfold opServiceEnter
  try dsimp only
  repeat' split
  all_goals simp [Keeps, id finish_keeps, id noteService_keeps, id refuse_keeps]
theorem opServiceLeave_keeps (t : Nat) (s : State) : Keeps s (opServiceLeave t s) := by
  unfold opServiceLeave
  try dsimp only
  repeat' split
  all_goals simp [Keeps, id finish_keeps, id refuse_keeps]
theorem opReset_keeps (t : Nat) (arg : Byte) (s : State) : Keeps s (opReset t arg s) := by
  unfold opReset
  try dsimp only
  repeat' split
  all_goals simp [Keeps, id finish_keeps, id refuse_keeps]
theorem opCtxQuery_keeps (t : Nat) (tag : Byte) (s : State) : Keeps s (opCtxQuery t tag s) := by
  unfold opCtxQuery
  try dsimp only
  repeat' split
  all_goals simp [Keeps, id finish_keeps, id refuse_keeps]
theorem execIdentify_keeps (h : Hdr) (s : State) : OutKeeps s (execIdentify h s) := by
  unfold execIdentify
  try dsimp only
  repeat' split
  all_goals simp [Keeps, id opIdentify_keeps]
theorem execGetState_keeps (h : Hdr) (s : State) : OutKeeps s (execGetState h s) := by
  unfold execGetState
  try dsimp only
  repeat' split
  all_goals simp [Keeps, id opGetState_keeps]
theorem execSetOpModeEnter_keeps (h : Hdr) (s : State) : OutKeeps s (execSetOpModeEnter h s) := by
  unfold execSetOpModeEnter
  try dsimp only
  repeat' split
  all_goals simp [Keeps, id opServiceEnter_keeps]
theorem execSetOpModeLeave_keeps (h : Hdr) (s : State) : OutKeeps s (execSetOpModeLeave h s) := by
  unfold execSetOpModeLeave
  try dsimp only
  repeat' split
  all_goals simp [Keeps, id opServiceLeave_keeps]
theorem execReset_keeps (h : Hdr) (arg : Byte) (s : State) : OutKeeps s (execReset h arg s) := by
  unfold execReset
  try dsimp only
  repeat' split
  all_goals simp [Keeps, id opReset_keeps]
theorem execCtxQuery_keeps (h : Hdr) (tag : Byte) (s : State) : OutKeeps s (execCtxQuery h tag s) := by
  unfold execCtxQuery
  try dsimp only
  repeat' split
  all_goals simp [Keeps, id opCtxQuery_keeps]

end Sys2Proof.Machine
end

