-- ==== Sys2Proof/Laws/FramePower.lean ====
section
/-! SUPPORT. One lemma per function: the same for power, clock, island, sensing and DC-link functions and their commands. -/

namespace Sys2Proof.Machine

set_option linter.unusedTactic false
set_option linter.unusedSimpArgs false

/-! ### Machine/Power.lean -/

theorem loseNetwork_keeps (keep : Bool) (s : State) : Keeps s (loseNetwork keep s) := by
  unfold loseNetwork
  try dsimp only
  repeat' split
  all_goals simp [Keeps, id closeSession_keeps]
theorem startCan_keeps (s : State) : Keeps s (startCan s) := by
  unfold startCan
  try dsimp only
  repeat' split
  all_goals simp [Keeps]
theorem loseFe_keeps (n : Nat) (keep : Bool) (s : State) : Keeps s (loseFe n keep s) := by
  unfold loseFe
  try dsimp only
  repeat' split
  all_goals simp [Keeps, id modBridge_keeps, id modChan_keeps, id modMach_keeps, id modPos_keeps, id stopPouts_keeps, id switchesOff_keeps]
theorem leaveOn_keeps (n : Nat) (keep : Bool) (s : State) : Keeps s (leaveOn n keep s) := by
  unfold leaveOn
  try dsimp only
  repeat' split
  all_goals simp [Keeps, id choppersOff_keeps, id loseFe_keeps, id loseNetwork_keeps]
theorem retrain_keeps (c : Nat) (s : State) : Keeps s (retrain c s) := by
  unfold retrain
  try dsimp only
  repeat' split
  all_goals simp [Keeps, id drawFree_keeps, id modChan_keeps]
theorem returnFe_keeps (b : Nat) (s : State) : Keeps s (returnFe b s) := by
  unfold returnFe
  try dsimp only
  repeat' split
  all_goals simp [Keeps, id initPos_keeps, id modBridge_keeps, id retrain_keeps]
theorem domainOn_keeps (n : Nat) (s : State) : Keeps s (domainOn n s) := by
  unfold domainOn
  try dsimp only
  repeat' split
  all_goals simp [Keeps, id modDom_keeps, id returnFe_keeps, id startCan_keeps]
theorem changeDomain_keeps (n req hold : Nat) (s : State) : Keeps s (changeDomain n req hold s) := by
  unfold changeDomain
  try dsimp only
  repeat' split
  all_goals simp [Keeps, id leaveOn_keeps, id modDom_keeps]
theorem requestDomain_keeps (n req hold : Nat) (s : State) : Keeps s (requestDomain n req hold s) := by
  unfold requestDomain
  try dsimp only
  repeat' split
  all_goals simp [Keeps, id changeDomain_keeps, id modDom_keeps]
theorem execDomCtlRequest_keeps (n : Fin 16) (req : BitVec 2) (hold : U16) (s : State) : OutKeeps s (execDomCtlRequest n req hold s) := by
  unfold execDomCtlRequest
  try dsimp only
  repeat' split
  all_goals simp [Keeps, id requestDomain_keeps]
theorem opDomainSet_keeps (t : Nat) (domain request : Byte) (hold : U16) (s : State) : Keeps s (opDomainSet t domain request hold s) := by
  unfold opDomainSet
  try dsimp only
  repeat' split
  all_goals simp [Keeps, id finish_keeps, id refuse_keeps, id requestDomain_keeps]
theorem returnD5_keeps (s : State) : Keeps s (returnD5 s) := by
  unfold returnD5
  try dsimp only
  repeat' split
  all_goals simp [Keeps, id changeDomain_keeps]
theorem execD5HoldExpiry_keeps (cause : D5Return) (ms : Nat) (s : State) : OutKeeps s (execD5HoldExpiry cause ms s) := by
  unfold execD5HoldExpiry
  try dsimp only
  repeat' split
  all_goals simp [Keeps, id returnD5_keeps]
theorem wakeFailed_keeps (n : Nat) (s : State) : Keeps s (wakeFailed n s) := by
  unfold wakeFailed
  try dsimp only
  repeat' split
  all_goals simp [Keeps, id addLockout_keeps, id allocEsn_keeps, id openContactors_keeps, id override_keeps, id raise0508_keeps, id recordEvent_keeps]
theorem noteWake_keeps (n : Nat) (s : State) : Keeps s (noteWake n s) := by
  unfold noteWake
  try dsimp only
  repeat' split
  all_goals simp [Keeps, id note_keeps]
theorem writeHeldWakes_keeps (s : State) : Keeps s (writeHeldWakes s) := by
  unfold writeHeldWakes
  try dsimp only
  repeat' split
  all_goals simp [Keeps, id recordAt_keeps]
theorem execDomainWakeDeadline_keeps (dom : Fin 16) (ticks : Nat) (regAt : Option Nat) (s : State) : OutKeeps s (execDomainWakeDeadline dom ticks regAt s) := by
  unfold execDomainWakeDeadline
  try dsimp only
  repeat' split
  all_goals simp [Keeps, id domainOn_keeps, id modDom_keeps, id noteWake_keeps, id wakeFailed_keeps]
theorem execDomainWakeRetry_keeps (dom : Fin 16) (ticks : Nat) (s : State) : OutKeeps s (execDomainWakeRetry dom ticks s) := by
  unfold execDomainWakeRetry
  try dsimp only
  repeat' split
  all_goals simp [Keeps, id modDom_keeps]
theorem execRetentionRestore_keeps (dom : Fin 16) (crcOk : Bool) (s : State) : OutKeeps s (execRetentionRestore dom crcOk s) := by
  unfold execRetentionRestore
  try dsimp only
  repeat' split
  all_goals simp [Keeps, id leaveOn_keeps, id modDom_keeps, id note_keeps, id returnFe_keeps, id startCan_keeps]
theorem execFeRestoreComplete_keeps (n : Fin 8) (us : Nat) (s : State) : OutKeeps s (execFeRestoreComplete n us s) := by
  unfold execFeRestoreComplete
  try dsimp only
  repeat' split
  all_goals simp [Keeps, id modDom_keeps, id returnFe_keeps]
theorem assignBridge_keeps (b : Nat) (s : State) : Keeps s (assignBridge b s) := by
  unfold assignBridge
  try dsimp only
  repeat' split
  all_goals simp [Keeps, id modBridge_keeps]
theorem switchFe_keeps (before s : State) : Keeps s (switchFe before s) := by
  unfold switchFe
  try dsimp only
  repeat' split
  all_goals simp [Keeps, id assignBridge_keeps, id changeDomain_keeps, id requestDomain_keeps]
theorem requestMain_keeps (point : Nat) (s : State) : Keeps s (requestMain point s) := by
  unfold requestMain
  try dsimp only
  repeat' split
  all_goals simp [Keeps, id seekMain_keeps]
theorem requestMon_keeps (point : Nat) (s : State) : Keeps s (requestMon point s) := by
  unfold requestMon
  try dsimp only
  repeat' split
  all_goals simp [Keeps, id seekMon_keeps]
theorem execOpPointRegRequest_keeps (pair : Pair) (point : BitVec 2) (s : State) : OutKeeps s (execOpPointRegRequest pair point s) := by
  unfold execOpPointRegRequest
  try dsimp only
  repeat' split
  all_goals simp [Keeps, id requestMain_keeps, id requestMon_keeps]
theorem opOpPoint_keeps (t : Nat) (pair point : Byte) (s : State) : Keeps s (opOpPoint t pair point s) := by
  unfold opOpPoint
  try dsimp only
  repeat' split
  all_goals simp [Keeps, id finish_keeps, id refuse_keeps, id requestMain_keeps, id requestMon_keeps]
theorem settleMain_keeps (point : Nat) (s : State) : Keeps s (settleMain point s) := by
  unfold settleMain
  try dsimp only
  repeat' split
  all_goals simp [Keeps, id seekMain_keeps]
theorem resumeArm_keeps (m : Nat) (s : State) : Keeps s (resumeArm m s) := by
  unfold resumeArm
  try dsimp only
  repeat' split
  all_goals simp [Keeps, id finishOpt_keeps, id freshArm_keeps, id modMach_keeps, id startPrecharge_keeps]
theorem settleMon_keeps (point : Nat) (s : State) : Keeps s (settleMon point s) := by
  unfold settleMon
  try dsimp only
  repeat' split
  all_goals simp [Keeps, id cascadeHold_keeps, id resumeArm_keeps, id seekMon_keeps]
theorem execOpPointTransitionDone_keeps (pair : Pair) (s : State) : OutKeeps s (execOpPointTransitionDone pair s) := by
  unfold execOpPointTransitionDone
  try dsimp only
  repeat' split
  all_goals simp [Keeps, id settleMain_keeps, id settleMon_keeps]
theorem execOpPointOverrun_keeps (pair : Pair) (us : Nat) (s : State) : OutKeeps s (execOpPointOverrun pair us s) := by
  unfold execOpPointOverrun
  try dsimp only
  repeat' split
  all_goals simp [Keeps, id note_keeps, id settleMain_keeps, id settleMon_keeps]
theorem execDomainSet_keeps (h : Hdr) (domain request : Byte) (hold : U16) (s : State) : OutKeeps s (execDomainSet h domain request hold s) := by
  unfold execDomainSet
  try dsimp only
  repeat' split
  all_goals simp [Keeps, id opDomainSet_keeps]
theorem execOpPoint_keeps (h : Hdr) (pair point : Byte) (s : State) : OutKeeps s (execOpPoint h pair point s) := by
  unfold execOpPoint
  try dsimp only
  repeat' split
  all_goals simp [Keeps, id opOpPoint_keeps]

/-! ### Machine/Clocks.lean -/

theorem takeRef_keeps (p : Pll) (code : Nat) (s : State) : Keeps s (takeRef p code s) := by
  unfold takeRef
  try dsimp only
  repeat' split
  all_goals simp [Keeps]
theorem writeSel_keeps (value : Nat) (p : Pll) (s : State) : Keeps s (writeSel value p s) := by
  unfold writeSel
  try dsimp only
  repeat' split
  all_goals simp [Keeps, id takeRef_keeps]
theorem writeClkSel_keeps (value : Nat) (s : State) : Keeps s (writeClkSel value s) := by
  unfold writeClkSel
  try dsimp only
  repeat' split
  all_goals simp [Keeps, id writeSel_keeps]
theorem execClkSelWrite_keeps (value : U32) (s : State) : OutKeeps s (execClkSelWrite value s) := by
  unfold execClkSelWrite
  try dsimp only
  repeat' split
  all_goals simp [Keeps, id writeClkSel_keeps]
theorem execClockSwitchForced_keeps (oldEdge : Option Nat) (s : State) : OutKeeps s (execClockSwitchForced oldEdge s) := by
  unfold execClockSwitchForced
  try dsimp only
  repeat' split
  all_goals simp [Keeps, id note_keeps]
theorem restorePll_keeps (p : Pll) (s : State) : Keeps s (restorePll p s) := by
  unfold restorePll
  try dsimp only
  repeat' split
  all_goals simp [Keeps, id takeRef_keeps]
theorem execSourceReady_keeps (src : ClkSrc) (us : Nat) (s : State) : OutKeeps s (execSourceReady src us s) := by
  unfold execSourceReady
  try dsimp only
  repeat' split
  all_goals simp [Keeps, id reselect_keeps, id restorePll_keeps]
theorem execPllCoast_keeps (pll : Pll) (missing : Nat) (s : State) : OutKeeps s (execPllCoast pll missing s) := by
  unfold execPllCoast
  try dsimp only
  repeat' split
  all_goals simp [Keeps, id note_keeps]
theorem fallback_moved_keeps (p : Pll) (code : Nat) (s : State) : Keeps s (fallback.moved p code s) := by
  unfold fallback.moved
  try dsimp only
  repeat' split
  all_goals simp [Keeps, id takeRef_keeps]
theorem fallback_keeps (src : ClkSrc) (p : Pll) (s : State) : Keeps s (fallback src p s) := by
  unfold fallback
  try dsimp only
  repeat' split
  all_goals simp [Keeps, id fallback_moved_keeps, id takeRef_keeps]
theorem execClockSourceFail_keeps (src : ClkSrc) (missing : Nat) (ppm : Int) (s : State) : OutKeeps s (execClockSourceFail src missing ppm s) := by
  unfold execClockSourceFail
  try dsimp only
  repeat' split
  all_goals simp [Keeps, id fallback_keeps]
theorem execClockFailHandling_keeps (src : ClkSrc) (s : State) : OutKeeps s (execClockFailHandling src s) := by
  unfold execClockFailHandling
  try dsimp only
  repeat' split
  all_goals simp [Keeps, id note_keeps, id raiseFault_keeps]
theorem execClockLossSevere_keeps (pll : Pll) (kind : SevereKind) (s : State) : OutKeeps s (execClockLossSevere pll kind s) := by
  unfold execClockLossSevere
  try dsimp only
  repeat' split
  all_goals simp [Keeps, id raiseFault_keeps]
theorem execClockRestore_keeps (s : State) : OutKeeps s (execClockRestore s) := by
  unfold execClockRestore
  try dsimp only
  repeat' split
  all_goals simp [Keeps, id restorePll_keeps]
theorem openGate_keeps (bit : Nat) (s : State) : Keeps s (openGate bit s) := by
  unfold openGate
  try dsimp only
  repeat' split
  all_goals simp [Keeps]
theorem closeGate_keeps (bit : Nat) (idle : Bool) (s : State) : Keeps s (closeGate bit idle s) := by
  unfold closeGate
  try dsimp only
  repeat' split
  all_goals simp [Keeps]
theorem execClkGateOpen_keeps (bit : Fin 32) (s : State) : OutKeeps s (execClkGateOpen bit s) := by
  unfold execClkGateOpen
  try dsimp only
  repeat' split
  all_goals simp [Keeps, id openGate_keeps]
theorem execClkGateClose_keeps (bit : Fin 32) (idleAt : Nat) (s : State) : OutKeeps s (execClkGateClose bit idleAt s) := by
  unfold execClkGateClose
  try dsimp only
  repeat' split
  all_goals simp [Keeps, id closeGate_keeps]
theorem execGateCloseForced_keeps (bit : Fin 32) (idleAt : Option Nat) (s : State) : OutKeeps s (execGateCloseForced bit idleAt s) := by
  unfold execGateCloseForced
  try dsimp only
  repeat' split
  all_goals simp [Keeps, id note_keeps]
theorem fmBegin_keeps (s : State) : Keeps s (fmBegin s) := by
  unfold fmBegin
  try dsimp only
  repeat' split
  all_goals simp [Keeps]
theorem fmFinish_keeps (status : U16) (data : List Byte) (s : State) : Keeps s (fmFinish status data s) := by
  unfold fmFinish
  try dsimp only
  repeat' split
  all_goals simp [Keeps, id finishOpt_keeps]
theorem execFmStart_keeps (s : State) : OutKeeps s (execFmStart s) := by
  unfold execFmStart
  try dsimp only
  repeat' split
  all_goals simp [Keeps, id fmBegin_keeps]
theorem opFreqMeasure_keeps (t : Nat) (inSel refSel : Byte) (nRef : U32) (s : State) : Keeps s (opFreqMeasure t inSel refSel nRef s) := by
  unfold opFreqMeasure
  try dsimp only
  repeat' split
  all_goals simp [Keeps, id accept_keeps, id fmBegin_keeps, id fmFinish_keeps, id refuse_keeps]
theorem execFreqMeasureDone_keeps (nIn : Nat) (s : State) : OutKeeps s (execFreqMeasureDone nIn s) := by
  unfold execFreqMeasureDone
  try dsimp only
  repeat' split
  all_goals simp [Keeps, id drawFree_keeps, id fmFinish_keeps]
theorem execFreqMeasureSrcOff_keeps (s : State) : OutKeeps s (execFreqMeasureSrcOff s) := by
  unfold execFreqMeasureSrcOff
  try dsimp only
  repeat' split
  all_goals simp [Keeps, id fmFinish_keeps]
theorem execFreqMeasure_keeps (h : Hdr) (inSel refSel : Byte) (nRef : U32) (s : State) : OutKeeps s (execFreqMeasure h inSel refSel nRef s) := by
  unfold execFreqMeasure
  try dsimp only
  repeat' split
  all_goals simp [Keeps, id opFreqMeasure_keeps]

/-! ### Machine/Islands.lean -/

theorem gateDown_keeps (soft : Bool) (c : Nat) (s : State) : Keeps s (gateDown soft c s) := by
  unfold gateDown
  try dsimp only
  repeat' split
  all_goals simp [Keeps, id modChan_keeps, id offCmd_keeps]
theorem seeIsland_keeps (now : IslandNow) (c : Nat) (s : State) : Keeps s (seeIsland now c s) := by
  unfold seeIsland
  try dsimp only
  repeat' split
  all_goals simp [Keeps, id modChan_keeps]
theorem latchOff_keeps (code : Nat) (soft : Bool) (sense gate : Int) (c : Nat) (s : State) : Keeps s (latchOff code soft sense gate c s) := by
  unfold latchOff
  try dsimp only
  repeat' split
  all_goals simp [Keeps, id gateDown_keeps, id latchIsland_keeps]
theorem reportIsland_keeps (code c : Nat) (s : State) : Keeps s (reportIsland code c s) := by
  unfold reportIsland
  try dsimp only
  repeat' split
  all_goals simp [Keeps, id raise0508_keeps, id react_keeps, id recordAt_keeps]
theorem execDesaturation_keeps (ch : ChanIx) (senseMv sinceOnNs heldNs : Nat) (gmon : Bool) (now : IslandNow) (s : State) : OutKeeps s (execDesaturation ch senseMv sinceOnNs heldNs gmon now s) := by
  unfold execDesaturation
  try dsimp only
  repeat' split
  all_goals simp [Keeps, id actLatch_keeps, id gateDown_keeps, id latchOff_keeps, id seeIsland_keeps, id setLatch_keeps]
theorem execSoftTurnoffEnd_keeps (ch : ChanIx) (gateMv : Int) (ns : Nat) (s : State) : OutKeeps s (execSoftTurnoffEnd ch gateMv ns s) := by
  unfold execSoftTurnoffEnd
  try dsimp only
  repeat' split
  all_goals simp [Keeps, id modChan_keeps]
theorem execGateMonitorBreach_keeps (ch : ChanIx) (on : Bool) (sinceNs heldNs : Nat) (now : IslandNow) (s : State) : OutKeeps s (execGateMonitorBreach ch on sinceNs heldNs now s) := by
  unfold execGateMonitorBreach
  try dsimp only
  repeat' split
  all_goals simp [Keeps, id latchOff_keeps, id seeIsland_keeps]
theorem execVbpUndervoltage_keeps (ch : ChanIx) (mv : Int) (ns : Nat) (s : State) : OutKeeps s (execVbpUndervoltage ch mv ns s) := by
  unfold execVbpUndervoltage
  try dsimp only
  repeat' split
  all_goals simp [Keeps, id gateDown_keeps, id latchOff_keeps, id modChan_keeps]
theorem execVbpUvloRelease_keeps (ch : ChanIx) (mv : Int) (ns : Nat) (s : State) : OutKeeps s (execVbpUvloRelease ch mv ns s) := by
  unfold execVbpUvloRelease
  try dsimp only
  repeat' split
  all_goals simp [Keeps, id modChan_keeps]
theorem execVbnOutOfRange_keeps (ch : ChanIx) (mv : Int) (ns : Nat) (s : State) : OutKeeps s (execVbnOutOfRange ch mv ns s) := by
  unfold execVbnOutOfRange
  try dsimp only
  repeat' split
  all_goals simp [Keeps, id latchOff_keeps, id modChan_keeps]
theorem markCapoh_keeps (b : Nat) (s : State) : Keeps s (markCapoh b s) := by
  unfold markCapoh
  try dsimp only
  repeat' split
  all_goals simp [Keeps, id modBridge_keeps, id reselect_keeps]
theorem execVbsOk_keeps (leg : Fin 24) (mv : Int) (ns : Nat) (s : State) : OutKeeps s (execVbsOk leg mv ns s) := by
  unfold execVbsOk
  try dsimp only
  repeat' split
  all_goals simp [Keeps, id modChan_keeps, id reselect_keeps]
theorem execVbsWarn_keeps (leg : Fin 24) (mv : Int) (ns : Nat) (s : State) : OutKeeps s (execVbsWarn leg mv ns s) := by
  unfold execVbsWarn
  try dsimp only
  repeat' split
  all_goals simp [Keeps, id modChan_keeps, id reportIsland_keeps]
theorem execVbsWarnClear_keeps (leg : Fin 24) (mv : Int) (ns : Nat) (s : State) : OutKeeps s (execVbsWarnClear leg mv ns s) := by
  unfold execVbsWarnClear
  try dsimp only
  repeat' split
  all_goals simp [Keeps, id modChan_keeps]
theorem execVbsUv_keeps (leg : Fin 24) (mv : Int) (ns : Nat) (s : State) : OutKeeps s (execVbsUv leg mv ns s) := by
  unfold execVbsUv
  try dsimp only
  repeat' split
  all_goals simp [Keeps, id latchOff_keeps, id modChan_keeps]
theorem execHighIslandStartReturn_keeps (leg : Fin 24) (mv : Int) (ns : Nat) (s : State) : OutKeeps s (execHighIslandStartReturn leg mv ns s) := by
  unfold execHighIslandStartReturn
  try dsimp only
  repeat' split
  all_goals simp [Keeps, id gateDown_keeps, id latchOff_keeps, id modChan_keeps, id reselect_keeps]
theorem execBowMeasurement_keeps (leg : Fin 24) (ua : Nat) (vbsMv : Int) (switching : Bool) (s : State) : OutKeeps s (execBowMeasurement leg ua vbsMv switching s) := by
  unfold execBowMeasurement
  try dsimp only
  repeat' split
  all_goals simp [Keeps, id markCapoh_keeps, id modChan_keeps, id reportIsland_keeps]
theorem execBowFailure_keeps (leg : Fin 24) (ua : Nat) (vbsMv : Int) (ms : Nat) (s : State) : OutKeeps s (execBowFailure leg ua vbsMv ms s) := by
  unfold execBowFailure
  try dsimp only
  repeat' split
  all_goals simp [Keeps, id latchIsland_keeps, id markCapoh_keeps, id modBridge_keeps]
theorem refuseOn_keeps (both : Bool) (c : Nat) (s : State) : Keeps s (refuseOn both c s) := by
  unfold refuseOn
  try dsimp only
  repeat' split
  all_goals simp [Keeps, id latchOff_keeps]
theorem onOrRefuse_keeps (c : Nat) (s : State) : Keeps s (onOrRefuse c s) := by
  unfold onOrRefuse
  try dsimp only
  repeat' split
  all_goals simp [Keeps, id modChan_keeps, id onCmd_keeps, id refuseOn_keeps]
theorem execIslandOverlapRefusal_keeps (ch : ChanIx) (kind : OverlapKind) (s : State) : OutKeeps s (execIslandOverlapRefusal ch kind s) := by
  unfold execIslandOverlapRefusal
  try dsimp only
  repeat' split
  all_goals simp [Keeps, id refuseOn_keeps]
theorem islandSeesLoss_keeps (c : Nat) (s : State) : Keeps s (islandSeesLoss c s) := by
  unfold islandSeesLoss
  try dsimp only
  repeat' split
  all_goals simp [Keeps, id gateDown_keeps, id modChan_keeps]
theorem lossAt_keeps (c : Nat) (s : State) : Keeps s (lossAt c s) := by
  unfold lossAt
  try dsimp only
  repeat' split
  all_goals simp [Keeps, id gateDown_keeps, id islandSeesLoss_keeps, id latchOff_keeps]
theorem execIslandLinkLoss_keeps (ch : ChanIx) (link : LinkKind) (carrierNs frames : Nat) (bias : Bool) (s : State) : OutKeeps s (execIslandLinkLoss ch link carrierNs frames bias s) := by
  unfold execIslandLinkLoss
  try dsimp only
  repeat' split
  all_goals simp [Keeps, id forgetUnread_keeps, id lossAt_keeps, id modChan_keeps, id reselect_keeps]
theorem tellLatch_keeps (c : Nat) (l : Latch) (s : State) : Keeps s (tellLatch c l s) := by
  unfold tellLatch
  try dsimp only
  repeat' split
  all_goals simp [Keeps, id actLatch_keeps, id modChan_keeps, id recordAt_keeps]
theorem tellKept_keeps (c : Nat) (s : State) : Keeps s (tellKept c s) := by
  unfold tellKept
  try dsimp only
  repeat' split
  all_goals simp [Keeps, id tellLatch_keeps]
theorem execIslandLinkTrained_keeps (ch : ChanIx) (link : LinkKind) (s : State) : OutKeeps s (execIslandLinkTrained ch link s) := by
  unfold execIslandLinkTrained
  try dsimp only
  repeat' split
  all_goals simp [Keeps, id modChan_keeps, id tellKept_keeps]
theorem execAuxFaultLatch_keeps (aux : Fin 4) (code : U16) (now : IslandNow) (s : State) : OutKeeps s (execAuxFaultLatch aux code now s) := by
  unfold execAuxFaultLatch
  try dsimp only
  repeat' split
  all_goals simp [Keeps, id latchOff_keeps, id seeIsland_keeps]

/-! ### Machine/Sense.lean -/

theorem modBank_keeps (k : Bank) (f : SnsBank → SnsBank) (s : State) : Keeps s (modBank k f s) := by
  unfold modBank
  try dsimp only
  repeat' split
  all_goals simp [Keeps]
theorem tripComparator_keeps (bank : Bank) (input : Nat) (s : State) : Keeps s (tripComparator bank input s) := by
  unfold tripComparator
  try dsimp only
  repeat' split
  all_goals simp [Keeps, id markFreeze_keeps, id modBank_keeps, id raiseFault_keeps]
theorem compareInput_keeps (bank : Bank) (input : Nat) (mv : Int) (s : State) : Keeps s (compareInput bank input mv s) := by
  unfold compareInput
  try dsimp only
  repeat' split
  all_goals simp [Keeps, id modBank_keeps]
theorem execWindowComparatorTrip_keeps (bank : Bank) (input : Fin 24) (mv : Int) (heldNs : Nat) (s : State) : OutKeeps s (execWindowComparatorTrip bank input mv heldNs s) := by
  unfold execWindowComparatorTrip
  try dsimp only
  repeat' split
  all_goals simp [Keeps, id compareInput_keeps, id tripComparator_keeps]
theorem forceComparator_keeps (bank : Bank) (force : Bool) (input : BitVec 5) (s : State) : Keeps s (forceComparator bank force input s) := by
  unfold forceComparator
  try dsimp only
  repeat' split
  all_goals simp [Keeps, id modBank_keeps, id tripComparator_keeps]
theorem execSnsTestForce_keeps (bank : Bank) (force : Bool) (input : BitVec 5) (s : State) : OutKeeps s (execSnsTestForce bank force input s) := by
  unfold execSnsTestForce
  try dsimp only
  repeat' split
  all_goals simp [Keeps, id forceComparator_keeps]
theorem execCurrentSumViolation_keeps (bank : Bank) (b : Fin 8) (s : State) : OutKeeps s (execCurrentSumViolation bank b s) := by
  unfold execCurrentSumViolation
  try dsimp only
  repeat' split
  all_goals simp [Keeps, id modBridge_keeps, id raiseFault_keeps]
theorem execSensorSupplyFault_keeps (bank : Bank) (supplyMv refTenthMv us : Nat) (s : State) : OutKeeps s (execSensorSupplyFault bank supplyMv refTenthMv us s) := by
  unfold execSensorSupplyFault
  try dsimp only
  repeat' split
  all_goals simp [Keeps, id modBank_keeps, id raiseFault_keeps]
theorem markReading_keeps (med v : Int) (b : Nat) (s : State) : Keeps s (markReading med v b s) := by
  unfold markReading
  try dsimp only
  repeat' split
  all_goals simp [Keeps, id modBridge_keeps, id note_keeps]
theorem markPair_keeps (g : Nat) (u v : Int) (s : State) : Keeps s (markPair g u v s) := by
  unfold markPair
  try dsimp only
  repeat' split
  all_goals simp [Keeps, id modLg_keeps, id note_keeps]
theorem heatResistor_keeps (g : Nat) (s : State) : Keeps s (heatResistor g s) := by
  unfold heatResistor
  try dsimp only
  repeat' split
  all_goals simp [Keeps, id modLg_keeps]
theorem loseReadings_keeps (g : Nat) (s : State) : Keeps s (loseReadings g s) := by
  unfold loseReadings
  try dsimp only
  repeat' split
  all_goals simp [Keeps, id modLg_keeps, id raiseFault_keeps]
theorem formVlg_keeps (g : Nat) (vs : List Int) (s : State) : Keeps s (formVlg g vs s) := by
  unfold formVlg
  try dsimp only
  repeat' split
  all_goals simp [Keeps, id modLg_keeps]
theorem markOpt_keeps (med : Int) (v : Option Int) (b : Nat) (s : State) : Keeps s (markOpt med v b s) := by
  unfold markOpt
  try dsimp only
  repeat' split
  all_goals simp [Keeps, id markReading_keeps]
theorem execLinkVoltageFormation_keeps (g : Fin 2) (readings : List (Option Int)) (s : State) : OutKeeps s (execLinkVoltageFormation g readings s) := by
  unfold execLinkVoltageFormation
  try dsimp only
  repeat' split
  all_goals simp [Keeps, id formVlg_keeps, id heatResistor_keeps, id loseReadings_keeps, id markOpt_keeps, id markPair_keeps, id modBridge_keeps]
theorem execOvTrip_keeps (b : Fin 8) (mv : Int) (heldNs : Nat) (s : State) : OutKeeps s (execOvTrip b mv heldNs s) := by
  unfold execOvTrip
  try dsimp only
  repeat' split
  all_goals simp [Keeps, id latchIsland_keeps]
theorem execOvWarn_keeps (g : Fin 2) (us : Nat) (s : State) : OutKeeps s (execOvWarn g us s) := by
  unfold execOvWarn
  try dsimp only
  repeat' split
  all_goals simp [Keeps, id modLg_keeps, id raiseFault_keeps]
theorem execUvLimit_keeps (g : Fin 2) (us : Nat) (s : State) : OutKeeps s (execUvLimit g us s) := by
  unfold execUvLimit
  try dsimp only
  repeat' split
  all_goals simp [Keeps, id modLg_keeps, id raiseFault_keeps]
theorem execChopperOn_keeps (g : Fin 2) (s : State) : OutKeeps s (execChopperOn g s) := by
  unfold execChopperOn
  try dsimp only
  repeat' split
  all_goals simp [Keeps, id setChopper_keeps]
theorem execChopperOff_keeps (g : Fin 2) (s : State) : OutKeeps s (execChopperOff g s) := by
  unfold execChopperOff
  try dsimp only
  repeat' split
  all_goals simp [Keeps, id setChopper_keeps]
theorem execChopperUnavailable_keeps (g : Fin 2) (ifbMv : Int) (s : State) : OutKeeps s (execChopperUnavailable g ifbMv s) := by
  unfold execChopperUnavailable
  try dsimp only
  repeat' split
  all_goals simp [Keeps, id modLg_keeps, id raiseFault_keeps, id setChopper_keeps]
theorem execChopperUncommanded_keeps (g : Fin 2) (ifbMv : Int) (s : State) : OutKeeps s (execChopperUncommanded g ifbMv s) := by
  unfold execChopperUncommanded
  try dsimp only
  repeat' split
  all_goals simp [Keeps, id modLg_keeps, id raiseFault_keeps]
theorem execChopperEnergyLimit_keeps (g : Fin 2) (s : State) : OutKeeps s (execChopperEnergyLimit g s) := by
  unfold execChopperEnergyLimit
  try dsimp only
  repeat' split
  all_goals simp [Keeps, id heatResistor_keeps, id modLg_keeps, id raiseFault_keeps]

/-! ### Machine/Discharge.lean -/

theorem setDischarge_keeps (g : Nat) (on : Bool) (s : State) : Keeps s (setDischarge g on s) := by
  unfold setDischarge
  try dsimp only
  repeat' split
  all_goals simp [Keeps, id driveAux_keeps, id modLg_keeps]
theorem beginDischarge_keeps (g : Nat) (tag : Option Nat) (s : State) : Keeps s (beginDischarge g tag s) := by
  unfold beginDischarge
  try dsimp only
  repeat' split
  all_goals simp [Keeps, id modLg_keeps, id setDischarge_keeps]
theorem endDischarge_keeps (g : Nat) (s : State) : Keeps s (endDischarge g s) := by
  unfold endDischarge
  try dsimp only
  repeat' split
  all_goals simp [Keeps, id endWatch_keeps, id finish_keeps, id modLg_keeps, id setDischarge_keeps, id toIdle_keeps]
theorem armWinding_keeps (g m : Nat) (s : State) : Keeps s (armWinding g m s) := by
  unfold armWinding
  try dsimp only
  repeat' split
  all_goals simp [Keeps, id cascadeHold_keeps, id endPrecharge_keeps, id modLg_keeps, id modMach_keeps, id startPrecharge_keeps]
theorem watchWinding_keeps (m : Nat) (s : State) : Keeps s (watchWinding m s) := by
  unfold watchWinding
  try dsimp only
  repeat' split
  all_goals simp [Keeps, id modMach_keeps]
theorem tryWinding_keeps (g start : Nat) (s : State) : Keeps s (tryWinding g start s) := by
  unfold tryWinding
  try dsimp only
  repeat' split
  all_goals simp [Keeps, id armWinding_keeps, id raise0508_keeps, id watchWinding_keeps]
theorem execDischargeAutoStart_keeps (g : Fin 2) (s : State) : OutKeeps s (execDischargeAutoStart g s) := by
  unfold execDischargeAutoStart
  try dsimp only
  repeat' split
  all_goals simp [Keeps, id beginDischarge_keeps]
theorem execDischargeEnd_keeps (g : Fin 2) (s : State) : OutKeeps s (execDischargeEnd g s) := by
  unfold execDischargeEnd
  try dsimp only
  repeat' split
  all_goals simp [Keeps, id endDischarge_keeps]
theorem execDischargeSwitchFault_keeps (g : Fin 2) (ifbMv : Int) (s : State) : OutKeeps s (execDischargeSwitchFault g ifbMv s) := by
  unfold execDischargeSwitchFault
  try dsimp only
  repeat' split
  all_goals simp [Keeps, id raiseFault_keeps, id setDischarge_keeps, id tryWinding_keeps]
theorem execWindingDischargeEnd_keeps (m : Fin 8) (s : State) : OutKeeps s (execWindingDischargeEnd m s) := by
  unfold execWindingDischargeEnd
  try dsimp only
  repeat' split
  all_goals simp [Keeps, id endDischarge_keeps, id raise0508_keeps, id toIdle_keeps]
theorem execDischargeTimeout_keeps (g : Fin 2) (s : State) : OutKeeps s (execDischargeTimeout g s) := by
  unfold execDischargeTimeout
  try dsimp only
  repeat' split
  all_goals simp [Keeps, id raise0508_keeps]
theorem execContactorPullInEnd_keeps (n : Fin 4) (s : State) : OutKeeps s (execContactorPullInEnd n s) := by
  unfold execContactorPullInEnd
  try dsimp only
  repeat' split
  all_goals simp [Keeps, id modCtd_keeps]
theorem dropContactorTag_keeps (t : Nat) (s : State) : Keeps s (dropContactorTag t s) := by
  unfold dropContactorTag
  try dsimp only
  repeat' split
  all_goals simp [Keeps]
theorem startDischarges_keeps (t : Nat) (s : State) : Keeps s (startDischarges t s) := by
  unfold startDischarges
  try dsimp only
  repeat' split
  all_goals simp [Keeps, id beginDischarge_keeps, id dropContactorTag_keeps, id refuse_keeps]
theorem settleContactors_keeps (t : Nat) (s : State) : Keeps s (settleContactors t s) := by
  unfold settleContactors
  try dsimp only
  repeat' split
  all_goals simp [Keeps, id finish_keeps, id startDischarges_keeps]
theorem execFeedbackConfirmsCommand_keeps (n : Fin 4) (cfb : BitVec 6) (s : State) : OutKeeps s (execFeedbackConfirmsCommand n cfb s) := by
  unfold execFeedbackConfirmsCommand
  try dsimp only
  repeat' split
  all_goals simp [Keeps, id modCtd_keeps, id settleContactors_keeps]
theorem execContactorFeedbackFail_keeps (n : Fin 4) (cfb : BitVec 6) (ms : Nat) (s : State) : OutKeeps s (execContactorFeedbackFail n cfb ms s) := by
  unfold execContactorFeedbackFail
  try dsimp only
  repeat' split
  all_goals simp [Keeps, id dropContactorTag_keeps, id modCtd_keeps, id raiseFault_keeps, id refuse_keeps]
theorem opContactorSet_keeps (t : Nat) (mask command discharge : Byte) (s : State) : Keeps s (opContactorSet t mask command discharge s) := by
  unfold opContactorSet
  try dsimp only
  repeat' split
  all_goals simp [Keeps, id accept_keeps, id commandCtd_keeps, id modCtd_keeps, id modLg_keeps, id refuse_keeps, id settleContactors_keeps]
theorem execContactorSet_keeps (h : Hdr) (mask command discharge : Byte) (s : State) : OutKeeps s (execContactorSet h mask command discharge s) := by
  unfold execContactorSet
  try dsimp only
  repeat' split
  all_goals simp [Keeps, id opContactorSet_keeps]

end Sys2Proof.Machine
end

