-- ==== Sys2Proof/Laws/FrameGuard.lean ====
section
/-! SUPPORT. One lemma per function: the same for trust, soundpost, guard, parameter, standby and start-up functions and their commands. -/

namespace Sys2Proof.Machine

set_option linter.unusedTactic false
set_option linter.unusedSimpArgs false

/-! ### Machine/Trust.lean -/

theorem verifySigned_keeps (t opcode : Nat) (slot form : Byte) (subject : List Byte) (sig : Rsa) (s : State) : Keeps s (verifySigned t opcode slot form subject sig s).2 := by
  unfold verifySigned
  try dsimp only
  repeat' split
  all_goals simp [Keeps, id modSess_keeps]
theorem copyToMonitor_keeps (s : State) : Keeps s (copyToMonitor s) := by
  unfold copyToMonitor
  try dsimp only
  repeat' split
  all_goals simp [Keeps]

/-! ### Machine/Soundpost.lean -/

theorem judgeLatches_keeps (obs : EdgeObs) (c : Nat) (s : State) : Keeps s (judgeLatches obs c s) := by
  unfold judgeLatches
  try dsimp only
  repeat' split
  all_goals simp [Keeps, id modBridge_keeps, id modChan_keeps, id recordAt_keeps]
theorem judgeWindows_keeps (obs : EdgeObs) (s : State) : Keeps s (judgeWindows obs s) := by
  unfold judgeWindows
  try dsimp only
  repeat' split
  all_goals simp [Keeps]
theorem judgeLockout_keeps (present : State → Bool) (k : Lockout) (s : State) : Keeps s (judgeLockout present k s) := by
  unfold judgeLockout
  try dsimp only
  repeat' split
  all_goals simp [Keeps, id modLg_keeps, id modMach_keeps, id note_keeps, id recordEvent_keeps]
theorem dropOverrides_keeps (stays : Ovr → Bool) (b : Nat) (s : State) : Keeps s (dropOverrides stays b s) := by
  unfold dropOverrides
  try dsimp only
  repeat' split
  all_goals simp [Keeps, id modBridge_keeps]
theorem judgeShort_keeps (s : State) : Keeps s (judgeShort s) := by
  unfold judgeShort
  try dsimp only
  repeat' split
  all_goals simp [Keeps, id judgeLockout_keeps, id modBridge_keeps, id releaseBridge_keeps]
theorem seeCauses_keeps (obs : EdgeObs) (s : State) : Keeps s (seeCauses obs s) := by
  unfold seeCauses
  try dsimp only
  repeat' split
  all_goals simp [Keeps]
theorem qualifyingEdge_keeps (obs : EdgeObs) (s : State) : Keeps s (qualifyingEdge obs s) := by
  unfold qualifyingEdge
  try dsimp only
  repeat' split
  all_goals simp [Keeps, id dropOverrides_keeps, id judgeLatches_keeps, id judgeLockout_keeps, id judgeShort_keeps, id judgeWindows_keeps,
      id recordEvent_keeps, id seeCauses_keeps]
theorem execDrvEnRise_keeps (lowTicks : Nat) (obs : EdgeObs) (s : State) : OutKeeps s (execDrvEnRise lowTicks obs s) := by
  unfold execDrvEnRise
  try dsimp only
  repeat' split
  all_goals simp [Keeps, id qualifyingEdge_keeps]
theorem execDrvEnFall_keeps (s : State) : OutKeeps s (execDrvEnFall s) := by
  unfold execDrvEnFall
  try dsimp only
  repeat' split
  all_goals simp [Keeps, id markFreeze_keeps, id override_keeps, id raise0508_keeps]
theorem demand_keeps (ch : StoCh) (s : State) : Keeps s (demand ch s) := by
  unfold demand
  try dsimp only
  repeat' split
  all_goals simp [Keeps, id markFreeze_keeps, id override_keeps, id raise0508_keeps, id react_keeps, id recordEvent_keeps]
theorem lowDemands_keeps (lowUs : Nat) (s : State) : Keeps s (lowDemands lowUs s).2 := by
  unfold lowDemands
  try dsimp only
  repeat' split
  all_goals simp [Keeps, id drawFree_keeps]
theorem execStoDemand_keeps (ch : StoCh) (lowUs : Nat) (s : State) : OutKeeps s (execStoDemand ch lowUs s) := by
  unfold execStoDemand
  try dsimp only
  repeat' split
  all_goals simp [Keeps, id demand_keeps, id lowDemands_keeps]
theorem endDemand_keeps (s : State) : Keeps s (endDemand s) := by
  unfold endDemand
  try dsimp only
  repeat' split
  all_goals simp [Keeps, id dropOverrides_keeps, id judge_keeps, id modBridge_keeps, id releaseBridge_keeps]
theorem execStoDemandEnd_keeps (highUs : Nat) (s : State) : OutKeeps s (execStoDemandEnd highUs s) := by
  unfold execStoDemandEnd
  try dsimp only
  repeat' split
  all_goals simp [Keeps, id endDemand_keeps]
theorem execStoDiscrepancy_keeps (ms : Nat) (s : State) : OutKeeps s (execStoDiscrepancy ms s) := by
  unfold execStoDiscrepancy
  try dsimp only
  repeat' split
  all_goals simp [Keeps, id raiseFault_keeps]
theorem opStoStatus_keeps (t : Nat) (s : State) : Keeps s (opStoStatus t s) := by
  unfold opStoStatus
  try dsimp only
  repeat' split
  all_goals simp [Keeps, id finish_keeps]
theorem endHolds_keeps (m b : Nat) (s : State) : Keeps s (endHolds m b s) := by
  unfold endHolds
  try dsimp only
  repeat' split
  all_goals simp [Keeps, id modBridge_keeps, id releaseBridge_keeps]
theorem writeFast_keeps (m : Nat) (v : Option Int) (s : State) : Keeps s (writeFast m v s) := by
  unfold writeFast
  try dsimp only
  repeat' split
  all_goals simp [Keeps, id endHolds_keeps, id modBridge_keeps, id modMach_keeps, id reselect_keeps]
theorem execFastWrite_keeps (speeds : List SpeedSeen) (s : State) : OutKeeps s (execFastWrite speeds s) := by
  unfold execFastWrite
  try dsimp only
  repeat' split
  all_goals simp [Keeps, id writeFast_keeps]
theorem execActiveShortUnavailable_keeps (b : Fin 8) (s : State) : OutKeeps s (execActiveShortUnavailable b s) := by
  unfold execActiveShortUnavailable
  try dsimp only
  repeat' split
  all_goals simp [Keeps, id modBridge_keeps, id raiseFault_keeps]
theorem opLockoutClear_keeps (t : Nat) (esn : Esn) (slot : Byte) (sig : Rsa) (s : State) : Keeps s (opLockoutClear t esn slot sig s) := by
  unfold opLockoutClear
  try dsimp only
  repeat' split
  all_goals simp [Keeps, id finish_keeps, id refuse_keeps, id verifySigned_keeps]
theorem execClearanceExpiry_keeps (esn : Esn) (s : State) : OutKeeps s (execClearanceExpiry esn s) := by
  unfold execClearanceExpiry
  try dsimp only
  repeat' split
  all_goals simp [Keeps]
theorem opLockoutList_keeps (t : Nat) (s : State) : Keeps s (opLockoutList t s) := by
  unfold opLockoutList
  try dsimp only
  repeat' split
  all_goals simp [Keeps, id finish_keeps]
theorem execLockoutClear_keeps (h : Hdr) (esn : Esn) (slot : Byte) (sig : Rsa) (s : State) : OutKeeps s (execLockoutClear h esn slot sig s) := by
  unfold execLockoutClear
  try dsimp only
  repeat' split
  all_goals simp [Keeps, id opLockoutClear_keeps]
theorem execStoStatus_keeps (h : Hdr) (s : State) : OutKeeps s (execStoStatus h s) := by
  unfold execStoStatus
  try dsimp only
  repeat' split
  all_goals simp [Keeps, id opStoStatus_keeps]
theorem execLockoutList_keeps (h : Hdr) (s : State) : OutKeeps s (execLockoutList h s) := by
  unfold execLockoutList
  try dsimp only
  repeat' split
  all_goals simp [Keeps, id opLockoutList_keeps]

/-! ### Machine/Guard.lean -/

theorem modPair_keeps (p : Pair) (f : PairState → PairState) (s : State) : Keeps s (modPair p f s) := by
  unfold modPair
  try dsimp only
  repeat' split
  all_goals simp [Keeps]
theorem haltPair_keeps (p : Pair) (s : State) : Keeps s (haltPair p s) := by
  unfold haltPair
  try dsimp only
  repeat' split
  all_goals simp [Keeps, id modPair_keeps]
theorem lockstepFault_keeps (code : Nat) (p : Pair) (s : State) : Keeps s (lockstepFault code p s) := by
  unfold lockstepFault
  try dsimp only
  repeat' split
  all_goals simp [Keeps, id haltPair_keeps, id raiseFault_keeps]
theorem execLockstepMismatch_keeps (pair : Pair) (group : Fin 8) (injCycle : Bool) (s : State) : OutKeeps s (execLockstepMismatch pair group injCycle s) := by
  unfold execLockstepMismatch
  try dsimp only
  repeat' split
  all_goals simp [Keeps, id lockstepFault_keeps]
theorem execCheckerFailure_keeps (pair : Pair) (_invalidCode : Bool) (s : State) : OutKeeps s (execCheckerFailure pair _invalidCode s) := by
  unfold execCheckerFailure
  try dsimp only
  repeat' split
  all_goals simp [Keeps, id lockstepFault_keeps]
theorem execRuntimeInjection_keeps (pair : Pair) (flagged : Bool) (s : State) : OutKeeps s (execRuntimeInjection pair flagged s) := by
  unfold execRuntimeInjection
  try dsimp only
  repeat' split
  all_goals simp [Keeps, id lockstepFault_keeps, id modPair_keeps]
theorem releasePair_keeps (p : Pair) (s : State) : Keeps s (releasePair p s) := by
  unfold releasePair
  try dsimp only
  repeat' split
  all_goals simp [Keeps, id modPair_keeps]
theorem monRestarted_keeps (s : State) : Keeps s (monRestarted s) := by
  unfold monRestarted
  try dsimp only
  repeat' split
  all_goals simp [Keeps, id commandCtd_keeps, id modCtd_keeps, id raiseFault_keeps]
theorem execPairRestartDone_keeps (pair : Pair) (inj : Nat) (clean : Bool) (s : State) : OutKeeps s (execPairRestartDone pair inj clean s) := by
  unfold execPairRestartDone
  try dsimp only
  repeat' split
  all_goals simp [Keeps, id modPair_keeps, id monRestarted_keeps, id raiseFault_keeps, id releasePair_keeps]
theorem modHeart_keeps (h : Heart) (f : PairState → PairState) (s : State) : Keeps s (modHeart h f s) := by
  unfold modHeart
  try dsimp only
  repeat' split
  all_goals simp [Keeps, id modPair_keeps]
theorem execHeartbeat_keeps (h : Heart) (seq : Byte) (answer : Byte) (s : State) : OutKeeps s (execHeartbeat h seq answer s) := by
  unfold execHeartbeat
  try dsimp only
  repeat' split
  all_goals simp [Keeps, id drawFree_keeps, id modHeart_keeps]
theorem execHeartbeatMissed_keeps (h : Heart) (dieTicks : Nat) (s : State) : OutKeeps s (execHeartbeatMissed h dieTicks s) := by
  unfold execHeartbeatMissed
  try dsimp only
  repeat' split
  all_goals simp [Keeps, id commandCtd_keeps, id modHeart_keeps, id override_keeps, id raiseFault_keeps]
theorem execSupplyOutOfWindow_keeps (sup : Supply) (mv dieTicks : Nat) (s : State) : OutKeeps s (execSupplyOutOfWindow sup mv dieTicks s) := by
  unfold execSupplyOutOfWindow
  try dsimp only
  repeat' split
  all_goals simp [Keeps, id markFreeze_keeps, id raiseFault_keeps]
theorem execSupplyResetRelease_keeps (sup : Supply) (mv us : Nat) (s : State) : OutKeeps s (execSupplyResetRelease sup mv us s) := by
  unfold execSupplyResetRelease
  try dsimp only
  repeat' split
  all_goals simp [Keeps]
theorem execDieCheck_keeps (answerOk : Bool) (ticks : Nat) (s : State) : OutKeeps s (execDieCheck answerOk ticks s) := by
  unfold execDieCheck
  try dsimp only
  repeat' split
  all_goals simp [Keeps, id raiseFault_keeps]
theorem monView_keeps (s : State) : Keeps s (monView s) := by
  unfold monView
  try dsimp only
  repeat' split
  all_goals simp [Keeps]
theorem raiseTrips_keeps (codes : List Nat) (m : Nat) (s : State) : Keeps s (raiseTrips codes m s) := by
  unfold raiseTrips
  try dsimp only
  repeat' split
  all_goals simp [Keeps, id raise0508_keeps, id react_keeps, id recordEvent_keeps]
theorem monitorSample_keeps (m n : Nat) (state : State) : Keeps state (monitorSample m n state) := by
  unfold monitorSample
  try dsimp only
  repeat' split
  all_goals simp [Keeps, id modMach_keeps, id monView_keeps]
theorem clearCounts_keeps (m : Nat) (s : State) : Keeps s (clearCounts m s) := by
  unfold clearCounts
  try dsimp only
  repeat' split
  all_goals simp [Keeps, id modMach_keeps]
theorem monitorChecks_keeps (m : Nat) (s : State) : Keeps s (monitorChecks m s).2 := by
  unfold monitorChecks
  try dsimp only
  repeat' split
  all_goals simp [Keeps, id drawMany_keeps, id modMach_keeps, id monView_keeps]
theorem monitorWindow_keeps (m : Nat) (s : State) : Keeps s (monitorWindow m s) := by
  unfold monitorWindow
  try dsimp only
  repeat' split
  all_goals simp [Keeps, id clearCounts_keeps, id modMach_keeps, id monView_keeps, id monitorChecks_keeps, id raiseTrips_keeps]
theorem execTorqueMonitorWindow_keeps (m : Fin 8) (s : State) : OutKeeps s (execTorqueMonitorWindow m s) := by
  unfold execTorqueMonitorWindow
  try dsimp only
  repeat' split
  all_goals simp [Keeps, id monitorWindow_keeps]

/-! ### Machine/Tuning.lean -/

theorem opParamRead_keeps (t : Nat) (source : Byte) (ids : List U16) (s : State) : Keeps s (opParamRead t source ids s) := by
  unfold opParamRead
  try dsimp only
  repeat' split
  all_goals simp [Keeps, id finish_keeps, id refuse_keeps]
theorem opParamWrite_keeps (t : Nat) (items : List Item) (s : State) : Keeps s (opParamWrite t items s) := by
  unfold opParamWrite
  try dsimp only
  repeat' split
  all_goals simp [Keeps, id finish_keeps, id refuse_keeps]
theorem opCommitPrepare_keeps (t : Nat) (s : State) : Keeps s (opCommitPrepare t s) := by
  unfold opCommitPrepare
  try dsimp only
  repeat' split
  all_goals simp [Keeps, id finish_keeps, id refuse_keeps]
theorem opCommitDiscard_keeps (t : Nat) (s : State) : Keeps s (opCommitDiscard t s) := by
  unfold opCommitDiscard
  try dsimp only
  repeat' split
  all_goals simp [Keeps, id finish_keeps, id refuse_keeps]
theorem storeInactive_keeps (c : ImgClass) (sl : Slot) (s : State) : Keeps s (storeInactive c sl s) := by
  unfold storeInactive
  try dsimp only
  repeat' split
  all_goals simp [Keeps, id modSlots_keeps]
theorem applyPosition_keeps (changed : List Nat) (s : State) : Keeps s (applyPosition changed s) := by
  unfold applyPosition
  try dsimp only
  repeat' split
  all_goals simp [Keeps, id initPos_keeps, id modCmp_keeps, id modPout_keeps]
theorem restartPorts_keeps (which : Nat → Bool) (s : State) : Keeps s (restartPorts which s) := by
  unfold restartPorts
  try dsimp only
  repeat' split
  all_goals simp [Keeps]
theorem applyNetwork_keeps (before : State) (changed : List Nat) (s : State) : Keeps s (applyNetwork before changed s) := by
  unfold applyNetwork
  try dsimp only
  repeat' split
  all_goals simp [Keeps, id dropCan_keeps, id modCan_keeps, id restartPorts_keeps]
theorem applySet_keeps (p : PSet) (s : State) : Keeps s (applySet p s) := by
  unfold applySet
  try dsimp only
  repeat' split
  all_goals simp [Keeps, id applyNetwork_keeps, id applyPosition_keeps, id cascadeHold_keeps, id choppersOff_keeps, id copyToMonitor_keeps,
      id forgetUnread_keeps, id newTrend_keeps, id relearn_keeps, id requestMain_keeps, id switchFe_keeps]
theorem commitNow_keeps (s : State) : Keeps s (commitNow s) := by
  unfold commitNow
  try dsimp only
  repeat' split
  all_goals simp [Keeps, id applySet_keeps, id finishOpt_keeps, id modSlots_keeps, id note_keeps]
theorem awaitInstant_keeps (pd : Pending) (s : State) : Keeps s (awaitInstant pd s) := by
  unfold awaitInstant
  try dsimp only
  repeat' split
  all_goals simp [Keeps, id commitNow_keeps]
theorem opCommitApply_keeps (t : Nat) (slot : Byte) (serial : U32) (digest : Digest) (sig : Rsa) (s : State) : Keeps s (opCommitApply t slot serial digest sig s) := by
  unfold opCommitApply
  try dsimp only
  repeat' split
  all_goals simp [Keeps, id accept_keeps, id awaitInstant_keeps, id refuse_keeps, id storeInactive_keeps, id verifySigned_keeps]
theorem opSetSelect_keeps (t : Nat) (arg : Byte) (s : State) : Keeps s (opSetSelect t arg s) := by
  unfold opSetSelect
  try dsimp only
  repeat' split
  all_goals simp [Keeps, id accept_keeps, id awaitInstant_keeps, id refuse_keeps]
theorem opCalRead_keeps (t : Nat) (kind inst : U16) (origin age : Byte) (s : State) : Keeps s (opCalRead t kind inst origin age s) := by
  unfold opCalRead
  try dsimp only
  repeat' split
  all_goals simp [Keeps, id finish_keeps, id refuse_keeps]
theorem writeStartup_keeps (kind inst : U16) (temp : Int) (data : List Byte) (s : State) : Keeps s (writeStartup kind inst temp data s).2 := by
  unfold writeStartup
  try dsimp only
  repeat' split
  all_goals simp [Keeps, id allocEsn_keeps]
theorem beginRecal_keeps (t : Nat) (target index : Byte) (s : State) : Keeps s (beginRecal t target index s) := by
  unfold beginRecal
  try dsimp only
  repeat' split
  all_goals simp [Keeps, id accept_keeps, id modBridge_keeps]
theorem opCalRecal_keeps (t : Nat) (target index : Byte) (s : State) : Keeps s (opCalRecal t target index s) := by
  unfold opCalRecal
  try dsimp only
  repeat' split
  all_goals simp [Keeps, id beginRecal_keeps, id refuse_keeps]
theorem recalLeg_keeps (low high : IslandObs) (l : Nat) (s : State) : Keeps s (recalLeg low high l s) := by
  unfold recalLeg
  try dsimp only
  repeat' split
  all_goals simp [Keeps, id forgetUnread_keeps, id modChan_keeps, id note_keeps, id reselect_keeps]
theorem recalConverter_keeps (k : Bank) (c : Nat) (x : Corr) (s : State) : Keeps s (recalConverter k c x s) := by
  unfold recalConverter
  try dsimp only
  repeat' split
  all_goals simp [Keeps, id modBridge_keeps, id note_keeps]
theorem recalResult_keeps (target index : Byte) (cal : ConvCal) (low high : IslandObs) (s : State) : Keeps s (recalResult target index cal low high s).2.2.2 := by
  unfold recalResult
  try dsimp only
  repeat' split
  all_goals simp [Keeps, id recalConverter_keeps, id recalLeg_keeps]
theorem execRecalCoverEnd_keeps (target index : Byte) (cal : ConvCal) (low high : IslandObs) (s : State) : OutKeeps s (execRecalCoverEnd target index cal low high s) := by
  unfold execRecalCoverEnd
  try dsimp only
  repeat' split
  all_goals simp [Keeps, id drawFree_keeps, id finishOpt_keeps, id recalResult_keeps, id writeStartup_keeps]
@[simp] theorem countRow_pending (n t : Nat) (f : State → State)
    (h : ∀ s, (f s).pending = s.pending) (s : State) : (countRow n t f s).pending = s.pending := by
  unfold countRow; repeat' split
  all_goals simp [h, id refuse_keeps]
@[simp] theorem countRow_owners (n t : Nat) (f : State → State)
    (h : ∀ s, (f s).store.owners = s.store.owners) (s : State) : (countRow n t f s).store.owners = s.store.owners := by
  unfold countRow; repeat' split
  all_goals simp [h, id refuse_keeps]
@[simp] theorem countRow_fuses (n t : Nat) (f : State → State)
    (h : ∀ s, (f s).store.fuses = s.store.fuses) (s : State) : (countRow n t f s).store.fuses = s.store.fuses := by
  unfold countRow; repeat' split
  all_goals simp [h, id refuse_keeps]
@[simp] theorem countRow_dev (n t : Nat) (f : State → State)
    (h : ∀ s, (f s).time.dev = s.time.dev) (s : State) : (countRow n t f s).time.dev = s.time.dev := by
  unfold countRow; repeat' split
  all_goals simp [h, id refuse_keeps]
@[simp] theorem countRow_split (n t : Nat) (f : State → State)
    (h : ∀ s, (f s).dev.split = s.dev.split) (s : State) : (countRow n t f s).dev.split = s.dev.split := by
  unfold countRow; repeat' split
  all_goals simp [h, id refuse_keeps]
@[simp] theorem countRow_bridges (n t : Nat) (f : State → State)
    (h : ∀ s, (f s).bridges.length = s.bridges.length) (s : State) : (countRow n t f s).bridges.length = s.bridges.length := by
  unfold countRow; repeat' split
  all_goals simp [h, id refuse_keeps]
@[simp] theorem countRow_machs (n t : Nat) (f : State → State)
    (h : ∀ s, (f s).machs.length = s.machs.length) (s : State) : (countRow n t f s).machs.length = s.machs.length := by
  unfold countRow; repeat' split
  all_goals simp [h, id refuse_keeps]
@[simp] theorem countRow_chans (n t : Nat) (f : State → State)
    (h : ∀ s, (f s).chans.length = s.chans.length) (s : State) : (countRow n t f s).chans.length = s.chans.length := by
  unfold countRow; repeat' split
  all_goals simp [h, id refuse_keeps]
@[simp] theorem countRow_lgs (n t : Nat) (f : State → State)
    (h : ∀ s, (f s).lgs.length = s.lgs.length) (s : State) : (countRow n t f s).lgs.length = s.lgs.length := by
  unfold countRow; repeat' split
  all_goals simp [h, id refuse_keeps]
@[simp] theorem countRow_ctds (n t : Nat) (f : State → State)
    (h : ∀ s, (f s).ctds.length = s.ctds.length) (s : State) : (countRow n t f s).ctds.length = s.ctds.length := by
  unfold countRow; repeat' split
  all_goals simp [h, id refuse_keeps]
@[simp] theorem countRow_pos (n t : Nat) (f : State → State)
    (h : ∀ s, (f s).pos.length = s.pos.length) (s : State) : (countRow n t f s).pos.length = s.pos.length := by
  unfold countRow; repeat' split
  all_goals simp [h, id refuse_keeps]
@[simp] theorem countRow_pouts (n t : Nat) (f : State → State)
    (h : ∀ s, (f s).pouts.length = s.pouts.length) (s : State) : (countRow n t f s).pouts.length = s.pouts.length := by
  unfold countRow; repeat' split
  all_goals simp [h, id refuse_keeps]
@[simp] theorem countRow_cmps (n t : Nat) (f : State → State)
    (h : ∀ s, (f s).cmps.length = s.cmps.length) (s : State) : (countRow n t f s).cmps.length = s.cmps.length := by
  unfold countRow; repeat' split
  all_goals simp [h, id refuse_keeps]
@[simp] theorem countRow_temps (n t : Nat) (f : State → State)
    (h : ∀ s, (f s).temps.length = s.temps.length) (s : State) : (countRow n t f s).temps.length = s.temps.length := by
  unfold countRow; repeat' split
  all_goals simp [h, id refuse_keeps]
@[simp] theorem countRow_doms (n t : Nat) (f : State → State)
    (h : ∀ s, (f s).pwr.doms.length = s.pwr.doms.length) (s : State) : (countRow n t f s).pwr.doms.length = s.pwr.doms.length := by
  unfold countRow; repeat' split
  all_goals simp [h, id refuse_keeps]
@[simp] theorem countRow_can (n t : Nat) (f : State → State)
    (h : ∀ s, (f s).net.can.length = s.net.can.length) (s : State) : (countRow n t f s).net.can.length = s.net.can.length := by
  unfold countRow; repeat' split
  all_goals simp [h, id refuse_keeps]
@[simp] theorem countRow_ctx (n t : Nat) (f : State → State)
    (h : ∀ s, (f s).proto.ctx.length = s.proto.ctx.length) (s : State) : (countRow n t f s).proto.ctx.length = s.proto.ctx.length := by
  unfold countRow; repeat' split
  all_goals simp [h, id refuse_keeps]
@[simp] theorem countRow_sess (n t : Nat) (f : State → State)
    (h : ∀ s, (f s).proto.sess.length = s.proto.sess.length) (s : State) : (countRow n t f s).proto.sess.length = s.proto.sess.length := by
  unfold countRow; repeat' split
  all_goals simp [h, id refuse_keeps]
@[simp] theorem countRow_slots (n t : Nat) (f : State → State)
    (h : ∀ s, (f s).store.slots.length = s.store.slots.length) (s : State) : (countRow n t f s).store.slots.length = s.store.slots.length := by
  unfold countRow; repeat' split
  all_goals simp [h, id refuse_keeps]
@[simp] theorem countRow_ph (n t : Nat) (f : State → State)
    (h : ∀ s, (f s).dev.ph = s.dev.ph) (s : State) : (countRow n t f s).dev.ph = s.dev.ph := by
  unfold countRow; repeat' split
  all_goals simp [h, id refuse_keeps]

theorem execParamRead_keeps (h : Hdr) (source : Byte) (ids : List U16) (s : State) : OutKeeps s (execParamRead h source ids s) := by
  unfold execParamRead
  try dsimp only
  repeat' split
  all_goals simp [Keeps, id opParamRead_keeps]
theorem execParamWrite_keeps (h : Hdr) (items : List Item) (s : State) : OutKeeps s (execParamWrite h items s) := by
  unfold execParamWrite
  try dsimp only
  repeat' split
  all_goals simp [Keeps, id opParamWrite_keeps]
theorem execParamCommitPrepare_keeps (h : Hdr) (s : State) : OutKeeps s (execParamCommitPrepare h s) := by
  unfold execParamCommitPrepare
  try dsimp only
  repeat' split
  all_goals simp [Keeps, id opCommitPrepare_keeps]
theorem execParamCommitApply_keeps (h : Hdr) (slot : Byte) (serial : U32) (digest : Digest) (sig : Rsa) (s : State) : OutKeeps s (execParamCommitApply h slot serial digest sig s) := by
  unfold execParamCommitApply
  try dsimp only
  repeat' split
  all_goals simp [Keeps, id opCommitApply_keeps]
theorem execParamCommitDiscard_keeps (h : Hdr) (s : State) : OutKeeps s (execParamCommitDiscard h s) := by
  unfold execParamCommitDiscard
  try dsimp only
  repeat' split
  all_goals simp [Keeps, id opCommitDiscard_keeps]
theorem execSetSelect_keeps (h : Hdr) (arg : Byte) (s : State) : OutKeeps s (execSetSelect h arg s) := by
  unfold execSetSelect
  try dsimp only
  repeat' split
  all_goals simp [Keeps, id opSetSelect_keeps]
theorem execCalRead_keeps (h : Hdr) (kind inst : U16) (origin age : Byte) (s : State) : OutKeeps s (execCalRead h kind inst origin age s) := by
  unfold execCalRead
  try dsimp only
  repeat' split
  all_goals simp [Keeps, id opCalRead_keeps]
theorem execCalRecal_keeps (h : Hdr) (target index : Byte) (s : State) : OutKeeps s (execCalRecal h target index s) := by
  unfold execCalRecal
  try dsimp only
  repeat' split
  all_goals simp [Keeps, id opCalRecal_keeps]

/-! ### Machine/Standby.lean -/

theorem powerDown_keeps (listening : Bool) (s : State) : SameUnits s (powerDown listening s) ∧ (powerDown listening s).store.owners = s.store.owners ∧ (powerDown listening s).store.fuses = s.store.fuses ∧ (powerDown listening s).time.dev = s.time.dev ∧ (powerDown listening s).dev.split = s.dev.split := by
  unfold powerDown
  try dsimp only
  repeat' split
  all_goals simp [id flushBuffer_keeps, id leaveOn_keeps, id modDom_keeps]
theorem rampForStandby_keeps (m : Nat) (s : State) : Keeps s (rampForStandby m s) := by
  unfold rampForStandby
  try dsimp only
  repeat' split
  all_goals simp [Keeps, id modMach_keeps]
theorem standbyBegin_keeps (listening : Bool) (s : State) : Keeps s (standbyBegin listening s) := by
  unfold standbyBegin
  try dsimp only
  repeat' split
  all_goals simp [Keeps, id rampForStandby_keeps]
theorem setSby_keeps (step : Nat) (waiting : Bool) (s : State) : Keeps s (setSby step waiting s) := by
  unfold setSby
  try dsimp only
  repeat' split
  all_goals simp [Keeps]
theorem standbyDisarm_keeps (s : State) : Keeps s (standbyDisarm s) := by
  unfold standbyDisarm
  try dsimp only
  repeat' split
  all_goals simp [Keeps, id commandCtd_keeps, id endMachineTag_keeps, id setSby_keeps, id toIdle_keeps]
theorem standbyContactors_keeps (s : State) : Keeps s (standbyContactors s) := by
  unfold standbyContactors
  try dsimp only
  repeat' split
  all_goals simp [Keeps, id beginDischarge_keeps, id setSby_keeps]
theorem standbySleep_keeps (s : State) : SameUnits s (standbySleep s) ∧ (standbySleep s).store.owners = s.store.owners ∧ (standbySleep s).store.fuses = s.store.fuses ∧ (standbySleep s).time.dev = s.time.dev ∧ (standbySleep s).dev.split = s.dev.split := by
  unfold standbySleep
  try dsimp only
  repeat' split
  all_goals simp [id powerDown_keeps]
theorem standbyAdvance_keeps (s : State) : SameUnits s (standbyAdvance s) ∧ (standbyAdvance s).store.owners = s.store.owners ∧ (standbyAdvance s).store.fuses = s.store.fuses ∧ (standbyAdvance s).time.dev = s.time.dev ∧ (standbyAdvance s).dev.split = s.dev.split := by
  unfold standbyAdvance
  try dsimp only
  repeat' split
  all_goals simp [id standbyContactors_keeps, id standbyDisarm_keeps, id standbySleep_keeps]
theorem standbyHalted_keeps (listening : Bool) (s : State) : SameUnits s (standbyHalted listening s) ∧ (standbyHalted listening s).store.owners = s.store.owners ∧ (standbyHalted listening s).store.fuses = s.store.fuses ∧ (standbyHalted listening s).time.dev = s.time.dev ∧ (standbyHalted listening s).dev.split = s.dev.split := by
  unfold standbyHalted
  try dsimp only
  repeat' split
  all_goals simp [id commandCtd_keeps, id standbyAdvance_keeps]
theorem abandonStandby_keeps (s : State) : Keeps s (abandonStandby s) := by
  unfold abandonStandby
  try dsimp only
  repeat' split
  all_goals simp [Keeps]
theorem kl15Edge_keeps (s : State) : SameUnits s (kl15Edge s) ∧ (kl15Edge s).store.owners = s.store.owners ∧ (kl15Edge s).store.fuses = s.store.fuses ∧ (kl15Edge s).time.dev = s.time.dev ∧ (kl15Edge s).dev.split = s.dev.split := by
  unfold kl15Edge
  try dsimp only
  repeat' split
  all_goals simp [id abandonStandby_keeps, id enterBoot_keeps, id returnD5_keeps]
theorem execStandbyWaitReport_keeps (seconds : Nat) (s : State) : OutKeeps s (execStandbyWaitReport seconds s) := by
  unfold execStandbyWaitReport
  try dsimp only
  repeat' split
  all_goals simp [Keeps, id note_keeps]
theorem opStandbyEnter_keeps (t : Nat) (depth timing canWake : Byte) (s : State) : SameUnits s (opStandbyEnter t depth timing canWake s) ∧ (opStandbyEnter t depth timing canWake s).store.owners = s.store.owners ∧ (opStandbyEnter t depth timing canWake s).store.fuses = s.store.fuses ∧ (opStandbyEnter t depth timing canWake s).time.dev = s.time.dev ∧ (opStandbyEnter t depth timing canWake s).dev.split = s.dev.split := by
  unfold opStandbyEnter
  try dsimp only
  repeat' split
  all_goals simp [id finish_keeps, id refuse_keeps, id standbyAdvance_keeps, id standbyBegin_keeps]
theorem opRtcSet_keeps (t : Nat) (count : BitVec 48) (s : State) : Keeps s (opRtcSet t count s) := by
  unfold opRtcSet
  try dsimp only
  repeat' split
  all_goals simp [Keeps, id finish_keeps]
theorem opAlarmSet_keeps (t : Nat) (alarm : BitVec 48) (armed : Byte) (s : State) : Keeps s (opAlarmSet t alarm armed s) := by
  unfold opAlarmSet
  try dsimp only
  repeat' split
  all_goals simp [Keeps, id finish_keeps, id refuse_keeps]
theorem execKl30Loss_keeps (mv us : Nat) (s : State) : OutKeeps s (execKl30Loss mv us s) := by
  unfold execKl30Loss
  try dsimp only
  repeat' split
  all_goals simp [Keeps, id flushBuffer_keeps]
theorem goOff_keeps (s : State) : SameUnits s (goOff s) ∧ (goOff s).store.owners = s.store.owners ∧ (goOff s).store.fuses = s.store.fuses ∧ (goOff s).time.dev = s.time.dev ∧ (goOff s).dev.split = s.dev.split := by
  unfold goOff
  try dsimp only
  repeat' split
  all_goals simp
theorem execKl30OutOfRange_keeps (mv ticks : Nat) (s : State) : OutKeeps s (execKl30OutOfRange mv ticks s) := by
  unfold execKl30OutOfRange
  try dsimp only
  repeat' split
  all_goals simp [Keeps, id note_keeps]
theorem execRtcSet_keeps (h : Hdr) (count : BitVec 48) (s : State) : OutKeeps s (execRtcSet h count s) := by
  unfold execRtcSet
  try dsimp only
  repeat' split
  all_goals simp [Keeps, id opRtcSet_keeps]
theorem execAlarmSet_keeps (h : Hdr) (alarm : BitVec 48) (armed : Byte) (s : State) : OutKeeps s (execAlarmSet h alarm armed s) := by
  unfold execAlarmSet
  try dsimp only
  repeat' split
  all_goals simp [Keeps, id opAlarmSet_keeps]

/-! ### Machine/Startup.lean -/

theorem bootTime_keeps (s : State) : SameUnits s (bootTime s) ∧ (bootTime s).store.owners = s.store.owners ∧ (bootTime s).store.fuses = s.store.fuses ∧ (bootTime s).dev.split = s.dev.split ∧ (bootTime s).dev.ph = s.dev.ph := by
  unfold bootTime
  try dsimp only
  repeat' split
  all_goals simp
theorem bootStraps_keeps (o : BootObs) (s : State) : Keeps s (bootStraps o s) := by
  unfold bootStraps
  try dsimp only
  repeat' split
  all_goals simp [Keeps, id note_keeps]
theorem bootUnits_keeps (s : State) : Keeps s (bootUnits s) := by
  unfold bootUnits
  try dsimp only
  repeat' split
  all_goals simp [Keeps]
theorem bootClocks_keeps (o : BootObs) (s : State) : Keeps s (bootClocks o s) := by
  unfold bootClocks
  try dsimp only
  repeat' split
  all_goals simp [Keeps]
theorem noteBoot_keeps (o : BootObs) (n : Nat) (s : State) : Keeps s (noteBoot o n s) := by
  unfold noteBoot
  try dsimp only
  repeat' split
  all_goals simp [Keeps, id note_keeps]
theorem bootDomains_keeps (o : BootObs) (ns : List Nat) (s : State) : Keeps s (bootDomains o ns s) := by
  unfold bootDomains
  try dsimp only
  repeat' split
  all_goals simp [Keeps, id modDom_keeps, id noteBoot_keeps]
theorem setSlotSt_keeps (c : ImgClass) (b : Bool) (st : SlotState) (s : State) : Keeps s (setSlotSt c b st s) := by
  unfold setSlotSt
  try dsimp only
  repeat' split
  all_goals simp [Keeps, id modSlots_keeps]
theorem trySlot_keeps (c : ImgClass) (b : Bool) (s : State) : Keeps s (trySlot c b s).2 := by
  unfold trySlot
  try dsimp only
  repeat' split
  all_goals simp [Keeps, id note_keeps, id setSlotSt_keeps]
theorem pickSlot_keeps (c : ImgClass) (s : State) : Keeps s (pickSlot c s) := by
  unfold pickSlot
  try dsimp only
  repeat' split
  all_goals simp [Keeps, id modSlots_keeps, id trySlot_keeps]
theorem bootPset_keeps (s : State) : Keeps s (bootPset s) := by
  unfold bootPset
  try dsimp only
  repeat' split
  all_goals simp [Keeps, id note_keeps, id pickSlot_keeps, id relearn_keeps]
theorem bootMode_keeps (s : State) : SameUnits s (bootMode s) ∧ (bootMode s).store.owners = s.store.owners ∧ (bootMode s).store.fuses = s.store.fuses ∧ (bootMode s).time.dev = s.time.dev ∧ (bootMode s).dev.ph = s.dev.ph := by
  unfold bootMode
  try dsimp only
  repeat' split
  all_goals simp [id note_keeps]
theorem bootImages_keeps (s : State) : Keeps s (bootImages s) := by
  unfold bootImages
  try dsimp only
  repeat' split
  all_goals simp [Keeps, id note_keeps, id pickSlot_keeps]
theorem keepRegenZero_keeps (s : State) : Keeps s (keepRegenZero s) := by
  unfold keepRegenZero
  try dsimp only
  repeat' split
  all_goals simp [Keeps]
theorem bootVerify_keeps (s : State) : SameUnits s (bootVerify s) ∧ (bootVerify s).store.owners = s.store.owners ∧ (bootVerify s).store.fuses = s.store.fuses ∧ (bootVerify s).time.dev = s.time.dev ∧ (bootVerify s).dev.ph = s.dev.ph := by
  unfold bootVerify
  try dsimp only
  repeat' split
  all_goals simp [id bootImages_keeps, id bootMode_keeps, id bootPset_keeps, id copyToMonitor_keeps, id keepRegenZero_keeps]
theorem bootRefin_keeps (o : BootObs) (s : State) : Keeps s (bootRefin o s) := by
  unfold bootRefin
  try dsimp only
  repeat' split
  all_goals simp [Keeps, id restorePll_keeps]
theorem bootCompat_keeps (s : State) : Keeps s (bootCompat s) := by
  unfold bootCompat
  try dsimp only
  repeat' split
  all_goals simp [Keeps, id note_keeps]
theorem mergeEvents_keeps (s : State) : Keeps s (mergeEvents s) := by
  simp only [mergeEvents]
  repeat' split
  all_goals simp
theorem noteMask_keeps (k : Nat) (s : State) : Keeps s (noteMask k s) := by
  unfold noteMask
  try dsimp only
  repeat' split
  all_goals simp [Keeps, id drawFree_keeps, id recordAt_keeps]
theorem mergeSnapshot_keeps (s : State) : Keeps s (mergeSnapshot s) := by
  simp only [mergeSnapshot]
  repeat' split
  all_goals simp [id mergeEvents_keeps, id noteMask_keeps]
theorem bootSram_keeps (o : BootObs) (s : State) : Keeps s (bootSram o s) := by
  unfold bootSram
  try dsimp only
  repeat' split
  all_goals simp [Keeps, id mergeSnapshot_keeps, id raiseFault_keeps, id recordEvent_keeps]
theorem bootInjection_keeps (o : BootObs) (s : State) : Keeps s (bootInjection o s) := by
  unfold bootInjection
  try dsimp only
  repeat' split
  all_goals simp [Keeps, id raiseFault_keeps]
theorem bootBanks_keeps (o : BootObs) (s : State) : Keeps s (bootBanks o s) := by
  unfold bootBanks
  try dsimp only
  repeat' split
  all_goals simp [Keeps, id modBridge_keeps, id note_keeps]
theorem takeHandshake_keeps (o : IslandObs) (c : Nat) (s : State) : Keeps s (takeHandshake o c s) := by
  unfold takeHandshake
  try dsimp only
  repeat' split
  all_goals simp [Keeps, id modChan_keeps, id note_keeps]
theorem bootIslands_keeps (o : BootObs) (s : State) : Keeps s (bootIslands o s) := by
  unfold bootIslands
  try dsimp only
  repeat' split
  all_goals simp [Keeps, id note_keeps, id takeHandshake_keeps]
theorem measurePeg_keeps (s : State) : Keeps s (measurePeg s) := by
  unfold measurePeg
  try dsimp only
  repeat' split
  all_goals simp [Keeps, id drawFree_keeps]
theorem startupPeg_keeps (o : BootObs) (kind inst k : Nat) (s : State) : Keeps s (startupPeg o kind inst k s) := by
  unfold startupPeg
  try dsimp only
  repeat' split
  all_goals simp [Keeps, id writeStartup_keeps]
theorem startupIsland_keeps (o : BootObs) (kind c : Nat) (s : State) : Keeps s (startupIsland o kind c s) := by
  unfold startupIsland
  try dsimp only
  repeat' split
  all_goals simp [Keeps, id writeStartup_keeps]
theorem startupCorr_keeps (k : Bank) (b : Nat) (s : State) : Keeps s (startupCorr k b s) := by
  unfold startupCorr
  try dsimp only
  repeat' split
  all_goals simp [Keeps, id writeStartup_keeps]
theorem bootCompensate_keeps (o : BootObs) (s : State) : Keeps s (bootCompensate o s) := by
  unfold bootCompensate
  try dsimp only
  repeat' split
  all_goals simp [Keeps, id compensate_keeps, id measurePeg_keeps, id modTemp_keeps, id startupCorr_keeps, id startupIsland_keeps, id
      startupPeg_keeps]
theorem bootBridges_keeps (s : State) : Keeps s (bootBridges s) := by
  unfold bootBridges
  try dsimp only
  repeat' split
  all_goals simp [Keeps]
theorem bootFuses_raiseFuse_keeps (c : ImgClass) (s : State) : SameUnits s (bootFuses.raiseFuse c s) ∧ (bootFuses.raiseFuse c s).store.owners = s.store.owners ∧ (bootFuses.raiseFuse c s).time.dev = s.time.dev ∧ (bootFuses.raiseFuse c s).dev.split = s.dev.split ∧ (bootFuses.raiseFuse c s).dev.ph = s.dev.ph := by
  unfold bootFuses.raiseFuse
  try dsimp only
  repeat' split
  all_goals simp [id note_keeps]
theorem bootFuses_keeps (s : State) : SameUnits s (bootFuses s) ∧ (bootFuses s).store.owners = s.store.owners ∧ (bootFuses s).time.dev = s.time.dev ∧ (bootFuses s).dev.split = s.dev.split ∧ (bootFuses s).dev.ph = s.dev.ph := by
  unfold bootFuses
  try dsimp only
  repeat' split
  all_goals simp [id bootFuses_raiseFuse_keeps, id note_keeps]
theorem noteReason_keeps (s : State) (r : StartReason) : Keeps s (noteReason s r) := by
  unfold noteReason
  try dsimp only
  repeat' split
  all_goals simp [Keeps, id noteService_keeps]
theorem bootFinish_keeps (s : State) : SameUnits s (bootFinish s) ∧ (bootFinish s).store.owners = s.store.owners ∧ (bootFinish s).time.dev = s.time.dev ∧ (bootFinish s).dev.split = s.dev.split := by
  unfold bootFinish
  try dsimp only
  repeat' split
  all_goals simp [id bootBridges_keeps, id bootFuses_keeps, id initPos_keeps, id newTrend_keeps, id noteReason_keeps, id
      standbyAdvance_keeps, id standbyBegin_keeps]
theorem haltAt_keeps (n : Nat) (s : State) : SameUnits s (haltAt n s) ∧ (haltAt n s).store.owners = s.store.owners ∧ (haltAt n s).store.fuses = s.store.fuses ∧ (haltAt n s).time.dev = s.time.dev ∧ (haltAt n s).dev.split = s.dev.split := by
  unfold haltAt
  try dsimp only
  repeat' split
  all_goals simp [id standbyHalted_keeps]
@[simp] theorem bootStep_pending (o : BootObs) (n : Nat) (f : State → State)
    (h : ∀ s, (f s).pending = s.pending) (s : State) : (bootStep o n f s).pending = s.pending := by
  unfold bootStep; split <;> simp [h]
@[simp] theorem bootStep_owners (o : BootObs) (n : Nat) (f : State → State)
    (h : ∀ s, (f s).store.owners = s.store.owners) (s : State) : (bootStep o n f s).store.owners = s.store.owners := by
  unfold bootStep; split <;> simp [h]
@[simp] theorem bootStep_fuses (o : BootObs) (n : Nat) (f : State → State)
    (h : ∀ s, (f s).store.fuses = s.store.fuses) (s : State) : (bootStep o n f s).store.fuses = s.store.fuses := by
  unfold bootStep; split <;> simp [h]
@[simp] theorem bootStep_dev (o : BootObs) (n : Nat) (f : State → State)
    (h : ∀ s, (f s).time.dev = s.time.dev) (s : State) : (bootStep o n f s).time.dev = s.time.dev := by
  unfold bootStep; split <;> simp [h]
@[simp] theorem bootStep_split (o : BootObs) (n : Nat) (f : State → State)
    (h : ∀ s, (f s).dev.split = s.dev.split) (s : State) : (bootStep o n f s).dev.split = s.dev.split := by
  unfold bootStep; split <;> simp [h]
@[simp] theorem bootStep_bridges (o : BootObs) (n : Nat) (f : State → State)
    (h : ∀ s, (f s).bridges.length = s.bridges.length) (s : State) : (bootStep o n f s).bridges.length = s.bridges.length := by
  unfold bootStep; split <;> simp [h]
@[simp] theorem bootStep_machs (o : BootObs) (n : Nat) (f : State → State)
    (h : ∀ s, (f s).machs.length = s.machs.length) (s : State) : (bootStep o n f s).machs.length = s.machs.length := by
  unfold bootStep; split <;> simp [h]
@[simp] theorem bootStep_chans (o : BootObs) (n : Nat) (f : State → State)
    (h : ∀ s, (f s).chans.length = s.chans.length) (s : State) : (bootStep o n f s).chans.length = s.chans.length := by
  unfold bootStep; split <;> simp [h]
@[simp] theorem bootStep_lgs (o : BootObs) (n : Nat) (f : State → State)
    (h : ∀ s, (f s).lgs.length = s.lgs.length) (s : State) : (bootStep o n f s).lgs.length = s.lgs.length := by
  unfold bootStep; split <;> simp [h]
@[simp] theorem bootStep_ctds (o : BootObs) (n : Nat) (f : State → State)
    (h : ∀ s, (f s).ctds.length = s.ctds.length) (s : State) : (bootStep o n f s).ctds.length = s.ctds.length := by
  unfold bootStep; split <;> simp [h]
@[simp] theorem bootStep_pos (o : BootObs) (n : Nat) (f : State → State)
    (h : ∀ s, (f s).pos.length = s.pos.length) (s : State) : (bootStep o n f s).pos.length = s.pos.length := by
  unfold bootStep; split <;> simp [h]
@[simp] theorem bootStep_pouts (o : BootObs) (n : Nat) (f : State → State)
    (h : ∀ s, (f s).pouts.length = s.pouts.length) (s : State) : (bootStep o n f s).pouts.length = s.pouts.length := by
  unfold bootStep; split <;> simp [h]
@[simp] theorem bootStep_cmps (o : BootObs) (n : Nat) (f : State → State)
    (h : ∀ s, (f s).cmps.length = s.cmps.length) (s : State) : (bootStep o n f s).cmps.length = s.cmps.length := by
  unfold bootStep; split <;> simp [h]
@[simp] theorem bootStep_temps (o : BootObs) (n : Nat) (f : State → State)
    (h : ∀ s, (f s).temps.length = s.temps.length) (s : State) : (bootStep o n f s).temps.length = s.temps.length := by
  unfold bootStep; split <;> simp [h]
@[simp] theorem bootStep_doms (o : BootObs) (n : Nat) (f : State → State)
    (h : ∀ s, (f s).pwr.doms.length = s.pwr.doms.length) (s : State) : (bootStep o n f s).pwr.doms.length = s.pwr.doms.length := by
  unfold bootStep; split <;> simp [h]
@[simp] theorem bootStep_can (o : BootObs) (n : Nat) (f : State → State)
    (h : ∀ s, (f s).net.can.length = s.net.can.length) (s : State) : (bootStep o n f s).net.can.length = s.net.can.length := by
  unfold bootStep; split <;> simp [h]
@[simp] theorem bootStep_ctx (o : BootObs) (n : Nat) (f : State → State)
    (h : ∀ s, (f s).proto.ctx.length = s.proto.ctx.length) (s : State) : (bootStep o n f s).proto.ctx.length = s.proto.ctx.length := by
  unfold bootStep; split <;> simp [h]
@[simp] theorem bootStep_sess (o : BootObs) (n : Nat) (f : State → State)
    (h : ∀ s, (f s).proto.sess.length = s.proto.sess.length) (s : State) : (bootStep o n f s).proto.sess.length = s.proto.sess.length := by
  unfold bootStep; split <;> simp [h]
@[simp] theorem bootStep_slots (o : BootObs) (n : Nat) (f : State → State)
    (h : ∀ s, (f s).store.slots.length = s.store.slots.length) (s : State) : (bootStep o n f s).store.slots.length = s.store.slots.length := by
  unfold bootStep; split <;> simp [h]
@[simp] theorem bootStep_ph (o : BootObs) (n : Nat) (f : State → State)
    (h : ∀ s, (f s).dev.ph = s.dev.ph) (s : State) : (bootStep o n f s).dev.ph = s.dev.ph := by
  unfold bootStep; split <;> simp [h]

theorem bootNetwork_keeps (s : State) : Keeps s (bootNetwork s) := by
  unfold bootNetwork
  try dsimp only
  repeat' split
  all_goals simp [Keeps, id startCan_keeps]
theorem bootTests_keeps (o : BootObs) (s : State) : SameUnits s (bootTests o s) ∧ (bootTests o s).store.owners = s.store.owners ∧ (bootTests o s).store.fuses = s.store.fuses ∧ (bootTests o s).time.dev = s.time.dev ∧ (bootTests o s).dev.ph = s.dev.ph := by
  unfold bootTests
  try dsimp only
  repeat' split
  all_goals simp [id bootBanks_keeps, id bootCompat_keeps, id bootCompensate_keeps, id bootDomains_keeps, id bootInjection_keeps, id
      bootIslands_keeps, id bootNetwork_keeps, id bootRefin_keeps, id bootSram_keeps, id bootVerify_keeps, id writeHeldWakes_keeps]
theorem bootSteps_keeps (o : BootObs) (s : State) : SameUnits s (bootSteps o s) ∧ (bootSteps o s).store.owners = s.store.owners ∧ (bootSteps o s).time.dev = s.time.dev := by
  unfold bootSteps
  try dsimp only
  repeat' split
  all_goals simp [id bootFinish_keeps, id bootTests_keeps, id haltAt_keeps]
theorem execIslandHandshakeTimeout_keeps (ch : ChanIx) (ticks : Nat) (s : State) : OutKeeps s (execIslandHandshakeTimeout ch ticks s) := by
  unfold execIslandHandshakeTimeout
  try dsimp only
  repeat' split
  all_goals simp [Keeps, id forgetUnread_keeps, id modChan_keeps, id note_keeps, id reselect_keeps]
theorem execStartupStepOverrun_keeps (step : Fin 10) (us : Nat) (s : State) : OutKeeps s (execStartupStepOverrun step us s) := by
  unfold execStartupStepOverrun
  try dsimp only
  repeat' split
  all_goals simp [Keeps, id note_keeps]

end Sys2Proof.Machine
end

