-- ==== Sys2Proof/Laws/FrameStore.lean ====
section
/-! SUPPORT. One lemma per function: the same for update, recorder, security, register-window and freeze functions and their commands. -/

namespace Sys2Proof.Machine

set_option linter.unusedTactic false
set_option linter.unusedSimpArgs false

/-! ### Machine/Update.lean -/

theorem modUpdSlot_keeps (u : Update) (f : Slot → Slot) (s : State) : Keeps s (modUpdSlot u f s) := by
  unfold modUpdSlot
  try dsimp only
  repeat' split
  all_goals simp [Keeps, id modSlots_keeps]
theorem dropUpdate_keeps (s : State) : Keeps s (dropUpdate s) := by
  unfold dropUpdate
  try dsimp only
  repeat' split
  all_goals simp [Keeps, id modUpdSlot_keeps]
theorem beginUpdate_keeps (t : Nat) (c : ImgClass) (total : Nat) (m : Manifest) (s : State) : Keeps s (beginUpdate t c total m s) := by
  unfold beginUpdate
  try dsimp only
  repeat' split
  all_goals simp [Keeps, id dropUpdate_keeps, id finish_keeps, id modUpdSlot_keeps]
theorem opUpdBegin_keeps (t : Nat) (cls : U16) (total : U32) (m : Manifest) (s : State) : Keeps s (opUpdBegin t cls total m s) := by
  unfold opUpdBegin
  try dsimp only
  repeat' split
  all_goals simp [Keeps, id beginUpdate_keeps, id refuse_keeps]
@[simp] theorem withUpdate_pending (t : Nat) (f : Update → State → State)
    (h : ∀ u s, (f u s).pending = s.pending) (s : State) : (withUpdate t f s).pending = s.pending := by
  unfold withUpdate; repeat' split
  all_goals simp [h, id refuse_keeps]
@[simp] theorem withUpdate_owners (t : Nat) (f : Update → State → State)
    (h : ∀ u s, (f u s).store.owners = s.store.owners) (s : State) : (withUpdate t f s).store.owners = s.store.owners := by
  unfold withUpdate; repeat' split
  all_goals simp [h, id refuse_keeps]
@[simp] theorem withUpdate_fuses (t : Nat) (f : Update → State → State)
    (h : ∀ u s, (f u s).store.fuses = s.store.fuses) (s : State) : (withUpdate t f s).store.fuses = s.store.fuses := by
  unfold withUpdate; repeat' split
  all_goals simp [h, id refuse_keeps]
@[simp] theorem withUpdate_dev (t : Nat) (f : Update → State → State)
    (h : ∀ u s, (f u s).time.dev = s.time.dev) (s : State) : (withUpdate t f s).time.dev = s.time.dev := by
  unfold withUpdate; repeat' split
  all_goals simp [h, id refuse_keeps]
@[simp] theorem withUpdate_split (t : Nat) (f : Update → State → State)
    (h : ∀ u s, (f u s).dev.split = s.dev.split) (s : State) : (withUpdate t f s).dev.split = s.dev.split := by
  unfold withUpdate; repeat' split
  all_goals simp [h, id refuse_keeps]
@[simp] theorem withUpdate_bridges (t : Nat) (f : Update → State → State)
    (h : ∀ u s, (f u s).bridges.length = s.bridges.length) (s : State) : (withUpdate t f s).bridges.length = s.bridges.length := by
  unfold withUpdate; repeat' split
  all_goals simp [h, id refuse_keeps]
@[simp] theorem withUpdate_machs (t : Nat) (f : Update → State → State)
    (h : ∀ u s, (f u s).machs.length = s.machs.length) (s : State) : (withUpdate t f s).machs.length = s.machs.length := by
  unfold withUpdate; repeat' split
  all_goals simp [h, id refuse_keeps]
@[simp] theorem withUpdate_chans (t : Nat) (f : Update → State → State)
    (h : ∀ u s, (f u s).chans.length = s.chans.length) (s : State) : (withUpdate t f s).chans.length = s.chans.length := by
  unfold withUpdate; repeat' split
  all_goals simp [h, id refuse_keeps]
@[simp] theorem withUpdate_lgs (t : Nat) (f : Update → State → State)
    (h : ∀ u s, (f u s).lgs.length = s.lgs.length) (s : State) : (withUpdate t f s).lgs.length = s.lgs.length := by
  unfold withUpdate; repeat' split
  all_goals simp [h, id refuse_keeps]
@[simp] theorem withUpdate_ctds (t : Nat) (f : Update → State → State)
    (h : ∀ u s, (f u s).ctds.length = s.ctds.length) (s : State) : (withUpdate t f s).ctds.length = s.ctds.length := by
  unfold withUpdate; repeat' split
  all_goals simp [h, id refuse_keeps]
@[simp] theorem withUpdate_pos (t : Nat) (f : Update → State → State)
    (h : ∀ u s, (f u s).pos.length = s.pos.length) (s : State) : (withUpdate t f s).pos.length = s.pos.length := by
  unfold withUpdate; repeat' split
  all_goals simp [h, id refuse_keeps]
@[simp] theorem withUpdate_pouts (t : Nat) (f : Update → State → State)
    (h : ∀ u s, (f u s).pouts.length = s.pouts.length) (s : State) : (withUpdate t f s).pouts.length = s.pouts.length := by
  unfold withUpdate; repeat' split
  all_goals simp [h, id refuse_keeps]
@[simp] theorem withUpdate_cmps (t : Nat) (f : Update → State → State)
    (h : ∀ u s, (f u s).cmps.length = s.cmps.length) (s : State) : (withUpdate t f s).cmps.length = s.cmps.length := by
  unfold withUpdate; repeat' split
  all_goals simp [h, id refuse_keeps]
@[simp] theorem withUpdate_temps (t : Nat) (f : Update → State → State)
    (h : ∀ u s, (f u s).temps.length = s.temps.length) (s : State) : (withUpdate t f s).temps.length = s.temps.length := by
  unfold withUpdate; repeat' split
  all_goals simp [h, id refuse_keeps]
@[simp] theorem withUpdate_doms (t : Nat) (f : Update → State → State)
    (h : ∀ u s, (f u s).pwr.doms.length = s.pwr.doms.length) (s : State) : (withUpdate t f s).pwr.doms.length = s.pwr.doms.length := by
  unfold withUpdate; repeat' split
  all_goals simp [h, id refuse_keeps]
@[simp] theorem withUpdate_can (t : Nat) (f : Update → State → State)
    (h : ∀ u s, (f u s).net.can.length = s.net.can.length) (s : State) : (withUpdate t f s).net.can.length = s.net.can.length := by
  unfold withUpdate; repeat' split
  all_goals simp [h, id refuse_keeps]
@[simp] theorem withUpdate_ctx (t : Nat) (f : Update → State → State)
    (h : ∀ u s, (f u s).proto.ctx.length = s.proto.ctx.length) (s : State) : (withUpdate t f s).proto.ctx.length = s.proto.ctx.length := by
  unfold withUpdate; repeat' split
  all_goals simp [h, id refuse_keeps]
@[simp] theorem withUpdate_sess (t : Nat) (f : Update → State → State)
    (h : ∀ u s, (f u s).proto.sess.length = s.proto.sess.length) (s : State) : (withUpdate t f s).proto.sess.length = s.proto.sess.length := by
  unfold withUpdate; repeat' split
  all_goals simp [h, id refuse_keeps]
@[simp] theorem withUpdate_slots (t : Nat) (f : Update → State → State)
    (h : ∀ u s, (f u s).store.slots.length = s.store.slots.length) (s : State) : (withUpdate t f s).store.slots.length = s.store.slots.length := by
  unfold withUpdate; repeat' split
  all_goals simp [h, id refuse_keeps]
@[simp] theorem withUpdate_ph (t : Nat) (f : Update → State → State)
    (h : ∀ u s, (f u s).dev.ph = s.dev.ph) (s : State) : (withUpdate t f s).dev.ph = s.dev.ph := by
  unfold withUpdate; repeat' split
  all_goals simp [h, id refuse_keeps]

theorem opUpdChunk_keeps (t : Nat) (offset : U32) (data : List Byte) (s : State) : Keeps s (opUpdChunk t offset data s) := by
  unfold opUpdChunk
  try dsimp only
  repeat' split
  all_goals simp [Keeps, id finish_keeps, id modUpdSlot_keeps]
theorem verifyUpdate_keeps (t : Nat) (u : Update) (s : State) : Keeps s (verifyUpdate t u s) := by
  unfold verifyUpdate
  try dsimp only
  repeat' split
  all_goals simp [Keeps, id accept_keeps, id finish_keeps, id modUpdSlot_keeps, id refuse_keeps]
theorem opUpdVerify_keeps (t : Nat) (s : State) : Keeps s (opUpdVerify t s) := by
  unfold opUpdVerify
  try dsimp only
  repeat' split
  all_goals simp [Keeps, id verifyUpdate_keeps]
theorem withTable_keeps (s : State) (c : ImgClass) (b : Bool) : Keeps s (withTable s c b) := by
  unfold withTable
  try dsimp only
  repeat' split
  all_goals simp [Keeps, id modSlots_keeps]
theorem activateSlot_keeps (c : ImgClass) (b : Bool) (s : State) : Keeps s (activateSlot c b s) := by
  unfold activateSlot
  try dsimp only
  repeat' split
  all_goals simp [Keeps, id modSlots_keeps]
theorem noteActivation_keeps (c : ImgClass) (s : State) : SameUnits s (noteActivation c s) ∧ (noteActivation c s).store.owners = s.store.owners ∧ (noteActivation c s).time.dev = s.time.dev ∧ (noteActivation c s).dev.split = s.dev.split ∧ (noteActivation c s).dev.ph = s.dev.ph := by
  unfold noteActivation
  try dsimp only
  repeat' split
  all_goals simp [id bootFuses_raiseFuse_keeps, id note_keeps]
theorem liveEffect_keeps (c : ImgClass) (b : Bool) (s : State) : SameUnits s (liveEffect c b s) ∧ (liveEffect c b s).store.owners = s.store.owners ∧ (liveEffect c b s).time.dev = s.time.dev ∧ (liveEffect c b s).dev.split = s.dev.split ∧ (liveEffect c b s).dev.ph = s.dev.ph := by
  unfold liveEffect
  try dsimp only
  repeat' split
  all_goals simp [id activateSlot_keeps, id copyToMonitor_keeps, id haltPair_keeps, id noteActivation_keeps]
theorem activateNow_keeps (t : Nat) (u : Update) (s : State) : SameUnits s (activateNow t u s) ∧ (activateNow t u s).store.owners = s.store.owners ∧ (activateNow t u s).time.dev = s.time.dev ∧ (activateNow t u s).dev.split = s.dev.split ∧ (activateNow t u s).dev.ph = s.dev.ph := by
  unfold activateNow
  try dsimp only
  repeat' split
  all_goals simp [id awaitInstant_keeps, id finish_keeps, id liveEffect_keeps]
theorem activateNext_keeps (t : Nat) (u : Update) (s : State) : Keeps s (activateNext t u s) := by
  unfold activateNext
  try dsimp only
  repeat' split
  all_goals simp [Keeps, id finish_keeps, id modSlots_keeps, id modUpdSlot_keeps]
theorem activateUpdate_keeps (t : Nat) (timing : Byte) (u : Update) (s : State) : SameUnits s (activateUpdate t timing u s) ∧ (activateUpdate t timing u s).store.owners = s.store.owners ∧ (activateUpdate t timing u s).time.dev = s.time.dev ∧ (activateUpdate t timing u s).dev.split = s.dev.split ∧ (activateUpdate t timing u s).dev.ph = s.dev.ph := by
  unfold activateUpdate
  try dsimp only
  repeat' split
  all_goals simp [id accept_keeps, id activateNext_keeps, id activateNow_keeps, id finish_keeps, id refuse_keeps]
theorem opUpdActivate_keeps (t : Nat) (timing : Byte) (s : State) : SameUnits s (opUpdActivate t timing s) ∧ (opUpdActivate t timing s).store.owners = s.store.owners ∧ (opUpdActivate t timing s).time.dev = s.time.dev ∧ (opUpdActivate t timing s).dev.split = s.dev.split ∧ (opUpdActivate t timing s).dev.ph = s.dev.ph := by
  unfold opUpdActivate
  try dsimp only
  repeat' split
  all_goals simp [id activateUpdate_keeps]
theorem execFeReload_keeps (n : Fin 8) (s : State) : OutKeeps s (execFeReload n s) := by
  unfold execFeReload
  try dsimp only
  repeat' split
  all_goals simp [Keeps, id modBridge_keeps]
theorem execIslReload_keeps (b : Fin 8) (answers : List IslandObs) (s : State) : OutKeeps s (execIslReload b answers s) := by
  unfold execIslReload
  try dsimp only
  repeat' split
  all_goals simp [Keeps, id forgetUnread_keeps, id modBridge_keeps, id takeHandshake_keeps]
theorem execFluxMapDerivationEnd_keeps (m : Fin 8) (s : State) : OutKeeps s (execFluxMapDerivationEnd m s) := by
  unfold execFluxMapDerivationEnd
  try dsimp only
  repeat' split
  all_goals simp [Keeps, id modMach_keeps, id note_keeps]
theorem opUpdHandover_keeps (t : Nat) (s : State) : Keeps s (opUpdHandover t s) := by
  unfold opUpdHandover
  try dsimp only
  repeat' split
  all_goals simp [Keeps, id accept_keeps, id finish_keeps, id modPair_keeps]
theorem applyStored_applyLast_keeps (l : List (Nat × Ref × Nat × Esn)) (m : Nat) (s : State) : Keeps s (applyStored.applyLast l m s) := by
  unfold applyStored.applyLast
  try dsimp only
  repeat' split
  all_goals simp [Keeps, id applyRef_keeps, id modMach_keeps]
theorem applyStored_keeps (s : State) : Keeps s (applyStored s) := by
  unfold applyStored
  try dsimp only
  repeat' split
  all_goals simp [Keeps, id applyRef_keeps, id applyStored_applyLast_keeps, id modMach_keeps]
theorem takeover_keeps (h : Handover) (injectionOk : Bool) (s : State) : SameUnits s (takeover h injectionOk s) ∧ (takeover h injectionOk s).store.owners = s.store.owners ∧ (takeover h injectionOk s).time.dev = s.time.dev ∧ (takeover h injectionOk s).dev.split = s.dev.split ∧ (takeover h injectionOk s).dev.ph = s.dev.ph := by
  unfold takeover
  try dsimp only
  repeat' split
  all_goals simp [id activateSlot_keeps, id applyStored_keeps, id bootFuses_raiseFuse_keeps, id drawFree_keeps, id finishOpt_keeps, id
      note_keeps, id releasePair_keeps, id setSlotSt_keeps]
theorem execHandoverTimeout_keeps (s : State) : OutKeeps s (execHandoverTimeout s) := by
  unfold execHandoverTimeout
  try dsimp only
  repeat' split
  all_goals simp [Keeps, id raiseFault_keeps]
theorem execUpdBegin_keeps (h : Hdr) (cls : U16) (total : U32) (manifest : Manifest) (s : State) : OutKeeps s (execUpdBegin h cls total manifest s) := by
  unfold execUpdBegin
  try dsimp only
  repeat' split
  all_goals simp [Keeps, id opUpdBegin_keeps]
theorem execUpdChunk_keeps (h : Hdr) (offset : U32) (data : List Byte) (s : State) : OutKeeps s (execUpdChunk h offset data s) := by
  unfold execUpdChunk
  try dsimp only
  repeat' split
  all_goals simp [Keeps, id opUpdChunk_keeps, id refuse_keeps]
theorem execUpdVerify_keeps (h : Hdr) (s : State) : OutKeeps s (execUpdVerify h s) := by
  unfold execUpdVerify
  try dsimp only
  repeat' split
  all_goals simp [Keeps, id opUpdVerify_keeps]
theorem execUpdHandover_keeps (h : Hdr) (s : State) : OutKeeps s (execUpdHandover h s) := by
  unfold execUpdHandover
  try dsimp only
  repeat' split
  all_goals simp [Keeps, id opUpdHandover_keeps]

/-! ### Machine/Recorder.lean -/

theorem sendParts_keeps (t n : Nat) (es : List Entry) (s : State) : Keeps s (sendParts t n es s) := by
  induction n generalizing es s with
  | zero => simp [sendParts, id finish_keeps, id sendReply_keeps]
  | succ n ih =>
    unfold sendParts
    dsimp only
    repeat' split
    all_goals simp [ih, id finish_keeps, id sendReply_keeps]
theorem opRecRead_keeps (t : Nat) (first : Esn) (count : U16) (s : State) : Keeps s (opRecRead t first count s) := by
  unfold opRecRead
  try dsimp only
  repeat' split
  all_goals simp [Keeps, id refuse_keeps, id sendParts_keeps]
theorem opRecInfo_keeps (t : Nat) (s : State) : Keeps s (opRecInfo t s) := by
  unfold opRecInfo
  try dsimp only
  repeat' split
  all_goals simp [Keeps, id drawFree_keeps, id finish_keeps, id refuse_keeps]
theorem opTrendRead_keeps (t : Nat) (channel count : U16) (time : U64) (s : State) : Keeps s (opTrendRead t channel count time s) := by
  unfold opTrendRead
  try dsimp only
  repeat' split
  all_goals simp [Keeps, id finish_keeps, id refuse_keeps]
theorem execRecorderFlush_keeps (s : State) : OutKeeps s (execRecorderFlush s) := by
  unfold execRecorderFlush
  try dsimp only
  repeat' split
  all_goals simp [Keeps, id flushBuffer_keeps]
theorem recFlush_keeps (s : State) : Keeps s (recFlush s) := by
  unfold recFlush
  try dsimp only
  repeat' split
  all_goals simp [Keeps, id flushBuffer_keeps]
theorem execRecFlush_keeps (s : State) : OutKeeps s (execRecFlush s) := by
  unfold execRecFlush
  try dsimp only
  repeat' split
  all_goals simp [Keeps, id recFlush_keeps]
theorem setSampleEn_keeps (en : Bool) (s : State) : Keeps s (setSampleEn en s) := by
  unfold setSampleEn
  try dsimp only
  repeat' split
  all_goals simp [Keeps]
theorem execRecSampleEnWrite_keeps (en : Bool) (s : State) : OutKeeps s (execRecSampleEnWrite en s) := by
  unfold execRecSampleEnWrite
  try dsimp only
  repeat' split
  all_goals simp [Keeps, id setSampleEn_keeps]
theorem execPostTriggerEnd_keeps (s : State) : OutKeeps s (execPostTriggerEnd s) := by
  unfold execPostTriggerEnd
  try dsimp only
  repeat' split
  all_goals simp [Keeps]
theorem execTrendRecord_keeps (channel : Fin 128) (s : State) : OutKeeps s (execTrendRecord channel s) := by
  unfold execTrendRecord
  try dsimp only
  repeat' split
  all_goals simp [Keeps, id drawFree_keeps]
theorem execRecInfo_keeps (h : Hdr) (s : State) : OutKeeps s (execRecInfo h s) := by
  unfold execRecInfo
  try dsimp only
  repeat' split
  all_goals simp [Keeps, id opRecInfo_keeps]
theorem execRecRead_keeps (h : Hdr) (first : Esn) (count : U16) (s : State) : OutKeeps s (execRecRead h first count s) := by
  unfold execRecRead
  try dsimp only
  repeat' split
  all_goals simp [Keeps, id opRecRead_keeps]
theorem execTrendRead_keeps (h : Hdr) (channel : U16) (count : U16) (time : U64) (s : State) : OutKeeps s (execTrendRead h channel count time s) := by
  unfold execTrendRead
  try dsimp only
  repeat' split
  all_goals simp [Keeps, id opTrendRead_keeps]

/-! ### Machine/Security.lean -/

theorem openSession_keeps (i : Nat) (k : Digest) (seq : U32) (s : State) : Keeps s (openSession i k seq s) := by
  unfold openSession
  try dsimp only
  repeat' split
  all_goals simp [Keeps]
theorem opSessionOpen_keeps (t : Nat) (s : State) : Keeps s (opSessionOpen t s) := by
  unfold opSessionOpen
  try dsimp only
  repeat' split
  all_goals simp [Keeps, id finish_keeps, id openSession_keeps, id refuse_keeps]
theorem serveSession_keeps (h : Hdr) (plain : Option (List Byte)) (s : State) : Keeps s (serveSession h plain s) := by
  unfold serveSession
  try dsimp only
  repeat' split
  all_goals simp [Keeps, id admits_keeps, id enqueue_keeps, id modCtx_keeps, id opSessionOpen_keeps]
theorem opSessionClose_keeps (t : Nat) (s : State) : Keeps s (opSessionClose t s) := by
  unfold opSessionClose
  try dsimp only
  repeat' split
  all_goals simp [Keeps, id closeSession_keeps, id finish_keeps]
theorem execSessionIdleTimeout_keeps (sid : Fin 8) (s : State) : OutKeeps s (execSessionIdleTimeout sid s) := by
  unfold execSessionIdleTimeout
  try dsimp only
  repeat' split
  all_goals simp [Keeps, id closeSession_keeps]
theorem issueNonce_keeps (i : Nat) (s : State) : Keeps s (issueNonce i s).2 := by
  unfold issueNonce
  try dsimp only
  repeat' split
  all_goals simp [Keeps, id modSess_keeps]
theorem opKeyInfo_keeps (t : Nat) (part : Byte) (s : State) : Keeps s (opKeyInfo t part s) := by
  unfold opKeyInfo
  try dsimp only
  repeat' split
  all_goals simp [Keeps, id drawMany_keeps, id finish_keeps, id issueNonce_keeps, id refuse_keeps]
theorem execNonceExpiry_keeps (sid : Fin 8) (s : State) : OutKeeps s (execNonceExpiry sid s) := by
  unfold execNonceExpiry
  try dsimp only
  repeat' split
  all_goals simp [Keeps, id modSess_keeps]
theorem setOwner_keeps (i : Nat) (o : OwnerSlot) (s : State) : SameUnits s (setOwner i o s) ∧ (setOwner i o s).store.fuses = s.store.fuses ∧ (setOwner i o s).time.dev = s.time.dev ∧ (setOwner i o s).dev.split = s.dev.split ∧ (setOwner i o s).dev.ph = s.dev.ph := by
  unfold setOwner
  try dsimp only
  repeat' split
  all_goals simp [id note_keeps]
theorem ownerAuth_keeps (t : Nat) (signer action : Byte) (hash : Digest) (sig : Rsa) (s : State) : Keeps s (ownerAuth t signer action hash sig s).2 := by
  unfold ownerAuth
  try dsimp only
  repeat' split
  all_goals simp [Keeps, id verifySigned_keeps]
theorem opOwnerFuse_keeps (t : Nat) (signer target : Byte) (hash : Digest) (sig : Rsa) (s : State) : SameUnits s (opOwnerFuse t signer target hash sig s) ∧ (opOwnerFuse t signer target hash sig s).store.fuses = s.store.fuses ∧ (opOwnerFuse t signer target hash sig s).time.dev = s.time.dev ∧ (opOwnerFuse t signer target hash sig s).dev.split = s.dev.split ∧ (opOwnerFuse t signer target hash sig s).dev.ph = s.dev.ph := by
  unfold opOwnerFuse
  try dsimp only
  repeat' split
  all_goals simp [id finish_keeps, id ownerAuth_keeps, id refuse_keeps, id setOwner_keeps]
theorem opOwnerRevoke_keeps (t : Nat) (signer target : Byte) (hash : Digest) (sig : Rsa) (s : State) : SameUnits s (opOwnerRevoke t signer target hash sig s) ∧ (opOwnerRevoke t signer target hash sig s).store.fuses = s.store.fuses ∧ (opOwnerRevoke t signer target hash sig s).time.dev = s.time.dev ∧ (opOwnerRevoke t signer target hash sig s).dev.split = s.dev.split ∧ (opOwnerRevoke t signer target hash sig s).dev.ph = s.dev.ph := by
  unfold opOwnerRevoke
  try dsimp only
  repeat' split
  all_goals simp [id finish_keeps, id ownerAuth_keeps, id refuse_keeps, id setOwner_keeps]
theorem opAttest_keeps (t : Nat) (nonce : Digest) (s : State) : Keeps s (opAttest t nonce s) := by
  unfold opAttest
  try dsimp only
  repeat' split
  all_goals simp [Keeps, id drawMany_keeps, id finish_keeps, id refuse_keeps]
theorem execAttest_keeps (h : Hdr) (nonce : Digest) (s : State) : OutKeeps s (execAttest h nonce s) := by
  unfold execAttest
  try dsimp only
  repeat' split
  all_goals simp [Keeps, id opAttest_keeps]
theorem execSessionOpen_keeps (h : Hdr) (plain : Option (List Byte)) (s : State) : OutKeeps s (execSessionOpen h plain s) := by
  unfold execSessionOpen
  try dsimp only
  repeat' split
  all_goals simp [Keeps, id serveSession_keeps]
theorem execSessionClose_keeps (h : Hdr) (s : State) : OutKeeps s (execSessionClose h s) := by
  unfold execSessionClose
  try dsimp only
  repeat' split
  all_goals simp [Keeps, id opSessionClose_keeps]
theorem execKeyInfo_keeps (h : Hdr) (part : Byte) (s : State) : OutKeeps s (execKeyInfo h part s) := by
  unfold execKeyInfo
  try dsimp only
  repeat' split
  all_goals simp [Keeps, id opKeyInfo_keeps]

/-! ### Machine/Window.lean -/

theorem writeGates_keeps (v m : Nat) (s : State) : Keeps s (writeGates v m s) := by
  unfold writeGates
  try dsimp only
  repeat' split
  all_goals simp [Keeps, id closeGate_keeps, id openGate_keeps]
theorem writeClk_keeps (off v m c : Nat) (s : State) : Keeps s (writeClk off v m c s) := by
  unfold writeClk
  try dsimp only
  repeat' split
  all_goals simp [Keeps, id writeClkSel_keeps, id writeGates_keeps]
theorem writeOpPoint_keeps (v m : Nat) (s : State) : Keeps s (writeOpPoint v m s) := by
  unfold writeOpPoint
  try dsimp only
  repeat' split
  all_goals simp [Keeps, id requestMain_keeps, id requestMon_keeps]
theorem writePwr_keeps (off v m c : Nat) (s : State) : Keeps s (writePwr off v m c s) := by
  unfold writePwr
  try dsimp only
  repeat' split
  all_goals simp [Keeps, id modDom_keeps, id requestDomain_keeps, id writeOpPoint_keeps]
theorem writeFm_keeps (off v c : Nat) (s : State) : Keeps s (writeFm off v c s) := by
  unfold writeFm
  try dsimp only
  repeat' split
  all_goals simp [Keeps, id fmBegin_keeps]
theorem writeSns_keeps (x off v c : Nat) (s : State) : Keeps s (writeSns x off v c s) := by
  unfold writeSns
  try dsimp only
  repeat' split
  all_goals simp [Keeps, id forceComparator_keeps, id modBank_keeps]
theorem writeRec_keeps (m v c : Nat) (s : State) : Keeps s (writeRec m v c s) := by
  unfold writeRec
  try dsimp only
  repeat' split
  all_goals simp [Keeps, id recFlush_keeps, id setSampleEn_keeps]
theorem writeReg_keeps (r : RegAt) (v m c : Nat) (s : State) : Keeps s (writeReg r v m c s) := by
  unfold writeReg
  try dsimp only
  repeat' split
  all_goals simp [Keeps, id modBridge_keeps, id modCan_keeps, id writeClk_keeps, id writeFm_keeps, id writePwr_keeps, id writeRec_keeps, id
      writeSns_keeps]
theorem opRegRead_keeps (t : Nat) (addr : U32) (words : U16) (s : State) : Keeps s (opRegRead t addr words s) := by
  unfold opRegRead
  try dsimp only
  repeat' split
  all_goals simp [Keeps, id finish_keeps, id refuse_keeps]
theorem opRegWrite_keeps (t : Nat) (addr mask value : U32) (s : State) : Keeps s (opRegWrite t addr mask value s) := by
  unfold opRegWrite
  try dsimp only
  repeat' split
  all_goals simp [Keeps, id finish_keeps, id refuse_keeps, id writeReg_keeps]
theorem execRegRead_keeps (h : Hdr) (addr : U32) (words : U16) (s : State) : OutKeeps s (execRegRead h addr words s) := by
  unfold execRegRead
  try dsimp only
  repeat' split
  all_goals simp [Keeps, id opRegRead_keeps]
theorem execRegWrite_keeps (h : Hdr) (addr mask value : U32) (s : State) : OutKeeps s (execRegWrite h addr mask value s) := by
  unfold execRegWrite
  try dsimp only
  repeat' split
  all_goals simp [Keeps, id opRegWrite_keeps]

/-! ### Machine/Freeze.lean -/

theorem execFreezePinRise_keeps (s : State) : OutKeeps s (execFreezePinRise s) := by
  unfold execFreezePinRise
  try dsimp only
  repeat' split
  all_goals simp [Keeps]
theorem opFreeze_keeps (t : Nat) (s : State) : Keeps s (opFreeze t s) := by
  unfold opFreeze
  try dsimp only
  repeat' split
  all_goals simp [Keeps, id finish_keeps]
theorem freezeBridge_keeps (b : Nat) (s : State) : Keeps s (freezeBridge b s) := by
  unfold freezeBridge
  try dsimp only
  repeat' split
  all_goals simp [Keeps, id modBridge_keeps, id reselect_keeps]
theorem freezeStep1_keeps (s : State) : Keeps s (freezeStep1 s) := by
  unfold freezeStep1
  try dsimp only
  repeat' split
  all_goals simp [Keeps, id freezeBridge_keeps]
theorem freezeStop_keeps (s : State) : SameUnits s (freezeStop s) ∧ (freezeStop s).store.owners = s.store.owners ∧ (freezeStop s).store.fuses = s.store.fuses ∧ (freezeStop s).time.dev = s.time.dev ∧ (freezeStop s).dev.split = s.dev.split := by
  unfold freezeStop
  try dsimp only
  repeat' split
  all_goals simp [id driveAux_keeps, id modLg_keeps]
theorem takeFreeze_keeps (forced : Byte) (s : State) : SameUnits s (takeFreeze forced s) ∧ (takeFreeze forced s).store.owners = s.store.owners ∧ (takeFreeze forced s).store.fuses = s.store.fuses ∧ (takeFreeze forced s).time.dev = s.time.dev ∧ (takeFreeze forced s).dev.split = s.dev.split := by
  unfold takeFreeze
  try dsimp only
  repeat' split
  all_goals simp [id allocEsn_keeps, id drawMany_keeps, id freezeStep1_keeps, id freezeStop_keeps]
theorem execFreezeWatcherFastClear_keeps (b : Fin 8) (halfTicks : Nat) (s : State) : OutKeeps s (execFreezeWatcherFastClear b halfTicks s) := by
  unfold execFreezeWatcherFastClear
  try dsimp only
  repeat' split
  all_goals simp [Keeps, id modBridge_keeps, id reselect_keeps]
theorem execSnpStatus_keeps (vio : Bool) (s : State) : OutKeeps s (execSnpStatus vio s) := by
  unfold execSnpStatus
  try dsimp only
  repeat' split
  all_goals simp [Keeps, id emit_keeps]
theorem execSnpRead_keeps (vio : Bool) (addr : BitVec 24) (count : Nat) (s : State) : OutKeeps s (execSnpRead vio addr count s) := by
  unfold execSnpRead
  try dsimp only
  repeat' split
  all_goals simp [Keeps, id emit_keeps]
theorem opSnapshotInfo_keeps (t : Nat) (s : State) : Keeps s (opSnapshotInfo t s) := by
  unfold opSnapshotInfo
  try dsimp only
  repeat' split
  all_goals simp [Keeps, id drawMany_keeps, id finish_keeps]
theorem execFreeze_keeps (h : Hdr) (s : State) : OutKeeps s (execFreeze h s) := by
  unfold execFreeze
  try dsimp only
  repeat' split
  all_goals simp [Keeps, id opFreeze_keeps]
theorem execSnapshotInfo_keeps (h : Hdr) (s : State) : OutKeeps s (execSnapshotInfo h s) := by
  unfold execSnapshotInfo
  try dsimp only
  repeat' split
  all_goals simp [Keeps, id opSnapshotInfo_keeps]

end Sys2Proof.Machine
end

