-- ==== Sys2Proof/Laws/FrameControl.lean ====
section
/-! SUPPORT. One lemma per function: the same for PWM, control and starting functions and their commands. -/

namespace Sys2Proof.Machine

set_option linter.unusedTactic false
set_option linter.unusedSimpArgs false

/-! ### Machine/Pwm.lean -/

theorem compareEvent_keeps (bit b time : Nat) (happened : Bool) (s : State) : Keeps s (compareEvent bit b time happened s) := by
  unfold compareEvent
  try dsimp only
  repeat' split
  all_goals simp [Keeps, id recordAt_keeps]
theorem pwmEvent_keeps (bit b : Nat) (happened : Bool) (s : State) : Keeps s (pwmEvent bit b happened s) := by
  unfold pwmEvent
  try dsimp only
  repeat' split
  all_goals simp [Keeps, id modBridge_keeps]
theorem planLeg_keeps (b k t : Nat) (p : Plan) (s : State) : Keeps s (planLeg b k t p s) := by
  unfold planLeg
  try dsimp only
  repeat' split
  all_goals simp [Keeps, id modBridge_keeps]
theorem planApart_keeps (b k t : Nat) (ph pl : Plan) (s : State) : Keeps s (planApart b k t ph pl s) := by
  unfold planApart
  try dsimp only
  repeat' split
  all_goals simp [Keeps, id modBridge_keeps]
theorem formLeg_keeps (b k t : Nat) (peak : Bool) (s : State) : Keeps s (formLeg b k t peak s) := by
  unfold formLeg
  try dsimp only
  repeat' split
  all_goals simp [Keeps, id modBridge_keeps, id planApart_keeps, id planLeg_keeps]
theorem formTimes_keeps (b : Nat) (peak : Bool) (s : State) : Keeps s (formTimes b peak s) := by
  unfold formTimes
  try dsimp only
  repeat' split
  all_goals simp [Keeps, id compareEvent_keeps, id formLeg_keeps, id modBridge_keeps, id pwmEvent_keeps]
theorem setLeg_keeps (b k t : Nat) (high : Bool) (s : State) : Keeps s (setLeg b k t high s) := by
  unfold setLeg
  try dsimp only
  repeat' split
  all_goals simp [Keeps, id modBridge_keeps]
theorem flipSix_keeps (b k : Nat) (s : State) : Keeps s (flipSix b k s) := by
  unfold flipSix
  try dsimp only
  repeat' split
  all_goals simp [Keeps, id modBridge_keeps]
theorem dropToggle_keeps (b k : Nat) (s : State) : Keeps s (dropToggle b k s) := by
  unfold dropToggle
  try dsimp only
  repeat' split
  all_goals simp [Keeps, id modBridge_keeps]
theorem runToggle_keeps (b k : Nat) (s : State) : Keeps s (runToggle b k s) := by
  unfold runToggle
  try dsimp only
  repeat' split
  all_goals simp [Keeps, id dropToggle_keeps, id flipSix_keeps, id setLeg_keeps]
theorem lateToggles_keeps (b k : Nat) (s : State) : Keeps s (lateToggles b k s) := by
  unfold lateToggles
  try dsimp only
  repeat' split
  all_goals simp [Keeps, id dropToggle_keeps, id flipSix_keeps, id note_keeps, id pwmEvent_keeps]
theorem loadShadows_keeps (b : Nat) (s : State) : Keeps s (loadShadows b s) := by
  unfold loadShadows
  try dsimp only
  repeat' split
  all_goals simp [Keeps, id lateToggles_keeps, id modBridge_keeps]
theorem missUpdate_keeps (b : Nat) (s : State) : Keeps s (missUpdate b s) := by
  unfold missUpdate
  try dsimp only
  repeat' split
  all_goals simp [Keeps, id modBridge_keeps, id note_keeps, id pwmEvent_keeps]
theorem fixEpoch_keeps (s : State) : Keeps s (fixEpoch s) := by
  unfold fixEpoch
  try dsimp only
  repeat' split
  all_goals simp [Keeps]
theorem selectIndep_keeps (b : Nat) (s : State) : Keeps s (selectIndep b s) := by
  unfold selectIndep
  try dsimp only
  repeat' split
  all_goals simp [Keeps, id modBridge_keeps]
theorem firePulse_keeps (m at_ : Nat) (s : State) : Keeps s (firePulse m at_ s) := by
  unfold firePulse
  try dsimp only
  repeat' split
  all_goals simp [Keeps, id modBridge_keeps, id modMach_keeps]
theorem startPulses_keeps (b : Nat) (s : State) : Keeps s (startPulses b s) := by
  unfold startPulses
  try dsimp only
  repeat' split
  all_goals simp [Keeps, id firePulse_keeps]
theorem finishBoundary_keeps (b : Nat) (peak : Bool) (s : State) : Keeps s (finishBoundary b peak s) := by
  unfold finishBoundary
  try dsimp only
  repeat' split
  all_goals simp [Keeps, id formTimes_keeps, id loadShadows_keeps, id missUpdate_keeps, id modBridge_keeps]
theorem restItems_keeps (b : Nat) (s : State) : Keeps s (restItems b s) := by
  unfold restItems
  try dsimp only
  repeat' split
  all_goals simp [Keeps, id modMach_keeps]
theorem periodBoundary_keeps (b : Nat) (peak : Bool) (s : State) : Keeps s (periodBoundary b peak s) := by
  unfold periodBoundary
  try dsimp only
  repeat' split
  all_goals simp [Keeps, id commitNow_keeps, id compareEvent_keeps, id finishBoundary_keeps, id fixEpoch_keeps, id modBridge_keeps, id
      restItems_keeps, id selectIndep_keeps, id startPulses_keeps]
theorem execPeriodBoundary_keeps (b : Fin 8) (peak : Bool) (s : State) : OutKeeps s (execPeriodBoundary b peak s) := by
  unfold execPeriodBoundary
  try dsimp only
  repeat' split
  all_goals simp [Keeps, id periodBoundary_keeps]
theorem settleLate_keeps (m : Nat) (s : State) : Keeps s (settleLate m s) := by
  unfold settleLate
  try dsimp only
  repeat' split
  all_goals simp [Keeps, id finishBoundary_keeps]
theorem execMissedUpdateLimit_keeps (b : Fin 8) (s : State) : OutKeeps s (execMissedUpdateLimit b s) := by
  unfold execMissedUpdateLimit
  try dsimp only
  repeat' split
  all_goals simp [Keeps, id raiseFault_keeps]
theorem applyEdge_keeps (b : Nat) (e : CmdEdge) (s : State) : Keeps s (applyEdge b e s) := by
  unfold applyEdge
  try dsimp only
  repeat' split
  all_goals simp [Keeps, id offCmd_keeps, id onOrRefuse_keeps]
theorem sendEdges_keeps (b : Nat) (s : State) : Keeps s (sendEdges b s) := by
  unfold sendEdges
  try dsimp only
  repeat' split
  all_goals simp [Keeps, id applyEdge_keeps, id modBridge_keeps]
theorem gateTick_keeps (c : Nat) (s : State) : Keeps s (gateTick c s) := by
  unfold gateTick
  try dsimp only
  repeat' split
  all_goals simp [Keeps, id drawFree_keeps, id modChan_keeps]
theorem floatTick_keeps (b k : Nat) (s : State) : Keeps s (floatTick b k s) := by
  unfold floatTick
  try dsimp only
  repeat' split
  all_goals simp [Keeps, id modBridge_keeps, id setLeg_keeps]
theorem gatesTick_keeps (s : State) : Keeps s (gatesTick s) := by
  unfold gatesTick
  try dsimp only
  repeat' split
  all_goals simp [Keeps, id floatTick_keeps, id gateTick_keeps, id sendEdges_keeps]
theorem execInterlockRefusal_keeps (leg : Fin 24) (s : State) : OutKeeps s (execInterlockRefusal leg s) := by
  unfold execInterlockRefusal
  try dsimp only
  repeat' split
  all_goals simp [Keeps, id driveLeg_keeps, id modBridge_keeps, id note_keeps]
theorem raiseAtLeast_keeps (lo code ix : Nat) (src : U16) (sc : Scope) (data : List Byte) (s : State) : Keeps s (raiseAtLeast lo code ix src sc data s) := by
  unfold raiseAtLeast
  try dsimp only
  repeat' split
  all_goals simp [Keeps, id raise0508_keeps, id react_keeps, id recordEvent_keeps]
theorem execRefusalLimit_keeps (b : Fin 8) (s : State) : OutKeeps s (execRefusalLimit b s) := by
  unfold execRefusalLimit
  try dsimp only
  repeat' split
  all_goals simp [Keeps, id raiseAtLeast_keeps]
theorem execSixstepToggle_keeps (leg : Fin 24) (s : State) : OutKeeps s (execSixstepToggle leg s) := by
  unfold execSixstepToggle
  try dsimp only
  repeat' split
  all_goals simp [Keeps, id runToggle_keeps]
theorem sampleGen_keeps (b : Nat) (o : TrigObs) (s : State) : Keeps s (sampleGen b o s) := by
  unfold sampleGen
  try dsimp only
  repeat' split
  all_goals simp [Keeps, id modBank_keeps]
theorem latchNow_keeps (p : Nat) (s : State) : Keeps s (latchNow p s) := by
  unfold latchNow
  try dsimp only
  repeat' split
  all_goals simp [Keeps, id modPos_keeps]
theorem latchPosition_keeps (b : Nat) (s : State) : Keeps s (latchPosition b s) := by
  unfold latchPosition
  try dsimp only
  repeat' split
  all_goals simp [Keeps, id latchNow_keeps, id modPos_keeps]
theorem latchTick_keeps (p : Nat) (s : State) : Keeps s (latchTick p s) := by
  unfold latchTick
  try dsimp only
  repeat' split
  all_goals simp [Keeps, id latchNow_keeps]
theorem trigger0_keeps (b : Nat) (o : TrigObs) (s : State) : Keeps s (trigger0 b o s) := by
  unfold trigger0
  try dsimp only
  repeat' split
  all_goals simp [Keeps, id drawMany_keeps, id latchPosition_keeps, id modBridge_keeps, id sampleGen_keeps]
theorem triggerX_keeps (b n : Nat) (o : TrigObs) (s : State) : Keeps s (triggerX b n o s) := by
  unfold triggerX
  try dsimp only
  repeat' split
  all_goals simp [Keeps, id drawMany_keeps, id modBridge_keeps]
theorem monitorTrigger_keeps (b n : Nat) (s : State) : Keeps s (monitorTrigger b n s) := by
  unfold monitorTrigger
  try dsimp only
  repeat' split
  all_goals simp [Keeps, id monitorSample_keeps]
theorem execAdcTrigger_keeps (b : Fin 8) (obs : TrigObs) (s : State) : OutKeeps s (execAdcTrigger b obs s) := by
  unfold execAdcTrigger
  try dsimp only
  repeat' split
  all_goals simp [Keeps, id compareEvent_keeps, id monitorTrigger_keeps, id sampleGen_keeps, id trigger0_keeps, id triggerX_keeps]
theorem execSyncPulse_keeps (arrival : Nat) (s : State) : OutKeeps s (execSyncPulse arrival s) := by
  unfold execSyncPulse
  try dsimp only
  repeat' split
  all_goals simp [Keeps]
theorem execSyncLoss_keeps (periods : Nat) (s : State) : OutKeeps s (execSyncLoss periods s) := by
  unfold execSyncLoss
  try dsimp only
  repeat' split
  all_goals simp [Keeps, id note_keeps]

/-! ### Machine/Control.lean -/

theorem speedLoop_keeps (m : Nat) (v : Int) (s : State) : Keeps s (speedLoop m v s) := by
  unfold speedLoop
  try dsimp only
  repeat' split
  all_goals simp [Keeps, id modMach_keeps]
theorem takeTorque_keeps (m : Nat) (s : State) : Keeps s (takeTorque m s) := by
  unfold takeTorque
  try dsimp only
  repeat' split
  all_goals simp [Keeps, id modMach_keeps, id speedLoop_keeps]
theorem convertTorque_keeps (m : Nat) (s : State) : Keeps s (convertTorque m s) := by
  unfold convertTorque
  try dsimp only
  repeat' split
  all_goals simp [Keeps, id modMach_keeps]
theorem referenceUpdate_keeps (m : Nat) (s : State) : Keeps s (referenceUpdate m s) := by
  unfold referenceUpdate
  try dsimp only
  repeat' split
  all_goals simp [Keeps, id convertTorque_keeps, id modMach_keeps, id takeTorque_keeps]
theorem execReferenceUpdate_keeps (m : Fin 8) (s : State) : OutKeeps s (execReferenceUpdate m s) := by
  unfold execReferenceUpdate
  try dsimp only
  repeat' split
  all_goals simp [Keeps, id referenceUpdate_keeps]
theorem leaveCrossings_keeps (m : Nat) (s : State) : Keeps s (leaveCrossings m s) := by
  unfold leaveCrossings
  try dsimp only
  repeat' split
  all_goals simp [Keeps, id modMach_keeps, id raiseFault_keeps]
theorem observerMode_keeps (m : Nat) (s : State) : Keeps s (observerMode m s) := by
  unfold observerMode
  try dsimp only
  repeat' split
  all_goals simp [Keeps, id coastMachine_keeps, id modMach_keeps]
theorem observe_keeps (m : Nat) (s : State) : Keeps s (observe m s) := by
  unfold observe
  try dsimp only
  repeat' split
  all_goals simp [Keeps, id modMach_keeps]
theorem takeAngle_keeps (m : Nat) (s : State) : Keeps s (takeAngle m s) := by
  unfold takeAngle
  try dsimp only
  repeat' split
  all_goals simp [Keeps, id modMach_keeps, id observe_keeps, id observerMode_keeps]
theorem imModel_keeps (f m : Nat) (s : State) : Keeps s (imModel f m s) := by
  unfold imModel
  try dsimp only
  repeat' split
  all_goals simp [Keeps, id modMach_keeps]
theorem advanceRamp_keeps (m : Nat) (s : State) : Keeps s (advanceRamp m s) := by
  unfold advanceRamp
  try dsimp only
  repeat' split
  all_goals simp [Keeps, id modMach_keeps]
theorem endCoast_keeps (m : Nat) (s : State) : Keeps s (endCoast m s) := by
  unfold endCoast
  try dsimp only
  repeat' split
  all_goals simp [Keeps, id machSwitchesOff_keeps, id machineLeaves_keeps, id modBridge_keeps, id modMach_keeps]
theorem stepRefs_keeps (f m : Nat) (s : State) : Keeps s (stepRefs f m s).2 := by
  unfold stepRefs
  try dsimp only
  repeat' split
  all_goals simp [Keeps, id modMach_keeps, id raiseFault_keeps]
theorem currentLoops_keeps (refs : Int × Int) (m : Nat) (s : State) : Keeps s (currentLoops refs m s).2 := by
  unfold currentLoops
  try dsimp only
  repeat' split
  all_goals simp [Keeps, id modMach_keeps]
theorem xyLoops_keeps (m : Nat) (s : State) : Keeps s (xyLoops m s) := by
  unfold xyLoops
  try dsimp only
  repeat' split
  all_goals simp [Keeps, id modMach_keeps]
theorem writeShadows_keeps (b : Nat) (r : PwmRegs) (s : State) : Keeps s (writeShadows b r s) := by
  unfold writeShadows
  try dsimp only
  repeat' split
  all_goals simp [Keeps, id modBridge_keeps]
theorem commitCarrier_keeps (f m : Nat) (s : State) : Keeps s (commitCarrier f m s) := by
  unfold commitCarrier
  try dsimp only
  repeat' split
  all_goals simp [Keeps, id writeShadows_keeps]
theorem commitSix_keeps (m : Nat) (s : State) : Keeps s (commitSix m s) := by
  unfold commitSix
  try dsimp only
  repeat' split
  all_goals simp [Keeps, id writeShadows_keeps]
theorem sixCounts_keeps (f m : Nat) (v : Rat) (refs : Int × Int) (s : State) : Keeps s (sixCounts f m v refs s) := by
  unfold sixCounts
  try dsimp only
  repeat' split
  all_goals simp [Keeps, id modMach_keeps]
theorem leaveSix_keeps (m : Nat) (s : State) : Keeps s (leaveSix m s) := by
  unfold leaveSix
  try dsimp only
  repeat' split
  all_goals simp [Keeps, id commitCarrier_keeps, id drawMany_keeps, id modMach_keeps]
theorem enterSix_keeps (m : Nat) (s : State) : Keeps s (enterSix m s) := by
  unfold enterSix
  try dsimp only
  repeat' split
  all_goals simp [Keeps, id commitSix_keeps, id modMach_keeps]
theorem execSixstepEntry_keeps (m : Fin 8) (s : State) : OutKeeps s (execSixstepEntry m s) := by
  unfold execSixstepEntry
  try dsimp only
  repeat' split
  all_goals simp [Keeps, id enterSix_keeps]
theorem execSixstepExit_keeps (m : Fin 8) (s : State) : OutKeeps s (execSixstepExit m s) := by
  unfold execSixstepExit
  try dsimp only
  repeat' split
  all_goals simp [Keeps, id leaveSix_keeps]
theorem stepSix_keeps (m : Nat) (newTable : Bool) (s : State) : Keeps s (stepSix m newTable s) := by
  unfold stepSix
  try dsimp only
  repeat' split
  all_goals simp [Keeps, id commitSix_keeps, id modMach_keeps]
theorem detectLoss_keeps (m : Nat) (s : State) : Keeps s (detectLoss m s) := by
  unfold detectLoss
  try dsimp only
  repeat' split
  all_goals simp [Keeps, id leaveSix_keeps, id modMach_keeps, id raiseFault_keeps]
theorem rotateOut_keeps (b : Nat) (s : State) : Keeps s (rotateOut b s) := by
  unfold rotateOut
  try dsimp only
  repeat' split
  all_goals simp [Keeps, id modBridge_keeps, id switchesOff_keeps]
theorem rejoin_keeps (m j : Nat) (s : State) : Keeps s (rejoin m j s) := by
  unfold rejoin
  try dsimp only
  repeat' split
  all_goals simp [Keeps, id modBridge_keeps, id modMach_keeps]
theorem rotate_keeps (m : Nat) (s : State) : Keeps s (rotate m s) := by
  unfold rotate
  try dsimp only
  repeat' split
  all_goals simp [Keeps, id leaveSix_keeps, id modMach_keeps, id rejoin_keeps, id rotateOut_keeps]
theorem execFeRotation_keeps (m : Fin 8) (s : State) : OutKeeps s (execFeRotation m s) := by
  unfold execFeRotation
  try dsimp only
  repeat' split
  all_goals simp [Keeps, id rotate_keeps]
theorem formIdc_keeps (b : Nat) (s : State) : Keeps s (formIdc b s) := by
  unfold formIdc
  try dsimp only
  repeat' split
  all_goals simp [Keeps, id modBridge_keeps]
theorem sampleRecord_keeps (m b : Nat) (s : State) : Keeps s (sampleRecord m b s) := by
  unfold sampleRecord
  try dsimp only
  repeat' split
  all_goals simp [Keeps, id allocEsn_keeps, id modBridge_keeps, id pushSample_keeps]
theorem supervise_keeps (refs : Int × Int) (m : Nat) (s : State) : Keeps s (supervise refs m s) := by
  unfold supervise
  try dsimp only
  repeat' split
  all_goals simp [Keeps, id modMach_keeps]
theorem reportTorque_keeps (m : Nat) (refs : Int × Int) (s : State) : Keeps s (reportTorque m refs s) := by
  unfold reportTorque
  try dsimp only
  repeat' split
  all_goals simp [Keeps, id modMach_keeps]
theorem controlSteps_keeps (m : Nat) (newTable : Bool) (s : State) : Keeps s (controlSteps m newTable s) := by
  unfold controlSteps
  try dsimp only
  repeat' split
  all_goals simp [Keeps, id advanceRamp_keeps, id commitCarrier_keeps, id currentLoops_keeps, id drawMany_keeps, id formIdc_keeps, id
      imModel_keeps, id modMach_keeps, id reportTorque_keeps, id sampleRecord_keeps, id sixCounts_keeps, id stepRefs_keeps, id
      stepSix_keeps, id supervise_keeps, id takeAngle_keeps, id xyLoops_keeps]
theorem controlPeriod_keeps (m : Nat) (o : CtrlObs) (s : State) : Keeps s (controlPeriod m o s) := by
  unfold controlPeriod
  try dsimp only
  repeat' split
  all_goals simp [Keeps, id controlSteps_keeps, id detectLoss_keeps, id endCoast_keeps, id leaveCrossings_keeps, id modMach_keeps]
theorem countControl_keeps (m : Nat) (s : State) : Keeps s (countControl m s) := by
  unfold countControl
  try dsimp only
  repeat' split
  all_goals simp [Keeps, id modBridge_keeps]
theorem execControlPeriod_keeps (m : Fin 8) (obs : CtrlObs) (s : State) : OutKeeps s (execControlPeriod m obs s) := by
  unfold execControlPeriod
  try dsimp only
  repeat' split
  all_goals simp [Keeps, id controlPeriod_keeps, id countControl_keeps, id restItems_keeps, id settleLate_keeps]
theorem execTorqueNotReachable_keeps (m : Fin 8) (s : State) : OutKeeps s (execTorqueNotReachable m s) := by
  unfold execTorqueNotReachable
  try dsimp only
  repeat' split
  all_goals simp [Keeps, id modMach_keeps, id raiseFault_keeps]
theorem raiseOnce_keeps (code m : Nat) (s : State) : Keeps s (raiseOnce code m s) := by
  unfold raiseOnce
  try dsimp only
  repeat' split
  all_goals simp [Keeps, id modMach_keeps, id raiseFault_keeps]
theorem execTrackingError_keeps (m : Fin 8) (s : State) : OutKeeps s (execTrackingError m s) := by
  unfold execTrackingError
  try dsimp only
  repeat' split
  all_goals simp [Keeps, id raiseOnce_keeps]
theorem execXyExcess_keeps (m : Fin 8) (s : State) : OutKeeps s (execXyExcess m s) := by
  unfold execXyExcess
  try dsimp only
  repeat' split
  all_goals simp [Keeps, id raiseOnce_keeps]
theorem execImFluxTimeout_keeps (m : Fin 8) (s : State) : OutKeeps s (execImFluxTimeout m s) := by
  unfold execImFluxTimeout
  try dsimp only
  repeat' split
  all_goals simp [Keeps, id raiseOnce_keeps]
theorem windowEnd_keeps (m k : Nat) (samples : List ZcSample) (s : State) : Keeps s (windowEnd m k samples s) := by
  unfold windowEnd
  try dsimp only
  repeat' split
  all_goals simp [Keeps, id modMach_keeps]
theorem execZcWindowEnd_keeps (m : Fin 8) (k : Fin 3) (samples : List ZcSample) (s : State) : OutKeeps s (execZcWindowEnd m k samples s) := by
  unfold execZcWindowEnd
  try dsimp only
  repeat' split
  all_goals simp [Keeps, id windowEnd_keeps]
theorem execZcMissLimit_keeps (m : Fin 8) (s : State) : OutKeeps s (execZcMissLimit m s) := by
  unfold execZcMissLimit
  try dsimp only
  repeat' split
  all_goals simp [Keeps, id leaveCrossings_keeps]

/-! ### Machine/Starting.lean -/

theorem endPhase_keeps (m : Nat) (s : State) : Keeps s (endPhase m s) := by
  unfold endPhase
  try dsimp only
  repeat' split
  all_goals simp [Keeps, id autoStart_keeps, id modMach_keeps]
theorem refuseStart_keeps (m : Nat) (reason : Byte) (s : State) : Keeps s (refuseStart m reason s) := by
  unfold refuseStart
  try dsimp only
  repeat' split
  all_goals simp [Keeps, id autoStart_keeps, id endPhase_keeps, id finishMach_keeps, id modMach_keeps]
theorem failStart_keeps (m code : Nat) (reason : Byte) (s : State) : Keeps s (failStart m code reason s) := by
  unfold failStart
  try dsimp only
  repeat' split
  all_goals simp [Keeps, id note_keeps, id refuseStart_keeps]
theorem startChecks_keeps (m : Nat) (spd : Int) (s : State) : Keeps s (startChecks m spd s) := by
  unfold startChecks
  try dsimp only
  repeat' split
  all_goals simp [Keeps, id failStart_keeps, id modMach_keeps, id note_keeps]
theorem rebuildFlux_keeps (m : Nat) (s : State) : Keeps s (rebuildFlux m s) := by
  unfold rebuildFlux
  try dsimp only
  repeat' split
  all_goals simp [Keeps, id modMach_keeps]
theorem checkEnd_keeps (m : Nat) (s : State) : Keeps s (checkEnd m s) := by
  unfold checkEnd
  try dsimp only
  repeat' split
  all_goals simp [Keeps, id refuseStart_keeps, id startChecks_keeps]
theorem execCheckTimeEnd_keeps (m : Fin 8) (s : State) : OutKeeps s (execCheckTimeEnd m s) := by
  unfold execCheckTimeEnd
  try dsimp only
  repeat' split
  all_goals simp [Keeps, id checkEnd_keeps]
theorem caught_keeps (m : Nat) (x : Found) (s : State) : Keeps s (caught m x s) := by
  unfold caught
  try dsimp only
  repeat' split
  all_goals simp [Keeps, id modMach_keeps, id startChecks_keeps]
theorem catchEnd_keeps (m : Nat) (o : CatchObs) (s : State) : Keeps s (catchEnd m o s) := by
  unfold catchEnd
  try dsimp only
  repeat' split
  all_goals simp [Keeps, id beginPluck_keeps, id caught_keeps, id modMach_keeps]
theorem pluckWindowEnd_keeps (m : Nat) (o : CatchObs) (s : State) : Keeps s (pluckWindowEnd m o s) := by
  unfold pluckWindowEnd
  try dsimp only
  repeat' split
  all_goals simp [Keeps, id beginPluck_keeps, id refuseStart_keeps]
theorem watchEnd_keeps (g m : Nat) (o : CatchObs) (s : State) : Keeps s (watchEnd g m o s) := by
  unfold watchEnd
  try dsimp only
  repeat' split
  all_goals simp [Keeps, id armWinding_keeps, id modMach_keeps, id tryWinding_keeps]
theorem windowOver_keeps (m : Nat) (o : CatchObs) (s : State) : Keeps s (windowOver m o s) := by
  unfold windowOver
  try dsimp only
  repeat' split
  all_goals simp [Keeps, id catchEnd_keeps, id pluckWindowEnd_keeps, id watchEnd_keeps]
theorem execCatchWindowEnd_keeps (m : Fin 8) (obs : CatchObs) (s : State) : OutKeeps s (execCatchWindowEnd m obs s) := by
  unfold execCatchWindowEnd
  try dsimp only
  repeat' split
  all_goals simp [Keeps, id windowOver_keeps]
theorem execCatchExtensionEnd_keeps (m : Fin 8) (obs : CatchObs) (s : State) : OutKeeps s (execCatchExtensionEnd m obs s) := by
  unfold execCatchExtensionEnd
  try dsimp only
  repeat' split
  all_goals simp [Keeps, id caught_keeps, id failStart_keeps]
theorem execRectificationDetect_keeps (m : Fin 8) (idc0Mv idc1Mv : Int) (us : Nat) (s : State) : OutKeeps s (execRectificationDetect m idc0Mv idc1Mv us s) := by
  unfold execRectificationDetect
  try dsimp only
  repeat' split
  all_goals simp [Keeps, id raiseWhy_keeps]
theorem passPluck_keeps (m : Nat) (testOnly : Bool) (f : Nat) (sal : Rat) (r : PluckResult) (s : State) : Keeps s (passPluck m testOnly f sal r s) := by
  unfold passPluck
  try dsimp only
  repeat' split
  all_goals simp [Keeps, id endPhase_keeps, id finishMach_keeps, id modMach_keeps]
theorem repeatPluck_keeps (m : Nat) (p : Pluck) (s : State) : Keeps s (repeatPluck m p s) := by
  unfold repeatPluck
  try dsimp only
  repeat' split
  all_goals simp [Keeps, id firePulse_keeps, id modMach_keeps]
theorem judgePluck_keeps (m : Nat) (p : Pluck) (s : State) : Keeps s (judgePluck m p s) := by
  unfold judgePluck
  try dsimp only
  repeat' split
  all_goals simp [Keeps, id drawMany_keeps, id failStart_keeps, id passPluck_keeps, id repeatPluck_keeps]
theorem onePulse_keeps (m : Nat) (p : Pluck) (o : PluckObs) (s : State) : Keeps s (onePulse m p o s) := by
  unfold onePulse
  try dsimp only
  repeat' split
  all_goals simp [Keeps, id drawMany_keeps, id failStart_keeps, id firePulse_keeps, id judgePluck_keeps, id modMach_keeps]
theorem execPluckPulse_keeps (m : Fin 8) (obs : PluckObs) (s : State) : OutKeeps s (execPluckPulse m obs s) := by
  unfold execPluckPulse
  try dsimp only
  repeat' split
  all_goals simp [Keeps, id onePulse_keeps]
theorem lockMatch_keeps (m : Nat) (s : State) : Keeps s (lockMatch m s) := by
  unfold lockMatch
  try dsimp only
  repeat' split
  all_goals simp [Keeps, id commitCarrier_keeps, id drawMany_keeps, id endPhase_keeps, id finishBoundary_keeps, id finishMach_keeps, id
      freshRun_keeps, id modBridge_keeps, id modMach_keeps, id rebuildFlux_keeps, id setBridges_keeps]
theorem execLockAndMatch_keeps (m : Fin 8) (s : State) : OutKeeps s (execLockAndMatch m s) := by
  unfold execLockAndMatch
  try dsimp only
  repeat' split
  all_goals simp [Keeps, id lockMatch_keeps]
theorem execObserverInvalid_keeps (m : Fin 8) (s : State) : OutKeeps s (execObserverInvalid m s) := by
  unfold execObserverInvalid
  try dsimp only
  repeat' split
  all_goals simp [Keeps, id raiseOnce_keeps]

end Sys2Proof.Machine
end

