-- ==== Sys2Proof/Laws/FrameNetwork.lean ====
section
/-! SUPPORT. One lemma per function: the same for protocol, network, ring and time functions and their commands. -/

namespace Sys2Proof.Machine

set_option linter.unusedTactic false
set_option linter.unusedSimpArgs false

/-! ### Machine/Protocol.lean -/

@[simp] theorem withOrigin_pending (o : List Byte) (f : State → State)
    (h : ∀ s, (f s).pending = s.pending) (s : State) : (withOrigin o f s).pending = s.pending := by
  simp [withOrigin, h]
@[simp] theorem withOrigin_owners (o : List Byte) (f : State → State)
    (h : ∀ s, (f s).store.owners = s.store.owners) (s : State) : (withOrigin o f s).store.owners = s.store.owners := by
  simp [withOrigin, h]
@[simp] theorem withOrigin_fuses (o : List Byte) (f : State → State)
    (h : ∀ s, (f s).store.fuses = s.store.fuses) (s : State) : (withOrigin o f s).store.fuses = s.store.fuses := by
  simp [withOrigin, h]
@[simp] theorem withOrigin_dev (o : List Byte) (f : State → State)
    (h : ∀ s, (f s).time.dev = s.time.dev) (s : State) : (withOrigin o f s).time.dev = s.time.dev := by
  simp [withOrigin, h]
@[simp] theorem withOrigin_split (o : List Byte) (f : State → State)
    (h : ∀ s, (f s).dev.split = s.dev.split) (s : State) : (withOrigin o f s).dev.split = s.dev.split := by
  simp [withOrigin, h]
@[simp] theorem withOrigin_bridges (o : List Byte) (f : State → State)
    (h : ∀ s, (f s).bridges.length = s.bridges.length) (s : State) : (withOrigin o f s).bridges.length = s.bridges.length := by
  simp [withOrigin, h]
@[simp] theorem withOrigin_machs (o : List Byte) (f : State → State)
    (h : ∀ s, (f s).machs.length = s.machs.length) (s : State) : (withOrigin o f s).machs.length = s.machs.length := by
  simp [withOrigin, h]
@[simp] theorem withOrigin_chans (o : List Byte) (f : State → State)
    (h : ∀ s, (f s).chans.length = s.chans.length) (s : State) : (withOrigin o f s).chans.length = s.chans.length := by
  simp [withOrigin, h]
@[simp] theorem withOrigin_lgs (o : List Byte) (f : State → State)
    (h : ∀ s, (f s).lgs.length = s.lgs.length) (s : State) : (withOrigin o f s).lgs.length = s.lgs.length := by
  simp [withOrigin, h]
@[simp] theorem withOrigin_ctds (o : List Byte) (f : State → State)
    (h : ∀ s, (f s).ctds.length = s.ctds.length) (s : State) : (withOrigin o f s).ctds.length = s.ctds.length := by
  simp [withOrigin, h]
@[simp] theorem withOrigin_pos (o : List Byte) (f : State → State)
    (h : ∀ s, (f s).pos.length = s.pos.length) (s : State) : (withOrigin o f s).pos.length = s.pos.length := by
  simp [withOrigin, h]
@[simp] theorem withOrigin_pouts (o : List Byte) (f : State → State)
    (h : ∀ s, (f s).pouts.length = s.pouts.length) (s : State) : (withOrigin o f s).pouts.length = s.pouts.length := by
  simp [withOrigin, h]
@[simp] theorem withOrigin_cmps (o : List Byte) (f : State → State)
    (h : ∀ s, (f s).cmps.length = s.cmps.length) (s : State) : (withOrigin o f s).cmps.length = s.cmps.length := by
  simp [withOrigin, h]
@[simp] theorem withOrigin_temps (o : List Byte) (f : State → State)
    (h : ∀ s, (f s).temps.length = s.temps.length) (s : State) : (withOrigin o f s).temps.length = s.temps.length := by
  simp [withOrigin, h]
@[simp] theorem withOrigin_doms (o : List Byte) (f : State → State)
    (h : ∀ s, (f s).pwr.doms.length = s.pwr.doms.length) (s : State) : (withOrigin o f s).pwr.doms.length = s.pwr.doms.length := by
  simp [withOrigin, h]
@[simp] theorem withOrigin_can (o : List Byte) (f : State → State)
    (h : ∀ s, (f s).net.can.length = s.net.can.length) (s : State) : (withOrigin o f s).net.can.length = s.net.can.length := by
  simp [withOrigin, h]
@[simp] theorem withOrigin_ctx (o : List Byte) (f : State → State)
    (h : ∀ s, (f s).proto.ctx.length = s.proto.ctx.length) (s : State) : (withOrigin o f s).proto.ctx.length = s.proto.ctx.length := by
  simp [withOrigin, h]
@[simp] theorem withOrigin_sess (o : List Byte) (f : State → State)
    (h : ∀ s, (f s).proto.sess.length = s.proto.sess.length) (s : State) : (withOrigin o f s).proto.sess.length = s.proto.sess.length := by
  simp [withOrigin, h]
@[simp] theorem withOrigin_slots (o : List Byte) (f : State → State)
    (h : ∀ s, (f s).store.slots.length = s.store.slots.length) (s : State) : (withOrigin o f s).store.slots.length = s.store.slots.length := by
  simp [withOrigin, h]
@[simp] theorem withOrigin_ph (o : List Byte) (f : State → State)
    (h : ∀ s, (f s).dev.ph = s.dev.ph) (s : State) : (withOrigin o f s).dev.ph = s.dev.ph := by
  simp [withOrigin, h]

theorem discardPacket_keeps (s : State) : Keeps s (discardPacket s) := by
  unfold discardPacket
  try dsimp only
  repeat' split
  all_goals simp [Keeps]
theorem macFailed_keeps (h : Hdr) (op : Nat) (k : Session) (s : State) : Keeps s (macFailed h op k s) := by
  unfold macFailed
  try dsimp only
  repeat' split
  all_goals simp [Keeps, id bounce_keeps, id closeSession_keeps, id modSess_keeps, id note_keeps]
theorem checkRequest_keeps (h : Hdr) (op : Nat) (b : List Byte) (s : State) : Keeps s (checkRequest h op b s) := by
  unfold checkRequest
  try dsimp only
  repeat' split
  all_goals simp [Keeps, id admits_keeps, id bounce_keeps, id enqueue_keeps, id macFailed_keeps, id modSess_keeps]
theorem checkPacket_keeps (p : Port) (b : List Byte) (padOk : Bool) (s : State) : Keeps s (checkPacket p b padOk s) := by
  unfold checkPacket
  try dsimp only
  repeat' split
  all_goals simp [Keeps, id bounce_keeps, id checkRequest_keeps, id discardPacket_keeps]
theorem execPacketArrival_keeps (port : Port) (bytes padding : List Byte) (s : State) : OutKeeps s (execPacketArrival port bytes padding s) := by
  unfold execPacketArrival
  try dsimp only
  repeat' split
  all_goals simp [Keeps, id checkPacket_keeps]
theorem takeEntry_keeps (i : Nat) (b : List Byte) (m : Nat) (s : State) : Keeps s (takeEntry i b m s) := by
  unfold takeEntry
  try dsimp only
  repeat' split
  all_goals simp [Keeps, id applyRef_keeps, id modMach_keeps, id nextArrival_keeps]
theorem acceptFrame_keeps (p : Port) (i : Nat) (b : List Byte) (s : State) : Keeps s (acceptFrame p i b s) := by
  unfold acceptFrame
  try dsimp only
  repeat' split
  all_goals simp [Keeps, id modSess_keeps, id takeEntry_keeps]
theorem rejectFrame_keeps (p : Port) (s : State) : Keeps s (rejectFrame p s) := by
  unfold rejectFrame
  try dsimp only
  repeat' split
  all_goals simp [Keeps, id noteLimited_keeps]
theorem copyEntries_keeps (b : List Byte) (s : State) : Keeps s (copyEntries b s) := by
  unfold copyEntries
  try dsimp only
  repeat' split
  all_goals simp [Keeps, id modMach_keeps]
theorem setpointFrame_keeps (p : Port) (b : List Byte) (s : State) : Keeps s (setpointFrame p b s) := by
  unfold setpointFrame
  try dsimp only
  repeat' split
  all_goals simp [Keeps, id acceptFrame_keeps, id copyEntries_keeps, id discardPacket_keeps, id rejectFrame_keeps]
theorem readBuffer_keeps (n : Nat) (request : Bool) (d : Nat) (s : State) : Keeps s (readBuffer n request d s) := by
  unfold readBuffer
  try dsimp only
  repeat' split
  all_goals simp [Keeps, id modCan_keeps]
theorem dropReassembly_keeps (n d : Nat) (s : State) : Keeps s (dropReassembly n d s) := by
  unfold dropReassembly
  try dsimp only
  repeat' split
  all_goals simp [Keeps, id modCan_keeps, id noteLimited_keeps]
theorem forwardTo_keeps (d : Nat) (origin packet : List Byte) (s : State) : Keeps s (forwardTo d origin packet s) := by
  unfold forwardTo
  try dsimp only
  repeat' split
  all_goals simp [Keeps, id sendRing_keeps]
theorem segmentsDone_keeps (can : Fin 4) (d : Nat) (b : List Byte) (lastLen : Nat) (s : State) : Keeps s (segmentsDone can d b lastLen s) := by
  unfold segmentsDone
  try dsimp only
  repeat' split
  all_goals simp [Keeps, id checkPacket_keeps, id forwardTo_keeps]
theorem joinSegment_keeps (can : Fin 4) (d : Nat) (sofar data : List Byte) (next : Nat) (last : Bool) (s : State) : Keeps s (joinSegment can d sofar data next last s) := by
  unfold joinSegment
  try dsimp only
  repeat' split
  all_goals simp [Keeps, id dropReassembly_keeps, id segmentsDone_keeps]
theorem takeSegment_keeps (can : Fin 4) (d : Nat) (frame : List Byte) (s : State) : Keeps s (takeSegment can d frame s) := by
  unfold takeSegment
  try dsimp only
  repeat' split
  all_goals simp [Keeps, id dropReassembly_keeps, id joinSegment_keeps]
theorem execCanSegment_keeps (can dev : Fin 4) (s : State) : OutKeeps s (execCanSegment can dev s) := by
  unfold execCanSegment
  try dsimp only
  repeat' split
  all_goals simp [Keeps, id readBuffer_keeps, id takeSegment_keeps]
theorem execSegmentGapTimeout_keeps (can dev : Fin 4) (s : State) : OutKeeps s (execSegmentGapTimeout can dev s) := by
  unfold execSegmentGapTimeout
  try dsimp only
  repeat' split
  all_goals simp [Keeps, id dropReassembly_keeps]
theorem execFastSetpointFrame_keeps (src : SpSource) (s : State) : OutKeeps s (execFastSetpointFrame src s) := by
  unfold execFastSetpointFrame
  try dsimp only
  repeat' split
  all_goals simp [Keeps, id readBuffer_keeps, id setpointFrame_keeps]
theorem discardDatagram_keeps (p : Nat) (s : State) : Keeps s (discardDatagram p s) := by
  unfold discardDatagram
  try dsimp only
  repeat' split
  all_goals simp [Keeps]
theorem ownDatagram_keeps (p : Fin 3) (origin payload : List Byte) (s : State) : Keeps s (ownDatagram p origin payload s) := by
  unfold ownDatagram
  try dsimp only
  repeat' split
  all_goals simp [Keeps, id checkPacket_keeps, id discardDatagram_keeps, id setpointFrame_keeps]
theorem udpArrives_keeps (p : Fin 3) (dstPort : Nat) (payload : List Byte) (src : U32) (srcPort : U16) (s : State) : Keeps s (udpArrives p dstPort payload src srcPort s) := by
  unfold udpArrives
  try dsimp only
  repeat' split
  all_goals simp [Keeps, id forwardTo_keeps, id ownDatagram_keeps]
theorem takeFragment_keeps (p : Fin 3) (src : U32) (ident : U16) (offset : Nat) (more : Bool) (bytes : List Byte) (s : State) : Keeps s (takeFragment p src ident offset more bytes s) := by
  unfold takeFragment
  try dsimp only
  repeat' split
  all_goals simp [Keeps, id discardDatagram_keeps, id udpArrives_keeps]
theorem execUdpDatagram_keeps (eth : Fin 3) (dstPort vlan : U16) (payload : UdpData) (srcAddr : U32) (srcPort : U16) (s : State) : OutKeeps s (execUdpDatagram eth dstPort vlan payload srcAddr srcPort s) := by
  unfold execUdpDatagram
  try dsimp only
  repeat' split
  all_goals simp [Keeps, id takeFragment_keeps, id udpArrives_keeps]
theorem opCascStatus_keeps (t : Nat) (s : State) : Keeps s (opCascStatus t s) := by
  unfold opCascStatus
  try dsimp only
  repeat' split
  all_goals simp [Keeps, id finish_keeps]
theorem execCascStatus_keeps (h : Hdr) (s : State) : OutKeeps s (execCascStatus h s) := by
  unfold execCascStatus
  try dsimp only
  repeat' split
  all_goals simp [Keeps, id opCascStatus_keeps]
theorem badForm_keeps (t : Nat) (s : State) : Keeps s (badForm t s) := by
  unfold badForm
  try dsimp only
  repeat' split
  all_goals simp [Keeps, id refuse_keeps]
theorem noCount_keeps (t : Nat) (s : State) : Keeps s (noCount t s) := by
  unfold noCount
  try dsimp only
  repeat' split
  all_goals simp [Keeps, id refuse_keeps]
theorem dropPending_keeps (s : State) : Keeps s (dropPending s) := by
  unfold dropPending
  try dsimp only
  repeat' split
  all_goals simp [Keeps, id modSlots_keeps]
theorem abortOp_keeps (t : Nat) (c : Ctx) (s : State) : Keeps s (abortOp t c s) := by
  unfold abortOp
  try dsimp only
  repeat' split
  all_goals simp [Keeps, id commandCtd_keeps, id commandSafe_keeps, id dropContactorTag_keeps, id dropPending_keeps, id endPhase_keeps, id
      modBridge_keeps, id modMach_keeps, id toIdle_keeps]
theorem expireContext_keeps (t : Nat) (s : State) : Keeps s (expireContext t s) := by
  unfold expireContext
  try dsimp only
  repeat' split
  all_goals simp [Keeps, id abortOp_keeps, id finish_keeps, id retag_keeps]
theorem execContextDeadline_keeps (tag : Fin 128) (s : State) : OutKeeps s (execContextDeadline tag s) := by
  unfold execContextDeadline
  try dsimp only
  repeat' split
  all_goals simp [Keeps, id expireContext_keeps]
theorem execSetpointTimeout_keeps (m : Fin 8) (s : State) : OutKeeps s (execSetpointTimeout m s) := by
  unfold execSetpointTimeout
  try dsimp only
  repeat' split
  all_goals simp [Keeps, id modMach_keeps, id raiseFault_keeps]

/-! ### Machine/Network.lean -/

theorem dropFrame_keeps (n : Nat) (s : State) : Keeps s (dropFrame n s) := by
  unfold dropFrame
  try dsimp only
  repeat' split
  all_goals simp [Keeps, id modCan_keeps, id noteLimited_keeps]
theorem storeFrame_keeps (n : Nat) (request : Bool) (d : Nat) (data : List Byte) (s : State) : Keeps s (storeFrame n request d data s) := by
  unfold storeFrame
  try dsimp only
  repeat' split
  all_goals simp [Keeps, id dropFrame_keeps, id modCan_keeps]
theorem takeFrame_keeps (n : Nat) (request : Bool) (d ident : Nat) (data : List Byte) (s : State) : Keeps s (takeFrame n request d ident data s) := by
  unfold takeFrame
  try dsimp only
  repeat' split
  all_goals simp [Keeps, id forwardTo_keeps, id storeFrame_keeps]
theorem execCanFrameReceive_keeps (can : Fin 4) (ident : BitVec 29) (form : CanForm) (data : List Byte) (s : State) : OutKeeps s (execCanFrameReceive can ident form data s) := by
  unfold execCanFrameReceive
  try dsimp only
  repeat' split
  all_goals simp [Keeps, id modCan_keeps, id takeFrame_keeps]
theorem sendFrame_keeps (n ident : Nat) (bytes : List Byte) (s : State) : Keeps s (sendFrame n ident bytes s) := by
  unfold sendFrame
  try dsimp only
  repeat' split
  all_goals simp [Keeps, id emit_keeps]
theorem sendSlot_keeps (n k : Nat) (s : State) : Keeps s (sendSlot n k s) := by
  unfold sendSlot
  try dsimp only
  repeat' split
  all_goals simp [Keeps, id modCan_keeps, id sendFrame_keeps]
theorem canTick_keeps (n : Nat) (s : State) : Keeps s (canTick n s) := by
  unfold canTick
  try dsimp only
  repeat' split
  all_goals simp [Keeps, id drawFree_keeps, id sendSlot_keeps]
theorem execCanBusOff_keeps (can : Fin 4) (s : State) : OutKeeps s (execCanBusOff can s) := by
  unfold execCanBusOff
  try dsimp only
  repeat' split
  all_goals simp [Keeps, id dropCan_keeps, id modCan_keeps, id note_keeps]
theorem execCanBusOffRecovery_keeps (can : Fin 4) (occurrences : Nat) (s : State) : OutKeeps s (execCanBusOffRecovery can occurrences s) := by
  unfold execCanBusOffRecovery
  try dsimp only
  repeat' split
  all_goals simp [Keeps, id modCan_keeps]
theorem waitState_keeps (p : Port) (d : Nat) (f : List Byte) (s : State) : Keeps s (waitState p d f s) := by
  unfold waitState
  try dsimp only
  repeat' split
  all_goals simp [Keeps, id modCan_keeps]
theorem sendState_keeps (i : Nat) (p : Port) (origin : List Byte) (k : Session) (s : State) : Keeps s (sendState i p origin k s) := by
  unfold sendState
  try dsimp only
  repeat' split
  all_goals simp [Keeps, id allocEsn_keeps, id emit_keeps, id modSess_keeps, id sendEth_keeps, id sendRing_keeps, id waitState_keeps]
theorem execStateFrame_keeps (s : State) : OutKeeps s (execStateFrame s) := by
  unfold execStateFrame
  try dsimp only
  repeat' split
  all_goals simp [Keeps, id sendState_keeps]
theorem execOneShotFail_keeps (can : Fin 4) (lostArb : Bool) (s : State) : OutKeeps s (execOneShotFail can lostArb s) := by
  unfold execOneShotFail
  try dsimp only
  repeat' split
  all_goals simp [Keeps, id modCan_keeps, id noteLimited_keeps]
theorem modEth_keeps (p : Nat) (f : EthPort → EthPort) (s : State) : Keeps s (modEth p f s) := by
  unfold modEth
  try dsimp only
  repeat' split
  all_goals simp [Keeps]
theorem execEthLinkDown_keeps (p : Fin 3) (s : State) : OutKeeps s (execEthLinkDown p s) := by
  unfold execEthLinkDown
  try dsimp only
  repeat' split
  all_goals simp [Keeps, id modEth_keeps, id note_keeps]
theorem execEthLinkUp_keeps (p : Fin 3) (s : State) : OutKeeps s (execEthLinkUp p s) := by
  unfold execEthLinkUp
  try dsimp only
  repeat' split
  all_goals simp [Keeps, id modEth_keeps]
theorem execIpv4ReassemblyTimeout_keeps (eth : Fin 3) (ms : Nat) (s : State) : OutKeeps s (execIpv4ReassemblyTimeout eth ms s) := by
  unfold execIpv4ReassemblyTimeout
  try dsimp only
  repeat' split
  all_goals simp [Keeps, id discardDatagram_keeps]
theorem execArpRequest_keeps (p : Fin 3) (target : U32) (s : State) : OutKeeps s (execArpRequest p target s) := by
  unfold execArpRequest
  try dsimp only
  repeat' split
  all_goals simp [Keeps, id emit_keeps]
theorem echo_keeps (p : Nat) (s : State) : Keeps s (echo p s) := by
  unfold echo
  try dsimp only
  repeat' split
  all_goals simp [Keeps, id emit_keeps]
theorem execIcmpEchoRequest_keeps (p : Fin 3) (dst : U32) (s : State) : OutKeeps s (execIcmpEchoRequest p dst s) := by
  unfold execIcmpEchoRequest
  try dsimp only
  repeat' split
  all_goals simp [Keeps, id echo_keeps]
theorem shiftTimes_keeps (d : Nat) (s : State) : Keeps s (shiftTimes d s) := by
  unfold shiftTimes
  try dsimp only
  repeat' split
  all_goals simp [Keeps]
theorem stepTime_keeps (d : Nat) (s : State) : SameUnits s (stepTime d s) ∧ (stepTime d s).store.owners = s.store.owners ∧ (stepTime d s).store.fuses = s.store.fuses ∧ (stepTime d s).dev.split = s.dev.split ∧ (stepTime d s).dev.ph = s.dev.ph := by
  unfold stepTime
  try dsimp only
  repeat' split
  all_goals simp [id shiftTimes_keeps]
theorem correctTime_keeps (off : Int) (s : State) : SameUnits s (correctTime off s) ∧ (correctTime off s).store.owners = s.store.owners ∧ (correctTime off s).store.fuses = s.store.fuses ∧ (correctTime off s).dev.split = s.dev.split ∧ (correctTime off s).dev.ph = s.dev.ph := by
  unfold correctTime
  try dsimp only
  repeat' split
  all_goals simp [id stepTime_keeps]
theorem execGptpSyncLoss_keeps (intervals : Nat) (s : State) : OutKeeps s (execGptpSyncLoss intervals s) := by
  unfold execGptpSyncLoss
  try dsimp only
  repeat' split
  all_goals simp [Keeps, id note_keeps]
theorem execQbvCycleStart_keeps (s : State) : OutKeeps s (execQbvCycleStart s) := by
  unfold execQbvCycleStart
  try dsimp only
  repeat' split
  all_goals simp [Keeps]
theorem egressTick_keeps (p : Nat) (s : State) : Keeps s (egressTick p s) := by
  unfold egressTick
  try dsimp only
  repeat' split
  all_goals simp [Keeps, id emit_keeps, id modEth_keeps]
theorem execTapInstruction_keeps (op : Byte) (vio : Bool) (s : State) : OutKeeps s (execTapInstruction op vio s) := by
  unfold execTapInstruction
  try dsimp only
  repeat' split
  all_goals simp [Keeps, id drawMany_keeps]

/-! ### Machine/Ring.lean -/

theorem sendFault_keeps (s : State) : Keeps s (sendFault s) := by
  unfold sendFault
  try dsimp only
  repeat' split
  all_goals simp [Keeps, id broadcastRing_keeps]
theorem execFaultFlagChange_keeps (s : State) : OutKeeps s (execFaultFlagChange s) := by
  unfold execFaultFlagChange
  try dsimp only
  repeat' split
  all_goals simp [Keeps, id sendFault_keeps]
theorem sendMaster_keeps (s : State) : Keeps s (sendMaster s) := by
  unfold sendMaster
  try dsimp only
  repeat' split
  all_goals simp [Keeps, id broadcastRing_keeps]
theorem execRingPeriodicSend_keeps (s : State) : OutKeeps s (execRingPeriodicSend s) := by
  unfold execRingPeriodicSend
  try dsimp only
  repeat' split
  all_goals simp [Keeps, id sendFault_keeps, id sendMaster_keeps]
theorem execRingLinkSend_keeps (s : State) : OutKeeps s (execRingLinkSend s) := by
  unfold execRingLinkSend
  try dsimp only
  repeat' split
  all_goals simp [Keeps, id drawFree_keeps, id newFrame_keeps, id putRing_keeps]
theorem modRing_keeps (p : RingPort) (f : RingP → RingP) (s : State) : Keeps s (modRing p f s) := by
  unfold modRing
  try dsimp only
  repeat' split
  all_goals simp [Keeps]
theorem execRingDelayReq_keeps (port : RingPort) (t1 t2 t3 t4 : Nat) (s : State) : OutKeeps s (execRingDelayReq port t1 t2 t3 t4 s) := by
  unfold execRingDelayReq
  try dsimp only
  repeat' split
  all_goals simp [Keeps, id drawFree_keeps, id modRing_keeps, id newFrame_keeps, id putRing_keeps]
theorem judgeChain_keeps (s : State) : Keeps s (judgeChain s) := by
  unfold judgeChain
  try dsimp only
  repeat' split
  all_goals simp [Keeps, id note_keeps]
theorem execRingLinkDown_keeps (port : RingPort) (why : RingFail) (s : State) : OutKeeps s (execRingLinkDown port why s) := by
  unfold execRingLinkDown
  try dsimp only
  repeat' split
  all_goals simp [Keeps, id judgeChain_keeps, id modRing_keeps, id note_keeps]
theorem execRingLinkRestored_keeps (port : RingPort) (ms : Nat) (s : State) : OutKeeps s (execRingLinkRestored port ms s) := by
  unfold execRingLinkRestored
  try dsimp only
  repeat' split
  all_goals simp [Keeps, id judgeChain_keeps, id modRing_keeps, id note_keeps]
theorem modRem_keeps (d : Nat) (f : Remote → Remote) (s : State) : Keeps s (modRem d f s) := by
  unfold modRem
  try dsimp only
  repeat' split
  all_goals simp [Keeps]
theorem execCascadeDeviceLost_keeps (d : Fin 4) (s : State) : OutKeeps s (execCascadeDeviceLost d s) := by
  unfold execCascadeDeviceLost
  try dsimp only
  repeat' split
  all_goals simp [Keeps, id cascadeHold_keeps, id modRem_keeps, id note_keeps]
theorem execMasterLost_keeps (s : State) : OutKeeps s (execMasterLost s) := by
  unfold execMasterLost
  try dsimp only
  repeat' split
  all_goals simp [Keeps, id raiseFault_keeps]
theorem indexConflict_keeps (s : State) : Keeps s (indexConflict s) := by
  unfold indexConflict
  try dsimp only
  repeat' split
  all_goals simp [Keeps, id raiseFault_keeps]
theorem takeTime_keeps (port : RingPort) (f : RingFrame) (s : State) : SameUnits s (takeTime port f s) ∧ (takeTime port f s).store.owners = s.store.owners ∧ (takeTime port f s).store.fuses = s.store.fuses ∧ (takeTime port f s).dev.split = s.dev.split ∧ (takeTime port f s).dev.ph = s.dev.ph := by
  unfold takeTime
  try dsimp only
  repeat' split
  all_goals simp [id correctTime_keeps]
theorem takeFault_keeps (d : Nat) (f : RingFrame) (s : State) : Keeps s (takeFault d f s) := by
  unfold takeFault
  try dsimp only
  repeat' split
  all_goals simp [Keeps, id modRem_keeps]
theorem takeSum_keeps (f : RingFrame) (s : State) : Keeps s (takeSum f s) := by
  unfold takeSum
  try dsimp only
  repeat' split
  all_goals simp [Keeps]
theorem relayCan_keeps (p : Port) (ident : Nat) (body : List Byte) (s : State) : Keeps s (relayCan p ident body s) := by
  unfold relayCan
  try dsimp only
  repeat' split
  all_goals simp [Keeps, id queueCan_keeps, id waitState_keeps]
theorem takeVexfi_keeps (f : RingFrame) (s : State) : Keeps s (takeVexfi f s) := by
  unfold takeVexfi
  try dsimp only
  repeat' split
  all_goals simp [Keeps, id checkPacket_keeps, id emit_keeps, id relayCan_keeps, id sendEth_keeps, id setpointFrame_keeps]
theorem actFrame_keeps (port : RingPort) (f : RingFrame) (s : State) : SameUnits s (actFrame port f s) ∧ (actFrame port f s).store.owners = s.store.owners ∧ (actFrame port f s).store.fuses = s.store.fuses ∧ (actFrame port f s).dev.split = s.dev.split ∧ (actFrame port f s).dev.ph = s.dev.ph := by
  unfold actFrame
  try dsimp only
  repeat' split
  all_goals simp [id takeFault_keeps, id takeSum_keeps, id takeTime_keeps, id takeVexfi_keeps]
theorem answered_keeps (port : RingPort) (f : RingFrame) (s : State) : Keeps s (answered port f s) := by
  unfold answered
  try dsimp only
  repeat' split
  all_goals simp [Keeps, id drawFree_keeps, id modRing_keeps]
theorem takeLocal_keeps (port : RingPort) (f : RingFrame) (s : State) : Keeps s (takeLocal port f s) := by
  unfold takeLocal
  try dsimp only
  repeat' split
  all_goals simp [Keeps, id answered_keeps, id drawFree_keeps, id indexConflict_keeps, id judgeChain_keeps, id modRing_keeps, id
      newFrame_keeps, id putRing_keeps]
theorem passOn_keeps (port : RingPort) (f : RingFrame) (s : State) : Keeps s (passOn port f s) := by
  unfold passOn
  try dsimp only
  repeat' split
  all_goals simp [Keeps, id drawFree_keeps, id emit_keeps]
theorem hearFrame_keeps (port : RingPort) (f : RingFrame) (s : State) : SameUnits s (hearFrame port f s) ∧ (hearFrame port f s).store.owners = s.store.owners ∧ (hearFrame port f s).store.fuses = s.store.fuses ∧ (hearFrame port f s).dev.split = s.dev.split ∧ (hearFrame port f s).dev.ph = s.dev.ph := by
  unfold hearFrame
  try dsimp only
  repeat' split
  all_goals simp [id actFrame_keeps, id modRem_keeps, id takeLocal_keeps]
theorem ringFrame_keeps (port : RingPort) (f : RingFrame) (s : State) : SameUnits s (ringFrame port f s) ∧ (ringFrame port f s).store.owners = s.store.owners ∧ (ringFrame port f s).store.fuses = s.store.fuses ∧ (ringFrame port f s).dev.split = s.dev.split ∧ (ringFrame port f s).dev.ph = s.dev.ph := by
  unfold ringFrame
  try dsimp only
  repeat' split
  all_goals simp [id cascadeHold_keeps, id hearFrame_keeps, id indexConflict_keeps, id modRing_keeps, id passOn_keeps]

/-! ### Machine/Tick.lean -/

theorem d0Tick_keeps (s : State) : SameUnits s (d0Tick s) ∧ (d0Tick s).store.owners = s.store.owners ∧ (d0Tick s).store.fuses = s.store.fuses ∧ (d0Tick s).time.dev = s.time.dev ∧ (d0Tick s).dev.split = s.dev.split := by
  unfold d0Tick
  try dsimp only
  repeat' split
  all_goals simp [id enterBoot_keeps]
theorem d0Advance_keeps (s : State) : SameUnits s (d0Advance s) ∧ (d0Advance s).store.owners = s.store.owners ∧ (d0Advance s).store.fuses = s.store.fuses ∧ (d0Advance s).time.dev = s.time.dev ∧ (d0Advance s).dev.split = s.dev.split := by
  unfold d0Advance
  try dsimp only
  repeat' split
  all_goals simp [id d0Tick_keeps]
theorem devTick_keeps (s : State) : SameUnits s (devTick s) ∧ (devTick s).store.owners = s.store.owners ∧ (devTick s).store.fuses = s.store.fuses ∧ (devTick s).dev.split = s.dev.split ∧ (devTick s).dev.ph = s.dev.ph := by
  unfold devTick
  try dsimp only
  repeat' split
  all_goals simp [id drawFree_keeps]
theorem syncPulse_keeps (before : Nat) (s : State) : Keeps s (syncPulse before s) := by
  unfold syncPulse
  try dsimp only
  repeat' split
  all_goals simp [Keeps, id emit_keeps]
theorem posTick_keeps (s : State) : Keeps s (posTick s) := by
  unfold posTick
  try dsimp only
  repeat' split
  all_goals simp [Keeps, id latchTick_keeps, id poutTick_keeps, id trackTick_keeps]
theorem sampleMach_keeps (m : Nat) (s : State) : Keeps s (sampleMach m s) := by
  unfold sampleMach
  try dsimp only
  repeat' split
  all_goals simp [Keeps, id trendAdd_keeps]
theorem sampleLink_keeps (g : Nat) (s : State) : Keeps s (sampleLink g s) := by
  unfold sampleLink
  try dsimp only
  repeat' split
  all_goals simp [Keeps, id trendAdd_keeps]
theorem sampleTrend_keeps (s : State) : Keeps s (sampleTrend s) := by
  unfold sampleTrend
  try dsimp only
  repeat' split
  all_goals simp [Keeps, id sampleLink_keeps, id sampleMach_keeps]
theorem trendTick_keeps (before : Nat) (s : State) : Keeps s (trendTick before s) := by
  unfold trendTick
  try dsimp only
  repeat' split
  all_goals simp [Keeps, id sampleTrend_keeps]
theorem timebaseTick_keeps (s : State) : SameUnits s (timebaseTick s) ∧ (timebaseTick s).store.owners = s.store.owners ∧ (timebaseTick s).store.fuses = s.store.fuses ∧ (timebaseTick s).dev.split = s.dev.split ∧ (timebaseTick s).dev.ph = s.dev.ph := by
  unfold timebaseTick
  try dsimp only
  repeat' split
  all_goals simp [id canTick_keeps, id devTick_keeps, id egressTick_keeps, id gatesTick_keeps, id posTick_keeps, id syncPulse_keeps, id
      trendTick_keeps]
theorem tick_keeps (s : State) : SameUnits s (tick s) ∧ (tick s).store.owners = s.store.owners ∧ (tick s).store.fuses = s.store.fuses ∧ (tick s).dev.split = s.dev.split := by
  unfold tick
  try dsimp only
  repeat' split
  all_goals simp [id d0Advance_keeps, id standbyAdvance_keeps, id timebaseTick_keeps]

end Sys2Proof.Machine
end

