-- ==== Sys2Proof/Laws/Answer.lean ====
section
/-! SUPPORT. What beginning a request and ending its command do, once each: the context that `Begins` leaves occupied, and the reply
that `finish` retains and sends. -/

namespace Sys2Proof.Machine

/-! ### Contexts -/

theorem ctxAt_modCtx_self (t : Nat) (f : Ctx → Ctx) (s : State) (h : t < s.proto.ctx.length) :
    ctxAt (modCtx t f s) t = f (ctxAt s t) := by
  simp [ctxAt, modCtx, List.getElem?_append, h]

/-- A context of a tag is read from the contexts alone. -/
theorem ctxAt_of_ctx {t : Nat} {s v : State} (h : v.proto.ctx = s.proto.ctx) (hl : t < s.proto.ctx.length) : ctxAt v t = ctxAt s t := by
  simp [ctxAt, List.getElem?_append, h, hl]

theorem ctx_modCtx_other (t i : Nat) (f : Ctx → Ctx) (s : State) (h : i ≠ t) :
    (modCtx t f s).proto.ctx[i]? = s.proto.ctx[i]? := by
  simp [modCtx, Ne.symm h]

/-! ### Sending -/

/-- What handing a frame or a reply to a wire changes. -/
def OnlySent (s t : State) : Prop :=
  t = { s with
    out := t.out
    time := { s.time with esn := t.time.esn }
    net := { s.net with canTx := t.net.canTx, egress := t.net.egress, seqs := t.net.seqs, sentLog := t.net.sentLog } }

theorem OnlySent.refl (s : State) : OnlySent s s := rfl

theorem emit_onlySent (o : Output) (s : State) : OnlySent s (emit o s) := rfl

theorem newFrame_onlySent (typ dst : Byte) (p : List Byte) (s : State) : OnlySent s (newFrame typ dst p s).2 := rfl

theorem putRing_onlySent (f : RingFrame) (p : RingPort) (s : State) : OnlySent s (putRing f p s) := by
  unfold putRing; split <;> rfl

theorem OnlySent.trans {s t u : State} (h : OnlySent s t) (g : OnlySent t u) : OnlySent s u := by
  unfold OnlySent at *; rw [g, h]

theorem sendRing_onlySent (d : Nat) (typ : Byte) (p : List Byte) (s : State) : OnlySent s (sendRing d typ p s).2 := by
  unfold sendRing
  split
  · exact (newFrame_onlySent _ _ _ _).trans (putRing_onlySent _ _ _)
  · rfl

theorem handCan_onlySent (p : Port) (d : Nat) (b : List Byte) (s : State) : OnlySent s (handCan p d b s) := by
  unfold handCan; split <;> rfl

theorem emitAll_onlySent (l : List EthFrame) (s : State) : OnlySent s (l.foldl (fun s f => emit (.ethFrame f) s) s) := by
  induction l generalizing s with
  | nil => rfl
  | cons f l ih => exact (emit_onlySent _ _).trans (ih _)

theorem sendEth_onlySent (p : Port) (d b : List Byte) (s : State) : OnlySent s (sendEth p d b s) := by
  unfold sendEth
  split
  · split
    · rfl
    · exact emitAll_onlySent _ _
  · rfl

theorem deliver_onlySent (r : Reply) (s : State) : OnlySent s (deliver r s) := by
  unfold deliver
  split
  · exact sendRing_onlySent _ _ _ _
  · split
    · rfl
    · exact ((handCan_onlySent _ _ _ _).trans (emit_onlySent _ _)).trans (sendEth_onlySent _ _ _ _)

theorem allocEsn_onlySent (s : State) : OnlySent s (allocEsn s).2 := by
  unfold allocEsn; split <;> rfl

theorem sendReply_onlySent (o : List Byte) (h : Hdr) (op : U16) (more : Bool) (st : U16) (d : List Byte) (s : State) :
    OnlySent s (sendReply o h op more st d s).2 :=
  (allocEsn_onlySent s).trans (deliver_onlySent _ _)

/-- The reply that is sent has the status, the data and the request's header fields. -/
theorem sendReply_reply (o : List Byte) (h : Hdr) (op : U16) (more : Bool) (st : U16) (d : List Byte) (s : State) :
    let r := (sendReply o h op more st d s).1
    r.status = st ∧ r.data = d ∧ r.more = more ∧ r.tag = h.tag ∧ r.session = h.session ∧ r.seq = h.seq := by
  simp only [sendReply, sealReply]
  split
  · split <;> simp
  · simp

/-! ### The end of a command -/

/-- A context in progress, not muted: `finish` retains its reply. -/
theorem finish_done {t : Nat} {status : U16} {data : List Byte} {s : State} (hl : t < s.proto.ctx.length)
    (hst : (ctxAt s t).st = .short ∨ (ctxAt s t).st = .long) (hm : (ctxAt s t).mute = false) :
    (ctxAt (finish t status data s) t).st = .done ∧
    ∃ r, (ctxAt (finish t status data s) t).final = some r ∧ r.status = status ∧ r.data = data ∧ r.more = false ∧
      r.tag = (ctxAt s t).hdr.tag ∧ r.session = (ctxAt s t).hdr.session ∧ r.seq = (ctxAt s t).hdr.seq := by
  have hc : ((ctxAt s t).st == .short || (ctxAt s t).st == .long) = true := by
    rcases hst with h | h <;> rw [h] <;> rfl
  unfold finish
  simp only [hc, if_true, hm, Bool.false_eq_true, if_false]
  have hl' : t < ((sendReply (ctxAt s t).origin (ctxAt s t).hdr (ctxAt s t).opcode false status data s).2).proto.ctx.length := by
    rw [sendReply_onlySent]; exact hl
  rw [ctxAt_modCtx_self _ _ _ hl']
  refine ⟨rfl, _, rfl, ?_⟩
  exact sendReply_reply (ctxAt s t).origin (ctxAt s t).hdr (ctxAt s t).opcode false status data s

/-- An update of a context of a tag changes the contexts alone. -/
theorem modCtx_frame {t : Nat} {s : State} (hl : t < s.proto.ctx.length) (f : Ctx → Ctx) :
    modCtx t f s = { s with proto := { s.proto with ctx := s.proto.ctx.modify t f } } := by
  simp [modCtx, hl]

/-- Ending a command changes only its context and what sending takes. -/
theorem finish_onlyReply {t : Nat} {s : State} (hl : t < s.proto.ctx.length) (status : U16) (data : List Byte) :
    OnlyReply t s (finish t status data s) := by
  unfold finish
  dsimp only
  split
  · split
    · exact ⟨modCtx_frame hl _, fun i hi => ctx_modCtx_other t i _ s hi⟩
    · have h := sendReply_onlySent (ctxAt s t).origin (ctxAt s t).hdr (ctxAt s t).opcode false status data s
      generalize hg : sendReply (ctxAt s t).origin (ctxAt s t).hdr (ctxAt s t).opcode false status data s = p at *
      obtain ⟨r, u⟩ := p
      dsimp only at h ⊢
      refine ⟨?_, fun i hi => ?_⟩
      · rw [modCtx_frame (by rw [h]; exact hl)]
        unfold OnlySent at h
        dsimp only
        rw [h]
      · rw [ctx_modCtx_other t i _ u hi, h]
  · exact ⟨rfl, fun _ _ => rfl⟩

/-! ### The beginning of a request -/

/-- A request within the rate limit leaves the sessions alone. -/
theorem countUnauth_sess {p : Port} {s : State} (h : (countUnauth p s).1 = true) :
    (countUnauth p s).2.proto.sess = s.proto.sess := by
  revert h
  unfold countUnauth
  dsimp only
  repeat' split
  all_goals intro h
  all_goals first
    | rfl
    | exact absurd h Bool.false_ne_true

/-- Occupying a context fills it in. -/
theorem occupy_context (h : Hdr) (op : Nat) (p : List Byte) (s : State) (hl : h.tag.toNat < s.proto.ctx.length) :
    let c := ctxAt (occupy h op p s) h.tag.toNat
    c.st = .short ∧ c.hdr = h ∧ c.mute = false ∧ c.opcode = BitVec.ofNat 16 op ∧ c.payload = p ∧ c.gen = sessGen s h := by
  have hc : ∀ (n : Nat) (v : State), h.tag.toNat < v.proto.ctx.length → v.proto.sess = s.proto.sess →
      let c := ctxAt (modCtx h.tag.toNat (fun _ => ⟨.short, h, BitVec.ofNat 16 op, p, sessGen v h, v.time.dev + 100000000, none,
        false, none, v.proto.origin, n⟩) v) h.tag.toNat
      c.st = .short ∧ c.hdr = h ∧ c.mute = false ∧ c.opcode = BitVec.ofNat 16 op ∧ c.payload = p ∧ c.gen = sessGen s h := by
    intro n v hv hs
    rw [ctxAt_modCtx_self _ _ _ hv]
    exact ⟨rfl, rfl, rfl, rfl, rfl, by simp [sessGen, sessAt, hs]⟩
  unfold occupy nextArrival
  dsimp only
  split
  · have a : (orphan h.tag.toNat s).proto.ctx.length = s.proto.ctx.length := (orphan_keeps _ _).1.2.2.2.2.2.2.2.2.2.2.2.2.1
    have b : (orphan h.tag.toNat s).proto.sess = s.proto.sess := by unfold orphan retag; rfl
    generalize orphan h.tag.toNat s = v at *
    exact hc _ { v with proto := { v.proto with arrivals := v.proto.arrivals + 1 } } (by rw [← a] at hl; exact hl) b
  · exact hc _ { s with proto := { s.proto with arrivals := s.proto.arrivals + 1 } } hl rfl

/-- A request that passed the checks has its context occupied: SHORT, with the request in it. -/
theorem admitTail_context {h : Hdr} {op : Nat} {p : List Byte} {s u : State} (hl : s.proto.ctx.length = 128)
    (ha : admitTail h op p s = (true, u)) :
    h.tag.toNat ≤ 127 ∧ (ctxAt u h.tag.toNat).st = .short ∧ (ctxAt u h.tag.toNat).hdr = h ∧
      (ctxAt u h.tag.toNat).mute = false ∧ (ctxAt u h.tag.toNat).opcode = BitVec.ofNat 16 op ∧
      (ctxAt u h.tag.toNat).payload = p ∧ (ctxAt u h.tag.toNat).gen = sessGen s h := by
  have key : ∀ v : State, v.proto.ctx.length = 128 → v.proto.sess = s.proto.sess → ¬ 127 < h.tag.toNat →
      u = occupy h op p v → h.tag.toNat ≤ 127 ∧ (ctxAt u h.tag.toNat).st = .short ∧ (ctxAt u h.tag.toNat).hdr = h ∧
      (ctxAt u h.tag.toNat).mute = false ∧ (ctxAt u h.tag.toNat).opcode = BitVec.ofNat 16 op ∧
      (ctxAt u h.tag.toNat).payload = p ∧ (ctxAt u h.tag.toNat).gen = sessGen s h := by
    intro v hv hs ht hu
    obtain ⟨a, b, c, d, e, f⟩ := occupy_context h op p v (by omega)
    subst hu
    refine ⟨by omega, a, b, c, d, e, ?_⟩
    rw [f]; simp [sessGen, sessAt, hs]
  unfold admitTail at ha
  rcases Bool.eq_false_or_eq_true h.auth with hau | hau
  · simp only [hau, if_true] at ha
    repeat' split at ha
    all_goals try (simp at ha; done)
    exact key s hl rfl (by assumption) (by simpa [id countUnauth_keeps] using ha.symm)
  · rcases Bool.eq_false_or_eq_true (countUnauth h.port s).1 with hc | hc
    · simp only [hau, Bool.false_eq_true, if_false, hc] at ha
      repeat' split at ha
      all_goals try (simp at ha; done)
      exact key _ (by simp [hl, id countUnauth_keeps]) (countUnauth_sess hc) (by assumption) (by simpa [id countUnauth_keeps] using ha.symm)
    · simp only [hau, Bool.false_eq_true, if_false, hc] at ha
      repeat' split at ha
      all_goals simp_all

/-- An update of a session that keeps its generation. -/
theorem sessGen_modSess (s : State) (h : Hdr) (i : Nat) {f : Session → Session} (hg : ∀ x : Session, (f x).gen = x.gen) :
    sessGen (modSess i f s) h = sessGen s h := by
  unfold modSess
  split
  · rfl
  · by_cases h0 : h.session.toNat = 0
    · simp [sessGen, sessAt, h0]
    · simp only [sessGen, sessAt, List.getD_eq_getElem?_getD, List.getElem?_modify]
      cases s.proto.sess[h.session.toNat - 1]? with
      | none => simp
      | some o => cases o <;> by_cases hi : i - 1 = h.session.toNat - 1 <;> simp [h0, hi, hg]

/-- A copied torque or speed reference leaves sessions, contexts and queues alone. -/
theorem copyRef_proto (op : Nat) (p : List Byte) (s : State) : (copyRef op p s).proto = s.proto := by
  unfold copyRef
  dsimp only
  repeat' split
  all_goals rfl

/-- When a request begins, its context is occupied: SHORT, not muted, with the request in it. -/
theorem Begins.context {h : Hdr} {op : Nat} {p : List Byte} {b : Bool} {s u : State} (w : WellBuilt s) (g : Begins h op p b s u) :
    h.tag.toNat ≤ 127 ∧ (ctxAt u h.tag.toNat).st = .short ∧ (ctxAt u h.tag.toNat).hdr = h ∧
      (ctxAt u h.tag.toNat).mute = false ∧ (ctxAt u h.tag.toNat).opcode = BitVec.ofNat 16 op ∧
      (ctxAt u h.tag.toNat).payload = p ∧ (ctxAt u h.tag.toNat).gen = sessGen s h := by
  have ha := g.passed
  unfold admits at ha
  split at ha
  · simp at ha
  split at ha
  · generalize hv : (if (sessAt s h.session.toNat).isSome then copyRef op p s else s) = v at ha
    have hp : v.proto = s.proto := by rw [← hv]; split <;> simp [copyRef_proto]
    unfold admitSeq at ha
    split at ha
    · split at ha
      · have := admitTail_context (by simp [w.ctx, hp, id modSess_keeps]) ha
        rw [sessGen_modSess _ _ _ (fun x => by unfold takeSeq; split <;> rfl),
          sessGen_modSess v h _ (f := fun k => { k with macFails := 0 }) (fun x => rfl)] at this
        rwa [show sessGen v h = sessGen s h by simp [sessGen, sessAt, hp]] at this
      · simp at ha
    · simp at ha
  · split at ha
    · exact admitTail_context w.ctx ha
    · simp at ha

/-- The state in which a request begins has the units of the state before. -/
theorem Begins.sameUnits {h : Hdr} {op : Nat} {p : List Byte} {b : Bool} {s u : State} (g : Begins h op p b s u) : Keeps s u := by
  have := admits_keeps h op p s
  rw [g.passed] at this
  exact this

/-- A request row that begins is the opcode's own meaning. -/
theorem serve_begins {h : Hdr} {op : Nat} {p : List Byte} {b : Bool} {s u : State} (g : Begins h op p b s u)
    (f : Nat → State → State) : serve h op p b f s = f h.tag.toNat u := by
  unfold serve gated
  simp [g.received, g.passed, g.dispatched, g.first, g.allowed]

/-- The tag of a request that begins names a context. -/
theorem Begins.tagLt {h : Hdr} {op : Nat} {p : List Byte} {b : Bool} {s u : State} (w : WellBuilt s) (g : Begins h op p b s u) :
    h.tag.toNat < u.proto.ctx.length := by
  obtain ⟨ht, -⟩ := g.context w
  rw [g.sameUnits.1.2.2.2.2.2.2.2.2.2.2.2.2.1, w.ctx]; omega

/-- A command that ends in its first step replies. -/
theorem Begins.replies {h : Hdr} {op : Nat} {p : List Byte} {b : Bool} {s u : State} (w : WellBuilt s) (g : Begins h op p b s u)
    (status : U16) (data : List Byte) (v : State) (hv : v.proto.ctx = u.proto.ctx) :
    Replies h status data (finish h.tag.toNat status data v) := by
  obtain ⟨ht, hs, hh, hm, -⟩ := g.context w
  have hl : h.tag.toNat < v.proto.ctx.length := by
    rw [hv, g.sameUnits.1.2.2.2.2.2.2.2.2.2.2.2.2.1, w.ctx]; omega
  have hc : ctxAt v h.tag.toNat = ctxAt u h.tag.toNat := ctxAt_of_ctx hv (by rw [← hv]; exact hl)
  have := finish_done (status := status) (data := data) hl (Or.inl (by rw [hc]; exact hs)) (by rw [hc]; exact hm)
  rw [hc, hh] at this
  exact this

/-- Drawing free values is no other change. -/
theorem OnlyReply.of_free {tag : Nat} (n : Nat) {s t : State}
    (h : OnlyReply tag { s with time := { s.time with free := n } } t) : OnlyReply tag s t := by
  obtain ⟨a, b⟩ := h
  refine ⟨?_, b⟩
  rw [a]

/-- The meaning of an opcode row whose request begins. -/
theorem begins_exec {c : Instr} {h : Hdr} {op : Nat} {p : List Byte} {b : Bool} {s u : State} {f : Nat → State → State}
    (g : Begins h op p b s u) (hx : exec c s = .next (serve h op p b f s)) : exec c s = .next (f h.tag.toNat u) := by
  rw [hx, serve_begins g]

/-- A query whose meaning is one reply, with free values drawn. -/
theorem begins_answers {c : Instr} {h : Hdr} {op : Nat} {p : List Byte} {b : Bool} {s u : State} {f : Nat → State → State}
    {st : U16} {data : List Byte} (w : WellBuilt s) (g : Begins h op p b s u) (hx : exec c s = .next (serve h op p b f s))
    (n : Nat) (hf : f h.tag.toNat u = finish h.tag.toNat st data { u with time := { u.time with free := n } }) :
    ∃ t, exec c s = .next t ∧ Replies h st data t ∧ OnlyReply h.tag.toNat u t :=
  ⟨_, (begins_exec g hx).trans (congrArg _ hf), g.replies w _ _ _ rfl, OnlyReply.of_free n
    (finish_onlyReply (s := { u with time := { u.time with free := n } }) (show h.tag.toNat < u.proto.ctx.length from g.tagLt w) st data)⟩

/-! ### Replies in several parts -/

/-- Sending is part of what a reply takes. -/
theorem OnlySent.onlyReply {tag : Nat} {s t : State} (h : OnlySent s t) : OnlyReply tag s t := by
  refine ⟨?_, ?_⟩
  · unfold OnlySent at h; rw [h]
  · intro i _; rw [h]

theorem OnlyReply.trans {tag : Nat} {s t u : State} (h : OnlyReply tag s t) (g : OnlyReply tag t u) : OnlyReply tag s u := by
  obtain ⟨a, b⟩ := h
  obtain ⟨c, d⟩ := g
  refine ⟨?_, fun i hi => (d i hi).trans (b i hi)⟩
  rw [c, a]

/-- REC_READ sends every part but the last with MORE; the final reply holds the last part (R438, R491). -/
theorem sendParts_spec (h : Hdr) (fuel : Nat) (es : List Entry) (s : State) (hl : es.length ≤ 63 * (fuel + 1))
   (hh : (ctxAt s h.tag.toNat).hdr = h) (hs : (ctxAt s h.tag.toNat).st = .short) (hm : (ctxAt s h.tag.toNat).mute = false)
   (hc : h.tag.toNat < s.proto.ctx.length) :
   Replies h ST_OK (partBytes (es.drop (63 * ((es.length - 1) / 63)))) (sendParts h.tag.toNat fuel es s) ∧
   OnlyReply h.tag.toNat s (sendParts h.tag.toNat fuel es s) := by
  induction fuel generalizing es s with
  | zero =>
    have e : (es.length - 1) / 63 = 0 := by omega
    simp only [e, sendParts, Nat.mul_zero, List.drop_zero]
    have := finish_done (t := h.tag.toNat) (s := s) (status := ST_OK) (data := partBytes es) hc (Or.inl hs) hm
    rw [hh] at this
    exact ⟨this, finish_onlyReply hc _ _⟩
  | succ n ih =>
    unfold sendParts
    split
    · have e : (es.length - 1) / 63 = 0 := by omega
      simp only [e, Nat.mul_zero, List.drop_zero]
      have := finish_done (t := h.tag.toNat) (s := s) (status := ST_OK) (data := partBytes es) hc (Or.inl hs) hm
      rw [hh] at this
      exact ⟨this, finish_onlyReply hc _ _⟩
    · simp only [hm, Bool.false_eq_true, if_false]
      have hsent := sendReply_onlySent (ctxAt s h.tag.toNat).origin (ctxAt s h.tag.toNat).hdr (ctxAt s h.tag.toNat).opcode true ST_OK
        (partBytes (es.take 63)) s
      generalize (sendReply (ctxAt s h.tag.toNat).origin (ctxAt s h.tag.toNat).hdr (ctxAt s h.tag.toNat).opcode true ST_OK
        (partBytes (es.take 63)) s).2 = v at *
      have hv : v.proto.ctx = s.proto.ctx := congrArg (fun x => x.proto.ctx) hsent
      have hcc : ctxAt v h.tag.toNat = ctxAt s h.tag.toNat := ctxAt_of_ctx hv hc
      obtain ⟨a, b⟩ := ih (es.drop 63) v (by simp; omega) (by rw [hcc, hh]) (by rw [hcc, hs]) (by rw [hcc, hm]) (by rw [hv]; exact hc)
      have e : 63 + 63 * (((es.drop 63).length - 1) / 63) = 63 * ((es.length - 1) / 63) := by simp; omega
      rw [List.drop_drop, e] at a
      exact ⟨a, hsent.onlyReply.trans b⟩

/-! ### Commands that complete or are accepted -/

/-- Accepting a command changes only its context and what sending takes. -/
theorem accept_onlyReply {t : Nat} {s : State} (hl : t < s.proto.ctx.length) (ms : Nat) : OnlyReply t s (accept t ms s) := by
  unfold accept
  dsimp only
  have key : ∀ u : State, OnlySent s u → OnlyReply t s
      (modCtx t (fun c => { c with st := .long, deadline := u.time.dev + ms * 400000 }) u) := by
    intro u hu
    refine ⟨?_, fun i hi => ?_⟩
    · rw [modCtx_frame (by rw [hu]; exact hl)]; unfold OnlySent at hu; dsimp only; rw [hu]
    · rw [ctx_modCtx_other t i _ u hi, hu]
  split
  · exact key s (OnlySent.refl s)
  · exact key _ (sendReply_onlySent _ _ _ _ _ _ _)

/-- An accepted command is LONG with its deadline (R452). -/
theorem accept_runsLong {h : Hdr} {ms : Nat} {s : State} (hl : h.tag.toNat < s.proto.ctx.length) :
    RunsLong h ms (accept h.tag.toNat ms s) := by
  unfold accept RunsLong
  dsimp only
  split
  · rw [ctxAt_modCtx_self _ _ _ hl]; simp [modCtx]
  · have := sendReply_onlySent (ctxAt s h.tag.toNat).origin (ctxAt s h.tag.toNat).hdr (ctxAt s h.tag.toNat).opcode true ST_ACCEPTED (beBytes 4 ms) s
    rw [ctxAt_modCtx_self _ _ _ (by rw [this]; exact hl)]; simp [modCtx, id sendReply_keeps]

/-- A command that is one reply over an effect that leaves the contexts alone. -/
theorem begins_completes {c : Instr} {h : Hdr} {op : Nat} {p : List Byte} {b : Bool} {s u v : State} {f : Nat → State → State}
    {data : List Byte} (w : WellBuilt s) (g : Begins h op p b s u) (hx : exec c s = .next (serve h op p b f s))
    (hv : v.proto.ctx = u.proto.ctx) (hf : f h.tag.toNat u = finish h.tag.toNat ST_OK data v) : Completes c h data s v :=
  ⟨_, (begins_exec g hx).trans (congrArg _ hf), g.replies w _ _ _ hv, finish_onlyReply (by rw [hv]; exact g.tagLt w) _ _⟩

/-- A command that is an acceptance and an effect that leaves contexts, sending and time alone. -/
theorem begins_accepts {c : Instr} {h : Hdr} {op : Nat} {p : List Byte} {b : Bool} {s u v : State} {f : Nat → State → State}
    {ms : Nat} (k : State → State) (w : WellBuilt s) (g : Begins h op p b s u) (hx : exec c s = .next (serve h op p b f s))
    (hf : f h.tag.toNat u = k (accept h.tag.toNat ms u)) (hk : v = k u)
    (hc : ∀ x, (k x).proto.ctx = x.proto.ctx ∧ (k x).time.dev = x.time.dev)
    (hr : ∀ x, OnlyReply h.tag.toNat u x → OnlyReply h.tag.toNat (k u) (k x)) : Accepts c h ms s v := by
  subst hk
  refine ⟨_, (begins_exec g hx).trans (congrArg _ hf), ?_, hr _ (accept_onlyReply (g.tagLt w) _)⟩
  have := accept_runsLong (ms := ms) (g.tagLt w)
  unfold RunsLong at *
  rw [(hc _).2, ctxAt_of_ctx (hc _).1 (by simpa [id accept_keeps] using g.tagLt w)]
  exact this

/-- A machine may be updated before or after the reply. -/
theorem modMach_onlyReply {t m : Nat} {f : Mach → Mach} {u x : State} (h : OnlyReply t u x) :
    OnlyReply t (modMach m f u) (modMach m f x) := by
  obtain ⟨a, b⟩ := h
  refine ⟨?_, b⟩
  rw [a]; rfl

/-- A bridge may be updated before or after the reply. -/
theorem modBridge_onlyReply {t b : Nat} {f : Bridge → Bridge} {u x : State} (h : OnlyReply t u x) :
    OnlyReply t (modBridge b f u) (modBridge b f x) := by
  obtain ⟨a, b⟩ := h
  refine ⟨?_, b⟩
  rw [a]; rfl

end Sys2Proof.Machine
end

