-- ==== Sys2Proof/Laws/SameOps.lean ====
section
/-! SUPPORT. One lemma per function: which parts of a state (`Part`) each function leaves as they were: Machine/Ops. -/

namespace Sys2Proof.Machine

set_option linter.unusedTactic false
set_option linter.unusedSimpArgs false

/-! ### Machine/Ops.lean -/

@[simp] theorem Net.rest_update (n : Net) (c : List CanCtl) (e : List EthPort) (x : List (List (List Byte))) (g : List EthFrame) (q : List Byte) (l : List (Byte × Byte × Nat)) :
    Net.rest { n with can := c, eth := e, canTx := x, egress := g, seqs := q, sentLog := l } = n.rest := rfl

/-- What holds of the next state that a meaning answers. -/
def OutAll (P : State → Prop) : Out → Prop
  | .next t => P t
  | .fault _ => True
  | .refused _ => True

@[simp] theorem outAll_next (P : State → Prop) (t : State) : OutAll P (.next t) ↔ P t := Iff.rfl
@[simp] theorem outAll_fault (P : State → Prop) (e : Fault) : OutAll P (.fault e) ↔ True := Iff.rfl
@[simp] theorem outAll_refused (P : State → Prop) (e : Refusal) : OutAll P (.refused e) ↔ True := Iff.rfl

/-- Same but for: ctx, left, cantx, egress, bridges, machs, chans, lgs, ctds, safety, recd, out. -/
@[simp] abbrev Same1 (s t : State) : Prop :=
  t.pins = s.pins ∧ t.dev = s.dev ∧ t.time.dev = s.time.dev ∧ t.time.rtc = s.time.rtc ∧ t.bankA = s.bankA ∧ t.bankB = s.bankB ∧ t.pos = s.pos ∧ t.pouts = s.pouts ∧ t.cmps = s.cmps ∧ t.temps = s.temps ∧ t.store = s.store ∧ t.clk = s.clk ∧ t.pwr = s.pwr ∧ t.proto.sess = s.proto.sess ∧ t.net.can = s.net.can ∧ t.net.eth = s.net.eth ∧ t.net.rest = s.net.rest

/-- Same but for: store, clk, sess, ctx, left, cantx, egress, bridges, machs, chans, lgs, ctds, safety, recd, out. -/
@[simp] abbrev Same2 (s t : State) : Prop :=
  t.pins = s.pins ∧ t.dev = s.dev ∧ t.time.dev = s.time.dev ∧ t.time.rtc = s.time.rtc ∧ t.bankA = s.bankA ∧ t.bankB = s.bankB ∧ t.pos = s.pos ∧ t.pouts = s.pouts ∧ t.cmps = s.cmps ∧ t.temps = s.temps ∧ t.pwr = s.pwr ∧ t.net.can = s.net.can ∧ t.net.eth = s.net.eth ∧ t.net.rest = s.net.rest

/-- Same but for: machs. -/
@[simp] abbrev Same3 (s t : State) : Prop :=
  t.pins = s.pins ∧ t.dev = s.dev ∧ t.time.dev = s.time.dev ∧ t.time.rtc = s.time.rtc ∧ t.bankA = s.bankA ∧ t.bankB = s.bankB ∧ t.pos = s.pos ∧ t.pouts = s.pouts ∧ t.cmps = s.cmps ∧ t.temps = s.temps ∧ t.store = s.store ∧ t.clk = s.clk ∧ t.pwr = s.pwr ∧ t.proto.sess = s.proto.sess ∧ t.proto.ctx = s.proto.ctx ∧ t.proto.left = s.proto.left ∧ t.net.can = s.net.can ∧ t.net.eth = s.net.eth ∧ t.net.canTx = s.net.canTx ∧ t.net.egress = s.net.egress ∧ t.net.rest = s.net.rest ∧ t.bridges = s.bridges ∧ t.chans = s.chans ∧ t.lgs = s.lgs ∧ t.ctds = s.ctds ∧ t.safety = s.safety ∧ t.recd = s.recd ∧ t.out = s.out

/-- Same but for: recd. -/
@[simp] abbrev Same4 (s t : State) : Prop :=
  t.pins = s.pins ∧ t.dev = s.dev ∧ t.time.dev = s.time.dev ∧ t.time.rtc = s.time.rtc ∧ t.bankA = s.bankA ∧ t.bankB = s.bankB ∧ t.pos = s.pos ∧ t.pouts = s.pouts ∧ t.cmps = s.cmps ∧ t.temps = s.temps ∧ t.store = s.store ∧ t.clk = s.clk ∧ t.pwr = s.pwr ∧ t.proto.sess = s.proto.sess ∧ t.proto.ctx = s.proto.ctx ∧ t.proto.left = s.proto.left ∧ t.net.can = s.net.can ∧ t.net.eth = s.net.eth ∧ t.net.canTx = s.net.canTx ∧ t.net.egress = s.net.egress ∧ t.net.rest = s.net.rest ∧ t.bridges = s.bridges ∧ t.machs = s.machs ∧ t.chans = s.chans ∧ t.lgs = s.lgs ∧ t.ctds = s.ctds ∧ t.safety = s.safety ∧ t.out = s.out

/-- Same but for: bridges. -/
@[simp] abbrev Same5 (s t : State) : Prop :=
  t.pins = s.pins ∧ t.dev = s.dev ∧ t.time.dev = s.time.dev ∧ t.time.rtc = s.time.rtc ∧ t.bankA = s.bankA ∧ t.bankB = s.bankB ∧ t.pos = s.pos ∧ t.pouts = s.pouts ∧ t.cmps = s.cmps ∧ t.temps = s.temps ∧ t.store = s.store ∧ t.clk = s.clk ∧ t.pwr = s.pwr ∧ t.proto.sess = s.proto.sess ∧ t.proto.ctx = s.proto.ctx ∧ t.proto.left = s.proto.left ∧ t.net.can = s.net.can ∧ t.net.eth = s.net.eth ∧ t.net.canTx = s.net.canTx ∧ t.net.egress = s.net.egress ∧ t.net.rest = s.net.rest ∧ t.machs = s.machs ∧ t.chans = s.chans ∧ t.lgs = s.lgs ∧ t.ctds = s.ctds ∧ t.safety = s.safety ∧ t.recd = s.recd ∧ t.out = s.out

/-- Same but for: ctx, left, cantx, egress, out. -/
@[simp] abbrev Same6 (s t : State) : Prop :=
  t.pins = s.pins ∧ t.dev = s.dev ∧ t.time.dev = s.time.dev ∧ t.time.rtc = s.time.rtc ∧ t.bankA = s.bankA ∧ t.bankB = s.bankB ∧ t.pos = s.pos ∧ t.pouts = s.pouts ∧ t.cmps = s.cmps ∧ t.temps = s.temps ∧ t.store = s.store ∧ t.clk = s.clk ∧ t.pwr = s.pwr ∧ t.proto.sess = s.proto.sess ∧ t.net.can = s.net.can ∧ t.net.eth = s.net.eth ∧ t.net.rest = s.net.rest ∧ t.bridges = s.bridges ∧ t.machs = s.machs ∧ t.chans = s.chans ∧ t.lgs = s.lgs ∧ t.ctds = s.ctds ∧ t.safety = s.safety ∧ t.recd = s.recd

/-- Same but for: pos, pouts, cmps, ctx, left, cantx, egress, bridges, machs, chans, lgs, ctds, safety, recd, out. -/
@[simp] abbrev Same7 (s t : State) : Prop :=
  t.pins = s.pins ∧ t.dev = s.dev ∧ t.time.dev = s.time.dev ∧ t.time.rtc = s.time.rtc ∧ t.bankA = s.bankA ∧ t.bankB = s.bankB ∧ t.temps = s.temps ∧ t.store = s.store ∧ t.clk = s.clk ∧ t.pwr = s.pwr ∧ t.proto.sess = s.proto.sess ∧ t.net.can = s.net.can ∧ t.net.eth = s.net.eth ∧ t.net.rest = s.net.rest

/-- Same but for: temps, ctx, left, cantx, egress, bridges, machs, chans, lgs, ctds, safety, recd, out. -/
@[simp] abbrev Same8 (s t : State) : Prop :=
  t.pins = s.pins ∧ t.dev = s.dev ∧ t.time.dev = s.time.dev ∧ t.time.rtc = s.time.rtc ∧ t.bankA = s.bankA ∧ t.bankB = s.bankB ∧ t.pos = s.pos ∧ t.pouts = s.pouts ∧ t.cmps = s.cmps ∧ t.store = s.store ∧ t.clk = s.clk ∧ t.pwr = s.pwr ∧ t.proto.sess = s.proto.sess ∧ t.net.can = s.net.can ∧ t.net.eth = s.net.eth ∧ t.net.rest = s.net.rest

/-- Same but for: clk. -/
@[simp] abbrev Same9 (s t : State) : Prop :=
  t.pins = s.pins ∧ t.dev = s.dev ∧ t.time.dev = s.time.dev ∧ t.time.rtc = s.time.rtc ∧ t.bankA = s.bankA ∧ t.bankB = s.bankB ∧ t.pos = s.pos ∧ t.pouts = s.pouts ∧ t.cmps = s.cmps ∧ t.temps = s.temps ∧ t.store = s.store ∧ t.pwr = s.pwr ∧ t.proto.sess = s.proto.sess ∧ t.proto.ctx = s.proto.ctx ∧ t.proto.left = s.proto.left ∧ t.net.can = s.net.can ∧ t.net.eth = s.net.eth ∧ t.net.canTx = s.net.canTx ∧ t.net.egress = s.net.egress ∧ t.net.rest = s.net.rest ∧ t.bridges = s.bridges ∧ t.machs = s.machs ∧ t.chans = s.chans ∧ t.lgs = s.lgs ∧ t.ctds = s.ctds ∧ t.safety = s.safety ∧ t.recd = s.recd ∧ t.out = s.out

/-- Same but for: ctx, left, cantx, egress, machs, out. -/
@[simp] abbrev Same10 (s t : State) : Prop :=
  t.pins = s.pins ∧ t.dev = s.dev ∧ t.time.dev = s.time.dev ∧ t.time.rtc = s.time.rtc ∧ t.bankA = s.bankA ∧ t.bankB = s.bankB ∧ t.pos = s.pos ∧ t.pouts = s.pouts ∧ t.cmps = s.cmps ∧ t.temps = s.temps ∧ t.store = s.store ∧ t.clk = s.clk ∧ t.pwr = s.pwr ∧ t.proto.sess = s.proto.sess ∧ t.net.can = s.net.can ∧ t.net.eth = s.net.eth ∧ t.net.rest = s.net.rest ∧ t.bridges = s.bridges ∧ t.chans = s.chans ∧ t.lgs = s.lgs ∧ t.ctds = s.ctds ∧ t.safety = s.safety ∧ t.recd = s.recd

/-- Same but for: chans. -/
@[simp] abbrev Same11 (s t : State) : Prop :=
  t.pins = s.pins ∧ t.dev = s.dev ∧ t.time.dev = s.time.dev ∧ t.time.rtc = s.time.rtc ∧ t.bankA = s.bankA ∧ t.bankB = s.bankB ∧ t.pos = s.pos ∧ t.pouts = s.pouts ∧ t.cmps = s.cmps ∧ t.temps = s.temps ∧ t.store = s.store ∧ t.clk = s.clk ∧ t.pwr = s.pwr ∧ t.proto.sess = s.proto.sess ∧ t.proto.ctx = s.proto.ctx ∧ t.proto.left = s.proto.left ∧ t.net.can = s.net.can ∧ t.net.eth = s.net.eth ∧ t.net.canTx = s.net.canTx ∧ t.net.egress = s.net.egress ∧ t.net.rest = s.net.rest ∧ t.bridges = s.bridges ∧ t.machs = s.machs ∧ t.lgs = s.lgs ∧ t.ctds = s.ctds ∧ t.safety = s.safety ∧ t.recd = s.recd ∧ t.out = s.out

/-- Same but for: store. -/
@[simp] abbrev Same12 (s t : State) : Prop :=
  t.pins = s.pins ∧ t.dev = s.dev ∧ t.time.dev = s.time.dev ∧ t.time.rtc = s.time.rtc ∧ t.bankA = s.bankA ∧ t.bankB = s.bankB ∧ t.pos = s.pos ∧ t.pouts = s.pouts ∧ t.cmps = s.cmps ∧ t.temps = s.temps ∧ t.clk = s.clk ∧ t.pwr = s.pwr ∧ t.proto.sess = s.proto.sess ∧ t.proto.ctx = s.proto.ctx ∧ t.proto.left = s.proto.left ∧ t.net.can = s.net.can ∧ t.net.eth = s.net.eth ∧ t.net.canTx = s.net.canTx ∧ t.net.egress = s.net.egress ∧ t.net.rest = s.net.rest ∧ t.bridges = s.bridges ∧ t.machs = s.machs ∧ t.chans = s.chans ∧ t.lgs = s.lgs ∧ t.ctds = s.ctds ∧ t.safety = s.safety ∧ t.recd = s.recd ∧ t.out = s.out

/-- Same but for: out. -/
@[simp] abbrev Same13 (s t : State) : Prop :=
  t.pins = s.pins ∧ t.dev = s.dev ∧ t.time.dev = s.time.dev ∧ t.time.rtc = s.time.rtc ∧ t.bankA = s.bankA ∧ t.bankB = s.bankB ∧ t.pos = s.pos ∧ t.pouts = s.pouts ∧ t.cmps = s.cmps ∧ t.temps = s.temps ∧ t.store = s.store ∧ t.clk = s.clk ∧ t.pwr = s.pwr ∧ t.proto.sess = s.proto.sess ∧ t.proto.ctx = s.proto.ctx ∧ t.proto.left = s.proto.left ∧ t.net.can = s.net.can ∧ t.net.eth = s.net.eth ∧ t.net.canTx = s.net.canTx ∧ t.net.egress = s.net.egress ∧ t.net.rest = s.net.rest ∧ t.bridges = s.bridges ∧ t.machs = s.machs ∧ t.chans = s.chans ∧ t.lgs = s.lgs ∧ t.ctds = s.ctds ∧ t.safety = s.safety ∧ t.recd = s.recd

/-- Same but for: bridges, chans. -/
@[simp] abbrev Same14 (s t : State) : Prop :=
  t.pins = s.pins ∧ t.dev = s.dev ∧ t.time.dev = s.time.dev ∧ t.time.rtc = s.time.rtc ∧ t.bankA = s.bankA ∧ t.bankB = s.bankB ∧ t.pos = s.pos ∧ t.pouts = s.pouts ∧ t.cmps = s.cmps ∧ t.temps = s.temps ∧ t.store = s.store ∧ t.clk = s.clk ∧ t.pwr = s.pwr ∧ t.proto.sess = s.proto.sess ∧ t.proto.ctx = s.proto.ctx ∧ t.proto.left = s.proto.left ∧ t.net.can = s.net.can ∧ t.net.eth = s.net.eth ∧ t.net.canTx = s.net.canTx ∧ t.net.egress = s.net.egress ∧ t.net.rest = s.net.rest ∧ t.machs = s.machs ∧ t.lgs = s.lgs ∧ t.ctds = s.ctds ∧ t.safety = s.safety ∧ t.recd = s.recd ∧ t.out = s.out

/-- Same but for: pwr. -/
@[simp] abbrev Same15 (s t : State) : Prop :=
  t.pins = s.pins ∧ t.dev = s.dev ∧ t.time.dev = s.time.dev ∧ t.time.rtc = s.time.rtc ∧ t.bankA = s.bankA ∧ t.bankB = s.bankB ∧ t.pos = s.pos ∧ t.pouts = s.pouts ∧ t.cmps = s.cmps ∧ t.temps = s.temps ∧ t.store = s.store ∧ t.clk = s.clk ∧ t.proto.sess = s.proto.sess ∧ t.proto.ctx = s.proto.ctx ∧ t.proto.left = s.proto.left ∧ t.net.can = s.net.can ∧ t.net.eth = s.net.eth ∧ t.net.canTx = s.net.canTx ∧ t.net.egress = s.net.egress ∧ t.net.rest = s.net.rest ∧ t.bridges = s.bridges ∧ t.machs = s.machs ∧ t.chans = s.chans ∧ t.lgs = s.lgs ∧ t.ctds = s.ctds ∧ t.safety = s.safety ∧ t.recd = s.recd ∧ t.out = s.out

/-- Same but for: ctx, left, cantx, egress, bridges, machs, chans, out. -/
@[simp] abbrev Same16 (s t : State) : Prop :=
  t.pins = s.pins ∧ t.dev = s.dev ∧ t.time.dev = s.time.dev ∧ t.time.rtc = s.time.rtc ∧ t.bankA = s.bankA ∧ t.bankB = s.bankB ∧ t.pos = s.pos ∧ t.pouts = s.pouts ∧ t.cmps = s.cmps ∧ t.temps = s.temps ∧ t.store = s.store ∧ t.clk = s.clk ∧ t.pwr = s.pwr ∧ t.proto.sess = s.proto.sess ∧ t.net.can = s.net.can ∧ t.net.eth = s.net.eth ∧ t.net.rest = s.net.rest ∧ t.lgs = s.lgs ∧ t.ctds = s.ctds ∧ t.safety = s.safety ∧ t.recd = s.recd

/-- Same but for: bridges, machs. -/
@[simp] abbrev Same17 (s t : State) : Prop :=
  t.pins = s.pins ∧ t.dev = s.dev ∧ t.time.dev = s.time.dev ∧ t.time.rtc = s.time.rtc ∧ t.bankA = s.bankA ∧ t.bankB = s.bankB ∧ t.pos = s.pos ∧ t.pouts = s.pouts ∧ t.cmps = s.cmps ∧ t.temps = s.temps ∧ t.store = s.store ∧ t.clk = s.clk ∧ t.pwr = s.pwr ∧ t.proto.sess = s.proto.sess ∧ t.proto.ctx = s.proto.ctx ∧ t.proto.left = s.proto.left ∧ t.net.can = s.net.can ∧ t.net.eth = s.net.eth ∧ t.net.canTx = s.net.canTx ∧ t.net.egress = s.net.egress ∧ t.net.rest = s.net.rest ∧ t.chans = s.chans ∧ t.lgs = s.lgs ∧ t.ctds = s.ctds ∧ t.safety = s.safety ∧ t.recd = s.recd ∧ t.out = s.out

/-- Same but for: store, ctx, left, cantx, egress, bridges, machs, chans, lgs, ctds, safety, recd, out. -/
@[simp] abbrev Same18 (s t : State) : Prop :=
  t.pins = s.pins ∧ t.dev = s.dev ∧ t.time.dev = s.time.dev ∧ t.time.rtc = s.time.rtc ∧ t.bankA = s.bankA ∧ t.bankB = s.bankB ∧ t.pos = s.pos ∧ t.pouts = s.pouts ∧ t.cmps = s.cmps ∧ t.temps = s.temps ∧ t.clk = s.clk ∧ t.pwr = s.pwr ∧ t.proto.sess = s.proto.sess ∧ t.net.can = s.net.can ∧ t.net.eth = s.net.eth ∧ t.net.rest = s.net.rest

/-- Same but for: dev, bankA, bankB, pos, pouts, cmps, temps, store, pwr, sess, ctx, left, can, eth, cantx, egress, nother, bridges, machs, chans, lgs, ctds, safety, recd, out. -/
@[simp] abbrev Same19 (s t : State) : Prop :=
  t.pins = s.pins ∧ t.time.dev = s.time.dev ∧ t.time.rtc = s.time.rtc ∧ t.clk = s.clk

/-- Same but for: ctx, left, cantx, egress, nother, bridges, machs, chans, lgs, ctds, safety, recd, out. -/
@[simp] abbrev Same20 (s t : State) : Prop :=
  t.pins = s.pins ∧ t.dev = s.dev ∧ t.time.dev = s.time.dev ∧ t.time.rtc = s.time.rtc ∧ t.bankA = s.bankA ∧ t.bankB = s.bankB ∧ t.pos = s.pos ∧ t.pouts = s.pouts ∧ t.cmps = s.cmps ∧ t.temps = s.temps ∧ t.store = s.store ∧ t.clk = s.clk ∧ t.pwr = s.pwr ∧ t.proto.sess = s.proto.sess ∧ t.net.can = s.net.can ∧ t.net.eth = s.net.eth

/-- Same but for: pos. -/
@[simp] abbrev Same21 (s t : State) : Prop :=
  t.pins = s.pins ∧ t.dev = s.dev ∧ t.time.dev = s.time.dev ∧ t.time.rtc = s.time.rtc ∧ t.bankA = s.bankA ∧ t.bankB = s.bankB ∧ t.pouts = s.pouts ∧ t.cmps = s.cmps ∧ t.temps = s.temps ∧ t.store = s.store ∧ t.clk = s.clk ∧ t.pwr = s.pwr ∧ t.proto.sess = s.proto.sess ∧ t.proto.ctx = s.proto.ctx ∧ t.proto.left = s.proto.left ∧ t.net.can = s.net.can ∧ t.net.eth = s.net.eth ∧ t.net.canTx = s.net.canTx ∧ t.net.egress = s.net.egress ∧ t.net.rest = s.net.rest ∧ t.bridges = s.bridges ∧ t.machs = s.machs ∧ t.chans = s.chans ∧ t.lgs = s.lgs ∧ t.ctds = s.ctds ∧ t.safety = s.safety ∧ t.recd = s.recd ∧ t.out = s.out

/-- Same but for: nothing. -/
@[simp] abbrev Same22 (s t : State) : Prop :=
  t.pins = s.pins ∧ t.dev = s.dev ∧ t.time.dev = s.time.dev ∧ t.time.rtc = s.time.rtc ∧ t.bankA = s.bankA ∧ t.bankB = s.bankB ∧ t.pos = s.pos ∧ t.pouts = s.pouts ∧ t.cmps = s.cmps ∧ t.temps = s.temps ∧ t.store = s.store ∧ t.clk = s.clk ∧ t.pwr = s.pwr ∧ t.proto.sess = s.proto.sess ∧ t.proto.ctx = s.proto.ctx ∧ t.proto.left = s.proto.left ∧ t.net.can = s.net.can ∧ t.net.eth = s.net.eth ∧ t.net.canTx = s.net.canTx ∧ t.net.egress = s.net.egress ∧ t.net.rest = s.net.rest ∧ t.bridges = s.bridges ∧ t.machs = s.machs ∧ t.chans = s.chans ∧ t.lgs = s.lgs ∧ t.ctds = s.ctds ∧ t.safety = s.safety ∧ t.recd = s.recd ∧ t.out = s.out

/-- Same but for: safety. -/
@[simp] abbrev Same23 (s t : State) : Prop :=
  t.pins = s.pins ∧ t.dev = s.dev ∧ t.time.dev = s.time.dev ∧ t.time.rtc = s.time.rtc ∧ t.bankA = s.bankA ∧ t.bankB = s.bankB ∧ t.pos = s.pos ∧ t.pouts = s.pouts ∧ t.cmps = s.cmps ∧ t.temps = s.temps ∧ t.store = s.store ∧ t.clk = s.clk ∧ t.pwr = s.pwr ∧ t.proto.sess = s.proto.sess ∧ t.proto.ctx = s.proto.ctx ∧ t.proto.left = s.proto.left ∧ t.net.can = s.net.can ∧ t.net.eth = s.net.eth ∧ t.net.canTx = s.net.canTx ∧ t.net.egress = s.net.egress ∧ t.net.rest = s.net.rest ∧ t.bridges = s.bridges ∧ t.machs = s.machs ∧ t.chans = s.chans ∧ t.lgs = s.lgs ∧ t.ctds = s.ctds ∧ t.recd = s.recd ∧ t.out = s.out

/-- Same but for: chans, lgs. -/
@[simp] abbrev Same24 (s t : State) : Prop :=
  t.pins = s.pins ∧ t.dev = s.dev ∧ t.time.dev = s.time.dev ∧ t.time.rtc = s.time.rtc ∧ t.bankA = s.bankA ∧ t.bankB = s.bankB ∧ t.pos = s.pos ∧ t.pouts = s.pouts ∧ t.cmps = s.cmps ∧ t.temps = s.temps ∧ t.store = s.store ∧ t.clk = s.clk ∧ t.pwr = s.pwr ∧ t.proto.sess = s.proto.sess ∧ t.proto.ctx = s.proto.ctx ∧ t.proto.left = s.proto.left ∧ t.net.can = s.net.can ∧ t.net.eth = s.net.eth ∧ t.net.canTx = s.net.canTx ∧ t.net.egress = s.net.egress ∧ t.net.rest = s.net.rest ∧ t.bridges = s.bridges ∧ t.machs = s.machs ∧ t.ctds = s.ctds ∧ t.safety = s.safety ∧ t.recd = s.recd ∧ t.out = s.out

/-- Same but for: dev, ctx, left, cantx, egress, bridges, machs, chans, lgs, ctds, safety, recd, out. -/
@[simp] abbrev Same25 (s t : State) : Prop :=
  t.pins = s.pins ∧ t.time.dev = s.time.dev ∧ t.time.rtc = s.time.rtc ∧ t.bankA = s.bankA ∧ t.bankB = s.bankB ∧ t.pos = s.pos ∧ t.pouts = s.pouts ∧ t.cmps = s.cmps ∧ t.temps = s.temps ∧ t.store = s.store ∧ t.clk = s.clk ∧ t.pwr = s.pwr ∧ t.proto.sess = s.proto.sess ∧ t.net.can = s.net.can ∧ t.net.eth = s.net.eth ∧ t.net.rest = s.net.rest

/-- Same but for: pwr, ctx, left, cantx, egress, bridges, machs, chans, lgs, ctds, safety, recd, out. -/
@[simp] abbrev Same26 (s t : State) : Prop :=
  t.pins = s.pins ∧ t.dev = s.dev ∧ t.time.dev = s.time.dev ∧ t.time.rtc = s.time.rtc ∧ t.bankA = s.bankA ∧ t.bankB = s.bankB ∧ t.pos = s.pos ∧ t.pouts = s.pouts ∧ t.cmps = s.cmps ∧ t.temps = s.temps ∧ t.store = s.store ∧ t.clk = s.clk ∧ t.proto.sess = s.proto.sess ∧ t.net.can = s.net.can ∧ t.net.eth = s.net.eth ∧ t.net.rest = s.net.rest

/-- Same but for: store, ctx, left, cantx, egress, out. -/
@[simp] abbrev Same27 (s t : State) : Prop :=
  t.pins = s.pins ∧ t.dev = s.dev ∧ t.time.dev = s.time.dev ∧ t.time.rtc = s.time.rtc ∧ t.bankA = s.bankA ∧ t.bankB = s.bankB ∧ t.pos = s.pos ∧ t.pouts = s.pouts ∧ t.cmps = s.cmps ∧ t.temps = s.temps ∧ t.clk = s.clk ∧ t.pwr = s.pwr ∧ t.proto.sess = s.proto.sess ∧ t.net.can = s.net.can ∧ t.net.eth = s.net.eth ∧ t.net.rest = s.net.rest ∧ t.bridges = s.bridges ∧ t.machs = s.machs ∧ t.chans = s.chans ∧ t.lgs = s.lgs ∧ t.ctds = s.ctds ∧ t.safety = s.safety ∧ t.recd = s.recd

/-- Same but for: nother. -/
@[simp] abbrev Same28 (s t : State) : Prop :=
  t.pins = s.pins ∧ t.dev = s.dev ∧ t.time.dev = s.time.dev ∧ t.time.rtc = s.time.rtc ∧ t.bankA = s.bankA ∧ t.bankB = s.bankB ∧ t.pos = s.pos ∧ t.pouts = s.pouts ∧ t.cmps = s.cmps ∧ t.temps = s.temps ∧ t.store = s.store ∧ t.clk = s.clk ∧ t.pwr = s.pwr ∧ t.proto.sess = s.proto.sess ∧ t.proto.ctx = s.proto.ctx ∧ t.proto.left = s.proto.left ∧ t.net.can = s.net.can ∧ t.net.eth = s.net.eth ∧ t.net.canTx = s.net.canTx ∧ t.net.egress = s.net.egress ∧ t.bridges = s.bridges ∧ t.machs = s.machs ∧ t.chans = s.chans ∧ t.lgs = s.lgs ∧ t.ctds = s.ctds ∧ t.safety = s.safety ∧ t.recd = s.recd ∧ t.out = s.out

/-- Same but for: ctx, left, can, cantx, egress, bridges, machs, chans, lgs, ctds, safety, recd, out. -/
@[simp] abbrev Same29 (s t : State) : Prop :=
  t.pins = s.pins ∧ t.dev = s.dev ∧ t.time.dev = s.time.dev ∧ t.time.rtc = s.time.rtc ∧ t.bankA = s.bankA ∧ t.bankB = s.bankB ∧ t.pos = s.pos ∧ t.pouts = s.pouts ∧ t.cmps = s.cmps ∧ t.temps = s.temps ∧ t.store = s.store ∧ t.clk = s.clk ∧ t.pwr = s.pwr ∧ t.proto.sess = s.proto.sess ∧ t.net.eth = s.net.eth ∧ t.net.rest = s.net.rest

/-- Same but for: bankA, bankB, pos, pouts, store, pwr, sess, ctx, left, can, eth, cantx, egress, nother, bridges, machs, chans, lgs. -/
@[simp] abbrev Same30 (s t : State) : Prop :=
  t.pins = s.pins ∧ t.dev = s.dev ∧ t.time.dev = s.time.dev ∧ t.time.rtc = s.time.rtc ∧ t.cmps = s.cmps ∧ t.temps = s.temps ∧ t.clk = s.clk ∧ t.ctds = s.ctds ∧ t.safety = s.safety ∧ t.recd = s.recd ∧ t.out = s.out

/-- Same but for: dev, bankA, bankB, pos, pouts, store, pwr, sess, ctx, left, can, eth, cantx, egress, nother, bridges, machs, chans, lgs, ctds, safety, recd, out. -/
@[simp] abbrev Same31 (s t : State) : Prop :=
  t.pins = s.pins ∧ t.time.dev = s.time.dev ∧ t.time.rtc = s.time.rtc ∧ t.cmps = s.cmps ∧ t.temps = s.temps ∧ t.clk = s.clk

/-- Same but for: nother, out. -/
@[simp] abbrev Same32 (s t : State) : Prop :=
  t.pins = s.pins ∧ t.dev = s.dev ∧ t.time.dev = s.time.dev ∧ t.time.rtc = s.time.rtc ∧ t.bankA = s.bankA ∧ t.bankB = s.bankB ∧ t.pos = s.pos ∧ t.pouts = s.pouts ∧ t.cmps = s.cmps ∧ t.temps = s.temps ∧ t.store = s.store ∧ t.clk = s.clk ∧ t.pwr = s.pwr ∧ t.proto.sess = s.proto.sess ∧ t.proto.ctx = s.proto.ctx ∧ t.proto.left = s.proto.left ∧ t.net.can = s.net.can ∧ t.net.eth = s.net.eth ∧ t.net.canTx = s.net.canTx ∧ t.net.egress = s.net.egress ∧ t.bridges = s.bridges ∧ t.machs = s.machs ∧ t.chans = s.chans ∧ t.lgs = s.lgs ∧ t.ctds = s.ctds ∧ t.safety = s.safety ∧ t.recd = s.recd

/-- Same but for: temps. -/
@[simp] abbrev Same33 (s t : State) : Prop :=
  t.pins = s.pins ∧ t.dev = s.dev ∧ t.time.dev = s.time.dev ∧ t.time.rtc = s.time.rtc ∧ t.bankA = s.bankA ∧ t.bankB = s.bankB ∧ t.pos = s.pos ∧ t.pouts = s.pouts ∧ t.cmps = s.cmps ∧ t.store = s.store ∧ t.clk = s.clk ∧ t.pwr = s.pwr ∧ t.proto.sess = s.proto.sess ∧ t.proto.ctx = s.proto.ctx ∧ t.proto.left = s.proto.left ∧ t.net.can = s.net.can ∧ t.net.eth = s.net.eth ∧ t.net.canTx = s.net.canTx ∧ t.net.egress = s.net.egress ∧ t.net.rest = s.net.rest ∧ t.bridges = s.bridges ∧ t.machs = s.machs ∧ t.chans = s.chans ∧ t.lgs = s.lgs ∧ t.ctds = s.ctds ∧ t.safety = s.safety ∧ t.recd = s.recd ∧ t.out = s.out

/-- Same but for: pouts, cmps, recd, out. -/
@[simp] abbrev Same34 (s t : State) : Prop :=
  t.pins = s.pins ∧ t.dev = s.dev ∧ t.time.dev = s.time.dev ∧ t.time.rtc = s.time.rtc ∧ t.bankA = s.bankA ∧ t.bankB = s.bankB ∧ t.pos = s.pos ∧ t.temps = s.temps ∧ t.store = s.store ∧ t.clk = s.clk ∧ t.pwr = s.pwr ∧ t.proto.sess = s.proto.sess ∧ t.proto.ctx = s.proto.ctx ∧ t.proto.left = s.proto.left ∧ t.net.can = s.net.can ∧ t.net.eth = s.net.eth ∧ t.net.canTx = s.net.canTx ∧ t.net.egress = s.net.egress ∧ t.net.rest = s.net.rest ∧ t.bridges = s.bridges ∧ t.machs = s.machs ∧ t.chans = s.chans ∧ t.lgs = s.lgs ∧ t.ctds = s.ctds ∧ t.safety = s.safety

/-- Same but for: bankA, bankB, ctx, left, cantx, egress, bridges, machs, chans, lgs, ctds, safety, recd, out. -/
@[simp] abbrev Same35 (s t : State) : Prop :=
  t.pins = s.pins ∧ t.dev = s.dev ∧ t.time.dev = s.time.dev ∧ t.time.rtc = s.time.rtc ∧ t.pos = s.pos ∧ t.pouts = s.pouts ∧ t.cmps = s.cmps ∧ t.temps = s.temps ∧ t.store = s.store ∧ t.clk = s.clk ∧ t.pwr = s.pwr ∧ t.proto.sess = s.proto.sess ∧ t.net.can = s.net.can ∧ t.net.eth = s.net.eth ∧ t.net.rest = s.net.rest

/-- Same but for: can. -/
@[simp] abbrev Same36 (s t : State) : Prop :=
  t.pins = s.pins ∧ t.dev = s.dev ∧ t.time.dev = s.time.dev ∧ t.time.rtc = s.time.rtc ∧ t.bankA = s.bankA ∧ t.bankB = s.bankB ∧ t.pos = s.pos ∧ t.pouts = s.pouts ∧ t.cmps = s.cmps ∧ t.temps = s.temps ∧ t.store = s.store ∧ t.clk = s.clk ∧ t.pwr = s.pwr ∧ t.proto.sess = s.proto.sess ∧ t.proto.ctx = s.proto.ctx ∧ t.proto.left = s.proto.left ∧ t.net.eth = s.net.eth ∧ t.net.canTx = s.net.canTx ∧ t.net.egress = s.net.egress ∧ t.net.rest = s.net.rest ∧ t.bridges = s.bridges ∧ t.machs = s.machs ∧ t.chans = s.chans ∧ t.lgs = s.lgs ∧ t.ctds = s.ctds ∧ t.safety = s.safety ∧ t.recd = s.recd ∧ t.out = s.out

/-- Same but for: sess. -/
@[simp] abbrev Same37 (s t : State) : Prop :=
  t.pins = s.pins ∧ t.dev = s.dev ∧ t.time.dev = s.time.dev ∧ t.time.rtc = s.time.rtc ∧ t.bankA = s.bankA ∧ t.bankB = s.bankB ∧ t.pos = s.pos ∧ t.pouts = s.pouts ∧ t.cmps = s.cmps ∧ t.temps = s.temps ∧ t.store = s.store ∧ t.clk = s.clk ∧ t.pwr = s.pwr ∧ t.proto.ctx = s.proto.ctx ∧ t.proto.left = s.proto.left ∧ t.net.can = s.net.can ∧ t.net.eth = s.net.eth ∧ t.net.canTx = s.net.canTx ∧ t.net.egress = s.net.egress ∧ t.net.rest = s.net.rest ∧ t.bridges = s.bridges ∧ t.machs = s.machs ∧ t.chans = s.chans ∧ t.lgs = s.lgs ∧ t.ctds = s.ctds ∧ t.safety = s.safety ∧ t.recd = s.recd ∧ t.out = s.out

/-- Same but for: bridges, machs, chans. -/
@[simp] abbrev Same38 (s t : State) : Prop :=
  t.pins = s.pins ∧ t.dev = s.dev ∧ t.time.dev = s.time.dev ∧ t.time.rtc = s.time.rtc ∧ t.bankA = s.bankA ∧ t.bankB = s.bankB ∧ t.pos = s.pos ∧ t.pouts = s.pouts ∧ t.cmps = s.cmps ∧ t.temps = s.temps ∧ t.store = s.store ∧ t.clk = s.clk ∧ t.pwr = s.pwr ∧ t.proto.sess = s.proto.sess ∧ t.proto.ctx = s.proto.ctx ∧ t.proto.left = s.proto.left ∧ t.net.can = s.net.can ∧ t.net.eth = s.net.eth ∧ t.net.canTx = s.net.canTx ∧ t.net.egress = s.net.egress ∧ t.net.rest = s.net.rest ∧ t.lgs = s.lgs ∧ t.ctds = s.ctds ∧ t.safety = s.safety ∧ t.recd = s.recd ∧ t.out = s.out

/-- Same but for: dev, clk. -/
@[simp] abbrev Same39 (s t : State) : Prop :=
  t.pins = s.pins ∧ t.time.dev = s.time.dev ∧ t.time.rtc = s.time.rtc ∧ t.bankA = s.bankA ∧ t.bankB = s.bankB ∧ t.pos = s.pos ∧ t.pouts = s.pouts ∧ t.cmps = s.cmps ∧ t.temps = s.temps ∧ t.store = s.store ∧ t.pwr = s.pwr ∧ t.proto.sess = s.proto.sess ∧ t.proto.ctx = s.proto.ctx ∧ t.proto.left = s.proto.left ∧ t.net.can = s.net.can ∧ t.net.eth = s.net.eth ∧ t.net.canTx = s.net.canTx ∧ t.net.egress = s.net.egress ∧ t.net.rest = s.net.rest ∧ t.bridges = s.bridges ∧ t.machs = s.machs ∧ t.chans = s.chans ∧ t.lgs = s.lgs ∧ t.ctds = s.ctds ∧ t.safety = s.safety ∧ t.recd = s.recd ∧ t.out = s.out

/-- Same but for: pins, ctx, left, cantx, egress, bridges, machs, chans, lgs, ctds, safety, recd, out. -/
@[simp] abbrev Same40 (s t : State) : Prop :=
  t.dev = s.dev ∧ t.time.dev = s.time.dev ∧ t.time.rtc = s.time.rtc ∧ t.bankA = s.bankA ∧ t.bankB = s.bankB ∧ t.pos = s.pos ∧ t.pouts = s.pouts ∧ t.cmps = s.cmps ∧ t.temps = s.temps ∧ t.store = s.store ∧ t.clk = s.clk ∧ t.pwr = s.pwr ∧ t.proto.sess = s.proto.sess ∧ t.net.can = s.net.can ∧ t.net.eth = s.net.eth ∧ t.net.rest = s.net.rest

/-- Same but for: lgs. -/
@[simp] abbrev Same41 (s t : State) : Prop :=
  t.pins = s.pins ∧ t.dev = s.dev ∧ t.time.dev = s.time.dev ∧ t.time.rtc = s.time.rtc ∧ t.bankA = s.bankA ∧ t.bankB = s.bankB ∧ t.pos = s.pos ∧ t.pouts = s.pouts ∧ t.cmps = s.cmps ∧ t.temps = s.temps ∧ t.store = s.store ∧ t.clk = s.clk ∧ t.pwr = s.pwr ∧ t.proto.sess = s.proto.sess ∧ t.proto.ctx = s.proto.ctx ∧ t.proto.left = s.proto.left ∧ t.net.can = s.net.can ∧ t.net.eth = s.net.eth ∧ t.net.canTx = s.net.canTx ∧ t.net.egress = s.net.egress ∧ t.net.rest = s.net.rest ∧ t.bridges = s.bridges ∧ t.machs = s.machs ∧ t.chans = s.chans ∧ t.ctds = s.ctds ∧ t.safety = s.safety ∧ t.recd = s.recd ∧ t.out = s.out

/-- Same but for: cmps. -/
@[simp] abbrev Same42 (s t : State) : Prop :=
  t.pins = s.pins ∧ t.dev = s.dev ∧ t.time.dev = s.time.dev ∧ t.time.rtc = s.time.rtc ∧ t.bankA = s.bankA ∧ t.bankB = s.bankB ∧ t.pos = s.pos ∧ t.pouts = s.pouts ∧ t.temps = s.temps ∧ t.store = s.store ∧ t.clk = s.clk ∧ t.pwr = s.pwr ∧ t.proto.sess = s.proto.sess ∧ t.proto.ctx = s.proto.ctx ∧ t.proto.left = s.proto.left ∧ t.net.can = s.net.can ∧ t.net.eth = s.net.eth ∧ t.net.canTx = s.net.canTx ∧ t.net.egress = s.net.egress ∧ t.net.rest = s.net.rest ∧ t.bridges = s.bridges ∧ t.machs = s.machs ∧ t.chans = s.chans ∧ t.lgs = s.lgs ∧ t.ctds = s.ctds ∧ t.safety = s.safety ∧ t.recd = s.recd ∧ t.out = s.out

/-- Same but for: store, clk, ctx, left, cantx, egress, bridges, machs, chans, lgs, ctds, safety, recd, out. -/
@[simp] abbrev Same43 (s t : State) : Prop :=
  t.pins = s.pins ∧ t.dev = s.dev ∧ t.time.dev = s.time.dev ∧ t.time.rtc = s.time.rtc ∧ t.bankA = s.bankA ∧ t.bankB = s.bankB ∧ t.pos = s.pos ∧ t.pouts = s.pouts ∧ t.cmps = s.cmps ∧ t.temps = s.temps ∧ t.pwr = s.pwr ∧ t.proto.sess = s.proto.sess ∧ t.net.can = s.net.can ∧ t.net.eth = s.net.eth ∧ t.net.rest = s.net.rest

/-- Same but for: store, ctx, left, cantx, egress, bridges, out. -/
@[simp] abbrev Same44 (s t : State) : Prop :=
  t.pins = s.pins ∧ t.dev = s.dev ∧ t.time.dev = s.time.dev ∧ t.time.rtc = s.time.rtc ∧ t.bankA = s.bankA ∧ t.bankB = s.bankB ∧ t.pos = s.pos ∧ t.pouts = s.pouts ∧ t.cmps = s.cmps ∧ t.temps = s.temps ∧ t.clk = s.clk ∧ t.pwr = s.pwr ∧ t.proto.sess = s.proto.sess ∧ t.net.can = s.net.can ∧ t.net.eth = s.net.eth ∧ t.net.rest = s.net.rest ∧ t.machs = s.machs ∧ t.chans = s.chans ∧ t.lgs = s.lgs ∧ t.ctds = s.ctds ∧ t.safety = s.safety ∧ t.recd = s.recd

/-- Same but for: clk, ctx, left, cantx, egress, bridges, machs, chans, lgs, ctds, safety, recd, out. -/
@[simp] abbrev Same45 (s t : State) : Prop :=
  t.pins = s.pins ∧ t.dev = s.dev ∧ t.time.dev = s.time.dev ∧ t.time.rtc = s.time.rtc ∧ t.bankA = s.bankA ∧ t.bankB = s.bankB ∧ t.pos = s.pos ∧ t.pouts = s.pouts ∧ t.cmps = s.cmps ∧ t.temps = s.temps ∧ t.store = s.store ∧ t.pwr = s.pwr ∧ t.proto.sess = s.proto.sess ∧ t.net.can = s.net.can ∧ t.net.eth = s.net.eth ∧ t.net.rest = s.net.rest

/-- Same but for: clk, ctx, left, cantx, egress, out. -/
@[simp] abbrev Same46 (s t : State) : Prop :=
  t.pins = s.pins ∧ t.dev = s.dev ∧ t.time.dev = s.time.dev ∧ t.time.rtc = s.time.rtc ∧ t.bankA = s.bankA ∧ t.bankB = s.bankB ∧ t.pos = s.pos ∧ t.pouts = s.pouts ∧ t.cmps = s.cmps ∧ t.temps = s.temps ∧ t.store = s.store ∧ t.pwr = s.pwr ∧ t.proto.sess = s.proto.sess ∧ t.net.can = s.net.can ∧ t.net.eth = s.net.eth ∧ t.net.rest = s.net.rest ∧ t.bridges = s.bridges ∧ t.machs = s.machs ∧ t.chans = s.chans ∧ t.lgs = s.lgs ∧ t.ctds = s.ctds ∧ t.safety = s.safety ∧ t.recd = s.recd

/-- Same but for: bankA, bankB. -/
@[simp] abbrev Same47 (s t : State) : Prop :=
  t.pins = s.pins ∧ t.dev = s.dev ∧ t.time.dev = s.time.dev ∧ t.time.rtc = s.time.rtc ∧ t.pos = s.pos ∧ t.pouts = s.pouts ∧ t.cmps = s.cmps ∧ t.temps = s.temps ∧ t.store = s.store ∧ t.clk = s.clk ∧ t.pwr = s.pwr ∧ t.proto.sess = s.proto.sess ∧ t.proto.ctx = s.proto.ctx ∧ t.proto.left = s.proto.left ∧ t.net.can = s.net.can ∧ t.net.eth = s.net.eth ∧ t.net.canTx = s.net.canTx ∧ t.net.egress = s.net.egress ∧ t.net.rest = s.net.rest ∧ t.bridges = s.bridges ∧ t.machs = s.machs ∧ t.chans = s.chans ∧ t.lgs = s.lgs ∧ t.ctds = s.ctds ∧ t.safety = s.safety ∧ t.recd = s.recd ∧ t.out = s.out

/-- Same but for: store, machs. -/
@[simp] abbrev Same48 (s t : State) : Prop :=
  t.pins = s.pins ∧ t.dev = s.dev ∧ t.time.dev = s.time.dev ∧ t.time.rtc = s.time.rtc ∧ t.bankA = s.bankA ∧ t.bankB = s.bankB ∧ t.pos = s.pos ∧ t.pouts = s.pouts ∧ t.cmps = s.cmps ∧ t.temps = s.temps ∧ t.clk = s.clk ∧ t.pwr = s.pwr ∧ t.proto.sess = s.proto.sess ∧ t.proto.ctx = s.proto.ctx ∧ t.proto.left = s.proto.left ∧ t.net.can = s.net.can ∧ t.net.eth = s.net.eth ∧ t.net.canTx = s.net.canTx ∧ t.net.egress = s.net.egress ∧ t.net.rest = s.net.rest ∧ t.bridges = s.bridges ∧ t.chans = s.chans ∧ t.lgs = s.lgs ∧ t.ctds = s.ctds ∧ t.safety = s.safety ∧ t.recd = s.recd ∧ t.out = s.out

/-- Same but for: dev, bankA, bankB, pos, pouts, store, clk, pwr, sess, ctx, left, can, eth, cantx, egress, nother, bridges, machs, chans, lgs, ctds, safety, recd, out. -/
@[simp] abbrev Same49 (s t : State) : Prop :=
  t.pins = s.pins ∧ t.time.dev = s.time.dev ∧ t.time.rtc = s.time.rtc ∧ t.cmps = s.cmps ∧ t.temps = s.temps

/-- Same but for: store, clk, sess, ctx, left, can, cantx, egress, bridges, machs, chans, lgs, ctds, safety, recd, out. -/
@[simp] abbrev Same50 (s t : State) : Prop :=
  t.pins = s.pins ∧ t.dev = s.dev ∧ t.time.dev = s.time.dev ∧ t.time.rtc = s.time.rtc ∧ t.bankA = s.bankA ∧ t.bankB = s.bankB ∧ t.pos = s.pos ∧ t.pouts = s.pouts ∧ t.cmps = s.cmps ∧ t.temps = s.temps ∧ t.pwr = s.pwr ∧ t.net.eth = s.net.eth ∧ t.net.rest = s.net.rest

/-- Same but for: dev, tdev, pos, pouts, cmps, temps, store, sess, ctx, left, eth, nother, bridges, machs, chans, lgs, ctds, safety, recd. -/
@[simp] abbrev Same51 (s t : State) : Prop :=
  t.pins = s.pins ∧ t.time.rtc = s.time.rtc ∧ t.bankA = s.bankA ∧ t.bankB = s.bankB ∧ t.clk = s.clk ∧ t.pwr = s.pwr ∧ t.net.can = s.net.can ∧ t.net.canTx = s.net.canTx ∧ t.net.egress = s.net.egress ∧ t.out = s.out

/-- Same but for: dev, tdev, pos, pouts, cmps, temps, store, clk, sess, ctx, left, can, eth, cantx, egress, nother, bridges, machs, chans, lgs, ctds, safety, recd, out. -/
@[simp] abbrev Same52 (s t : State) : Prop :=
  t.pins = s.pins ∧ t.time.rtc = s.time.rtc ∧ t.bankA = s.bankA ∧ t.bankB = s.bankB ∧ t.pwr = s.pwr

/-- Same but for: ctds. -/
@[simp] abbrev Same53 (s t : State) : Prop :=
  t.pins = s.pins ∧ t.dev = s.dev ∧ t.time.dev = s.time.dev ∧ t.time.rtc = s.time.rtc ∧ t.bankA = s.bankA ∧ t.bankB = s.bankB ∧ t.pos = s.pos ∧ t.pouts = s.pouts ∧ t.cmps = s.cmps ∧ t.temps = s.temps ∧ t.store = s.store ∧ t.clk = s.clk ∧ t.pwr = s.pwr ∧ t.proto.sess = s.proto.sess ∧ t.proto.ctx = s.proto.ctx ∧ t.proto.left = s.proto.left ∧ t.net.can = s.net.can ∧ t.net.eth = s.net.eth ∧ t.net.canTx = s.net.canTx ∧ t.net.egress = s.net.egress ∧ t.net.rest = s.net.rest ∧ t.bridges = s.bridges ∧ t.machs = s.machs ∧ t.chans = s.chans ∧ t.lgs = s.lgs ∧ t.safety = s.safety ∧ t.recd = s.recd ∧ t.out = s.out

/-- Same but for: pouts. -/
@[simp] abbrev Same54 (s t : State) : Prop :=
  t.pins = s.pins ∧ t.dev = s.dev ∧ t.time.dev = s.time.dev ∧ t.time.rtc = s.time.rtc ∧ t.bankA = s.bankA ∧ t.bankB = s.bankB ∧ t.pos = s.pos ∧ t.cmps = s.cmps ∧ t.temps = s.temps ∧ t.store = s.store ∧ t.clk = s.clk ∧ t.pwr = s.pwr ∧ t.proto.sess = s.proto.sess ∧ t.proto.ctx = s.proto.ctx ∧ t.proto.left = s.proto.left ∧ t.net.can = s.net.can ∧ t.net.eth = s.net.eth ∧ t.net.canTx = s.net.canTx ∧ t.net.egress = s.net.egress ∧ t.net.rest = s.net.rest ∧ t.bridges = s.bridges ∧ t.machs = s.machs ∧ t.chans = s.chans ∧ t.lgs = s.lgs ∧ t.ctds = s.ctds ∧ t.safety = s.safety ∧ t.recd = s.recd ∧ t.out = s.out

/-- Same but for: cantx. -/
@[simp] abbrev Same55 (s t : State) : Prop :=
  t.pins = s.pins ∧ t.dev = s.dev ∧ t.time.dev = s.time.dev ∧ t.time.rtc = s.time.rtc ∧ t.bankA = s.bankA ∧ t.bankB = s.bankB ∧ t.pos = s.pos ∧ t.pouts = s.pouts ∧ t.cmps = s.cmps ∧ t.temps = s.temps ∧ t.store = s.store ∧ t.clk = s.clk ∧ t.pwr = s.pwr ∧ t.proto.sess = s.proto.sess ∧ t.proto.ctx = s.proto.ctx ∧ t.proto.left = s.proto.left ∧ t.net.can = s.net.can ∧ t.net.eth = s.net.eth ∧ t.net.egress = s.net.egress ∧ t.net.rest = s.net.rest ∧ t.bridges = s.bridges ∧ t.machs = s.machs ∧ t.chans = s.chans ∧ t.lgs = s.lgs ∧ t.ctds = s.ctds ∧ t.safety = s.safety ∧ t.recd = s.recd ∧ t.out = s.out

/-- Same but for: cantx, egress, out. -/
@[simp] abbrev Same56 (s t : State) : Prop :=
  t.pins = s.pins ∧ t.dev = s.dev ∧ t.time.dev = s.time.dev ∧ t.time.rtc = s.time.rtc ∧ t.bankA = s.bankA ∧ t.bankB = s.bankB ∧ t.pos = s.pos ∧ t.pouts = s.pouts ∧ t.cmps = s.cmps ∧ t.temps = s.temps ∧ t.store = s.store ∧ t.clk = s.clk ∧ t.pwr = s.pwr ∧ t.proto.sess = s.proto.sess ∧ t.proto.ctx = s.proto.ctx ∧ t.proto.left = s.proto.left ∧ t.net.can = s.net.can ∧ t.net.eth = s.net.eth ∧ t.net.rest = s.net.rest ∧ t.bridges = s.bridges ∧ t.machs = s.machs ∧ t.chans = s.chans ∧ t.lgs = s.lgs ∧ t.ctds = s.ctds ∧ t.safety = s.safety ∧ t.recd = s.recd

/-- Same but for: dev, store, pwr, sess, ctx, left, can, eth, cantx, egress, nother, bridges, machs, chans, safety. -/
@[simp] abbrev Same57 (s t : State) : Prop :=
  t.pins = s.pins ∧ t.time.dev = s.time.dev ∧ t.time.rtc = s.time.rtc ∧ t.bankA = s.bankA ∧ t.bankB = s.bankB ∧ t.pos = s.pos ∧ t.pouts = s.pouts ∧ t.cmps = s.cmps ∧ t.temps = s.temps ∧ t.clk = s.clk ∧ t.lgs = s.lgs ∧ t.ctds = s.ctds ∧ t.recd = s.recd ∧ t.out = s.out

/-- Same but for: pos, pouts, ctx, left, cantx, egress, bridges, machs, chans, lgs, ctds, safety, recd, out. -/
@[simp] abbrev Same58 (s t : State) : Prop :=
  t.pins = s.pins ∧ t.dev = s.dev ∧ t.time.dev = s.time.dev ∧ t.time.rtc = s.time.rtc ∧ t.bankA = s.bankA ∧ t.bankB = s.bankB ∧ t.cmps = s.cmps ∧ t.temps = s.temps ∧ t.store = s.store ∧ t.clk = s.clk ∧ t.pwr = s.pwr ∧ t.proto.sess = s.proto.sess ∧ t.net.can = s.net.can ∧ t.net.eth = s.net.eth ∧ t.net.rest = s.net.rest

/-- Same but for: store, clk, pwr, sess, ctx, left, cantx, egress, bridges, machs, chans, lgs, ctds, safety, recd, out. -/
@[simp] abbrev Same59 (s t : State) : Prop :=
  t.pins = s.pins ∧ t.dev = s.dev ∧ t.time.dev = s.time.dev ∧ t.time.rtc = s.time.rtc ∧ t.bankA = s.bankA ∧ t.bankB = s.bankB ∧ t.pos = s.pos ∧ t.pouts = s.pouts ∧ t.cmps = s.cmps ∧ t.temps = s.temps ∧ t.net.can = s.net.can ∧ t.net.eth = s.net.eth ∧ t.net.rest = s.net.rest

/-- Same but for: pos, ctx, left, cantx, egress, bridges, machs, chans, lgs, ctds, safety, recd, out. -/
@[simp] abbrev Same60 (s t : State) : Prop :=
  t.pins = s.pins ∧ t.dev = s.dev ∧ t.time.dev = s.time.dev ∧ t.time.rtc = s.time.rtc ∧ t.bankA = s.bankA ∧ t.bankB = s.bankB ∧ t.pouts = s.pouts ∧ t.cmps = s.cmps ∧ t.temps = s.temps ∧ t.store = s.store ∧ t.clk = s.clk ∧ t.pwr = s.pwr ∧ t.proto.sess = s.proto.sess ∧ t.net.can = s.net.can ∧ t.net.eth = s.net.eth ∧ t.net.rest = s.net.rest

/-- Same but for: dev, store, clk, sess, ctx, left, cantx, egress, bridges, machs, chans, lgs, ctds, safety, recd, out. -/
@[simp] abbrev Same61 (s t : State) : Prop :=
  t.pins = s.pins ∧ t.time.dev = s.time.dev ∧ t.time.rtc = s.time.rtc ∧ t.bankA = s.bankA ∧ t.bankB = s.bankB ∧ t.pos = s.pos ∧ t.pouts = s.pouts ∧ t.cmps = s.cmps ∧ t.temps = s.temps ∧ t.pwr = s.pwr ∧ t.net.can = s.net.can ∧ t.net.eth = s.net.eth ∧ t.net.rest = s.net.rest

/-- Same but for: ctx, left, cantx, egress, chans, lgs, ctds, out. -/
@[simp] abbrev Same62 (s t : State) : Prop :=
  t.pins = s.pins ∧ t.dev = s.dev ∧ t.time.dev = s.time.dev ∧ t.time.rtc = s.time.rtc ∧ t.bankA = s.bankA ∧ t.bankB = s.bankB ∧ t.pos = s.pos ∧ t.pouts = s.pouts ∧ t.cmps = s.cmps ∧ t.temps = s.temps ∧ t.store = s.store ∧ t.clk = s.clk ∧ t.pwr = s.pwr ∧ t.proto.sess = s.proto.sess ∧ t.net.can = s.net.can ∧ t.net.eth = s.net.eth ∧ t.net.rest = s.net.rest ∧ t.bridges = s.bridges ∧ t.machs = s.machs ∧ t.safety = s.safety ∧ t.recd = s.recd

/-- Same but for: bridges, chans, recd. -/
@[simp] abbrev Same63 (s t : State) : Prop :=
  t.pins = s.pins ∧ t.dev = s.dev ∧ t.time.dev = s.time.dev ∧ t.time.rtc = s.time.rtc ∧ t.bankA = s.bankA ∧ t.bankB = s.bankB ∧ t.pos = s.pos ∧ t.pouts = s.pouts ∧ t.cmps = s.cmps ∧ t.temps = s.temps ∧ t.store = s.store ∧ t.clk = s.clk ∧ t.pwr = s.pwr ∧ t.proto.sess = s.proto.sess ∧ t.proto.ctx = s.proto.ctx ∧ t.proto.left = s.proto.left ∧ t.net.can = s.net.can ∧ t.net.eth = s.net.eth ∧ t.net.canTx = s.net.canTx ∧ t.net.egress = s.net.egress ∧ t.net.rest = s.net.rest ∧ t.machs = s.machs ∧ t.lgs = s.lgs ∧ t.ctds = s.ctds ∧ t.safety = s.safety ∧ t.out = s.out

/-- Same but for: dev, bankA, bankB, pos, pouts, cmps, temps, store, clk, pwr, sess, ctx, left, can, eth, cantx, egress, nother, bridges, machs, chans, lgs, ctds, safety, recd, out. -/
@[simp] abbrev Same64 (s t : State) : Prop :=
  t.pins = s.pins ∧ t.time.dev = s.time.dev ∧ t.time.rtc = s.time.rtc

/-- Same but for: pins, dev, bankA, bankB, pos, pouts, store, pwr, sess, ctx, left, can, eth, cantx, egress, nother, bridges, machs, chans, lgs, safety. -/
@[simp] abbrev Same65 (s t : State) : Prop :=
  t.time.dev = s.time.dev ∧ t.time.rtc = s.time.rtc ∧ t.cmps = s.cmps ∧ t.temps = s.temps ∧ t.clk = s.clk ∧ t.ctds = s.ctds ∧ t.recd = s.recd ∧ t.out = s.out

/-- Same but for: store, sess, ctx, left, cantx, egress, bridges, machs, chans, lgs, ctds, safety, recd, out. -/
@[simp] abbrev Same66 (s t : State) : Prop :=
  t.pins = s.pins ∧ t.dev = s.dev ∧ t.time.dev = s.time.dev ∧ t.time.rtc = s.time.rtc ∧ t.bankA = s.bankA ∧ t.bankB = s.bankB ∧ t.pos = s.pos ∧ t.pouts = s.pouts ∧ t.cmps = s.cmps ∧ t.temps = s.temps ∧ t.clk = s.clk ∧ t.pwr = s.pwr ∧ t.net.can = s.net.can ∧ t.net.eth = s.net.eth ∧ t.net.rest = s.net.rest

/-- Same but for: eth. -/
@[simp] abbrev Same67 (s t : State) : Prop :=
  t.pins = s.pins ∧ t.dev = s.dev ∧ t.time.dev = s.time.dev ∧ t.time.rtc = s.time.rtc ∧ t.bankA = s.bankA ∧ t.bankB = s.bankB ∧ t.pos = s.pos ∧ t.pouts = s.pouts ∧ t.cmps = s.cmps ∧ t.temps = s.temps ∧ t.store = s.store ∧ t.clk = s.clk ∧ t.pwr = s.pwr ∧ t.proto.sess = s.proto.sess ∧ t.proto.ctx = s.proto.ctx ∧ t.proto.left = s.proto.left ∧ t.net.can = s.net.can ∧ t.net.canTx = s.net.canTx ∧ t.net.egress = s.net.egress ∧ t.net.rest = s.net.rest ∧ t.bridges = s.bridges ∧ t.machs = s.machs ∧ t.chans = s.chans ∧ t.lgs = s.lgs ∧ t.ctds = s.ctds ∧ t.safety = s.safety ∧ t.recd = s.recd ∧ t.out = s.out

/-- Same but for: lgs, ctds. -/
@[simp] abbrev Same68 (s t : State) : Prop :=
  t.pins = s.pins ∧ t.dev = s.dev ∧ t.time.dev = s.time.dev ∧ t.time.rtc = s.time.rtc ∧ t.bankA = s.bankA ∧ t.bankB = s.bankB ∧ t.pos = s.pos ∧ t.pouts = s.pouts ∧ t.cmps = s.cmps ∧ t.temps = s.temps ∧ t.store = s.store ∧ t.clk = s.clk ∧ t.pwr = s.pwr ∧ t.proto.sess = s.proto.sess ∧ t.proto.ctx = s.proto.ctx ∧ t.proto.left = s.proto.left ∧ t.net.can = s.net.can ∧ t.net.eth = s.net.eth ∧ t.net.canTx = s.net.canTx ∧ t.net.egress = s.net.egress ∧ t.net.rest = s.net.rest ∧ t.bridges = s.bridges ∧ t.machs = s.machs ∧ t.chans = s.chans ∧ t.safety = s.safety ∧ t.recd = s.recd ∧ t.out = s.out

/-- Same but for: store, sess, ctx, machs. -/
@[simp] abbrev Same69 (s t : State) : Prop :=
  t.pins = s.pins ∧ t.dev = s.dev ∧ t.time.dev = s.time.dev ∧ t.time.rtc = s.time.rtc ∧ t.bankA = s.bankA ∧ t.bankB = s.bankB ∧ t.pos = s.pos ∧ t.pouts = s.pouts ∧ t.cmps = s.cmps ∧ t.temps = s.temps ∧ t.clk = s.clk ∧ t.pwr = s.pwr ∧ t.proto.left = s.proto.left ∧ t.net.can = s.net.can ∧ t.net.eth = s.net.eth ∧ t.net.canTx = s.net.canTx ∧ t.net.egress = s.net.egress ∧ t.net.rest = s.net.rest ∧ t.bridges = s.bridges ∧ t.chans = s.chans ∧ t.lgs = s.lgs ∧ t.ctds = s.ctds ∧ t.safety = s.safety ∧ t.recd = s.recd ∧ t.out = s.out

/-- Same but for: ctx, left, cantx, egress, bridges, machs, out. -/
@[simp] abbrev Same70 (s t : State) : Prop :=
  t.pins = s.pins ∧ t.dev = s.dev ∧ t.time.dev = s.time.dev ∧ t.time.rtc = s.time.rtc ∧ t.bankA = s.bankA ∧ t.bankB = s.bankB ∧ t.pos = s.pos ∧ t.pouts = s.pouts ∧ t.cmps = s.cmps ∧ t.temps = s.temps ∧ t.store = s.store ∧ t.clk = s.clk ∧ t.pwr = s.pwr ∧ t.proto.sess = s.proto.sess ∧ t.net.can = s.net.can ∧ t.net.eth = s.net.eth ∧ t.net.rest = s.net.rest ∧ t.chans = s.chans ∧ t.lgs = s.lgs ∧ t.ctds = s.ctds ∧ t.safety = s.safety ∧ t.recd = s.recd

/-- Same but for: pos, pouts. -/
@[simp] abbrev Same71 (s t : State) : Prop :=
  t.pins = s.pins ∧ t.dev = s.dev ∧ t.time.dev = s.time.dev ∧ t.time.rtc = s.time.rtc ∧ t.bankA = s.bankA ∧ t.bankB = s.bankB ∧ t.cmps = s.cmps ∧ t.temps = s.temps ∧ t.store = s.store ∧ t.clk = s.clk ∧ t.pwr = s.pwr ∧ t.proto.sess = s.proto.sess ∧ t.proto.ctx = s.proto.ctx ∧ t.proto.left = s.proto.left ∧ t.net.can = s.net.can ∧ t.net.eth = s.net.eth ∧ t.net.canTx = s.net.canTx ∧ t.net.egress = s.net.egress ∧ t.net.rest = s.net.rest ∧ t.bridges = s.bridges ∧ t.machs = s.machs ∧ t.chans = s.chans ∧ t.lgs = s.lgs ∧ t.ctds = s.ctds ∧ t.safety = s.safety ∧ t.recd = s.recd ∧ t.out = s.out

/-- Same but for: pos, pouts, store, clk, sess, ctx, left, cantx, egress, bridges, machs, chans, lgs, ctds, safety, recd, out. -/
@[simp] abbrev Same72 (s t : State) : Prop :=
  t.pins = s.pins ∧ t.dev = s.dev ∧ t.time.dev = s.time.dev ∧ t.time.rtc = s.time.rtc ∧ t.bankA = s.bankA ∧ t.bankB = s.bankB ∧ t.cmps = s.cmps ∧ t.temps = s.temps ∧ t.pwr = s.pwr ∧ t.net.can = s.net.can ∧ t.net.eth = s.net.eth ∧ t.net.rest = s.net.rest

/-- Same but for: pouts, ctx, left, cantx, egress, bridges, machs, chans, lgs, ctds, safety, recd, out. -/
@[simp] abbrev Same73 (s t : State) : Prop :=
  t.pins = s.pins ∧ t.dev = s.dev ∧ t.time.dev = s.time.dev ∧ t.time.rtc = s.time.rtc ∧ t.bankA = s.bankA ∧ t.bankB = s.bankB ∧ t.pos = s.pos ∧ t.cmps = s.cmps ∧ t.temps = s.temps ∧ t.store = s.store ∧ t.clk = s.clk ∧ t.pwr = s.pwr ∧ t.proto.sess = s.proto.sess ∧ t.net.can = s.net.can ∧ t.net.eth = s.net.eth ∧ t.net.rest = s.net.rest

/-- Same but for: pouts, out. -/
@[simp] abbrev Same74 (s t : State) : Prop :=
  t.pins = s.pins ∧ t.dev = s.dev ∧ t.time.dev = s.time.dev ∧ t.time.rtc = s.time.rtc ∧ t.bankA = s.bankA ∧ t.bankB = s.bankB ∧ t.pos = s.pos ∧ t.cmps = s.cmps ∧ t.temps = s.temps ∧ t.store = s.store ∧ t.clk = s.clk ∧ t.pwr = s.pwr ∧ t.proto.sess = s.proto.sess ∧ t.proto.ctx = s.proto.ctx ∧ t.proto.left = s.proto.left ∧ t.net.can = s.net.can ∧ t.net.eth = s.net.eth ∧ t.net.canTx = s.net.canTx ∧ t.net.egress = s.net.egress ∧ t.net.rest = s.net.rest ∧ t.bridges = s.bridges ∧ t.machs = s.machs ∧ t.chans = s.chans ∧ t.lgs = s.lgs ∧ t.ctds = s.ctds ∧ t.safety = s.safety ∧ t.recd = s.recd

/-- Same but for: pos, machs. -/
@[simp] abbrev Same75 (s t : State) : Prop :=
  t.pins = s.pins ∧ t.dev = s.dev ∧ t.time.dev = s.time.dev ∧ t.time.rtc = s.time.rtc ∧ t.bankA = s.bankA ∧ t.bankB = s.bankB ∧ t.pouts = s.pouts ∧ t.cmps = s.cmps ∧ t.temps = s.temps ∧ t.store = s.store ∧ t.clk = s.clk ∧ t.pwr = s.pwr ∧ t.proto.sess = s.proto.sess ∧ t.proto.ctx = s.proto.ctx ∧ t.proto.left = s.proto.left ∧ t.net.can = s.net.can ∧ t.net.eth = s.net.eth ∧ t.net.canTx = s.net.canTx ∧ t.net.egress = s.net.egress ∧ t.net.rest = s.net.rest ∧ t.bridges = s.bridges ∧ t.chans = s.chans ∧ t.lgs = s.lgs ∧ t.ctds = s.ctds ∧ t.safety = s.safety ∧ t.recd = s.recd ∧ t.out = s.out

/-- Same but for: dev, ctx, left, cantx, egress, out. -/
@[simp] abbrev Same76 (s t : State) : Prop :=
  t.pins = s.pins ∧ t.time.dev = s.time.dev ∧ t.time.rtc = s.time.rtc ∧ t.bankA = s.bankA ∧ t.bankB = s.bankB ∧ t.pos = s.pos ∧ t.pouts = s.pouts ∧ t.cmps = s.cmps ∧ t.temps = s.temps ∧ t.store = s.store ∧ t.clk = s.clk ∧ t.pwr = s.pwr ∧ t.proto.sess = s.proto.sess ∧ t.net.can = s.net.can ∧ t.net.eth = s.net.eth ∧ t.net.rest = s.net.rest ∧ t.bridges = s.bridges ∧ t.machs = s.machs ∧ t.chans = s.chans ∧ t.lgs = s.lgs ∧ t.ctds = s.ctds ∧ t.safety = s.safety ∧ t.recd = s.recd

/-- Same but for: pwr, recd. -/
@[simp] abbrev Same77 (s t : State) : Prop :=
  t.pins = s.pins ∧ t.dev = s.dev ∧ t.time.dev = s.time.dev ∧ t.time.rtc = s.time.rtc ∧ t.bankA = s.bankA ∧ t.bankB = s.bankB ∧ t.pos = s.pos ∧ t.pouts = s.pouts ∧ t.cmps = s.cmps ∧ t.temps = s.temps ∧ t.store = s.store ∧ t.clk = s.clk ∧ t.proto.sess = s.proto.sess ∧ t.proto.ctx = s.proto.ctx ∧ t.proto.left = s.proto.left ∧ t.net.can = s.net.can ∧ t.net.eth = s.net.eth ∧ t.net.canTx = s.net.canTx ∧ t.net.egress = s.net.egress ∧ t.net.rest = s.net.rest ∧ t.bridges = s.bridges ∧ t.machs = s.machs ∧ t.chans = s.chans ∧ t.lgs = s.lgs ∧ t.ctds = s.ctds ∧ t.safety = s.safety ∧ t.out = s.out

/-- Same but for: pwr, ctx, left, cantx, egress, out. -/
@[simp] abbrev Same78 (s t : State) : Prop :=
  t.pins = s.pins ∧ t.dev = s.dev ∧ t.time.dev = s.time.dev ∧ t.time.rtc = s.time.rtc ∧ t.bankA = s.bankA ∧ t.bankB = s.bankB ∧ t.pos = s.pos ∧ t.pouts = s.pouts ∧ t.cmps = s.cmps ∧ t.temps = s.temps ∧ t.store = s.store ∧ t.clk = s.clk ∧ t.proto.sess = s.proto.sess ∧ t.net.can = s.net.can ∧ t.net.eth = s.net.eth ∧ t.net.rest = s.net.rest ∧ t.bridges = s.bridges ∧ t.machs = s.machs ∧ t.chans = s.chans ∧ t.lgs = s.lgs ∧ t.ctds = s.ctds ∧ t.safety = s.safety ∧ t.recd = s.recd

/-- Same but for: ctx, left, cantx, egress, bridges, machs, chans, lgs, out. -/
@[simp] abbrev Same79 (s t : State) : Prop :=
  t.pins = s.pins ∧ t.dev = s.dev ∧ t.time.dev = s.time.dev ∧ t.time.rtc = s.time.rtc ∧ t.bankA = s.bankA ∧ t.bankB = s.bankB ∧ t.pos = s.pos ∧ t.pouts = s.pouts ∧ t.cmps = s.cmps ∧ t.temps = s.temps ∧ t.store = s.store ∧ t.clk = s.clk ∧ t.pwr = s.pwr ∧ t.proto.sess = s.proto.sess ∧ t.net.can = s.net.can ∧ t.net.eth = s.net.eth ∧ t.net.rest = s.net.rest ∧ t.ctds = s.ctds ∧ t.safety = s.safety ∧ t.recd = s.recd

/-- Same but for: pins, temps, ctx, left, cantx, egress, bridges, machs, chans, lgs, ctds, safety, recd, out. -/
@[simp] abbrev Same80 (s t : State) : Prop :=
  t.dev = s.dev ∧ t.time.dev = s.time.dev ∧ t.time.rtc = s.time.rtc ∧ t.bankA = s.bankA ∧ t.bankB = s.bankB ∧ t.pos = s.pos ∧ t.pouts = s.pouts ∧ t.cmps = s.cmps ∧ t.store = s.store ∧ t.clk = s.clk ∧ t.pwr = s.pwr ∧ t.proto.sess = s.proto.sess ∧ t.net.can = s.net.can ∧ t.net.eth = s.net.eth ∧ t.net.rest = s.net.rest

/-- Same but for: dev, bankA, bankB, pos, pouts, store, pwr, sess, ctx, left, can, eth, cantx, egress, nother, bridges, machs, chans, lgs, ctds, safety, recd. -/
@[simp] abbrev Same81 (s t : State) : Prop :=
  t.pins = s.pins ∧ t.time.dev = s.time.dev ∧ t.time.rtc = s.time.rtc ∧ t.cmps = s.cmps ∧ t.temps = s.temps ∧ t.clk = s.clk ∧ t.out = s.out

/-- Same but for: pwr, machs. -/
@[simp] abbrev Same82 (s t : State) : Prop :=
  t.pins = s.pins ∧ t.dev = s.dev ∧ t.time.dev = s.time.dev ∧ t.time.rtc = s.time.rtc ∧ t.bankA = s.bankA ∧ t.bankB = s.bankB ∧ t.pos = s.pos ∧ t.pouts = s.pouts ∧ t.cmps = s.cmps ∧ t.temps = s.temps ∧ t.store = s.store ∧ t.clk = s.clk ∧ t.proto.sess = s.proto.sess ∧ t.proto.ctx = s.proto.ctx ∧ t.proto.left = s.proto.left ∧ t.net.can = s.net.can ∧ t.net.eth = s.net.eth ∧ t.net.canTx = s.net.canTx ∧ t.net.egress = s.net.egress ∧ t.net.rest = s.net.rest ∧ t.bridges = s.bridges ∧ t.chans = s.chans ∧ t.lgs = s.lgs ∧ t.ctds = s.ctds ∧ t.safety = s.safety ∧ t.recd = s.recd ∧ t.out = s.out

/-- Same but for: dev, pwr, bridges, chans, lgs, ctds, safety, recd. -/
@[simp] abbrev Same83 (s t : State) : Prop :=
  t.pins = s.pins ∧ t.time.dev = s.time.dev ∧ t.time.rtc = s.time.rtc ∧ t.bankA = s.bankA ∧ t.bankB = s.bankB ∧ t.pos = s.pos ∧ t.pouts = s.pouts ∧ t.cmps = s.cmps ∧ t.temps = s.temps ∧ t.store = s.store ∧ t.clk = s.clk ∧ t.proto.sess = s.proto.sess ∧ t.proto.ctx = s.proto.ctx ∧ t.proto.left = s.proto.left ∧ t.net.can = s.net.can ∧ t.net.eth = s.net.eth ∧ t.net.canTx = s.net.canTx ∧ t.net.egress = s.net.egress ∧ t.net.rest = s.net.rest ∧ t.machs = s.machs ∧ t.out = s.out

/-- Same but for: bridges, recd. -/
@[simp] abbrev Same84 (s t : State) : Prop :=
  t.pins = s.pins ∧ t.dev = s.dev ∧ t.time.dev = s.time.dev ∧ t.time.rtc = s.time.rtc ∧ t.bankA = s.bankA ∧ t.bankB = s.bankB ∧ t.pos = s.pos ∧ t.pouts = s.pouts ∧ t.cmps = s.cmps ∧ t.temps = s.temps ∧ t.store = s.store ∧ t.clk = s.clk ∧ t.pwr = s.pwr ∧ t.proto.sess = s.proto.sess ∧ t.proto.ctx = s.proto.ctx ∧ t.proto.left = s.proto.left ∧ t.net.can = s.net.can ∧ t.net.eth = s.net.eth ∧ t.net.canTx = s.net.canTx ∧ t.net.egress = s.net.egress ∧ t.net.rest = s.net.rest ∧ t.machs = s.machs ∧ t.chans = s.chans ∧ t.lgs = s.lgs ∧ t.ctds = s.ctds ∧ t.safety = s.safety ∧ t.out = s.out

/-- Same but for: store, clk, sess, ctx, left, eth, cantx, egress, bridges, machs, chans, lgs, ctds, safety, recd, out. -/
@[simp] abbrev Same85 (s t : State) : Prop :=
  t.pins = s.pins ∧ t.dev = s.dev ∧ t.time.dev = s.time.dev ∧ t.time.rtc = s.time.rtc ∧ t.bankA = s.bankA ∧ t.bankB = s.bankB ∧ t.pos = s.pos ∧ t.pouts = s.pouts ∧ t.cmps = s.cmps ∧ t.temps = s.temps ∧ t.pwr = s.pwr ∧ t.net.can = s.net.can ∧ t.net.rest = s.net.rest

/-- Same but for: store, clk, sess, ctx, left, eth, cantx, egress, nother, bridges, machs, chans, lgs, ctds, safety, recd, out. -/
@[simp] abbrev Same86 (s t : State) : Prop :=
  t.pins = s.pins ∧ t.dev = s.dev ∧ t.time.dev = s.time.dev ∧ t.time.rtc = s.time.rtc ∧ t.bankA = s.bankA ∧ t.bankB = s.bankB ∧ t.pos = s.pos ∧ t.pouts = s.pouts ∧ t.cmps = s.cmps ∧ t.temps = s.temps ∧ t.pwr = s.pwr ∧ t.net.can = s.net.can

/-- Same but for: can, cantx, out. -/
@[simp] abbrev Same87 (s t : State) : Prop :=
  t.pins = s.pins ∧ t.dev = s.dev ∧ t.time.dev = s.time.dev ∧ t.time.rtc = s.time.rtc ∧ t.bankA = s.bankA ∧ t.bankB = s.bankB ∧ t.pos = s.pos ∧ t.pouts = s.pouts ∧ t.cmps = s.cmps ∧ t.temps = s.temps ∧ t.store = s.store ∧ t.clk = s.clk ∧ t.pwr = s.pwr ∧ t.proto.sess = s.proto.sess ∧ t.proto.ctx = s.proto.ctx ∧ t.proto.left = s.proto.left ∧ t.net.eth = s.net.eth ∧ t.net.egress = s.net.egress ∧ t.net.rest = s.net.rest ∧ t.bridges = s.bridges ∧ t.machs = s.machs ∧ t.chans = s.chans ∧ t.lgs = s.lgs ∧ t.ctds = s.ctds ∧ t.safety = s.safety ∧ t.recd = s.recd

/-- Same but for: dev, rtc, store, pwr, sess, ctx, left, can, eth, cantx, egress, nother, bridges, machs, chans, safety. -/
@[simp] abbrev Same88 (s t : State) : Prop :=
  t.pins = s.pins ∧ t.time.dev = s.time.dev ∧ t.bankA = s.bankA ∧ t.bankB = s.bankB ∧ t.pos = s.pos ∧ t.pouts = s.pouts ∧ t.cmps = s.cmps ∧ t.temps = s.temps ∧ t.clk = s.clk ∧ t.lgs = s.lgs ∧ t.ctds = s.ctds ∧ t.recd = s.recd ∧ t.out = s.out

@[simp] theorem foldl_same_pins {α : Type} (l : List α) (f : State → α → State) (h : ∀ i s, (f s i).pins = s.pins) (s : State) :
    (l.foldl f s).pins = s.pins := foldl_proj (·.pins) l f h s
@[simp] theorem forEach_same_pins (l : List Nat) (f : Nat → State → State) (h : ∀ i s, (f i s).pins = s.pins) (s : State) :
    (forEach l f s).pins = s.pins := foldl_same_pins l _ h s
@[simp] theorem ite_same_pins (c : Prop) [Decidable c] (a b : State) :
    (if c then a else b).pins = if c then a.pins else b.pins := by split <;> rfl
@[simp] theorem foldl_same_dev {α : Type} (l : List α) (f : State → α → State) (h : ∀ i s, (f s i).dev = s.dev) (s : State) :
    (l.foldl f s).dev = s.dev := foldl_proj (·.dev) l f h s
@[simp] theorem forEach_same_dev (l : List Nat) (f : Nat → State → State) (h : ∀ i s, (f i s).dev = s.dev) (s : State) :
    (forEach l f s).dev = s.dev := foldl_same_dev l _ h s
@[simp] theorem ite_same_dev (c : Prop) [Decidable c] (a b : State) :
    (if c then a else b).dev = if c then a.dev else b.dev := by split <;> rfl
@[simp] theorem foldl_same_tdev {α : Type} (l : List α) (f : State → α → State) (h : ∀ i s, (f s i).time.dev = s.time.dev) (s : State) :
    (l.foldl f s).time.dev = s.time.dev := foldl_proj (·.time.dev) l f h s
@[simp] theorem forEach_same_tdev (l : List Nat) (f : Nat → State → State) (h : ∀ i s, (f i s).time.dev = s.time.dev) (s : State) :
    (forEach l f s).time.dev = s.time.dev := foldl_same_tdev l _ h s
@[simp] theorem ite_same_tdev (c : Prop) [Decidable c] (a b : State) :
    (if c then a else b).time.dev = if c then a.time.dev else b.time.dev := by split <;> rfl
@[simp] theorem foldl_same_rtc {α : Type} (l : List α) (f : State → α → State) (h : ∀ i s, (f s i).time.rtc = s.time.rtc) (s : State) :
    (l.foldl f s).time.rtc = s.time.rtc := foldl_proj (·.time.rtc) l f h s
@[simp] theorem forEach_same_rtc (l : List Nat) (f : Nat → State → State) (h : ∀ i s, (f i s).time.rtc = s.time.rtc) (s : State) :
    (forEach l f s).time.rtc = s.time.rtc := foldl_same_rtc l _ h s
@[simp] theorem ite_same_rtc (c : Prop) [Decidable c] (a b : State) :
    (if c then a else b).time.rtc = if c then a.time.rtc else b.time.rtc := by split <;> rfl
@[simp] theorem foldl_same_bankA {α : Type} (l : List α) (f : State → α → State) (h : ∀ i s, (f s i).bankA = s.bankA) (s : State) :
    (l.foldl f s).bankA = s.bankA := foldl_proj (·.bankA) l f h s
@[simp] theorem forEach_same_bankA (l : List Nat) (f : Nat → State → State) (h : ∀ i s, (f i s).bankA = s.bankA) (s : State) :
    (forEach l f s).bankA = s.bankA := foldl_same_bankA l _ h s
@[simp] theorem ite_same_bankA (c : Prop) [Decidable c] (a b : State) :
    (if c then a else b).bankA = if c then a.bankA else b.bankA := by split <;> rfl
@[simp] theorem foldl_same_bankB {α : Type} (l : List α) (f : State → α → State) (h : ∀ i s, (f s i).bankB = s.bankB) (s : State) :
    (l.foldl f s).bankB = s.bankB := foldl_proj (·.bankB) l f h s
@[simp] theorem forEach_same_bankB (l : List Nat) (f : Nat → State → State) (h : ∀ i s, (f i s).bankB = s.bankB) (s : State) :
    (forEach l f s).bankB = s.bankB := foldl_same_bankB l _ h s
@[simp] theorem ite_same_bankB (c : Prop) [Decidable c] (a b : State) :
    (if c then a else b).bankB = if c then a.bankB else b.bankB := by split <;> rfl
@[simp] theorem foldl_same_pos {α : Type} (l : List α) (f : State → α → State) (h : ∀ i s, (f s i).pos = s.pos) (s : State) :
    (l.foldl f s).pos = s.pos := foldl_proj (·.pos) l f h s
@[simp] theorem forEach_same_pos (l : List Nat) (f : Nat → State → State) (h : ∀ i s, (f i s).pos = s.pos) (s : State) :
    (forEach l f s).pos = s.pos := foldl_same_pos l _ h s
@[simp] theorem ite_same_pos (c : Prop) [Decidable c] (a b : State) :
    (if c then a else b).pos = if c then a.pos else b.pos := by split <;> rfl
@[simp] theorem foldl_same_pouts {α : Type} (l : List α) (f : State → α → State) (h : ∀ i s, (f s i).pouts = s.pouts) (s : State) :
    (l.foldl f s).pouts = s.pouts := foldl_proj (·.pouts) l f h s
@[simp] theorem forEach_same_pouts (l : List Nat) (f : Nat → State → State) (h : ∀ i s, (f i s).pouts = s.pouts) (s : State) :
    (forEach l f s).pouts = s.pouts := foldl_same_pouts l _ h s
@[simp] theorem ite_same_pouts (c : Prop) [Decidable c] (a b : State) :
    (if c then a else b).pouts = if c then a.pouts else b.pouts := by split <;> rfl
@[simp] theorem foldl_same_cmps {α : Type} (l : List α) (f : State → α → State) (h : ∀ i s, (f s i).cmps = s.cmps) (s : State) :
    (l.foldl f s).cmps = s.cmps := foldl_proj (·.cmps) l f h s
@[simp] theorem forEach_same_cmps (l : List Nat) (f : Nat → State → State) (h : ∀ i s, (f i s).cmps = s.cmps) (s : State) :
    (forEach l f s).cmps = s.cmps := foldl_same_cmps l _ h s
@[simp] theorem ite_same_cmps (c : Prop) [Decidable c] (a b : State) :
    (if c then a else b).cmps = if c then a.cmps else b.cmps := by split <;> rfl
@[simp] theorem foldl_same_temps {α : Type} (l : List α) (f : State → α → State) (h : ∀ i s, (f s i).temps = s.temps) (s : State) :
    (l.foldl f s).temps = s.temps := foldl_proj (·.temps) l f h s
@[simp] theorem forEach_same_temps (l : List Nat) (f : Nat → State → State) (h : ∀ i s, (f i s).temps = s.temps) (s : State) :
    (forEach l f s).temps = s.temps := foldl_same_temps l _ h s
@[simp] theorem ite_same_temps (c : Prop) [Decidable c] (a b : State) :
    (if c then a else b).temps = if c then a.temps else b.temps := by split <;> rfl
@[simp] theorem foldl_same_store {α : Type} (l : List α) (f : State → α → State) (h : ∀ i s, (f s i).store = s.store) (s : State) :
    (l.foldl f s).store = s.store := foldl_proj (·.store) l f h s
@[simp] theorem forEach_same_store (l : List Nat) (f : Nat → State → State) (h : ∀ i s, (f i s).store = s.store) (s : State) :
    (forEach l f s).store = s.store := foldl_same_store l _ h s
@[simp] theorem ite_same_store (c : Prop) [Decidable c] (a b : State) :
    (if c then a else b).store = if c then a.store else b.store := by split <;> rfl
@[simp] theorem foldl_same_clk {α : Type} (l : List α) (f : State → α → State) (h : ∀ i s, (f s i).clk = s.clk) (s : State) :
    (l.foldl f s).clk = s.clk := foldl_proj (·.clk) l f h s
@[simp] theorem forEach_same_clk (l : List Nat) (f : Nat → State → State) (h : ∀ i s, (f i s).clk = s.clk) (s : State) :
    (forEach l f s).clk = s.clk := foldl_same_clk l _ h s
@[simp] theorem ite_same_clk (c : Prop) [Decidable c] (a b : State) :
    (if c then a else b).clk = if c then a.clk else b.clk := by split <;> rfl
@[simp] theorem foldl_same_pwr {α : Type} (l : List α) (f : State → α → State) (h : ∀ i s, (f s i).pwr = s.pwr) (s : State) :
    (l.foldl f s).pwr = s.pwr := foldl_proj (·.pwr) l f h s
@[simp] theorem forEach_same_pwr (l : List Nat) (f : Nat → State → State) (h : ∀ i s, (f i s).pwr = s.pwr) (s : State) :
    (forEach l f s).pwr = s.pwr := foldl_same_pwr l _ h s
@[simp] theorem ite_same_pwr (c : Prop) [Decidable c] (a b : State) :
    (if c then a else b).pwr = if c then a.pwr else b.pwr := by split <;> rfl
@[simp] theorem foldl_same_sess {α : Type} (l : List α) (f : State → α → State) (h : ∀ i s, (f s i).proto.sess = s.proto.sess) (s : State) :
    (l.foldl f s).proto.sess = s.proto.sess := foldl_proj (·.proto.sess) l f h s
@[simp] theorem forEach_same_sess (l : List Nat) (f : Nat → State → State) (h : ∀ i s, (f i s).proto.sess = s.proto.sess) (s : State) :
    (forEach l f s).proto.sess = s.proto.sess := foldl_same_sess l _ h s
@[simp] theorem ite_same_sess (c : Prop) [Decidable c] (a b : State) :
    (if c then a else b).proto.sess = if c then a.proto.sess else b.proto.sess := by split <;> rfl
@[simp] theorem foldl_same_ctx {α : Type} (l : List α) (f : State → α → State) (h : ∀ i s, (f s i).proto.ctx = s.proto.ctx) (s : State) :
    (l.foldl f s).proto.ctx = s.proto.ctx := foldl_proj (·.proto.ctx) l f h s
@[simp] theorem forEach_same_ctx (l : List Nat) (f : Nat → State → State) (h : ∀ i s, (f i s).proto.ctx = s.proto.ctx) (s : State) :
    (forEach l f s).proto.ctx = s.proto.ctx := foldl_same_ctx l _ h s
@[simp] theorem ite_same_ctx (c : Prop) [Decidable c] (a b : State) :
    (if c then a else b).proto.ctx = if c then a.proto.ctx else b.proto.ctx := by split <;> rfl
@[simp] theorem foldl_same_left {α : Type} (l : List α) (f : State → α → State) (h : ∀ i s, (f s i).proto.left = s.proto.left) (s : State) :
    (l.foldl f s).proto.left = s.proto.left := foldl_proj (·.proto.left) l f h s
@[simp] theorem forEach_same_left (l : List Nat) (f : Nat → State → State) (h : ∀ i s, (f i s).proto.left = s.proto.left) (s : State) :
    (forEach l f s).proto.left = s.proto.left := foldl_same_left l _ h s
@[simp] theorem ite_same_left (c : Prop) [Decidable c] (a b : State) :
    (if c then a else b).proto.left = if c then a.proto.left else b.proto.left := by split <;> rfl
@[simp] theorem foldl_same_can {α : Type} (l : List α) (f : State → α → State) (h : ∀ i s, (f s i).net.can = s.net.can) (s : State) :
    (l.foldl f s).net.can = s.net.can := foldl_proj (·.net.can) l f h s
@[simp] theorem forEach_same_can (l : List Nat) (f : Nat → State → State) (h : ∀ i s, (f i s).net.can = s.net.can) (s : State) :
    (forEach l f s).net.can = s.net.can := foldl_same_can l _ h s
@[simp] theorem ite_same_can (c : Prop) [Decidable c] (a b : State) :
    (if c then a else b).net.can = if c then a.net.can else b.net.can := by split <;> rfl
@[simp] theorem foldl_same_eth {α : Type} (l : List α) (f : State → α → State) (h : ∀ i s, (f s i).net.eth = s.net.eth) (s : State) :
    (l.foldl f s).net.eth = s.net.eth := foldl_proj (·.net.eth) l f h s
@[simp] theorem forEach_same_eth (l : List Nat) (f : Nat → State → State) (h : ∀ i s, (f i s).net.eth = s.net.eth) (s : State) :
    (forEach l f s).net.eth = s.net.eth := foldl_same_eth l _ h s
@[simp] theorem ite_same_eth (c : Prop) [Decidable c] (a b : State) :
    (if c then a else b).net.eth = if c then a.net.eth else b.net.eth := by split <;> rfl
@[simp] theorem foldl_same_cantx {α : Type} (l : List α) (f : State → α → State) (h : ∀ i s, (f s i).net.canTx = s.net.canTx) (s : State) :
    (l.foldl f s).net.canTx = s.net.canTx := foldl_proj (·.net.canTx) l f h s
@[simp] theorem forEach_same_cantx (l : List Nat) (f : Nat → State → State) (h : ∀ i s, (f i s).net.canTx = s.net.canTx) (s : State) :
    (forEach l f s).net.canTx = s.net.canTx := foldl_same_cantx l _ h s
@[simp] theorem ite_same_cantx (c : Prop) [Decidable c] (a b : State) :
    (if c then a else b).net.canTx = if c then a.net.canTx else b.net.canTx := by split <;> rfl
@[simp] theorem foldl_same_egress {α : Type} (l : List α) (f : State → α → State) (h : ∀ i s, (f s i).net.egress = s.net.egress) (s : State) :
    (l.foldl f s).net.egress = s.net.egress := foldl_proj (·.net.egress) l f h s
@[simp] theorem forEach_same_egress (l : List Nat) (f : Nat → State → State) (h : ∀ i s, (f i s).net.egress = s.net.egress) (s : State) :
    (forEach l f s).net.egress = s.net.egress := foldl_same_egress l _ h s
@[simp] theorem ite_same_egress (c : Prop) [Decidable c] (a b : State) :
    (if c then a else b).net.egress = if c then a.net.egress else b.net.egress := by split <;> rfl
@[simp] theorem foldl_same_nother {α : Type} (l : List α) (f : State → α → State) (h : ∀ i s, (f s i).net.rest = s.net.rest) (s : State) :
    (l.foldl f s).net.rest = s.net.rest := foldl_proj (·.net.rest) l f h s
@[simp] theorem forEach_same_nother (l : List Nat) (f : Nat → State → State) (h : ∀ i s, (f i s).net.rest = s.net.rest) (s : State) :
    (forEach l f s).net.rest = s.net.rest := foldl_same_nother l _ h s
@[simp] theorem ite_same_nother (c : Prop) [Decidable c] (a b : State) :
    (if c then a else b).net.rest = if c then a.net.rest else b.net.rest := by split <;> rfl
@[simp] theorem foldl_same_bridges {α : Type} (l : List α) (f : State → α → State) (h : ∀ i s, (f s i).bridges = s.bridges) (s : State) :
    (l.foldl f s).bridges = s.bridges := foldl_proj (·.bridges) l f h s
@[simp] theorem forEach_same_bridges (l : List Nat) (f : Nat → State → State) (h : ∀ i s, (f i s).bridges = s.bridges) (s : State) :
    (forEach l f s).bridges = s.bridges := foldl_same_bridges l _ h s
@[simp] theorem ite_same_bridges (c : Prop) [Decidable c] (a b : State) :
    (if c then a else b).bridges = if c then a.bridges else b.bridges := by split <;> rfl
@[simp] theorem foldl_same_machs {α : Type} (l : List α) (f : State → α → State) (h : ∀ i s, (f s i).machs = s.machs) (s : State) :
    (l.foldl f s).machs = s.machs := foldl_proj (·.machs) l f h s
@[simp] theorem forEach_same_machs (l : List Nat) (f : Nat → State → State) (h : ∀ i s, (f i s).machs = s.machs) (s : State) :
    (forEach l f s).machs = s.machs := foldl_same_machs l _ h s
@[simp] theorem ite_same_machs (c : Prop) [Decidable c] (a b : State) :
    (if c then a else b).machs = if c then a.machs else b.machs := by split <;> rfl
@[simp] theorem foldl_same_chans {α : Type} (l : List α) (f : State → α → State) (h : ∀ i s, (f s i).chans = s.chans) (s : State) :
    (l.foldl f s).chans = s.chans := foldl_proj (·.chans) l f h s
@[simp] theorem forEach_same_chans (l : List Nat) (f : Nat → State → State) (h : ∀ i s, (f i s).chans = s.chans) (s : State) :
    (forEach l f s).chans = s.chans := foldl_same_chans l _ h s
@[simp] theorem ite_same_chans (c : Prop) [Decidable c] (a b : State) :
    (if c then a else b).chans = if c then a.chans else b.chans := by split <;> rfl
@[simp] theorem foldl_same_lgs {α : Type} (l : List α) (f : State → α → State) (h : ∀ i s, (f s i).lgs = s.lgs) (s : State) :
    (l.foldl f s).lgs = s.lgs := foldl_proj (·.lgs) l f h s
@[simp] theorem forEach_same_lgs (l : List Nat) (f : Nat → State → State) (h : ∀ i s, (f i s).lgs = s.lgs) (s : State) :
    (forEach l f s).lgs = s.lgs := foldl_same_lgs l _ h s
@[simp] theorem ite_same_lgs (c : Prop) [Decidable c] (a b : State) :
    (if c then a else b).lgs = if c then a.lgs else b.lgs := by split <;> rfl
@[simp] theorem foldl_same_ctds {α : Type} (l : List α) (f : State → α → State) (h : ∀ i s, (f s i).ctds = s.ctds) (s : State) :
    (l.foldl f s).ctds = s.ctds := foldl_proj (·.ctds) l f h s
@[simp] theorem forEach_same_ctds (l : List Nat) (f : Nat → State → State) (h : ∀ i s, (f i s).ctds = s.ctds) (s : State) :
    (forEach l f s).ctds = s.ctds := foldl_same_ctds l _ h s
@[simp] theorem ite_same_ctds (c : Prop) [Decidable c] (a b : State) :
    (if c then a else b).ctds = if c then a.ctds else b.ctds := by split <;> rfl
@[simp] theorem foldl_same_safety {α : Type} (l : List α) (f : State → α → State) (h : ∀ i s, (f s i).safety = s.safety) (s : State) :
    (l.foldl f s).safety = s.safety := foldl_proj (·.safety) l f h s
@[simp] theorem forEach_same_safety (l : List Nat) (f : Nat → State → State) (h : ∀ i s, (f i s).safety = s.safety) (s : State) :
    (forEach l f s).safety = s.safety := foldl_same_safety l _ h s
@[simp] theorem ite_same_safety (c : Prop) [Decidable c] (a b : State) :
    (if c then a else b).safety = if c then a.safety else b.safety := by split <;> rfl
@[simp] theorem foldl_same_recd {α : Type} (l : List α) (f : State → α → State) (h : ∀ i s, (f s i).recd = s.recd) (s : State) :
    (l.foldl f s).recd = s.recd := foldl_proj (·.recd) l f h s
@[simp] theorem forEach_same_recd (l : List Nat) (f : Nat → State → State) (h : ∀ i s, (f i s).recd = s.recd) (s : State) :
    (forEach l f s).recd = s.recd := foldl_same_recd l _ h s
@[simp] theorem ite_same_recd (c : Prop) [Decidable c] (a b : State) :
    (if c then a else b).recd = if c then a.recd else b.recd := by split <;> rfl
@[simp] theorem foldl_same_out {α : Type} (l : List α) (f : State → α → State) (h : ∀ i s, (f s i).out = s.out) (s : State) :
    (l.foldl f s).out = s.out := foldl_proj (·.out) l f h s
@[simp] theorem forEach_same_out (l : List Nat) (f : Nat → State → State) (h : ∀ i s, (f i s).out = s.out) (s : State) :
    (forEach l f s).out = s.out := foldl_same_out l _ h s
@[simp] theorem ite_same_out (c : Prop) [Decidable c] (a b : State) :
    (if c then a else b).out = if c then a.out else b.out := by split <;> rfl
theorem modBridge_same (b : Nat) (f : Bridge → Bridge) (s : State) : Same5 s (modBridge b f s) := by
  unfold modBridge
  try dsimp only
  repeat' split
  all_goals simp
theorem modMach_same (m : Nat) (f : Mach → Mach) (s : State) : Same3 s (modMach m f s) := by
  unfold modMach
  try dsimp only
  repeat' split
  all_goals simp
theorem modChan_same (c : Nat) (f : Chan → Chan) (s : State) : Same11 s (modChan c f s) := by
  unfold modChan
  try dsimp only
  repeat' split
  all_goals simp
theorem modLg_same (g : Nat) (f : LinkGroup → LinkGroup) (s : State) : Same41 s (modLg g f s) := by
  unfold modLg
  try dsimp only
  repeat' split
  all_goals simp
theorem modCtd_same (n : Nat) (f : Contactor → Contactor) (s : State) : Same53 s (modCtd n f s) := by
  unfold modCtd
  try dsimp only
  repeat' split
  all_goals simp
theorem modPos_same (p : Nat) (f : PosIf → PosIf) (s : State) : Same21 s (modPos p f s) := by
  unfold modPos
  try dsimp only
  repeat' split
  all_goals simp
theorem modPout_same (k : Nat) (f : Pout → Pout) (s : State) : Same54 s (modPout k f s) := by
  unfold modPout
  try dsimp only
  repeat' split
  all_goals simp
theorem modCmp_same (u : Nat) (f : CmpUnit → CmpUnit) (s : State) : Same42 s (modCmp u f s) := by
  unfold modCmp
  try dsimp only
  repeat' split
  all_goals simp
theorem modTemp_same (i : Nat) (f : Sensor → Sensor) (s : State) : Same33 s (modTemp i f s) := by
  unfold modTemp
  try dsimp only
  repeat' split
  all_goals simp
theorem modDom_same (n : Nat) (f : Dom → Dom) (s : State) : Same15 s (modDom n f s) := by
  unfold modDom
  try dsimp only
  repeat' split
  all_goals simp
theorem modCan_same (n : Nat) (f : CanCtl → CanCtl) (s : State) : Same36 s (modCan n f s) := by
  unfold modCan
  try dsimp only
  repeat' split
  all_goals simp
theorem modCtx_same (t : Nat) (f : Ctx → Ctx) (s : State) : (modCtx t f s).pins = s.pins ∧ (modCtx t f s).dev = s.dev ∧ (modCtx t f s).time.dev = s.time.dev ∧ (modCtx t f s).time.rtc = s.time.rtc ∧ (modCtx t f s).bankA = s.bankA ∧ (modCtx t f s).bankB = s.bankB ∧ (modCtx t f s).pos = s.pos ∧ (modCtx t f s).pouts = s.pouts ∧ (modCtx t f s).cmps = s.cmps ∧ (modCtx t f s).temps = s.temps ∧ (modCtx t f s).store = s.store ∧ (modCtx t f s).clk = s.clk ∧ (modCtx t f s).pwr = s.pwr ∧ (modCtx t f s).proto.sess = s.proto.sess ∧ (modCtx t f s).net.can = s.net.can ∧ (modCtx t f s).net.eth = s.net.eth ∧ (modCtx t f s).net.canTx = s.net.canTx ∧ (modCtx t f s).net.egress = s.net.egress ∧ (modCtx t f s).net.rest = s.net.rest ∧ (modCtx t f s).bridges = s.bridges ∧ (modCtx t f s).machs = s.machs ∧ (modCtx t f s).chans = s.chans ∧ (modCtx t f s).lgs = s.lgs ∧ (modCtx t f s).ctds = s.ctds ∧ (modCtx t f s).safety = s.safety ∧ (modCtx t f s).recd = s.recd ∧ (modCtx t f s).out = s.out := by
  unfold modCtx
  try dsimp only
  repeat' split
  all_goals simp
theorem modSlots_same (c : ImgClass) (f : ClassSlots → ClassSlots) (s : State) : Same12 s (modSlots c f s) := by
  unfold modSlots
  try dsimp only
  repeat' split
  all_goals simp
theorem modSess_same (i : Nat) (f : Session → Session) (s : State) : Same37 s (modSess i f s) := by
  unfold modSess
  try dsimp only
  repeat' split
  all_goals simp
theorem drawFree_same (s : State) : Same22 s (drawFree s).2 := by
  unfold drawFree
  try dsimp only
  repeat' split
  all_goals simp
theorem drawMany_same (n : Nat) (s : State) : Same22 s (drawMany n s).2 := by
  unfold drawMany
  try dsimp only
  repeat' split
  all_goals simp
theorem emit_same (o : Output) (s : State) : Same13 s (emit o s) := by
  unfold emit
  try dsimp only
  repeat' split
  all_goals simp
theorem allocEsn_same (s : State) : Same22 s (allocEsn s).2 := by
  unfold allocEsn
  try dsimp only
  repeat' split
  all_goals simp
theorem flushBuffer_same (s : State) : Same4 s (flushBuffer s) := by
  unfold flushBuffer
  try dsimp only
  repeat' split
  all_goals simp
theorem pushEvent_same (e : Entry) (s : State) : Same4 s (pushEvent e s) := by
  unfold pushEvent
  try dsimp only
  repeat' split
  all_goals simp [id flushBuffer_same]
theorem pushSample_same (e : Entry) (s : State) : Same4 s (pushSample e s) := by
  unfold pushSample
  try dsimp only
  repeat' split
  all_goals simp
theorem noteEvent_same (level : Nat) (e : Esn) (s : State) : Same4 s (noteEvent level e s) := by
  unfold noteEvent
  try dsimp only
  repeat' split
  all_goals simp
theorem recordAt_same (time code level kind : Nat) (src : U16) (count : Nat) (data : List Byte) (s : State) : Same4 s (recordAt time code level kind src count data s).2 := by
  unfold recordAt
  try dsimp only
  repeat' split
  all_goals simp [id allocEsn_same, id noteEvent_same, id pushEvent_same]
theorem recordEvent_same (code level : Nat) (src : U16) (data : List Byte) (s : State) : Same4 s (recordEvent code level src data s).2 := by
  unfold recordEvent
  try dsimp only
  repeat' split
  all_goals simp [id recordAt_same]
theorem noteService_same (reason : Byte) (s : State) : Same4 s (noteService reason s) := by
  unfold noteService
  try dsimp only
  repeat' split
  all_goals simp [id recordAt_same]
theorem recordLimited_same (code level kind : Nat) (src : U16) (until_ : Nat) (data : List Byte) (s : State) : Same4 s (recordLimited code level kind src until_ data s).2 := by
  unfold recordLimited
  try dsimp only
  repeat' split
  all_goals simp [id allocEsn_same, id recordAt_same]
theorem markFreeze_same (bit : Nat) (s : State) : Same4 s (markFreeze bit s) := by
  unfold markFreeze
  try dsimp only
  repeat' split
  all_goals simp
theorem newFrame_same (typ dst : Byte) (payload : List Byte) (s : State) : Same22 s (newFrame typ dst payload s).2 := by
  unfold newFrame
  try dsimp only
  repeat' split
  all_goals simp
theorem putRing_same (f : RingFrame) (p : RingPort) (s : State) : Same13 s (putRing f p s) := by
  unfold putRing
  try dsimp only
  repeat' split
  all_goals simp [id emit_same]
theorem broadcastRing_same (typ : Byte) (payload : List Byte) (s : State) : Same13 s (broadcastRing typ payload s) := by
  unfold broadcastRing
  try dsimp only
  repeat' split
  all_goals simp [id newFrame_same, id putRing_same]
theorem sendRing_same (d : Nat) (typ : Byte) (payload : List Byte) (s : State) : Same13 s (sendRing d typ payload s).2 := by
  unfold sendRing
  try dsimp only
  repeat' split
  all_goals simp [id newFrame_same, id putRing_same]
theorem trendAdd_same (k : Nat) (v : Int) (s : State) : Same4 s (trendAdd k v s) := by
  unfold trendAdd
  try dsimp only
  repeat' split
  all_goals simp
theorem newTrend_same (s : State) : Same4 s (newTrend s) := by
  unfold newTrend
  try dsimp only
  repeat' split
  all_goals simp
theorem queueCan_same (n d : Nat) (p : List Byte) (s : State) : Same55 s (queueCan n d p s) := by
  unfold queueCan
  try dsimp only
  repeat' split
  all_goals simp
theorem dropCan_same (n : Nat) (s : State) : Same55 s (dropCan n s) := by
  unfold dropCan
  try dsimp only
  repeat' split
  all_goals simp
theorem handCan_same (port : Port) (d : Nat) (p : List Byte) (s : State) : Same55 s (handCan port d p s) := by
  unfold handCan
  try dsimp only
  repeat' split
  all_goals simp [id queueCan_same]
theorem sendEth_same (port : Port) (dest packet : List Byte) (s : State) : (sendEth port dest packet s).pins = s.pins ∧ (sendEth port dest packet s).dev = s.dev ∧ (sendEth port dest packet s).time.dev = s.time.dev ∧ (sendEth port dest packet s).time.rtc = s.time.rtc ∧ (sendEth port dest packet s).bankA = s.bankA ∧ (sendEth port dest packet s).bankB = s.bankB ∧ (sendEth port dest packet s).pos = s.pos ∧ (sendEth port dest packet s).pouts = s.pouts ∧ (sendEth port dest packet s).cmps = s.cmps ∧ (sendEth port dest packet s).temps = s.temps ∧ (sendEth port dest packet s).store = s.store ∧ (sendEth port dest packet s).clk = s.clk ∧ (sendEth port dest packet s).pwr = s.pwr ∧ (sendEth port dest packet s).proto.sess = s.proto.sess ∧ (sendEth port dest packet s).proto.ctx = s.proto.ctx ∧ (sendEth port dest packet s).proto.left = s.proto.left ∧ (sendEth port dest packet s).net.can = s.net.can ∧ (sendEth port dest packet s).net.eth = s.net.eth ∧ (sendEth port dest packet s).net.canTx = s.net.canTx ∧ (sendEth port dest packet s).net.rest = s.net.rest ∧ (sendEth port dest packet s).bridges = s.bridges ∧ (sendEth port dest packet s).machs = s.machs ∧ (sendEth port dest packet s).chans = s.chans ∧ (sendEth port dest packet s).lgs = s.lgs ∧ (sendEth port dest packet s).ctds = s.ctds ∧ (sendEth port dest packet s).safety = s.safety ∧ (sendEth port dest packet s).recd = s.recd := by
  unfold sendEth
  try dsimp only
  repeat' split
  all_goals simp [id emit_same]
theorem deliver_same (r : Reply) (s : State) : Same56 s (deliver r s) := by
  unfold deliver
  try dsimp only
  repeat' split
  all_goals simp [id emit_same, id handCan_same, id sendEth_same, id sendRing_same]
theorem sendReply_same (origin : List Byte) (h : Hdr) (opcode : U16) (more : Bool) (status : U16) (data : List Byte) (s : State) : Same56 s (sendReply origin h opcode more status data s).2 := by
  unfold sendReply
  try dsimp only
  repeat' split
  all_goals simp [id allocEsn_same, id deliver_same]
theorem finish_same (t : Nat) (status : U16) (data : List Byte) (s : State) : Same6 s (finish t status data s) := by
  unfold finish
  try dsimp only
  repeat' split
  all_goals simp [id modCtx_same, id sendReply_same]
theorem refuse_same (t : Nat) (status : U16) (reason index : Byte) (param : U16) (s : State) : Same6 s (refuse t status reason index param s) := by
  unfold refuse
  try dsimp only
  repeat' split
  all_goals simp [id finish_same]
theorem accept_same (t deadlineMs : Nat) (s : State) : Same6 s (accept t deadlineMs s) := by
  unfold accept
  try dsimp only
  repeat' split
  all_goals simp [id modCtx_same, id sendReply_same]
theorem finishOpt_same (t : Option Nat) (status : U16) (data : List Byte) (s : State) : Same6 s (finishOpt t status data s) := by
  unfold finishOpt
  try dsimp only
  repeat' split
  all_goals simp [id finish_same]
theorem onCmd_same (c : Nat) (s : State) : Same11 s (onCmd c s) := by
  unfold onCmd
  try dsimp only
  repeat' split
  all_goals simp [id modChan_same]
theorem offCmd_same (c t : Nat) (s : State) : Same11 s (offCmd c t s) := by
  unfold offCmd
  try dsimp only
  repeat' split
  all_goals simp [id modChan_same]
theorem driveSide_same (keep want high : Bool) (l : Nat) (s : State) : Same14 s (driveSide keep want high l s) := by
  unfold driveSide
  try dsimp only
  repeat' split
  all_goals simp [id modBridge_same, id offCmd_same]
theorem driveLeg_same (keep : Bool) (mode : SafeMode) (l : Nat) (s : State) : Same14 s (driveLeg keep mode l s) := by
  unfold driveLeg
  try dsimp only
  repeat' split
  all_goals simp [id driveSide_same]
theorem clearRequests_same (b : Nat) (s : State) : Same5 s (clearRequests b s) := by
  unfold clearRequests
  try dsimp only
  repeat' split
  all_goals simp [id modBridge_same]
theorem switchesOff_same (b : Nat) (s : State) : Same14 s (switchesOff b s) := by
  unfold switchesOff
  try dsimp only
  repeat' split
  all_goals simp [id clearRequests_same, id driveLeg_same]
theorem reselect_same (b : Nat) (s : State) : Same14 s (reselect b s) := by
  unfold reselect
  try dsimp only
  repeat' split
  all_goals simp [id clearRequests_same, id driveLeg_same, id modBridge_same]
theorem machineLeaves_same (m : Nat) (s : State) : Same3 s (machineLeaves m s) := by
  unfold machineLeaves
  try dsimp only
  repeat' split
  all_goals simp [id modMach_same]
theorem endMachineTag_same (m : Nat) (reason : Byte) (s : State) : Same10 s (endMachineTag m reason s) := by
  unfold endMachineTag
  try dsimp only
  repeat' split
  all_goals simp [id modMach_same, id refuse_same]
theorem holdRequests_same (causes : List (Nat × Nat)) (b : Nat) (s : State) : Same5 s (holdRequests causes b s) := by
  unfold holdRequests
  try dsimp only
  repeat' split
  all_goals simp [id modBridge_same]
theorem stopPulses_same (b : Nat) (s : State) : Same14 s (stopPulses b s) := by
  unfold stopPulses
  try dsimp only
  repeat' split
  all_goals simp [id modBridge_same, id switchesOff_same]
theorem machineHit_same (why : Byte) (b m : Nat) (prev : BridgeState) (s : State) : Same16 s (machineHit why b m prev s) := by
  unfold machineHit
  try dsimp only
  repeat' split
  all_goals simp [id endMachineTag_same, id holdRequests_same, id machineLeaves_same, id modBridge_same, id modMach_same, id stopPulses_same]
theorem enterSafe_same (why : Byte) (b : Nat) (s : State) : Same16 s (enterSafe why b s) := by
  unfold enterSafe
  try dsimp only
  repeat' split
  all_goals simp [id machineHit_same, id modBridge_same]
theorem overrideBridge_same (why : Byte) (idleToo : Bool) (o : Ovr) (b : Nat) (s : State) : Same16 s (overrideBridge why idleToo o b s) := by
  unfold overrideBridge
  try dsimp only
  repeat' split
  all_goals simp [id enterSafe_same, id modBridge_same, id reselect_same]
theorem override_same (why : Byte) (idleToo : Bool) (o : Ovr) (bs : List Nat) (s : State) : Same16 s (override why idleToo o bs s) := by
  unfold override
  try dsimp only
  repeat' split
  all_goals simp [id overrideBridge_same]
theorem releaseBridge_same (b : Nat) (s : State) : Same14 s (releaseBridge b s) := by
  unfold releaseBridge
  try dsimp only
  repeat' split
  all_goals simp [id modBridge_same, id reselect_same, id switchesOff_same]
theorem addLockout_same (code ix : Nat) (sc : Scope) (e : Esn) (s : State) : Same23 s (addLockout code ix sc e s) := by
  unfold addLockout
  try dsimp only
  repeat' split
  all_goals simp
theorem commandCtd_same (close : Bool) (n : Nat) (s : State) : Same53 s (commandCtd close n s) := by
  unfold commandCtd
  try dsimp only
  repeat' split
  all_goals simp [id modCtd_same]
theorem openContactors_same (bs : List Nat) (s : State) : Same68 s (openContactors bs s) := by
  unfold openContactors
  try dsimp only
  repeat' split
  all_goals simp [id commandCtd_same, id modCtd_same, id modLg_same]
theorem stopMachine_same (code ix : Nat) (idleToo : Bool) (m : Nat) (s : State) : Same16 s (stopMachine code ix idleToo m s) := by
  unfold stopMachine
  try dsimp only
  repeat' split
  all_goals simp [id modMach_same, id override_same]
theorem react_same (level code ix : Nat) (sc : Scope) (idleToo : Bool) (why : Byte) (e : Esn) (s : State) : (react level code ix sc idleToo why e s).pins = s.pins ∧ (react level code ix sc idleToo why e s).dev = s.dev ∧ (react level code ix sc idleToo why e s).time.dev = s.time.dev ∧ (react level code ix sc idleToo why e s).time.rtc = s.time.rtc ∧ (react level code ix sc idleToo why e s).bankA = s.bankA ∧ (react level code ix sc idleToo why e s).bankB = s.bankB ∧ (react level code ix sc idleToo why e s).pos = s.pos ∧ (react level code ix sc idleToo why e s).pouts = s.pouts ∧ (react level code ix sc idleToo why e s).cmps = s.cmps ∧ (react level code ix sc idleToo why e s).temps = s.temps ∧ (react level code ix sc idleToo why e s).store = s.store ∧ (react level code ix sc idleToo why e s).clk = s.clk ∧ (react level code ix sc idleToo why e s).pwr = s.pwr ∧ (react level code ix sc idleToo why e s).proto.sess = s.proto.sess ∧ (react level code ix sc idleToo why e s).net.can = s.net.can ∧ (react level code ix sc idleToo why e s).net.eth = s.net.eth ∧ (react level code ix sc idleToo why e s).net.rest = s.net.rest ∧ (react level code ix sc idleToo why e s).recd = s.recd := by
  unfold react
  try dsimp only
  repeat' split
  all_goals simp [id addLockout_same, id openContactors_same, id override_same, id stopMachine_same]
theorem raiseBase_same (code ix : Nat) (src : U16) (sc : Scope) (idleToo : Bool) (why : Byte) (data : List Byte) (s : State) : Same1 s (raiseBase code ix src sc idleToo why data s) := by
  unfold raiseBase
  try dsimp only
  repeat' split
  all_goals simp [id react_same, id recordEvent_same]
theorem driveAux_same (n : Nat) (on : Bool) (s : State) : Same11 s (driveAux n on s) := by
  unfold driveAux
  try dsimp only
  repeat' split
  all_goals simp [id offCmd_same, id onCmd_same]
theorem setChopper_same (g : Nat) (on : Bool) (s : State) : Same24 s (setChopper g on s) := by
  unfold setChopper
  try dsimp only
  repeat' split
  all_goals simp [id driveAux_same, id modLg_same]
theorem choppersOff_same (p : Nat → Bool) (s : State) : Same24 s (choppersOff p s) := by
  unfold choppersOff
  try dsimp only
  repeat' split
  all_goals simp [id setChopper_same]
theorem endWatch_same (g : Nat) (s : State) : Same3 s (endWatch g s) := by
  unfold endWatch
  try dsimp only
  repeat' split
  all_goals simp [id modMach_same]
theorem dropDischargeTag_same (tag : Option Nat) (s : State) : Same41 s (dropDischargeTag tag s) := by
  unfold dropDischargeTag
  try dsimp only
  repeat' split
  all_goals simp
theorem raise0508_same (g : Nat) (s : State) : Same1 s (raise0508 g s) := by
  unfold raise0508
  try dsimp only
  repeat' split
  all_goals simp [id driveAux_same, id dropDischargeTag_same, id endWatch_same, id finishOpt_same, id modLg_same, id raiseBase_same]
theorem raiseWhy_same (why : Byte) (code ix : Nat) (src : U16) (sc : Scope) (data : List Byte) (s : State) : Same1 s (raiseWhy why code ix src sc data s) := by
  unfold raiseWhy
  try dsimp only
  repeat' split
  all_goals simp [id raise0508_same, id raiseBase_same]
theorem raiseFault_same (code ix : Nat) (src : U16) (sc : Scope) (data : List Byte) (s : State) : Same1 s (raiseFault code ix src sc data s) := by
  unfold raiseFault
  try dsimp only
  repeat' split
  all_goals simp [id raiseWhy_same]
theorem reactSrc_same (code : Nat) (src : U16) (e : Esn) (s : State) : Same1 s (reactSrc code src e s) := by
  unfold reactSrc
  try dsimp only
  repeat' split
  all_goals simp [id raise0508_same, id react_same]
theorem note_same (code : Nat) (src : U16) (data : List Byte) (s : State) : Same1 s (note code src data s) := by
  unfold note
  try dsimp only
  repeat' split
  all_goals simp [id reactSrc_same, id recordEvent_same]
theorem noteLimited_same (code : Nat) (src : U16) (until_ : Nat) (s : State) : Same1 s (noteLimited code src until_ s) := by
  unfold noteLimited
  try dsimp only
  repeat' split
  all_goals simp [id reactSrc_same, id recordLimited_same]
theorem cascadeHit_same (g : Nat) (old cur : List Nat) (s : State) : Same1 s (cascadeHit g old cur s) := by
  unfold cascadeHit
  try dsimp only
  repeat' split
  all_goals simp [id raise0508_same, id react_same, id recordEvent_same]
theorem cascadeHold_same (before s : State) : Same1 s (cascadeHold before s) := by
  unfold cascadeHold
  try dsimp only
  repeat' split
  all_goals simp [id cascadeHit_same]
theorem setLatch_same (code : Nat) (detailVals : List Int) (c : Nat) (s : State) : (setLatch code detailVals c s).2.pins = s.pins ∧ (setLatch code detailVals c s).2.dev = s.dev ∧ (setLatch code detailVals c s).2.time.dev = s.time.dev ∧ (setLatch code detailVals c s).2.time.rtc = s.time.rtc ∧ (setLatch code detailVals c s).2.bankA = s.bankA ∧ (setLatch code detailVals c s).2.bankB = s.bankB ∧ (setLatch code detailVals c s).2.pos = s.pos ∧ (setLatch code detailVals c s).2.pouts = s.pouts ∧ (setLatch code detailVals c s).2.cmps = s.cmps ∧ (setLatch code detailVals c s).2.temps = s.temps ∧ (setLatch code detailVals c s).2.store = s.store ∧ (setLatch code detailVals c s).2.clk = s.clk ∧ (setLatch code detailVals c s).2.pwr = s.pwr ∧ (setLatch code detailVals c s).2.proto.sess = s.proto.sess ∧ (setLatch code detailVals c s).2.proto.ctx = s.proto.ctx ∧ (setLatch code detailVals c s).2.proto.left = s.proto.left ∧ (setLatch code detailVals c s).2.net.can = s.net.can ∧ (setLatch code detailVals c s).2.net.eth = s.net.eth ∧ (setLatch code detailVals c s).2.net.canTx = s.net.canTx ∧ (setLatch code detailVals c s).2.net.egress = s.net.egress ∧ (setLatch code detailVals c s).2.net.rest = s.net.rest ∧ (setLatch code detailVals c s).2.bridges = s.bridges ∧ (setLatch code detailVals c s).2.machs = s.machs ∧ (setLatch code detailVals c s).2.lgs = s.lgs ∧ (setLatch code detailVals c s).2.ctds = s.ctds ∧ (setLatch code detailVals c s).2.safety = s.safety ∧ (setLatch code detailVals c s).2.out = s.out := by
  unfold setLatch
  try dsimp only
  repeat' split
  all_goals simp [id markFreeze_same, id modChan_same, id recordAt_same]
theorem actLatch_same (code c : Nat) (e : Option Esn) (s : State) : Same1 s (actLatch code c e s) := by
  unfold actLatch
  try dsimp only
  repeat' split
  all_goals simp [id raise0508_same, id react_same, id reselect_same]
theorem latchIsland_same (code : Nat) (detailVals : List Int) (c : Nat) (s : State) : Same1 s (latchIsland code detailVals c s) := by
  unfold latchIsland
  try dsimp only
  repeat' split
  all_goals simp [id actLatch_same, id setLatch_same]
theorem closeSession_same (i : Nat) (s : State) : Same69 s (closeSession i s) := by
  unfold closeSession
  try dsimp only
  repeat' split
  all_goals simp [id modSlots_same]
theorem enterBoot_same (cause : BootCause) (s : State) : Same57 s (enterBoot cause s) := by
  unfold enterBoot
  try dsimp only
  repeat' split
  all_goals simp [id closeSession_same]

end Sys2Proof.Machine
end

