-- ==== Sys2Proof/Laws/SameDrive.lean ====
section
/-! SUPPORT. One lemma per function: the same: Machine/Thermal, Motor, Model, Requests, Drive, Position, System. -/

namespace Sys2Proof.Machine

set_option linter.unusedTactic false
set_option linter.unusedSimpArgs false

/-! ### Machine/Thermal.lean -/

theorem forgetSensor_same (i : Nat) (s : State) : Same33 s (forgetSensor i s) := by
  unfold forgetSensor
  try dsimp only
  repeat' split
  all_goals simp [id modTemp_same]
theorem forgetUnread_same (s : State) : Same33 s (forgetUnread s) := by
  unfold forgetUnread
  try dsimp only
  repeat' split
  all_goals simp [id forgetSensor_same]
theorem relearn_same (before s : State) : Same33 s (relearn before s) := by
  unfold relearn
  try dsimp only
  repeat' split
  all_goals simp [id modTemp_same]
theorem seekMain_same (target : Nat) (s : State) : Same15 s (seekMain target s) := by
  unfold seekMain
  try dsimp only
  repeat' split
  all_goals simp
theorem seekMon_same (target : Nat) (s : State) : Same15 s (seekMon target s) := by
  unfold seekMon
  try dsimp only
  repeat' split
  all_goals simp
theorem updateCap_same (s : State) : Same15 s (updateCap s) := by
  unfold updateCap
  try dsimp only
  repeat' split
  all_goals simp [id seekMain_same]
theorem takeReading_same (i : Nat) (r : Reading) (s : State) : Same8 s (takeReading i r s) := by
  unfold takeReading
  try dsimp only
  repeat' split
  all_goals simp [id modTemp_same, id note_same]
theorem crossCheck_same (v : State) (rs : List (Fin 104 × Reading)) (i : Nat) (s : State) : Same8 s (crossCheck v rs i s) := by
  unfold crossCheck
  try dsimp only
  repeat' split
  all_goals simp [id modTemp_same, id note_same]
theorem takeValue_same (v : State) (i : Nat) (s : State) : Same8 s (takeValue v i s) := by
  unfold takeValue
  try dsimp only
  repeat' split
  all_goals simp [id modTemp_same, id note_same]
theorem riseRule_same (i : Nat) (rate : Option Int) (s : State) : Same8 s (riseRule i rate s) := by
  unfold riseRule
  try dsimp only
  repeat' split
  all_goals simp [id modTemp_same, id note_same]
theorem fretRule_same (i : Nat) (rate : Option Int) (s : State) : Same8 s (fretRule i rate s) := by
  unfold fretRule
  try dsimp only
  repeat' split
  all_goals simp [id modTemp_same, id note_same]
theorem fastRule_same (i : Nat) (s : State) : Same33 s (fastRule i s) := by
  unfold fastRule
  try dsimp only
  repeat' split
  all_goals simp [id modTemp_same]
theorem raiseHot_same (code i m : Nat) (s : State) : Same8 s (raiseHot code i m s) := by
  unfold raiseHot
  try dsimp only
  repeat' split
  all_goals simp [id modTemp_same, id raiseWhy_same]
theorem stopRule_same (i : Nat) (rate : Option Int) (s : State) : Same8 s (stopRule i rate s) := by
  unfold stopRule
  try dsimp only
  repeat' split
  all_goals simp [id modTemp_same, id raiseHot_same]
theorem judge_same (i : Nat) (s : State) : Same8 s (judge i s) := by
  unfold judge
  try dsimp only
  repeat' split
  all_goals simp [id fastRule_same, id fretRule_same, id modTemp_same, id riseRule_same, id stopRule_same]
theorem settleSensor_same (v : State) (i : Nat) (s : State) : Same8 s (settleSensor v i s) := by
  unfold settleSensor
  try dsimp only
  repeat' split
  all_goals simp [id judge_same, id takeValue_same, id trendAdd_same]
theorem execTempMeasurement_same (readings : List (Fin 104 × Reading)) (s : State) : OutAll (fun t => t.pins = s.pins ∧ t.time.dev = s.time.dev ∧ t.time.rtc = s.time.rtc ∧ t.bankA = s.bankA ∧ t.bankB = s.bankB ∧ t.pos = s.pos ∧ t.pouts = s.pouts ∧ t.cmps = s.cmps ∧ t.store = s.store ∧ t.clk = s.clk ∧ t.proto.sess = s.proto.sess ∧ t.net.can = s.net.can ∧ t.net.eth = s.net.eth ∧ t.net.rest = s.net.rest) (execTempMeasurement readings s) := by
  unfold execTempMeasurement
  try dsimp only
  repeat' split
  all_goals simp [id crossCheck_same, id forgetUnread_same, id settleSensor_same, id takeReading_same, id updateCap_same]
theorem execOffsetLearn_same (i : Fin 104) (s : State) : OutAll (fun t => Same33 s t) (execOffsetLearn i s) := by
  unfold execOffsetLearn
  try dsimp only
  repeat' split
  all_goals simp [id modTemp_same]
theorem raiseTrip_same (i m : Nat) (s : State) : Same8 s (raiseTrip i m s) := by
  unfold raiseTrip
  try dsimp only
  repeat' split
  all_goals simp [id modTemp_same, id raiseWhy_same]
theorem execMonitorTripCheck_same (i : Fin 104) (r : Reading) (s : State) : OutAll (fun t => Same8 s t) (execMonitorTripCheck i r s) := by
  unfold execMonitorTripCheck
  try dsimp only
  repeat' split
  all_goals simp [id modTemp_same, id raiseTrip_same]
theorem refCheck_same (bank : Bank) (gap ref : Int) (s : State) : Same25 s (refCheck bank gap ref s) := by
  unfold refCheck
  try dsimp only
  repeat' split
  all_goals simp [id react_same, id recordEvent_same]
theorem compensate_same (s : State) : Same25 s (compensate s) := by
  unfold compensate
  try dsimp only
  repeat' split
  all_goals simp [id note_same]
theorem execTempCompensation_same (gapA refA gapB refB : Int) (s : State) : OutAll (fun t => Same25 s t) (execTempCompensation gapA refA gapB refB s) := by
  unfold execTempCompensation
  try dsimp only
  repeat' split
  all_goals simp [id compensate_same, id refCheck_same]
theorem execTempCompensationLate_same (s : State) : OutAll (fun t => Same25 s t) (execTempCompensationLate s) := by
  unfold execTempCompensationLate
  try dsimp only
  repeat' split
  all_goals simp [id note_same]

/-! ### Machine/Motor.lean -/

theorem stopPouts_same (p : Nat) (s : State) : Same54 s (stopPouts p s) := by
  unfold stopPouts
  try dsimp only
  repeat' split
  all_goals simp [id modPout_same]
theorem setBridges_same (st : BridgeState) (m : Nat) (s : State) : Same5 s (setBridges st m s) := by
  unfold setBridges
  try dsimp only
  repeat' split
  all_goals simp [id modBridge_same]
theorem machSwitchesOff_same (m : Nat) (s : State) : Same14 s (machSwitchesOff m s) := by
  unfold machSwitchesOff
  try dsimp only
  repeat' split
  all_goals simp [id switchesOff_same]
theorem toIdle_same (m : Nat) (s : State) : Same38 s (toIdle m s) := by
  unfold toIdle
  try dsimp only
  repeat' split
  all_goals simp [id machineLeaves_same, id modBridge_same, id modMach_same, id switchesOff_same]
theorem finishMach_same (m : Nat) (status : U16) (data : List Byte) (s : State) : Same10 s (finishMach m status data s) := by
  unfold finishMach
  try dsimp only
  repeat' split
  all_goals simp [id finishOpt_same, id modMach_same]
theorem coastMachine_same (m : Nat) (s : State) : Same1 s (coastMachine m s) := by
  unfold coastMachine
  try dsimp only
  repeat' split
  all_goals simp [id finishMach_same, id modMach_same, id note_same]
theorem handToObserver_same (m : Nat) (s : State) : Same1 s (handToObserver m s) := by
  unfold handToObserver
  try dsimp only
  repeat' split
  all_goals simp [id coastMachine_same, id modMach_same]

/-! ### Machine/Model.lean -/

theorem freshRun_same (vd vq : Int) (m : Nat) (s : State) : Same3 s (freshRun vd vq m s) := by
  unfold freshRun
  try dsimp only
  repeat' split
  all_goals simp [id modMach_same]

/-! ### Machine/Requests.lean -/

theorem bounce_same (h : Hdr) (opcode : Nat) (status : U16) (s : State) : Same56 s (bounce h opcode status s) := by
  unfold bounce
  try dsimp only
  repeat' split
  all_goals simp [id sendReply_same]
theorem countUnauth_same (p : Port) (s : State) : Same1 s (countUnauth p s).2 := by
  unfold countUnauth
  try dsimp only
  repeat' split
  all_goals simp [id noteLimited_same]
theorem retag_same (t : Nat) (u : Option Nat) (s : State) : (retag t u s).pins = s.pins ∧ (retag t u s).dev = s.dev ∧ (retag t u s).time.dev = s.time.dev ∧ (retag t u s).time.rtc = s.time.rtc ∧ (retag t u s).bankA = s.bankA ∧ (retag t u s).bankB = s.bankB ∧ (retag t u s).pos = s.pos ∧ (retag t u s).pouts = s.pouts ∧ (retag t u s).cmps = s.cmps ∧ (retag t u s).temps = s.temps ∧ (retag t u s).pwr = s.pwr ∧ (retag t u s).proto.sess = s.proto.sess ∧ (retag t u s).proto.ctx = s.proto.ctx ∧ (retag t u s).proto.left = s.proto.left ∧ (retag t u s).net.can = s.net.can ∧ (retag t u s).net.eth = s.net.eth ∧ (retag t u s).net.canTx = s.net.canTx ∧ (retag t u s).net.egress = s.net.egress ∧ (retag t u s).net.rest = s.net.rest ∧ (retag t u s).bridges = s.bridges ∧ (retag t u s).chans = s.chans ∧ (retag t u s).safety = s.safety ∧ (retag t u s).recd = s.recd ∧ (retag t u s).out = s.out := by
  unfold retag
  try dsimp only
  repeat' split
  all_goals simp
theorem orphan_same (t : Nat) (s : State) : (orphan t s).pins = s.pins ∧ (orphan t s).dev = s.dev ∧ (orphan t s).time.dev = s.time.dev ∧ (orphan t s).time.rtc = s.time.rtc ∧ (orphan t s).bankA = s.bankA ∧ (orphan t s).bankB = s.bankB ∧ (orphan t s).pos = s.pos ∧ (orphan t s).pouts = s.pouts ∧ (orphan t s).cmps = s.cmps ∧ (orphan t s).temps = s.temps ∧ (orphan t s).pwr = s.pwr ∧ (orphan t s).proto.sess = s.proto.sess ∧ (orphan t s).proto.ctx = s.proto.ctx ∧ (orphan t s).net.can = s.net.can ∧ (orphan t s).net.eth = s.net.eth ∧ (orphan t s).net.canTx = s.net.canTx ∧ (orphan t s).net.egress = s.net.egress ∧ (orphan t s).net.rest = s.net.rest ∧ (orphan t s).bridges = s.bridges ∧ (orphan t s).chans = s.chans ∧ (orphan t s).safety = s.safety ∧ (orphan t s).recd = s.recd ∧ (orphan t s).out = s.out := by
  unfold orphan
  try dsimp only
  repeat' split
  all_goals simp [id retag_same]
theorem nextArrival_same (s : State) : Same22 s (nextArrival s).2 := by
  unfold nextArrival
  try dsimp only
  repeat' split
  all_goals simp
theorem occupy_same (h : Hdr) (opcode : Nat) (payload : List Byte) (s : State) : (occupy h opcode payload s).pins = s.pins ∧ (occupy h opcode payload s).dev = s.dev ∧ (occupy h opcode payload s).time.dev = s.time.dev ∧ (occupy h opcode payload s).time.rtc = s.time.rtc ∧ (occupy h opcode payload s).bankA = s.bankA ∧ (occupy h opcode payload s).bankB = s.bankB ∧ (occupy h opcode payload s).pos = s.pos ∧ (occupy h opcode payload s).pouts = s.pouts ∧ (occupy h opcode payload s).cmps = s.cmps ∧ (occupy h opcode payload s).temps = s.temps ∧ (occupy h opcode payload s).pwr = s.pwr ∧ (occupy h opcode payload s).proto.sess = s.proto.sess ∧ (occupy h opcode payload s).net.can = s.net.can ∧ (occupy h opcode payload s).net.eth = s.net.eth ∧ (occupy h opcode payload s).net.canTx = s.net.canTx ∧ (occupy h opcode payload s).net.egress = s.net.egress ∧ (occupy h opcode payload s).net.rest = s.net.rest ∧ (occupy h opcode payload s).bridges = s.bridges ∧ (occupy h opcode payload s).chans = s.chans ∧ (occupy h opcode payload s).safety = s.safety ∧ (occupy h opcode payload s).recd = s.recd ∧ (occupy h opcode payload s).out = s.out := by
  unfold occupy
  try dsimp only
  repeat' split
  all_goals simp [id modCtx_same, id nextArrival_same, id orphan_same]
theorem admitTail_same (h : Hdr) (opcode : Nat) (payload : List Byte) (s : State) : Same43 s (admitTail h opcode payload s).2 := by
  unfold admitTail
  try dsimp only
  repeat' split
  all_goals simp [id bounce_same, id countUnauth_same, id occupy_same]
theorem admitSeq_same (h : Hdr) (opcode : Nat) (payload : List Byte) (s : State) : Same2 s (admitSeq h opcode payload s).2 := by
  unfold admitSeq
  try dsimp only
  repeat' split
  all_goals simp [id admitTail_same, id bounce_same, id modSess_same]
theorem copyRef_same (opcode : Nat) (payload : List Byte) (s : State) : Same3 s (copyRef opcode payload s) := by
  unfold copyRef
  try dsimp only
  repeat' split
  all_goals simp [id modMach_same]
theorem admits_same (h : Hdr) (opcode : Nat) (payload : List Byte) (s : State) : Same2 s (admits h opcode payload s).2 := by
  unfold admits
  try dsimp only
  repeat' split
  all_goals simp [id admitSeq_same, id admitTail_same, id bounce_same, id copyRef_same]
@[simp] theorem gated_pins' (opcode : Nat) (onBridge : Bool) (t : Nat) (f : State → State) (s : State) (hf : ∀ v, (f v).pins = v.pins) :
    (gated opcode onBridge t f s).pins = s.pins := by
  unfold gated
  try dsimp only
  repeat' split
  all_goals simp [hf, id finish_same]
@[simp] theorem gated_dev' (opcode : Nat) (onBridge : Bool) (t : Nat) (f : State → State) (s : State) (hf : ∀ v, (f v).dev = v.dev) :
    (gated opcode onBridge t f s).dev = s.dev := by
  unfold gated
  try dsimp only
  repeat' split
  all_goals simp [hf, id finish_same]
@[simp] theorem gated_tdev' (opcode : Nat) (onBridge : Bool) (t : Nat) (f : State → State) (s : State) (hf : ∀ v, (f v).time.dev = v.time.dev) :
    (gated opcode onBridge t f s).time.dev = s.time.dev := by
  unfold gated
  try dsimp only
  repeat' split
  all_goals simp [hf, id finish_same]
@[simp] theorem gated_rtc' (opcode : Nat) (onBridge : Bool) (t : Nat) (f : State → State) (s : State) (hf : ∀ v, (f v).time.rtc = v.time.rtc) :
    (gated opcode onBridge t f s).time.rtc = s.time.rtc := by
  unfold gated
  try dsimp only
  repeat' split
  all_goals simp [hf, id finish_same]
@[simp] theorem gated_bankA' (opcode : Nat) (onBridge : Bool) (t : Nat) (f : State → State) (s : State) (hf : ∀ v, (f v).bankA = v.bankA) :
    (gated opcode onBridge t f s).bankA = s.bankA := by
  unfold gated
  try dsimp only
  repeat' split
  all_goals simp [hf, id finish_same]
@[simp] theorem gated_bankB' (opcode : Nat) (onBridge : Bool) (t : Nat) (f : State → State) (s : State) (hf : ∀ v, (f v).bankB = v.bankB) :
    (gated opcode onBridge t f s).bankB = s.bankB := by
  unfold gated
  try dsimp only
  repeat' split
  all_goals simp [hf, id finish_same]
@[simp] theorem gated_pos' (opcode : Nat) (onBridge : Bool) (t : Nat) (f : State → State) (s : State) (hf : ∀ v, (f v).pos = v.pos) :
    (gated opcode onBridge t f s).pos = s.pos := by
  unfold gated
  try dsimp only
  repeat' split
  all_goals simp [hf, id finish_same]
@[simp] theorem gated_pouts' (opcode : Nat) (onBridge : Bool) (t : Nat) (f : State → State) (s : State) (hf : ∀ v, (f v).pouts = v.pouts) :
    (gated opcode onBridge t f s).pouts = s.pouts := by
  unfold gated
  try dsimp only
  repeat' split
  all_goals simp [hf, id finish_same]
@[simp] theorem gated_cmps' (opcode : Nat) (onBridge : Bool) (t : Nat) (f : State → State) (s : State) (hf : ∀ v, (f v).cmps = v.cmps) :
    (gated opcode onBridge t f s).cmps = s.cmps := by
  unfold gated
  try dsimp only
  repeat' split
  all_goals simp [hf, id finish_same]
@[simp] theorem gated_temps' (opcode : Nat) (onBridge : Bool) (t : Nat) (f : State → State) (s : State) (hf : ∀ v, (f v).temps = v.temps) :
    (gated opcode onBridge t f s).temps = s.temps := by
  unfold gated
  try dsimp only
  repeat' split
  all_goals simp [hf, id finish_same]
@[simp] theorem gated_store' (opcode : Nat) (onBridge : Bool) (t : Nat) (f : State → State) (s : State) (hf : ∀ v, (f v).store = v.store) :
    (gated opcode onBridge t f s).store = s.store := by
  unfold gated
  try dsimp only
  repeat' split
  all_goals simp [hf, id finish_same]
@[simp] theorem gated_clk' (opcode : Nat) (onBridge : Bool) (t : Nat) (f : State → State) (s : State) (hf : ∀ v, (f v).clk = v.clk) :
    (gated opcode onBridge t f s).clk = s.clk := by
  unfold gated
  try dsimp only
  repeat' split
  all_goals simp [hf, id finish_same]
@[simp] theorem gated_pwr' (opcode : Nat) (onBridge : Bool) (t : Nat) (f : State → State) (s : State) (hf : ∀ v, (f v).pwr = v.pwr) :
    (gated opcode onBridge t f s).pwr = s.pwr := by
  unfold gated
  try dsimp only
  repeat' split
  all_goals simp [hf, id finish_same]
@[simp] theorem gated_sess' (opcode : Nat) (onBridge : Bool) (t : Nat) (f : State → State) (s : State) (hf : ∀ v, (f v).proto.sess = v.proto.sess) :
    (gated opcode onBridge t f s).proto.sess = s.proto.sess := by
  unfold gated
  try dsimp only
  repeat' split
  all_goals simp [hf, id finish_same]
@[simp] theorem gated_can' (opcode : Nat) (onBridge : Bool) (t : Nat) (f : State → State) (s : State) (hf : ∀ v, (f v).net.can = v.net.can) :
    (gated opcode onBridge t f s).net.can = s.net.can := by
  unfold gated
  try dsimp only
  repeat' split
  all_goals simp [hf, id finish_same]
@[simp] theorem gated_eth' (opcode : Nat) (onBridge : Bool) (t : Nat) (f : State → State) (s : State) (hf : ∀ v, (f v).net.eth = v.net.eth) :
    (gated opcode onBridge t f s).net.eth = s.net.eth := by
  unfold gated
  try dsimp only
  repeat' split
  all_goals simp [hf, id finish_same]
@[simp] theorem gated_nother' (opcode : Nat) (onBridge : Bool) (t : Nat) (f : State → State) (s : State) (hf : ∀ v, (f v).net.rest = v.net.rest) :
    (gated opcode onBridge t f s).net.rest = s.net.rest := by
  unfold gated
  try dsimp only
  repeat' split
  all_goals simp [hf, id finish_same]
@[simp] theorem gated_bridges' (opcode : Nat) (onBridge : Bool) (t : Nat) (f : State → State) (s : State) (hf : ∀ v, (f v).bridges = v.bridges) :
    (gated opcode onBridge t f s).bridges = s.bridges := by
  unfold gated
  try dsimp only
  repeat' split
  all_goals simp [hf, id finish_same]
@[simp] theorem gated_machs' (opcode : Nat) (onBridge : Bool) (t : Nat) (f : State → State) (s : State) (hf : ∀ v, (f v).machs = v.machs) :
    (gated opcode onBridge t f s).machs = s.machs := by
  unfold gated
  try dsimp only
  repeat' split
  all_goals simp [hf, id finish_same]
@[simp] theorem gated_chans' (opcode : Nat) (onBridge : Bool) (t : Nat) (f : State → State) (s : State) (hf : ∀ v, (f v).chans = v.chans) :
    (gated opcode onBridge t f s).chans = s.chans := by
  unfold gated
  try dsimp only
  repeat' split
  all_goals simp [hf, id finish_same]
@[simp] theorem gated_lgs' (opcode : Nat) (onBridge : Bool) (t : Nat) (f : State → State) (s : State) (hf : ∀ v, (f v).lgs = v.lgs) :
    (gated opcode onBridge t f s).lgs = s.lgs := by
  unfold gated
  try dsimp only
  repeat' split
  all_goals simp [hf, id finish_same]
@[simp] theorem gated_ctds' (opcode : Nat) (onBridge : Bool) (t : Nat) (f : State → State) (s : State) (hf : ∀ v, (f v).ctds = v.ctds) :
    (gated opcode onBridge t f s).ctds = s.ctds := by
  unfold gated
  try dsimp only
  repeat' split
  all_goals simp [hf, id finish_same]
@[simp] theorem gated_safety' (opcode : Nat) (onBridge : Bool) (t : Nat) (f : State → State) (s : State) (hf : ∀ v, (f v).safety = v.safety) :
    (gated opcode onBridge t f s).safety = s.safety := by
  unfold gated
  try dsimp only
  repeat' split
  all_goals simp [hf, id finish_same]
@[simp] theorem gated_recd' (opcode : Nat) (onBridge : Bool) (t : Nat) (f : State → State) (s : State) (hf : ∀ v, (f v).recd = v.recd) :
    (gated opcode onBridge t f s).recd = s.recd := by
  unfold gated
  try dsimp only
  repeat' split
  all_goals simp [hf, id finish_same]
theorem enqueue_same (h : Hdr) (s : State) : Same22 s (enqueue h s) := by
  unfold enqueue
  try dsimp only
  repeat' split
  all_goals simp
@[simp] theorem serve_pins' (h : Hdr) (opcode : Nat) (payload : List Byte) (onBridge : Bool) (f : Nat → State → State) (s : State) (hf : ∀ a0 v, (f a0 v).pins = v.pins) :
    (serve h opcode payload onBridge f s).pins = s.pins := by
  unfold serve
  try dsimp only
  repeat' split
  all_goals simp [hf, id admits_same, id enqueue_same]
@[simp] theorem serve_dev' (h : Hdr) (opcode : Nat) (payload : List Byte) (onBridge : Bool) (f : Nat → State → State) (s : State) (hf : ∀ a0 v, (f a0 v).dev = v.dev) :
    (serve h opcode payload onBridge f s).dev = s.dev := by
  unfold serve
  try dsimp only
  repeat' split
  all_goals simp [hf, id admits_same, id enqueue_same]
@[simp] theorem serve_tdev' (h : Hdr) (opcode : Nat) (payload : List Byte) (onBridge : Bool) (f : Nat → State → State) (s : State) (hf : ∀ a0 v, (f a0 v).time.dev = v.time.dev) :
    (serve h opcode payload onBridge f s).time.dev = s.time.dev := by
  unfold serve
  try dsimp only
  repeat' split
  all_goals simp [hf, id admits_same, id enqueue_same]
@[simp] theorem serve_rtc' (h : Hdr) (opcode : Nat) (payload : List Byte) (onBridge : Bool) (f : Nat → State → State) (s : State) (hf : ∀ a0 v, (f a0 v).time.rtc = v.time.rtc) :
    (serve h opcode payload onBridge f s).time.rtc = s.time.rtc := by
  unfold serve
  try dsimp only
  repeat' split
  all_goals simp [hf, id admits_same, id enqueue_same]
@[simp] theorem serve_bankA' (h : Hdr) (opcode : Nat) (payload : List Byte) (onBridge : Bool) (f : Nat → State → State) (s : State) (hf : ∀ a0 v, (f a0 v).bankA = v.bankA) :
    (serve h opcode payload onBridge f s).bankA = s.bankA := by
  unfold serve
  try dsimp only
  repeat' split
  all_goals simp [hf, id admits_same, id enqueue_same]
@[simp] theorem serve_bankB' (h : Hdr) (opcode : Nat) (payload : List Byte) (onBridge : Bool) (f : Nat → State → State) (s : State) (hf : ∀ a0 v, (f a0 v).bankB = v.bankB) :
    (serve h opcode payload onBridge f s).bankB = s.bankB := by
  unfold serve
  try dsimp only
  repeat' split
  all_goals simp [hf, id admits_same, id enqueue_same]
@[simp] theorem serve_pos' (h : Hdr) (opcode : Nat) (payload : List Byte) (onBridge : Bool) (f : Nat → State → State) (s : State) (hf : ∀ a0 v, (f a0 v).pos = v.pos) :
    (serve h opcode payload onBridge f s).pos = s.pos := by
  unfold serve
  try dsimp only
  repeat' split
  all_goals simp [hf, id admits_same, id enqueue_same]
@[simp] theorem serve_pouts' (h : Hdr) (opcode : Nat) (payload : List Byte) (onBridge : Bool) (f : Nat → State → State) (s : State) (hf : ∀ a0 v, (f a0 v).pouts = v.pouts) :
    (serve h opcode payload onBridge f s).pouts = s.pouts := by
  unfold serve
  try dsimp only
  repeat' split
  all_goals simp [hf, id admits_same, id enqueue_same]
@[simp] theorem serve_cmps' (h : Hdr) (opcode : Nat) (payload : List Byte) (onBridge : Bool) (f : Nat → State → State) (s : State) (hf : ∀ a0 v, (f a0 v).cmps = v.cmps) :
    (serve h opcode payload onBridge f s).cmps = s.cmps := by
  unfold serve
  try dsimp only
  repeat' split
  all_goals simp [hf, id admits_same, id enqueue_same]
@[simp] theorem serve_temps' (h : Hdr) (opcode : Nat) (payload : List Byte) (onBridge : Bool) (f : Nat → State → State) (s : State) (hf : ∀ a0 v, (f a0 v).temps = v.temps) :
    (serve h opcode payload onBridge f s).temps = s.temps := by
  unfold serve
  try dsimp only
  repeat' split
  all_goals simp [hf, id admits_same, id enqueue_same]
@[simp] theorem serve_pwr' (h : Hdr) (opcode : Nat) (payload : List Byte) (onBridge : Bool) (f : Nat → State → State) (s : State) (hf : ∀ a0 v, (f a0 v).pwr = v.pwr) :
    (serve h opcode payload onBridge f s).pwr = s.pwr := by
  unfold serve
  try dsimp only
  repeat' split
  all_goals simp [hf, id admits_same, id enqueue_same]
@[simp] theorem serve_can' (h : Hdr) (opcode : Nat) (payload : List Byte) (onBridge : Bool) (f : Nat → State → State) (s : State) (hf : ∀ a0 v, (f a0 v).net.can = v.net.can) :
    (serve h opcode payload onBridge f s).net.can = s.net.can := by
  unfold serve
  try dsimp only
  repeat' split
  all_goals simp [hf, id admits_same, id enqueue_same]
@[simp] theorem serve_eth' (h : Hdr) (opcode : Nat) (payload : List Byte) (onBridge : Bool) (f : Nat → State → State) (s : State) (hf : ∀ a0 v, (f a0 v).net.eth = v.net.eth) :
    (serve h opcode payload onBridge f s).net.eth = s.net.eth := by
  unfold serve
  try dsimp only
  repeat' split
  all_goals simp [hf, id admits_same, id enqueue_same]
@[simp] theorem serve_nother' (h : Hdr) (opcode : Nat) (payload : List Byte) (onBridge : Bool) (f : Nat → State → State) (s : State) (hf : ∀ a0 v, (f a0 v).net.rest = v.net.rest) :
    (serve h opcode payload onBridge f s).net.rest = s.net.rest := by
  unfold serve
  try dsimp only
  repeat' split
  all_goals simp [hf, id admits_same, id enqueue_same]

/-! ### Machine/Drive.lean -/

@[simp] theorem withMachine_pins' (t : Nat) (machine : Byte) (f : Nat → State → State) (s : State) (hf : ∀ a0 v, (f a0 v).pins = v.pins) :
    (withMachine t machine f s).pins = s.pins := by
  unfold withMachine
  try dsimp only
  repeat' split
  all_goals simp [hf, id refuse_same]
@[simp] theorem withMachine_dev' (t : Nat) (machine : Byte) (f : Nat → State → State) (s : State) (hf : ∀ a0 v, (f a0 v).dev = v.dev) :
    (withMachine t machine f s).dev = s.dev := by
  unfold withMachine
  try dsimp only
  repeat' split
  all_goals simp [hf, id refuse_same]
@[simp] theorem withMachine_tdev' (t : Nat) (machine : Byte) (f : Nat → State → State) (s : State) (hf : ∀ a0 v, (f a0 v).time.dev = v.time.dev) :
    (withMachine t machine f s).time.dev = s.time.dev := by
  unfold withMachine
  try dsimp only
  repeat' split
  all_goals simp [hf, id refuse_same]
@[simp] theorem withMachine_rtc' (t : Nat) (machine : Byte) (f : Nat → State → State) (s : State) (hf : ∀ a0 v, (f a0 v).time.rtc = v.time.rtc) :
    (withMachine t machine f s).time.rtc = s.time.rtc := by
  unfold withMachine
  try dsimp only
  repeat' split
  all_goals simp [hf, id refuse_same]
@[simp] theorem withMachine_bankA' (t : Nat) (machine : Byte) (f : Nat → State → State) (s : State) (hf : ∀ a0 v, (f a0 v).bankA = v.bankA) :
    (withMachine t machine f s).bankA = s.bankA := by
  unfold withMachine
  try dsimp only
  repeat' split
  all_goals simp [hf, id refuse_same]
@[simp] theorem withMachine_bankB' (t : Nat) (machine : Byte) (f : Nat → State → State) (s : State) (hf : ∀ a0 v, (f a0 v).bankB = v.bankB) :
    (withMachine t machine f s).bankB = s.bankB := by
  unfold withMachine
  try dsimp only
  repeat' split
  all_goals simp [hf, id refuse_same]
@[simp] theorem withMachine_pos' (t : Nat) (machine : Byte) (f : Nat → State → State) (s : State) (hf : ∀ a0 v, (f a0 v).pos = v.pos) :
    (withMachine t machine f s).pos = s.pos := by
  unfold withMachine
  try dsimp only
  repeat' split
  all_goals simp [hf, id refuse_same]
@[simp] theorem withMachine_pouts' (t : Nat) (machine : Byte) (f : Nat → State → State) (s : State) (hf : ∀ a0 v, (f a0 v).pouts = v.pouts) :
    (withMachine t machine f s).pouts = s.pouts := by
  unfold withMachine
  try dsimp only
  repeat' split
  all_goals simp [hf, id refuse_same]
@[simp] theorem withMachine_cmps' (t : Nat) (machine : Byte) (f : Nat → State → State) (s : State) (hf : ∀ a0 v, (f a0 v).cmps = v.cmps) :
    (withMachine t machine f s).cmps = s.cmps := by
  unfold withMachine
  try dsimp only
  repeat' split
  all_goals simp [hf, id refuse_same]
@[simp] theorem withMachine_temps' (t : Nat) (machine : Byte) (f : Nat → State → State) (s : State) (hf : ∀ a0 v, (f a0 v).temps = v.temps) :
    (withMachine t machine f s).temps = s.temps := by
  unfold withMachine
  try dsimp only
  repeat' split
  all_goals simp [hf, id refuse_same]
@[simp] theorem withMachine_store' (t : Nat) (machine : Byte) (f : Nat → State → State) (s : State) (hf : ∀ a0 v, (f a0 v).store = v.store) :
    (withMachine t machine f s).store = s.store := by
  unfold withMachine
  try dsimp only
  repeat' split
  all_goals simp [hf, id refuse_same]
@[simp] theorem withMachine_clk' (t : Nat) (machine : Byte) (f : Nat → State → State) (s : State) (hf : ∀ a0 v, (f a0 v).clk = v.clk) :
    (withMachine t machine f s).clk = s.clk := by
  unfold withMachine
  try dsimp only
  repeat' split
  all_goals simp [hf, id refuse_same]
@[simp] theorem withMachine_pwr' (t : Nat) (machine : Byte) (f : Nat → State → State) (s : State) (hf : ∀ a0 v, (f a0 v).pwr = v.pwr) :
    (withMachine t machine f s).pwr = s.pwr := by
  unfold withMachine
  try dsimp only
  repeat' split
  all_goals simp [hf, id refuse_same]
@[simp] theorem withMachine_sess' (t : Nat) (machine : Byte) (f : Nat → State → State) (s : State) (hf : ∀ a0 v, (f a0 v).proto.sess = v.proto.sess) :
    (withMachine t machine f s).proto.sess = s.proto.sess := by
  unfold withMachine
  try dsimp only
  repeat' split
  all_goals simp [hf, id refuse_same]
@[simp] theorem withMachine_can' (t : Nat) (machine : Byte) (f : Nat → State → State) (s : State) (hf : ∀ a0 v, (f a0 v).net.can = v.net.can) :
    (withMachine t machine f s).net.can = s.net.can := by
  unfold withMachine
  try dsimp only
  repeat' split
  all_goals simp [hf, id refuse_same]
@[simp] theorem withMachine_eth' (t : Nat) (machine : Byte) (f : Nat → State → State) (s : State) (hf : ∀ a0 v, (f a0 v).net.eth = v.net.eth) :
    (withMachine t machine f s).net.eth = s.net.eth := by
  unfold withMachine
  try dsimp only
  repeat' split
  all_goals simp [hf, id refuse_same]
@[simp] theorem withMachine_nother' (t : Nat) (machine : Byte) (f : Nat → State → State) (s : State) (hf : ∀ a0 v, (f a0 v).net.rest = v.net.rest) :
    (withMachine t machine f s).net.rest = s.net.rest := by
  unfold withMachine
  try dsimp only
  repeat' split
  all_goals simp [hf, id refuse_same]
@[simp] theorem withMachine_bridges' (t : Nat) (machine : Byte) (f : Nat → State → State) (s : State) (hf : ∀ a0 v, (f a0 v).bridges = v.bridges) :
    (withMachine t machine f s).bridges = s.bridges := by
  unfold withMachine
  try dsimp only
  repeat' split
  all_goals simp [hf, id refuse_same]
@[simp] theorem withMachine_machs' (t : Nat) (machine : Byte) (f : Nat → State → State) (s : State) (hf : ∀ a0 v, (f a0 v).machs = v.machs) :
    (withMachine t machine f s).machs = s.machs := by
  unfold withMachine
  try dsimp only
  repeat' split
  all_goals simp [hf, id refuse_same]
@[simp] theorem withMachine_chans' (t : Nat) (machine : Byte) (f : Nat → State → State) (s : State) (hf : ∀ a0 v, (f a0 v).chans = v.chans) :
    (withMachine t machine f s).chans = s.chans := by
  unfold withMachine
  try dsimp only
  repeat' split
  all_goals simp [hf, id refuse_same]
@[simp] theorem withMachine_lgs' (t : Nat) (machine : Byte) (f : Nat → State → State) (s : State) (hf : ∀ a0 v, (f a0 v).lgs = v.lgs) :
    (withMachine t machine f s).lgs = s.lgs := by
  unfold withMachine
  try dsimp only
  repeat' split
  all_goals simp [hf, id refuse_same]
@[simp] theorem withMachine_ctds' (t : Nat) (machine : Byte) (f : Nat → State → State) (s : State) (hf : ∀ a0 v, (f a0 v).ctds = v.ctds) :
    (withMachine t machine f s).ctds = s.ctds := by
  unfold withMachine
  try dsimp only
  repeat' split
  all_goals simp [hf, id refuse_same]
@[simp] theorem withMachine_safety' (t : Nat) (machine : Byte) (f : Nat → State → State) (s : State) (hf : ∀ a0 v, (f a0 v).safety = v.safety) :
    (withMachine t machine f s).safety = s.safety := by
  unfold withMachine
  try dsimp only
  repeat' split
  all_goals simp [hf, id refuse_same]
@[simp] theorem withMachine_recd' (t : Nat) (machine : Byte) (f : Nat → State → State) (s : State) (hf : ∀ a0 v, (f a0 v).recd = v.recd) :
    (withMachine t machine f s).recd = s.recd := by
  unfold withMachine
  try dsimp only
  repeat' split
  all_goals simp [hf, id refuse_same]
theorem startPrecharge_same (m : Nat) (bowOnly : Bool) (s : State) : Same17 s (startPrecharge m bowOnly s) := by
  unfold startPrecharge
  try dsimp only
  repeat' split
  all_goals simp [id modBridge_same, id modMach_same]
theorem freshArm_same (m : Nat) (s : State) : Same17 s (freshArm m s) := by
  unfold freshArm
  try dsimp only
  repeat' split
  all_goals simp [id machineLeaves_same, id modBridge_same, id setBridges_same]
theorem armMachine_same (t m : Nat) (s : State) : (armMachine t m s).pins = s.pins ∧ (armMachine t m s).dev = s.dev ∧ (armMachine t m s).time.dev = s.time.dev ∧ (armMachine t m s).time.rtc = s.time.rtc ∧ (armMachine t m s).bankA = s.bankA ∧ (armMachine t m s).bankB = s.bankB ∧ (armMachine t m s).pos = s.pos ∧ (armMachine t m s).pouts = s.pouts ∧ (armMachine t m s).cmps = s.cmps ∧ (armMachine t m s).temps = s.temps ∧ (armMachine t m s).store = s.store ∧ (armMachine t m s).clk = s.clk ∧ (armMachine t m s).proto.sess = s.proto.sess ∧ (armMachine t m s).net.can = s.net.can ∧ (armMachine t m s).net.eth = s.net.eth ∧ (armMachine t m s).net.rest = s.net.rest ∧ (armMachine t m s).chans = s.chans ∧ (armMachine t m s).lgs = s.lgs ∧ (armMachine t m s).ctds = s.ctds ∧ (armMachine t m s).safety = s.safety ∧ (armMachine t m s).recd = s.recd := by
  unfold armMachine
  try dsimp only
  repeat' split
  all_goals simp [id accept_same, id finish_same, id freshArm_same, id modMach_same, id refuse_same, id seekMon_same, id startPrecharge_same]
theorem opArm_same (t : Nat) (machine : Byte) (s : State) : Same26 s (opArm t machine s) := by
  unfold opArm
  try dsimp only
  repeat' split
  all_goals simp [id armMachine_same, id cascadeHold_same]
theorem endPrecharge_same (m : Nat) (s : State) : Same16 s (endPrecharge m s) := by
  unfold endPrecharge
  try dsimp only
  repeat' split
  all_goals simp [id finishMach_same, id freshArm_same, id freshRun_same, id modBridge_same, id modMach_same, id setBridges_same, id stopPulses_same]
theorem execPrechargeComplete_same (m : Fin 8) (s : State) : OutAll (fun t => Same16 s t) (execPrechargeComplete m s) := by
  unfold execPrechargeComplete
  try dsimp only
  repeat' split
  all_goals simp [id endPrecharge_same]
theorem execPrechargeTimeout_same (m : Fin 8) (s : State) : OutAll (fun t => Same1 s t) (execPrechargeTimeout m s) := by
  unfold execPrechargeTimeout
  try dsimp only
  repeat' split
  all_goals simp [id endPrecharge_same, id finishMach_same, id note_same, id raise0508_same, id toIdle_same]
theorem zeroPulse_same (b : Nat) (s : State) : Same5 s (zeroPulse b s) := by
  unfold zeroPulse
  try dsimp only
  repeat' split
  all_goals simp [id modBridge_same]
theorem execPrechargePulse_same (m : Fin 8) (s : State) : OutAll (fun t => Same5 s t) (execPrechargePulse m s) := by
  unfold execPrechargePulse
  try dsimp only
  repeat' split
  all_goals simp [id modBridge_same, id zeroPulse_same]
theorem disarmRunning_same (t m : Nat) (s : State) : Same10 s (disarmRunning t m s) := by
  unfold disarmRunning
  try dsimp only
  repeat' split
  all_goals simp [id accept_same, id finishMach_same, id modMach_same, id refuse_same]
theorem disarmMachine_same (t m : Nat) (s : State) : Same16 s (disarmMachine t m s) := by
  unfold disarmMachine
  try dsimp only
  repeat' split
  all_goals simp [id disarmRunning_same, id endMachineTag_same, id finish_same, id toIdle_same]
theorem opDisarm_same (t : Nat) (machine : Byte) (s : State) : Same16 s (opDisarm t machine s) := by
  unfold opDisarm
  try dsimp only
  repeat' split
  all_goals simp [id disarmMachine_same]
theorem execDisarmRampEnd_same (m : Fin 8) (s : State) : OutAll (fun t => Same16 s t) (execDisarmRampEnd m s) := by
  unfold execDisarmRampEnd
  try dsimp only
  repeat' split
  all_goals simp [id finish_same, id toIdle_same]
theorem autoStart_same (m : Nat) (v : Int) (s : State) : Same3 s (autoStart m v s) := by
  unfold autoStart
  try dsimp only
  repeat' split
  all_goals simp [id modMach_same]
theorem applyRef_same (arrival m : Nat) (r : Ref) (s : State) : Same3 s (applyRef arrival m r s) := by
  unfold applyRef
  try dsimp only
  repeat' split
  all_goals simp [id autoStart_same, id modMach_same]
theorem setRef_same (t m : Nat) (r : Ref) (s : State) : Same10 s (setRef t m r s) := by
  unfold setRef
  try dsimp only
  repeat' split
  all_goals simp [id applyRef_same, id finish_same, id refuse_same]
theorem opTorqueSet_same (t : Nat) (machine : Byte) (torque : U32) (s : State) : Same10 s (opTorqueSet t machine torque s) := by
  unfold opTorqueSet
  try dsimp only
  repeat' split
  all_goals simp [id refuse_same, id setRef_same]
theorem opSpeedSet_same (t : Nat) (machine : Byte) (speed : U32) (s : State) : Same10 s (opSpeedSet t machine speed s) := by
  unfold opSpeedSet
  try dsimp only
  repeat' split
  all_goals simp [id refuse_same, id setRef_same]
theorem commandSafe_same (ix : Nat) (src : U16) (sc : Scope) (s : State) : Same1 s (commandSafe ix src sc s) := by
  unfold commandSafe
  try dsimp only
  repeat' split
  all_goals simp [id addLockout_same, id openContactors_same, id override_same, id raise0508_same, id recordEvent_same]
theorem opSafeState_same (t : Nat) (scope index : Byte) (s : State) : Same1 s (opSafeState t scope index s) := by
  unfold opSafeState
  try dsimp only
  repeat' split
  all_goals simp [id commandSafe_same, id finish_same, id refuse_same]
theorem startMachine_same (t m : Nat) (d : Int) (s : State) : Same10 s (startMachine t m d s) := by
  unfold startMachine
  try dsimp only
  repeat' split
  all_goals simp [id accept_same, id autoStart_same, id modMach_same, id refuse_same]
theorem opStart_same (t : Nat) (machine dir : Byte) (s : State) : Same10 s (opStart t machine dir s) := by
  unfold opStart
  try dsimp only
  repeat' split
  all_goals simp [id refuse_same, id startMachine_same]
theorem beginPluck_same (m : Nat) (testOnly : Bool) (s : State) : Same3 s (beginPluck m testOnly s) := by
  unfold beginPluck
  try dsimp only
  repeat' split
  all_goals simp [id modMach_same]
theorem pluckMachine_same (t m : Nat) (s : State) : Same10 s (pluckMachine t m s) := by
  unfold pluckMachine
  try dsimp only
  repeat' split
  all_goals simp [id accept_same, id beginPluck_same, id modMach_same, id refuse_same]
theorem opPluckTest_same (t : Nat) (machine : Byte) (s : State) : Same10 s (opPluckTest t machine s) := by
  unfold opPluckTest
  try dsimp only
  repeat' split
  all_goals simp [id pluckMachine_same]
theorem retireBridge_same (b leg : Nat) (s : State) : Same5 s (retireBridge b leg s) := by
  unfold retireBridge
  try dsimp only
  repeat' split
  all_goals simp [id modBridge_same]
theorem retireLegOrBridge_same (t b leg : Nat) (index : Byte) (s : State) : Same70 s (retireLegOrBridge t b leg index s) := by
  unfold retireLegOrBridge
  try dsimp only
  repeat' split
  all_goals simp [id accept_same, id finish_same, id modMach_same, id refuse_same, id retireBridge_same]
theorem retireIf_same (t p : Nat) (s : State) : Same58 s (retireIf t p s) := by
  unfold retireIf
  try dsimp only
  repeat' split
  all_goals simp [id finish_same, id handToObserver_same, id modPos_same, id refuse_same, id stopPouts_same]
theorem opRetire_same (t : Nat) (kind index : Byte) (s : State) : Same58 s (opRetire t kind index s) := by
  unfold opRetire
  try dsimp only
  repeat' split
  all_goals simp [id refuse_same, id retireIf_same, id retireLegOrBridge_same]
theorem execRetireRampEnd_same (m : Fin 8) (s : State) : OutAll (fun t => Same16 s t) (execRetireRampEnd m s) := by
  unfold execRetireRampEnd
  try dsimp only
  repeat' split
  all_goals simp [id finishOpt_same, id modMach_same, id overrideBridge_same, id retireBridge_same]
theorem returnBridge_same (b : Nat) (s : State) : Same5 s (returnBridge b s) := by
  unfold returnBridge
  try dsimp only
  repeat' split
  all_goals simp [id modBridge_same]
theorem remapLeg_same (t l r : Nat) (index : Byte) (s : State) : Same44 s (remapLeg t l r index s) := by
  unfold remapLeg
  try dsimp only
  repeat' split
  all_goals simp [id finish_same, id refuse_same, id returnBridge_same]
theorem remapBridge_same (t b r : Nat) (index : Byte) (s : State) : Same44 s (remapBridge t b r index s) := by
  unfold remapBridge
  try dsimp only
  repeat' split
  all_goals simp [id finish_same, id modBridge_same, id refuse_same, id returnBridge_same]
theorem initPos_same (p : Nat) (s : State) : Same71 s (initPos p s) := by
  unfold initPos
  try dsimp only
  repeat' split
  all_goals simp [id modPos_same, id stopPouts_same]
theorem remapIf_same (t n r : Nat) (index : Byte) (s : State) : (remapIf t n r index s).pins = s.pins ∧ (remapIf t n r index s).dev = s.dev ∧ (remapIf t n r index s).time.dev = s.time.dev ∧ (remapIf t n r index s).time.rtc = s.time.rtc ∧ (remapIf t n r index s).bankA = s.bankA ∧ (remapIf t n r index s).bankB = s.bankB ∧ (remapIf t n r index s).cmps = s.cmps ∧ (remapIf t n r index s).temps = s.temps ∧ (remapIf t n r index s).clk = s.clk ∧ (remapIf t n r index s).pwr = s.pwr ∧ (remapIf t n r index s).proto.sess = s.proto.sess ∧ (remapIf t n r index s).net.can = s.net.can ∧ (remapIf t n r index s).net.eth = s.net.eth ∧ (remapIf t n r index s).net.rest = s.net.rest ∧ (remapIf t n r index s).bridges = s.bridges ∧ (remapIf t n r index s).machs = s.machs ∧ (remapIf t n r index s).chans = s.chans ∧ (remapIf t n r index s).lgs = s.lgs ∧ (remapIf t n r index s).ctds = s.ctds ∧ (remapIf t n r index s).safety = s.safety ∧ (remapIf t n r index s).recd = s.recd := by
  unfold remapIf
  try dsimp only
  repeat' split
  all_goals simp [id finish_same, id initPos_same, id modPos_same, id refuse_same]
theorem opRemap_same (t : Nat) (kind retired repl : Byte) (s : State) : (opRemap t kind retired repl s).pins = s.pins ∧ (opRemap t kind retired repl s).dev = s.dev ∧ (opRemap t kind retired repl s).time.dev = s.time.dev ∧ (opRemap t kind retired repl s).time.rtc = s.time.rtc ∧ (opRemap t kind retired repl s).bankA = s.bankA ∧ (opRemap t kind retired repl s).bankB = s.bankB ∧ (opRemap t kind retired repl s).cmps = s.cmps ∧ (opRemap t kind retired repl s).temps = s.temps ∧ (opRemap t kind retired repl s).clk = s.clk ∧ (opRemap t kind retired repl s).pwr = s.pwr ∧ (opRemap t kind retired repl s).proto.sess = s.proto.sess ∧ (opRemap t kind retired repl s).net.can = s.net.can ∧ (opRemap t kind retired repl s).net.eth = s.net.eth ∧ (opRemap t kind retired repl s).net.rest = s.net.rest ∧ (opRemap t kind retired repl s).machs = s.machs ∧ (opRemap t kind retired repl s).chans = s.chans ∧ (opRemap t kind retired repl s).lgs = s.lgs ∧ (opRemap t kind retired repl s).ctds = s.ctds ∧ (opRemap t kind retired repl s).safety = s.safety ∧ (opRemap t kind retired repl s).recd = s.recd := by
  unfold opRemap
  try dsimp only
  repeat' split
  all_goals simp [id refuse_same, id remapBridge_same, id remapIf_same, id remapLeg_same]
theorem execOrderlyStopEnd_same (m : Fin 8) (s : State) : OutAll (fun t => Same1 s t) (execOrderlyStopEnd m s) := by
  unfold execOrderlyStopEnd
  try dsimp only
  repeat' split
  all_goals simp [id override_same, id raise0508_same]
theorem execArm_same (h : Hdr) (machine : Byte) (s : State) : OutAll (fun t => Same59 s t) (execArm h machine s) := by
  unfold execArm
  try dsimp only
  repeat' split
  all_goals simp [id opArm_same]
theorem execDisarm_same (h : Hdr) (machine : Byte) (s : State) : OutAll (fun t => Same2 s t) (execDisarm h machine s) := by
  unfold execDisarm
  try dsimp only
  repeat' split
  all_goals simp [id opDisarm_same]
theorem execTorqueSet_same (h : Hdr) (machine : Byte) (torque : U32) (s : State) : OutAll (fun t => Same2 s t) (execTorqueSet h machine torque s) := by
  unfold execTorqueSet
  try dsimp only
  repeat' split
  all_goals simp [id opTorqueSet_same]
theorem execSpeedSet_same (h : Hdr) (machine : Byte) (speed : U32) (s : State) : OutAll (fun t => Same2 s t) (execSpeedSet h machine speed s) := by
  unfold execSpeedSet
  try dsimp only
  repeat' split
  all_goals simp [id opSpeedSet_same]
theorem execSafeState_same (h : Hdr) (scope index : Byte) (s : State) : OutAll (fun t => Same2 s t) (execSafeState h scope index s) := by
  unfold execSafeState
  try dsimp only
  repeat' split
  all_goals simp [id opSafeState_same]
theorem execStart_same (h : Hdr) (machine dir : Byte) (s : State) : OutAll (fun t => Same2 s t) (execStart h machine dir s) := by
  unfold execStart
  try dsimp only
  repeat' split
  all_goals simp [id opStart_same]
theorem execPluckTest_same (h : Hdr) (machine : Byte) (s : State) : OutAll (fun t => Same2 s t) (execPluckTest h machine s) := by
  unfold execPluckTest
  try dsimp only
  repeat' split
  all_goals simp [id opPluckTest_same]
theorem execRetire_same (h : Hdr) (kind index : Byte) (s : State) : OutAll (fun t => Same72 s t) (execRetire h kind index s) := by
  unfold execRetire
  try dsimp only
  repeat' split
  all_goals simp [id opRetire_same]
theorem execRemap_same (h : Hdr) (kind retired repl : Byte) (s : State) : OutAll (fun t => Same72 s t) (execRemap h kind retired repl s) := by
  unfold execRemap
  try dsimp only
  repeat' split
  all_goals simp [id opRemap_same]

/-! ### Machine/Position.lean -/

theorem compareUnit_same (u theta : Nat) (delta : Int) (t0 : Nat) (s : State) : Same42 s (compareUnit u theta delta t0 s) := by
  unfold compareUnit
  try dsimp only
  repeat' split
  all_goals simp [id modCmp_same]
theorem compareUnits_same (p theta : Nat) (delta : Int) (t0 : Nat) (s : State) : Same42 s (compareUnits p theta delta t0 s) := by
  unfold compareUnits
  try dsimp only
  repeat' split
  all_goals simp [id compareUnit_same]
theorem feedPout_same (delta : Int) (k : Nat) (s : State) : Same73 s (feedPout delta k s) := by
  simp only [feedPout]
  repeat' split
  all_goals simp [id modPout_same, id note_same]
theorem feedPouts_same (p : Nat) (delta : Int) (s : State) : Same73 s (feedPouts p delta s) := by
  unfold feedPouts
  try dsimp only
  repeat' split
  all_goals simp [id feedPout_same]
theorem showCount_same (k : Nat) (up : Bool) (s : State) : Same74 s (showCount k up s) := by
  unfold showCount
  try dsimp only
  repeat' split
  all_goals simp [id emit_same, id modPout_same]
theorem execDividedOutputEmit_same (k : Fin 4) (s : State) : OutAll (fun t => Same74 s t) (execDividedOutputEmit k s) := by
  unfold execDividedOutputEmit
  try dsimp only
  repeat' split
  all_goals simp [id modPout_same, id showCount_same]
theorem poutTick_same (k : Nat) (s : State) : Same54 s (poutTick k s) := by
  unfold poutTick
  try dsimp only
  repeat' split
  all_goals simp [id modPout_same]
theorem fireCmp_same (u : Nat) (late fwd : Bool) (time angle : Nat) (s : State) : Same34 s (fireCmp u late fwd time angle s) := by
  unfold fireCmp
  try dsimp only
  repeat' split
  all_goals simp [id emit_same, id modCmp_same, id modPout_same, id recordLimited_same]
theorem fireHit_same (u : Nat) (s : State) : Same34 s (fireHit u s) := by
  unfold fireHit
  try dsimp only
  repeat' split
  all_goals simp [id fireCmp_same]
theorem loseAngle_same (p m : Nat) (s : State) : Same1 s (loseAngle p m s) := by
  unfold loseAngle
  try dsimp only
  repeat' split
  all_goals simp [id handToObserver_same, id raiseFault_same]
theorem abortUnits_same (p : Nat) (s : State) : Same34 s (abortUnits p s) := by
  unfold abortUnits
  try dsimp only
  repeat' split
  all_goals simp [id fireHit_same, id modCmp_same]
theorem recordFaulty_same (cause p : Nat) (s : State) : Same4 s (recordFaulty cause p s).2 := by
  unfold recordFaulty
  try dsimp only
  repeat' split
  all_goals simp [id recordEvent_same]
theorem actFaulty_same (p : Nat) (e : Esn) (s : State) : Same7 s (actFaulty p e s) := by
  unfold actFaulty
  try dsimp only
  repeat' split
  all_goals simp [id abortUnits_same, id loseAngle_same, id modPos_same, id reactSrc_same, id stopPouts_same]
theorem declareFaulty_same (cause p : Nat) (s : State) : Same7 s (declareFaulty cause p s) := by
  unfold declareFaulty
  try dsimp only
  repeat' split
  all_goals simp [id actFaulty_same, id recordFaulty_same]
theorem posFault_same (code p : Nat) (s : State) : Same7 s (posFault code p s) := by
  unfold posFault
  try dsimp only
  repeat' split
  all_goals simp [id actFaulty_same, id reactSrc_same, id recordEvent_same, id recordFaulty_same]
theorem failCheck_same (p : Nat) (s : State) : Same21 s (failCheck p s) := by
  unfold failCheck
  try dsimp only
  repeat' split
  all_goals simp [id modPos_same]
theorem execInterfaceRecovery_same (p : Fin 8) (s : State) : OutAll (fun t => Same71 s t) (execInterfaceRecovery p s) := by
  unfold execInterfaceRecovery
  try dsimp only
  repeat' split
  all_goals simp [id initPos_same]
theorem acceptEdge_same (p : Nat) (delta : Int) (s : State) : Same58 s (acceptEdge p delta s) := by
  unfold acceptEdge
  try dsimp only
  repeat' split
  all_goals simp [id feedPouts_same, id modPos_same]
theorem edgeAngle_same (p theta : Nat) (s : State) : (edgeAngle p theta s).pins = s.pins ∧ (edgeAngle p theta s).dev = s.dev ∧ (edgeAngle p theta s).time.dev = s.time.dev ∧ (edgeAngle p theta s).time.rtc = s.time.rtc ∧ (edgeAngle p theta s).bankA = s.bankA ∧ (edgeAngle p theta s).bankB = s.bankB ∧ (edgeAngle p theta s).pouts = s.pouts ∧ (edgeAngle p theta s).temps = s.temps ∧ (edgeAngle p theta s).store = s.store ∧ (edgeAngle p theta s).clk = s.clk ∧ (edgeAngle p theta s).pwr = s.pwr ∧ (edgeAngle p theta s).proto.sess = s.proto.sess ∧ (edgeAngle p theta s).proto.ctx = s.proto.ctx ∧ (edgeAngle p theta s).proto.left = s.proto.left ∧ (edgeAngle p theta s).net.can = s.net.can ∧ (edgeAngle p theta s).net.eth = s.net.eth ∧ (edgeAngle p theta s).net.canTx = s.net.canTx ∧ (edgeAngle p theta s).net.egress = s.net.egress ∧ (edgeAngle p theta s).net.rest = s.net.rest ∧ (edgeAngle p theta s).bridges = s.bridges ∧ (edgeAngle p theta s).machs = s.machs ∧ (edgeAngle p theta s).chans = s.chans ∧ (edgeAngle p theta s).lgs = s.lgs ∧ (edgeAngle p theta s).ctds = s.ctds ∧ (edgeAngle p theta s).safety = s.safety ∧ (edgeAngle p theta s).recd = s.recd ∧ (edgeAngle p theta s).out = s.out := by
  unfold edgeAngle
  try dsimp only
  repeat' split
  all_goals simp [id compareUnits_same, id modPos_same]
theorem countEdge_same (p : Nat) (delta : Int) (s : State) : Same7 s (countEdge p delta s) := by
  unfold countEdge
  try dsimp only
  repeat' split
  all_goals simp [id acceptEdge_same, id edgeAngle_same]
theorem takeIndex_same (p : Nat) (s : State) : Same7 s (takeIndex p s) := by
  unfold takeIndex
  try dsimp only
  repeat' split
  all_goals simp [id failCheck_same, id modPos_same, id note_same, id posFault_same]
theorem execIndexMark_same (p : Fin 8) (s : State) : OutAll (fun t => Same7 s t) (execIndexMark p s) := by
  unfold execIndexMark
  try dsimp only
  repeat' split
  all_goals simp [id takeIndex_same]
theorem countBad_same (code p : Nat) (s : State) : Same60 s (countBad code p s) := by
  unfold countBad
  try dsimp only
  repeat' split
  all_goals simp [id failCheck_same, id modPos_same, id note_same]
theorem takeLevels_same (p : Nat) (a b : Bool) (s : State) : Same7 s (takeLevels p a b s) := by
  unfold takeLevels
  try dsimp only
  repeat' split
  all_goals simp [id countBad_same, id countEdge_same, id modPos_same]
theorem execQuadEdge_same (p : Fin 8) (a b : Bool) (held : Nat) (s : State) : OutAll (fun t => Same7 s t) (execQuadEdge p a b held s) := by
  unfold execQuadEdge
  try dsimp only
  repeat' split
  all_goals simp [id takeLevels_same]
theorem execIllegalTransition_same (p : Fin 8) (held : Nat) (z : Bool) (s : State) : OutAll (fun t => Same7 s t) (execIllegalTransition p held z s) := by
  unfold execIllegalTransition
  try dsimp only
  repeat' split
  all_goals simp [id failCheck_same, id modPos_same, id takeIndex_same, id takeLevels_same]
theorem execIllegalEventLimit_same (p : Fin 8) (s : State) : OutAll (fun t => Same7 s t) (execIllegalEventLimit p s) := by
  unfold execIllegalEventLimit
  try dsimp only
  repeat' split
  all_goals simp [id declareFaulty_same]
theorem badHall_same (p : Nat) (state : BitVec 3) (s : State) : Same60 s (badHall p state s) := by
  unfold badHall
  try dsimp only
  repeat' split
  all_goals simp [id countBad_same, id modPos_same]
theorem enterSector_same (p k : Nat) (state : BitVec 3) (fwd : Bool) (s : State) : Same7 s (enterSector p k state fwd s) := by
  unfold enterSector
  try dsimp only
  repeat' split
  all_goals simp [id acceptEdge_same, id edgeAngle_same, id modPos_same]
theorem takeHall_same (p : Nat) (state : BitVec 3) (s : State) : Same7 s (takeHall p state s) := by
  unfold takeHall
  try dsimp only
  repeat' split
  all_goals simp [id badHall_same, id enterSector_same, id modPos_same]
theorem watchHall_same (p : Nat) (state : BitVec 3) (s : State) : Same21 s (watchHall p state s) := by
  unfold watchHall
  try dsimp only
  repeat' split
  all_goals simp [id failCheck_same, id modPos_same]
theorem execHallEdge_same (p : Fin 8) (state : BitVec 3) (heldUs : Nat) (s : State) : OutAll (fun t => Same7 s t) (execHallEdge p state heldUs s) := by
  unfold execHallEdge
  try dsimp only
  repeat' split
  all_goals simp [id takeHall_same, id watchHall_same]
theorem execHallInvalid_same (p : Fin 8) (state : BitVec 3) (heldUs : Nat) (s : State) : OutAll (fun t => Same60 s t) (execHallInvalid p state heldUs s) := by
  unfold execHallInvalid
  try dsimp only
  repeat' split
  all_goals simp [id badHall_same, id watchHall_same]
theorem execHallInvalidHeld_same (p : Fin 8) (s : State) : OutAll (fun t => Same7 s t) (execHallInvalidHeld p s) := by
  unfold execHallInvalidHeld
  try dsimp only
  repeat' split
  all_goals simp [id declareFaulty_same]
theorem takePair_same (p : Nat) (raw : Int × Int) (s : State) : Same7 s (takePair p raw s) := by
  unfold takePair
  try dsimp only
  repeat' split
  all_goals simp [id failCheck_same, id modPos_same, id posFault_same]
theorem execAmplitudeWindowFault_same (p : Fin 8) (pairs : List (Int × Int)) (s : State) : OutAll (fun t => Same7 s t) (execAmplitudeWindowFault p pairs s) := by
  unfold execAmplitudeWindowFault
  try dsimp only
  repeat' split
  all_goals simp [id takePair_same]
theorem takePeriod_same (p : Nat) (o : Nat × Nat) (s : State) : Same7 s (takePeriod p o s) := by
  unfold takePeriod
  try dsimp only
  repeat' split
  all_goals simp [id failCheck_same, id modPos_same, id posFault_same]
theorem execExcitationFault_same (p : Fin 8) (periods : List (Nat × Nat)) (s : State) : OutAll (fun t => Same7 s t) (execExcitationFault p periods s) := by
  unfold execExcitationFault
  try dsimp only
  repeat' split
  all_goals simp [id takePeriod_same]
theorem trackStep_same (p : Nat) (s : State) : Same7 s (trackStep p s) := by
  unfold trackStep
  try dsimp only
  repeat' split
  all_goals simp [id compareUnits_same, id feedPouts_same, id modPos_same]
theorem trackTick_same (p : Nat) (s : State) : Same7 s (trackTick p s) := by
  unfold trackTick
  try dsimp only
  repeat' split
  all_goals simp [id trackStep_same]
theorem execInputFrequencyLimit_same (p : Fin 8) (s : State) : OutAll (fun t => Same7 s t) (execInputFrequencyLimit p s) := by
  unfold execInputFrequencyLimit
  try dsimp only
  repeat' split
  all_goals simp [id failCheck_same, id posFault_same]
theorem execTrackingLock_same (p : Fin 8) (phase : Nat) (s : State) : OutAll (fun t => Same21 s t) (execTrackingLock p phase s) := by
  unfold execTrackingLock
  try dsimp only
  repeat' split
  all_goals simp [id modPos_same]
theorem passSpeed_same (p : Nat) (s : State) : Same3 s (passSpeed p s) := by
  unfold passSpeed
  try dsimp only
  repeat' split
  all_goals simp [id modMach_same]
theorem measureSpeed_same (f p tEnd : Nat) (s : State) : Same21 s (measureSpeed f p tEnd s) := by
  unfold measureSpeed
  try dsimp only
  repeat' split
  all_goals simp [id modPos_same]
theorem execSpeedWindow_same (p : Fin 8) (s : State) : OutAll (fun t => Same75 s t) (execSpeedWindow p s) := by
  unfold execSpeedWindow
  try dsimp only
  repeat' split
  all_goals simp [id drawFree_same, id measureSpeed_same, id modPos_same, id passSpeed_same]
theorem execSpeedZeroTimeout_same (p : Fin 8) (s : State) : OutAll (fun t => Same75 s t) (execSpeedZeroTimeout p s) := by
  unfold execSpeedZeroTimeout
  try dsimp only
  repeat' split
  all_goals simp [id modPos_same, id passSpeed_same]
theorem loadCmp_same (u target : Nat) (rep : Bool) (s : State) : Same34 s (loadCmp u target rep s) := by
  unfold loadCmp
  try dsimp only
  repeat' split
  all_goals simp [id fireCmp_same, id modCmp_same]
theorem execCompareLoad_same (u : Fin 16) (s : State) : OutAll (fun t => Same34 s t) (execCompareLoad u s) := by
  unfold execCompareLoad
  try dsimp only
  repeat' split
  all_goals simp [id fireHit_same, id loadCmp_same]
theorem execCompareFire_same (u : Fin 16) (s : State) : OutAll (fun t => Same34 s t) (execCompareFire u s) := by
  unfold execCompareFire
  try dsimp only
  repeat' split
  all_goals simp [id fireHit_same]
theorem execCompareRearm_same (u : Fin 16) (s : State) : OutAll (fun t => Same42 s t) (execCompareRearm u s) := by
  unfold execCompareRearm
  try dsimp only
  repeat' split
  all_goals simp [id modCmp_same]
theorem opCmpArm_same (t : Nat) (unit form : Byte) (target : U32) (s : State) : (opCmpArm t unit form target s).pins = s.pins ∧ (opCmpArm t unit form target s).dev = s.dev ∧ (opCmpArm t unit form target s).time.dev = s.time.dev ∧ (opCmpArm t unit form target s).time.rtc = s.time.rtc ∧ (opCmpArm t unit form target s).bankA = s.bankA ∧ (opCmpArm t unit form target s).bankB = s.bankB ∧ (opCmpArm t unit form target s).pos = s.pos ∧ (opCmpArm t unit form target s).temps = s.temps ∧ (opCmpArm t unit form target s).store = s.store ∧ (opCmpArm t unit form target s).clk = s.clk ∧ (opCmpArm t unit form target s).pwr = s.pwr ∧ (opCmpArm t unit form target s).proto.sess = s.proto.sess ∧ (opCmpArm t unit form target s).net.can = s.net.can ∧ (opCmpArm t unit form target s).net.eth = s.net.eth ∧ (opCmpArm t unit form target s).net.rest = s.net.rest ∧ (opCmpArm t unit form target s).bridges = s.bridges ∧ (opCmpArm t unit form target s).machs = s.machs ∧ (opCmpArm t unit form target s).chans = s.chans ∧ (opCmpArm t unit form target s).lgs = s.lgs ∧ (opCmpArm t unit form target s).ctds = s.ctds ∧ (opCmpArm t unit form target s).safety = s.safety := by
  unfold opCmpArm
  try dsimp only
  repeat' split
  all_goals simp [id finish_same, id fireHit_same, id modCmp_same, id refuse_same]
theorem opCmpStatus_same (t : Nat) (unit : Byte) (s : State) : Same6 s (opCmpStatus t unit s) := by
  unfold opCmpStatus
  try dsimp only
  repeat' split
  all_goals simp [id finish_same, id refuse_same]
theorem execCmpArm_same (h : Hdr) (unit form : Byte) (target : U32) (s : State) : OutAll (fun t => t.pins = s.pins ∧ t.dev = s.dev ∧ t.time.dev = s.time.dev ∧ t.time.rtc = s.time.rtc ∧ t.bankA = s.bankA ∧ t.bankB = s.bankB ∧ t.pos = s.pos ∧ t.temps = s.temps ∧ t.pwr = s.pwr ∧ t.net.can = s.net.can ∧ t.net.eth = s.net.eth ∧ t.net.rest = s.net.rest) (execCmpArm h unit form target s) := by
  unfold execCmpArm
  try dsimp only
  repeat' split
  all_goals simp [id opCmpArm_same]
theorem execCmpStatus_same (h : Hdr) (unit : Byte) (s : State) : OutAll (fun t => Same2 s t) (execCmpStatus h unit s) := by
  unfold execCmpStatus
  try dsimp only
  repeat' split
  all_goals simp [id opCmpStatus_same]

/-! ### Machine/System.lean -/

theorem opIdentify_same (t : Nat) (s : State) : Same6 s (opIdentify t s) := by
  unfold opIdentify
  try dsimp only
  repeat' split
  all_goals simp [id finish_same]
theorem opGetState_same (t : Nat) (s : State) : Same6 s (opGetState t s) := by
  unfold opGetState
  try dsimp only
  repeat' split
  all_goals simp [id drawFree_same, id finish_same]
theorem opServiceEnter_same (t : Nat) (s : State) : (opServiceEnter t s).pins = s.pins ∧ (opServiceEnter t s).time.dev = s.time.dev ∧ (opServiceEnter t s).time.rtc = s.time.rtc ∧ (opServiceEnter t s).bankA = s.bankA ∧ (opServiceEnter t s).bankB = s.bankB ∧ (opServiceEnter t s).pos = s.pos ∧ (opServiceEnter t s).pouts = s.pouts ∧ (opServiceEnter t s).cmps = s.cmps ∧ (opServiceEnter t s).temps = s.temps ∧ (opServiceEnter t s).store = s.store ∧ (opServiceEnter t s).clk = s.clk ∧ (opServiceEnter t s).pwr = s.pwr ∧ (opServiceEnter t s).proto.sess = s.proto.sess ∧ (opServiceEnter t s).net.can = s.net.can ∧ (opServiceEnter t s).net.eth = s.net.eth ∧ (opServiceEnter t s).net.rest = s.net.rest ∧ (opServiceEnter t s).bridges = s.bridges ∧ (opServiceEnter t s).machs = s.machs ∧ (opServiceEnter t s).chans = s.chans ∧ (opServiceEnter t s).lgs = s.lgs ∧ (opServiceEnter t s).ctds = s.ctds ∧ (opServiceEnter t s).safety = s.safety := by
  unfold opServiceEnter
  try dsimp only
  repeat' split
  all_goals simp [id finish_same, id noteService_same, id refuse_same]
theorem opServiceLeave_same (t : Nat) (s : State) : Same76 s (opServiceLeave t s) := by
  unfold opServiceLeave
  try dsimp only
  repeat' split
  all_goals simp [id finish_same, id refuse_same]
theorem opReset_same (t : Nat) (arg : Byte) (s : State) : Same76 s (opReset t arg s) := by
  unfold opReset
  try dsimp only
  repeat' split
  all_goals simp [id finish_same, id refuse_same]
theorem opCtxQuery_same (t : Nat) (tag : Byte) (s : State) : Same6 s (opCtxQuery t tag s) := by
  unfold opCtxQuery
  try dsimp only
  repeat' split
  all_goals simp [id finish_same, id refuse_same]
theorem execIdentify_same (h : Hdr) (s : State) : OutAll (fun t => Same2 s t) (execIdentify h s) := by
  unfold execIdentify
  try dsimp only
  repeat' split
  all_goals simp [id opIdentify_same]
theorem execGetState_same (h : Hdr) (s : State) : OutAll (fun t => Same2 s t) (execGetState h s) := by
  unfold execGetState
  try dsimp only
  repeat' split
  all_goals simp [id opGetState_same]
theorem execSetOpModeEnter_same (h : Hdr) (s : State) : OutAll (fun t => Same61 s t) (execSetOpModeEnter h s) := by
  unfold execSetOpModeEnter
  try dsimp only
  repeat' split
  all_goals simp [id opServiceEnter_same]
theorem execSetOpModeLeave_same (h : Hdr) (s : State) : OutAll (fun t => Same61 s t) (execSetOpModeLeave h s) := by
  unfold execSetOpModeLeave
  try dsimp only
  repeat' split
  all_goals simp [id opServiceLeave_same]
theorem execReset_same (h : Hdr) (arg : Byte) (s : State) : OutAll (fun t => Same61 s t) (execReset h arg s) := by
  unfold execReset
  try dsimp only
  repeat' split
  all_goals simp [id opReset_same]
theorem execCtxQuery_same (h : Hdr) (tag : Byte) (s : State) : OutAll (fun t => Same2 s t) (execCtxQuery h tag s) := by
  unfold execCtxQuery
  try dsimp only
  repeat' split
  all_goals simp [id opCtxQuery_same]

end Sys2Proof.Machine
end

