-- ==== Sys2Proof/Laws/SamePower.lean ====
section
/-! SUPPORT. One lemma per function: the same: Machine/Power, Clocks, Islands, Sense, Discharge. -/

namespace Sys2Proof.Machine

set_option linter.unusedTactic false
set_option linter.unusedSimpArgs false

/-! ### Machine/Power.lean -/

theorem loseNetwork_same (keep : Bool) (s : State) : (loseNetwork keep s).pins = s.pins ∧ (loseNetwork keep s).dev = s.dev ∧ (loseNetwork keep s).time.dev = s.time.dev ∧ (loseNetwork keep s).time.rtc = s.time.rtc ∧ (loseNetwork keep s).bankA = s.bankA ∧ (loseNetwork keep s).bankB = s.bankB ∧ (loseNetwork keep s).pos = s.pos ∧ (loseNetwork keep s).pouts = s.pouts ∧ (loseNetwork keep s).cmps = s.cmps ∧ (loseNetwork keep s).temps = s.temps ∧ (loseNetwork keep s).clk = s.clk ∧ (loseNetwork keep s).pwr = s.pwr ∧ (loseNetwork keep s).bridges = s.bridges ∧ (loseNetwork keep s).chans = s.chans ∧ (loseNetwork keep s).lgs = s.lgs ∧ (loseNetwork keep s).ctds = s.ctds ∧ (loseNetwork keep s).safety = s.safety ∧ (loseNetwork keep s).recd = s.recd ∧ (loseNetwork keep s).out = s.out := by
  unfold loseNetwork
  try dsimp only
  repeat' split
  all_goals simp [id closeSession_same]
theorem startCan_same (s : State) : Same36 s (startCan s) := by
  unfold startCan
  try dsimp only
  repeat' split
  all_goals simp
theorem loseFe_same (n : Nat) (keep : Bool) (s : State) : (loseFe n keep s).pins = s.pins ∧ (loseFe n keep s).dev = s.dev ∧ (loseFe n keep s).time.dev = s.time.dev ∧ (loseFe n keep s).time.rtc = s.time.rtc ∧ (loseFe n keep s).bankA = s.bankA ∧ (loseFe n keep s).bankB = s.bankB ∧ (loseFe n keep s).cmps = s.cmps ∧ (loseFe n keep s).temps = s.temps ∧ (loseFe n keep s).store = s.store ∧ (loseFe n keep s).clk = s.clk ∧ (loseFe n keep s).pwr = s.pwr ∧ (loseFe n keep s).proto.sess = s.proto.sess ∧ (loseFe n keep s).proto.ctx = s.proto.ctx ∧ (loseFe n keep s).proto.left = s.proto.left ∧ (loseFe n keep s).net.can = s.net.can ∧ (loseFe n keep s).net.eth = s.net.eth ∧ (loseFe n keep s).net.canTx = s.net.canTx ∧ (loseFe n keep s).net.egress = s.net.egress ∧ (loseFe n keep s).net.rest = s.net.rest ∧ (loseFe n keep s).lgs = s.lgs ∧ (loseFe n keep s).ctds = s.ctds ∧ (loseFe n keep s).safety = s.safety ∧ (loseFe n keep s).recd = s.recd ∧ (loseFe n keep s).out = s.out := by
  unfold loseFe
  try dsimp only
  repeat' split
  all_goals simp [id modBridge_same, id modChan_same, id modMach_same, id modPos_same, id stopPouts_same, id switchesOff_same]
theorem leaveOn_same (n : Nat) (keep : Bool) (s : State) : (leaveOn n keep s).pins = s.pins ∧ (leaveOn n keep s).dev = s.dev ∧ (leaveOn n keep s).time.dev = s.time.dev ∧ (leaveOn n keep s).time.rtc = s.time.rtc ∧ (leaveOn n keep s).cmps = s.cmps ∧ (leaveOn n keep s).temps = s.temps ∧ (leaveOn n keep s).clk = s.clk ∧ (leaveOn n keep s).pwr = s.pwr ∧ (leaveOn n keep s).ctds = s.ctds ∧ (leaveOn n keep s).safety = s.safety ∧ (leaveOn n keep s).recd = s.recd ∧ (leaveOn n keep s).out = s.out := by
  unfold leaveOn
  try dsimp only
  repeat' split
  all_goals simp [id choppersOff_same, id loseFe_same, id loseNetwork_same]
theorem retrain_same (c : Nat) (s : State) : Same11 s (retrain c s) := by
  unfold retrain
  try dsimp only
  repeat' split
  all_goals simp [id drawFree_same, id modChan_same]
theorem returnFe_same (b : Nat) (s : State) : (returnFe b s).pins = s.pins ∧ (returnFe b s).dev = s.dev ∧ (returnFe b s).time.dev = s.time.dev ∧ (returnFe b s).time.rtc = s.time.rtc ∧ (returnFe b s).bankA = s.bankA ∧ (returnFe b s).bankB = s.bankB ∧ (returnFe b s).cmps = s.cmps ∧ (returnFe b s).temps = s.temps ∧ (returnFe b s).store = s.store ∧ (returnFe b s).clk = s.clk ∧ (returnFe b s).pwr = s.pwr ∧ (returnFe b s).proto.sess = s.proto.sess ∧ (returnFe b s).proto.ctx = s.proto.ctx ∧ (returnFe b s).proto.left = s.proto.left ∧ (returnFe b s).net.can = s.net.can ∧ (returnFe b s).net.eth = s.net.eth ∧ (returnFe b s).net.canTx = s.net.canTx ∧ (returnFe b s).net.egress = s.net.egress ∧ (returnFe b s).net.rest = s.net.rest ∧ (returnFe b s).machs = s.machs ∧ (returnFe b s).lgs = s.lgs ∧ (returnFe b s).ctds = s.ctds ∧ (returnFe b s).safety = s.safety ∧ (returnFe b s).recd = s.recd ∧ (returnFe b s).out = s.out := by
  unfold returnFe
  try dsimp only
  repeat' split
  all_goals simp [id initPos_same, id modBridge_same, id retrain_same]
theorem domainOn_same (n : Nat) (s : State) : (domainOn n s).pins = s.pins ∧ (domainOn n s).dev = s.dev ∧ (domainOn n s).time.dev = s.time.dev ∧ (domainOn n s).time.rtc = s.time.rtc ∧ (domainOn n s).bankA = s.bankA ∧ (domainOn n s).bankB = s.bankB ∧ (domainOn n s).cmps = s.cmps ∧ (domainOn n s).temps = s.temps ∧ (domainOn n s).store = s.store ∧ (domainOn n s).clk = s.clk ∧ (domainOn n s).proto.sess = s.proto.sess ∧ (domainOn n s).proto.ctx = s.proto.ctx ∧ (domainOn n s).proto.left = s.proto.left ∧ (domainOn n s).net.eth = s.net.eth ∧ (domainOn n s).net.canTx = s.net.canTx ∧ (domainOn n s).net.egress = s.net.egress ∧ (domainOn n s).net.rest = s.net.rest ∧ (domainOn n s).machs = s.machs ∧ (domainOn n s).lgs = s.lgs ∧ (domainOn n s).ctds = s.ctds ∧ (domainOn n s).safety = s.safety ∧ (domainOn n s).recd = s.recd ∧ (domainOn n s).out = s.out := by
  unfold domainOn
  try dsimp only
  repeat' split
  all_goals simp [id modDom_same, id returnFe_same, id startCan_same]
theorem changeDomain_same (n req hold : Nat) (s : State) : Same30 s (changeDomain n req hold s) := by
  unfold changeDomain
  try dsimp only
  repeat' split
  all_goals simp [id leaveOn_same, id modDom_same]
theorem requestDomain_same (n req hold : Nat) (s : State) : Same30 s (requestDomain n req hold s) := by
  unfold requestDomain
  try dsimp only
  repeat' split
  all_goals simp [id changeDomain_same, id modDom_same]
theorem execDomCtlRequest_same (n : Fin 16) (req : BitVec 2) (hold : U16) (s : State) : OutAll (fun t => Same30 s t) (execDomCtlRequest n req hold s) := by
  unfold execDomCtlRequest
  try dsimp only
  repeat' split
  all_goals simp [id requestDomain_same]
theorem opDomainSet_same (t : Nat) (domain request : Byte) (hold : U16) (s : State) : (opDomainSet t domain request hold s).pins = s.pins ∧ (opDomainSet t domain request hold s).dev = s.dev ∧ (opDomainSet t domain request hold s).time.dev = s.time.dev ∧ (opDomainSet t domain request hold s).time.rtc = s.time.rtc ∧ (opDomainSet t domain request hold s).cmps = s.cmps ∧ (opDomainSet t domain request hold s).temps = s.temps ∧ (opDomainSet t domain request hold s).clk = s.clk ∧ (opDomainSet t domain request hold s).ctds = s.ctds ∧ (opDomainSet t domain request hold s).safety = s.safety ∧ (opDomainSet t domain request hold s).recd = s.recd := by
  unfold opDomainSet
  try dsimp only
  repeat' split
  all_goals simp [id finish_same, id refuse_same, id requestDomain_same]
theorem returnD5_same (s : State) : Same30 s (returnD5 s) := by
  unfold returnD5
  try dsimp only
  repeat' split
  all_goals simp [id changeDomain_same]
theorem execD5HoldExpiry_same (cause : D5Return) (ms : Nat) (s : State) : OutAll (fun t => Same30 s t) (execD5HoldExpiry cause ms s) := by
  unfold execD5HoldExpiry
  try dsimp only
  repeat' split
  all_goals simp [id returnD5_same]
theorem wakeFailed_same (n : Nat) (s : State) : Same26 s (wakeFailed n s) := by
  unfold wakeFailed
  try dsimp only
  repeat' split
  all_goals simp [id addLockout_same, id allocEsn_same, id openContactors_same, id override_same, id raise0508_same, id recordEvent_same]
theorem noteWake_same (n : Nat) (s : State) : Same26 s (noteWake n s) := by
  unfold noteWake
  try dsimp only
  repeat' split
  all_goals simp [id note_same]
theorem writeHeldWakes_same (s : State) : Same77 s (writeHeldWakes s) := by
  unfold writeHeldWakes
  try dsimp only
  repeat' split
  all_goals simp [id recordAt_same]
theorem execDomainWakeDeadline_same (dom : Fin 16) (ticks : Nat) (regAt : Option Nat) (s : State) : OutAll (fun t => t.pins = s.pins ∧ t.dev = s.dev ∧ t.time.dev = s.time.dev ∧ t.time.rtc = s.time.rtc ∧ t.bankA = s.bankA ∧ t.bankB = s.bankB ∧ t.cmps = s.cmps ∧ t.temps = s.temps ∧ t.store = s.store ∧ t.clk = s.clk ∧ t.proto.sess = s.proto.sess ∧ t.net.eth = s.net.eth ∧ t.net.rest = s.net.rest) (execDomainWakeDeadline dom ticks regAt s) := by
  unfold execDomainWakeDeadline
  try dsimp only
  repeat' split
  all_goals simp [id domainOn_same, id modDom_same, id noteWake_same, id wakeFailed_same]
theorem execDomainWakeRetry_same (dom : Fin 16) (ticks : Nat) (s : State) : OutAll (fun t => Same15 s t) (execDomainWakeRetry dom ticks s) := by
  unfold execDomainWakeRetry
  try dsimp only
  repeat' split
  all_goals simp [id modDom_same]
theorem execRetentionRestore_same (dom : Fin 16) (crcOk : Bool) (s : State) : OutAll (fun t => t.pins = s.pins ∧ t.dev = s.dev ∧ t.time.dev = s.time.dev ∧ t.time.rtc = s.time.rtc ∧ t.cmps = s.cmps ∧ t.temps = s.temps ∧ t.clk = s.clk) (execRetentionRestore dom crcOk s) := by
  unfold execRetentionRestore
  try dsimp only
  repeat' split
  all_goals simp [id leaveOn_same, id modDom_same, id note_same, id returnFe_same, id startCan_same]
theorem execFeRestoreComplete_same (n : Fin 8) (us : Nat) (s : State) : OutAll (fun t => t.pins = s.pins ∧ t.dev = s.dev ∧ t.time.dev = s.time.dev ∧ t.time.rtc = s.time.rtc ∧ t.bankA = s.bankA ∧ t.bankB = s.bankB ∧ t.cmps = s.cmps ∧ t.temps = s.temps ∧ t.store = s.store ∧ t.clk = s.clk ∧ t.proto.sess = s.proto.sess ∧ t.proto.ctx = s.proto.ctx ∧ t.proto.left = s.proto.left ∧ t.net.can = s.net.can ∧ t.net.eth = s.net.eth ∧ t.net.canTx = s.net.canTx ∧ t.net.egress = s.net.egress ∧ t.net.rest = s.net.rest ∧ t.machs = s.machs ∧ t.lgs = s.lgs ∧ t.ctds = s.ctds ∧ t.safety = s.safety ∧ t.recd = s.recd ∧ t.out = s.out) (execFeRestoreComplete n us s) := by
  unfold execFeRestoreComplete
  try dsimp only
  repeat' split
  all_goals simp [id modDom_same, id returnFe_same]
theorem assignBridge_same (b : Nat) (s : State) : Same5 s (assignBridge b s) := by
  unfold assignBridge
  try dsimp only
  repeat' split
  all_goals simp [id modBridge_same]
theorem switchFe_same (before s : State) : Same30 s (switchFe before s) := by
  unfold switchFe
  try dsimp only
  repeat' split
  all_goals simp [id assignBridge_same, id changeDomain_same, id requestDomain_same]
theorem requestMain_same (point : Nat) (s : State) : Same15 s (requestMain point s) := by
  unfold requestMain
  try dsimp only
  repeat' split
  all_goals simp [id seekMain_same]
theorem requestMon_same (point : Nat) (s : State) : Same15 s (requestMon point s) := by
  unfold requestMon
  try dsimp only
  repeat' split
  all_goals simp [id seekMon_same]
theorem execOpPointRegRequest_same (pair : Pair) (point : BitVec 2) (s : State) : OutAll (fun t => Same15 s t) (execOpPointRegRequest pair point s) := by
  unfold execOpPointRegRequest
  try dsimp only
  repeat' split
  all_goals simp [id requestMain_same, id requestMon_same]
theorem opOpPoint_same (t : Nat) (pair point : Byte) (s : State) : Same78 s (opOpPoint t pair point s) := by
  unfold opOpPoint
  try dsimp only
  repeat' split
  all_goals simp [id finish_same, id refuse_same, id requestMain_same, id requestMon_same]
theorem settleMain_same (point : Nat) (s : State) : Same15 s (settleMain point s) := by
  unfold settleMain
  try dsimp only
  repeat' split
  all_goals simp [id seekMain_same]
theorem resumeArm_same (m : Nat) (s : State) : Same70 s (resumeArm m s) := by
  unfold resumeArm
  try dsimp only
  repeat' split
  all_goals simp [id finishOpt_same, id freshArm_same, id modMach_same, id startPrecharge_same]
theorem settleMon_same (point : Nat) (s : State) : Same26 s (settleMon point s) := by
  unfold settleMon
  try dsimp only
  repeat' split
  all_goals simp [id cascadeHold_same, id resumeArm_same, id seekMon_same]
theorem execOpPointTransitionDone_same (pair : Pair) (s : State) : OutAll (fun t => Same26 s t) (execOpPointTransitionDone pair s) := by
  unfold execOpPointTransitionDone
  try dsimp only
  repeat' split
  all_goals simp [id settleMain_same, id settleMon_same]
theorem execOpPointOverrun_same (pair : Pair) (us : Nat) (s : State) : OutAll (fun t => Same26 s t) (execOpPointOverrun pair us s) := by
  unfold execOpPointOverrun
  try dsimp only
  repeat' split
  all_goals simp [id note_same, id settleMain_same, id settleMon_same]
theorem execDomainSet_same (h : Hdr) (domain request : Byte) (hold : U16) (s : State) : OutAll (fun t => t.pins = s.pins ∧ t.dev = s.dev ∧ t.time.dev = s.time.dev ∧ t.time.rtc = s.time.rtc ∧ t.cmps = s.cmps ∧ t.temps = s.temps) (execDomainSet h domain request hold s) := by
  unfold execDomainSet
  try dsimp only
  repeat' split
  all_goals simp [id opDomainSet_same]
theorem execOpPoint_same (h : Hdr) (pair point : Byte) (s : State) : OutAll (fun t => Same59 s t) (execOpPoint h pair point s) := by
  unfold execOpPoint
  try dsimp only
  repeat' split
  all_goals simp [id opOpPoint_same]

/-! ### Machine/Clocks.lean -/

theorem takeRef_same (p : Pll) (code : Nat) (s : State) : Same9 s (takeRef p code s) := by
  unfold takeRef
  try dsimp only
  repeat' split
  all_goals simp
theorem writeSel_same (value : Nat) (p : Pll) (s : State) : Same39 s (writeSel value p s) := by
  unfold writeSel
  try dsimp only
  repeat' split
  all_goals simp [id takeRef_same]
theorem writeClkSel_same (value : Nat) (s : State) : Same39 s (writeClkSel value s) := by
  unfold writeClkSel
  try dsimp only
  repeat' split
  all_goals simp [id writeSel_same]
theorem execClkSelWrite_same (value : U32) (s : State) : OutAll (fun t => Same39 s t) (execClkSelWrite value s) := by
  unfold execClkSelWrite
  try dsimp only
  repeat' split
  all_goals simp [id writeClkSel_same]
theorem execClockSwitchForced_same (oldEdge : Option Nat) (s : State) : OutAll (fun t => Same45 s t) (execClockSwitchForced oldEdge s) := by
  unfold execClockSwitchForced
  try dsimp only
  repeat' split
  all_goals simp [id note_same]
theorem restorePll_same (p : Pll) (s : State) : Same9 s (restorePll p s) := by
  unfold restorePll
  try dsimp only
  repeat' split
  all_goals simp [id takeRef_same]
theorem execSourceReady_same (src : ClkSrc) (us : Nat) (s : State) : OutAll (fun t => t.pins = s.pins ∧ t.time.dev = s.time.dev ∧ t.time.rtc = s.time.rtc ∧ t.bankA = s.bankA ∧ t.bankB = s.bankB ∧ t.pos = s.pos ∧ t.pouts = s.pouts ∧ t.cmps = s.cmps ∧ t.temps = s.temps ∧ t.store = s.store ∧ t.pwr = s.pwr ∧ t.proto.sess = s.proto.sess ∧ t.proto.ctx = s.proto.ctx ∧ t.proto.left = s.proto.left ∧ t.net.can = s.net.can ∧ t.net.eth = s.net.eth ∧ t.net.canTx = s.net.canTx ∧ t.net.egress = s.net.egress ∧ t.net.rest = s.net.rest ∧ t.machs = s.machs ∧ t.lgs = s.lgs ∧ t.ctds = s.ctds ∧ t.safety = s.safety ∧ t.recd = s.recd ∧ t.out = s.out) (execSourceReady src us s) := by
  unfold execSourceReady
  try dsimp only
  repeat' split
  all_goals simp [id reselect_same, id restorePll_same]
theorem execPllCoast_same (pll : Pll) (missing : Nat) (s : State) : OutAll (fun t => Same45 s t) (execPllCoast pll missing s) := by
  unfold execPllCoast
  try dsimp only
  repeat' split
  all_goals simp [id note_same]
theorem fallback_moved_same (p : Pll) (code : Nat) (s : State) : Same9 s (fallback.moved p code s) := by
  unfold fallback.moved
  try dsimp only
  repeat' split
  all_goals simp [id takeRef_same]
theorem fallback_same (src : ClkSrc) (p : Pll) (s : State) : Same9 s (fallback src p s) := by
  unfold fallback
  try dsimp only
  repeat' split
  all_goals simp [id fallback_moved_same, id takeRef_same]
theorem execClockSourceFail_same (src : ClkSrc) (missing : Nat) (ppm : Int) (s : State) : OutAll (fun t => Same9 s t) (execClockSourceFail src missing ppm s) := by
  unfold execClockSourceFail
  try dsimp only
  repeat' split
  all_goals simp [id fallback_same]
theorem execClockFailHandling_same (src : ClkSrc) (s : State) : OutAll (fun t => Same45 s t) (execClockFailHandling src s) := by
  unfold execClockFailHandling
  try dsimp only
  repeat' split
  all_goals simp [id note_same, id raiseFault_same]
theorem execClockLossSevere_same (pll : Pll) (kind : SevereKind) (s : State) : OutAll (fun t => t.pins = s.pins ∧ t.time.dev = s.time.dev ∧ t.time.rtc = s.time.rtc ∧ t.bankA = s.bankA ∧ t.bankB = s.bankB ∧ t.pos = s.pos ∧ t.pouts = s.pouts ∧ t.cmps = s.cmps ∧ t.temps = s.temps ∧ t.store = s.store ∧ t.pwr = s.pwr ∧ t.proto.sess = s.proto.sess ∧ t.net.can = s.net.can ∧ t.net.eth = s.net.eth ∧ t.net.rest = s.net.rest) (execClockLossSevere pll kind s) := by
  unfold execClockLossSevere
  try dsimp only
  repeat' split
  all_goals simp [id raiseFault_same]
theorem execClockRestore_same (s : State) : OutAll (fun t => Same39 s t) (execClockRestore s) := by
  unfold execClockRestore
  try dsimp only
  repeat' split
  all_goals simp [id restorePll_same]
theorem openGate_same (bit : Nat) (s : State) : Same9 s (openGate bit s) := by
  unfold openGate
  try dsimp only
  repeat' split
  all_goals simp
theorem closeGate_same (bit : Nat) (idle : Bool) (s : State) : Same9 s (closeGate bit idle s) := by
  unfold closeGate
  try dsimp only
  repeat' split
  all_goals simp
theorem execClkGateOpen_same (bit : Fin 32) (s : State) : OutAll (fun t => Same9 s t) (execClkGateOpen bit s) := by
  unfold execClkGateOpen
  try dsimp only
  repeat' split
  all_goals simp [id openGate_same]
theorem execClkGateClose_same (bit : Fin 32) (idleAt : Nat) (s : State) : OutAll (fun t => Same9 s t) (execClkGateClose bit idleAt s) := by
  unfold execClkGateClose
  try dsimp only
  repeat' split
  all_goals simp [id closeGate_same]
theorem execGateCloseForced_same (bit : Fin 32) (idleAt : Option Nat) (s : State) : OutAll (fun t => Same45 s t) (execGateCloseForced bit idleAt s) := by
  unfold execGateCloseForced
  try dsimp only
  repeat' split
  all_goals simp [id note_same]
theorem fmBegin_same (s : State) : Same9 s (fmBegin s) := by
  unfold fmBegin
  try dsimp only
  repeat' split
  all_goals simp
theorem fmFinish_same (status : U16) (data : List Byte) (s : State) : Same46 s (fmFinish status data s) := by
  unfold fmFinish
  try dsimp only
  repeat' split
  all_goals simp [id finishOpt_same]
theorem execFmStart_same (s : State) : OutAll (fun t => Same9 s t) (execFmStart s) := by
  unfold execFmStart
  try dsimp only
  repeat' split
  all_goals simp [id fmBegin_same]
theorem opFreqMeasure_same (t : Nat) (inSel refSel : Byte) (nRef : U32) (s : State) : Same46 s (opFreqMeasure t inSel refSel nRef s) := by
  unfold opFreqMeasure
  try dsimp only
  repeat' split
  all_goals simp [id accept_same, id fmBegin_same, id fmFinish_same, id refuse_same]
theorem execFreqMeasureDone_same (nIn : Nat) (s : State) : OutAll (fun t => Same46 s t) (execFreqMeasureDone nIn s) := by
  unfold execFreqMeasureDone
  try dsimp only
  repeat' split
  all_goals simp [id drawFree_same, id fmFinish_same]
theorem execFreqMeasureSrcOff_same (s : State) : OutAll (fun t => Same46 s t) (execFreqMeasureSrcOff s) := by
  unfold execFreqMeasureSrcOff
  try dsimp only
  repeat' split
  all_goals simp [id fmFinish_same]
theorem execFreqMeasure_same (h : Hdr) (inSel refSel : Byte) (nRef : U32) (s : State) : OutAll (fun t => Same2 s t) (execFreqMeasure h inSel refSel nRef s) := by
  unfold execFreqMeasure
  try dsimp only
  repeat' split
  all_goals simp [id opFreqMeasure_same]

/-! ### Machine/Islands.lean -/

theorem gateDown_same (soft : Bool) (c : Nat) (s : State) : Same11 s (gateDown soft c s) := by
  unfold gateDown
  try dsimp only
  repeat' split
  all_goals simp [id modChan_same, id offCmd_same]
theorem seeIsland_same (now : IslandNow) (c : Nat) (s : State) : Same11 s (seeIsland now c s) := by
  unfold seeIsland
  try dsimp only
  repeat' split
  all_goals simp [id modChan_same]
theorem latchOff_same (code : Nat) (soft : Bool) (sense gate : Int) (c : Nat) (s : State) : Same1 s (latchOff code soft sense gate c s) := by
  unfold latchOff
  try dsimp only
  repeat' split
  all_goals simp [id gateDown_same, id latchIsland_same]
theorem reportIsland_same (code c : Nat) (s : State) : Same1 s (reportIsland code c s) := by
  unfold reportIsland
  try dsimp only
  repeat' split
  all_goals simp [id raise0508_same, id react_same, id recordAt_same]
theorem execDesaturation_same (ch : ChanIx) (senseMv sinceOnNs heldNs : Nat) (gmon : Bool) (now : IslandNow) (s : State) : OutAll (fun t => Same1 s t) (execDesaturation ch senseMv sinceOnNs heldNs gmon now s) := by
  unfold execDesaturation
  try dsimp only
  repeat' split
  all_goals simp [id actLatch_same, id gateDown_same, id latchOff_same, id seeIsland_same, id setLatch_same]
theorem execSoftTurnoffEnd_same (ch : ChanIx) (gateMv : Int) (ns : Nat) (s : State) : OutAll (fun t => Same11 s t) (execSoftTurnoffEnd ch gateMv ns s) := by
  unfold execSoftTurnoffEnd
  try dsimp only
  repeat' split
  all_goals simp [id modChan_same]
theorem execGateMonitorBreach_same (ch : ChanIx) (on : Bool) (sinceNs heldNs : Nat) (now : IslandNow) (s : State) : OutAll (fun t => Same1 s t) (execGateMonitorBreach ch on sinceNs heldNs now s) := by
  unfold execGateMonitorBreach
  try dsimp only
  repeat' split
  all_goals simp [id latchOff_same, id seeIsland_same]
theorem execVbpUndervoltage_same (ch : ChanIx) (mv : Int) (ns : Nat) (s : State) : OutAll (fun t => Same1 s t) (execVbpUndervoltage ch mv ns s) := by
  unfold execVbpUndervoltage
  try dsimp only
  repeat' split
  all_goals simp [id gateDown_same, id latchOff_same, id modChan_same]
theorem execVbpUvloRelease_same (ch : ChanIx) (mv : Int) (ns : Nat) (s : State) : OutAll (fun t => Same11 s t) (execVbpUvloRelease ch mv ns s) := by
  unfold execVbpUvloRelease
  try dsimp only
  repeat' split
  all_goals simp [id modChan_same]
theorem execVbnOutOfRange_same (ch : ChanIx) (mv : Int) (ns : Nat) (s : State) : OutAll (fun t => Same1 s t) (execVbnOutOfRange ch mv ns s) := by
  unfold execVbnOutOfRange
  try dsimp only
  repeat' split
  all_goals simp [id latchOff_same, id modChan_same]
theorem markCapoh_same (b : Nat) (s : State) : Same14 s (markCapoh b s) := by
  unfold markCapoh
  try dsimp only
  repeat' split
  all_goals simp [id modBridge_same, id reselect_same]
theorem execVbsOk_same (leg : Fin 24) (mv : Int) (ns : Nat) (s : State) : OutAll (fun t => Same14 s t) (execVbsOk leg mv ns s) := by
  unfold execVbsOk
  try dsimp only
  repeat' split
  all_goals simp [id modChan_same, id reselect_same]
theorem execVbsWarn_same (leg : Fin 24) (mv : Int) (ns : Nat) (s : State) : OutAll (fun t => Same1 s t) (execVbsWarn leg mv ns s) := by
  unfold execVbsWarn
  try dsimp only
  repeat' split
  all_goals simp [id modChan_same, id reportIsland_same]
theorem execVbsWarnClear_same (leg : Fin 24) (mv : Int) (ns : Nat) (s : State) : OutAll (fun t => Same11 s t) (execVbsWarnClear leg mv ns s) := by
  unfold execVbsWarnClear
  try dsimp only
  repeat' split
  all_goals simp [id modChan_same]
theorem execVbsUv_same (leg : Fin 24) (mv : Int) (ns : Nat) (s : State) : OutAll (fun t => Same1 s t) (execVbsUv leg mv ns s) := by
  unfold execVbsUv
  try dsimp only
  repeat' split
  all_goals simp [id latchOff_same, id modChan_same]
theorem execHighIslandStartReturn_same (leg : Fin 24) (mv : Int) (ns : Nat) (s : State) : OutAll (fun t => Same1 s t) (execHighIslandStartReturn leg mv ns s) := by
  unfold execHighIslandStartReturn
  try dsimp only
  repeat' split
  all_goals simp [id gateDown_same, id latchOff_same, id modChan_same, id reselect_same]
theorem execBowMeasurement_same (leg : Fin 24) (ua : Nat) (vbsMv : Int) (switching : Bool) (s : State) : OutAll (fun t => Same1 s t) (execBowMeasurement leg ua vbsMv switching s) := by
  unfold execBowMeasurement
  try dsimp only
  repeat' split
  all_goals simp [id markCapoh_same, id modChan_same, id reportIsland_same]
theorem execBowFailure_same (leg : Fin 24) (ua : Nat) (vbsMv : Int) (ms : Nat) (s : State) : OutAll (fun t => Same1 s t) (execBowFailure leg ua vbsMv ms s) := by
  unfold execBowFailure
  try dsimp only
  repeat' split
  all_goals simp [id latchIsland_same, id markCapoh_same, id modBridge_same]
theorem refuseOn_same (both : Bool) (c : Nat) (s : State) : Same1 s (refuseOn both c s) := by
  unfold refuseOn
  try dsimp only
  repeat' split
  all_goals simp [id latchOff_same]
theorem onOrRefuse_same (c : Nat) (s : State) : Same1 s (onOrRefuse c s) := by
  unfold onOrRefuse
  try dsimp only
  repeat' split
  all_goals simp [id modChan_same, id onCmd_same, id refuseOn_same]
theorem execIslandOverlapRefusal_same (ch : ChanIx) (kind : OverlapKind) (s : State) : OutAll (fun t => Same1 s t) (execIslandOverlapRefusal ch kind s) := by
  unfold execIslandOverlapRefusal
  try dsimp only
  repeat' split
  all_goals simp [id refuseOn_same]
theorem islandSeesLoss_same (c : Nat) (s : State) : Same11 s (islandSeesLoss c s) := by
  unfold islandSeesLoss
  try dsimp only
  repeat' split
  all_goals simp [id gateDown_same, id modChan_same]
theorem lossAt_same (c : Nat) (s : State) : Same1 s (lossAt c s) := by
  unfold lossAt
  try dsimp only
  repeat' split
  all_goals simp [id gateDown_same, id islandSeesLoss_same, id latchOff_same]
theorem execIslandLinkLoss_same (ch : ChanIx) (link : LinkKind) (carrierNs frames : Nat) (bias : Bool) (s : State) : OutAll (fun t => Same8 s t) (execIslandLinkLoss ch link carrierNs frames bias s) := by
  unfold execIslandLinkLoss
  try dsimp only
  repeat' split
  all_goals simp [id forgetUnread_same, id lossAt_same, id modChan_same, id reselect_same]
theorem tellLatch_same (c : Nat) (l : Latch) (s : State) : Same1 s (tellLatch c l s) := by
  unfold tellLatch
  try dsimp only
  repeat' split
  all_goals simp [id actLatch_same, id modChan_same, id recordAt_same]
theorem tellKept_same (c : Nat) (s : State) : Same1 s (tellKept c s) := by
  unfold tellKept
  try dsimp only
  repeat' split
  all_goals simp [id tellLatch_same]
theorem execIslandLinkTrained_same (ch : ChanIx) (link : LinkKind) (s : State) : OutAll (fun t => Same1 s t) (execIslandLinkTrained ch link s) := by
  unfold execIslandLinkTrained
  try dsimp only
  repeat' split
  all_goals simp [id modChan_same, id tellKept_same]
theorem execAuxFaultLatch_same (aux : Fin 4) (code : U16) (now : IslandNow) (s : State) : OutAll (fun t => Same1 s t) (execAuxFaultLatch aux code now s) := by
  unfold execAuxFaultLatch
  try dsimp only
  repeat' split
  all_goals simp [id latchOff_same, id seeIsland_same]

/-! ### Machine/Sense.lean -/

theorem modBank_same (k : Bank) (f : SnsBank → SnsBank) (s : State) : Same47 s (modBank k f s) := by
  unfold modBank
  try dsimp only
  repeat' split
  all_goals simp
theorem tripComparator_same (bank : Bank) (input : Nat) (s : State) : Same35 s (tripComparator bank input s) := by
  unfold tripComparator
  try dsimp only
  repeat' split
  all_goals simp [id markFreeze_same, id modBank_same, id raiseFault_same]
theorem compareInput_same (bank : Bank) (input : Nat) (mv : Int) (s : State) : Same47 s (compareInput bank input mv s) := by
  unfold compareInput
  try dsimp only
  repeat' split
  all_goals simp [id modBank_same]
theorem execWindowComparatorTrip_same (bank : Bank) (input : Fin 24) (mv : Int) (heldNs : Nat) (s : State) : OutAll (fun t => Same35 s t) (execWindowComparatorTrip bank input mv heldNs s) := by
  unfold execWindowComparatorTrip
  try dsimp only
  repeat' split
  all_goals simp [id compareInput_same, id tripComparator_same]
theorem forceComparator_same (bank : Bank) (force : Bool) (input : BitVec 5) (s : State) : Same35 s (forceComparator bank force input s) := by
  unfold forceComparator
  try dsimp only
  repeat' split
  all_goals simp [id modBank_same, id tripComparator_same]
theorem execSnsTestForce_same (bank : Bank) (force : Bool) (input : BitVec 5) (s : State) : OutAll (fun t => Same35 s t) (execSnsTestForce bank force input s) := by
  unfold execSnsTestForce
  try dsimp only
  repeat' split
  all_goals simp [id forceComparator_same]
theorem execCurrentSumViolation_same (bank : Bank) (b : Fin 8) (s : State) : OutAll (fun t => Same1 s t) (execCurrentSumViolation bank b s) := by
  unfold execCurrentSumViolation
  try dsimp only
  repeat' split
  all_goals simp [id modBridge_same, id raiseFault_same]
theorem execSensorSupplyFault_same (bank : Bank) (supplyMv refTenthMv us : Nat) (s : State) : OutAll (fun t => t.pins = s.pins ∧ t.time.dev = s.time.dev ∧ t.time.rtc = s.time.rtc ∧ t.pos = s.pos ∧ t.pouts = s.pouts ∧ t.cmps = s.cmps ∧ t.temps = s.temps ∧ t.store = s.store ∧ t.clk = s.clk ∧ t.pwr = s.pwr ∧ t.proto.sess = s.proto.sess ∧ t.net.can = s.net.can ∧ t.net.eth = s.net.eth ∧ t.net.rest = s.net.rest) (execSensorSupplyFault bank supplyMv refTenthMv us s) := by
  unfold execSensorSupplyFault
  try dsimp only
  repeat' split
  all_goals simp [id modBank_same, id raiseFault_same]
theorem markReading_same (med v : Int) (b : Nat) (s : State) : Same1 s (markReading med v b s) := by
  unfold markReading
  try dsimp only
  repeat' split
  all_goals simp [id modBridge_same, id note_same]
theorem markPair_same (g : Nat) (u v : Int) (s : State) : Same1 s (markPair g u v s) := by
  unfold markPair
  try dsimp only
  repeat' split
  all_goals simp [id modLg_same, id note_same]
theorem heatResistor_same (g : Nat) (s : State) : Same41 s (heatResistor g s) := by
  unfold heatResistor
  try dsimp only
  repeat' split
  all_goals simp [id modLg_same]
theorem loseReadings_same (g : Nat) (s : State) : Same1 s (loseReadings g s) := by
  unfold loseReadings
  try dsimp only
  repeat' split
  all_goals simp [id modLg_same, id raiseFault_same]
theorem formVlg_same (g : Nat) (vs : List Int) (s : State) : Same41 s (formVlg g vs s) := by
  unfold formVlg
  try dsimp only
  repeat' split
  all_goals simp [id modLg_same]
theorem markOpt_same (med : Int) (v : Option Int) (b : Nat) (s : State) : Same1 s (markOpt med v b s) := by
  unfold markOpt
  try dsimp only
  repeat' split
  all_goals simp [id markReading_same]
theorem execLinkVoltageFormation_same (g : Fin 2) (readings : List (Option Int)) (s : State) : OutAll (fun t => Same1 s t) (execLinkVoltageFormation g readings s) := by
  unfold execLinkVoltageFormation
  try dsimp only
  repeat' split
  all_goals simp [id formVlg_same, id heatResistor_same, id loseReadings_same, id markOpt_same, id markPair_same, id modBridge_same]
theorem execOvTrip_same (b : Fin 8) (mv : Int) (heldNs : Nat) (s : State) : OutAll (fun t => Same1 s t) (execOvTrip b mv heldNs s) := by
  unfold execOvTrip
  try dsimp only
  repeat' split
  all_goals simp [id latchIsland_same]
theorem execOvWarn_same (g : Fin 2) (us : Nat) (s : State) : OutAll (fun t => Same1 s t) (execOvWarn g us s) := by
  unfold execOvWarn
  try dsimp only
  repeat' split
  all_goals simp [id modLg_same, id raiseFault_same]
theorem execUvLimit_same (g : Fin 2) (us : Nat) (s : State) : OutAll (fun t => Same1 s t) (execUvLimit g us s) := by
  unfold execUvLimit
  try dsimp only
  repeat' split
  all_goals simp [id modLg_same, id raiseFault_same]
theorem execChopperOn_same (g : Fin 2) (s : State) : OutAll (fun t => Same24 s t) (execChopperOn g s) := by
  unfold execChopperOn
  try dsimp only
  repeat' split
  all_goals simp [id setChopper_same]
theorem execChopperOff_same (g : Fin 2) (s : State) : OutAll (fun t => Same24 s t) (execChopperOff g s) := by
  unfold execChopperOff
  try dsimp only
  repeat' split
  all_goals simp [id setChopper_same]
theorem execChopperUnavailable_same (g : Fin 2) (ifbMv : Int) (s : State) : OutAll (fun t => Same1 s t) (execChopperUnavailable g ifbMv s) := by
  unfold execChopperUnavailable
  try dsimp only
  repeat' split
  all_goals simp [id modLg_same, id raiseFault_same, id setChopper_same]
theorem execChopperUncommanded_same (g : Fin 2) (ifbMv : Int) (s : State) : OutAll (fun t => Same1 s t) (execChopperUncommanded g ifbMv s) := by
  unfold execChopperUncommanded
  try dsimp only
  repeat' split
  all_goals simp [id modLg_same, id raiseFault_same]
theorem execChopperEnergyLimit_same (g : Fin 2) (s : State) : OutAll (fun t => Same1 s t) (execChopperEnergyLimit g s) := by
  unfold execChopperEnergyLimit
  try dsimp only
  repeat' split
  all_goals simp [id heatResistor_same, id modLg_same, id raiseFault_same]

/-! ### Machine/Discharge.lean -/

theorem setDischarge_same (g : Nat) (on : Bool) (s : State) : Same24 s (setDischarge g on s) := by
  unfold setDischarge
  try dsimp only
  repeat' split
  all_goals simp [id driveAux_same, id modLg_same]
theorem beginDischarge_same (g : Nat) (tag : Option Nat) (s : State) : Same24 s (beginDischarge g tag s) := by
  unfold beginDischarge
  try dsimp only
  repeat' split
  all_goals simp [id modLg_same, id setDischarge_same]
theorem endDischarge_same (g : Nat) (s : State) : Same79 s (endDischarge g s) := by
  unfold endDischarge
  try dsimp only
  repeat' split
  all_goals simp [id endWatch_same, id finish_same, id modLg_same, id setDischarge_same, id toIdle_same]
theorem armWinding_same (g m : Nat) (s : State) : Same1 s (armWinding g m s) := by
  unfold armWinding
  try dsimp only
  repeat' split
  all_goals simp [id cascadeHold_same, id endPrecharge_same, id modLg_same, id modMach_same, id startPrecharge_same]
theorem watchWinding_same (m : Nat) (s : State) : Same3 s (watchWinding m s) := by
  unfold watchWinding
  try dsimp only
  repeat' split
  all_goals simp [id modMach_same]
theorem tryWinding_same (g start : Nat) (s : State) : Same1 s (tryWinding g start s) := by
  unfold tryWinding
  try dsimp only
  repeat' split
  all_goals simp [id armWinding_same, id raise0508_same, id watchWinding_same]
theorem execDischargeAutoStart_same (g : Fin 2) (s : State) : OutAll (fun t => Same24 s t) (execDischargeAutoStart g s) := by
  unfold execDischargeAutoStart
  try dsimp only
  repeat' split
  all_goals simp [id beginDischarge_same]
theorem execDischargeEnd_same (g : Fin 2) (s : State) : OutAll (fun t => Same79 s t) (execDischargeEnd g s) := by
  unfold execDischargeEnd
  try dsimp only
  repeat' split
  all_goals simp [id endDischarge_same]
theorem execDischargeSwitchFault_same (g : Fin 2) (ifbMv : Int) (s : State) : OutAll (fun t => Same1 s t) (execDischargeSwitchFault g ifbMv s) := by
  unfold execDischargeSwitchFault
  try dsimp only
  repeat' split
  all_goals simp [id raiseFault_same, id setDischarge_same, id tryWinding_same]
theorem execWindingDischargeEnd_same (m : Fin 8) (s : State) : OutAll (fun t => Same1 s t) (execWindingDischargeEnd m s) := by
  unfold execWindingDischargeEnd
  try dsimp only
  repeat' split
  all_goals simp [id endDischarge_same, id raise0508_same, id toIdle_same]
theorem execDischargeTimeout_same (g : Fin 2) (s : State) : OutAll (fun t => Same1 s t) (execDischargeTimeout g s) := by
  unfold execDischargeTimeout
  try dsimp only
  repeat' split
  all_goals simp [id raise0508_same]
theorem execContactorPullInEnd_same (n : Fin 4) (s : State) : OutAll (fun t => Same53 s t) (execContactorPullInEnd n s) := by
  unfold execContactorPullInEnd
  try dsimp only
  repeat' split
  all_goals simp [id modCtd_same]
theorem dropContactorTag_same (t : Nat) (s : State) : Same68 s (dropContactorTag t s) := by
  unfold dropContactorTag
  try dsimp only
  repeat' split
  all_goals simp
theorem startDischarges_same (t : Nat) (s : State) : Same62 s (startDischarges t s) := by
  unfold startDischarges
  try dsimp only
  repeat' split
  all_goals simp [id beginDischarge_same, id dropContactorTag_same, id refuse_same]
theorem settleContactors_same (t : Nat) (s : State) : Same62 s (settleContactors t s) := by
  unfold settleContactors
  try dsimp only
  repeat' split
  all_goals simp [id finish_same, id startDischarges_same]
theorem execFeedbackConfirmsCommand_same (n : Fin 4) (cfb : BitVec 6) (s : State) : OutAll (fun t => t.dev = s.dev ∧ t.time.dev = s.time.dev ∧ t.time.rtc = s.time.rtc ∧ t.bankA = s.bankA ∧ t.bankB = s.bankB ∧ t.pos = s.pos ∧ t.pouts = s.pouts ∧ t.cmps = s.cmps ∧ t.temps = s.temps ∧ t.store = s.store ∧ t.clk = s.clk ∧ t.pwr = s.pwr ∧ t.proto.sess = s.proto.sess ∧ t.net.can = s.net.can ∧ t.net.eth = s.net.eth ∧ t.net.rest = s.net.rest ∧ t.bridges = s.bridges ∧ t.machs = s.machs ∧ t.safety = s.safety ∧ t.recd = s.recd) (execFeedbackConfirmsCommand n cfb s) := by
  unfold execFeedbackConfirmsCommand
  try dsimp only
  repeat' split
  all_goals simp [id modCtd_same, id settleContactors_same]
theorem execContactorFeedbackFail_same (n : Fin 4) (cfb : BitVec 6) (ms : Nat) (s : State) : OutAll (fun t => Same40 s t) (execContactorFeedbackFail n cfb ms s) := by
  unfold execContactorFeedbackFail
  try dsimp only
  repeat' split
  all_goals simp [id dropContactorTag_same, id modCtd_same, id raiseFault_same, id refuse_same]
theorem opContactorSet_same (t : Nat) (mask command discharge : Byte) (s : State) : Same62 s (opContactorSet t mask command discharge s) := by
  unfold opContactorSet
  try dsimp only
  repeat' split
  all_goals simp [id accept_same, id commandCtd_same, id modCtd_same, id modLg_same, id refuse_same, id settleContactors_same]
theorem execContactorSet_same (h : Hdr) (mask command discharge : Byte) (s : State) : OutAll (fun t => Same2 s t) (execContactorSet h mask command discharge s) := by
  unfold execContactorSet
  try dsimp only
  repeat' split
  all_goals simp [id opContactorSet_same]

end Sys2Proof.Machine
end

