-- ==== Sys2Proof/Laws/SameGuard.lean ====
section
/-! SUPPORT. One lemma per function: the same: Machine/Trust, Soundpost, Guard, Tuning, Standby, Startup. -/

namespace Sys2Proof.Machine

set_option linter.unusedTactic false
set_option linter.unusedSimpArgs false

/-! ### Machine/Trust.lean -/

theorem verifySigned_same (t opcode : Nat) (slot form : Byte) (subject : List Byte) (sig : Rsa) (s : State) : Same37 s (verifySigned t opcode slot form subject sig s).2 := by
  unfold verifySigned
  try dsimp only
  repeat' split
  all_goals simp [id modSess_same]
theorem copyToMonitor_same (s : State) : Same23 s (copyToMonitor s) := by
  unfold copyToMonitor
  try dsimp only
  repeat' split
  all_goals simp

/-! ### Machine/Soundpost.lean -/

theorem judgeLatches_same (obs : EdgeObs) (c : Nat) (s : State) : Same63 s (judgeLatches obs c s) := by
  unfold judgeLatches
  try dsimp only
  repeat' split
  all_goals simp [id modBridge_same, id modChan_same, id recordAt_same]
theorem judgeWindows_same (obs : EdgeObs) (s : State) : Same47 s (judgeWindows obs s) := by
  unfold judgeWindows
  try dsimp only
  repeat' split
  all_goals simp
theorem judgeLockout_same (present : State → Bool) (k : Lockout) (s : State) : Same1 s (judgeLockout present k s) := by
  unfold judgeLockout
  try dsimp only
  repeat' split
  all_goals simp [id modLg_same, id modMach_same, id note_same, id recordEvent_same]
theorem dropOverrides_same (stays : Ovr → Bool) (b : Nat) (s : State) : Same5 s (dropOverrides stays b s) := by
  unfold dropOverrides
  try dsimp only
  repeat' split
  all_goals simp [id modBridge_same]
theorem judgeShort_same (s : State) : Same1 s (judgeShort s) := by
  unfold judgeShort
  try dsimp only
  repeat' split
  all_goals simp [id judgeLockout_same, id modBridge_same, id releaseBridge_same]
theorem seeCauses_same (obs : EdgeObs) (s : State) : Same24 s (seeCauses obs s) := by
  unfold seeCauses
  try dsimp only
  repeat' split
  all_goals simp
theorem qualifyingEdge_same (obs : EdgeObs) (s : State) : Same35 s (qualifyingEdge obs s) := by
  unfold qualifyingEdge
  try dsimp only
  repeat' split
  all_goals simp [id dropOverrides_same, id judgeLatches_same, id judgeLockout_same, id judgeShort_same, id judgeWindows_same, id
      recordEvent_same, id seeCauses_same]
theorem execDrvEnRise_same (lowTicks : Nat) (obs : EdgeObs) (s : State) : OutAll (fun t => t.dev = s.dev ∧ t.time.dev = s.time.dev ∧ t.time.rtc = s.time.rtc ∧ t.pos = s.pos ∧ t.pouts = s.pouts ∧ t.cmps = s.cmps ∧ t.temps = s.temps ∧ t.store = s.store ∧ t.clk = s.clk ∧ t.pwr = s.pwr ∧ t.proto.sess = s.proto.sess ∧ t.net.can = s.net.can ∧ t.net.eth = s.net.eth ∧ t.net.rest = s.net.rest) (execDrvEnRise lowTicks obs s) := by
  unfold execDrvEnRise
  try dsimp only
  repeat' split
  all_goals simp [id qualifyingEdge_same]
theorem execDrvEnFall_same (s : State) : OutAll (fun t => Same40 s t) (execDrvEnFall s) := by
  unfold execDrvEnFall
  try dsimp only
  repeat' split
  all_goals simp [id markFreeze_same, id override_same, id raise0508_same]
theorem demand_same (ch : StoCh) (s : State) : Same40 s (demand ch s) := by
  unfold demand
  try dsimp only
  repeat' split
  all_goals simp [id markFreeze_same, id override_same, id raise0508_same, id react_same, id recordEvent_same]
theorem lowDemands_same (lowUs : Nat) (s : State) : Same22 s (lowDemands lowUs s).2 := by
  unfold lowDemands
  try dsimp only
  repeat' split
  all_goals simp [id drawFree_same]
theorem execStoDemand_same (ch : StoCh) (lowUs : Nat) (s : State) : OutAll (fun t => Same40 s t) (execStoDemand ch lowUs s) := by
  unfold execStoDemand
  try dsimp only
  repeat' split
  all_goals simp [id demand_same, id lowDemands_same]
theorem endDemand_same (s : State) : Same80 s (endDemand s) := by
  unfold endDemand
  try dsimp only
  repeat' split
  all_goals simp [id dropOverrides_same, id judge_same, id modBridge_same, id releaseBridge_same]
theorem execStoDemandEnd_same (highUs : Nat) (s : State) : OutAll (fun t => Same80 s t) (execStoDemandEnd highUs s) := by
  unfold execStoDemandEnd
  try dsimp only
  repeat' split
  all_goals simp [id endDemand_same]
theorem execStoDiscrepancy_same (ms : Nat) (s : State) : OutAll (fun t => Same40 s t) (execStoDiscrepancy ms s) := by
  unfold execStoDiscrepancy
  try dsimp only
  repeat' split
  all_goals simp [id raiseFault_same]
theorem opStoStatus_same (t : Nat) (s : State) : Same6 s (opStoStatus t s) := by
  unfold opStoStatus
  try dsimp only
  repeat' split
  all_goals simp [id finish_same]
theorem endHolds_same (m b : Nat) (s : State) : Same14 s (endHolds m b s) := by
  unfold endHolds
  try dsimp only
  repeat' split
  all_goals simp [id modBridge_same, id releaseBridge_same]
theorem writeFast_same (m : Nat) (v : Option Int) (s : State) : Same38 s (writeFast m v s) := by
  unfold writeFast
  try dsimp only
  repeat' split
  all_goals simp [id endHolds_same, id modBridge_same, id modMach_same, id reselect_same]
theorem execFastWrite_same (speeds : List SpeedSeen) (s : State) : OutAll (fun t => t.pins = s.pins ∧ t.dev = s.dev ∧ t.time.dev = s.time.dev ∧ t.time.rtc = s.time.rtc ∧ t.bankA = s.bankA ∧ t.bankB = s.bankB ∧ t.pos = s.pos ∧ t.pouts = s.pouts ∧ t.cmps = s.cmps ∧ t.temps = s.temps ∧ t.store = s.store ∧ t.clk = s.clk ∧ t.pwr = s.pwr ∧ t.proto.sess = s.proto.sess ∧ t.proto.ctx = s.proto.ctx ∧ t.proto.left = s.proto.left ∧ t.net.can = s.net.can ∧ t.net.eth = s.net.eth ∧ t.net.canTx = s.net.canTx ∧ t.net.egress = s.net.egress ∧ t.net.rest = s.net.rest ∧ t.lgs = s.lgs ∧ t.ctds = s.ctds ∧ t.recd = s.recd ∧ t.out = s.out) (execFastWrite speeds s) := by
  unfold execFastWrite
  try dsimp only
  repeat' split
  all_goals simp [id writeFast_same]
theorem execActiveShortUnavailable_same (b : Fin 8) (s : State) : OutAll (fun t => Same1 s t) (execActiveShortUnavailable b s) := by
  unfold execActiveShortUnavailable
  try dsimp only
  repeat' split
  all_goals simp [id modBridge_same, id raiseFault_same]
theorem opLockoutClear_same (t : Nat) (esn : Esn) (slot : Byte) (sig : Rsa) (s : State) : (opLockoutClear t esn slot sig s).pins = s.pins ∧ (opLockoutClear t esn slot sig s).dev = s.dev ∧ (opLockoutClear t esn slot sig s).time.dev = s.time.dev ∧ (opLockoutClear t esn slot sig s).time.rtc = s.time.rtc ∧ (opLockoutClear t esn slot sig s).bankA = s.bankA ∧ (opLockoutClear t esn slot sig s).bankB = s.bankB ∧ (opLockoutClear t esn slot sig s).pos = s.pos ∧ (opLockoutClear t esn slot sig s).pouts = s.pouts ∧ (opLockoutClear t esn slot sig s).cmps = s.cmps ∧ (opLockoutClear t esn slot sig s).temps = s.temps ∧ (opLockoutClear t esn slot sig s).store = s.store ∧ (opLockoutClear t esn slot sig s).clk = s.clk ∧ (opLockoutClear t esn slot sig s).pwr = s.pwr ∧ (opLockoutClear t esn slot sig s).net.can = s.net.can ∧ (opLockoutClear t esn slot sig s).net.eth = s.net.eth ∧ (opLockoutClear t esn slot sig s).net.rest = s.net.rest ∧ (opLockoutClear t esn slot sig s).bridges = s.bridges ∧ (opLockoutClear t esn slot sig s).machs = s.machs ∧ (opLockoutClear t esn slot sig s).chans = s.chans ∧ (opLockoutClear t esn slot sig s).lgs = s.lgs ∧ (opLockoutClear t esn slot sig s).ctds = s.ctds ∧ (opLockoutClear t esn slot sig s).recd = s.recd := by
  unfold opLockoutClear
  try dsimp only
  repeat' split
  all_goals simp [id finish_same, id refuse_same, id verifySigned_same]
theorem execClearanceExpiry_same (esn : Esn) (s : State) : OutAll (fun t => Same23 s t) (execClearanceExpiry esn s) := by
  unfold execClearanceExpiry
  try dsimp only
  repeat' split
  all_goals simp
theorem opLockoutList_same (t : Nat) (s : State) : Same6 s (opLockoutList t s) := by
  unfold opLockoutList
  try dsimp only
  repeat' split
  all_goals simp [id finish_same]
theorem execLockoutClear_same (h : Hdr) (esn : Esn) (slot : Byte) (sig : Rsa) (s : State) : OutAll (fun t => Same2 s t) (execLockoutClear h esn slot sig s) := by
  unfold execLockoutClear
  try dsimp only
  repeat' split
  all_goals simp [id opLockoutClear_same]
theorem execStoStatus_same (h : Hdr) (s : State) : OutAll (fun t => Same2 s t) (execStoStatus h s) := by
  unfold execStoStatus
  try dsimp only
  repeat' split
  all_goals simp [id opStoStatus_same]
theorem execLockoutList_same (h : Hdr) (s : State) : OutAll (fun t => Same2 s t) (execLockoutList h s) := by
  unfold execLockoutList
  try dsimp only
  repeat' split
  all_goals simp [id opLockoutList_same]

/-! ### Machine/Guard.lean -/

theorem modPair_same (p : Pair) (f : PairState → PairState) (s : State) : Same23 s (modPair p f s) := by
  unfold modPair
  try dsimp only
  repeat' split
  all_goals simp
theorem haltPair_same (p : Pair) (s : State) : Same23 s (haltPair p s) := by
  unfold haltPair
  try dsimp only
  repeat' split
  all_goals simp [id modPair_same]
theorem lockstepFault_same (code : Nat) (p : Pair) (s : State) : Same1 s (lockstepFault code p s) := by
  unfold lockstepFault
  try dsimp only
  repeat' split
  all_goals simp [id haltPair_same, id raiseFault_same]
theorem execLockstepMismatch_same (pair : Pair) (group : Fin 8) (injCycle : Bool) (s : State) : OutAll (fun t => Same1 s t) (execLockstepMismatch pair group injCycle s) := by
  unfold execLockstepMismatch
  try dsimp only
  repeat' split
  all_goals simp [id lockstepFault_same]
theorem execCheckerFailure_same (pair : Pair) (_invalidCode : Bool) (s : State) : OutAll (fun t => Same1 s t) (execCheckerFailure pair _invalidCode s) := by
  unfold execCheckerFailure
  try dsimp only
  repeat' split
  all_goals simp [id lockstepFault_same]
theorem execRuntimeInjection_same (pair : Pair) (flagged : Bool) (s : State) : OutAll (fun t => Same1 s t) (execRuntimeInjection pair flagged s) := by
  unfold execRuntimeInjection
  try dsimp only
  repeat' split
  all_goals simp [id lockstepFault_same, id modPair_same]
theorem releasePair_same (p : Pair) (s : State) : Same23 s (releasePair p s) := by
  unfold releasePair
  try dsimp only
  repeat' split
  all_goals simp [id modPair_same]
theorem monRestarted_same (s : State) : Same1 s (monRestarted s) := by
  unfold monRestarted
  try dsimp only
  repeat' split
  all_goals simp [id commandCtd_same, id modCtd_same, id raiseFault_same]
theorem execPairRestartDone_same (pair : Pair) (inj : Nat) (clean : Bool) (s : State) : OutAll (fun t => Same1 s t) (execPairRestartDone pair inj clean s) := by
  unfold execPairRestartDone
  try dsimp only
  repeat' split
  all_goals simp [id modPair_same, id monRestarted_same, id raiseFault_same, id releasePair_same]
theorem modHeart_same (h : Heart) (f : PairState → PairState) (s : State) : Same23 s (modHeart h f s) := by
  unfold modHeart
  try dsimp only
  repeat' split
  all_goals simp [id modPair_same]
theorem execHeartbeat_same (h : Heart) (seq : Byte) (answer : Byte) (s : State) : OutAll (fun t => Same23 s t) (execHeartbeat h seq answer s) := by
  unfold execHeartbeat
  try dsimp only
  repeat' split
  all_goals simp [id drawFree_same, id modHeart_same]
theorem execHeartbeatMissed_same (h : Heart) (dieTicks : Nat) (s : State) : OutAll (fun t => Same1 s t) (execHeartbeatMissed h dieTicks s) := by
  unfold execHeartbeatMissed
  try dsimp only
  repeat' split
  all_goals simp [id commandCtd_same, id modHeart_same, id override_same, id raiseFault_same]
theorem execSupplyOutOfWindow_same (sup : Supply) (mv dieTicks : Nat) (s : State) : OutAll (fun t => Same1 s t) (execSupplyOutOfWindow sup mv dieTicks s) := by
  unfold execSupplyOutOfWindow
  try dsimp only
  repeat' split
  all_goals simp [id markFreeze_same, id raiseFault_same]
theorem execSupplyLowReset_same (sup : Supply) (mv us : Nat) (s : State) : OutAll (fun t => Same57 s t) (execSupplyLowReset sup mv us s) := by
  unfold execSupplyLowReset
  try dsimp only
  repeat' split
  all_goals simp [id enterBoot_same]
theorem execSupplyResetRelease_same (sup : Supply) (mv us : Nat) (s : State) : OutAll (fun t => t.pins = s.pins ∧ t.time.dev = s.time.dev ∧ t.time.rtc = s.time.rtc ∧ t.bankA = s.bankA ∧ t.bankB = s.bankB ∧ t.pos = s.pos ∧ t.pouts = s.pouts ∧ t.cmps = s.cmps ∧ t.temps = s.temps ∧ t.store = s.store ∧ t.clk = s.clk ∧ t.pwr = s.pwr ∧ t.proto.sess = s.proto.sess ∧ t.proto.ctx = s.proto.ctx ∧ t.proto.left = s.proto.left ∧ t.net.can = s.net.can ∧ t.net.eth = s.net.eth ∧ t.net.canTx = s.net.canTx ∧ t.net.egress = s.net.egress ∧ t.net.rest = s.net.rest ∧ t.bridges = s.bridges ∧ t.machs = s.machs ∧ t.chans = s.chans ∧ t.lgs = s.lgs ∧ t.ctds = s.ctds ∧ t.recd = s.recd ∧ t.out = s.out) (execSupplyResetRelease sup mv us s) := by
  unfold execSupplyResetRelease
  try dsimp only
  repeat' split
  all_goals simp
theorem execDieCheck_same (answerOk : Bool) (ticks : Nat) (s : State) : OutAll (fun t => Same1 s t) (execDieCheck answerOk ticks s) := by
  unfold execDieCheck
  try dsimp only
  repeat' split
  all_goals simp [id raiseFault_same]
theorem monView_same (s : State) : Same48 s (monView s) := by
  unfold monView
  try dsimp only
  repeat' split
  all_goals simp
theorem raiseTrips_same (codes : List Nat) (m : Nat) (s : State) : Same1 s (raiseTrips codes m s) := by
  unfold raiseTrips
  try dsimp only
  repeat' split
  all_goals simp [id raise0508_same, id react_same, id recordEvent_same]
theorem monitorSample_same (m n : Nat) (state : State) : Same48 state (monitorSample m n state) := by
  unfold monitorSample
  try dsimp only
  repeat' split
  all_goals simp [id modMach_same, id monView_same]
theorem clearCounts_same (m : Nat) (s : State) : Same3 s (clearCounts m s) := by
  unfold clearCounts
  try dsimp only
  repeat' split
  all_goals simp [id modMach_same]
theorem monitorChecks_same (m : Nat) (s : State) : Same48 s (monitorChecks m s).2 := by
  unfold monitorChecks
  try dsimp only
  repeat' split
  all_goals simp [id drawMany_same, id modMach_same, id monView_same]
theorem monitorWindow_same (m : Nat) (s : State) : Same18 s (monitorWindow m s) := by
  unfold monitorWindow
  try dsimp only
  repeat' split
  all_goals simp [id clearCounts_same, id modMach_same, id monView_same, id monitorChecks_same, id raiseTrips_same]
theorem execTorqueMonitorWindow_same (m : Fin 8) (s : State) : OutAll (fun t => Same18 s t) (execTorqueMonitorWindow m s) := by
  unfold execTorqueMonitorWindow
  try dsimp only
  repeat' split
  all_goals simp [id monitorWindow_same]

/-! ### Machine/Tuning.lean -/

theorem opParamRead_same (t : Nat) (source : Byte) (ids : List U16) (s : State) : Same6 s (opParamRead t source ids s) := by
  unfold opParamRead
  try dsimp only
  repeat' split
  all_goals simp [id finish_same, id refuse_same]
theorem opParamWrite_same (t : Nat) (items : List Item) (s : State) : Same27 s (opParamWrite t items s) := by
  unfold opParamWrite
  try dsimp only
  repeat' split
  all_goals simp [id finish_same, id refuse_same]
theorem opCommitPrepare_same (t : Nat) (s : State) : Same6 s (opCommitPrepare t s) := by
  unfold opCommitPrepare
  try dsimp only
  repeat' split
  all_goals simp [id finish_same, id refuse_same]
theorem opCommitDiscard_same (t : Nat) (s : State) : Same27 s (opCommitDiscard t s) := by
  unfold opCommitDiscard
  try dsimp only
  repeat' split
  all_goals simp [id finish_same, id refuse_same]
theorem storeInactive_same (c : ImgClass) (sl : Slot) (s : State) : Same12 s (storeInactive c sl s) := by
  unfold storeInactive
  try dsimp only
  repeat' split
  all_goals simp [id modSlots_same]
theorem applyPosition_same (changed : List Nat) (s : State) : (applyPosition changed s).pins = s.pins ∧ (applyPosition changed s).dev = s.dev ∧ (applyPosition changed s).time.dev = s.time.dev ∧ (applyPosition changed s).time.rtc = s.time.rtc ∧ (applyPosition changed s).bankA = s.bankA ∧ (applyPosition changed s).bankB = s.bankB ∧ (applyPosition changed s).temps = s.temps ∧ (applyPosition changed s).store = s.store ∧ (applyPosition changed s).clk = s.clk ∧ (applyPosition changed s).pwr = s.pwr ∧ (applyPosition changed s).proto.sess = s.proto.sess ∧ (applyPosition changed s).proto.ctx = s.proto.ctx ∧ (applyPosition changed s).proto.left = s.proto.left ∧ (applyPosition changed s).net.can = s.net.can ∧ (applyPosition changed s).net.eth = s.net.eth ∧ (applyPosition changed s).net.canTx = s.net.canTx ∧ (applyPosition changed s).net.egress = s.net.egress ∧ (applyPosition changed s).net.rest = s.net.rest ∧ (applyPosition changed s).bridges = s.bridges ∧ (applyPosition changed s).machs = s.machs ∧ (applyPosition changed s).chans = s.chans ∧ (applyPosition changed s).lgs = s.lgs ∧ (applyPosition changed s).ctds = s.ctds ∧ (applyPosition changed s).safety = s.safety ∧ (applyPosition changed s).recd = s.recd ∧ (applyPosition changed s).out = s.out := by
  unfold applyPosition
  try dsimp only
  repeat' split
  all_goals simp [id initPos_same, id modCmp_same, id modPout_same]
theorem restartPorts_same (which : Nat → Bool) (s : State) : (restartPorts which s).pins = s.pins ∧ (restartPorts which s).dev = s.dev ∧ (restartPorts which s).time.dev = s.time.dev ∧ (restartPorts which s).time.rtc = s.time.rtc ∧ (restartPorts which s).bankA = s.bankA ∧ (restartPorts which s).bankB = s.bankB ∧ (restartPorts which s).pos = s.pos ∧ (restartPorts which s).pouts = s.pouts ∧ (restartPorts which s).cmps = s.cmps ∧ (restartPorts which s).temps = s.temps ∧ (restartPorts which s).store = s.store ∧ (restartPorts which s).clk = s.clk ∧ (restartPorts which s).pwr = s.pwr ∧ (restartPorts which s).proto.sess = s.proto.sess ∧ (restartPorts which s).proto.ctx = s.proto.ctx ∧ (restartPorts which s).proto.left = s.proto.left ∧ (restartPorts which s).net.can = s.net.can ∧ (restartPorts which s).net.eth = s.net.eth ∧ (restartPorts which s).net.canTx = s.net.canTx ∧ (restartPorts which s).bridges = s.bridges ∧ (restartPorts which s).machs = s.machs ∧ (restartPorts which s).chans = s.chans ∧ (restartPorts which s).lgs = s.lgs ∧ (restartPorts which s).ctds = s.ctds ∧ (restartPorts which s).safety = s.safety ∧ (restartPorts which s).recd = s.recd ∧ (restartPorts which s).out = s.out := by
  unfold restartPorts
  try dsimp only
  repeat' split
  all_goals simp
theorem applyNetwork_same (before : State) (changed : List Nat) (s : State) : (applyNetwork before changed s).pins = s.pins ∧ (applyNetwork before changed s).dev = s.dev ∧ (applyNetwork before changed s).time.dev = s.time.dev ∧ (applyNetwork before changed s).time.rtc = s.time.rtc ∧ (applyNetwork before changed s).bankA = s.bankA ∧ (applyNetwork before changed s).bankB = s.bankB ∧ (applyNetwork before changed s).pos = s.pos ∧ (applyNetwork before changed s).pouts = s.pouts ∧ (applyNetwork before changed s).cmps = s.cmps ∧ (applyNetwork before changed s).temps = s.temps ∧ (applyNetwork before changed s).store = s.store ∧ (applyNetwork before changed s).clk = s.clk ∧ (applyNetwork before changed s).pwr = s.pwr ∧ (applyNetwork before changed s).proto.sess = s.proto.sess ∧ (applyNetwork before changed s).proto.ctx = s.proto.ctx ∧ (applyNetwork before changed s).proto.left = s.proto.left ∧ (applyNetwork before changed s).net.eth = s.net.eth ∧ (applyNetwork before changed s).bridges = s.bridges ∧ (applyNetwork before changed s).chans = s.chans ∧ (applyNetwork before changed s).lgs = s.lgs ∧ (applyNetwork before changed s).ctds = s.ctds ∧ (applyNetwork before changed s).safety = s.safety ∧ (applyNetwork before changed s).recd = s.recd ∧ (applyNetwork before changed s).out = s.out := by
  unfold applyNetwork
  try dsimp only
  repeat' split
  all_goals simp [id dropCan_same, id modCan_same, id restartPorts_same]
theorem applySet_same (p : PSet) (s : State) : Same19 s (applySet p s) := by
  unfold applySet
  try dsimp only
  repeat' split
  all_goals simp [id applyNetwork_same, id applyPosition_same, id cascadeHold_same, id choppersOff_same, id copyToMonitor_same, id
      forgetUnread_same, id newTrend_same, id relearn_same, id requestMain_same, id switchFe_same]
theorem commitNow_same (s : State) : Same19 s (commitNow s) := by
  unfold commitNow
  try dsimp only
  repeat' split
  all_goals simp [id applySet_same, id finishOpt_same, id modSlots_same, id note_same]
theorem awaitInstant_same (pd : Pending) (s : State) : Same19 s (awaitInstant pd s) := by
  unfold awaitInstant
  try dsimp only
  repeat' split
  all_goals simp [id commitNow_same]
theorem opCommitApply_same (t : Nat) (slot : Byte) (serial : U32) (digest : Digest) (sig : Rsa) (s : State) : Same19 s (opCommitApply t slot serial digest sig s) := by
  unfold opCommitApply
  try dsimp only
  repeat' split
  all_goals simp [id accept_same, id awaitInstant_same, id refuse_same, id storeInactive_same, id verifySigned_same]
theorem opSetSelect_same (t : Nat) (arg : Byte) (s : State) : Same19 s (opSetSelect t arg s) := by
  unfold opSetSelect
  try dsimp only
  repeat' split
  all_goals simp [id accept_same, id awaitInstant_same, id refuse_same]
theorem opCalRead_same (t : Nat) (kind inst : U16) (origin age : Byte) (s : State) : Same6 s (opCalRead t kind inst origin age s) := by
  unfold opCalRead
  try dsimp only
  repeat' split
  all_goals simp [id finish_same, id refuse_same]
theorem writeStartup_same (kind inst : U16) (temp : Int) (data : List Byte) (s : State) : Same12 s (writeStartup kind inst temp data s).2 := by
  unfold writeStartup
  try dsimp only
  repeat' split
  all_goals simp [id allocEsn_same]
theorem beginRecal_same (t : Nat) (target index : Byte) (s : State) : Same44 s (beginRecal t target index s) := by
  unfold beginRecal
  try dsimp only
  repeat' split
  all_goals simp [id accept_same, id modBridge_same]
theorem opCalRecal_same (t : Nat) (target index : Byte) (s : State) : Same44 s (opCalRecal t target index s) := by
  unfold opCalRecal
  try dsimp only
  repeat' split
  all_goals simp [id beginRecal_same, id refuse_same]
theorem recalLeg_same (low high : IslandObs) (l : Nat) (s : State) : Same8 s (recalLeg low high l s) := by
  unfold recalLeg
  try dsimp only
  repeat' split
  all_goals simp [id forgetUnread_same, id modChan_same, id note_same, id reselect_same]
theorem recalConverter_same (k : Bank) (c : Nat) (x : Corr) (s : State) : Same1 s (recalConverter k c x s) := by
  unfold recalConverter
  try dsimp only
  repeat' split
  all_goals simp [id modBridge_same, id note_same]
theorem recalResult_same (target index : Byte) (cal : ConvCal) (low high : IslandObs) (s : State) : Same8 s (recalResult target index cal low high s).2.2.2 := by
  unfold recalResult
  try dsimp only
  repeat' split
  all_goals simp [id recalConverter_same, id recalLeg_same]
theorem execRecalCoverEnd_same (target index : Byte) (cal : ConvCal) (low high : IslandObs) (s : State) : OutAll (fun t => t.pins = s.pins ∧ t.dev = s.dev ∧ t.time.dev = s.time.dev ∧ t.time.rtc = s.time.rtc ∧ t.bankA = s.bankA ∧ t.bankB = s.bankB ∧ t.pos = s.pos ∧ t.pouts = s.pouts ∧ t.cmps = s.cmps ∧ t.clk = s.clk ∧ t.pwr = s.pwr ∧ t.proto.sess = s.proto.sess ∧ t.net.can = s.net.can ∧ t.net.eth = s.net.eth ∧ t.net.rest = s.net.rest) (execRecalCoverEnd target index cal low high s) := by
  unfold execRecalCoverEnd
  try dsimp only
  repeat' split
  all_goals simp [id drawFree_same, id finishOpt_same, id recalResult_same, id writeStartup_same]
@[simp] theorem countRow_pins' (n t : Nat) (f : State → State) (s : State) (hf : ∀ v, (f v).pins = v.pins) :
    (countRow n t f s).pins = s.pins := by
  unfold countRow
  try dsimp only
  repeat' split
  all_goals simp [hf, id refuse_same]
@[simp] theorem countRow_dev' (n t : Nat) (f : State → State) (s : State) (hf : ∀ v, (f v).dev = v.dev) :
    (countRow n t f s).dev = s.dev := by
  unfold countRow
  try dsimp only
  repeat' split
  all_goals simp [hf, id refuse_same]
@[simp] theorem countRow_tdev' (n t : Nat) (f : State → State) (s : State) (hf : ∀ v, (f v).time.dev = v.time.dev) :
    (countRow n t f s).time.dev = s.time.dev := by
  unfold countRow
  try dsimp only
  repeat' split
  all_goals simp [hf, id refuse_same]
@[simp] theorem countRow_rtc' (n t : Nat) (f : State → State) (s : State) (hf : ∀ v, (f v).time.rtc = v.time.rtc) :
    (countRow n t f s).time.rtc = s.time.rtc := by
  unfold countRow
  try dsimp only
  repeat' split
  all_goals simp [hf, id refuse_same]
@[simp] theorem countRow_bankA' (n t : Nat) (f : State → State) (s : State) (hf : ∀ v, (f v).bankA = v.bankA) :
    (countRow n t f s).bankA = s.bankA := by
  unfold countRow
  try dsimp only
  repeat' split
  all_goals simp [hf, id refuse_same]
@[simp] theorem countRow_bankB' (n t : Nat) (f : State → State) (s : State) (hf : ∀ v, (f v).bankB = v.bankB) :
    (countRow n t f s).bankB = s.bankB := by
  unfold countRow
  try dsimp only
  repeat' split
  all_goals simp [hf, id refuse_same]
@[simp] theorem countRow_pos' (n t : Nat) (f : State → State) (s : State) (hf : ∀ v, (f v).pos = v.pos) :
    (countRow n t f s).pos = s.pos := by
  unfold countRow
  try dsimp only
  repeat' split
  all_goals simp [hf, id refuse_same]
@[simp] theorem countRow_pouts' (n t : Nat) (f : State → State) (s : State) (hf : ∀ v, (f v).pouts = v.pouts) :
    (countRow n t f s).pouts = s.pouts := by
  unfold countRow
  try dsimp only
  repeat' split
  all_goals simp [hf, id refuse_same]
@[simp] theorem countRow_cmps' (n t : Nat) (f : State → State) (s : State) (hf : ∀ v, (f v).cmps = v.cmps) :
    (countRow n t f s).cmps = s.cmps := by
  unfold countRow
  try dsimp only
  repeat' split
  all_goals simp [hf, id refuse_same]
@[simp] theorem countRow_temps' (n t : Nat) (f : State → State) (s : State) (hf : ∀ v, (f v).temps = v.temps) :
    (countRow n t f s).temps = s.temps := by
  unfold countRow
  try dsimp only
  repeat' split
  all_goals simp [hf, id refuse_same]
@[simp] theorem countRow_store' (n t : Nat) (f : State → State) (s : State) (hf : ∀ v, (f v).store = v.store) :
    (countRow n t f s).store = s.store := by
  unfold countRow
  try dsimp only
  repeat' split
  all_goals simp [hf, id refuse_same]
@[simp] theorem countRow_clk' (n t : Nat) (f : State → State) (s : State) (hf : ∀ v, (f v).clk = v.clk) :
    (countRow n t f s).clk = s.clk := by
  unfold countRow
  try dsimp only
  repeat' split
  all_goals simp [hf, id refuse_same]
@[simp] theorem countRow_pwr' (n t : Nat) (f : State → State) (s : State) (hf : ∀ v, (f v).pwr = v.pwr) :
    (countRow n t f s).pwr = s.pwr := by
  unfold countRow
  try dsimp only
  repeat' split
  all_goals simp [hf, id refuse_same]
@[simp] theorem countRow_sess' (n t : Nat) (f : State → State) (s : State) (hf : ∀ v, (f v).proto.sess = v.proto.sess) :
    (countRow n t f s).proto.sess = s.proto.sess := by
  unfold countRow
  try dsimp only
  repeat' split
  all_goals simp [hf, id refuse_same]
@[simp] theorem countRow_can' (n t : Nat) (f : State → State) (s : State) (hf : ∀ v, (f v).net.can = v.net.can) :
    (countRow n t f s).net.can = s.net.can := by
  unfold countRow
  try dsimp only
  repeat' split
  all_goals simp [hf, id refuse_same]
@[simp] theorem countRow_eth' (n t : Nat) (f : State → State) (s : State) (hf : ∀ v, (f v).net.eth = v.net.eth) :
    (countRow n t f s).net.eth = s.net.eth := by
  unfold countRow
  try dsimp only
  repeat' split
  all_goals simp [hf, id refuse_same]
@[simp] theorem countRow_nother' (n t : Nat) (f : State → State) (s : State) (hf : ∀ v, (f v).net.rest = v.net.rest) :
    (countRow n t f s).net.rest = s.net.rest := by
  unfold countRow
  try dsimp only
  repeat' split
  all_goals simp [hf, id refuse_same]
@[simp] theorem countRow_bridges' (n t : Nat) (f : State → State) (s : State) (hf : ∀ v, (f v).bridges = v.bridges) :
    (countRow n t f s).bridges = s.bridges := by
  unfold countRow
  try dsimp only
  repeat' split
  all_goals simp [hf, id refuse_same]
@[simp] theorem countRow_machs' (n t : Nat) (f : State → State) (s : State) (hf : ∀ v, (f v).machs = v.machs) :
    (countRow n t f s).machs = s.machs := by
  unfold countRow
  try dsimp only
  repeat' split
  all_goals simp [hf, id refuse_same]
@[simp] theorem countRow_chans' (n t : Nat) (f : State → State) (s : State) (hf : ∀ v, (f v).chans = v.chans) :
    (countRow n t f s).chans = s.chans := by
  unfold countRow
  try dsimp only
  repeat' split
  all_goals simp [hf, id refuse_same]
@[simp] theorem countRow_lgs' (n t : Nat) (f : State → State) (s : State) (hf : ∀ v, (f v).lgs = v.lgs) :
    (countRow n t f s).lgs = s.lgs := by
  unfold countRow
  try dsimp only
  repeat' split
  all_goals simp [hf, id refuse_same]
@[simp] theorem countRow_ctds' (n t : Nat) (f : State → State) (s : State) (hf : ∀ v, (f v).ctds = v.ctds) :
    (countRow n t f s).ctds = s.ctds := by
  unfold countRow
  try dsimp only
  repeat' split
  all_goals simp [hf, id refuse_same]
@[simp] theorem countRow_safety' (n t : Nat) (f : State → State) (s : State) (hf : ∀ v, (f v).safety = v.safety) :
    (countRow n t f s).safety = s.safety := by
  unfold countRow
  try dsimp only
  repeat' split
  all_goals simp [hf, id refuse_same]
@[simp] theorem countRow_recd' (n t : Nat) (f : State → State) (s : State) (hf : ∀ v, (f v).recd = v.recd) :
    (countRow n t f s).recd = s.recd := by
  unfold countRow
  try dsimp only
  repeat' split
  all_goals simp [hf, id refuse_same]
theorem execParamRead_same (h : Hdr) (source : Byte) (ids : List U16) (s : State) : OutAll (fun t => Same2 s t) (execParamRead h source ids s) := by
  unfold execParamRead
  try dsimp only
  repeat' split
  all_goals simp [id opParamRead_same]
theorem execParamWrite_same (h : Hdr) (items : List Item) (s : State) : OutAll (fun t => Same2 s t) (execParamWrite h items s) := by
  unfold execParamWrite
  try dsimp only
  repeat' split
  all_goals simp [id opParamWrite_same]
theorem execParamCommitPrepare_same (h : Hdr) (s : State) : OutAll (fun t => Same2 s t) (execParamCommitPrepare h s) := by
  unfold execParamCommitPrepare
  try dsimp only
  repeat' split
  all_goals simp [id opCommitPrepare_same]
theorem execParamCommitApply_same (h : Hdr) (slot : Byte) (serial : U32) (digest : Digest) (sig : Rsa) (s : State) : OutAll (fun t => Same64 s t) (execParamCommitApply h slot serial digest sig s) := by
  unfold execParamCommitApply
  try dsimp only
  repeat' split
  all_goals simp [id opCommitApply_same]
theorem execParamCommitDiscard_same (h : Hdr) (s : State) : OutAll (fun t => Same2 s t) (execParamCommitDiscard h s) := by
  unfold execParamCommitDiscard
  try dsimp only
  repeat' split
  all_goals simp [id opCommitDiscard_same]
theorem execSetSelect_same (h : Hdr) (arg : Byte) (s : State) : OutAll (fun t => Same64 s t) (execSetSelect h arg s) := by
  unfold execSetSelect
  try dsimp only
  repeat' split
  all_goals simp [id opSetSelect_same]
theorem execCalRead_same (h : Hdr) (kind inst : U16) (origin age : Byte) (s : State) : OutAll (fun t => Same2 s t) (execCalRead h kind inst origin age s) := by
  unfold execCalRead
  try dsimp only
  repeat' split
  all_goals simp [id opCalRead_same]
theorem execCalRecal_same (h : Hdr) (target index : Byte) (s : State) : OutAll (fun t => Same2 s t) (execCalRecal h target index s) := by
  unfold execCalRecal
  try dsimp only
  repeat' split
  all_goals simp [id opCalRecal_same]

/-! ### Machine/Standby.lean -/

theorem powerDown_same (listening : Bool) (s : State) : Same81 s (powerDown listening s) := by
  unfold powerDown
  try dsimp only
  repeat' split
  all_goals simp [id flushBuffer_same, id leaveOn_same, id modDom_same]
theorem rampForStandby_same (m : Nat) (s : State) : Same3 s (rampForStandby m s) := by
  unfold rampForStandby
  try dsimp only
  repeat' split
  all_goals simp [id modMach_same]
theorem standbyBegin_same (listening : Bool) (s : State) : Same82 s (standbyBegin listening s) := by
  unfold standbyBegin
  try dsimp only
  repeat' split
  all_goals simp [id rampForStandby_same]
theorem setSby_same (step : Nat) (waiting : Bool) (s : State) : Same15 s (setSby step waiting s) := by
  unfold setSby
  try dsimp only
  repeat' split
  all_goals simp
theorem standbyDisarm_same (s : State) : (standbyDisarm s).pins = s.pins ∧ (standbyDisarm s).dev = s.dev ∧ (standbyDisarm s).time.dev = s.time.dev ∧ (standbyDisarm s).time.rtc = s.time.rtc ∧ (standbyDisarm s).bankA = s.bankA ∧ (standbyDisarm s).bankB = s.bankB ∧ (standbyDisarm s).pos = s.pos ∧ (standbyDisarm s).pouts = s.pouts ∧ (standbyDisarm s).cmps = s.cmps ∧ (standbyDisarm s).temps = s.temps ∧ (standbyDisarm s).store = s.store ∧ (standbyDisarm s).clk = s.clk ∧ (standbyDisarm s).proto.sess = s.proto.sess ∧ (standbyDisarm s).net.can = s.net.can ∧ (standbyDisarm s).net.eth = s.net.eth ∧ (standbyDisarm s).net.rest = s.net.rest ∧ (standbyDisarm s).lgs = s.lgs ∧ (standbyDisarm s).safety = s.safety ∧ (standbyDisarm s).recd = s.recd := by
  unfold standbyDisarm
  try dsimp only
  repeat' split
  all_goals simp [id commandCtd_same, id endMachineTag_same, id setSby_same, id toIdle_same]
theorem standbyContactors_same (s : State) : (standbyContactors s).pins = s.pins ∧ (standbyContactors s).dev = s.dev ∧ (standbyContactors s).time.dev = s.time.dev ∧ (standbyContactors s).time.rtc = s.time.rtc ∧ (standbyContactors s).bankA = s.bankA ∧ (standbyContactors s).bankB = s.bankB ∧ (standbyContactors s).pos = s.pos ∧ (standbyContactors s).pouts = s.pouts ∧ (standbyContactors s).cmps = s.cmps ∧ (standbyContactors s).temps = s.temps ∧ (standbyContactors s).store = s.store ∧ (standbyContactors s).clk = s.clk ∧ (standbyContactors s).proto.sess = s.proto.sess ∧ (standbyContactors s).proto.ctx = s.proto.ctx ∧ (standbyContactors s).proto.left = s.proto.left ∧ (standbyContactors s).net.can = s.net.can ∧ (standbyContactors s).net.eth = s.net.eth ∧ (standbyContactors s).net.canTx = s.net.canTx ∧ (standbyContactors s).net.egress = s.net.egress ∧ (standbyContactors s).net.rest = s.net.rest ∧ (standbyContactors s).bridges = s.bridges ∧ (standbyContactors s).machs = s.machs ∧ (standbyContactors s).ctds = s.ctds ∧ (standbyContactors s).safety = s.safety ∧ (standbyContactors s).recd = s.recd ∧ (standbyContactors s).out = s.out := by
  unfold standbyContactors
  try dsimp only
  repeat' split
  all_goals simp [id beginDischarge_same, id setSby_same]
theorem standbySleep_same (s : State) : Same81 s (standbySleep s) := by
  unfold standbySleep
  try dsimp only
  repeat' split
  all_goals simp [id powerDown_same]
theorem standbyAdvance_same (s : State) : Same31 s (standbyAdvance s) := by
  unfold standbyAdvance
  try dsimp only
  repeat' split
  all_goals simp [id standbyContactors_same, id standbyDisarm_same, id standbySleep_same]
theorem standbyHalted_same (listening : Bool) (s : State) : Same31 s (standbyHalted listening s) := by
  unfold standbyHalted
  try dsimp only
  repeat' split
  all_goals simp [id commandCtd_same, id standbyAdvance_same]
theorem abandonStandby_same (s : State) : Same82 s (abandonStandby s) := by
  unfold abandonStandby
  try dsimp only
  repeat' split
  all_goals simp
theorem kl15Edge_same (s : State) : Same65 s (kl15Edge s) := by
  unfold kl15Edge
  try dsimp only
  repeat' split
  all_goals simp [id abandonStandby_same, id enterBoot_same, id returnD5_same]
theorem execKl15Rise_same (s : State) : OutAll (fun t => Same65 s t) (execKl15Rise s) := by
  unfold execKl15Rise
  try dsimp only
  repeat' split
  all_goals simp [id kl15Edge_same]
theorem execKl15KeepHigh_same (pin : WakePin) (edge : Bool) (s : State) : OutAll (fun t => Same65 s t) (execKl15KeepHigh pin edge s) := by
  unfold execKl15KeepHigh
  try dsimp only
  repeat' split
  all_goals simp [id abandonStandby_same, id kl15Edge_same]
theorem execKl15KeepLowCount_same (ticks : Nat) (s : State) : OutAll (fun t => t.time.dev = s.time.dev ∧ t.time.rtc = s.time.rtc ∧ t.cmps = s.cmps ∧ t.temps = s.temps ∧ t.clk = s.clk) (execKl15KeepLowCount ticks s) := by
  unfold execKl15KeepLowCount
  try dsimp only
  repeat' split
  all_goals simp [id standbyAdvance_same, id standbyBegin_same, id standbyHalted_same]
theorem execStandbyEntryResume_same (s : State) : OutAll (fun t => Same31 s t) (execStandbyEntryResume s) := by
  unfold execStandbyEntryResume
  try dsimp only
  repeat' split
  all_goals simp [id standbyAdvance_same]
theorem execStandbyWaitReport_same (seconds : Nat) (s : State) : OutAll (fun t => Same1 s t) (execStandbyWaitReport seconds s) := by
  unfold execStandbyWaitReport
  try dsimp only
  repeat' split
  all_goals simp [id note_same]
theorem opStandbyEnter_same (t : Nat) (depth timing canWake : Byte) (s : State) : Same31 s (opStandbyEnter t depth timing canWake s) := by
  unfold opStandbyEnter
  try dsimp only
  repeat' split
  all_goals simp [id finish_same, id refuse_same, id standbyAdvance_same, id standbyBegin_same]
theorem execRtcAlarm_same (s : State) : OutAll (fun t => Same57 s t) (execRtcAlarm s) := by
  unfold execRtcAlarm
  try dsimp only
  repeat' split
  all_goals simp [id enterBoot_same]
theorem execCanWake_same (ev : CanWakeEv) (s : State) : OutAll (fun t => t.pins = s.pins ∧ t.time.dev = s.time.dev ∧ t.time.rtc = s.time.rtc ∧ t.cmps = s.cmps ∧ t.temps = s.temps ∧ t.clk = s.clk ∧ t.ctds = s.ctds ∧ t.recd = s.recd ∧ t.out = s.out) (execCanWake ev s) := by
  unfold execCanWake
  try dsimp only
  repeat' split
  all_goals simp [id enterBoot_same, id returnD5_same]
theorem opRtcSet_same (t : Nat) (count : BitVec 48) (s : State) : (opRtcSet t count s).pins = s.pins ∧ (opRtcSet t count s).time.dev = s.time.dev ∧ (opRtcSet t count s).bankA = s.bankA ∧ (opRtcSet t count s).bankB = s.bankB ∧ (opRtcSet t count s).pos = s.pos ∧ (opRtcSet t count s).pouts = s.pouts ∧ (opRtcSet t count s).cmps = s.cmps ∧ (opRtcSet t count s).temps = s.temps ∧ (opRtcSet t count s).store = s.store ∧ (opRtcSet t count s).clk = s.clk ∧ (opRtcSet t count s).pwr = s.pwr ∧ (opRtcSet t count s).proto.sess = s.proto.sess ∧ (opRtcSet t count s).net.can = s.net.can ∧ (opRtcSet t count s).net.eth = s.net.eth ∧ (opRtcSet t count s).net.rest = s.net.rest ∧ (opRtcSet t count s).bridges = s.bridges ∧ (opRtcSet t count s).machs = s.machs ∧ (opRtcSet t count s).chans = s.chans ∧ (opRtcSet t count s).lgs = s.lgs ∧ (opRtcSet t count s).ctds = s.ctds ∧ (opRtcSet t count s).safety = s.safety ∧ (opRtcSet t count s).recd = s.recd := by
  unfold opRtcSet
  try dsimp only
  repeat' split
  all_goals simp [id finish_same]
theorem opAlarmSet_same (t : Nat) (alarm : BitVec 48) (armed : Byte) (s : State) : Same78 s (opAlarmSet t alarm armed s) := by
  unfold opAlarmSet
  try dsimp only
  repeat' split
  all_goals simp [id finish_same, id refuse_same]
theorem execKl30Loss_same (mv us : Nat) (s : State) : OutAll (fun t => Same77 s t) (execKl30Loss mv us s) := by
  unfold execKl30Loss
  try dsimp only
  repeat' split
  all_goals simp [id flushBuffer_same]
theorem execKl30LossConfirmed_same (ticks : Nat) (s : State) : OutAll (fun t => Same31 s t) (execKl30LossConfirmed ticks s) := by
  unfold execKl30LossConfirmed
  try dsimp only
  repeat' split
  all_goals simp [id commandCtd_same, id powerDown_same, id raiseFault_same]
theorem execKl30Return_same (mv us : Nat) (s : State) : OutAll (fun t => t.pins = s.pins ∧ t.time.dev = s.time.dev ∧ t.time.rtc = s.time.rtc ∧ t.bankA = s.bankA ∧ t.bankB = s.bankB ∧ t.pos = s.pos ∧ t.pouts = s.pouts ∧ t.cmps = s.cmps ∧ t.temps = s.temps ∧ t.clk = s.clk) (execKl30Return mv us s) := by
  unfold execKl30Return
  try dsimp only
  repeat' split
  all_goals simp [id enterBoot_same, id note_same]
theorem goOff_same (s : State) : (goOff s).time.dev = s.time.dev ∧ (goOff s).bankA = s.bankA ∧ (goOff s).bankB = s.bankB ∧ (goOff s).pos = s.pos ∧ (goOff s).pouts = s.pouts ∧ (goOff s).cmps = s.cmps ∧ (goOff s).temps = s.temps ∧ (goOff s).store = s.store ∧ (goOff s).proto.sess = s.proto.sess ∧ (goOff s).proto.ctx = s.proto.ctx ∧ (goOff s).proto.left = s.proto.left ∧ (goOff s).net.can = s.net.can ∧ (goOff s).net.eth = s.net.eth ∧ (goOff s).net.canTx = s.net.canTx ∧ (goOff s).net.egress = s.net.egress ∧ (goOff s).net.rest = s.net.rest ∧ (goOff s).bridges = s.bridges ∧ (goOff s).machs = s.machs ∧ (goOff s).chans = s.chans ∧ (goOff s).lgs = s.lgs ∧ (goOff s).safety = s.safety ∧ (goOff s).out = s.out := by
  unfold goOff
  try dsimp only
  repeat' split
  all_goals simp
theorem execHoldupEnd_same (us : Nat) (s : State) : OutAll (fun t => t.time.dev = s.time.dev ∧ t.cmps = s.cmps ∧ t.temps = s.temps ∧ t.out = s.out) (execHoldupEnd us s) := by
  unfold execHoldupEnd
  try dsimp only
  repeat' split
  all_goals simp [id goOff_same, id powerDown_same]
theorem execKl30OutOfRange_same (mv ticks : Nat) (s : State) : OutAll (fun t => Same1 s t) (execKl30OutOfRange mv ticks s) := by
  unfold execKl30OutOfRange
  try dsimp only
  repeat' split
  all_goals simp [id note_same]
theorem execKl30Apply_same (kl15High : Bool) (s : State) : OutAll (fun t => t.time.dev = s.time.dev ∧ t.bankA = s.bankA ∧ t.bankB = s.bankB ∧ t.pos = s.pos ∧ t.pouts = s.pouts ∧ t.cmps = s.cmps ∧ t.temps = s.temps ∧ t.clk = s.clk ∧ t.lgs = s.lgs ∧ t.ctds = s.ctds ∧ t.recd = s.recd ∧ t.out = s.out) (execKl30Apply kl15High s) := by
  unfold execKl30Apply
  try dsimp only
  repeat' split
  all_goals simp [id enterBoot_same]
theorem execStandbyEnter_same (h : Hdr) (depth timing canWake : Byte) (s : State) : OutAll (fun t => Same49 s t) (execStandbyEnter h depth timing canWake s) := by
  unfold execStandbyEnter
  try dsimp only
  repeat' split
  all_goals simp [id opStandbyEnter_same]
theorem execRtcSet_same (h : Hdr) (count : BitVec 48) (s : State) : OutAll (fun t => t.pins = s.pins ∧ t.time.dev = s.time.dev ∧ t.bankA = s.bankA ∧ t.bankB = s.bankB ∧ t.pos = s.pos ∧ t.pouts = s.pouts ∧ t.cmps = s.cmps ∧ t.temps = s.temps ∧ t.pwr = s.pwr ∧ t.net.can = s.net.can ∧ t.net.eth = s.net.eth ∧ t.net.rest = s.net.rest) (execRtcSet h count s) := by
  unfold execRtcSet
  try dsimp only
  repeat' split
  all_goals simp [id opRtcSet_same]
theorem execAlarmSet_same (h : Hdr) (alarm : BitVec 48) (armed : Byte) (s : State) : OutAll (fun t => Same59 s t) (execAlarmSet h alarm armed s) := by
  unfold execAlarmSet
  try dsimp only
  repeat' split
  all_goals simp [id opAlarmSet_same]

/-! ### Machine/Startup.lean -/

theorem bootTime_same (s : State) : (bootTime s).pins = s.pins ∧ (bootTime s).dev = s.dev ∧ (bootTime s).bankA = s.bankA ∧ (bootTime s).bankB = s.bankB ∧ (bootTime s).pos = s.pos ∧ (bootTime s).pouts = s.pouts ∧ (bootTime s).cmps = s.cmps ∧ (bootTime s).temps = s.temps ∧ (bootTime s).store = s.store ∧ (bootTime s).clk = s.clk ∧ (bootTime s).pwr = s.pwr ∧ (bootTime s).proto.sess = s.proto.sess ∧ (bootTime s).proto.ctx = s.proto.ctx ∧ (bootTime s).proto.left = s.proto.left ∧ (bootTime s).net.can = s.net.can ∧ (bootTime s).net.eth = s.net.eth ∧ (bootTime s).net.canTx = s.net.canTx ∧ (bootTime s).net.egress = s.net.egress ∧ (bootTime s).net.rest = s.net.rest ∧ (bootTime s).bridges = s.bridges ∧ (bootTime s).machs = s.machs ∧ (bootTime s).chans = s.chans ∧ (bootTime s).lgs = s.lgs ∧ (bootTime s).ctds = s.ctds ∧ (bootTime s).safety = s.safety ∧ (bootTime s).recd = s.recd ∧ (bootTime s).out = s.out := by
  unfold bootTime
  try dsimp only
  repeat' split
  all_goals simp
theorem bootStraps_same (o : BootObs) (s : State) : Same25 s (bootStraps o s) := by
  unfold bootStraps
  try dsimp only
  repeat' split
  all_goals simp [id note_same]
theorem bootUnits_same (s : State) : (bootUnits s).pins = s.pins ∧ (bootUnits s).time.dev = s.time.dev ∧ (bootUnits s).time.rtc = s.time.rtc ∧ (bootUnits s).store = s.store ∧ (bootUnits s).clk = s.clk ∧ (bootUnits s).bridges = s.bridges ∧ (bootUnits s).machs = s.machs ∧ (bootUnits s).chans = s.chans ∧ (bootUnits s).ctds = s.ctds ∧ (bootUnits s).out = s.out := by
  unfold bootUnits
  try dsimp only
  repeat' split
  all_goals simp
theorem bootClocks_same (o : BootObs) (s : State) : Same9 s (bootClocks o s) := by
  unfold bootClocks
  try dsimp only
  repeat' split
  all_goals simp
theorem noteBoot_same (o : BootObs) (n : Nat) (s : State) : Same26 s (noteBoot o n s) := by
  unfold noteBoot
  try dsimp only
  repeat' split
  all_goals simp [id note_same]
theorem bootDomains_same (o : BootObs) (ns : List Nat) (s : State) : Same26 s (bootDomains o ns s) := by
  unfold bootDomains
  try dsimp only
  repeat' split
  all_goals simp [id modDom_same, id noteBoot_same]
theorem setSlotSt_same (c : ImgClass) (b : Bool) (st : SlotState) (s : State) : Same12 s (setSlotSt c b st s) := by
  unfold setSlotSt
  try dsimp only
  repeat' split
  all_goals simp [id modSlots_same]
theorem trySlot_same (c : ImgClass) (b : Bool) (s : State) : Same18 s (trySlot c b s).2 := by
  unfold trySlot
  try dsimp only
  repeat' split
  all_goals simp [id note_same, id setSlotSt_same]
theorem pickSlot_same (c : ImgClass) (s : State) : Same18 s (pickSlot c s) := by
  unfold pickSlot
  try dsimp only
  repeat' split
  all_goals simp [id modSlots_same, id trySlot_same]
theorem bootPset_same (s : State) : (bootPset s).pins = s.pins ∧ (bootPset s).dev = s.dev ∧ (bootPset s).time.dev = s.time.dev ∧ (bootPset s).time.rtc = s.time.rtc ∧ (bootPset s).bankA = s.bankA ∧ (bootPset s).bankB = s.bankB ∧ (bootPset s).pos = s.pos ∧ (bootPset s).pouts = s.pouts ∧ (bootPset s).cmps = s.cmps ∧ (bootPset s).pwr = s.pwr ∧ (bootPset s).proto.sess = s.proto.sess ∧ (bootPset s).net.can = s.net.can ∧ (bootPset s).net.eth = s.net.eth ∧ (bootPset s).net.rest = s.net.rest := by
  unfold bootPset
  try dsimp only
  repeat' split
  all_goals simp [id note_same, id pickSlot_same, id relearn_same]
theorem bootMode_same (s : State) : Same25 s (bootMode s) := by
  unfold bootMode
  try dsimp only
  repeat' split
  all_goals simp [id note_same]
theorem bootImages_same (s : State) : (bootImages s).pins = s.pins ∧ (bootImages s).time.dev = s.time.dev ∧ (bootImages s).time.rtc = s.time.rtc ∧ (bootImages s).bankA = s.bankA ∧ (bootImages s).bankB = s.bankB ∧ (bootImages s).pos = s.pos ∧ (bootImages s).pouts = s.pouts ∧ (bootImages s).cmps = s.cmps ∧ (bootImages s).temps = s.temps ∧ (bootImages s).pwr = s.pwr ∧ (bootImages s).proto.sess = s.proto.sess ∧ (bootImages s).net.can = s.net.can ∧ (bootImages s).net.eth = s.net.eth ∧ (bootImages s).net.rest = s.net.rest := by
  unfold bootImages
  try dsimp only
  repeat' split
  all_goals simp [id note_same, id pickSlot_same]
theorem keepRegenZero_same (s : State) : Same3 s (keepRegenZero s) := by
  unfold keepRegenZero
  try dsimp only
  repeat' split
  all_goals simp
theorem bootVerify_same (s : State) : (bootVerify s).pins = s.pins ∧ (bootVerify s).time.dev = s.time.dev ∧ (bootVerify s).time.rtc = s.time.rtc ∧ (bootVerify s).bankA = s.bankA ∧ (bootVerify s).bankB = s.bankB ∧ (bootVerify s).pos = s.pos ∧ (bootVerify s).pouts = s.pouts ∧ (bootVerify s).cmps = s.cmps ∧ (bootVerify s).pwr = s.pwr ∧ (bootVerify s).proto.sess = s.proto.sess ∧ (bootVerify s).net.can = s.net.can ∧ (bootVerify s).net.eth = s.net.eth ∧ (bootVerify s).net.rest = s.net.rest := by
  unfold bootVerify
  try dsimp only
  repeat' split
  all_goals simp [id bootImages_same, id bootMode_same, id bootPset_same, id copyToMonitor_same, id keepRegenZero_same]
theorem bootRefin_same (o : BootObs) (s : State) : Same9 s (bootRefin o s) := by
  unfold bootRefin
  try dsimp only
  repeat' split
  all_goals simp [id restorePll_same]
theorem bootCompat_same (s : State) : Same25 s (bootCompat s) := by
  unfold bootCompat
  try dsimp only
  repeat' split
  all_goals simp [id note_same]
theorem mergeEvents_same (s : State) : Same4 s (mergeEvents s) := by
  unfold mergeEvents
  try dsimp only
  repeat' split
  all_goals simp
theorem noteMask_same (k : Nat) (s : State) : Same4 s (noteMask k s) := by
  unfold noteMask
  try dsimp only
  repeat' split
  all_goals simp [id drawFree_same, id recordAt_same]
theorem mergeSnapshot_same (s : State) : Same4 s (mergeSnapshot s) := by
  unfold mergeSnapshot
  try dsimp only
  repeat' split
  all_goals simp [id mergeEvents_same, id noteMask_same]
theorem bootSram_same (o : BootObs) (s : State) : Same1 s (bootSram o s) := by
  unfold bootSram
  try dsimp only
  repeat' split
  all_goals simp [id mergeSnapshot_same, id raiseFault_same, id recordEvent_same]
theorem bootInjection_same (o : BootObs) (s : State) : Same1 s (bootInjection o s) := by
  unfold bootInjection
  try dsimp only
  repeat' split
  all_goals simp [id raiseFault_same]
theorem bootBanks_same (o : BootObs) (s : State) : Same1 s (bootBanks o s) := by
  unfold bootBanks
  try dsimp only
  repeat' split
  all_goals simp [id modBridge_same, id note_same]
theorem takeHandshake_same (o : IslandObs) (c : Nat) (s : State) : Same1 s (takeHandshake o c s) := by
  unfold takeHandshake
  try dsimp only
  repeat' split
  all_goals simp [id modChan_same, id note_same]
theorem bootIslands_same (o : BootObs) (s : State) : Same25 s (bootIslands o s) := by
  unfold bootIslands
  try dsimp only
  repeat' split
  all_goals simp [id note_same, id takeHandshake_same]
theorem measurePeg_same (s : State) : (measurePeg s).pins = s.pins ∧ (measurePeg s).time.dev = s.time.dev ∧ (measurePeg s).time.rtc = s.time.rtc ∧ (measurePeg s).bankA = s.bankA ∧ (measurePeg s).bankB = s.bankB ∧ (measurePeg s).pos = s.pos ∧ (measurePeg s).pouts = s.pouts ∧ (measurePeg s).cmps = s.cmps ∧ (measurePeg s).temps = s.temps ∧ (measurePeg s).store = s.store ∧ (measurePeg s).clk = s.clk ∧ (measurePeg s).pwr = s.pwr ∧ (measurePeg s).proto.sess = s.proto.sess ∧ (measurePeg s).proto.ctx = s.proto.ctx ∧ (measurePeg s).proto.left = s.proto.left ∧ (measurePeg s).net.can = s.net.can ∧ (measurePeg s).net.eth = s.net.eth ∧ (measurePeg s).net.canTx = s.net.canTx ∧ (measurePeg s).net.egress = s.net.egress ∧ (measurePeg s).net.rest = s.net.rest ∧ (measurePeg s).bridges = s.bridges ∧ (measurePeg s).machs = s.machs ∧ (measurePeg s).chans = s.chans ∧ (measurePeg s).lgs = s.lgs ∧ (measurePeg s).ctds = s.ctds ∧ (measurePeg s).safety = s.safety ∧ (measurePeg s).recd = s.recd ∧ (measurePeg s).out = s.out := by
  unfold measurePeg
  try dsimp only
  repeat' split
  all_goals simp [id drawFree_same]
theorem startupPeg_same (o : BootObs) (kind inst k : Nat) (s : State) : Same12 s (startupPeg o kind inst k s) := by
  unfold startupPeg
  try dsimp only
  repeat' split
  all_goals simp [id writeStartup_same]
theorem startupIsland_same (o : BootObs) (kind c : Nat) (s : State) : Same12 s (startupIsland o kind c s) := by
  unfold startupIsland
  try dsimp only
  repeat' split
  all_goals simp [id writeStartup_same]
theorem startupCorr_same (k : Bank) (b : Nat) (s : State) : Same12 s (startupCorr k b s) := by
  unfold startupCorr
  try dsimp only
  repeat' split
  all_goals simp [id writeStartup_same]
theorem bootCompensate_same (o : BootObs) (s : State) : (bootCompensate o s).pins = s.pins ∧ (bootCompensate o s).time.dev = s.time.dev ∧ (bootCompensate o s).time.rtc = s.time.rtc ∧ (bootCompensate o s).bankA = s.bankA ∧ (bootCompensate o s).bankB = s.bankB ∧ (bootCompensate o s).pos = s.pos ∧ (bootCompensate o s).pouts = s.pouts ∧ (bootCompensate o s).cmps = s.cmps ∧ (bootCompensate o s).clk = s.clk ∧ (bootCompensate o s).pwr = s.pwr ∧ (bootCompensate o s).proto.sess = s.proto.sess ∧ (bootCompensate o s).net.can = s.net.can ∧ (bootCompensate o s).net.eth = s.net.eth ∧ (bootCompensate o s).net.rest = s.net.rest := by
  unfold bootCompensate
  try dsimp only
  repeat' split
  all_goals simp [id compensate_same, id measurePeg_same, id modTemp_same, id startupCorr_same, id startupIsland_same, id startupPeg_same]
theorem bootBridges_same (s : State) : Same5 s (bootBridges s) := by
  unfold bootBridges
  try dsimp only
  repeat' split
  all_goals simp
theorem bootFuses_raiseFuse_same (c : ImgClass) (s : State) : Same18 s (bootFuses.raiseFuse c s) := by
  unfold bootFuses.raiseFuse
  try dsimp only
  repeat' split
  all_goals simp [id note_same]
theorem bootFuses_same (s : State) : Same18 s (bootFuses s) := by
  unfold bootFuses
  try dsimp only
  repeat' split
  all_goals simp [id bootFuses_raiseFuse_same, id note_same]
theorem noteReason_same (s : State) (r : StartReason) : Same4 s (noteReason s r) := by
  unfold noteReason
  try dsimp only
  repeat' split
  all_goals simp [id noteService_same]
theorem bootFinish_same (s : State) : Same31 s (bootFinish s) := by
  unfold bootFinish
  try dsimp only
  repeat' split
  all_goals simp [id bootBridges_same, id bootFuses_same, id initPos_same, id newTrend_same, id noteReason_same, id standbyAdvance_same, id
      standbyBegin_same]
theorem haltAt_same (n : Nat) (s : State) : Same31 s (haltAt n s) := by
  unfold haltAt
  try dsimp only
  repeat' split
  all_goals simp [id standbyHalted_same]
@[simp] theorem bootStep_pins' (o : BootObs) (n : Nat) (f : State → State) (s : State) (hf : ∀ v, (f v).pins = v.pins) :
    (bootStep o n f s).pins = s.pins := by
  unfold bootStep
  try dsimp only
  repeat' split
  all_goals simp [hf]
@[simp] theorem bootStep_dev' (o : BootObs) (n : Nat) (f : State → State) (s : State) (hf : ∀ v, (f v).dev = v.dev) :
    (bootStep o n f s).dev = s.dev := by
  unfold bootStep
  try dsimp only
  repeat' split
  all_goals simp [hf]
@[simp] theorem bootStep_tdev' (o : BootObs) (n : Nat) (f : State → State) (s : State) (hf : ∀ v, (f v).time.dev = v.time.dev) :
    (bootStep o n f s).time.dev = s.time.dev := by
  unfold bootStep
  try dsimp only
  repeat' split
  all_goals simp [hf]
@[simp] theorem bootStep_rtc' (o : BootObs) (n : Nat) (f : State → State) (s : State) (hf : ∀ v, (f v).time.rtc = v.time.rtc) :
    (bootStep o n f s).time.rtc = s.time.rtc := by
  unfold bootStep
  try dsimp only
  repeat' split
  all_goals simp [hf]
@[simp] theorem bootStep_bankA' (o : BootObs) (n : Nat) (f : State → State) (s : State) (hf : ∀ v, (f v).bankA = v.bankA) :
    (bootStep o n f s).bankA = s.bankA := by
  unfold bootStep
  try dsimp only
  repeat' split
  all_goals simp [hf]
@[simp] theorem bootStep_bankB' (o : BootObs) (n : Nat) (f : State → State) (s : State) (hf : ∀ v, (f v).bankB = v.bankB) :
    (bootStep o n f s).bankB = s.bankB := by
  unfold bootStep
  try dsimp only
  repeat' split
  all_goals simp [hf]
@[simp] theorem bootStep_pos' (o : BootObs) (n : Nat) (f : State → State) (s : State) (hf : ∀ v, (f v).pos = v.pos) :
    (bootStep o n f s).pos = s.pos := by
  unfold bootStep
  try dsimp only
  repeat' split
  all_goals simp [hf]
@[simp] theorem bootStep_pouts' (o : BootObs) (n : Nat) (f : State → State) (s : State) (hf : ∀ v, (f v).pouts = v.pouts) :
    (bootStep o n f s).pouts = s.pouts := by
  unfold bootStep
  try dsimp only
  repeat' split
  all_goals simp [hf]
@[simp] theorem bootStep_cmps' (o : BootObs) (n : Nat) (f : State → State) (s : State) (hf : ∀ v, (f v).cmps = v.cmps) :
    (bootStep o n f s).cmps = s.cmps := by
  unfold bootStep
  try dsimp only
  repeat' split
  all_goals simp [hf]
@[simp] theorem bootStep_temps' (o : BootObs) (n : Nat) (f : State → State) (s : State) (hf : ∀ v, (f v).temps = v.temps) :
    (bootStep o n f s).temps = s.temps := by
  unfold bootStep
  try dsimp only
  repeat' split
  all_goals simp [hf]
@[simp] theorem bootStep_store' (o : BootObs) (n : Nat) (f : State → State) (s : State) (hf : ∀ v, (f v).store = v.store) :
    (bootStep o n f s).store = s.store := by
  unfold bootStep
  try dsimp only
  repeat' split
  all_goals simp [hf]
@[simp] theorem bootStep_clk' (o : BootObs) (n : Nat) (f : State → State) (s : State) (hf : ∀ v, (f v).clk = v.clk) :
    (bootStep o n f s).clk = s.clk := by
  unfold bootStep
  try dsimp only
  repeat' split
  all_goals simp [hf]
@[simp] theorem bootStep_pwr' (o : BootObs) (n : Nat) (f : State → State) (s : State) (hf : ∀ v, (f v).pwr = v.pwr) :
    (bootStep o n f s).pwr = s.pwr := by
  unfold bootStep
  try dsimp only
  repeat' split
  all_goals simp [hf]
@[simp] theorem bootStep_sess' (o : BootObs) (n : Nat) (f : State → State) (s : State) (hf : ∀ v, (f v).proto.sess = v.proto.sess) :
    (bootStep o n f s).proto.sess = s.proto.sess := by
  unfold bootStep
  try dsimp only
  repeat' split
  all_goals simp [hf]
@[simp] theorem bootStep_ctx' (o : BootObs) (n : Nat) (f : State → State) (s : State) (hf : ∀ v, (f v).proto.ctx = v.proto.ctx) :
    (bootStep o n f s).proto.ctx = s.proto.ctx := by
  unfold bootStep
  try dsimp only
  repeat' split
  all_goals simp [hf]
@[simp] theorem bootStep_left' (o : BootObs) (n : Nat) (f : State → State) (s : State) (hf : ∀ v, (f v).proto.left = v.proto.left) :
    (bootStep o n f s).proto.left = s.proto.left := by
  unfold bootStep
  try dsimp only
  repeat' split
  all_goals simp [hf]
@[simp] theorem bootStep_can' (o : BootObs) (n : Nat) (f : State → State) (s : State) (hf : ∀ v, (f v).net.can = v.net.can) :
    (bootStep o n f s).net.can = s.net.can := by
  unfold bootStep
  try dsimp only
  repeat' split
  all_goals simp [hf]
@[simp] theorem bootStep_eth' (o : BootObs) (n : Nat) (f : State → State) (s : State) (hf : ∀ v, (f v).net.eth = v.net.eth) :
    (bootStep o n f s).net.eth = s.net.eth := by
  unfold bootStep
  try dsimp only
  repeat' split
  all_goals simp [hf]
@[simp] theorem bootStep_cantx' (o : BootObs) (n : Nat) (f : State → State) (s : State) (hf : ∀ v, (f v).net.canTx = v.net.canTx) :
    (bootStep o n f s).net.canTx = s.net.canTx := by
  unfold bootStep
  try dsimp only
  repeat' split
  all_goals simp [hf]
@[simp] theorem bootStep_egress' (o : BootObs) (n : Nat) (f : State → State) (s : State) (hf : ∀ v, (f v).net.egress = v.net.egress) :
    (bootStep o n f s).net.egress = s.net.egress := by
  unfold bootStep
  try dsimp only
  repeat' split
  all_goals simp [hf]
@[simp] theorem bootStep_nother' (o : BootObs) (n : Nat) (f : State → State) (s : State) (hf : ∀ v, (f v).net.rest = v.net.rest) :
    (bootStep o n f s).net.rest = s.net.rest := by
  unfold bootStep
  try dsimp only
  repeat' split
  all_goals simp [hf]
@[simp] theorem bootStep_bridges' (o : BootObs) (n : Nat) (f : State → State) (s : State) (hf : ∀ v, (f v).bridges = v.bridges) :
    (bootStep o n f s).bridges = s.bridges := by
  unfold bootStep
  try dsimp only
  repeat' split
  all_goals simp [hf]
@[simp] theorem bootStep_machs' (o : BootObs) (n : Nat) (f : State → State) (s : State) (hf : ∀ v, (f v).machs = v.machs) :
    (bootStep o n f s).machs = s.machs := by
  unfold bootStep
  try dsimp only
  repeat' split
  all_goals simp [hf]
@[simp] theorem bootStep_chans' (o : BootObs) (n : Nat) (f : State → State) (s : State) (hf : ∀ v, (f v).chans = v.chans) :
    (bootStep o n f s).chans = s.chans := by
  unfold bootStep
  try dsimp only
  repeat' split
  all_goals simp [hf]
@[simp] theorem bootStep_lgs' (o : BootObs) (n : Nat) (f : State → State) (s : State) (hf : ∀ v, (f v).lgs = v.lgs) :
    (bootStep o n f s).lgs = s.lgs := by
  unfold bootStep
  try dsimp only
  repeat' split
  all_goals simp [hf]
@[simp] theorem bootStep_ctds' (o : BootObs) (n : Nat) (f : State → State) (s : State) (hf : ∀ v, (f v).ctds = v.ctds) :
    (bootStep o n f s).ctds = s.ctds := by
  unfold bootStep
  try dsimp only
  repeat' split
  all_goals simp [hf]
@[simp] theorem bootStep_safety' (o : BootObs) (n : Nat) (f : State → State) (s : State) (hf : ∀ v, (f v).safety = v.safety) :
    (bootStep o n f s).safety = s.safety := by
  unfold bootStep
  try dsimp only
  repeat' split
  all_goals simp [hf]
@[simp] theorem bootStep_recd' (o : BootObs) (n : Nat) (f : State → State) (s : State) (hf : ∀ v, (f v).recd = v.recd) :
    (bootStep o n f s).recd = s.recd := by
  unfold bootStep
  try dsimp only
  repeat' split
  all_goals simp [hf]
@[simp] theorem bootStep_out' (o : BootObs) (n : Nat) (f : State → State) (s : State) (hf : ∀ v, (f v).out = v.out) :
    (bootStep o n f s).out = s.out := by
  unfold bootStep
  try dsimp only
  repeat' split
  all_goals simp [hf]
theorem bootNetwork_same (s : State) : (bootNetwork s).pins = s.pins ∧ (bootNetwork s).dev = s.dev ∧ (bootNetwork s).time.dev = s.time.dev ∧ (bootNetwork s).time.rtc = s.time.rtc ∧ (bootNetwork s).bankA = s.bankA ∧ (bootNetwork s).bankB = s.bankB ∧ (bootNetwork s).pos = s.pos ∧ (bootNetwork s).pouts = s.pouts ∧ (bootNetwork s).cmps = s.cmps ∧ (bootNetwork s).temps = s.temps ∧ (bootNetwork s).store = s.store ∧ (bootNetwork s).clk = s.clk ∧ (bootNetwork s).pwr = s.pwr ∧ (bootNetwork s).proto.sess = s.proto.sess ∧ (bootNetwork s).proto.ctx = s.proto.ctx ∧ (bootNetwork s).proto.left = s.proto.left ∧ (bootNetwork s).net.eth = s.net.eth ∧ (bootNetwork s).net.canTx = s.net.canTx ∧ (bootNetwork s).net.egress = s.net.egress ∧ (bootNetwork s).bridges = s.bridges ∧ (bootNetwork s).machs = s.machs ∧ (bootNetwork s).chans = s.chans ∧ (bootNetwork s).lgs = s.lgs ∧ (bootNetwork s).ctds = s.ctds ∧ (bootNetwork s).safety = s.safety ∧ (bootNetwork s).recd = s.recd ∧ (bootNetwork s).out = s.out := by
  unfold bootNetwork
  try dsimp only
  repeat' split
  all_goals simp [id startCan_same]
theorem bootTests_same (o : BootObs) (s : State) : (bootTests o s).pins = s.pins ∧ (bootTests o s).time.dev = s.time.dev ∧ (bootTests o s).time.rtc = s.time.rtc ∧ (bootTests o s).bankA = s.bankA ∧ (bootTests o s).bankB = s.bankB ∧ (bootTests o s).pos = s.pos ∧ (bootTests o s).pouts = s.pouts ∧ (bootTests o s).cmps = s.cmps ∧ (bootTests o s).proto.sess = s.proto.sess ∧ (bootTests o s).net.eth = s.net.eth := by
  unfold bootTests
  try dsimp only
  repeat' split
  all_goals simp [id bootBanks_same, id bootCompat_same, id bootCompensate_same, id bootDomains_same, id bootInjection_same, id
      bootIslands_same, id bootNetwork_same, id bootRefin_same, id bootSram_same, id bootVerify_same, id writeHeldWakes_same]
theorem bootSteps_same (o : BootObs) (s : State) : (bootSteps o s).pins = s.pins ∧ (bootSteps o s).time.dev = s.time.dev ∧ (bootSteps o s).time.rtc = s.time.rtc ∧ (bootSteps o s).cmps = s.cmps := by
  unfold bootSteps
  try dsimp only
  repeat' split
  all_goals simp [id bootFinish_same, id bootTests_same, id haltAt_same]
theorem execBootEntry_same (obs : BootObs) (s : State) : OutAll (fun t => t.pins = s.pins) (execBootEntry obs s) := by
  unfold execBootEntry
  try dsimp only
  repeat' split
  all_goals simp [id bootClocks_same, id bootDomains_same, id bootSteps_same, id bootStraps_same, id bootTime_same, id bootUnits_same, id
      flushBuffer_same]
theorem execIslandHandshakeTimeout_same (ch : ChanIx) (ticks : Nat) (s : State) : OutAll (fun t => Same8 s t) (execIslandHandshakeTimeout ch ticks s) := by
  unfold execIslandHandshakeTimeout
  try dsimp only
  repeat' split
  all_goals simp [id forgetUnread_same, id modChan_same, id note_same, id reselect_same]
theorem execStartupStepOverrun_same (step : Fin 10) (us : Nat) (s : State) : OutAll (fun t => Same1 s t) (execStartupStepOverrun step us s) := by
  unfold execStartupStepOverrun
  try dsimp only
  repeat' split
  all_goals simp [id note_same]

end Sys2Proof.Machine
end

