-- ==== Sys2Proof/Laws/SameStore.lean ====
section
/-! SUPPORT. One lemma per function: the same: Machine/Update, Recorder, Security, Window, Freeze. -/

namespace Sys2Proof.Machine

set_option linter.unusedTactic false
set_option linter.unusedSimpArgs false

/-! ### Machine/Update.lean -/

theorem modUpdSlot_same (u : Update) (f : Slot → Slot) (s : State) : Same12 s (modUpdSlot u f s) := by
  unfold modUpdSlot
  try dsimp only
  repeat' split
  all_goals simp [id modSlots_same]
theorem dropUpdate_same (s : State) : Same12 s (dropUpdate s) := by
  unfold dropUpdate
  try dsimp only
  repeat' split
  all_goals simp [id modUpdSlot_same]
theorem beginUpdate_same (t : Nat) (c : ImgClass) (total : Nat) (m : Manifest) (s : State) : Same27 s (beginUpdate t c total m s) := by
  unfold beginUpdate
  try dsimp only
  repeat' split
  all_goals simp [id dropUpdate_same, id finish_same, id modUpdSlot_same]
theorem opUpdBegin_same (t : Nat) (cls : U16) (total : U32) (m : Manifest) (s : State) : Same27 s (opUpdBegin t cls total m s) := by
  unfold opUpdBegin
  try dsimp only
  repeat' split
  all_goals simp [id beginUpdate_same, id refuse_same]
@[simp] theorem withUpdate_pins' (t : Nat) (f : Update → State → State) (s : State) (hf : ∀ a0 v, (f a0 v).pins = v.pins) :
    (withUpdate t f s).pins = s.pins := by
  unfold withUpdate
  try dsimp only
  repeat' split
  all_goals simp [hf, id refuse_same]
@[simp] theorem withUpdate_dev' (t : Nat) (f : Update → State → State) (s : State) (hf : ∀ a0 v, (f a0 v).dev = v.dev) :
    (withUpdate t f s).dev = s.dev := by
  unfold withUpdate
  try dsimp only
  repeat' split
  all_goals simp [hf, id refuse_same]
@[simp] theorem withUpdate_tdev' (t : Nat) (f : Update → State → State) (s : State) (hf : ∀ a0 v, (f a0 v).time.dev = v.time.dev) :
    (withUpdate t f s).time.dev = s.time.dev := by
  unfold withUpdate
  try dsimp only
  repeat' split
  all_goals simp [hf, id refuse_same]
@[simp] theorem withUpdate_rtc' (t : Nat) (f : Update → State → State) (s : State) (hf : ∀ a0 v, (f a0 v).time.rtc = v.time.rtc) :
    (withUpdate t f s).time.rtc = s.time.rtc := by
  unfold withUpdate
  try dsimp only
  repeat' split
  all_goals simp [hf, id refuse_same]
@[simp] theorem withUpdate_bankA' (t : Nat) (f : Update → State → State) (s : State) (hf : ∀ a0 v, (f a0 v).bankA = v.bankA) :
    (withUpdate t f s).bankA = s.bankA := by
  unfold withUpdate
  try dsimp only
  repeat' split
  all_goals simp [hf, id refuse_same]
@[simp] theorem withUpdate_bankB' (t : Nat) (f : Update → State → State) (s : State) (hf : ∀ a0 v, (f a0 v).bankB = v.bankB) :
    (withUpdate t f s).bankB = s.bankB := by
  unfold withUpdate
  try dsimp only
  repeat' split
  all_goals simp [hf, id refuse_same]
@[simp] theorem withUpdate_pos' (t : Nat) (f : Update → State → State) (s : State) (hf : ∀ a0 v, (f a0 v).pos = v.pos) :
    (withUpdate t f s).pos = s.pos := by
  unfold withUpdate
  try dsimp only
  repeat' split
  all_goals simp [hf, id refuse_same]
@[simp] theorem withUpdate_pouts' (t : Nat) (f : Update → State → State) (s : State) (hf : ∀ a0 v, (f a0 v).pouts = v.pouts) :
    (withUpdate t f s).pouts = s.pouts := by
  unfold withUpdate
  try dsimp only
  repeat' split
  all_goals simp [hf, id refuse_same]
@[simp] theorem withUpdate_cmps' (t : Nat) (f : Update → State → State) (s : State) (hf : ∀ a0 v, (f a0 v).cmps = v.cmps) :
    (withUpdate t f s).cmps = s.cmps := by
  unfold withUpdate
  try dsimp only
  repeat' split
  all_goals simp [hf, id refuse_same]
@[simp] theorem withUpdate_temps' (t : Nat) (f : Update → State → State) (s : State) (hf : ∀ a0 v, (f a0 v).temps = v.temps) :
    (withUpdate t f s).temps = s.temps := by
  unfold withUpdate
  try dsimp only
  repeat' split
  all_goals simp [hf, id refuse_same]
@[simp] theorem withUpdate_store' (t : Nat) (f : Update → State → State) (s : State) (hf : ∀ a0 v, (f a0 v).store = v.store) :
    (withUpdate t f s).store = s.store := by
  unfold withUpdate
  try dsimp only
  repeat' split
  all_goals simp [hf, id refuse_same]
@[simp] theorem withUpdate_clk' (t : Nat) (f : Update → State → State) (s : State) (hf : ∀ a0 v, (f a0 v).clk = v.clk) :
    (withUpdate t f s).clk = s.clk := by
  unfold withUpdate
  try dsimp only
  repeat' split
  all_goals simp [hf, id refuse_same]
@[simp] theorem withUpdate_pwr' (t : Nat) (f : Update → State → State) (s : State) (hf : ∀ a0 v, (f a0 v).pwr = v.pwr) :
    (withUpdate t f s).pwr = s.pwr := by
  unfold withUpdate
  try dsimp only
  repeat' split
  all_goals simp [hf, id refuse_same]
@[simp] theorem withUpdate_sess' (t : Nat) (f : Update → State → State) (s : State) (hf : ∀ a0 v, (f a0 v).proto.sess = v.proto.sess) :
    (withUpdate t f s).proto.sess = s.proto.sess := by
  unfold withUpdate
  try dsimp only
  repeat' split
  all_goals simp [hf, id refuse_same]
@[simp] theorem withUpdate_can' (t : Nat) (f : Update → State → State) (s : State) (hf : ∀ a0 v, (f a0 v).net.can = v.net.can) :
    (withUpdate t f s).net.can = s.net.can := by
  unfold withUpdate
  try dsimp only
  repeat' split
  all_goals simp [hf, id refuse_same]
@[simp] theorem withUpdate_eth' (t : Nat) (f : Update → State → State) (s : State) (hf : ∀ a0 v, (f a0 v).net.eth = v.net.eth) :
    (withUpdate t f s).net.eth = s.net.eth := by
  unfold withUpdate
  try dsimp only
  repeat' split
  all_goals simp [hf, id refuse_same]
@[simp] theorem withUpdate_nother' (t : Nat) (f : Update → State → State) (s : State) (hf : ∀ a0 v, (f a0 v).net.rest = v.net.rest) :
    (withUpdate t f s).net.rest = s.net.rest := by
  unfold withUpdate
  try dsimp only
  repeat' split
  all_goals simp [hf, id refuse_same]
@[simp] theorem withUpdate_bridges' (t : Nat) (f : Update → State → State) (s : State) (hf : ∀ a0 v, (f a0 v).bridges = v.bridges) :
    (withUpdate t f s).bridges = s.bridges := by
  unfold withUpdate
  try dsimp only
  repeat' split
  all_goals simp [hf, id refuse_same]
@[simp] theorem withUpdate_machs' (t : Nat) (f : Update → State → State) (s : State) (hf : ∀ a0 v, (f a0 v).machs = v.machs) :
    (withUpdate t f s).machs = s.machs := by
  unfold withUpdate
  try dsimp only
  repeat' split
  all_goals simp [hf, id refuse_same]
@[simp] theorem withUpdate_chans' (t : Nat) (f : Update → State → State) (s : State) (hf : ∀ a0 v, (f a0 v).chans = v.chans) :
    (withUpdate t f s).chans = s.chans := by
  unfold withUpdate
  try dsimp only
  repeat' split
  all_goals simp [hf, id refuse_same]
@[simp] theorem withUpdate_lgs' (t : Nat) (f : Update → State → State) (s : State) (hf : ∀ a0 v, (f a0 v).lgs = v.lgs) :
    (withUpdate t f s).lgs = s.lgs := by
  unfold withUpdate
  try dsimp only
  repeat' split
  all_goals simp [hf, id refuse_same]
@[simp] theorem withUpdate_ctds' (t : Nat) (f : Update → State → State) (s : State) (hf : ∀ a0 v, (f a0 v).ctds = v.ctds) :
    (withUpdate t f s).ctds = s.ctds := by
  unfold withUpdate
  try dsimp only
  repeat' split
  all_goals simp [hf, id refuse_same]
@[simp] theorem withUpdate_safety' (t : Nat) (f : Update → State → State) (s : State) (hf : ∀ a0 v, (f a0 v).safety = v.safety) :
    (withUpdate t f s).safety = s.safety := by
  unfold withUpdate
  try dsimp only
  repeat' split
  all_goals simp [hf, id refuse_same]
@[simp] theorem withUpdate_recd' (t : Nat) (f : Update → State → State) (s : State) (hf : ∀ a0 v, (f a0 v).recd = v.recd) :
    (withUpdate t f s).recd = s.recd := by
  unfold withUpdate
  try dsimp only
  repeat' split
  all_goals simp [hf, id refuse_same]
theorem opUpdChunk_same (t : Nat) (offset : U32) (data : List Byte) (s : State) : Same27 s (opUpdChunk t offset data s) := by
  unfold opUpdChunk
  try dsimp only
  repeat' split
  all_goals simp [id finish_same, id modUpdSlot_same]
theorem verifyUpdate_same (t : Nat) (u : Update) (s : State) : Same27 s (verifyUpdate t u s) := by
  unfold verifyUpdate
  try dsimp only
  repeat' split
  all_goals simp [id accept_same, id finish_same, id modUpdSlot_same, id refuse_same]
theorem opUpdVerify_same (t : Nat) (s : State) : Same27 s (opUpdVerify t s) := by
  unfold opUpdVerify
  try dsimp only
  repeat' split
  all_goals simp [id verifyUpdate_same]
theorem withTable_same (s : State) (c : ImgClass) (b : Bool) : Same12 s (withTable s c b) := by
  unfold withTable
  try dsimp only
  repeat' split
  all_goals simp [id modSlots_same]
theorem activateSlot_same (c : ImgClass) (b : Bool) (s : State) : Same12 s (activateSlot c b s) := by
  unfold activateSlot
  try dsimp only
  repeat' split
  all_goals simp [id modSlots_same]
theorem noteActivation_same (c : ImgClass) (s : State) : Same18 s (noteActivation c s) := by
  unfold noteActivation
  try dsimp only
  repeat' split
  all_goals simp [id bootFuses_raiseFuse_same, id note_same]
theorem liveEffect_same (c : ImgClass) (b : Bool) (s : State) : (liveEffect c b s).pins = s.pins ∧ (liveEffect c b s).time.dev = s.time.dev ∧ (liveEffect c b s).time.rtc = s.time.rtc ∧ (liveEffect c b s).bankA = s.bankA ∧ (liveEffect c b s).bankB = s.bankB ∧ (liveEffect c b s).pos = s.pos ∧ (liveEffect c b s).pouts = s.pouts ∧ (liveEffect c b s).cmps = s.cmps ∧ (liveEffect c b s).temps = s.temps ∧ (liveEffect c b s).clk = s.clk ∧ (liveEffect c b s).pwr = s.pwr ∧ (liveEffect c b s).proto.sess = s.proto.sess ∧ (liveEffect c b s).net.can = s.net.can ∧ (liveEffect c b s).net.eth = s.net.eth ∧ (liveEffect c b s).net.rest = s.net.rest := by
  unfold liveEffect
  try dsimp only
  repeat' split
  all_goals simp [id activateSlot_same, id copyToMonitor_same, id haltPair_same, id noteActivation_same]
theorem activateNow_same (t : Nat) (u : Update) (s : State) : Same19 s (activateNow t u s) := by
  unfold activateNow
  try dsimp only
  repeat' split
  all_goals simp [id awaitInstant_same, id finish_same, id liveEffect_same]
theorem activateNext_same (t : Nat) (u : Update) (s : State) : Same27 s (activateNext t u s) := by
  unfold activateNext
  try dsimp only
  repeat' split
  all_goals simp [id finish_same, id modSlots_same, id modUpdSlot_same]
theorem activateUpdate_same (t : Nat) (timing : Byte) (u : Update) (s : State) : Same19 s (activateUpdate t timing u s) := by
  unfold activateUpdate
  try dsimp only
  repeat' split
  all_goals simp [id accept_same, id activateNext_same, id activateNow_same, id finish_same, id refuse_same]
theorem opUpdActivate_same (t : Nat) (timing : Byte) (s : State) : Same19 s (opUpdActivate t timing s) := by
  unfold opUpdActivate
  try dsimp only
  repeat' split
  all_goals simp [id activateUpdate_same]
theorem execFeReload_same (n : Fin 8) (s : State) : OutAll (fun t => Same5 s t) (execFeReload n s) := by
  unfold execFeReload
  try dsimp only
  repeat' split
  all_goals simp [id modBridge_same]
theorem execIslReload_same (b : Fin 8) (answers : List IslandObs) (s : State) : OutAll (fun t => Same8 s t) (execIslReload b answers s) := by
  unfold execIslReload
  try dsimp only
  repeat' split
  all_goals simp [id forgetUnread_same, id modBridge_same, id takeHandshake_same]
theorem execFluxMapDerivationEnd_same (m : Fin 8) (s : State) : OutAll (fun t => Same1 s t) (execFluxMapDerivationEnd m s) := by
  unfold execFluxMapDerivationEnd
  try dsimp only
  repeat' split
  all_goals simp [id modMach_same, id note_same]
theorem opUpdHandover_same (t : Nat) (s : State) : (opUpdHandover t s).pins = s.pins ∧ (opUpdHandover t s).dev = s.dev ∧ (opUpdHandover t s).time.dev = s.time.dev ∧ (opUpdHandover t s).time.rtc = s.time.rtc ∧ (opUpdHandover t s).bankA = s.bankA ∧ (opUpdHandover t s).bankB = s.bankB ∧ (opUpdHandover t s).pos = s.pos ∧ (opUpdHandover t s).pouts = s.pouts ∧ (opUpdHandover t s).cmps = s.cmps ∧ (opUpdHandover t s).temps = s.temps ∧ (opUpdHandover t s).clk = s.clk ∧ (opUpdHandover t s).pwr = s.pwr ∧ (opUpdHandover t s).proto.sess = s.proto.sess ∧ (opUpdHandover t s).net.can = s.net.can ∧ (opUpdHandover t s).net.eth = s.net.eth ∧ (opUpdHandover t s).net.rest = s.net.rest ∧ (opUpdHandover t s).bridges = s.bridges ∧ (opUpdHandover t s).machs = s.machs ∧ (opUpdHandover t s).chans = s.chans ∧ (opUpdHandover t s).lgs = s.lgs ∧ (opUpdHandover t s).ctds = s.ctds ∧ (opUpdHandover t s).recd = s.recd := by
  unfold opUpdHandover
  try dsimp only
  repeat' split
  all_goals simp [id accept_same, id finish_same, id modPair_same]
theorem applyStored_applyLast_same (l : List (Nat × Ref × Nat × Esn)) (m : Nat) (s : State) : Same3 s (applyStored.applyLast l m s) := by
  unfold applyStored.applyLast
  try dsimp only
  repeat' split
  all_goals simp [id applyRef_same, id modMach_same]
theorem applyStored_same (s : State) : Same3 s (applyStored s) := by
  unfold applyStored
  try dsimp only
  repeat' split
  all_goals simp [id applyRef_same, id applyStored_applyLast_same, id modMach_same]
theorem takeover_same (h : Handover) (injectionOk : Bool) (s : State) : Same18 s (takeover h injectionOk s) := by
  unfold takeover
  try dsimp only
  repeat' split
  all_goals simp [id activateSlot_same, id applyStored_same, id bootFuses_raiseFuse_same, id drawFree_same, id finishOpt_same, id note_same,
      id releasePair_same, id setSlotSt_same]
theorem execHandoverTakeover_same (inj : Nat) (clean : Bool) (s : State) : OutAll (fun t => Same18 s t) (execHandoverTakeover inj clean s) := by
  unfold execHandoverTakeover
  try dsimp only
  repeat' split
  all_goals simp [id takeover_same]
theorem execHandoverTimeout_same (s : State) : OutAll (fun t => Same18 s t) (execHandoverTimeout s) := by
  unfold execHandoverTimeout
  try dsimp only
  repeat' split
  all_goals simp [id raiseFault_same]
theorem execUpdBegin_same (h : Hdr) (cls : U16) (total : U32) (manifest : Manifest) (s : State) : OutAll (fun t => Same2 s t) (execUpdBegin h cls total manifest s) := by
  unfold execUpdBegin
  try dsimp only
  repeat' split
  all_goals simp [id opUpdBegin_same]
theorem execUpdChunk_same (h : Hdr) (offset : U32) (data : List Byte) (s : State) : OutAll (fun t => Same2 s t) (execUpdChunk h offset data s) := by
  unfold execUpdChunk
  try dsimp only
  repeat' split
  all_goals simp [id opUpdChunk_same, id refuse_same]
theorem execUpdVerify_same (h : Hdr) (s : State) : OutAll (fun t => Same2 s t) (execUpdVerify h s) := by
  unfold execUpdVerify
  try dsimp only
  repeat' split
  all_goals simp [id opUpdVerify_same]
theorem execUpdActivate_same (h : Hdr) (timing : Byte) (s : State) : OutAll (fun t => Same64 s t) (execUpdActivate h timing s) := by
  unfold execUpdActivate
  try dsimp only
  repeat' split
  all_goals simp [id opUpdActivate_same]
theorem execUpdHandover_same (h : Hdr) (s : State) : OutAll (fun t => Same2 s t) (execUpdHandover h s) := by
  unfold execUpdHandover
  try dsimp only
  repeat' split
  all_goals simp [id opUpdHandover_same]

/-! ### Machine/Recorder.lean -/

theorem sendParts_same (t n : Nat) (es : List Entry) (s : State) : Same6 s (sendParts t n es s) := by
  induction n generalizing es s with
  | zero => simp [sendParts, id finish_same, id sendReply_same]
  | succ n ih =>
    unfold sendParts
    dsimp only
    repeat' split
    all_goals simp [ih, id finish_same, id sendReply_same]
theorem opRecRead_same (t : Nat) (first : Esn) (count : U16) (s : State) : Same6 s (opRecRead t first count s) := by
  unfold opRecRead
  repeat' split
  all_goals simp [id refuse_same, id sendParts_same]
theorem opRecInfo_same (t : Nat) (s : State) : Same6 s (opRecInfo t s) := by
  unfold opRecInfo
  try dsimp only
  repeat' split
  all_goals simp [id drawFree_same, id finish_same, id refuse_same]
theorem opTrendRead_same (t : Nat) (channel count : U16) (time : U64) (s : State) : Same6 s (opTrendRead t channel count time s) := by
  unfold opTrendRead
  try dsimp only
  repeat' split
  all_goals simp [id finish_same, id refuse_same]
theorem execRecorderFlush_same (s : State) : OutAll (fun t => Same4 s t) (execRecorderFlush s) := by
  unfold execRecorderFlush
  try dsimp only
  repeat' split
  all_goals simp [id flushBuffer_same]
theorem recFlush_same (s : State) : Same4 s (recFlush s) := by
  unfold recFlush
  try dsimp only
  repeat' split
  all_goals simp [id flushBuffer_same]
theorem execRecFlush_same (s : State) : OutAll (fun t => Same4 s t) (execRecFlush s) := by
  unfold execRecFlush
  try dsimp only
  repeat' split
  all_goals simp [id recFlush_same]
theorem setSampleEn_same (en : Bool) (s : State) : Same4 s (setSampleEn en s) := by
  unfold setSampleEn
  try dsimp only
  repeat' split
  all_goals simp
theorem execRecSampleEnWrite_same (en : Bool) (s : State) : OutAll (fun t => Same4 s t) (execRecSampleEnWrite en s) := by
  unfold execRecSampleEnWrite
  try dsimp only
  repeat' split
  all_goals simp [id setSampleEn_same]
theorem execPostTriggerEnd_same (s : State) : OutAll (fun t => Same4 s t) (execPostTriggerEnd s) := by
  unfold execPostTriggerEnd
  try dsimp only
  repeat' split
  all_goals simp
theorem execTrendRecord_same (channel : Fin 128) (s : State) : OutAll (fun t => Same4 s t) (execTrendRecord channel s) := by
  unfold execTrendRecord
  try dsimp only
  repeat' split
  all_goals simp [id drawFree_same]
theorem execRecInfo_same (h : Hdr) (s : State) : OutAll (fun t => Same2 s t) (execRecInfo h s) := by
  unfold execRecInfo
  try dsimp only
  repeat' split
  all_goals simp [id opRecInfo_same]
theorem execRecRead_same (h : Hdr) (first : Esn) (count : U16) (s : State) : OutAll (fun t => Same2 s t) (execRecRead h first count s) := by
  unfold execRecRead
  try dsimp only
  repeat' split
  all_goals simp [id opRecRead_same]
theorem execTrendRead_same (h : Hdr) (channel : U16) (count : U16) (time : U64) (s : State) : OutAll (fun t => Same2 s t) (execTrendRead h channel count time s) := by
  unfold execTrendRead
  try dsimp only
  repeat' split
  all_goals simp [id opTrendRead_same]

/-! ### Machine/Security.lean -/

theorem openSession_same (i : Nat) (k : Digest) (seq : U32) (s : State) : Same37 s (openSession i k seq s) := by
  unfold openSession
  try dsimp only
  repeat' split
  all_goals simp
theorem opSessionOpen_same (t : Nat) (s : State) : (opSessionOpen t s).pins = s.pins ∧ (opSessionOpen t s).dev = s.dev ∧ (opSessionOpen t s).time.dev = s.time.dev ∧ (opSessionOpen t s).time.rtc = s.time.rtc ∧ (opSessionOpen t s).bankA = s.bankA ∧ (opSessionOpen t s).bankB = s.bankB ∧ (opSessionOpen t s).pos = s.pos ∧ (opSessionOpen t s).pouts = s.pouts ∧ (opSessionOpen t s).cmps = s.cmps ∧ (opSessionOpen t s).temps = s.temps ∧ (opSessionOpen t s).store = s.store ∧ (opSessionOpen t s).clk = s.clk ∧ (opSessionOpen t s).pwr = s.pwr ∧ (opSessionOpen t s).net.can = s.net.can ∧ (opSessionOpen t s).net.eth = s.net.eth ∧ (opSessionOpen t s).net.rest = s.net.rest ∧ (opSessionOpen t s).bridges = s.bridges ∧ (opSessionOpen t s).machs = s.machs ∧ (opSessionOpen t s).chans = s.chans ∧ (opSessionOpen t s).lgs = s.lgs ∧ (opSessionOpen t s).ctds = s.ctds ∧ (opSessionOpen t s).safety = s.safety ∧ (opSessionOpen t s).recd = s.recd := by
  unfold opSessionOpen
  try dsimp only
  repeat' split
  all_goals simp [id finish_same, id openSession_same, id refuse_same]
theorem serveSession_same (h : Hdr) (plain : Option (List Byte)) (s : State) : Same2 s (serveSession h plain s) := by
  unfold serveSession
  try dsimp only
  repeat' split
  all_goals simp [id admits_same, id enqueue_same, id modCtx_same, id opSessionOpen_same]
theorem opSessionClose_same (t : Nat) (s : State) : (opSessionClose t s).pins = s.pins ∧ (opSessionClose t s).dev = s.dev ∧ (opSessionClose t s).time.dev = s.time.dev ∧ (opSessionClose t s).time.rtc = s.time.rtc ∧ (opSessionClose t s).bankA = s.bankA ∧ (opSessionClose t s).bankB = s.bankB ∧ (opSessionClose t s).pos = s.pos ∧ (opSessionClose t s).pouts = s.pouts ∧ (opSessionClose t s).cmps = s.cmps ∧ (opSessionClose t s).temps = s.temps ∧ (opSessionClose t s).clk = s.clk ∧ (opSessionClose t s).pwr = s.pwr ∧ (opSessionClose t s).net.can = s.net.can ∧ (opSessionClose t s).net.eth = s.net.eth ∧ (opSessionClose t s).net.rest = s.net.rest ∧ (opSessionClose t s).bridges = s.bridges ∧ (opSessionClose t s).chans = s.chans ∧ (opSessionClose t s).lgs = s.lgs ∧ (opSessionClose t s).ctds = s.ctds ∧ (opSessionClose t s).safety = s.safety ∧ (opSessionClose t s).recd = s.recd := by
  unfold opSessionClose
  try dsimp only
  repeat' split
  all_goals simp [id closeSession_same, id finish_same]
theorem execSessionIdleTimeout_same (sid : Fin 8) (s : State) : OutAll (fun t => Same69 s t) (execSessionIdleTimeout sid s) := by
  unfold execSessionIdleTimeout
  try dsimp only
  repeat' split
  all_goals simp [id closeSession_same]
theorem issueNonce_same (i : Nat) (s : State) : (issueNonce i s).2.pins = s.pins ∧ (issueNonce i s).2.dev = s.dev ∧ (issueNonce i s).2.time.dev = s.time.dev ∧ (issueNonce i s).2.time.rtc = s.time.rtc ∧ (issueNonce i s).2.bankA = s.bankA ∧ (issueNonce i s).2.bankB = s.bankB ∧ (issueNonce i s).2.pos = s.pos ∧ (issueNonce i s).2.pouts = s.pouts ∧ (issueNonce i s).2.cmps = s.cmps ∧ (issueNonce i s).2.temps = s.temps ∧ (issueNonce i s).2.clk = s.clk ∧ (issueNonce i s).2.pwr = s.pwr ∧ (issueNonce i s).2.proto.ctx = s.proto.ctx ∧ (issueNonce i s).2.proto.left = s.proto.left ∧ (issueNonce i s).2.net.can = s.net.can ∧ (issueNonce i s).2.net.eth = s.net.eth ∧ (issueNonce i s).2.net.canTx = s.net.canTx ∧ (issueNonce i s).2.net.egress = s.net.egress ∧ (issueNonce i s).2.net.rest = s.net.rest ∧ (issueNonce i s).2.bridges = s.bridges ∧ (issueNonce i s).2.machs = s.machs ∧ (issueNonce i s).2.chans = s.chans ∧ (issueNonce i s).2.lgs = s.lgs ∧ (issueNonce i s).2.ctds = s.ctds ∧ (issueNonce i s).2.safety = s.safety ∧ (issueNonce i s).2.recd = s.recd ∧ (issueNonce i s).2.out = s.out := by
  unfold issueNonce
  try dsimp only
  repeat' split
  all_goals simp [id modSess_same]
theorem opKeyInfo_same (t : Nat) (part : Byte) (s : State) : (opKeyInfo t part s).pins = s.pins ∧ (opKeyInfo t part s).dev = s.dev ∧ (opKeyInfo t part s).time.dev = s.time.dev ∧ (opKeyInfo t part s).time.rtc = s.time.rtc ∧ (opKeyInfo t part s).bankA = s.bankA ∧ (opKeyInfo t part s).bankB = s.bankB ∧ (opKeyInfo t part s).pos = s.pos ∧ (opKeyInfo t part s).pouts = s.pouts ∧ (opKeyInfo t part s).cmps = s.cmps ∧ (opKeyInfo t part s).temps = s.temps ∧ (opKeyInfo t part s).clk = s.clk ∧ (opKeyInfo t part s).pwr = s.pwr ∧ (opKeyInfo t part s).net.can = s.net.can ∧ (opKeyInfo t part s).net.eth = s.net.eth ∧ (opKeyInfo t part s).net.rest = s.net.rest ∧ (opKeyInfo t part s).bridges = s.bridges ∧ (opKeyInfo t part s).machs = s.machs ∧ (opKeyInfo t part s).chans = s.chans ∧ (opKeyInfo t part s).lgs = s.lgs ∧ (opKeyInfo t part s).ctds = s.ctds ∧ (opKeyInfo t part s).safety = s.safety ∧ (opKeyInfo t part s).recd = s.recd := by
  unfold opKeyInfo
  try dsimp only
  repeat' split
  all_goals simp [id drawMany_same, id finish_same, id issueNonce_same, id refuse_same]
theorem execNonceExpiry_same (sid : Fin 8) (s : State) : OutAll (fun t => Same37 s t) (execNonceExpiry sid s) := by
  unfold execNonceExpiry
  try dsimp only
  repeat' split
  all_goals simp [id modSess_same]
theorem setOwner_same (i : Nat) (o : OwnerSlot) (s : State) : Same18 s (setOwner i o s) := by
  unfold setOwner
  try dsimp only
  repeat' split
  all_goals simp [id note_same]
theorem ownerAuth_same (t : Nat) (signer action : Byte) (hash : Digest) (sig : Rsa) (s : State) : Same37 s (ownerAuth t signer action hash sig s).2 := by
  unfold ownerAuth
  try dsimp only
  repeat' split
  all_goals simp [id verifySigned_same]
theorem opOwnerFuse_same (t : Nat) (signer target : Byte) (hash : Digest) (sig : Rsa) (s : State) : Same66 s (opOwnerFuse t signer target hash sig s) := by
  unfold opOwnerFuse
  try dsimp only
  repeat' split
  all_goals simp [id finish_same, id ownerAuth_same, id refuse_same, id setOwner_same]
theorem opOwnerRevoke_same (t : Nat) (signer target : Byte) (hash : Digest) (sig : Rsa) (s : State) : Same66 s (opOwnerRevoke t signer target hash sig s) := by
  unfold opOwnerRevoke
  try dsimp only
  repeat' split
  all_goals simp [id finish_same, id ownerAuth_same, id refuse_same, id setOwner_same]
theorem opAttest_same (t : Nat) (nonce : Digest) (s : State) : Same6 s (opAttest t nonce s) := by
  unfold opAttest
  try dsimp only
  repeat' split
  all_goals simp [id drawMany_same, id finish_same, id refuse_same]
theorem execAttest_same (h : Hdr) (nonce : Digest) (s : State) : OutAll (fun t => Same2 s t) (execAttest h nonce s) := by
  unfold execAttest
  try dsimp only
  repeat' split
  all_goals simp [id opAttest_same]
theorem execSessionOpen_same (h : Hdr) (plain : Option (List Byte)) (s : State) : OutAll (fun t => Same2 s t) (execSessionOpen h plain s) := by
  unfold execSessionOpen
  try dsimp only
  repeat' split
  all_goals simp [id serveSession_same]
theorem execSessionClose_same (h : Hdr) (s : State) : OutAll (fun t => Same2 s t) (execSessionClose h s) := by
  unfold execSessionClose
  try dsimp only
  repeat' split
  all_goals simp [id opSessionClose_same]
theorem execKeyInfo_same (h : Hdr) (part : Byte) (s : State) : OutAll (fun t => Same2 s t) (execKeyInfo h part s) := by
  unfold execKeyInfo
  try dsimp only
  repeat' split
  all_goals simp [id opKeyInfo_same]
theorem execOwnerSlotFuse_same (h : Hdr) (signer target : Byte) (hash : Digest) (sig : Rsa) (s : State) : OutAll (fun t => Same2 s t) (execOwnerSlotFuse h signer target hash sig s) := by
  unfold execOwnerSlotFuse
  try dsimp only
  repeat' split
  all_goals simp [id opOwnerFuse_same]
theorem execOwnerSlotRevoke_same (h : Hdr) (signer target : Byte) (hash : Digest) (sig : Rsa) (s : State) : OutAll (fun t => Same2 s t) (execOwnerSlotRevoke h signer target hash sig s) := by
  unfold execOwnerSlotRevoke
  try dsimp only
  repeat' split
  all_goals simp [id opOwnerRevoke_same]

/-! ### Machine/Window.lean -/

theorem writeGates_same (v m : Nat) (s : State) : Same9 s (writeGates v m s) := by
  unfold writeGates
  try dsimp only
  repeat' split
  all_goals simp [id closeGate_same, id openGate_same]
theorem writeClk_same (off v m c : Nat) (s : State) : Same39 s (writeClk off v m c s) := by
  unfold writeClk
  try dsimp only
  repeat' split
  all_goals simp [id writeClkSel_same, id writeGates_same]
theorem writeOpPoint_same (v m : Nat) (s : State) : Same15 s (writeOpPoint v m s) := by
  unfold writeOpPoint
  try dsimp only
  repeat' split
  all_goals simp [id requestMain_same, id requestMon_same]
theorem writePwr_same (off v m c : Nat) (s : State) : Same30 s (writePwr off v m c s) := by
  unfold writePwr
  try dsimp only
  repeat' split
  all_goals simp [id modDom_same, id requestDomain_same, id writeOpPoint_same]
theorem writeFm_same (off v c : Nat) (s : State) : Same9 s (writeFm off v c s) := by
  unfold writeFm
  try dsimp only
  repeat' split
  all_goals simp [id fmBegin_same]
theorem writeSns_same (x off v c : Nat) (s : State) : Same35 s (writeSns x off v c s) := by
  unfold writeSns
  try dsimp only
  repeat' split
  all_goals simp [id forceComparator_same, id modBank_same]
theorem writeRec_same (m v c : Nat) (s : State) : Same4 s (writeRec m v c s) := by
  unfold writeRec
  try dsimp only
  repeat' split
  all_goals simp [id recFlush_same, id setSampleEn_same]
theorem writeReg_same (r : RegAt) (v m c : Nat) (s : State) : Same49 s (writeReg r v m c s) := by
  unfold writeReg
  try dsimp only
  repeat' split
  all_goals simp [id modBridge_same, id modCan_same, id writeClk_same, id writeFm_same, id writePwr_same, id writeRec_same, id writeSns_same]
theorem opRegRead_same (t : Nat) (addr : U32) (words : U16) (s : State) : Same6 s (opRegRead t addr words s) := by
  unfold opRegRead
  try dsimp only
  repeat' split
  all_goals simp [id finish_same, id refuse_same]
theorem opRegWrite_same (t : Nat) (addr mask value : U32) (s : State) : Same49 s (opRegWrite t addr mask value s) := by
  unfold opRegWrite
  try dsimp only
  repeat' split
  all_goals simp [id finish_same, id refuse_same, id writeReg_same]
theorem execRegRead_same (h : Hdr) (addr : U32) (words : U16) (s : State) : OutAll (fun t => Same2 s t) (execRegRead h addr words s) := by
  unfold execRegRead
  try dsimp only
  repeat' split
  all_goals simp [id opRegRead_same]
theorem execRegWrite_same (h : Hdr) (addr mask value : U32) (s : State) : OutAll (fun t => Same49 s t) (execRegWrite h addr mask value s) := by
  unfold execRegWrite
  try dsimp only
  repeat' split
  all_goals simp [id opRegWrite_same]

/-! ### Machine/Freeze.lean -/

theorem execFreezePinRise_same (s : State) : OutAll (fun t => Same4 s t) (execFreezePinRise s) := by
  unfold execFreezePinRise
  try dsimp only
  repeat' split
  all_goals simp
theorem opFreeze_same (t : Nat) (s : State) : (opFreeze t s).pins = s.pins ∧ (opFreeze t s).dev = s.dev ∧ (opFreeze t s).time.dev = s.time.dev ∧ (opFreeze t s).time.rtc = s.time.rtc ∧ (opFreeze t s).bankA = s.bankA ∧ (opFreeze t s).bankB = s.bankB ∧ (opFreeze t s).pos = s.pos ∧ (opFreeze t s).pouts = s.pouts ∧ (opFreeze t s).cmps = s.cmps ∧ (opFreeze t s).temps = s.temps ∧ (opFreeze t s).store = s.store ∧ (opFreeze t s).clk = s.clk ∧ (opFreeze t s).pwr = s.pwr ∧ (opFreeze t s).proto.sess = s.proto.sess ∧ (opFreeze t s).net.can = s.net.can ∧ (opFreeze t s).net.eth = s.net.eth ∧ (opFreeze t s).net.rest = s.net.rest ∧ (opFreeze t s).bridges = s.bridges ∧ (opFreeze t s).machs = s.machs ∧ (opFreeze t s).chans = s.chans ∧ (opFreeze t s).lgs = s.lgs ∧ (opFreeze t s).ctds = s.ctds ∧ (opFreeze t s).safety = s.safety := by
  unfold opFreeze
  try dsimp only
  repeat' split
  all_goals simp [id finish_same]
theorem freezeBridge_same (b : Nat) (s : State) : Same14 s (freezeBridge b s) := by
  unfold freezeBridge
  try dsimp only
  repeat' split
  all_goals simp [id modBridge_same, id reselect_same]
theorem freezeStep1_same (s : State) : Same63 s (freezeStep1 s) := by
  unfold freezeStep1
  try dsimp only
  repeat' split
  all_goals simp [id freezeBridge_same]
theorem freezeStop_same (s : State) : (freezeStop s).pins = s.pins ∧ (freezeStop s).time.dev = s.time.dev ∧ (freezeStop s).time.rtc = s.time.rtc ∧ (freezeStop s).bankA = s.bankA ∧ (freezeStop s).bankB = s.bankB ∧ (freezeStop s).pos = s.pos ∧ (freezeStop s).pouts = s.pouts ∧ (freezeStop s).cmps = s.cmps ∧ (freezeStop s).temps = s.temps ∧ (freezeStop s).store = s.store ∧ (freezeStop s).clk = s.clk ∧ (freezeStop s).proto.sess = s.proto.sess ∧ (freezeStop s).proto.ctx = s.proto.ctx ∧ (freezeStop s).proto.left = s.proto.left ∧ (freezeStop s).net.can = s.net.can ∧ (freezeStop s).net.eth = s.net.eth ∧ (freezeStop s).net.canTx = s.net.canTx ∧ (freezeStop s).net.egress = s.net.egress ∧ (freezeStop s).net.rest = s.net.rest ∧ (freezeStop s).bridges = s.bridges ∧ (freezeStop s).machs = s.machs ∧ (freezeStop s).out = s.out := by
  unfold freezeStop
  try dsimp only
  repeat' split
  all_goals simp [id driveAux_same, id modLg_same]
theorem takeFreeze_same (forced : Byte) (s : State) : Same83 s (takeFreeze forced s) := by
  unfold takeFreeze
  try dsimp only
  repeat' split
  all_goals simp [id allocEsn_same, id drawMany_same, id freezeStep1_same, id freezeStop_same]
theorem execFreezeTake_same (forced : Byte) (s : State) : OutAll (fun t => Same83 s t) (execFreezeTake forced s) := by
  unfold execFreezeTake
  try dsimp only
  repeat' split
  all_goals simp [id takeFreeze_same]
theorem execFreezeWatcherFastClear_same (b : Fin 8) (halfTicks : Nat) (s : State) : OutAll (fun t => Same63 s t) (execFreezeWatcherFastClear b halfTicks s) := by
  unfold execFreezeWatcherFastClear
  try dsimp only
  repeat' split
  all_goals simp [id modBridge_same, id reselect_same]
theorem execRestart_same (vio : Bool) (second : Byte) (s : State) : OutAll (fun t => t.pins = s.pins ∧ t.time.dev = s.time.dev ∧ t.time.rtc = s.time.rtc ∧ t.bankA = s.bankA ∧ t.bankB = s.bankB ∧ t.pos = s.pos ∧ t.pouts = s.pouts ∧ t.cmps = s.cmps ∧ t.temps = s.temps ∧ t.clk = s.clk ∧ t.lgs = s.lgs ∧ t.ctds = s.ctds ∧ t.out = s.out) (execRestart vio second s) := by
  unfold execRestart
  try dsimp only
  repeat' split
  all_goals simp [id enterBoot_same]
theorem execSnpStatus_same (vio : Bool) (s : State) : OutAll (fun t => Same13 s t) (execSnpStatus vio s) := by
  unfold execSnpStatus
  try dsimp only
  repeat' split
  all_goals simp [id emit_same]
theorem execSnpRead_same (vio : Bool) (addr : BitVec 24) (count : Nat) (s : State) : OutAll (fun t => Same13 s t) (execSnpRead vio addr count s) := by
  unfold execSnpRead
  try dsimp only
  repeat' split
  all_goals simp [id emit_same]
theorem opSnapshotInfo_same (t : Nat) (s : State) : Same6 s (opSnapshotInfo t s) := by
  unfold opSnapshotInfo
  try dsimp only
  repeat' split
  all_goals simp [id drawMany_same, id finish_same]
theorem execFreeze_same (h : Hdr) (s : State) : OutAll (fun t => Same2 s t) (execFreeze h s) := by
  unfold execFreeze
  try dsimp only
  repeat' split
  all_goals simp [id opFreeze_same]
theorem execSnapshotInfo_same (h : Hdr) (s : State) : OutAll (fun t => Same2 s t) (execSnapshotInfo h s) := by
  unfold execSnapshotInfo
  try dsimp only
  repeat' split
  all_goals simp [id opSnapshotInfo_same]

end Sys2Proof.Machine
end

