-- ==== Sys2Proof/Laws/SameControl.lean ====
section
/-! SUPPORT. One lemma per function: the same: Machine/Pwm, Control, Starting. -/

namespace Sys2Proof.Machine

set_option linter.unusedTactic false
set_option linter.unusedSimpArgs false

/-! ### Machine/Pwm.lean -/

theorem compareEvent_same (bit b time : Nat) (happened : Bool) (s : State) : Same4 s (compareEvent bit b time happened s) := by
  unfold compareEvent
  try dsimp only
  repeat' split
  all_goals simp [id recordAt_same]
theorem pwmEvent_same (bit b : Nat) (happened : Bool) (s : State) : Same5 s (pwmEvent bit b happened s) := by
  unfold pwmEvent
  try dsimp only
  repeat' split
  all_goals simp [id modBridge_same]
theorem planLeg_same (b k t : Nat) (p : Plan) (s : State) : Same5 s (planLeg b k t p s) := by
  unfold planLeg
  try dsimp only
  repeat' split
  all_goals simp [id modBridge_same]
theorem planApart_same (b k t : Nat) (ph pl : Plan) (s : State) : Same5 s (planApart b k t ph pl s) := by
  unfold planApart
  try dsimp only
  repeat' split
  all_goals simp [id modBridge_same]
theorem formLeg_same (b k t : Nat) (peak : Bool) (s : State) : Same5 s (formLeg b k t peak s) := by
  unfold formLeg
  try dsimp only
  repeat' split
  all_goals simp [id modBridge_same, id planApart_same, id planLeg_same]
theorem formTimes_same (b : Nat) (peak : Bool) (s : State) : Same84 s (formTimes b peak s) := by
  unfold formTimes
  try dsimp only
  repeat' split
  all_goals simp [id compareEvent_same, id formLeg_same, id modBridge_same, id pwmEvent_same]
theorem setLeg_same (b k t : Nat) (high : Bool) (s : State) : Same5 s (setLeg b k t high s) := by
  unfold setLeg
  try dsimp only
  repeat' split
  all_goals simp [id modBridge_same]
theorem flipSix_same (b k : Nat) (s : State) : Same5 s (flipSix b k s) := by
  unfold flipSix
  try dsimp only
  repeat' split
  all_goals simp [id modBridge_same]
theorem dropToggle_same (b k : Nat) (s : State) : Same5 s (dropToggle b k s) := by
  unfold dropToggle
  try dsimp only
  repeat' split
  all_goals simp [id modBridge_same]
theorem runToggle_same (b k : Nat) (s : State) : Same5 s (runToggle b k s) := by
  unfold runToggle
  try dsimp only
  repeat' split
  all_goals simp [id dropToggle_same, id flipSix_same, id setLeg_same]
theorem lateToggles_same (b k : Nat) (s : State) : Same1 s (lateToggles b k s) := by
  unfold lateToggles
  try dsimp only
  repeat' split
  all_goals simp [id dropToggle_same, id flipSix_same, id note_same, id pwmEvent_same]
theorem loadShadows_same (b : Nat) (s : State) : Same1 s (loadShadows b s) := by
  unfold loadShadows
  try dsimp only
  repeat' split
  all_goals simp [id lateToggles_same, id modBridge_same]
theorem missUpdate_same (b : Nat) (s : State) : Same1 s (missUpdate b s) := by
  unfold missUpdate
  try dsimp only
  repeat' split
  all_goals simp [id modBridge_same, id note_same, id pwmEvent_same]
theorem fixEpoch_same (s : State) : Same28 s (fixEpoch s) := by
  unfold fixEpoch
  try dsimp only
  repeat' split
  all_goals simp
theorem selectIndep_same (b : Nat) (s : State) : Same5 s (selectIndep b s) := by
  unfold selectIndep
  try dsimp only
  repeat' split
  all_goals simp [id modBridge_same]
theorem firePulse_same (m at_ : Nat) (s : State) : Same17 s (firePulse m at_ s) := by
  unfold firePulse
  try dsimp only
  repeat' split
  all_goals simp [id modBridge_same, id modMach_same]
theorem startPulses_same (b : Nat) (s : State) : Same17 s (startPulses b s) := by
  unfold startPulses
  try dsimp only
  repeat' split
  all_goals simp [id firePulse_same]
theorem finishBoundary_same (b : Nat) (peak : Bool) (s : State) : Same1 s (finishBoundary b peak s) := by
  unfold finishBoundary
  try dsimp only
  repeat' split
  all_goals simp [id formTimes_same, id loadShadows_same, id missUpdate_same, id modBridge_same]
theorem restItems_same (b : Nat) (s : State) : Same3 s (restItems b s) := by
  unfold restItems
  try dsimp only
  repeat' split
  all_goals simp [id modMach_same]
theorem periodBoundary_same (b : Nat) (peak : Bool) (s : State) : Same19 s (periodBoundary b peak s) := by
  unfold periodBoundary
  try dsimp only
  repeat' split
  all_goals simp [id commitNow_same, id compareEvent_same, id finishBoundary_same, id fixEpoch_same, id modBridge_same, id restItems_same,
      id selectIndep_same, id startPulses_same]
theorem execPeriodBoundary_same (b : Fin 8) (peak : Bool) (s : State) : OutAll (fun t => Same19 s t) (execPeriodBoundary b peak s) := by
  unfold execPeriodBoundary
  try dsimp only
  repeat' split
  all_goals simp [id periodBoundary_same]
theorem settleLate_same (m : Nat) (s : State) : Same1 s (settleLate m s) := by
  unfold settleLate
  try dsimp only
  repeat' split
  all_goals simp [id finishBoundary_same]
theorem execMissedUpdateLimit_same (b : Fin 8) (s : State) : OutAll (fun t => Same1 s t) (execMissedUpdateLimit b s) := by
  unfold execMissedUpdateLimit
  try dsimp only
  repeat' split
  all_goals simp [id raiseFault_same]
theorem applyEdge_same (b : Nat) (e : CmdEdge) (s : State) : Same1 s (applyEdge b e s) := by
  unfold applyEdge
  try dsimp only
  repeat' split
  all_goals simp [id offCmd_same, id onOrRefuse_same]
theorem sendEdges_same (b : Nat) (s : State) : Same1 s (sendEdges b s) := by
  unfold sendEdges
  try dsimp only
  repeat' split
  all_goals simp [id applyEdge_same, id modBridge_same]
theorem gateTick_same (c : Nat) (s : State) : Same11 s (gateTick c s) := by
  unfold gateTick
  try dsimp only
  repeat' split
  all_goals simp [id drawFree_same, id modChan_same]
theorem floatTick_same (b k : Nat) (s : State) : Same5 s (floatTick b k s) := by
  unfold floatTick
  try dsimp only
  repeat' split
  all_goals simp [id modBridge_same, id setLeg_same]
theorem gatesTick_same (s : State) : Same1 s (gatesTick s) := by
  unfold gatesTick
  try dsimp only
  repeat' split
  all_goals simp [id floatTick_same, id gateTick_same, id sendEdges_same]
theorem execInterlockRefusal_same (leg : Fin 24) (s : State) : OutAll (fun t => Same1 s t) (execInterlockRefusal leg s) := by
  unfold execInterlockRefusal
  try dsimp only
  repeat' split
  all_goals simp [id driveLeg_same, id modBridge_same, id note_same]
theorem raiseAtLeast_same (lo code ix : Nat) (src : U16) (sc : Scope) (data : List Byte) (s : State) : Same1 s (raiseAtLeast lo code ix src sc data s) := by
  unfold raiseAtLeast
  try dsimp only
  repeat' split
  all_goals simp [id raise0508_same, id react_same, id recordEvent_same]
theorem execRefusalLimit_same (b : Fin 8) (s : State) : OutAll (fun t => Same1 s t) (execRefusalLimit b s) := by
  unfold execRefusalLimit
  try dsimp only
  repeat' split
  all_goals simp [id raiseAtLeast_same]
theorem execSixstepToggle_same (leg : Fin 24) (s : State) : OutAll (fun t => Same5 s t) (execSixstepToggle leg s) := by
  unfold execSixstepToggle
  try dsimp only
  repeat' split
  all_goals simp [id runToggle_same]
theorem sampleGen_same (b : Nat) (o : TrigObs) (s : State) : Same47 s (sampleGen b o s) := by
  unfold sampleGen
  try dsimp only
  repeat' split
  all_goals simp [id modBank_same]
theorem latchNow_same (p : Nat) (s : State) : Same21 s (latchNow p s) := by
  unfold latchNow
  try dsimp only
  repeat' split
  all_goals simp [id modPos_same]
theorem latchPosition_same (b : Nat) (s : State) : Same21 s (latchPosition b s) := by
  unfold latchPosition
  try dsimp only
  repeat' split
  all_goals simp [id latchNow_same, id modPos_same]
theorem latchTick_same (p : Nat) (s : State) : Same21 s (latchTick p s) := by
  unfold latchTick
  try dsimp only
  repeat' split
  all_goals simp [id latchNow_same]
theorem trigger0_same (b : Nat) (o : TrigObs) (s : State) : (trigger0 b o s).pins = s.pins ∧ (trigger0 b o s).dev = s.dev ∧ (trigger0 b o s).time.dev = s.time.dev ∧ (trigger0 b o s).time.rtc = s.time.rtc ∧ (trigger0 b o s).pouts = s.pouts ∧ (trigger0 b o s).cmps = s.cmps ∧ (trigger0 b o s).temps = s.temps ∧ (trigger0 b o s).store = s.store ∧ (trigger0 b o s).clk = s.clk ∧ (trigger0 b o s).pwr = s.pwr ∧ (trigger0 b o s).proto.sess = s.proto.sess ∧ (trigger0 b o s).proto.ctx = s.proto.ctx ∧ (trigger0 b o s).proto.left = s.proto.left ∧ (trigger0 b o s).net.can = s.net.can ∧ (trigger0 b o s).net.eth = s.net.eth ∧ (trigger0 b o s).net.canTx = s.net.canTx ∧ (trigger0 b o s).net.egress = s.net.egress ∧ (trigger0 b o s).net.rest = s.net.rest ∧ (trigger0 b o s).machs = s.machs ∧ (trigger0 b o s).chans = s.chans ∧ (trigger0 b o s).lgs = s.lgs ∧ (trigger0 b o s).ctds = s.ctds ∧ (trigger0 b o s).safety = s.safety ∧ (trigger0 b o s).recd = s.recd ∧ (trigger0 b o s).out = s.out := by
  unfold trigger0
  try dsimp only
  repeat' split
  all_goals simp [id drawMany_same, id latchPosition_same, id modBridge_same, id sampleGen_same]
theorem triggerX_same (b n : Nat) (o : TrigObs) (s : State) : Same5 s (triggerX b n o s) := by
  unfold triggerX
  try dsimp only
  repeat' split
  all_goals simp [id drawMany_same, id modBridge_same]
theorem monitorTrigger_same (b n : Nat) (s : State) : Same48 s (monitorTrigger b n s) := by
  unfold monitorTrigger
  try dsimp only
  repeat' split
  all_goals simp [id monitorSample_same]
theorem execAdcTrigger_same (b : Fin 8) (obs : TrigObs) (s : State) : OutAll (fun t => t.pins = s.pins ∧ t.dev = s.dev ∧ t.time.dev = s.time.dev ∧ t.time.rtc = s.time.rtc ∧ t.pouts = s.pouts ∧ t.cmps = s.cmps ∧ t.temps = s.temps ∧ t.clk = s.clk ∧ t.pwr = s.pwr ∧ t.proto.sess = s.proto.sess ∧ t.proto.ctx = s.proto.ctx ∧ t.proto.left = s.proto.left ∧ t.net.can = s.net.can ∧ t.net.eth = s.net.eth ∧ t.net.canTx = s.net.canTx ∧ t.net.egress = s.net.egress ∧ t.net.rest = s.net.rest ∧ t.chans = s.chans ∧ t.lgs = s.lgs ∧ t.ctds = s.ctds ∧ t.safety = s.safety ∧ t.out = s.out) (execAdcTrigger b obs s) := by
  unfold execAdcTrigger
  try dsimp only
  repeat' split
  all_goals simp [id compareEvent_same, id monitorTrigger_same, id sampleGen_same, id trigger0_same, id triggerX_same]
theorem execSyncPulse_same (arrival : Nat) (s : State) : OutAll (fun t => Same28 s t) (execSyncPulse arrival s) := by
  unfold execSyncPulse
  try dsimp only
  repeat' split
  all_goals simp
theorem execSyncLoss_same (periods : Nat) (s : State) : OutAll (fun t => Same20 s t) (execSyncLoss periods s) := by
  unfold execSyncLoss
  try dsimp only
  repeat' split
  all_goals simp [id note_same]

/-! ### Machine/Control.lean -/

theorem speedLoop_same (m : Nat) (v : Int) (s : State) : Same3 s (speedLoop m v s) := by
  unfold speedLoop
  try dsimp only
  repeat' split
  all_goals simp [id modMach_same]
theorem takeTorque_same (m : Nat) (s : State) : Same3 s (takeTorque m s) := by
  unfold takeTorque
  try dsimp only
  repeat' split
  all_goals simp [id modMach_same, id speedLoop_same]
theorem convertTorque_same (m : Nat) (s : State) : Same3 s (convertTorque m s) := by
  unfold convertTorque
  try dsimp only
  repeat' split
  all_goals simp [id modMach_same]
theorem referenceUpdate_same (m : Nat) (s : State) : Same3 s (referenceUpdate m s) := by
  unfold referenceUpdate
  try dsimp only
  repeat' split
  all_goals simp [id convertTorque_same, id modMach_same, id takeTorque_same]
theorem execReferenceUpdate_same (m : Fin 8) (s : State) : OutAll (fun t => Same3 s t) (execReferenceUpdate m s) := by
  unfold execReferenceUpdate
  try dsimp only
  repeat' split
  all_goals simp [id referenceUpdate_same]
theorem leaveCrossings_same (m : Nat) (s : State) : Same1 s (leaveCrossings m s) := by
  unfold leaveCrossings
  try dsimp only
  repeat' split
  all_goals simp [id modMach_same, id raiseFault_same]
theorem observerMode_same (m : Nat) (s : State) : Same1 s (observerMode m s) := by
  unfold observerMode
  try dsimp only
  repeat' split
  all_goals simp [id coastMachine_same, id modMach_same]
theorem observe_same (m : Nat) (s : State) : Same3 s (observe m s) := by
  unfold observe
  try dsimp only
  repeat' split
  all_goals simp [id modMach_same]
theorem takeAngle_same (m : Nat) (s : State) : Same1 s (takeAngle m s) := by
  unfold takeAngle
  try dsimp only
  repeat' split
  all_goals simp [id modMach_same, id observe_same, id observerMode_same]
theorem imModel_same (f m : Nat) (s : State) : Same3 s (imModel f m s) := by
  unfold imModel
  try dsimp only
  repeat' split
  all_goals simp [id modMach_same]
theorem advanceRamp_same (m : Nat) (s : State) : Same3 s (advanceRamp m s) := by
  unfold advanceRamp
  try dsimp only
  repeat' split
  all_goals simp [id modMach_same]
theorem endCoast_same (m : Nat) (s : State) : Same38 s (endCoast m s) := by
  unfold endCoast
  try dsimp only
  repeat' split
  all_goals simp [id machSwitchesOff_same, id machineLeaves_same, id modBridge_same, id modMach_same]
theorem stepRefs_same (f m : Nat) (s : State) : Same1 s (stepRefs f m s).2 := by
  unfold stepRefs
  try dsimp only
  repeat' split
  all_goals simp [id modMach_same, id raiseFault_same]
theorem currentLoops_same (refs : Int × Int) (m : Nat) (s : State) : Same3 s (currentLoops refs m s).2 := by
  unfold currentLoops
  try dsimp only
  repeat' split
  all_goals simp [id modMach_same]
theorem xyLoops_same (m : Nat) (s : State) : Same3 s (xyLoops m s) := by
  unfold xyLoops
  try dsimp only
  repeat' split
  all_goals simp [id modMach_same]
theorem writeShadows_same (b : Nat) (r : PwmRegs) (s : State) : Same5 s (writeShadows b r s) := by
  unfold writeShadows
  try dsimp only
  repeat' split
  all_goals simp [id modBridge_same]
theorem commitCarrier_same (f m : Nat) (s : State) : Same5 s (commitCarrier f m s) := by
  unfold commitCarrier
  try dsimp only
  repeat' split
  all_goals simp [id writeShadows_same]
theorem commitSix_same (m : Nat) (s : State) : Same5 s (commitSix m s) := by
  unfold commitSix
  try dsimp only
  repeat' split
  all_goals simp [id writeShadows_same]
theorem sixCounts_same (f m : Nat) (v : Rat) (refs : Int × Int) (s : State) : Same3 s (sixCounts f m v refs s) := by
  unfold sixCounts
  try dsimp only
  repeat' split
  all_goals simp [id modMach_same]
theorem leaveSix_same (m : Nat) (s : State) : Same17 s (leaveSix m s) := by
  unfold leaveSix
  try dsimp only
  repeat' split
  all_goals simp [id commitCarrier_same, id drawMany_same, id modMach_same]
theorem enterSix_same (m : Nat) (s : State) : Same17 s (enterSix m s) := by
  unfold enterSix
  try dsimp only
  repeat' split
  all_goals simp [id commitSix_same, id modMach_same]
theorem execSixstepEntry_same (m : Fin 8) (s : State) : OutAll (fun t => Same17 s t) (execSixstepEntry m s) := by
  unfold execSixstepEntry
  try dsimp only
  repeat' split
  all_goals simp [id enterSix_same]
theorem execSixstepExit_same (m : Fin 8) (s : State) : OutAll (fun t => Same17 s t) (execSixstepExit m s) := by
  unfold execSixstepExit
  try dsimp only
  repeat' split
  all_goals simp [id leaveSix_same]
theorem stepSix_same (m : Nat) (newTable : Bool) (s : State) : Same17 s (stepSix m newTable s) := by
  unfold stepSix
  try dsimp only
  repeat' split
  all_goals simp [id commitSix_same, id modMach_same]
theorem detectLoss_same (m : Nat) (s : State) : Same1 s (detectLoss m s) := by
  unfold detectLoss
  try dsimp only
  repeat' split
  all_goals simp [id leaveSix_same, id modMach_same, id raiseFault_same]
theorem rotateOut_same (b : Nat) (s : State) : Same14 s (rotateOut b s) := by
  unfold rotateOut
  try dsimp only
  repeat' split
  all_goals simp [id modBridge_same, id switchesOff_same]
theorem rejoin_same (m j : Nat) (s : State) : Same17 s (rejoin m j s) := by
  unfold rejoin
  try dsimp only
  repeat' split
  all_goals simp [id modBridge_same, id modMach_same]
theorem rotate_same (m : Nat) (s : State) : Same38 s (rotate m s) := by
  unfold rotate
  try dsimp only
  repeat' split
  all_goals simp [id leaveSix_same, id modMach_same, id rejoin_same, id rotateOut_same]
theorem execFeRotation_same (m : Fin 8) (s : State) : OutAll (fun t => Same38 s t) (execFeRotation m s) := by
  unfold execFeRotation
  try dsimp only
  repeat' split
  all_goals simp [id rotate_same]
theorem formIdc_same (b : Nat) (s : State) : Same5 s (formIdc b s) := by
  unfold formIdc
  try dsimp only
  repeat' split
  all_goals simp [id modBridge_same]
theorem sampleRecord_same (m b : Nat) (s : State) : Same84 s (sampleRecord m b s) := by
  unfold sampleRecord
  try dsimp only
  repeat' split
  all_goals simp [id allocEsn_same, id modBridge_same, id pushSample_same]
theorem supervise_same (refs : Int × Int) (m : Nat) (s : State) : Same3 s (supervise refs m s) := by
  unfold supervise
  try dsimp only
  repeat' split
  all_goals simp [id modMach_same]
theorem reportTorque_same (m : Nat) (refs : Int × Int) (s : State) : Same3 s (reportTorque m refs s) := by
  unfold reportTorque
  try dsimp only
  repeat' split
  all_goals simp [id modMach_same]
theorem controlSteps_same (m : Nat) (newTable : Bool) (s : State) : Same1 s (controlSteps m newTable s) := by
  unfold controlSteps
  try dsimp only
  repeat' split
  all_goals simp [id advanceRamp_same, id commitCarrier_same, id currentLoops_same, id drawMany_same, id formIdc_same, id imModel_same, id
      modMach_same, id reportTorque_same, id sampleRecord_same, id sixCounts_same, id stepRefs_same, id stepSix_same, id supervise_same, id
      takeAngle_same, id xyLoops_same]
theorem controlPeriod_same (m : Nat) (o : CtrlObs) (s : State) : Same1 s (controlPeriod m o s) := by
  unfold controlPeriod
  try dsimp only
  repeat' split
  all_goals simp [id controlSteps_same, id detectLoss_same, id endCoast_same, id leaveCrossings_same, id modMach_same]
theorem countControl_same (m : Nat) (s : State) : Same5 s (countControl m s) := by
  unfold countControl
  try dsimp only
  repeat' split
  all_goals simp [id modBridge_same]
theorem execControlPeriod_same (m : Fin 8) (obs : CtrlObs) (s : State) : OutAll (fun t => Same1 s t) (execControlPeriod m obs s) := by
  unfold execControlPeriod
  try dsimp only
  repeat' split
  all_goals simp [id controlPeriod_same, id countControl_same, id restItems_same, id settleLate_same]
theorem execTorqueNotReachable_same (m : Fin 8) (s : State) : OutAll (fun t => Same1 s t) (execTorqueNotReachable m s) := by
  unfold execTorqueNotReachable
  try dsimp only
  repeat' split
  all_goals simp [id modMach_same, id raiseFault_same]
theorem raiseOnce_same (code m : Nat) (s : State) : Same1 s (raiseOnce code m s) := by
  unfold raiseOnce
  try dsimp only
  repeat' split
  all_goals simp [id modMach_same, id raiseFault_same]
theorem execTrackingError_same (m : Fin 8) (s : State) : OutAll (fun t => Same1 s t) (execTrackingError m s) := by
  unfold execTrackingError
  try dsimp only
  repeat' split
  all_goals simp [id raiseOnce_same]
theorem execXyExcess_same (m : Fin 8) (s : State) : OutAll (fun t => Same1 s t) (execXyExcess m s) := by
  unfold execXyExcess
  try dsimp only
  repeat' split
  all_goals simp [id raiseOnce_same]
theorem execImFluxTimeout_same (m : Fin 8) (s : State) : OutAll (fun t => Same1 s t) (execImFluxTimeout m s) := by
  unfold execImFluxTimeout
  try dsimp only
  repeat' split
  all_goals simp [id raiseOnce_same]
theorem windowEnd_same (m k : Nat) (samples : List ZcSample) (s : State) : Same3 s (windowEnd m k samples s) := by
  unfold windowEnd
  try dsimp only
  repeat' split
  all_goals simp [id modMach_same]
theorem execZcWindowEnd_same (m : Fin 8) (k : Fin 3) (samples : List ZcSample) (s : State) : OutAll (fun t => Same3 s t) (execZcWindowEnd m k samples s) := by
  unfold execZcWindowEnd
  try dsimp only
  repeat' split
  all_goals simp [id windowEnd_same]
theorem execZcMissLimit_same (m : Fin 8) (s : State) : OutAll (fun t => Same1 s t) (execZcMissLimit m s) := by
  unfold execZcMissLimit
  try dsimp only
  repeat' split
  all_goals simp [id leaveCrossings_same]

/-! ### Machine/Starting.lean -/

theorem endPhase_same (m : Nat) (s : State) : Same3 s (endPhase m s) := by
  unfold endPhase
  try dsimp only
  repeat' split
  all_goals simp [id autoStart_same, id modMach_same]
theorem refuseStart_same (m : Nat) (reason : Byte) (s : State) : Same10 s (refuseStart m reason s) := by
  unfold refuseStart
  try dsimp only
  repeat' split
  all_goals simp [id autoStart_same, id endPhase_same, id finishMach_same, id modMach_same]
theorem failStart_same (m code : Nat) (reason : Byte) (s : State) : Same1 s (failStart m code reason s) := by
  unfold failStart
  try dsimp only
  repeat' split
  all_goals simp [id note_same, id refuseStart_same]
theorem startChecks_same (m : Nat) (spd : Int) (s : State) : Same1 s (startChecks m spd s) := by
  unfold startChecks
  try dsimp only
  repeat' split
  all_goals simp [id failStart_same, id modMach_same, id note_same]
theorem rebuildFlux_same (m : Nat) (s : State) : Same3 s (rebuildFlux m s) := by
  unfold rebuildFlux
  try dsimp only
  repeat' split
  all_goals simp [id modMach_same]
theorem checkEnd_same (m : Nat) (s : State) : Same1 s (checkEnd m s) := by
  unfold checkEnd
  try dsimp only
  repeat' split
  all_goals simp [id refuseStart_same, id startChecks_same]
theorem execCheckTimeEnd_same (m : Fin 8) (s : State) : OutAll (fun t => Same1 s t) (execCheckTimeEnd m s) := by
  unfold execCheckTimeEnd
  try dsimp only
  repeat' split
  all_goals simp [id checkEnd_same]
theorem caught_same (m : Nat) (x : Found) (s : State) : Same1 s (caught m x s) := by
  unfold caught
  try dsimp only
  repeat' split
  all_goals simp [id modMach_same, id startChecks_same]
theorem catchEnd_same (m : Nat) (o : CatchObs) (s : State) : Same1 s (catchEnd m o s) := by
  unfold catchEnd
  try dsimp only
  repeat' split
  all_goals simp [id beginPluck_same, id caught_same, id modMach_same]
theorem pluckWindowEnd_same (m : Nat) (o : CatchObs) (s : State) : Same10 s (pluckWindowEnd m o s) := by
  unfold pluckWindowEnd
  try dsimp only
  repeat' split
  all_goals simp [id beginPluck_same, id refuseStart_same]
theorem watchEnd_same (g m : Nat) (o : CatchObs) (s : State) : Same1 s (watchEnd g m o s) := by
  unfold watchEnd
  try dsimp only
  repeat' split
  all_goals simp [id armWinding_same, id modMach_same, id tryWinding_same]
theorem windowOver_same (m : Nat) (o : CatchObs) (s : State) : Same1 s (windowOver m o s) := by
  unfold windowOver
  try dsimp only
  repeat' split
  all_goals simp [id catchEnd_same, id pluckWindowEnd_same, id watchEnd_same]
theorem execCatchWindowEnd_same (m : Fin 8) (obs : CatchObs) (s : State) : OutAll (fun t => Same1 s t) (execCatchWindowEnd m obs s) := by
  unfold execCatchWindowEnd
  try dsimp only
  repeat' split
  all_goals simp [id windowOver_same]
theorem execCatchExtensionEnd_same (m : Fin 8) (obs : CatchObs) (s : State) : OutAll (fun t => Same1 s t) (execCatchExtensionEnd m obs s) := by
  unfold execCatchExtensionEnd
  try dsimp only
  repeat' split
  all_goals simp [id caught_same, id failStart_same]
theorem execRectificationDetect_same (m : Fin 8) (idc0Mv idc1Mv : Int) (us : Nat) (s : State) : OutAll (fun t => Same1 s t) (execRectificationDetect m idc0Mv idc1Mv us s) := by
  unfold execRectificationDetect
  try dsimp only
  repeat' split
  all_goals simp [id raiseWhy_same]
theorem passPluck_same (m : Nat) (testOnly : Bool) (f : Nat) (sal : Rat) (r : PluckResult) (s : State) : Same10 s (passPluck m testOnly f sal r s) := by
  unfold passPluck
  try dsimp only
  repeat' split
  all_goals simp [id endPhase_same, id finishMach_same, id modMach_same]
theorem repeatPluck_same (m : Nat) (p : Pluck) (s : State) : Same17 s (repeatPluck m p s) := by
  unfold repeatPluck
  try dsimp only
  repeat' split
  all_goals simp [id firePulse_same, id modMach_same]
theorem judgePluck_same (m : Nat) (p : Pluck) (s : State) : Same1 s (judgePluck m p s) := by
  unfold judgePluck
  try dsimp only
  repeat' split
  all_goals simp [id drawMany_same, id failStart_same, id passPluck_same, id repeatPluck_same]
theorem onePulse_same (m : Nat) (p : Pluck) (o : PluckObs) (s : State) : Same1 s (onePulse m p o s) := by
  unfold onePulse
  try dsimp only
  repeat' split
  all_goals simp [id drawMany_same, id failStart_same, id firePulse_same, id judgePluck_same, id modMach_same]
theorem execPluckPulse_same (m : Fin 8) (obs : PluckObs) (s : State) : OutAll (fun t => Same1 s t) (execPluckPulse m obs s) := by
  unfold execPluckPulse
  try dsimp only
  repeat' split
  all_goals simp [id onePulse_same]
theorem lockMatch_same (m : Nat) (s : State) : Same1 s (lockMatch m s) := by
  unfold lockMatch
  try dsimp only
  repeat' split
  all_goals simp [id commitCarrier_same, id drawMany_same, id endPhase_same, id finishBoundary_same, id finishMach_same, id freshRun_same,
      id modBridge_same, id modMach_same, id rebuildFlux_same, id setBridges_same]
theorem execLockAndMatch_same (m : Fin 8) (s : State) : OutAll (fun t => Same1 s t) (execLockAndMatch m s) := by
  unfold execLockAndMatch
  try dsimp only
  repeat' split
  all_goals simp [id lockMatch_same]
theorem execObserverInvalid_same (m : Fin 8) (s : State) : OutAll (fun t => Same1 s t) (execObserverInvalid m s) := by
  unfold execObserverInvalid
  try dsimp only
  repeat' split
  all_goals simp [id raiseOnce_same]

end Sys2Proof.Machine
end

