-- ==== Sys2Proof/Laws/SameNetwork.lean ====
section
/-! SUPPORT. One lemma per function: the same: Machine/Protocol, Network, Ring, Tick. -/

namespace Sys2Proof.Machine

set_option linter.unusedTactic false
set_option linter.unusedSimpArgs false

/-! ### Machine/Protocol.lean -/

@[simp] theorem withOrigin_pins' (o : List Byte) (f : State → State) (s : State) (hf : ∀ v, (f v).pins = v.pins) :
    (withOrigin o f s).pins = s.pins := by
  unfold withOrigin
  try dsimp only
  repeat' split
  all_goals simp [hf]
@[simp] theorem withOrigin_dev' (o : List Byte) (f : State → State) (s : State) (hf : ∀ v, (f v).dev = v.dev) :
    (withOrigin o f s).dev = s.dev := by
  unfold withOrigin
  try dsimp only
  repeat' split
  all_goals simp [hf]
@[simp] theorem withOrigin_tdev' (o : List Byte) (f : State → State) (s : State) (hf : ∀ v, (f v).time.dev = v.time.dev) :
    (withOrigin o f s).time.dev = s.time.dev := by
  unfold withOrigin
  try dsimp only
  repeat' split
  all_goals simp [hf]
@[simp] theorem withOrigin_rtc' (o : List Byte) (f : State → State) (s : State) (hf : ∀ v, (f v).time.rtc = v.time.rtc) :
    (withOrigin o f s).time.rtc = s.time.rtc := by
  unfold withOrigin
  try dsimp only
  repeat' split
  all_goals simp [hf]
@[simp] theorem withOrigin_bankA' (o : List Byte) (f : State → State) (s : State) (hf : ∀ v, (f v).bankA = v.bankA) :
    (withOrigin o f s).bankA = s.bankA := by
  unfold withOrigin
  try dsimp only
  repeat' split
  all_goals simp [hf]
@[simp] theorem withOrigin_bankB' (o : List Byte) (f : State → State) (s : State) (hf : ∀ v, (f v).bankB = v.bankB) :
    (withOrigin o f s).bankB = s.bankB := by
  unfold withOrigin
  try dsimp only
  repeat' split
  all_goals simp [hf]
@[simp] theorem withOrigin_pos' (o : List Byte) (f : State → State) (s : State) (hf : ∀ v, (f v).pos = v.pos) :
    (withOrigin o f s).pos = s.pos := by
  unfold withOrigin
  try dsimp only
  repeat' split
  all_goals simp [hf]
@[simp] theorem withOrigin_pouts' (o : List Byte) (f : State → State) (s : State) (hf : ∀ v, (f v).pouts = v.pouts) :
    (withOrigin o f s).pouts = s.pouts := by
  unfold withOrigin
  try dsimp only
  repeat' split
  all_goals simp [hf]
@[simp] theorem withOrigin_cmps' (o : List Byte) (f : State → State) (s : State) (hf : ∀ v, (f v).cmps = v.cmps) :
    (withOrigin o f s).cmps = s.cmps := by
  unfold withOrigin
  try dsimp only
  repeat' split
  all_goals simp [hf]
@[simp] theorem withOrigin_temps' (o : List Byte) (f : State → State) (s : State) (hf : ∀ v, (f v).temps = v.temps) :
    (withOrigin o f s).temps = s.temps := by
  unfold withOrigin
  try dsimp only
  repeat' split
  all_goals simp [hf]
@[simp] theorem withOrigin_store' (o : List Byte) (f : State → State) (s : State) (hf : ∀ v, (f v).store = v.store) :
    (withOrigin o f s).store = s.store := by
  unfold withOrigin
  try dsimp only
  repeat' split
  all_goals simp [hf]
@[simp] theorem withOrigin_clk' (o : List Byte) (f : State → State) (s : State) (hf : ∀ v, (f v).clk = v.clk) :
    (withOrigin o f s).clk = s.clk := by
  unfold withOrigin
  try dsimp only
  repeat' split
  all_goals simp [hf]
@[simp] theorem withOrigin_pwr' (o : List Byte) (f : State → State) (s : State) (hf : ∀ v, (f v).pwr = v.pwr) :
    (withOrigin o f s).pwr = s.pwr := by
  unfold withOrigin
  try dsimp only
  repeat' split
  all_goals simp [hf]
@[simp] theorem withOrigin_sess' (o : List Byte) (f : State → State) (s : State) (hf : ∀ v, (f v).proto.sess = v.proto.sess) :
    (withOrigin o f s).proto.sess = s.proto.sess := by
  unfold withOrigin
  try dsimp only
  repeat' split
  all_goals simp [hf]
@[simp] theorem withOrigin_ctx' (o : List Byte) (f : State → State) (s : State) (hf : ∀ v, (f v).proto.ctx = v.proto.ctx) :
    (withOrigin o f s).proto.ctx = s.proto.ctx := by
  unfold withOrigin
  try dsimp only
  repeat' split
  all_goals simp [hf]
@[simp] theorem withOrigin_left' (o : List Byte) (f : State → State) (s : State) (hf : ∀ v, (f v).proto.left = v.proto.left) :
    (withOrigin o f s).proto.left = s.proto.left := by
  unfold withOrigin
  try dsimp only
  repeat' split
  all_goals simp [hf]
@[simp] theorem withOrigin_can' (o : List Byte) (f : State → State) (s : State) (hf : ∀ v, (f v).net.can = v.net.can) :
    (withOrigin o f s).net.can = s.net.can := by
  unfold withOrigin
  try dsimp only
  repeat' split
  all_goals simp [hf]
@[simp] theorem withOrigin_eth' (o : List Byte) (f : State → State) (s : State) (hf : ∀ v, (f v).net.eth = v.net.eth) :
    (withOrigin o f s).net.eth = s.net.eth := by
  unfold withOrigin
  try dsimp only
  repeat' split
  all_goals simp [hf]
@[simp] theorem withOrigin_cantx' (o : List Byte) (f : State → State) (s : State) (hf : ∀ v, (f v).net.canTx = v.net.canTx) :
    (withOrigin o f s).net.canTx = s.net.canTx := by
  unfold withOrigin
  try dsimp only
  repeat' split
  all_goals simp [hf]
@[simp] theorem withOrigin_egress' (o : List Byte) (f : State → State) (s : State) (hf : ∀ v, (f v).net.egress = v.net.egress) :
    (withOrigin o f s).net.egress = s.net.egress := by
  unfold withOrigin
  try dsimp only
  repeat' split
  all_goals simp [hf]
@[simp] theorem withOrigin_nother' (o : List Byte) (f : State → State) (s : State) (hf : ∀ v, (f v).net.rest = v.net.rest) :
    (withOrigin o f s).net.rest = s.net.rest := by
  unfold withOrigin
  try dsimp only
  repeat' split
  all_goals simp [hf]
@[simp] theorem withOrigin_bridges' (o : List Byte) (f : State → State) (s : State) (hf : ∀ v, (f v).bridges = v.bridges) :
    (withOrigin o f s).bridges = s.bridges := by
  unfold withOrigin
  try dsimp only
  repeat' split
  all_goals simp [hf]
@[simp] theorem withOrigin_machs' (o : List Byte) (f : State → State) (s : State) (hf : ∀ v, (f v).machs = v.machs) :
    (withOrigin o f s).machs = s.machs := by
  unfold withOrigin
  try dsimp only
  repeat' split
  all_goals simp [hf]
@[simp] theorem withOrigin_chans' (o : List Byte) (f : State → State) (s : State) (hf : ∀ v, (f v).chans = v.chans) :
    (withOrigin o f s).chans = s.chans := by
  unfold withOrigin
  try dsimp only
  repeat' split
  all_goals simp [hf]
@[simp] theorem withOrigin_lgs' (o : List Byte) (f : State → State) (s : State) (hf : ∀ v, (f v).lgs = v.lgs) :
    (withOrigin o f s).lgs = s.lgs := by
  unfold withOrigin
  try dsimp only
  repeat' split
  all_goals simp [hf]
@[simp] theorem withOrigin_ctds' (o : List Byte) (f : State → State) (s : State) (hf : ∀ v, (f v).ctds = v.ctds) :
    (withOrigin o f s).ctds = s.ctds := by
  unfold withOrigin
  try dsimp only
  repeat' split
  all_goals simp [hf]
@[simp] theorem withOrigin_safety' (o : List Byte) (f : State → State) (s : State) (hf : ∀ v, (f v).safety = v.safety) :
    (withOrigin o f s).safety = s.safety := by
  unfold withOrigin
  try dsimp only
  repeat' split
  all_goals simp [hf]
@[simp] theorem withOrigin_recd' (o : List Byte) (f : State → State) (s : State) (hf : ∀ v, (f v).recd = v.recd) :
    (withOrigin o f s).recd = s.recd := by
  unfold withOrigin
  try dsimp only
  repeat' split
  all_goals simp [hf]
@[simp] theorem withOrigin_out' (o : List Byte) (f : State → State) (s : State) (hf : ∀ v, (f v).out = v.out) :
    (withOrigin o f s).out = s.out := by
  unfold withOrigin
  try dsimp only
  repeat' split
  all_goals simp [hf]
theorem discardPacket_same (s : State) : Same22 s (discardPacket s) := by
  unfold discardPacket
  try dsimp only
  repeat' split
  all_goals simp
theorem macFailed_same (h : Hdr) (op : Nat) (k : Session) (s : State) : Same66 s (macFailed h op k s) := by
  unfold macFailed
  try dsimp only
  repeat' split
  all_goals simp [id bounce_same, id closeSession_same, id modSess_same, id note_same]
theorem checkRequest_same (h : Hdr) (op : Nat) (b : List Byte) (s : State) : Same2 s (checkRequest h op b s) := by
  unfold checkRequest
  try dsimp only
  repeat' split
  all_goals simp [id admits_same, id bounce_same, id enqueue_same, id macFailed_same, id modSess_same]
theorem checkPacket_same (p : Port) (b : List Byte) (padOk : Bool) (s : State) : Same2 s (checkPacket p b padOk s) := by
  unfold checkPacket
  try dsimp only
  repeat' split
  all_goals simp [id bounce_same, id checkRequest_same, id discardPacket_same]
theorem execPacketArrival_same (port : Port) (bytes padding : List Byte) (s : State) : OutAll (fun t => Same2 s t) (execPacketArrival port bytes padding s) := by
  unfold execPacketArrival
  try dsimp only
  repeat' split
  all_goals simp [id checkPacket_same]
theorem takeEntry_same (i : Nat) (b : List Byte) (m : Nat) (s : State) : Same3 s (takeEntry i b m s) := by
  unfold takeEntry
  try dsimp only
  repeat' split
  all_goals simp [id applyRef_same, id modMach_same, id nextArrival_same]
theorem acceptFrame_same (p : Port) (i : Nat) (b : List Byte) (s : State) : (acceptFrame p i b s).pins = s.pins ∧ (acceptFrame p i b s).dev = s.dev ∧ (acceptFrame p i b s).time.dev = s.time.dev ∧ (acceptFrame p i b s).time.rtc = s.time.rtc ∧ (acceptFrame p i b s).bankA = s.bankA ∧ (acceptFrame p i b s).bankB = s.bankB ∧ (acceptFrame p i b s).pos = s.pos ∧ (acceptFrame p i b s).pouts = s.pouts ∧ (acceptFrame p i b s).cmps = s.cmps ∧ (acceptFrame p i b s).temps = s.temps ∧ (acceptFrame p i b s).store = s.store ∧ (acceptFrame p i b s).clk = s.clk ∧ (acceptFrame p i b s).pwr = s.pwr ∧ (acceptFrame p i b s).proto.ctx = s.proto.ctx ∧ (acceptFrame p i b s).proto.left = s.proto.left ∧ (acceptFrame p i b s).net.can = s.net.can ∧ (acceptFrame p i b s).net.eth = s.net.eth ∧ (acceptFrame p i b s).net.canTx = s.net.canTx ∧ (acceptFrame p i b s).net.egress = s.net.egress ∧ (acceptFrame p i b s).net.rest = s.net.rest ∧ (acceptFrame p i b s).bridges = s.bridges ∧ (acceptFrame p i b s).chans = s.chans ∧ (acceptFrame p i b s).lgs = s.lgs ∧ (acceptFrame p i b s).ctds = s.ctds ∧ (acceptFrame p i b s).safety = s.safety ∧ (acceptFrame p i b s).recd = s.recd ∧ (acceptFrame p i b s).out = s.out := by
  unfold acceptFrame
  try dsimp only
  repeat' split
  all_goals simp [id modSess_same, id takeEntry_same]
theorem rejectFrame_same (p : Port) (s : State) : Same1 s (rejectFrame p s) := by
  unfold rejectFrame
  try dsimp only
  repeat' split
  all_goals simp [id noteLimited_same]
theorem copyEntries_same (b : List Byte) (s : State) : Same3 s (copyEntries b s) := by
  unfold copyEntries
  try dsimp only
  repeat' split
  all_goals simp [id modMach_same]
theorem setpointFrame_same (p : Port) (b : List Byte) (s : State) : (setpointFrame p b s).pins = s.pins ∧ (setpointFrame p b s).dev = s.dev ∧ (setpointFrame p b s).time.dev = s.time.dev ∧ (setpointFrame p b s).time.rtc = s.time.rtc ∧ (setpointFrame p b s).bankA = s.bankA ∧ (setpointFrame p b s).bankB = s.bankB ∧ (setpointFrame p b s).pos = s.pos ∧ (setpointFrame p b s).pouts = s.pouts ∧ (setpointFrame p b s).cmps = s.cmps ∧ (setpointFrame p b s).temps = s.temps ∧ (setpointFrame p b s).store = s.store ∧ (setpointFrame p b s).clk = s.clk ∧ (setpointFrame p b s).pwr = s.pwr ∧ (setpointFrame p b s).net.can = s.net.can ∧ (setpointFrame p b s).net.eth = s.net.eth ∧ (setpointFrame p b s).net.rest = s.net.rest := by
  unfold setpointFrame
  try dsimp only
  repeat' split
  all_goals simp [id acceptFrame_same, id copyEntries_same, id discardPacket_same, id rejectFrame_same]
theorem readBuffer_same (n : Nat) (request : Bool) (d : Nat) (s : State) : Same36 s (readBuffer n request d s) := by
  unfold readBuffer
  try dsimp only
  repeat' split
  all_goals simp [id modCan_same]
theorem dropReassembly_same (n d : Nat) (s : State) : Same29 s (dropReassembly n d s) := by
  unfold dropReassembly
  try dsimp only
  repeat' split
  all_goals simp [id modCan_same, id noteLimited_same]
theorem forwardTo_same (d : Nat) (origin packet : List Byte) (s : State) : Same13 s (forwardTo d origin packet s) := by
  unfold forwardTo
  try dsimp only
  repeat' split
  all_goals simp [id sendRing_same]
theorem segmentsDone_same (can : Fin 4) (d : Nat) (b : List Byte) (lastLen : Nat) (s : State) : Same2 s (segmentsDone can d b lastLen s) := by
  unfold segmentsDone
  try dsimp only
  repeat' split
  all_goals simp [id checkPacket_same, id forwardTo_same]
theorem joinSegment_same (can : Fin 4) (d : Nat) (sofar data : List Byte) (next : Nat) (last : Bool) (s : State) : Same50 s (joinSegment can d sofar data next last s) := by
  unfold joinSegment
  try dsimp only
  repeat' split
  all_goals simp [id dropReassembly_same, id segmentsDone_same]
theorem takeSegment_same (can : Fin 4) (d : Nat) (frame : List Byte) (s : State) : Same50 s (takeSegment can d frame s) := by
  unfold takeSegment
  try dsimp only
  repeat' split
  all_goals simp [id dropReassembly_same, id joinSegment_same]
theorem execCanSegment_same (can dev : Fin 4) (s : State) : OutAll (fun t => Same50 s t) (execCanSegment can dev s) := by
  unfold execCanSegment
  try dsimp only
  repeat' split
  all_goals simp [id readBuffer_same, id takeSegment_same]
theorem execSegmentGapTimeout_same (can dev : Fin 4) (s : State) : OutAll (fun t => Same29 s t) (execSegmentGapTimeout can dev s) := by
  unfold execSegmentGapTimeout
  try dsimp only
  repeat' split
  all_goals simp [id dropReassembly_same]
theorem execFastSetpointFrame_same (src : SpSource) (s : State) : OutAll (fun t => t.pins = s.pins ∧ t.dev = s.dev ∧ t.time.dev = s.time.dev ∧ t.time.rtc = s.time.rtc ∧ t.bankA = s.bankA ∧ t.bankB = s.bankB ∧ t.pos = s.pos ∧ t.pouts = s.pouts ∧ t.cmps = s.cmps ∧ t.temps = s.temps ∧ t.store = s.store ∧ t.clk = s.clk ∧ t.pwr = s.pwr ∧ t.net.eth = s.net.eth ∧ t.net.rest = s.net.rest) (execFastSetpointFrame src s) := by
  unfold execFastSetpointFrame
  try dsimp only
  repeat' split
  all_goals simp [id readBuffer_same, id setpointFrame_same]
theorem discardDatagram_same (p : Nat) (s : State) : Same67 s (discardDatagram p s) := by
  unfold discardDatagram
  try dsimp only
  repeat' split
  all_goals simp
theorem ownDatagram_same (p : Fin 3) (origin payload : List Byte) (s : State) : Same85 s (ownDatagram p origin payload s) := by
  unfold ownDatagram
  try dsimp only
  repeat' split
  all_goals simp [id checkPacket_same, id discardDatagram_same, id setpointFrame_same]
theorem udpArrives_same (p : Fin 3) (dstPort : Nat) (payload : List Byte) (src : U32) (srcPort : U16) (s : State) : Same85 s (udpArrives p dstPort payload src srcPort s) := by
  unfold udpArrives
  try dsimp only
  repeat' split
  all_goals simp [id forwardTo_same, id ownDatagram_same]
theorem takeFragment_same (p : Fin 3) (src : U32) (ident : U16) (offset : Nat) (more : Bool) (bytes : List Byte) (s : State) : Same86 s (takeFragment p src ident offset more bytes s) := by
  unfold takeFragment
  try dsimp only
  repeat' split
  all_goals simp [id discardDatagram_same, id udpArrives_same]
theorem execUdpDatagram_same (eth : Fin 3) (dstPort vlan : U16) (payload : UdpData) (srcAddr : U32) (srcPort : U16) (s : State) : OutAll (fun t => Same86 s t) (execUdpDatagram eth dstPort vlan payload srcAddr srcPort s) := by
  unfold execUdpDatagram
  try dsimp only
  repeat' split
  all_goals simp [id takeFragment_same, id udpArrives_same]
theorem opCascStatus_same (t : Nat) (s : State) : Same6 s (opCascStatus t s) := by
  unfold opCascStatus
  try dsimp only
  repeat' split
  all_goals simp [id finish_same]
theorem execCascStatus_same (h : Hdr) (s : State) : OutAll (fun t => Same2 s t) (execCascStatus h s) := by
  unfold execCascStatus
  try dsimp only
  repeat' split
  all_goals simp [id opCascStatus_same]
theorem badForm_same (t : Nat) (s : State) : Same6 s (badForm t s) := by
  unfold badForm
  try dsimp only
  repeat' split
  all_goals simp [id refuse_same]
theorem noCount_same (t : Nat) (s : State) : Same6 s (noCount t s) := by
  unfold noCount
  try dsimp only
  repeat' split
  all_goals simp [id refuse_same]
theorem dropPending_same (s : State) : Same12 s (dropPending s) := by
  unfold dropPending
  try dsimp only
  repeat' split
  all_goals simp [id modSlots_same]
theorem abortOp_same (t : Nat) (c : Ctx) (s : State) : Same43 s (abortOp t c s) := by
  unfold abortOp
  try dsimp only
  repeat' split
  all_goals simp [id commandCtd_same, id commandSafe_same, id dropContactorTag_same, id dropPending_same, id endPhase_same, id
      modBridge_same, id modMach_same, id toIdle_same]
theorem expireContext_same (t : Nat) (s : State) : Same43 s (expireContext t s) := by
  unfold expireContext
  try dsimp only
  repeat' split
  all_goals simp [id abortOp_same, id finish_same, id retag_same]
theorem execContextDeadline_same (tag : Fin 128) (s : State) : OutAll (fun t => Same43 s t) (execContextDeadline tag s) := by
  unfold execContextDeadline
  try dsimp only
  repeat' split
  all_goals simp [id expireContext_same]
theorem execSetpointTimeout_same (m : Fin 8) (s : State) : OutAll (fun t => Same1 s t) (execSetpointTimeout m s) := by
  unfold execSetpointTimeout
  try dsimp only
  repeat' split
  all_goals simp [id modMach_same, id raiseFault_same]

/-! ### Machine/Network.lean -/

theorem dropFrame_same (n : Nat) (s : State) : Same29 s (dropFrame n s) := by
  unfold dropFrame
  try dsimp only
  repeat' split
  all_goals simp [id modCan_same, id noteLimited_same]
theorem storeFrame_same (n : Nat) (request : Bool) (d : Nat) (data : List Byte) (s : State) : Same29 s (storeFrame n request d data s) := by
  unfold storeFrame
  try dsimp only
  repeat' split
  all_goals simp [id dropFrame_same, id modCan_same]
theorem takeFrame_same (n : Nat) (request : Bool) (d ident : Nat) (data : List Byte) (s : State) : Same29 s (takeFrame n request d ident data s) := by
  unfold takeFrame
  try dsimp only
  repeat' split
  all_goals simp [id forwardTo_same, id storeFrame_same]
theorem execCanFrameReceive_same (can : Fin 4) (ident : BitVec 29) (form : CanForm) (data : List Byte) (s : State) : OutAll (fun t => Same29 s t) (execCanFrameReceive can ident form data s) := by
  unfold execCanFrameReceive
  try dsimp only
  repeat' split
  all_goals simp [id modCan_same, id takeFrame_same]
theorem sendFrame_same (n ident : Nat) (bytes : List Byte) (s : State) : Same13 s (sendFrame n ident bytes s) := by
  unfold sendFrame
  try dsimp only
  repeat' split
  all_goals simp [id emit_same]
theorem sendSlot_same (n k : Nat) (s : State) : Same87 s (sendSlot n k s) := by
  unfold sendSlot
  try dsimp only
  repeat' split
  all_goals simp [id modCan_same, id sendFrame_same]
theorem canTick_same (n : Nat) (s : State) : Same87 s (canTick n s) := by
  unfold canTick
  try dsimp only
  repeat' split
  all_goals simp [id drawFree_same, id sendSlot_same]
theorem execCanBusOff_same (can : Fin 4) (s : State) : OutAll (fun t => Same29 s t) (execCanBusOff can s) := by
  unfold execCanBusOff
  try dsimp only
  repeat' split
  all_goals simp [id dropCan_same, id modCan_same, id note_same]
theorem execCanBusOffRecovery_same (can : Fin 4) (occurrences : Nat) (s : State) : OutAll (fun t => Same36 s t) (execCanBusOffRecovery can occurrences s) := by
  unfold execCanBusOffRecovery
  try dsimp only
  repeat' split
  all_goals simp [id modCan_same]
theorem waitState_same (p : Port) (d : Nat) (f : List Byte) (s : State) : Same36 s (waitState p d f s) := by
  unfold waitState
  try dsimp only
  repeat' split
  all_goals simp [id modCan_same]
theorem sendState_same (i : Nat) (p : Port) (origin : List Byte) (k : Session) (s : State) : (sendState i p origin k s).pins = s.pins ∧ (sendState i p origin k s).dev = s.dev ∧ (sendState i p origin k s).time.dev = s.time.dev ∧ (sendState i p origin k s).time.rtc = s.time.rtc ∧ (sendState i p origin k s).bankA = s.bankA ∧ (sendState i p origin k s).bankB = s.bankB ∧ (sendState i p origin k s).pos = s.pos ∧ (sendState i p origin k s).pouts = s.pouts ∧ (sendState i p origin k s).cmps = s.cmps ∧ (sendState i p origin k s).temps = s.temps ∧ (sendState i p origin k s).store = s.store ∧ (sendState i p origin k s).clk = s.clk ∧ (sendState i p origin k s).pwr = s.pwr ∧ (sendState i p origin k s).proto.ctx = s.proto.ctx ∧ (sendState i p origin k s).proto.left = s.proto.left ∧ (sendState i p origin k s).net.eth = s.net.eth ∧ (sendState i p origin k s).net.canTx = s.net.canTx ∧ (sendState i p origin k s).net.rest = s.net.rest ∧ (sendState i p origin k s).bridges = s.bridges ∧ (sendState i p origin k s).machs = s.machs ∧ (sendState i p origin k s).chans = s.chans ∧ (sendState i p origin k s).lgs = s.lgs ∧ (sendState i p origin k s).ctds = s.ctds ∧ (sendState i p origin k s).safety = s.safety ∧ (sendState i p origin k s).recd = s.recd := by
  unfold sendState
  try dsimp only
  repeat' split
  all_goals simp [id allocEsn_same, id emit_same, id modSess_same, id sendEth_same, id sendRing_same, id waitState_same]
theorem execStateFrame_same (s : State) : OutAll (fun t => t.pins = s.pins ∧ t.dev = s.dev ∧ t.time.dev = s.time.dev ∧ t.time.rtc = s.time.rtc ∧ t.bankA = s.bankA ∧ t.bankB = s.bankB ∧ t.pos = s.pos ∧ t.pouts = s.pouts ∧ t.cmps = s.cmps ∧ t.temps = s.temps ∧ t.store = s.store ∧ t.clk = s.clk ∧ t.pwr = s.pwr ∧ t.proto.ctx = s.proto.ctx ∧ t.proto.left = s.proto.left ∧ t.net.eth = s.net.eth ∧ t.net.canTx = s.net.canTx ∧ t.bridges = s.bridges ∧ t.machs = s.machs ∧ t.chans = s.chans ∧ t.lgs = s.lgs ∧ t.ctds = s.ctds ∧ t.safety = s.safety ∧ t.recd = s.recd) (execStateFrame s) := by
  unfold execStateFrame
  try dsimp only
  repeat' split
  all_goals simp [id sendState_same]
theorem execOneShotFail_same (can : Fin 4) (lostArb : Bool) (s : State) : OutAll (fun t => Same29 s t) (execOneShotFail can lostArb s) := by
  unfold execOneShotFail
  try dsimp only
  repeat' split
  all_goals simp [id modCan_same, id noteLimited_same]
theorem modEth_same (p : Nat) (f : EthPort → EthPort) (s : State) : Same67 s (modEth p f s) := by
  unfold modEth
  try dsimp only
  repeat' split
  all_goals simp
theorem execEthLinkDown_same (p : Fin 3) (s : State) : OutAll (fun t => t.pins = s.pins ∧ t.dev = s.dev ∧ t.time.dev = s.time.dev ∧ t.time.rtc = s.time.rtc ∧ t.bankA = s.bankA ∧ t.bankB = s.bankB ∧ t.pos = s.pos ∧ t.pouts = s.pouts ∧ t.cmps = s.cmps ∧ t.temps = s.temps ∧ t.store = s.store ∧ t.clk = s.clk ∧ t.pwr = s.pwr ∧ t.proto.sess = s.proto.sess ∧ t.net.can = s.net.can ∧ t.net.rest = s.net.rest) (execEthLinkDown p s) := by
  unfold execEthLinkDown
  try dsimp only
  repeat' split
  all_goals simp [id modEth_same, id note_same]
theorem execEthLinkUp_same (p : Fin 3) (s : State) : OutAll (fun t => Same67 s t) (execEthLinkUp p s) := by
  unfold execEthLinkUp
  try dsimp only
  repeat' split
  all_goals simp [id modEth_same]
theorem execIpv4ReassemblyTimeout_same (eth : Fin 3) (ms : Nat) (s : State) : OutAll (fun t => t.pins = s.pins ∧ t.dev = s.dev ∧ t.time.dev = s.time.dev ∧ t.time.rtc = s.time.rtc ∧ t.bankA = s.bankA ∧ t.bankB = s.bankB ∧ t.pos = s.pos ∧ t.pouts = s.pouts ∧ t.cmps = s.cmps ∧ t.temps = s.temps ∧ t.store = s.store ∧ t.clk = s.clk ∧ t.pwr = s.pwr ∧ t.proto.sess = s.proto.sess ∧ t.proto.ctx = s.proto.ctx ∧ t.proto.left = s.proto.left ∧ t.net.can = s.net.can ∧ t.net.canTx = s.net.canTx ∧ t.net.egress = s.net.egress ∧ t.bridges = s.bridges ∧ t.machs = s.machs ∧ t.chans = s.chans ∧ t.lgs = s.lgs ∧ t.ctds = s.ctds ∧ t.safety = s.safety ∧ t.recd = s.recd ∧ t.out = s.out) (execIpv4ReassemblyTimeout eth ms s) := by
  unfold execIpv4ReassemblyTimeout
  try dsimp only
  repeat' split
  all_goals simp [id discardDatagram_same]
theorem execArpRequest_same (p : Fin 3) (target : U32) (s : State) : OutAll (fun t => Same13 s t) (execArpRequest p target s) := by
  unfold execArpRequest
  try dsimp only
  repeat' split
  all_goals simp [id emit_same]
theorem echo_same (p : Nat) (s : State) : Same32 s (echo p s) := by
  unfold echo
  try dsimp only
  repeat' split
  all_goals simp [id emit_same]
theorem execIcmpEchoRequest_same (p : Fin 3) (dst : U32) (s : State) : OutAll (fun t => Same32 s t) (execIcmpEchoRequest p dst s) := by
  unfold execIcmpEchoRequest
  try dsimp only
  repeat' split
  all_goals simp [id echo_same]
theorem shiftTimes_same (d : Nat) (s : State) : (shiftTimes d s).pins = s.pins ∧ (shiftTimes d s).time.dev = s.time.dev ∧ (shiftTimes d s).time.rtc = s.time.rtc ∧ (shiftTimes d s).bankA = s.bankA ∧ (shiftTimes d s).bankB = s.bankB ∧ (shiftTimes d s).clk = s.clk ∧ (shiftTimes d s).pwr = s.pwr ∧ (shiftTimes d s).net.can = s.net.can ∧ (shiftTimes d s).net.canTx = s.net.canTx ∧ (shiftTimes d s).net.egress = s.net.egress ∧ (shiftTimes d s).out = s.out := by
  unfold shiftTimes
  try dsimp only
  repeat' split
  all_goals simp
theorem stepTime_same (d : Nat) (s : State) : Same51 s (stepTime d s) := by
  unfold stepTime
  try dsimp only
  repeat' split
  all_goals simp [id shiftTimes_same]
theorem correctTime_same (off : Int) (s : State) : Same51 s (correctTime off s) := by
  unfold correctTime
  try dsimp only
  repeat' split
  all_goals simp [id stepTime_same]
theorem execGptpSync_same (offset : Int) (s : State) : OutAll (fun t => Same51 s t) (execGptpSync offset s) := by
  unfold execGptpSync
  try dsimp only
  repeat' split
  all_goals simp [id correctTime_same]
theorem execGptpSyncLoss_same (intervals : Nat) (s : State) : OutAll (fun t => Same20 s t) (execGptpSyncLoss intervals s) := by
  unfold execGptpSyncLoss
  try dsimp only
  repeat' split
  all_goals simp [id note_same]
theorem execQbvCycleStart_same (s : State) : OutAll (fun t => Same28 s t) (execQbvCycleStart s) := by
  unfold execQbvCycleStart
  try dsimp only
  repeat' split
  all_goals simp
theorem egressTick_same (p : Nat) (s : State) : (egressTick p s).pins = s.pins ∧ (egressTick p s).dev = s.dev ∧ (egressTick p s).time.dev = s.time.dev ∧ (egressTick p s).time.rtc = s.time.rtc ∧ (egressTick p s).bankA = s.bankA ∧ (egressTick p s).bankB = s.bankB ∧ (egressTick p s).pos = s.pos ∧ (egressTick p s).pouts = s.pouts ∧ (egressTick p s).cmps = s.cmps ∧ (egressTick p s).temps = s.temps ∧ (egressTick p s).store = s.store ∧ (egressTick p s).clk = s.clk ∧ (egressTick p s).pwr = s.pwr ∧ (egressTick p s).proto.sess = s.proto.sess ∧ (egressTick p s).proto.ctx = s.proto.ctx ∧ (egressTick p s).proto.left = s.proto.left ∧ (egressTick p s).net.can = s.net.can ∧ (egressTick p s).net.canTx = s.net.canTx ∧ (egressTick p s).net.rest = s.net.rest ∧ (egressTick p s).bridges = s.bridges ∧ (egressTick p s).machs = s.machs ∧ (egressTick p s).chans = s.chans ∧ (egressTick p s).lgs = s.lgs ∧ (egressTick p s).ctds = s.ctds ∧ (egressTick p s).safety = s.safety ∧ (egressTick p s).recd = s.recd := by
  unfold egressTick
  try dsimp only
  repeat' split
  all_goals simp [id emit_same, id modEth_same]
theorem execTapInstruction_same (op : Byte) (vio : Bool) (s : State) : OutAll (fun t => t.dev = s.dev ∧ t.time.dev = s.time.dev ∧ t.time.rtc = s.time.rtc ∧ t.bankA = s.bankA ∧ t.bankB = s.bankB ∧ t.pos = s.pos ∧ t.pouts = s.pouts ∧ t.cmps = s.cmps ∧ t.temps = s.temps ∧ t.store = s.store ∧ t.clk = s.clk ∧ t.pwr = s.pwr ∧ t.proto.sess = s.proto.sess ∧ t.proto.ctx = s.proto.ctx ∧ t.proto.left = s.proto.left ∧ t.net.can = s.net.can ∧ t.net.eth = s.net.eth ∧ t.net.canTx = s.net.canTx ∧ t.net.egress = s.net.egress ∧ t.net.rest = s.net.rest ∧ t.bridges = s.bridges ∧ t.machs = s.machs ∧ t.chans = s.chans ∧ t.lgs = s.lgs ∧ t.ctds = s.ctds ∧ t.safety = s.safety ∧ t.recd = s.recd ∧ t.out = s.out) (execTapInstruction op vio s) := by
  unfold execTapInstruction
  try dsimp only
  repeat' split
  all_goals simp [id drawMany_same]

/-! ### Machine/Ring.lean -/

theorem sendFault_same (s : State) : Same32 s (sendFault s) := by
  unfold sendFault
  try dsimp only
  repeat' split
  all_goals simp [id broadcastRing_same]
theorem execFaultFlagChange_same (s : State) : OutAll (fun t => Same32 s t) (execFaultFlagChange s) := by
  unfold execFaultFlagChange
  try dsimp only
  repeat' split
  all_goals simp [id sendFault_same]
theorem sendMaster_same (s : State) : Same13 s (sendMaster s) := by
  unfold sendMaster
  try dsimp only
  repeat' split
  all_goals simp [id broadcastRing_same]
theorem execRingPeriodicSend_same (s : State) : OutAll (fun t => Same32 s t) (execRingPeriodicSend s) := by
  unfold execRingPeriodicSend
  try dsimp only
  repeat' split
  all_goals simp [id sendFault_same, id sendMaster_same]
theorem execRingLinkSend_same (s : State) : OutAll (fun t => Same32 s t) (execRingLinkSend s) := by
  unfold execRingLinkSend
  try dsimp only
  repeat' split
  all_goals simp [id drawFree_same, id newFrame_same, id putRing_same]
theorem modRing_same (p : RingPort) (f : RingP → RingP) (s : State) : Same28 s (modRing p f s) := by
  unfold modRing
  try dsimp only
  repeat' split
  all_goals simp
theorem execRingDelayReq_same (port : RingPort) (t1 t2 t3 t4 : Nat) (s : State) : OutAll (fun t => Same32 s t) (execRingDelayReq port t1 t2 t3 t4 s) := by
  unfold execRingDelayReq
  try dsimp only
  repeat' split
  all_goals simp [id drawFree_same, id modRing_same, id newFrame_same, id putRing_same]
theorem judgeChain_same (s : State) : Same20 s (judgeChain s) := by
  unfold judgeChain
  try dsimp only
  repeat' split
  all_goals simp [id note_same]
theorem execRingLinkDown_same (port : RingPort) (why : RingFail) (s : State) : OutAll (fun t => Same20 s t) (execRingLinkDown port why s) := by
  unfold execRingLinkDown
  try dsimp only
  repeat' split
  all_goals simp [id judgeChain_same, id modRing_same, id note_same]
theorem execRingLinkRestored_same (port : RingPort) (ms : Nat) (s : State) : OutAll (fun t => Same20 s t) (execRingLinkRestored port ms s) := by
  unfold execRingLinkRestored
  try dsimp only
  repeat' split
  all_goals simp [id judgeChain_same, id modRing_same, id note_same]
theorem modRem_same (d : Nat) (f : Remote → Remote) (s : State) : Same28 s (modRem d f s) := by
  unfold modRem
  try dsimp only
  repeat' split
  all_goals simp
theorem execCascadeDeviceLost_same (d : Fin 4) (s : State) : OutAll (fun t => Same20 s t) (execCascadeDeviceLost d s) := by
  unfold execCascadeDeviceLost
  try dsimp only
  repeat' split
  all_goals simp [id cascadeHold_same, id modRem_same, id note_same]
theorem execMasterLost_same (s : State) : OutAll (fun t => Same20 s t) (execMasterLost s) := by
  unfold execMasterLost
  try dsimp only
  repeat' split
  all_goals simp [id raiseFault_same]
theorem indexConflict_same (s : State) : Same20 s (indexConflict s) := by
  unfold indexConflict
  try dsimp only
  repeat' split
  all_goals simp [id raiseFault_same]
theorem takeTime_same (port : RingPort) (f : RingFrame) (s : State) : Same51 s (takeTime port f s) := by
  unfold takeTime
  try dsimp only
  repeat' split
  all_goals simp [id correctTime_same]
theorem takeFault_same (d : Nat) (f : RingFrame) (s : State) : Same28 s (takeFault d f s) := by
  unfold takeFault
  try dsimp only
  repeat' split
  all_goals simp [id modRem_same]
theorem takeSum_same (f : RingFrame) (s : State) : Same28 s (takeSum f s) := by
  unfold takeSum
  try dsimp only
  repeat' split
  all_goals simp
theorem relayCan_same (p : Port) (ident : Nat) (body : List Byte) (s : State) : (relayCan p ident body s).pins = s.pins ∧ (relayCan p ident body s).dev = s.dev ∧ (relayCan p ident body s).time.dev = s.time.dev ∧ (relayCan p ident body s).time.rtc = s.time.rtc ∧ (relayCan p ident body s).bankA = s.bankA ∧ (relayCan p ident body s).bankB = s.bankB ∧ (relayCan p ident body s).pos = s.pos ∧ (relayCan p ident body s).pouts = s.pouts ∧ (relayCan p ident body s).cmps = s.cmps ∧ (relayCan p ident body s).temps = s.temps ∧ (relayCan p ident body s).store = s.store ∧ (relayCan p ident body s).clk = s.clk ∧ (relayCan p ident body s).pwr = s.pwr ∧ (relayCan p ident body s).proto.sess = s.proto.sess ∧ (relayCan p ident body s).proto.ctx = s.proto.ctx ∧ (relayCan p ident body s).proto.left = s.proto.left ∧ (relayCan p ident body s).net.eth = s.net.eth ∧ (relayCan p ident body s).net.egress = s.net.egress ∧ (relayCan p ident body s).net.rest = s.net.rest ∧ (relayCan p ident body s).bridges = s.bridges ∧ (relayCan p ident body s).machs = s.machs ∧ (relayCan p ident body s).chans = s.chans ∧ (relayCan p ident body s).lgs = s.lgs ∧ (relayCan p ident body s).ctds = s.ctds ∧ (relayCan p ident body s).safety = s.safety ∧ (relayCan p ident body s).recd = s.recd ∧ (relayCan p ident body s).out = s.out := by
  unfold relayCan
  try dsimp only
  repeat' split
  all_goals simp [id queueCan_same, id waitState_same]
theorem takeVexfi_same (f : RingFrame) (s : State) : Same50 s (takeVexfi f s) := by
  unfold takeVexfi
  try dsimp only
  repeat' split
  all_goals simp [id checkPacket_same, id emit_same, id relayCan_same, id sendEth_same, id setpointFrame_same]
theorem actFrame_same (port : RingPort) (f : RingFrame) (s : State) : Same52 s (actFrame port f s) := by
  unfold actFrame
  try dsimp only
  repeat' split
  all_goals simp [id takeFault_same, id takeSum_same, id takeTime_same, id takeVexfi_same]
theorem answered_same (port : RingPort) (f : RingFrame) (s : State) : Same28 s (answered port f s) := by
  unfold answered
  try dsimp only
  repeat' split
  all_goals simp [id drawFree_same, id modRing_same]
theorem takeLocal_same (port : RingPort) (f : RingFrame) (s : State) : Same20 s (takeLocal port f s) := by
  unfold takeLocal
  try dsimp only
  repeat' split
  all_goals simp [id answered_same, id drawFree_same, id indexConflict_same, id judgeChain_same, id modRing_same, id newFrame_same, id putRing_same]
theorem passOn_same (port : RingPort) (f : RingFrame) (s : State) : Same13 s (passOn port f s) := by
  unfold passOn
  try dsimp only
  repeat' split
  all_goals simp [id drawFree_same, id emit_same]
theorem hearFrame_same (port : RingPort) (f : RingFrame) (s : State) : Same52 s (hearFrame port f s) := by
  unfold hearFrame
  try dsimp only
  repeat' split
  all_goals simp [id actFrame_same, id modRem_same, id takeLocal_same]
theorem ringFrame_same (port : RingPort) (f : RingFrame) (s : State) : Same52 s (ringFrame port f s) := by
  simp only [ringFrame]
  repeat' split
  all_goals simp [id cascadeHold_same, id hearFrame_same, id indexConflict_same, id modRing_same, id passOn_same]
theorem execRingFrameReceive_same (port : RingPort) (f : RingFrame) (s : State) : OutAll (fun t => Same52 s t) (execRingFrameReceive port f s) := by
  unfold execRingFrameReceive
  try dsimp only
  repeat' split
  all_goals simp [id ringFrame_same]

/-! ### Machine/Tick.lean -/

theorem d0Tick_same (s : State) : Same88 s (d0Tick s) := by
  unfold d0Tick
  try dsimp only
  repeat' split
  all_goals simp [id enterBoot_same]
theorem d0Advance_same (s : State) : Same88 s (d0Advance s) := by
  unfold d0Advance
  try dsimp only
  repeat' split
  all_goals simp [id d0Tick_same]
theorem devTick_same (s : State) : (devTick s).pins = s.pins ∧ (devTick s).dev = s.dev ∧ (devTick s).time.rtc = s.time.rtc ∧ (devTick s).bankA = s.bankA ∧ (devTick s).bankB = s.bankB ∧ (devTick s).pos = s.pos ∧ (devTick s).pouts = s.pouts ∧ (devTick s).cmps = s.cmps ∧ (devTick s).temps = s.temps ∧ (devTick s).store = s.store ∧ (devTick s).clk = s.clk ∧ (devTick s).pwr = s.pwr ∧ (devTick s).proto.sess = s.proto.sess ∧ (devTick s).proto.ctx = s.proto.ctx ∧ (devTick s).proto.left = s.proto.left ∧ (devTick s).net.can = s.net.can ∧ (devTick s).net.eth = s.net.eth ∧ (devTick s).net.canTx = s.net.canTx ∧ (devTick s).net.egress = s.net.egress ∧ (devTick s).bridges = s.bridges ∧ (devTick s).machs = s.machs ∧ (devTick s).chans = s.chans ∧ (devTick s).lgs = s.lgs ∧ (devTick s).ctds = s.ctds ∧ (devTick s).safety = s.safety ∧ (devTick s).recd = s.recd ∧ (devTick s).out = s.out := by
  unfold devTick
  try dsimp only
  repeat' split
  all_goals simp [id drawFree_same]
theorem syncPulse_same (before : Nat) (s : State) : Same13 s (syncPulse before s) := by
  unfold syncPulse
  try dsimp only
  repeat' split
  all_goals simp [id emit_same]
theorem posTick_same (s : State) : Same7 s (posTick s) := by
  unfold posTick
  try dsimp only
  repeat' split
  all_goals simp [id latchTick_same, id poutTick_same, id trackTick_same]
theorem sampleMach_same (m : Nat) (s : State) : Same4 s (sampleMach m s) := by
  unfold sampleMach
  try dsimp only
  repeat' split
  all_goals simp [id trendAdd_same]
theorem sampleLink_same (g : Nat) (s : State) : Same4 s (sampleLink g s) := by
  unfold sampleLink
  try dsimp only
  repeat' split
  all_goals simp [id trendAdd_same]
theorem sampleTrend_same (s : State) : Same4 s (sampleTrend s) := by
  unfold sampleTrend
  try dsimp only
  repeat' split
  all_goals simp [id sampleLink_same, id sampleMach_same]
theorem trendTick_same (before : Nat) (s : State) : Same4 s (trendTick before s) := by
  unfold trendTick
  try dsimp only
  repeat' split
  all_goals simp [id sampleTrend_same]
theorem timebaseTick_same (s : State) : (timebaseTick s).pins = s.pins ∧ (timebaseTick s).dev = s.dev ∧ (timebaseTick s).time.rtc = s.time.rtc ∧ (timebaseTick s).bankA = s.bankA ∧ (timebaseTick s).bankB = s.bankB ∧ (timebaseTick s).temps = s.temps ∧ (timebaseTick s).store = s.store ∧ (timebaseTick s).clk = s.clk ∧ (timebaseTick s).pwr = s.pwr ∧ (timebaseTick s).proto.sess = s.proto.sess := by
  unfold timebaseTick
  try dsimp only
  repeat' split
  all_goals simp [id canTick_same, id devTick_same, id egressTick_same, id gatesTick_same, id posTick_same, id syncPulse_same, id trendTick_same]
theorem tick_same (s : State) : (tick s).pins = s.pins ∧ (tick s).temps = s.temps ∧ (tick s).clk = s.clk := by
  unfold tick
  try dsimp only
  repeat' split
  all_goals simp [id d0Advance_same, id standbyAdvance_same, id timebaseTick_same]

end Sys2Proof.Machine
end

