-- ==== Sys2Proof/Laws/Units.lean ====
section
/-! SUPPORT. The commands that the `_keeps` lemmas pass over, because they burn a fuse, change an owner slot, set the time or move the
device between its phases: what they keep all the same, and that fuses and owner slots only move forward. -/

namespace Sys2Proof.Machine

set_option linter.unusedSimpArgs false

/-! ### Moving forward -/

/-- Fuse counters have not fallen. -/
def FusesUp (a b : List Nat) : Prop := b.length = a.length ∧ ∀ i : Nat, a.getD i 0 ≤ b.getD i 0

theorem FusesUp.refl (a : List Nat) : FusesUp a a := ⟨rfl, fun _ => le_refl _⟩
theorem FusesUp.of_eq {a b : List Nat} (h : b = a) : FusesUp a b := h ▸ FusesUp.refl a
theorem FusesUp.trans {a b c : List Nat} (h : FusesUp a b) (g : FusesUp b c) : FusesUp a c :=
  ⟨g.1.trans h.1, fun i => (h.2 i).trans (g.2 i)⟩

theorem FusesUp.set {a : List Nat} {k v : Nat} (h : a.getD k 0 ≤ v) : FusesUp a (a.set k v) := by
  refine ⟨by simp, fun i => ?_⟩
  simp only [List.getD_eq_getElem?_getD, List.getElem?_set] at *
  split
  · subst_vars
    split
    · simpa using h
    · rename_i hk
      simp [List.getElem?_eq_none (Nat.not_lt.mp hk)]
  · exact le_refl _

/-- Owner slots have only moved forward. -/
def OwnersUp (a b : List OwnerSlot) : Prop := b.length = a.length ∧ ∀ i : Nat, (a.getD i .empty).mayBecome (b.getD i .empty)

theorem OwnerSlot.mayBecome_refl (o : OwnerSlot) : o.mayBecome o := by
  cases o <;> simp [OwnerSlot.mayBecome]

theorem OwnersUp.refl (a : List OwnerSlot) : OwnersUp a a := ⟨rfl, fun _ => OwnerSlot.mayBecome_refl _⟩
theorem OwnersUp.of_eq {a b : List OwnerSlot} (h : b = a) : OwnersUp a b := h ▸ OwnersUp.refl a

theorem OwnersUp.set {a : List OwnerSlot} {k : Nat} {o : OwnerSlot} (h : (a.getD k .empty).mayBecome o) : OwnersUp a (a.set k o) := by
  refine ⟨by simp, fun i => ?_⟩
  simp only [List.getD_eq_getElem?_getD, List.getElem?_set] at *
  split
  · subst_vars
    split
    · simpa using h
    · rename_i hk
      simp [List.getElem?_eq_none (Nat.not_lt.mp hk), OwnerSlot.mayBecome]
  · exact OwnerSlot.mayBecome_refl _

/-! ### Owner slots -/

theorem setOwner_owners (i : Nat) (o : OwnerSlot) (s : State) : (setOwner i o s).store.owners = s.store.owners.set i o := by
  simp [setOwner, id note_same]

theorem opOwnerFuse_ownersUp (t : Nat) (signer target : Byte) (hash : Digest) (sig : Rsa) (s : State) :
    OwnersUp s.store.owners (opOwnerFuse t signer target hash sig s).store.owners := by
  unfold opOwnerFuse; dsimp only; repeat' split
  all_goals try (refine OwnersUp.of_eq ?_; simp [id finish_same, id ownerAuth_same, id refuse_same]; done)
  rename_i h
  simp only [finish_same, finish_keeps]
  have hs : (ownerAuth t signer 0 hash sig s).2.store.owners = s.store.owners := by simp [id finish_same, id ownerAuth_same, id refuse_same]
  rw [setOwner_owners, hs]
  refine OwnersUp.set ?_
  have : ownerSlot (ownerAuth t signer 0 hash sig s).2 target.toNat = .empty := by simpa [id finish_same, id ownerAuth_same, id refuse_same] using h
  simp only [ownerSlot, hs] at this
  rw [this]; trivial

theorem opOwnerRevoke_ownersUp (t : Nat) (signer target : Byte) (hash : Digest) (sig : Rsa) (s : State) :
    OwnersUp s.store.owners (opOwnerRevoke t signer target hash sig s).store.owners := by
  unfold opOwnerRevoke; dsimp only; repeat' split
  all_goals try (refine OwnersUp.of_eq ?_; simp [id finish_same, id ownerAuth_same, id refuse_same]; done)
  rename_i h _
  simp only [finish_same, finish_keeps]
  have hs : (ownerAuth t signer 1 hash sig s).2.store.owners = s.store.owners := by simp [id finish_same, id ownerAuth_same, id refuse_same]
  rw [setOwner_owners, hs]
  refine OwnersUp.set ?_
  simp only [ownerSlot, hs] at h
  rw [h]; exact Or.inr rfl

/-! ### Rollback fuses -/

theorem bootFuses_raiseFuse_fusesUp (c : ImgClass) (hc : classIx c < 5) (s : State) :
    FusesUp s.store.fuses (bootFuses.raiseFuse c s).store.fuses := by
  unfold bootFuses.raiseFuse
  split
  · split
    · rename_i h
      simp only [note_same, note_keeps]
      exact FusesUp.set (by simpa [fuseOf, hc, id note_same] using le_of_lt h)
    · exact FusesUp.refl _
  · exact FusesUp.refl _

theorem foldl_fusesUp {α : Type} (l : List α) (f : State → α → State)
    (h : ∀ i ∈ l, ∀ s, FusesUp s.store.fuses (f s i).store.fuses) (s : State) :
    FusesUp s.store.fuses (l.foldl f s).store.fuses := by
  induction l generalizing s with
  | nil => exact FusesUp.refl _
  | cons a l ih => exact (h a (by simp) s).trans (ih (fun i hi => h i (by simp [hi])) _)

theorem bootFuses_fusesUp (s : State) : FusesUp s.store.fuses (bootFuses s).store.fuses := by
  unfold bootFuses; split
  · exact FusesUp.refl _
  · exact foldl_fusesUp _ _ (fun c hc s => bootFuses_raiseFuse_fusesUp c (by revert c; decide) s) s

theorem noteActivation_fusesUp (c : ImgClass) (s : State) : FusesUp s.store.fuses (noteActivation c s).store.fuses := by
  unfold noteActivation; dsimp only; split
  · rename_i h
    refine FusesUp.trans (FusesUp.of_eq ?_) (bootFuses_raiseFuse_fusesUp c h _)
    simp [id note_same]
  · exact FusesUp.of_eq (by simp [id note_same])

theorem liveEffect_fusesUp (c : ImgClass) (b : Bool) (s : State) : FusesUp s.store.fuses (liveEffect c b s).store.fuses := by
  have h : FusesUp s.store.fuses (noteActivation c (activateSlot c b s)).store.fuses :=
    (FusesUp.of_eq (by simp [id activateSlot_keeps, id activateSlot_same, id haltPair_same, id noteActivation_keeps, id
        noteActivation_same])).trans (noteActivation_fusesUp c _)
  unfold liveEffect; dsimp only; split
  all_goals exact h.trans (FusesUp.of_eq (by simp [id activateSlot_keeps, id activateSlot_same, id haltPair_same, id noteActivation_keeps,
      id noteActivation_same, id copyToMonitor_keeps]))

theorem activateNow_fusesUp (t : Nat) (u : Update) (s : State) : FusesUp s.store.fuses (activateNow t u s).store.fuses := by
  unfold activateNow; repeat' split
  all_goals try (refine FusesUp.of_eq ?_; simp [id awaitInstant_keeps, id finish_same]; done)
  simpa [id awaitInstant_keeps, id finish_same] using liveEffect_fusesUp u.cls u.slotB s

theorem activateUpdate_fusesUp (t : Nat) (timing : Byte) (u : Update) (s : State) :
    FusesUp s.store.fuses (activateUpdate t timing u s).store.fuses := by
  unfold activateUpdate
  split
  · exact FusesUp.of_eq (by simp [id accept_same, id activateNext_keeps, id finish_same, id refuse_same])
  · split
    · exact FusesUp.of_eq (by simp [id accept_same, id activateNext_keeps, id finish_same, id refuse_same])
    · split
      · exact FusesUp.of_eq (by simp [id accept_same, id activateNext_keeps, id finish_same, id refuse_same])
      · dsimp only
        split
        · exact FusesUp.of_eq (by simp [id accept_same, id activateNext_keeps, id finish_same, id refuse_same])
        · refine (FusesUp.of_eq ?_).trans (activateNow_fusesUp t u _)
          simp [id accept_same, id activateNext_keeps, id finish_same, id refuse_same]

theorem opUpdActivate_fusesUp (t : Nat) (timing : Byte) (s : State) : FusesUp s.store.fuses (opUpdActivate t timing s).store.fuses := by
  unfold opUpdActivate withUpdate; repeat' split
  all_goals try (refine FusesUp.of_eq ?_; simp [id refuse_same]; done)
  all_goals exact activateUpdate_fusesUp _ _ _ _

theorem takeover_fusesUp (h : Handover) (i : Bool) (s : State) : FusesUp s.store.fuses (takeover h i s).store.fuses := by
  unfold takeover; dsimp only; repeat' split
  all_goals try (refine FusesUp.of_eq ?_; simp [id activateSlot_keeps, id activateSlot_same, id applyStored_same, id
      bootFuses_raiseFuse_keeps, id bootFuses_raiseFuse_same, id drawFree_same, id finishOpt_keeps, id finishOpt_same, id note_keeps, id
      note_same, id setSlotSt_keeps, id releasePair_keeps, id releasePair_same]; done)
  have k := bootFuses_raiseFuse_fusesUp .main (by decide) (note 0x0A20 (srcDom 2) (beBytes 4 (versionOf (finishOpt h.tag ST_OK
    (beBytes 4 (versionOf (activateSlot .main h.slotB s) .main).toNat) (activateSlot .main h.slotB s)) .main).toNat)
    (finishOpt h.tag ST_OK (beBytes 4 (versionOf (activateSlot .main h.slotB s) .main).toNat) (activateSlot .main h.slotB s)))
  simpa [id activateSlot_keeps, id activateSlot_same, id applyStored_same, id bootFuses_raiseFuse_keeps, id bootFuses_raiseFuse_same, id
      drawFree_same, id finishOpt_keeps, id finishOpt_same, id note_keeps, id note_same, id setSlotSt_keeps, id releasePair_keeps, id releasePair_same] using k

theorem bootFinish_fusesUp (s : State) : FusesUp s.store.fuses (bootFinish s).store.fuses := by
  unfold bootFinish; dsimp only; repeat' split
  all_goals refine (bootFuses_fusesUp s).trans (FusesUp.of_eq ?_)
  all_goals simp [id bootBridges_keeps, id bootBridges_same, id bootFuses_keeps, id bootFuses_same, id initPos_same, id noteReason_keeps, id
      noteReason_same, id standbyAdvance_keeps, id standbyBegin_same, id newTrend_same]

theorem bootSteps_fusesUp (o : BootObs) (s : State) : FusesUp s.store.fuses (bootSteps o s).store.fuses := by
  unfold bootSteps; split
  · exact FusesUp.of_eq (by simp [id bootTests_keeps, id haltAt_keeps])
  · exact (FusesUp.of_eq (by simp [id bootTests_keeps, id haltAt_keeps])).trans (bootFinish_fusesUp _)

/-! ### What every command keeps -/

/-- The same units and the same queue, fuses and owner slots moved forward at most. -/
def Forward (s t : State) : Prop :=
  SameUnits s t ∧ OwnersUp s.store.owners t.store.owners ∧ FusesUp s.store.fuses t.store.fuses

theorem Keeps.forward {s t : State} (h : Keeps s t) : Forward s t :=
  ⟨h.1, OwnersUp.of_eq h.2.1, FusesUp.of_eq h.2.2.1⟩

theorem OutKeeps.forward {s : State} {o : Out} (h : OutKeeps s o) : OutAll (Forward s) o := by
  cases o with
  | next t => exact Keeps.forward h
  | fault => trivial
  | refused => trivial

theorem serve_fusesUp (hd : Hdr) (op : Nat) (p : List Byte) (b : Bool) (f : Nat → State → State)
    (h : ∀ t v, FusesUp v.store.fuses (f t v).store.fuses) (s : State) :
    FusesUp s.store.fuses (serve hd op p b f s).store.fuses := by
  have ha : (admits hd op p s).2.store.fuses = s.store.fuses := by simp [id admits_keeps, id enqueue_same, id finish_same]
  unfold serve gated; dsimp only; repeat' split
  all_goals try (refine FusesUp.of_eq ?_; simp [id admits_keeps, id enqueue_same, id finish_same]; done)
  rw [← ha]; exact h _ _

theorem serve_ownersUp (hd : Hdr) (op : Nat) (p : List Byte) (b : Bool) (f : Nat → State → State)
    (h : ∀ t v, OwnersUp v.store.owners (f t v).store.owners) (s : State) :
    OwnersUp s.store.owners (serve hd op p b f s).store.owners := by
  have ha : (admits hd op p s).2.store.owners = s.store.owners := by simp [id admits_keeps, id enqueue_same, id finish_same]
  unfold serve gated; dsimp only; repeat' split
  all_goals try (refine OwnersUp.of_eq ?_; simp [id admits_keeps, id enqueue_same, id finish_same]; done)
  rw [← ha]; exact h _ _

theorem execUpdActivate_forward (h : Hdr) (timing : Byte) (s : State) : OutAll (Forward s) (execUpdActivate h timing s) :=
  ⟨by simp [id opUpdActivate_keeps], OwnersUp.of_eq (by simp [id opUpdActivate_keeps]), serve_fusesUp _ _ _ _ _ (fun t v =>
      opUpdActivate_fusesUp t timing v) s⟩

theorem execOwnerSlotFuse_forward (h : Hdr) (signer target : Byte) (hash : Digest) (sig : Rsa) (s : State) :
    OutAll (Forward s) (execOwnerSlotFuse h signer target hash sig s) :=
  ⟨by simp [id opOwnerFuse_keeps, id opOwnerFuse_same], serve_ownersUp _ _ _ _ _ (fun t v => opOwnerFuse_ownersUp t signer target hash sig
      v) s, FusesUp.of_eq (by simp [id opOwnerFuse_keeps, id opOwnerFuse_same])⟩

theorem execOwnerSlotRevoke_forward (h : Hdr) (signer target : Byte) (hash : Digest) (sig : Rsa) (s : State) :
    OutAll (Forward s) (execOwnerSlotRevoke h signer target hash sig s) :=
  ⟨by simp [id opOwnerRevoke_keeps, id opOwnerRevoke_same], serve_ownersUp _ _ _ _ _ (fun t v => opOwnerRevoke_ownersUp t signer target hash
      sig v) s, FusesUp.of_eq (by simp [id opOwnerRevoke_keeps, id opOwnerRevoke_same])⟩

theorem execBootEntry_forward (o : BootObs) (s : State) : OutAll (Forward s) (execBootEntry o s) := by
  unfold execBootEntry
  split
  · trivial
  · split
    · refine ⟨by simp [id bootClocks_keeps, id bootClocks_same, id bootDomains_keeps, id bootDomains_same, id bootSteps_keeps, id
        bootSteps_same, id bootStraps_keeps, id bootStraps_same, id bootTime_keeps, id bootTime_same, id bootUnits_keeps, id bootUnits_same, id
        flushBuffer_keeps, id flushBuffer_same], OwnersUp.of_eq (by simp [id bootClocks_keeps, id bootClocks_same, id bootDomains_keeps, id
        bootDomains_same, id bootSteps_keeps, id bootSteps_same, id bootStraps_keeps, id bootStraps_same, id bootTime_keeps, id bootTime_same,
        id bootUnits_keeps, id bootUnits_same, id flushBuffer_keeps, id flushBuffer_same]), ?_⟩
      exact FusesUp.trans (FusesUp.of_eq (by simp [id bootClocks_keeps, id bootClocks_same, id bootDomains_keeps, id bootDomains_same, id
          bootSteps_keeps, id bootSteps_same, id bootStraps_keeps, id bootStraps_same, id bootTime_keeps, id bootTime_same, id bootUnits_keeps,
          id bootUnits_same, id flushBuffer_keeps, id flushBuffer_same]))
              (bootSteps_fusesUp _ _)
    · exact Keeps.forward (by simp [id bootClocks_keeps, id bootClocks_same, id bootDomains_keeps, id bootDomains_same, id bootSteps_keeps,
        id bootSteps_same, id bootStraps_keeps, id bootStraps_same, id bootTime_keeps, id bootTime_same, id bootUnits_keeps, id bootUnits_same,
        id flushBuffer_keeps, id flushBuffer_same])

theorem execHandoverTakeover_forward (inj : Nat) (clean : Bool) (s : State) :
    OutAll (Forward s) (execHandoverTakeover inj clean s) := by
  unfold execHandoverTakeover
  repeat' split
  · exact ⟨by simp [id takeover_keeps, id takeover_same], OwnersUp.of_eq (by simp [id takeover_keeps, id takeover_same]), takeover_fusesUp _ _ _⟩
  · exact Keeps.forward (by simp [id takeover_keeps, id takeover_same])
  · exact Keeps.forward (by simp [id takeover_keeps, id takeover_same])

theorem execGptpSync_forward (offset : Int) (s : State) : OutAll (Forward s) (execGptpSync offset s) := by
  unfold execGptpSync
  try dsimp only
  repeat' split
  all_goals simp only [outAll_next, outAll_fault]
  all_goals exact ⟨by simp [id correctTime_keeps, id correctTime_same], OwnersUp.of_eq (by simp
      [id correctTime_keeps, id correctTime_same]), FusesUp.of_eq (by simp [id correctTime_keeps, id correctTime_same])⟩

theorem execRingFrameReceive_forward (port : RingPort) (f : RingFrame) (s : State) : OutAll (Forward s) (execRingFrameReceive port f s) := by
  unfold execRingFrameReceive
  try dsimp only
  repeat' split
  all_goals simp only [outAll_next, outAll_fault]
  all_goals exact ⟨by simp [id ringFrame_keeps, id ringFrame_same], OwnersUp.of_eq (by simp [id ringFrame_keeps, id ringFrame_same]),
      FusesUp.of_eq (by simp [id ringFrame_keeps, id ringFrame_same])⟩

theorem execSupplyLowReset_forward (sup : Supply) (mv us : Nat) (s : State) : OutAll (Forward s) (execSupplyLowReset sup mv us s) := by
  unfold execSupplyLowReset
  try dsimp only
  repeat' split
  all_goals simp only [outAll_next, outAll_fault]
  all_goals exact ⟨by simp [id enterBoot_keeps, id enterBoot_same], OwnersUp.of_eq (by simp [id enterBoot_keeps, id enterBoot_same]),
      FusesUp.of_eq (by simp [id enterBoot_keeps, id enterBoot_same])⟩

theorem execRtcAlarm_forward  (s : State) : OutAll (Forward s) (execRtcAlarm  s) := by
  unfold execRtcAlarm
  try dsimp only
  repeat' split
  all_goals simp only [outAll_next, outAll_fault]
  all_goals exact ⟨by simp [id enterBoot_keeps, id enterBoot_same], OwnersUp.of_eq (by simp [id enterBoot_keeps, id enterBoot_same]),
      FusesUp.of_eq (by simp [id enterBoot_keeps, id enterBoot_same])⟩

theorem execCanWake_forward (ev : CanWakeEv) (s : State) : OutAll (Forward s) (execCanWake ev s) := by
  unfold execCanWake
  try dsimp only
  repeat' split
  all_goals simp only [outAll_next, outAll_fault]
  all_goals exact ⟨by simp [id enterBoot_keeps, id enterBoot_same, id returnD5_keeps, id returnD5_same], OwnersUp.of_eq (by simp [id enterBoot_keeps, id enterBoot_same, id returnD5_keeps, id returnD5_same]),
      FusesUp.of_eq (by simp [id enterBoot_keeps, id enterBoot_same, id returnD5_keeps, id returnD5_same])⟩

theorem execKl30Return_forward (mv us : Nat) (s : State) : OutAll (Forward s) (execKl30Return mv us s) := by
  unfold execKl30Return
  try dsimp only
  repeat' split
  all_goals simp only [outAll_next, outAll_fault]
  all_goals exact ⟨by simp [id enterBoot_keeps, id enterBoot_same, id note_keeps, id note_same], OwnersUp.of_eq (by simp [id
      enterBoot_keeps, id enterBoot_same, id note_keeps, id note_same]),
          FusesUp.of_eq (by simp [id enterBoot_keeps, id enterBoot_same, id note_keeps, id note_same])⟩

theorem execKl30Apply_forward (k : Bool) (s : State) : OutAll (Forward s) (execKl30Apply k s) := by
  unfold execKl30Apply
  try dsimp only
  repeat' split
  all_goals simp only [outAll_next, outAll_fault]
  all_goals exact ⟨by simp [id enterBoot_keeps, id enterBoot_same], OwnersUp.of_eq (by simp [id enterBoot_keeps, id enterBoot_same]),
      FusesUp.of_eq (by simp [id enterBoot_keeps, id enterBoot_same])⟩

theorem execKl15Rise_forward  (s : State) : OutAll (Forward s) (execKl15Rise  s) := by
  unfold execKl15Rise
  try dsimp only
  repeat' split
  all_goals simp only [outAll_next, outAll_fault]
  all_goals exact ⟨by simp [id kl15Edge_keeps, id kl15Edge_same], OwnersUp.of_eq (by simp [id kl15Edge_keeps, id kl15Edge_same]),
      FusesUp.of_eq (by simp [id kl15Edge_keeps, id kl15Edge_same])⟩

theorem execKl15KeepHigh_forward (pin : WakePin) (edge : Bool) (s : State) : OutAll (Forward s) (execKl15KeepHigh pin edge s) := by
  unfold execKl15KeepHigh
  try dsimp only
  repeat' split
  all_goals simp only [outAll_next, outAll_fault]
  all_goals exact ⟨by simp [id abandonStandby_keeps, id abandonStandby_same, id kl15Edge_keeps, id kl15Edge_same], OwnersUp.of_eq (by simp
      [id abandonStandby_keeps, id abandonStandby_same, id kl15Edge_keeps, id kl15Edge_same]), FusesUp.of_eq (by simp [id abandonStandby_keeps,
      id abandonStandby_same, id kl15Edge_keeps, id kl15Edge_same])⟩

theorem execKl15KeepLowCount_forward (ticks : Nat) (s : State) : OutAll (Forward s) (execKl15KeepLowCount ticks s) := by
  unfold execKl15KeepLowCount
  try dsimp only
  repeat' split
  all_goals simp only [outAll_next, outAll_fault]
  all_goals exact ⟨by simp [id standbyHalted_keeps, id standbyHalted_same, id powerDown_keeps, id powerDown_same, id standbyAdvance_keeps, id standbyAdvance_same, id standbyBegin_keeps,
      id standbyBegin_same], OwnersUp.of_eq (by simp [id standbyHalted_keeps, id standbyHalted_same, id powerDown_keeps, id powerDown_same, id standbyAdvance_keeps, id standbyAdvance_same, id
      standbyBegin_keeps, id standbyBegin_same]), FusesUp.of_eq (by simp [id standbyHalted_keeps, id standbyHalted_same, id powerDown_keeps, id powerDown_same, id standbyAdvance_keeps, id
      standbyAdvance_same, id standbyBegin_keeps, id standbyBegin_same])⟩

theorem execKl30LossConfirmed_forward (ticks : Nat) (s : State) : OutAll (Forward s) (execKl30LossConfirmed ticks s) := by
  unfold execKl30LossConfirmed
  try dsimp only
  repeat' split
  all_goals simp only [outAll_next, outAll_fault]
  all_goals exact ⟨by simp [id commandCtd_keeps, id commandCtd_same, id powerDown_keeps, id powerDown_same, id raiseFault_keeps, id
      raiseFault_same], OwnersUp.of_eq (by simp [id commandCtd_keeps, id commandCtd_same, id powerDown_keeps, id powerDown_same, id
      raiseFault_keeps, id raiseFault_same]), FusesUp.of_eq (by simp [id commandCtd_keeps, id commandCtd_same, id powerDown_keeps, id
      powerDown_same, id raiseFault_keeps, id raiseFault_same])⟩

theorem execHoldupEnd_forward (us : Nat) (s : State) : OutAll (Forward s) (execHoldupEnd us s) := by
  unfold execHoldupEnd
  try dsimp only
  repeat' split
  all_goals simp only [outAll_next, outAll_fault]
  all_goals exact ⟨by simp [id goOff_keeps, id goOff_same, id powerDown_keeps, id powerDown_same], OwnersUp.of_eq (by simp [id goOff_keeps,
      id goOff_same, id powerDown_keeps, id powerDown_same]),
          FusesUp.of_eq (by simp [id goOff_keeps, id goOff_same, id powerDown_keeps, id powerDown_same])⟩

theorem execRestart_forward (vio : Bool) (second : Byte) (s : State) : OutAll (Forward s) (execRestart vio second s) := by
  unfold execRestart
  try dsimp only
  repeat' split
  all_goals simp only [outAll_next, outAll_fault]
  all_goals exact ⟨by simp [id enterBoot_keeps, id enterBoot_same], OwnersUp.of_eq (by simp [id enterBoot_keeps, id enterBoot_same]),
      FusesUp.of_eq (by simp [id enterBoot_keeps, id enterBoot_same])⟩

theorem execStandbyEntryResume_forward  (s : State) : OutAll (Forward s) (execStandbyEntryResume  s) := by
  unfold execStandbyEntryResume
  try dsimp only
  repeat' split
  all_goals simp only [outAll_next, outAll_fault]
  all_goals exact ⟨by simp [id standbyAdvance_keeps, id standbyAdvance_same],
      OwnersUp.of_eq (by simp [id standbyAdvance_keeps, id standbyAdvance_same]), FusesUp.of_eq (by simp [id standbyAdvance_keeps, id
          standbyAdvance_same])⟩

theorem execStandbyEnter_forward (h : Hdr) (depth timing wake : Byte) (s : State) : OutAll (Forward s) (execStandbyEnter h depth timing wake s) := by
  unfold execStandbyEnter
  try dsimp only
  repeat' split
  all_goals simp only [outAll_next, outAll_fault]
  all_goals exact ⟨by simp [id opStandbyEnter_keeps, id opStandbyEnter_same],
      OwnersUp.of_eq (by simp [id opStandbyEnter_keeps, id opStandbyEnter_same]), FusesUp.of_eq (by simp [id opStandbyEnter_keeps, id
          opStandbyEnter_same])⟩

theorem execFreezeTake_forward (o : Byte) (s : State) : OutAll (Forward s) (execFreezeTake o s) := by
  unfold execFreezeTake
  try dsimp only
  repeat' split
  all_goals simp only [outAll_next, outAll_fault]
  all_goals exact ⟨by simp [id takeFreeze_keeps, id takeFreeze_same], OwnersUp.of_eq (by simp [id takeFreeze_keeps, id takeFreeze_same]),
      FusesUp.of_eq (by simp [id takeFreeze_keeps, id takeFreeze_same])⟩

end Sys2Proof.Machine
end

