-- ==== Sys2Proof/Laws/Dispatching.lean ====
section
/-! SUPPORT. DISPATCH runs the meaning of whichever opcode waits: what every opcode's meaning keeps, and so what DISPATCH keeps. -/

namespace Sys2Proof.Machine

set_option linter.unusedSimpArgs false
set_option linter.unusedTactic false

theorem FusesUp.trans_eq {a b c : List Nat} (h : FusesUp a b) (g : c = b) : FusesUp a c := g ▸ h

theorem OwnerSlot.mayBecome_trans {a b c : OwnerSlot} (h : a.mayBecome b) (g : b.mayBecome c) : a.mayBecome c := by
  cases a <;> cases b <;> cases c <;> simp_all [OwnerSlot.mayBecome]

theorem OwnersUp.trans {a b c : List OwnerSlot} (h : OwnersUp a b) (g : OwnersUp b c) : OwnersUp a c :=
  ⟨g.1.trans h.1, fun i => OwnerSlot.mayBecome_trans (h.2 i) (g.2 i)⟩

theorem Forward.trans {s t u : State} (h : Forward s t) (g : Forward t u) : Forward s u := by
  refine ⟨?_, h.2.1.trans g.2.1, h.2.2.trans g.2.2⟩
  have a := h.1
  have b := g.1
  simp only [SameUnits] at *
  simp only [a, b, and_self]

/-- What the meaning of an opcode keeps: moved forward at most, and the pins, the device time and the core mode as
they were. -/
def CallKeeps (s t : State) : Prop :=
  Forward s t ∧ t.pins = s.pins ∧ t.time.dev = s.time.dev ∧ t.dev.split = s.dev.split

theorem CallKeeps.trans {s t u : State} (h : CallKeeps s t) (g : CallKeeps t u) : CallKeeps s u :=
  ⟨h.1.trans g.1, g.2.1.trans h.2.1, g.2.2.1.trans h.2.2.1, g.2.2.2.trans h.2.2.2⟩

theorem CallKeeps.of_keeps {s t : State} (h : Keeps s t) (h1 : t.pins = s.pins) : CallKeeps s t :=
  ⟨h.forward, h1, h.2.2.2.1, h.2.2.2.2.1⟩

theorem CallKeeps.refl (s : State) : CallKeeps s s := CallKeeps.of_keeps (by simp) rfl

theorem fixed_keeps {n : Nat} {p : List Byte} {f : Nat → State → State} (h : ∀ t v, CallKeeps v (f t v)) {c : Call}
    (hc : fixed n p f = some c) (t : Nat) (v : State) : CallKeeps v (c.2 t v) := by
  unfold fixed at hc
  split at hc
  · simp only [Option.some.injEq] at hc; subst hc; exact h t v
  · simp at hc

theorem some_keeps {b : Bool} {f : Nat → State → State} (h : ∀ t v, CallKeeps v (f t v)) {c : Call}
    (hc : some (b, f) = some c) (t : Nat) (v : State) : CallKeeps v (c.2 t v) := by
  simp only [Option.some.injEq] at hc; subst hc; exact h t v

theorem opIdentify_call (t : Nat) (s : State) : CallKeeps s (opIdentify t s) :=
  CallKeeps.of_keeps (opIdentify_keeps t s) (by simp [id opIdentify_same])

theorem opGetState_call (t : Nat) (s : State) : CallKeeps s (opGetState t s) :=
  CallKeeps.of_keeps (opGetState_keeps t s) (by simp [id opGetState_same])

theorem opServiceLeave_call (t : Nat) (s : State) : CallKeeps s (opServiceLeave t s) :=
  CallKeeps.of_keeps (opServiceLeave_keeps t s) (by simp [id opServiceLeave_same])

theorem opServiceEnter_call (t : Nat) (s : State) : CallKeeps s (opServiceEnter t s) :=
  CallKeeps.of_keeps (opServiceEnter_keeps t s) (by simp [id opServiceEnter_same])

theorem badForm_call (t : Nat) (s : State) : CallKeeps s (badForm t s) :=
  CallKeeps.of_keeps (refuse_keeps t _ _ _ _ s) (by simp [badForm, id refuse_same])

theorem opReset_call (t : Nat) (arg : Byte) (s : State) : CallKeeps s (opReset t arg s) :=
  CallKeeps.of_keeps (opReset_keeps t arg s) (by simp [id opReset_same])

theorem opCtxQuery_call (t : Nat) (tag : Byte) (s : State) : CallKeeps s (opCtxQuery t tag s) :=
  CallKeeps.of_keeps (opCtxQuery_keeps t tag s) (by simp [id opCtxQuery_same])

theorem opArm_call (t : Nat) (machine : Byte) (s : State) : CallKeeps s (opArm t machine s) :=
  CallKeeps.of_keeps (opArm_keeps t machine s) (by simp [id opArm_same])

theorem opDisarm_call (t : Nat) (machine : Byte) (s : State) : CallKeeps s (opDisarm t machine s) :=
  CallKeeps.of_keeps (opDisarm_keeps t machine s) (by simp [id opDisarm_same])

theorem opTorqueSet_call (t : Nat) (machine : Byte) (torque : U32) (s : State) : CallKeeps s (opTorqueSet t machine torque s) :=
  CallKeeps.of_keeps (opTorqueSet_keeps t machine torque s) (by simp [id opTorqueSet_same])

theorem opSpeedSet_call (t : Nat) (machine : Byte) (speed : U32) (s : State) : CallKeeps s (opSpeedSet t machine speed s) :=
  CallKeeps.of_keeps (opSpeedSet_keeps t machine speed s) (by simp [id opSpeedSet_same])

theorem opSafeState_call (t : Nat) (scope index : Byte) (s : State) : CallKeeps s (opSafeState t scope index s) :=
  CallKeeps.of_keeps (opSafeState_keeps t scope index s) (by simp [id opSafeState_same])

theorem opStart_call (t : Nat) (machine dir : Byte) (s : State) : CallKeeps s (opStart t machine dir s) :=
  CallKeeps.of_keeps (opStart_keeps t machine dir s) (by simp [id opStart_same])

theorem opPluckTest_call (t : Nat) (machine : Byte) (s : State) : CallKeeps s (opPluckTest t machine s) :=
  CallKeeps.of_keeps (opPluckTest_keeps t machine s) (by simp [id opPluckTest_same])

theorem opRetire_call (t : Nat) (kind index : Byte) (s : State) : CallKeeps s (opRetire t kind index s) :=
  CallKeeps.of_keeps (opRetire_keeps t kind index s) (by simp [id opRetire_same])

theorem opCmpArm_call (t : Nat) (unit form : Byte) (target : U32) (s : State) : CallKeeps s (opCmpArm t unit form target s) :=
  CallKeeps.of_keeps (opCmpArm_keeps t unit form target s) (by simp [id opCmpArm_same])

theorem opCmpStatus_call (t : Nat) (unit : Byte) (s : State) : CallKeeps s (opCmpStatus t unit s) :=
  CallKeeps.of_keeps (opCmpStatus_keeps t unit s) (by simp [id opCmpStatus_same])

theorem opRemap_call (t : Nat) (kind retired repl : Byte) (s : State) : CallKeeps s (opRemap t kind retired repl s) :=
  CallKeeps.of_keeps (opRemap_keeps t kind retired repl s) (by simp [id opRemap_same])

theorem noCount_call (t : Nat) (s : State) : CallKeeps s (noCount t s) :=
  CallKeeps.of_keeps (noCount_keeps t s) (by simp [id noCount_same])

theorem opParamRead_call (t : Nat) (source : Byte) (ids : List U16) (s : State) : CallKeeps s (opParamRead t source ids s) :=
  CallKeeps.of_keeps (opParamRead_keeps t source ids s) (by simp [id opParamRead_same])

theorem opParamWrite_call (t : Nat) (items : List Item) (s : State) : CallKeeps s (opParamWrite t items s) :=
  CallKeeps.of_keeps (opParamWrite_keeps t items s) (by simp [id opParamWrite_same])

theorem opCommitApply_call (t : Nat) (slot : Byte) (serial : U32) (digest : Digest) (sig : Rsa) (s : State) : CallKeeps s (opCommitApply t slot serial digest sig s) :=
  CallKeeps.of_keeps (opCommitApply_keeps t slot serial digest sig s) (by simp [id opCommitApply_same])

theorem opCommitPrepare_call (t : Nat) (s : State) : CallKeeps s (opCommitPrepare t s) :=
  CallKeeps.of_keeps (opCommitPrepare_keeps t s) (by simp [id opCommitPrepare_same])

theorem opCommitDiscard_call (t : Nat) (s : State) : CallKeeps s (opCommitDiscard t s) :=
  CallKeeps.of_keeps (opCommitDiscard_keeps t s) (by simp [id opCommitDiscard_same])

theorem opSetSelect_call (t : Nat) (arg : Byte) (s : State) : CallKeeps s (opSetSelect t arg s) :=
  CallKeeps.of_keeps (opSetSelect_keeps t arg s) (by simp [id opSetSelect_same])

theorem opCalRead_call (t : Nat) (kind inst : U16) (origin age : Byte) (s : State) : CallKeeps s (opCalRead t kind inst origin age s) :=
  CallKeeps.of_keeps (opCalRead_keeps t kind inst origin age s) (by simp [id opCalRead_same])

theorem opCalRecal_call (t : Nat) (target index : Byte) (s : State) : CallKeeps s (opCalRecal t target index s) :=
  CallKeeps.of_keeps (opCalRecal_keeps t target index s) (by simp [id opCalRecal_same])

theorem opUpdBegin_call (t : Nat) (cls : U16) (total : U32) (m : Manifest) (s : State) : CallKeeps s (opUpdBegin t cls total m s) :=
  CallKeeps.of_keeps (opUpdBegin_keeps t cls total m s) (by simp [id opUpdBegin_same])

theorem opUpdChunk_call (t : Nat) (offset : U32) (data : List Byte) (s : State) : CallKeeps s (opUpdChunk t offset data s) :=
  CallKeeps.of_keeps (opUpdChunk_keeps t offset data s) (by simp [id opUpdChunk_same])

theorem opUpdVerify_call (t : Nat) (s : State) : CallKeeps s (opUpdVerify t s) :=
  CallKeeps.of_keeps (opUpdVerify_keeps t s) (by simp [id opUpdVerify_same])

theorem opUpdActivate_call (t : Nat) (timing : Byte) (s : State) : CallKeeps s (opUpdActivate t timing s):= by
  have h := opUpdActivate_keeps t timing s
  exact ⟨⟨h.1, OwnersUp.of_eq h.2.1, opUpdActivate_fusesUp _ _ _⟩, by simp [id opUpdActivate_same], h.2.2.1, h.2.2.2.1⟩

theorem opUpdHandover_call (t : Nat) (s : State) : CallKeeps s (opUpdHandover t s) :=
  CallKeeps.of_keeps (opUpdHandover_keeps t s) (by simp [id opUpdHandover_same])

theorem opRecInfo_call (t : Nat) (s : State) : CallKeeps s (opRecInfo t s) :=
  CallKeeps.of_keeps (opRecInfo_keeps t s) (by simp [id opRecInfo_same])

theorem opRecRead_call (t : Nat) (first : Esn) (count : U16) (s : State) : CallKeeps s (opRecRead t first count s) :=
  CallKeeps.of_keeps (opRecRead_keeps t first count s) (by simp [id opRecRead_same])

theorem opTrendRead_call (t : Nat) (channel count : U16) (time : U64) (s : State) : CallKeeps s (opTrendRead t channel count time s) :=
  CallKeeps.of_keeps (opTrendRead_keeps t channel count time s) (by simp [id opTrendRead_same])

theorem opAttest_call (t : Nat) (nonce : Digest) (s : State) : CallKeeps s (opAttest t nonce s) :=
  CallKeeps.of_keeps (opAttest_keeps t nonce s) (by simp [id opAttest_same])

theorem opSessionOpen_call (t : Nat) (s : State) : CallKeeps s (opSessionOpen t s) :=
  CallKeeps.of_keeps (opSessionOpen_keeps t s) (by simp [id opSessionOpen_same])

theorem opSessionClose_call (t : Nat) (s : State) : CallKeeps s (opSessionClose t s) :=
  CallKeeps.of_keeps (opSessionClose_keeps t s) (by simp [id opSessionClose_same])

theorem opKeyInfo_call (t : Nat) (part : Byte) (s : State) : CallKeeps s (opKeyInfo t part s) :=
  CallKeeps.of_keeps (opKeyInfo_keeps t part s) (by simp [id opKeyInfo_same])

theorem opOwnerFuse_call (t : Nat) (signer target : Byte) (hash : Digest) (sig : Rsa) (s : State) : CallKeeps s (opOwnerFuse t signer target hash sig s):= by
  have h := opOwnerFuse_keeps t signer target hash sig s
  exact ⟨⟨h.1, opOwnerFuse_ownersUp _ _ _ _ _ _, FusesUp.of_eq h.2.1⟩, by simp [id opOwnerFuse_same], h.2.2.1, h.2.2.2.1⟩

theorem opOwnerRevoke_call (t : Nat) (signer target : Byte) (hash : Digest) (sig : Rsa) (s : State) : CallKeeps s (opOwnerRevoke t signer target hash sig s):= by
  have h := opOwnerRevoke_keeps t signer target hash sig s
  exact ⟨⟨h.1, opOwnerRevoke_ownersUp _ _ _ _ _ _, FusesUp.of_eq h.2.1⟩, by simp [id opOwnerRevoke_same], h.2.2.1, h.2.2.2.1⟩

theorem opCascStatus_call (t : Nat) (s : State) : CallKeeps s (opCascStatus t s) :=
  CallKeeps.of_keeps (opCascStatus_keeps t s) (by simp [id opCascStatus_same])

theorem opRegRead_call (t : Nat) (addr : U32) (words : U16) (s : State) : CallKeeps s (opRegRead t addr words s) :=
  CallKeeps.of_keeps (opRegRead_keeps t addr words s) (by simp [id opRegRead_same])

theorem opRegWrite_call (t : Nat) (addr mask value : U32) (s : State) : CallKeeps s (opRegWrite t addr mask value s) :=
  CallKeeps.of_keeps (opRegWrite_keeps t addr mask value s) (by simp [id opRegWrite_same])

theorem opFreqMeasure_call (t : Nat) (inSel refSel : Byte) (nRef : U32) (s : State) : CallKeeps s (opFreqMeasure t inSel refSel nRef s) :=
  CallKeeps.of_keeps (opFreqMeasure_keeps t inSel refSel nRef s) (by simp [id opFreqMeasure_same])

theorem opFreeze_call (t : Nat) (s : State) : CallKeeps s (opFreeze t s) :=
  CallKeeps.of_keeps (opFreeze_keeps t s) (by simp [id opFreeze_same])

theorem opSnapshotInfo_call (t : Nat) (s : State) : CallKeeps s (opSnapshotInfo t s) :=
  CallKeeps.of_keeps (opSnapshotInfo_keeps t s) (by simp [id opSnapshotInfo_same])

theorem opDomainSet_call (t : Nat) (domain request : Byte) (hold : U16) (s : State) : CallKeeps s (opDomainSet t domain request hold s) :=
  CallKeeps.of_keeps (opDomainSet_keeps t domain request hold s) (by simp [id opDomainSet_same])

theorem opOpPoint_call (t : Nat) (pair point : Byte) (s : State) : CallKeeps s (opOpPoint t pair point s) :=
  CallKeeps.of_keeps (opOpPoint_keeps t pair point s) (by simp [id opOpPoint_same])

theorem opStandbyEnter_call (t : Nat) (depth timing canWake : Byte) (s : State) : CallKeeps s (opStandbyEnter t depth timing canWake s):= by
  have h := opStandbyEnter_keeps t depth timing canWake s
  exact ⟨⟨h.1, OwnersUp.of_eq h.2.1, FusesUp.of_eq h.2.2.1⟩, by simp [id opStandbyEnter_same], h.2.2.2.1, h.2.2.2.2⟩

theorem opRtcSet_call (t : Nat) (count : BitVec 48) (s : State) : CallKeeps s (opRtcSet t count s) :=
  CallKeeps.of_keeps (opRtcSet_keeps t count s) (by simp [id opRtcSet_same])

theorem opAlarmSet_call (t : Nat) (alarm : BitVec 48) (armed : Byte) (s : State) : CallKeeps s (opAlarmSet t alarm armed s) :=
  CallKeeps.of_keeps (opAlarmSet_keeps t alarm armed s) (by simp [id opAlarmSet_same])

theorem opLockoutClear_call (t : Nat) (esn : Esn) (slot : Byte) (sig : Rsa) (s : State) : CallKeeps s (opLockoutClear t esn slot sig s) :=
  CallKeeps.of_keeps (opLockoutClear_keeps t esn slot sig s) (by simp [id opLockoutClear_same])

theorem opStoStatus_call (t : Nat) (s : State) : CallKeeps s (opStoStatus t s) :=
  CallKeeps.of_keeps (opStoStatus_keeps t s) (by simp [id opStoStatus_same])

theorem opContactorSet_call (t : Nat) (mask command discharge : Byte) (s : State) : CallKeeps s (opContactorSet t mask command discharge s) :=
  CallKeeps.of_keeps (opContactorSet_keeps t mask command discharge s) (by simp [id opContactorSet_same])

theorem opLockoutList_call (t : Nat) (s : State) : CallKeeps s (opLockoutList t s) :=
  CallKeeps.of_keeps (opLockoutList_keeps t s) (by simp [id opLockoutList_same])

theorem callDrive_keeps {op : Nat} {p : List Byte} {c : Call} (hc : callDrive op p = some c) (t : Nat) (v : State) :
    CallKeeps v (c.2 t v) := by
  unfold callDrive at hc
  dsimp only at hc
  split at hc
  all_goals refine fixed_keeps (fun t v => ?_) hc t v
  all_goals repeat' split
  all_goals with_reducible first
    | exact opIdentify_call _ _
    | exact opGetState_call _ _
    | exact opServiceLeave_call _ _
    | exact opServiceEnter_call _ _
    | exact badForm_call _ _
    | exact opReset_call _ _ _
    | exact opCtxQuery_call _ _ _
    | exact opArm_call _ _ _
    | exact opDisarm_call _ _ _
    | exact opTorqueSet_call _ _ _ _
    | exact opSpeedSet_call _ _ _ _
    | exact opSafeState_call _ _ _ _
    | exact opStart_call _ _ _ _
    | exact opPluckTest_call _ _ _
    | exact opRetire_call _ _ _ _
    | exact opCmpArm_call _ _ _ _ _
    | exact opCmpStatus_call _ _ _
    | exact opRemap_call _ _ _ _ _

theorem callSets_keeps {op : Nat} {p : List Byte} {s : State} {c : Call} (hc : callSets op p s = some c) (t : Nat) (v : State) :
    CallKeeps v (c.2 t v) := by
  unfold callSets at hc
  dsimp only at hc
  repeat' split at hc
  all_goals try (simp at hc; done)
  all_goals first
    | refine some_keeps (fun t v => ?_) hc t v
    | refine fixed_keeps (fun t v => ?_) hc t v
  all_goals repeat' split
  all_goals with_reducible first
    | exact noCount_call _ _
    | exact opParamRead_call _ _ _ _
    | exact opParamWrite_call _ _ _
    | exact opCommitApply_call _ _ _ _ _ _
    | exact opCommitPrepare_call _ _
    | exact opCommitDiscard_call _ _
    | exact badForm_call _ _
    | exact opSetSelect_call _ _ _
    | exact opCalRead_call _ _ _ _ _ _
    | exact opCalRecal_call _ _ _ _
    | exact opUpdBegin_call _ _ _ _ _
    | exact opUpdChunk_call _ _ _ _
    | exact opUpdVerify_call _ _
    | exact opUpdActivate_call _ _ _
    | exact opUpdHandover_call _ _

theorem callTrust_keeps {op : Nat} {p : List Byte} {c : Call} (hc : callTrust op p = some c) (t : Nat) (v : State) :
    CallKeeps v (c.2 t v) := by
  unfold callTrust at hc
  dsimp only at hc
  split at hc
  all_goals refine fixed_keeps (fun t v => ?_) hc t v
  all_goals repeat' split
  all_goals with_reducible first
    | exact opRecInfo_call _ _
    | exact opRecRead_call _ _ _ _
    | exact opTrendRead_call _ _ _ _ _
    | exact opAttest_call _ _ _
    | exact opSessionOpen_call _ _
    | exact opSessionClose_call _ _
    | exact opKeyInfo_call _ _ _
    | exact opOwnerFuse_call _ _ _ _ _ _
    | exact opOwnerRevoke_call _ _ _ _ _ _
    | exact badForm_call _ _
    | exact opCascStatus_call _ _

theorem callPower_keeps {op : Nat} {p : List Byte} {c : Call} (hc : callPower op p = some c) (t : Nat) (v : State) :
    CallKeeps v (c.2 t v) := by
  unfold callPower at hc
  dsimp only at hc
  split at hc
  all_goals refine fixed_keeps (fun t v => ?_) hc t v
  all_goals with_reducible first
    | exact opRegRead_call _ _ _ _
    | exact opRegWrite_call _ _ _ _ _
    | exact opFreqMeasure_call _ _ _ _ _
    | exact opFreeze_call _ _
    | exact opSnapshotInfo_call _ _
    | exact opDomainSet_call _ _ _ _ _
    | exact opOpPoint_call _ _ _ _
    | exact opStandbyEnter_call _ _ _ _ _
    | exact opRtcSet_call _ _ _
    | exact opAlarmSet_call _ _ _ _
    | exact opLockoutClear_call _ _ _ _ _
    | exact opStoStatus_call _ _
    | exact opContactorSet_call _ _ _ _ _
    | exact opLockoutList_call _ _

theorem callOf_keeps {op : Nat} {p : List Byte} {s : State} {c : Call} (hc : callOf op p s = some c) (t : Nat) (v : State) :
    CallKeeps v (c.2 t v) := by
  unfold callOf at hc
  repeat' split at hc
  · exact callDrive_keeps hc t v
  · exact callSets_keeps hc t v
  · exact callTrust_keeps hc t v
  · exact callPower_keeps hc t v

theorem gated_callKeeps (op : Nat) (b : Bool) (t : Nat) {f : State → State} (h : ∀ v, CallKeeps v (f v)) (s : State) :
    CallKeeps s (gated op b t f s) := by
  unfold gated
  split
  · exact CallKeeps.of_keeps (by simp [id finish_keeps]) (by simp [id finish_same])
  · exact h s

theorem runContext_callKeeps (t : Nat) (s : State) : CallKeeps s (runContext t s) := by
  unfold runContext
  dsimp only
  split
  · rename_i hc
    exact gated_callKeeps _ _ _ (fun v => callOf_keeps hc t v) s
  · exact CallKeeps.of_keeps (by simp [id refuse_keeps]) (by simp [id refuse_same])

theorem runEntry_callKeeps (t : Nat) (s : State) : CallKeeps s (runEntry t s) := by
  unfold runEntry
  split
  · exact runContext_callKeeps _ s
  · exact CallKeeps.refl s

theorem takeNext_callKeeps (s : State) : CallKeeps s (takeNext s) := by
  unfold takeNext
  split
  · refine CallKeeps.trans ?_ (runEntry_callKeeps _ _)
    exact CallKeeps.of_keeps (by simp) (by simp)
  · refine CallKeeps.trans ?_ (runEntry_callKeeps _ _)
    exact CallKeeps.of_keeps (by simp) (by simp)
  · exact CallKeeps.refl s

theorem execDispatch_callKeeps (s : State) : OutAll (CallKeeps s) (execDispatch s) := by
  unfold execDispatch
  split
  · exact takeNext_callKeeps s
  · exact CallKeeps.refl s

end Sys2Proof.Machine
end

