-- ==== Sys2Proof/Laws/Exec.lean ====
section
/-! SUPPORT. What every command does to the shape of a state and to what is one-way. -/

namespace Sys2Proof.Machine

/-- Every command keeps the units and the queue, and moves fuses and owner slots forward at most. -/
theorem exec_forward (c : Instr) (s : State) : OutAll (Forward s) (exec c s) := by
  cases c with
  | identify a0 => exact OutKeeps.forward (execIdentify_keeps a0 s)
  | getState a0 => exact OutKeeps.forward (execGetState_keeps a0 s)
  | setOpModeEnter a0 => exact OutKeeps.forward (execSetOpModeEnter_keeps a0 s)
  | setOpModeLeave a0 => exact OutKeeps.forward (execSetOpModeLeave_keeps a0 s)
  | reset a0 a1 => exact OutKeeps.forward (execReset_keeps a0 a1 s)
  | ctxQuery a0 a1 => exact OutKeeps.forward (execCtxQuery_keeps a0 a1 s)
  | arm a0 a1 => exact OutKeeps.forward (execArm_keeps a0 a1 s)
  | disarm a0 a1 => exact OutKeeps.forward (execDisarm_keeps a0 a1 s)
  | torqueSet a0 a1 a2 => exact OutKeeps.forward (execTorqueSet_keeps a0 a1 a2 s)
  | speedSet a0 a1 a2 => exact OutKeeps.forward (execSpeedSet_keeps a0 a1 a2 s)
  | safeState a0 a1 a2 => exact OutKeeps.forward (execSafeState_keeps a0 a1 a2 s)
  | start a0 a1 a2 => exact OutKeeps.forward (execStart_keeps a0 a1 a2 s)
  | pluckTest a0 a1 => exact OutKeeps.forward (execPluckTest_keeps a0 a1 s)
  | retire a0 a1 a2 => exact OutKeeps.forward (execRetire_keeps a0 a1 a2 s)
  | cmpArm a0 a1 a2 a3 => exact OutKeeps.forward (execCmpArm_keeps a0 a1 a2 a3 s)
  | cmpStatus a0 a1 => exact OutKeeps.forward (execCmpStatus_keeps a0 a1 s)
  | remap a0 a1 a2 a3 => exact OutKeeps.forward (execRemap_keeps a0 a1 a2 a3 s)
  | paramRead a0 a1 a2 => exact OutKeeps.forward (execParamRead_keeps a0 a1 a2 s)
  | paramWrite a0 a1 => exact OutKeeps.forward (execParamWrite_keeps a0 a1 s)
  | paramCommitPrepare a0 => exact OutKeeps.forward (execParamCommitPrepare_keeps a0 s)
  | paramCommitApply a0 a1 a2 a3 a4 => exact OutKeeps.forward (execParamCommitApply_keeps a0 a1 a2 a3 a4 s)
  | paramCommitDiscard a0 => exact OutKeeps.forward (execParamCommitDiscard_keeps a0 s)
  | setSelect a0 a1 => exact OutKeeps.forward (execSetSelect_keeps a0 a1 s)
  | calRead a0 a1 a2 a3 a4 => exact OutKeeps.forward (execCalRead_keeps a0 a1 a2 a3 a4 s)
  | calRecal a0 a1 a2 => exact OutKeeps.forward (execCalRecal_keeps a0 a1 a2 s)
  | updBegin a0 a1 a2 a3 => exact OutKeeps.forward (execUpdBegin_keeps a0 a1 a2 a3 s)
  | updChunk a0 a1 a2 => exact OutKeeps.forward (execUpdChunk_keeps a0 a1 a2 s)
  | updVerify a0 => exact OutKeeps.forward (execUpdVerify_keeps a0 s)
  | updActivate a0 a1 => exact execUpdActivate_forward a0 a1 s
  | updHandover a0 => exact OutKeeps.forward (execUpdHandover_keeps a0 s)
  | recInfo a0 => exact OutKeeps.forward (execRecInfo_keeps a0 s)
  | recRead a0 a1 a2 => exact OutKeeps.forward (execRecRead_keeps a0 a1 a2 s)
  | trendRead a0 a1 a2 a3 => exact OutKeeps.forward (execTrendRead_keeps a0 a1 a2 a3 s)
  | attest a0 a1 => exact OutKeeps.forward (execAttest_keeps a0 a1 s)
  | sessionOpen a0 a1 => exact OutKeeps.forward (execSessionOpen_keeps a0 a1 s)
  | sessionClose a0 => exact OutKeeps.forward (execSessionClose_keeps a0 s)
  | keyInfo a0 a1 => exact OutKeeps.forward (execKeyInfo_keeps a0 a1 s)
  | ownerSlotFuse a0 a1 a2 a3 a4 => exact execOwnerSlotFuse_forward a0 a1 a2 a3 a4 s
  | ownerSlotRevoke a0 a1 a2 a3 a4 => exact execOwnerSlotRevoke_forward a0 a1 a2 a3 a4 s
  | cascStatus a0 => exact OutKeeps.forward (execCascStatus_keeps a0 s)
  | regRead a0 a1 a2 => exact OutKeeps.forward (execRegRead_keeps a0 a1 a2 s)
  | regWrite a0 a1 a2 a3 => exact OutKeeps.forward (execRegWrite_keeps a0 a1 a2 a3 s)
  | freqMeasure a0 a1 a2 a3 => exact OutKeeps.forward (execFreqMeasure_keeps a0 a1 a2 a3 s)
  | freeze a0 => exact OutKeeps.forward (execFreeze_keeps a0 s)
  | snapshotInfo a0 => exact OutKeeps.forward (execSnapshotInfo_keeps a0 s)
  | domainSet a0 a1 a2 a3 => exact OutKeeps.forward (execDomainSet_keeps a0 a1 a2 a3 s)
  | opPoint a0 a1 a2 => exact OutKeeps.forward (execOpPoint_keeps a0 a1 a2 s)
  | standbyEnter a0 a1 a2 a3 => exact execStandbyEnter_forward a0 a1 a2 a3 s
  | rtcSet a0 a1 => exact OutKeeps.forward (execRtcSet_keeps a0 a1 s)
  | alarmSet a0 a1 a2 => exact OutKeeps.forward (execAlarmSet_keeps a0 a1 a2 s)
  | lockoutClear a0 a1 a2 a3 => exact OutKeeps.forward (execLockoutClear_keeps a0 a1 a2 a3 s)
  | stoStatus a0 => exact OutKeeps.forward (execStoStatus_keeps a0 s)
  | contactorSet a0 a1 a2 a3 => exact OutKeeps.forward (execContactorSet_keeps a0 a1 a2 a3 s)
  | lockoutList a0 => exact OutKeeps.forward (execLockoutList_keeps a0 s)
  | clkSelWrite a0 => exact OutKeeps.forward (execClkSelWrite_keeps a0 s)
  | clockSwitchForced a0 => exact OutKeeps.forward (execClockSwitchForced_keeps a0 s)
  | clkGateOpen a0 => exact OutKeeps.forward (execClkGateOpen_keeps a0 s)
  | clkGateClose a0 a1 => exact OutKeeps.forward (execClkGateClose_keeps a0 a1 s)
  | gateCloseForced a0 a1 => exact OutKeeps.forward (execGateCloseForced_keeps a0 a1 s)
  | domCtlRequest a0 a1 a2 => exact OutKeeps.forward (execDomCtlRequest_keeps a0 a1 a2 s)
  | opPointRegRequest a0 a1 => exact OutKeeps.forward (execOpPointRegRequest_keeps a0 a1 s)
  | fmStart => exact OutKeeps.forward (execFmStart_keeps s)
  | recFlush => exact OutKeeps.forward (execRecFlush_keeps s)
  | recSampleEnWrite a0 => exact OutKeeps.forward (execRecSampleEnWrite_keeps a0 s)
  | snsTestForce a0 a1 a2 => exact OutKeeps.forward (execSnsTestForce_keeps a0 a1 a2 s)
  | snpStatus a0 => exact OutKeeps.forward (execSnpStatus_keeps a0 s)
  | snpRead a0 a1 a2 => exact OutKeeps.forward (execSnpRead_keeps a0 a1 a2 s)
  | restart a0 a1 => exact execRestart_forward a0 a1 s
  | kl15Rise => exact execKl15Rise_forward s
  | kl15KeepHigh a0 a1 => exact execKl15KeepHigh_forward a0 a1 s
  | kl15KeepLowCount a0 => exact execKl15KeepLowCount_forward a0 s
  | standbyEntryResume => exact execStandbyEntryResume_forward s
  | standbyWaitReport a0 => exact OutKeeps.forward (execStandbyWaitReport_keeps a0 s)
  | drvEnFall => exact OutKeeps.forward (execDrvEnFall_keeps s)
  | drvEnRise a0 a1 => exact OutKeeps.forward (execDrvEnRise_keeps a0 a1 s)
  | clearanceExpiry a0 => exact OutKeeps.forward (execClearanceExpiry_keeps a0 s)
  | freezePinRise => exact OutKeeps.forward (execFreezePinRise_keeps s)
  | freezeTake a0 => exact execFreezeTake_forward a0 s
  | freezeWatcherFastClear a0 a1 => exact OutKeeps.forward (execFreezeWatcherFastClear_keeps a0 a1 s)
  | stoDemand a0 a1 => exact OutKeeps.forward (execStoDemand_keeps a0 a1 s)
  | stoDemandEnd a0 => exact OutKeeps.forward (execStoDemandEnd_keeps a0 s)
  | stoDiscrepancy a0 => exact OutKeeps.forward (execStoDiscrepancy_keeps a0 s)
  | kl30Loss a0 a1 => exact OutKeeps.forward (execKl30Loss_keeps a0 a1 s)
  | kl30LossConfirmed a0 => exact execKl30LossConfirmed_forward a0 s
  | kl30Return a0 a1 => exact execKl30Return_forward a0 a1 s
  | holdupEnd a0 => exact execHoldupEnd_forward a0 s
  | kl30OutOfRange a0 a1 => exact OutKeeps.forward (execKl30OutOfRange_keeps a0 a1 s)
  | kl30Apply a0 => exact execKl30Apply_forward a0 s
  | bootEntry a0 => exact execBootEntry_forward a0 s
  | islandHandshakeTimeout a0 a1 => exact OutKeeps.forward (execIslandHandshakeTimeout_keeps a0 a1 s)
  | startupStepOverrun a0 a1 => exact OutKeeps.forward (execStartupStepOverrun_keeps a0 a1 s)
  | domainWakeDeadline a0 a1 a2 => exact OutKeeps.forward (execDomainWakeDeadline_keeps a0 a1 a2 s)
  | domainWakeRetry a0 a1 => exact OutKeeps.forward (execDomainWakeRetry_keeps a0 a1 s)
  | feRestoreComplete a0 a1 => exact OutKeeps.forward (execFeRestoreComplete_keeps a0 a1 s)
  | d5HoldExpiry a0 a1 => exact OutKeeps.forward (execD5HoldExpiry_keeps a0 a1 s)
  | opPointTransitionDone a0 => exact OutKeeps.forward (execOpPointTransitionDone_keeps a0 s)
  | opPointOverrun a0 a1 => exact OutKeeps.forward (execOpPointOverrun_keeps a0 a1 s)
  | rtcAlarm => exact execRtcAlarm_forward s
  | canWake a0 => exact execCanWake_forward a0 s
  | sourceReady a0 a1 => exact OutKeeps.forward (execSourceReady_keeps a0 a1 s)
  | pllCoast a0 a1 => exact OutKeeps.forward (execPllCoast_keeps a0 a1 s)
  | clockSourceFail a0 a1 a2 => exact OutKeeps.forward (execClockSourceFail_keeps a0 a1 a2 s)
  | clockFailHandling a0 => exact OutKeeps.forward (execClockFailHandling_keeps a0 s)
  | clockLossSevere a0 a1 => exact OutKeeps.forward (execClockLossSevere_keeps a0 a1 s)
  | clockRestore => exact OutKeeps.forward (execClockRestore_keeps s)
  | freqMeasureDone a0 => exact OutKeeps.forward (execFreqMeasureDone_keeps a0 s)
  | freqMeasureSrcOff => exact OutKeeps.forward (execFreqMeasureSrcOff_keeps s)
  | desaturation a0 a1 a2 a3 a4 a5 => exact OutKeeps.forward (execDesaturation_keeps a0 a1 a2 a3 a4 a5 s)
  | softTurnoffEnd a0 a1 a2 => exact OutKeeps.forward (execSoftTurnoffEnd_keeps a0 a1 a2 s)
  | vbpUndervoltage a0 a1 a2 => exact OutKeeps.forward (execVbpUndervoltage_keeps a0 a1 a2 s)
  | vbpUvloRelease a0 a1 a2 => exact OutKeeps.forward (execVbpUvloRelease_keeps a0 a1 a2 s)
  | vbnOutOfRange a0 a1 a2 => exact OutKeeps.forward (execVbnOutOfRange_keeps a0 a1 a2 s)
  | vbsOk a0 a1 a2 => exact OutKeeps.forward (execVbsOk_keeps a0 a1 a2 s)
  | vbsWarn a0 a1 a2 => exact OutKeeps.forward (execVbsWarn_keeps a0 a1 a2 s)
  | vbsWarnClear a0 a1 a2 => exact OutKeeps.forward (execVbsWarnClear_keeps a0 a1 a2 s)
  | vbsUv a0 a1 a2 => exact OutKeeps.forward (execVbsUv_keeps a0 a1 a2 s)
  | highIslandStartReturn a0 a1 a2 => exact OutKeeps.forward (execHighIslandStartReturn_keeps a0 a1 a2 s)
  | bowMeasurement a0 a1 a2 a3 => exact OutKeeps.forward (execBowMeasurement_keeps a0 a1 a2 a3 s)
  | bowFailure a0 a1 a2 a3 => exact OutKeeps.forward (execBowFailure_keeps a0 a1 a2 a3 s)
  | gateMonitorBreach a0 a1 a2 a3 a4 => exact OutKeeps.forward (execGateMonitorBreach_keeps a0 a1 a2 a3 a4 s)
  | islandOverlapRefusal a0 a1 => exact OutKeeps.forward (execIslandOverlapRefusal_keeps a0 a1 s)
  | islandLinkLoss a0 a1 a2 a3 a4 => exact OutKeeps.forward (execIslandLinkLoss_keeps a0 a1 a2 a3 a4 s)
  | islandLinkTrained a0 a1 => exact OutKeeps.forward (execIslandLinkTrained_keeps a0 a1 s)
  | auxFaultLatch a0 a1 a2 => exact OutKeeps.forward (execAuxFaultLatch_keeps a0 a1 a2 s)
  | prechargePulse a0 => exact OutKeeps.forward (execPrechargePulse_keeps a0 s)
  | prechargeComplete a0 => exact OutKeeps.forward (execPrechargeComplete_keeps a0 s)
  | prechargeTimeout a0 => exact OutKeeps.forward (execPrechargeTimeout_keeps a0 s)
  | periodBoundary a0 a1 => exact OutKeeps.forward (execPeriodBoundary_keeps a0 a1 s)
  | missedUpdateLimit a0 => exact OutKeeps.forward (execMissedUpdateLimit_keeps a0 s)
  | lockAndMatch a0 => exact OutKeeps.forward (execLockAndMatch_keeps a0 s)
  | interlockRefusal a0 => exact OutKeeps.forward (execInterlockRefusal_keeps a0 s)
  | refusalLimit a0 => exact OutKeeps.forward (execRefusalLimit_keeps a0 s)
  | sixstepToggle a0 => exact OutKeeps.forward (execSixstepToggle_keeps a0 s)
  | adcTrigger a0 a1 => exact OutKeeps.forward (execAdcTrigger_keeps a0 a1 s)
  | syncPulse a0 => exact OutKeeps.forward (execSyncPulse_keeps a0 s)
  | syncLoss a0 => exact OutKeeps.forward (execSyncLoss_keeps a0 s)
  | controlPeriod a0 a1 => exact OutKeeps.forward (execControlPeriod_keeps a0 a1 s)
  | referenceUpdate a0 => exact OutKeeps.forward (execReferenceUpdate_keeps a0 s)
  | torqueNotReachable a0 => exact OutKeeps.forward (execTorqueNotReachable_keeps a0 s)
  | trackingError a0 => exact OutKeeps.forward (execTrackingError_keeps a0 s)
  | xyExcess a0 => exact OutKeeps.forward (execXyExcess_keeps a0 s)
  | imFluxTimeout a0 => exact OutKeeps.forward (execImFluxTimeout_keeps a0 s)
  | sixstepEntry a0 => exact OutKeeps.forward (execSixstepEntry_keeps a0 s)
  | sixstepExit a0 => exact OutKeeps.forward (execSixstepExit_keeps a0 s)
  | zcWindowEnd a0 a1 a2 => exact OutKeeps.forward (execZcWindowEnd_keeps a0 a1 a2 s)
  | zcMissLimit a0 => exact OutKeeps.forward (execZcMissLimit_keeps a0 s)
  | orderlyStopEnd a0 => exact OutKeeps.forward (execOrderlyStopEnd_keeps a0 s)
  | disarmRampEnd a0 => exact OutKeeps.forward (execDisarmRampEnd_keeps a0 s)
  | retireRampEnd a0 => exact OutKeeps.forward (execRetireRampEnd_keeps a0 s)
  | rectificationDetect a0 a1 a2 a3 => exact OutKeeps.forward (execRectificationDetect_keeps a0 a1 a2 a3 s)
  | checkTimeEnd a0 => exact OutKeeps.forward (execCheckTimeEnd_keeps a0 s)
  | catchWindowEnd a0 a1 => exact OutKeeps.forward (execCatchWindowEnd_keeps a0 a1 s)
  | catchExtensionEnd a0 a1 => exact OutKeeps.forward (execCatchExtensionEnd_keeps a0 a1 s)
  | pluckPulse a0 a1 => exact OutKeeps.forward (execPluckPulse_keeps a0 a1 s)
  | observerInvalid a0 => exact OutKeeps.forward (execObserverInvalid_keeps a0 s)
  | quadEdge a0 a1 a2 a3 => exact OutKeeps.forward (execQuadEdge_keeps a0 a1 a2 a3 s)
  | dividedOutputEmit a0 => exact OutKeeps.forward (execDividedOutputEmit_keeps a0 s)
  | indexMark a0 => exact OutKeeps.forward (execIndexMark_keeps a0 s)
  | illegalTransition a0 a1 a2 => exact OutKeeps.forward (execIllegalTransition_keeps a0 a1 a2 s)
  | illegalEventLimit a0 => exact OutKeeps.forward (execIllegalEventLimit_keeps a0 s)
  | hallEdge a0 a1 a2 => exact OutKeeps.forward (execHallEdge_keeps a0 a1 a2 s)
  | hallInvalid a0 a1 a2 => exact OutKeeps.forward (execHallInvalid_keeps a0 a1 a2 s)
  | hallInvalidHeld a0 => exact OutKeeps.forward (execHallInvalidHeld_keeps a0 s)
  | amplitudeWindowFault a0 a1 => exact OutKeeps.forward (execAmplitudeWindowFault_keeps a0 a1 s)
  | excitationFault a0 a1 => exact OutKeeps.forward (execExcitationFault_keeps a0 a1 s)
  | inputFrequencyLimit a0 => exact OutKeeps.forward (execInputFrequencyLimit_keeps a0 s)
  | trackingLock a0 a1 => exact OutKeeps.forward (execTrackingLock_keeps a0 a1 s)
  | interfaceRecovery a0 => exact OutKeeps.forward (execInterfaceRecovery_keeps a0 s)
  | speedWindow a0 => exact OutKeeps.forward (execSpeedWindow_keeps a0 s)
  | speedZeroTimeout a0 => exact OutKeeps.forward (execSpeedZeroTimeout_keeps a0 s)
  | compareLoad a0 => exact OutKeeps.forward (execCompareLoad_keeps a0 s)
  | compareFire a0 => exact OutKeeps.forward (execCompareFire_keeps a0 s)
  | compareRearm a0 => exact OutKeeps.forward (execCompareRearm_keeps a0 s)
  | windowComparatorTrip a0 a1 a2 a3 => exact OutKeeps.forward (execWindowComparatorTrip_keeps a0 a1 a2 a3 s)
  | currentSumViolation a0 a1 => exact OutKeeps.forward (execCurrentSumViolation_keeps a0 a1 s)
  | sensorSupplyFault a0 a1 a2 a3 => exact OutKeeps.forward (execSensorSupplyFault_keeps a0 a1 a2 a3 s)
  | linkVoltageFormation a0 a1 => exact OutKeeps.forward (execLinkVoltageFormation_keeps a0 a1 s)
  | ovTrip a0 a1 a2 => exact OutKeeps.forward (execOvTrip_keeps a0 a1 a2 s)
  | ovWarn a0 a1 => exact OutKeeps.forward (execOvWarn_keeps a0 a1 s)
  | uvLimit a0 a1 => exact OutKeeps.forward (execUvLimit_keeps a0 a1 s)
  | chopperOn a0 => exact OutKeeps.forward (execChopperOn_keeps a0 s)
  | chopperOff a0 => exact OutKeeps.forward (execChopperOff_keeps a0 s)
  | chopperUnavailable a0 a1 => exact OutKeeps.forward (execChopperUnavailable_keeps a0 a1 s)
  | chopperUncommanded a0 a1 => exact OutKeeps.forward (execChopperUncommanded_keeps a0 a1 s)
  | chopperEnergyLimit a0 => exact OutKeeps.forward (execChopperEnergyLimit_keeps a0 s)
  | dischargeAutoStart a0 => exact OutKeeps.forward (execDischargeAutoStart_keeps a0 s)
  | dischargeEnd a0 => exact OutKeeps.forward (execDischargeEnd_keeps a0 s)
  | dischargeSwitchFault a0 a1 => exact OutKeeps.forward (execDischargeSwitchFault_keeps a0 a1 s)
  | windingDischargeEnd a0 => exact OutKeeps.forward (execWindingDischargeEnd_keeps a0 s)
  | dischargeTimeout a0 => exact OutKeeps.forward (execDischargeTimeout_keeps a0 s)
  | fastWrite a0 => exact OutKeeps.forward (execFastWrite_keeps a0 s)
  | activeShortUnavailable a0 => exact OutKeeps.forward (execActiveShortUnavailable_keeps a0 s)
  | lockstepMismatch a0 a1 a2 => exact OutKeeps.forward (execLockstepMismatch_keeps a0 a1 a2 s)
  | checkerFailure a0 a1 => exact OutKeeps.forward (execCheckerFailure_keeps a0 a1 s)
  | runtimeInjection a0 a1 => exact OutKeeps.forward (execRuntimeInjection_keeps a0 a1 s)
  | pairRestartDone a0 a1 a2 => exact OutKeeps.forward (execPairRestartDone_keeps a0 a1 a2 s)
  | torqueMonitorWindow a0 => exact OutKeeps.forward (execTorqueMonitorWindow_keeps a0 s)
  | heartbeat a0 a1 a2 => exact OutKeeps.forward (execHeartbeat_keeps a0 a1 a2 s)
  | heartbeatMissed a0 a1 => exact OutKeeps.forward (execHeartbeatMissed_keeps a0 a1 s)
  | supplyOutOfWindow a0 a1 a2 => exact OutKeeps.forward (execSupplyOutOfWindow_keeps a0 a1 a2 s)
  | supplyLowReset a0 a1 a2 => exact execSupplyLowReset_forward a0 a1 a2 s
  | supplyResetRelease a0 a1 a2 => exact OutKeeps.forward (execSupplyResetRelease_keeps a0 a1 a2 s)
  | dieCheck a0 a1 => exact OutKeeps.forward (execDieCheck_keeps a0 a1 s)
  | contactorPullInEnd a0 => exact OutKeeps.forward (execContactorPullInEnd_keeps a0 s)
  | contactorFeedbackFail a0 a1 a2 => exact OutKeeps.forward (execContactorFeedbackFail_keeps a0 a1 a2 s)
  | tempMeasurement a0 => exact OutKeeps.forward (execTempMeasurement_keeps a0 s)
  | offsetLearn a0 => exact OutKeeps.forward (execOffsetLearn_keeps a0 s)
  | monitorTripCheck a0 a1 => exact OutKeeps.forward (execMonitorTripCheck_keeps a0 a1 s)
  | tempCompensation a0 a1 a2 a3 => exact OutKeeps.forward (execTempCompensation_keeps a0 a1 a2 a3 s)
  | tempCompensationLate => exact OutKeeps.forward (execTempCompensationLate_keeps s)
  | packetArrival a0 a1 a2 => exact OutKeeps.forward (execPacketArrival_keeps a0 a1 a2 s)
  | udpDatagram a0 a1 a2 a3 a4 a5 => exact OutKeeps.forward (execUdpDatagram_keeps a0 a1 a2 a3 a4 a5 s)
  | canSegment a0 a1 => exact OutKeeps.forward (execCanSegment_keeps a0 a1 s)
  | segmentGapTimeout a0 a1 => exact OutKeeps.forward (execSegmentGapTimeout_keeps a0 a1 s)
  | fastSetpointFrame a0 => exact OutKeeps.forward (execFastSetpointFrame_keeps a0 s)
  | dispatch => exact (show OutAll (Forward s) (execDispatch s) from by
      have h := execDispatch_callKeeps s
      revert h; cases execDispatch s <;> intro h
      · exact h.1
      · trivial
      · trivial)
  | contextDeadline a0 => exact OutKeeps.forward (execContextDeadline_keeps a0 s)
  | sessionIdleTimeout a0 => exact OutKeeps.forward (execSessionIdleTimeout_keeps a0 s)
  | setpointTimeout a0 => exact OutKeeps.forward (execSetpointTimeout_keeps a0 s)
  | nonceExpiry a0 => exact OutKeeps.forward (execNonceExpiry_keeps a0 s)
  | canFrameReceive a0 a1 a2 a3 => exact OutKeeps.forward (execCanFrameReceive_keeps a0 a1 a2 a3 s)
  | canBusOff a0 => exact OutKeeps.forward (execCanBusOff_keeps a0 s)
  | canBusOffRecovery a0 a1 => exact OutKeeps.forward (execCanBusOffRecovery_keeps a0 a1 s)
  | stateFrame => exact OutKeeps.forward (execStateFrame_keeps s)
  | oneShotFail a0 a1 => exact OutKeeps.forward (execOneShotFail_keeps a0 a1 s)
  | ethLinkDown a0 => exact OutKeeps.forward (execEthLinkDown_keeps a0 s)
  | gptpSync a0 => exact execGptpSync_forward a0 s
  | gptpSyncLoss a0 => exact OutKeeps.forward (execGptpSyncLoss_keeps a0 s)
  | qbvCycleStart => exact OutKeeps.forward (execQbvCycleStart_keeps s)
  | ringFrameReceive a0 a1 => exact execRingFrameReceive_forward a0 a1 s
  | ringPeriodicSend => exact OutKeeps.forward (execRingPeriodicSend_keeps s)
  | ringLinkSend => exact OutKeeps.forward (execRingLinkSend_keeps s)
  | ringDelayReq a0 a1 a2 a3 a4 => exact OutKeeps.forward (execRingDelayReq_keeps a0 a1 a2 a3 a4 s)
  | faultFlagChange => exact OutKeeps.forward (execFaultFlagChange_keeps s)
  | ringLinkDown a0 a1 => exact OutKeeps.forward (execRingLinkDown_keeps a0 a1 s)
  | ringLinkRestored a0 a1 => exact OutKeeps.forward (execRingLinkRestored_keeps a0 a1 s)
  | cascadeDeviceLost a0 => exact OutKeeps.forward (execCascadeDeviceLost_keeps a0 s)
  | masterLost => exact OutKeeps.forward (execMasterLost_keeps s)
  | recorderFlush => exact OutKeeps.forward (execRecorderFlush_keeps s)
  | postTriggerEnd => exact OutKeeps.forward (execPostTriggerEnd_keeps s)
  | trendRecord a0 => exact OutKeeps.forward (execTrendRecord_keeps a0 s)
  | handoverTakeover a0 a1 => exact execHandoverTakeover_forward a0 a1 s
  | handoverTimeout => exact OutKeeps.forward (execHandoverTimeout_keeps s)
  | feReload a0 => exact OutKeeps.forward (execFeReload_keeps a0 s)
  | islReload a0 a1 => exact OutKeeps.forward (execIslReload_keeps a0 a1 s)
  | feRotation a0 => exact OutKeeps.forward (execFeRotation_keeps a0 s)
  | recalCoverEnd a0 a1 a2 a3 a4 => exact OutKeeps.forward (execRecalCoverEnd_keeps a0 a1 a2 a3 a4 s)
  | feedbackConfirmsCommand a0 a1 => exact OutKeeps.forward (execFeedbackConfirmsCommand_keeps a0 a1 s)
  | fluxMapDerivationEnd a0 => exact OutKeeps.forward (execFluxMapDerivationEnd_keeps a0 s)
  | retentionRestore a0 a1 => exact OutKeeps.forward (execRetentionRestore_keeps a0 a1 s)
  | ipv4ReassemblyTimeout a0 a1 => exact OutKeeps.forward (execIpv4ReassemblyTimeout_keeps a0 a1 s)
  | ethLinkUp a0 => exact OutKeeps.forward (execEthLinkUp_keeps a0 s)
  | arpRequest a0 a1 => exact OutKeeps.forward (execArpRequest_keeps a0 a1 s)
  | icmpEchoRequest a0 a1 => exact OutKeeps.forward (execIcmpEchoRequest_keeps a0 a1 s)
  | tapInstruction a0 a1 => exact OutKeeps.forward (execTapInstruction_keeps a0 a1 s)

theorem tick_forward (s : State) : Forward s (tick s) :=
  ⟨by simp [id tick_keeps, id tick_same], OwnersUp.of_eq (by simp [id tick_keeps, id tick_same]), FusesUp.of_eq (by simp [id tick_keeps, id
      tick_same])⟩

end Sys2Proof.Machine
end

