-- ==== Sys2Proof/Laws/PerInstr.lean ====
section
/-! SUPPORT. Facts about every command as syntax, one lemma per constructor. -/

set_option Elab.async false
set_option linter.unusedSimpArgs false
set_option linter.unusedTactic false
set_option linter.unreachableTactic false

namespace Sys2Proof.Laws.WellFormed

/-- The operand lists whose lengths a command's form limits: the length, and the least and the greatest that the form admits. -/
def lengths : Instr → List (Nat × Nat × Nat)
  | .bootEntry o => (o.straps.length, 4, 4) :: (o.calA.length, 8, 8) :: (o.calB.length, 8, 8) ::
      (o.islands.length, 52, 52) :: (o.dieTemps.length, 16, 16) :: o.straps.map (fun l => (l.length, 4, 4))
  | .adcTrigger _ o => [(o.codeA.length, 3, 3), (o.codeB.length, 3, 3), (o.vph.length, 3, 3)]
  | .islReload _ a => [(a.length, 6, 6)]
  | .linkVoltageFormation _ r => [(r.length, 8, 8)]
  | .fastWrite v => [(v.length, 8, 8)]
  | .canFrameReceive _ _ _ d => [(d.length, 0, 64)]
  | .paramRead _ _ ids => [(ids.length, 1, 255)]
  | .paramWrite _ items => [(items.length, 1, 255)]
  | .updChunk _ _ d => [(d.length, 1, 4000)]
  | _ => []

/-- A command is well formed exactly if every such list has a length that its form admits. -/
def Statement (i : Instr) : Prop := Instr.wf i = true ↔ ∀ x ∈ lengths i, x.2.1 ≤ x.1 ∧ x.1 ≤ x.2.2

theorem identify (h : Hdr) : Statement (.identify h) := by
  simp [Statement, lengths, Instr.wf]
theorem getState (h : Hdr) : Statement (.getState h) := by
  simp [Statement, lengths, Instr.wf]
theorem setOpModeEnter (h : Hdr) : Statement (.setOpModeEnter h) := by
  simp [Statement, lengths, Instr.wf]
theorem setOpModeLeave (h : Hdr) : Statement (.setOpModeLeave h) := by
  simp [Statement, lengths, Instr.wf]
theorem reset (h : Hdr) (arg : Byte) : Statement (.reset h arg) := by
  simp [Statement, lengths, Instr.wf]
theorem ctxQuery (h : Hdr) (tag : Byte) : Statement (.ctxQuery h tag) := by
  simp [Statement, lengths, Instr.wf]
theorem arm (h : Hdr) (machine : Byte) : Statement (.arm h machine) := by
  simp [Statement, lengths, Instr.wf]
theorem disarm (h : Hdr) (machine : Byte) : Statement (.disarm h machine) := by
  simp [Statement, lengths, Instr.wf]
theorem torqueSet (h : Hdr) (machine : Byte) (torque : U32) : Statement (.torqueSet h machine torque) := by
  simp [Statement, lengths, Instr.wf]
theorem speedSet (h : Hdr) (machine : Byte) (speed : U32) : Statement (.speedSet h machine speed) := by
  simp [Statement, lengths, Instr.wf]
theorem safeState (h : Hdr) (scope : Byte) (index : Byte) : Statement (.safeState h scope index) := by
  simp [Statement, lengths, Instr.wf]
theorem start (h : Hdr) (machine : Byte) (dir : Byte) : Statement (.start h machine dir) := by
  simp [Statement, lengths, Instr.wf]
theorem pluckTest (h : Hdr) (machine : Byte) : Statement (.pluckTest h machine) := by
  simp [Statement, lengths, Instr.wf]
theorem retire (h : Hdr) (kind : Byte) (index : Byte) : Statement (.retire h kind index) := by
  simp [Statement, lengths, Instr.wf]
theorem cmpArm (h : Hdr) (unit : Byte) (form : Byte) (target : U32) : Statement (.cmpArm h unit form target) := by
  simp [Statement, lengths, Instr.wf]
theorem cmpStatus (h : Hdr) (unit : Byte) : Statement (.cmpStatus h unit) := by
  simp [Statement, lengths, Instr.wf]
theorem remap (h : Hdr) (kind : Byte) (retired : Byte) (repl : Byte) : Statement (.remap h kind retired repl) := by
  simp [Statement, lengths, Instr.wf]
theorem paramRead (h : Hdr) (source : Byte) (ids : List U16) : Statement (.paramRead h source ids) := by
  simp only [Statement, lengths, Instr.wf, BootObs.wf, TrigObs.wf]
  simp
  try grind
theorem paramWrite (h : Hdr) (items : List Item) : Statement (.paramWrite h items) := by
  simp only [Statement, lengths, Instr.wf, BootObs.wf, TrigObs.wf]
  simp
  try grind
theorem paramCommitPrepare (h : Hdr) : Statement (.paramCommitPrepare h) := by
  simp [Statement, lengths, Instr.wf]
theorem paramCommitApply (h : Hdr) (slot : Byte) (serial : U32) (digest : Digest) (sig : Rsa) : Statement (.paramCommitApply h slot serial digest sig) := by
  simp [Statement, lengths, Instr.wf]
theorem paramCommitDiscard (h : Hdr) : Statement (.paramCommitDiscard h) := by
  simp [Statement, lengths, Instr.wf]
theorem setSelect (h : Hdr) (arg : Byte) : Statement (.setSelect h arg) := by
  simp [Statement, lengths, Instr.wf]
theorem calRead (h : Hdr) (kind : U16) (inst : U16) (origin : Byte) (age : Byte) : Statement (.calRead h kind inst origin age) := by
  simp [Statement, lengths, Instr.wf]
theorem calRecal (h : Hdr) (target : Byte) (index : Byte) : Statement (.calRecal h target index) := by
  simp [Statement, lengths, Instr.wf]
theorem updBegin (h : Hdr) (cls : U16) (total : U32) (manifest : Manifest) : Statement (.updBegin h cls total manifest) := by
  simp [Statement, lengths, Instr.wf]
theorem updChunk (h : Hdr) (offset : U32) (data : List Byte) : Statement (.updChunk h offset data) := by
  simp only [Statement, lengths, Instr.wf, BootObs.wf, TrigObs.wf]
  simp
  try grind
theorem updVerify (h : Hdr) : Statement (.updVerify h) := by
  simp [Statement, lengths, Instr.wf]
theorem updActivate (h : Hdr) (timing : Byte) : Statement (.updActivate h timing) := by
  simp [Statement, lengths, Instr.wf]
theorem updHandover (h : Hdr) : Statement (.updHandover h) := by
  simp [Statement, lengths, Instr.wf]
theorem recInfo (h : Hdr) : Statement (.recInfo h) := by
  simp [Statement, lengths, Instr.wf]
theorem recRead (h : Hdr) (first : Esn) (count : U16) : Statement (.recRead h first count) := by
  simp [Statement, lengths, Instr.wf]
theorem trendRead (h : Hdr) (channel : U16) (count : U16) (time : U64) : Statement (.trendRead h channel count time) := by
  simp [Statement, lengths, Instr.wf]
theorem attest (h : Hdr) (nonce : Digest) : Statement (.attest h nonce) := by
  simp [Statement, lengths, Instr.wf]
theorem sessionOpen (h : Hdr) (plain : Option (List Byte)) : Statement (.sessionOpen h plain) := by
  simp [Statement, lengths, Instr.wf]
theorem sessionClose (h : Hdr) : Statement (.sessionClose h) := by
  simp [Statement, lengths, Instr.wf]
theorem keyInfo (h : Hdr) (part : Byte) : Statement (.keyInfo h part) := by
  simp [Statement, lengths, Instr.wf]
theorem ownerSlotFuse (h : Hdr) (signer : Byte) (target : Byte) (hash : Digest) (sig : Rsa) : Statement (.ownerSlotFuse h signer target hash sig) := by
  simp [Statement, lengths, Instr.wf]
theorem ownerSlotRevoke (h : Hdr) (signer : Byte) (target : Byte) (hash : Digest) (sig : Rsa) : Statement (.ownerSlotRevoke h signer target hash sig) := by
  simp [Statement, lengths, Instr.wf]
theorem cascStatus (h : Hdr) : Statement (.cascStatus h) := by
  simp [Statement, lengths, Instr.wf]
theorem regRead (h : Hdr) (addr : U32) (words : U16) : Statement (.regRead h addr words) := by
  simp [Statement, lengths, Instr.wf]
theorem regWrite (h : Hdr) (addr : U32) (mask : U32) (value : U32) : Statement (.regWrite h addr mask value) := by
  simp [Statement, lengths, Instr.wf]
theorem freqMeasure (h : Hdr) (inSel : Byte) (refSel : Byte) (nRef : U32) : Statement (.freqMeasure h inSel refSel nRef) := by
  simp [Statement, lengths, Instr.wf]
theorem freeze (h : Hdr) : Statement (.freeze h) := by
  simp [Statement, lengths, Instr.wf]
theorem snapshotInfo (h : Hdr) : Statement (.snapshotInfo h) := by
  simp [Statement, lengths, Instr.wf]
theorem domainSet (h : Hdr) (domain : Byte) (request : Byte) (hold : U16) : Statement (.domainSet h domain request hold) := by
  simp [Statement, lengths, Instr.wf]
theorem opPoint (h : Hdr) (pair : Byte) (point : Byte) : Statement (.opPoint h pair point) := by
  simp [Statement, lengths, Instr.wf]
theorem standbyEnter (h : Hdr) (depth : Byte) (timing : Byte) (canWake : Byte) : Statement (.standbyEnter h depth timing canWake) := by
  simp [Statement, lengths, Instr.wf]
theorem rtcSet (h : Hdr) (count : BitVec 48) : Statement (.rtcSet h count) := by
  simp [Statement, lengths, Instr.wf]
theorem alarmSet (h : Hdr) (alarm : BitVec 48) (armed : Byte) : Statement (.alarmSet h alarm armed) := by
  simp [Statement, lengths, Instr.wf]
theorem lockoutClear (h : Hdr) (esn : Esn) (slot : Byte) (sig : Rsa) : Statement (.lockoutClear h esn slot sig) := by
  simp [Statement, lengths, Instr.wf]
theorem stoStatus (h : Hdr) : Statement (.stoStatus h) := by
  simp [Statement, lengths, Instr.wf]
theorem contactorSet (h : Hdr) (mask : Byte) (command : Byte) (discharge : Byte) : Statement (.contactorSet h mask command discharge) := by
  simp [Statement, lengths, Instr.wf]
theorem lockoutList (h : Hdr) : Statement (.lockoutList h) := by
  simp [Statement, lengths, Instr.wf]
theorem clkSelWrite (value : U32) : Statement (.clkSelWrite value) := by
  simp [Statement, lengths, Instr.wf]
theorem clockSwitchForced (oldEdge : Option Nat) : Statement (.clockSwitchForced oldEdge) := by
  simp [Statement, lengths, Instr.wf]
theorem clkGateOpen (bit : Fin 32) : Statement (.clkGateOpen bit) := by
  simp [Statement, lengths, Instr.wf]
theorem clkGateClose (bit : Fin 32) (idleAt : Nat) : Statement (.clkGateClose bit idleAt) := by
  simp [Statement, lengths, Instr.wf]
theorem gateCloseForced (bit : Fin 32) (idleAt : Option Nat) : Statement (.gateCloseForced bit idleAt) := by
  simp [Statement, lengths, Instr.wf]
theorem domCtlRequest (n : Fin 16) (req : BitVec 2) (hold : U16) : Statement (.domCtlRequest n req hold) := by
  simp [Statement, lengths, Instr.wf]
theorem opPointRegRequest (pair : Pair) (point : BitVec 2) : Statement (.opPointRegRequest pair point) := by
  simp [Statement, lengths, Instr.wf]
theorem fmStart : Statement .fmStart := by
  simp [Statement, lengths, Instr.wf]
theorem recFlush : Statement .recFlush := by
  simp [Statement, lengths, Instr.wf]
theorem recSampleEnWrite (en : Bool) : Statement (.recSampleEnWrite en) := by
  simp [Statement, lengths, Instr.wf]
theorem snsTestForce (bank : Bank) (force : Bool) (input : BitVec 5) : Statement (.snsTestForce bank force input) := by
  simp [Statement, lengths, Instr.wf]
theorem snpStatus (vio : Bool) : Statement (.snpStatus vio) := by
  simp [Statement, lengths, Instr.wf]
theorem snpRead (vio : Bool) (addr : BitVec 24) (count : Nat) : Statement (.snpRead vio addr count) := by
  simp [Statement, lengths, Instr.wf]
theorem restart (vio : Bool) (second : Byte) : Statement (.restart vio second) := by
  simp [Statement, lengths, Instr.wf]
theorem kl15Rise : Statement .kl15Rise := by
  simp [Statement, lengths, Instr.wf]
theorem kl15KeepHigh (pin : WakePin) (edge : Bool) : Statement (.kl15KeepHigh pin edge) := by
  simp [Statement, lengths, Instr.wf]
theorem kl15KeepLowCount (ticks : Nat) : Statement (.kl15KeepLowCount ticks) := by
  simp [Statement, lengths, Instr.wf]
theorem standbyEntryResume : Statement .standbyEntryResume := by
  simp [Statement, lengths, Instr.wf]
theorem standbyWaitReport (seconds : Nat) : Statement (.standbyWaitReport seconds) := by
  simp [Statement, lengths, Instr.wf]
theorem drvEnFall : Statement .drvEnFall := by
  simp [Statement, lengths, Instr.wf]
theorem drvEnRise (lowTicks : Nat) (obs : EdgeObs) : Statement (.drvEnRise lowTicks obs) := by
  simp [Statement, lengths, Instr.wf]
theorem clearanceExpiry (esn : Esn) : Statement (.clearanceExpiry esn) := by
  simp [Statement, lengths, Instr.wf]
theorem freezePinRise : Statement .freezePinRise := by
  simp [Statement, lengths, Instr.wf]
theorem freezeTake (forced : Byte) : Statement (.freezeTake forced) := by
  simp [Statement, lengths, Instr.wf]
theorem freezeWatcherFastClear (b : Fin 8) (halfTicks : Nat) : Statement (.freezeWatcherFastClear b halfTicks) := by
  simp [Statement, lengths, Instr.wf]
theorem stoDemand (ch : StoCh) (lowUs : Nat) : Statement (.stoDemand ch lowUs) := by
  simp [Statement, lengths, Instr.wf]
theorem stoDemandEnd (highUs : Nat) : Statement (.stoDemandEnd highUs) := by
  simp [Statement, lengths, Instr.wf]
theorem stoDiscrepancy (ms : Nat) : Statement (.stoDiscrepancy ms) := by
  simp [Statement, lengths, Instr.wf]
theorem kl30Loss (mv : Nat) (us : Nat) : Statement (.kl30Loss mv us) := by
  simp [Statement, lengths, Instr.wf]
theorem kl30LossConfirmed (ticks : Nat) : Statement (.kl30LossConfirmed ticks) := by
  simp [Statement, lengths, Instr.wf]
theorem kl30Return (mv : Nat) (us : Nat) : Statement (.kl30Return mv us) := by
  simp [Statement, lengths, Instr.wf]
theorem holdupEnd (us : Nat) : Statement (.holdupEnd us) := by
  simp [Statement, lengths, Instr.wf]
theorem kl30OutOfRange (mv : Nat) (ticks : Nat) : Statement (.kl30OutOfRange mv ticks) := by
  simp [Statement, lengths, Instr.wf]
theorem kl30Apply (kl15High : Bool) : Statement (.kl30Apply kl15High) := by
  simp [Statement, lengths, Instr.wf]
theorem bootEntry (obs : BootObs) : Statement (.bootEntry obs) := by
  simp only [Statement, lengths, Instr.wf, BootObs.wf, TrigObs.wf]
  simp
  constructor
  · rintro ⟨⟨⟨⟨⟨a, b⟩, c⟩, d⟩, e⟩, f⟩
    exact ⟨by omega, by omega, by omega, by omega, by omega, fun x hx => by have := b x hx; omega⟩
  · rintro ⟨a, c, d, e, f, b⟩
    exact ⟨⟨⟨⟨⟨by omega, fun x hx => by have := b x hx; omega⟩, by omega⟩, by omega⟩, by omega⟩, by omega⟩
theorem islandHandshakeTimeout (ch : ChanIx) (ticks : Nat) : Statement (.islandHandshakeTimeout ch ticks) := by
  simp [Statement, lengths, Instr.wf]
theorem startupStepOverrun (step : Fin 10) (us : Nat) : Statement (.startupStepOverrun step us) := by
  simp [Statement, lengths, Instr.wf]
theorem domainWakeDeadline (dom : Fin 16) (ticks : Nat) (regAt : Option Nat) : Statement (.domainWakeDeadline dom ticks regAt) := by
  simp [Statement, lengths, Instr.wf]
theorem domainWakeRetry (dom : Fin 16) (ticks : Nat) : Statement (.domainWakeRetry dom ticks) := by
  simp [Statement, lengths, Instr.wf]
theorem feRestoreComplete (n : Fin 8) (us : Nat) : Statement (.feRestoreComplete n us) := by
  simp [Statement, lengths, Instr.wf]
theorem d5HoldExpiry (cause : D5Return) (ms : Nat) : Statement (.d5HoldExpiry cause ms) := by
  simp [Statement, lengths, Instr.wf]
theorem opPointTransitionDone (pair : Pair) : Statement (.opPointTransitionDone pair) := by
  simp [Statement, lengths, Instr.wf]
theorem opPointOverrun (pair : Pair) (us : Nat) : Statement (.opPointOverrun pair us) := by
  simp [Statement, lengths, Instr.wf]
theorem rtcAlarm : Statement .rtcAlarm := by
  simp [Statement, lengths, Instr.wf]
theorem canWake (ev : CanWakeEv) : Statement (.canWake ev) := by
  simp [Statement, lengths, Instr.wf]
theorem sourceReady (src : ClkSrc) (us : Nat) : Statement (.sourceReady src us) := by
  simp [Statement, lengths, Instr.wf]
theorem pllCoast (pll : Pll) (missing : Nat) : Statement (.pllCoast pll missing) := by
  simp [Statement, lengths, Instr.wf]
theorem clockSourceFail (src : ClkSrc) (missing : Nat) (ppm : Int) : Statement (.clockSourceFail src missing ppm) := by
  simp [Statement, lengths, Instr.wf]
theorem clockFailHandling (src : ClkSrc) : Statement (.clockFailHandling src) := by
  simp [Statement, lengths, Instr.wf]
theorem clockLossSevere (pll : Pll) (kind : SevereKind) : Statement (.clockLossSevere pll kind) := by
  simp [Statement, lengths, Instr.wf]
theorem clockRestore : Statement .clockRestore := by
  simp [Statement, lengths, Instr.wf]
theorem freqMeasureDone (nIn : Nat) : Statement (.freqMeasureDone nIn) := by
  simp [Statement, lengths, Instr.wf]
theorem freqMeasureSrcOff : Statement .freqMeasureSrcOff := by
  simp [Statement, lengths, Instr.wf]
theorem desaturation (ch : ChanIx) (senseMv : Nat) (sinceOnNs : Nat) (heldNs : Nat) (gmon : Bool) (now : IslandNow) : Statement (.desaturation ch senseMv sinceOnNs heldNs gmon now) := by
  simp [Statement, lengths, Instr.wf]
theorem softTurnoffEnd (ch : ChanIx) (gateMv : Int) (ns : Nat) : Statement (.softTurnoffEnd ch gateMv ns) := by
  simp [Statement, lengths, Instr.wf]
theorem vbpUndervoltage (ch : ChanIx) (mv : Int) (ns : Nat) : Statement (.vbpUndervoltage ch mv ns) := by
  simp [Statement, lengths, Instr.wf]
theorem vbpUvloRelease (ch : ChanIx) (mv : Int) (ns : Nat) : Statement (.vbpUvloRelease ch mv ns) := by
  simp [Statement, lengths, Instr.wf]
theorem vbnOutOfRange (ch : ChanIx) (mv : Int) (ns : Nat) : Statement (.vbnOutOfRange ch mv ns) := by
  simp [Statement, lengths, Instr.wf]
theorem vbsOk (leg : Fin 24) (mv : Int) (ns : Nat) : Statement (.vbsOk leg mv ns) := by
  simp [Statement, lengths, Instr.wf]
theorem vbsWarn (leg : Fin 24) (mv : Int) (ns : Nat) : Statement (.vbsWarn leg mv ns) := by
  simp [Statement, lengths, Instr.wf]
theorem vbsWarnClear (leg : Fin 24) (mv : Int) (ns : Nat) : Statement (.vbsWarnClear leg mv ns) := by
  simp [Statement, lengths, Instr.wf]
theorem vbsUv (leg : Fin 24) (mv : Int) (ns : Nat) : Statement (.vbsUv leg mv ns) := by
  simp [Statement, lengths, Instr.wf]
theorem highIslandStartReturn (leg : Fin 24) (mv : Int) (ns : Nat) : Statement (.highIslandStartReturn leg mv ns) := by
  simp [Statement, lengths, Instr.wf]
theorem bowMeasurement (leg : Fin 24) (ua : Nat) (vbsMv : Int) (switching : Bool) : Statement (.bowMeasurement leg ua vbsMv switching) := by
  simp [Statement, lengths, Instr.wf]
theorem bowFailure (leg : Fin 24) (ua : Nat) (vbsMv : Int) (ms : Nat) : Statement (.bowFailure leg ua vbsMv ms) := by
  simp [Statement, lengths, Instr.wf]
theorem gateMonitorBreach (ch : ChanIx) (on : Bool) (sinceNs : Nat) (heldNs : Nat) (now : IslandNow) : Statement (.gateMonitorBreach ch on sinceNs heldNs now) := by
  simp [Statement, lengths, Instr.wf]
theorem islandOverlapRefusal (ch : ChanIx) (kind : OverlapKind) : Statement (.islandOverlapRefusal ch kind) := by
  simp [Statement, lengths, Instr.wf]
theorem islandLinkLoss (ch : ChanIx) (link : LinkKind) (carrierNs : Nat) (frames : Nat) (bias : Bool) : Statement (.islandLinkLoss ch link carrierNs frames bias) := by
  simp [Statement, lengths, Instr.wf]
theorem islandLinkTrained (ch : ChanIx) (link : LinkKind) : Statement (.islandLinkTrained ch link) := by
  simp [Statement, lengths, Instr.wf]
theorem auxFaultLatch (aux : Fin 4) (code : U16) (now : IslandNow) : Statement (.auxFaultLatch aux code now) := by
  simp [Statement, lengths, Instr.wf]
theorem prechargePulse (m : Fin 8) : Statement (.prechargePulse m) := by
  simp [Statement, lengths, Instr.wf]
theorem prechargeComplete (m : Fin 8) : Statement (.prechargeComplete m) := by
  simp [Statement, lengths, Instr.wf]
theorem prechargeTimeout (m : Fin 8) : Statement (.prechargeTimeout m) := by
  simp [Statement, lengths, Instr.wf]
theorem periodBoundary (b : Fin 8) (peak : Bool) : Statement (.periodBoundary b peak) := by
  simp [Statement, lengths, Instr.wf]
theorem missedUpdateLimit (b : Fin 8) : Statement (.missedUpdateLimit b) := by
  simp [Statement, lengths, Instr.wf]
theorem lockAndMatch (m : Fin 8) : Statement (.lockAndMatch m) := by
  simp [Statement, lengths, Instr.wf]
theorem interlockRefusal (leg : Fin 24) : Statement (.interlockRefusal leg) := by
  simp [Statement, lengths, Instr.wf]
theorem refusalLimit (b : Fin 8) : Statement (.refusalLimit b) := by
  simp [Statement, lengths, Instr.wf]
theorem sixstepToggle (leg : Fin 24) : Statement (.sixstepToggle leg) := by
  simp [Statement, lengths, Instr.wf]
theorem adcTrigger (b : Fin 8) (obs : TrigObs) : Statement (.adcTrigger b obs) := by
  simp only [Statement, lengths, Instr.wf, BootObs.wf, TrigObs.wf]
  simp
  try grind
theorem syncPulse (arrival : Nat) : Statement (.syncPulse arrival) := by
  simp [Statement, lengths, Instr.wf]
theorem syncLoss (periods : Nat) : Statement (.syncLoss periods) := by
  simp [Statement, lengths, Instr.wf]
theorem controlPeriod (m : Fin 8) (obs : CtrlObs) : Statement (.controlPeriod m obs) := by
  simp [Statement, lengths, Instr.wf]
theorem referenceUpdate (m : Fin 8) : Statement (.referenceUpdate m) := by
  simp [Statement, lengths, Instr.wf]
theorem torqueNotReachable (m : Fin 8) : Statement (.torqueNotReachable m) := by
  simp [Statement, lengths, Instr.wf]
theorem trackingError (m : Fin 8) : Statement (.trackingError m) := by
  simp [Statement, lengths, Instr.wf]
theorem xyExcess (m : Fin 8) : Statement (.xyExcess m) := by
  simp [Statement, lengths, Instr.wf]
theorem imFluxTimeout (m : Fin 8) : Statement (.imFluxTimeout m) := by
  simp [Statement, lengths, Instr.wf]
theorem sixstepEntry (m : Fin 8) : Statement (.sixstepEntry m) := by
  simp [Statement, lengths, Instr.wf]
theorem sixstepExit (m : Fin 8) : Statement (.sixstepExit m) := by
  simp [Statement, lengths, Instr.wf]
theorem zcWindowEnd (m : Fin 8) (k : Fin 3) (samples : List ZcSample) : Statement (.zcWindowEnd m k samples) := by
  simp [Statement, lengths, Instr.wf]
theorem zcMissLimit (m : Fin 8) : Statement (.zcMissLimit m) := by
  simp [Statement, lengths, Instr.wf]
theorem orderlyStopEnd (m : Fin 8) : Statement (.orderlyStopEnd m) := by
  simp [Statement, lengths, Instr.wf]
theorem disarmRampEnd (m : Fin 8) : Statement (.disarmRampEnd m) := by
  simp [Statement, lengths, Instr.wf]
theorem retireRampEnd (m : Fin 8) : Statement (.retireRampEnd m) := by
  simp [Statement, lengths, Instr.wf]
theorem rectificationDetect (m : Fin 8) (idc0Mv : Int) (idc1Mv : Int) (us : Nat) : Statement (.rectificationDetect m idc0Mv idc1Mv us) := by
  simp [Statement, lengths, Instr.wf]
theorem checkTimeEnd (m : Fin 8) : Statement (.checkTimeEnd m) := by
  simp [Statement, lengths, Instr.wf]
theorem catchWindowEnd (m : Fin 8) (obs : CatchObs) : Statement (.catchWindowEnd m obs) := by
  simp [Statement, lengths, Instr.wf]
theorem catchExtensionEnd (m : Fin 8) (obs : CatchObs) : Statement (.catchExtensionEnd m obs) := by
  simp [Statement, lengths, Instr.wf]
theorem pluckPulse (m : Fin 8) (obs : PluckObs) : Statement (.pluckPulse m obs) := by
  simp [Statement, lengths, Instr.wf]
theorem observerInvalid (m : Fin 8) : Statement (.observerInvalid m) := by
  simp [Statement, lengths, Instr.wf]
theorem quadEdge (p : Fin 8) (a : Bool) (b : Bool) (held : Nat) : Statement (.quadEdge p a b held) := by
  simp [Statement, lengths, Instr.wf]
theorem dividedOutputEmit (k : Fin 4) : Statement (.dividedOutputEmit k) := by
  simp [Statement, lengths, Instr.wf]
theorem indexMark (p : Fin 8) : Statement (.indexMark p) := by
  simp [Statement, lengths, Instr.wf]
theorem illegalTransition (p : Fin 8) (held : Nat) (z : Bool) : Statement (.illegalTransition p held z) := by
  simp [Statement, lengths, Instr.wf]
theorem illegalEventLimit (p : Fin 8) : Statement (.illegalEventLimit p) := by
  simp [Statement, lengths, Instr.wf]
theorem hallEdge (p : Fin 8) (state : BitVec 3) (heldUs : Nat) : Statement (.hallEdge p state heldUs) := by
  simp [Statement, lengths, Instr.wf]
theorem hallInvalid (p : Fin 8) (state : BitVec 3) (heldUs : Nat) : Statement (.hallInvalid p state heldUs) := by
  simp [Statement, lengths, Instr.wf]
theorem hallInvalidHeld (p : Fin 8) : Statement (.hallInvalidHeld p) := by
  simp [Statement, lengths, Instr.wf]
theorem amplitudeWindowFault (p : Fin 8) (pairs : List (Int × Int)) : Statement (.amplitudeWindowFault p pairs) := by
  simp [Statement, lengths, Instr.wf]
theorem excitationFault (p : Fin 8) (periods : List (Nat × Nat)) : Statement (.excitationFault p periods) := by
  simp [Statement, lengths, Instr.wf]
theorem inputFrequencyLimit (p : Fin 8) : Statement (.inputFrequencyLimit p) := by
  simp [Statement, lengths, Instr.wf]
theorem trackingLock (p : Fin 8) (phase : Nat) : Statement (.trackingLock p phase) := by
  simp [Statement, lengths, Instr.wf]
theorem interfaceRecovery (p : Fin 8) : Statement (.interfaceRecovery p) := by
  simp [Statement, lengths, Instr.wf]
theorem speedWindow (p : Fin 8) : Statement (.speedWindow p) := by
  simp [Statement, lengths, Instr.wf]
theorem speedZeroTimeout (p : Fin 8) : Statement (.speedZeroTimeout p) := by
  simp [Statement, lengths, Instr.wf]
theorem compareLoad (u : Fin 16) : Statement (.compareLoad u) := by
  simp [Statement, lengths, Instr.wf]
theorem compareFire (u : Fin 16) : Statement (.compareFire u) := by
  simp [Statement, lengths, Instr.wf]
theorem compareRearm (u : Fin 16) : Statement (.compareRearm u) := by
  simp [Statement, lengths, Instr.wf]
theorem windowComparatorTrip (bank : Bank) (input : Fin 24) (mv : Int) (heldNs : Nat) : Statement (.windowComparatorTrip bank input mv heldNs) := by
  simp [Statement, lengths, Instr.wf]
theorem currentSumViolation (bank : Bank) (b : Fin 8) : Statement (.currentSumViolation bank b) := by
  simp [Statement, lengths, Instr.wf]
theorem sensorSupplyFault (bank : Bank) (supplyMv : Nat) (refTenthMv : Nat) (us : Nat) : Statement (.sensorSupplyFault bank supplyMv refTenthMv us) := by
  simp [Statement, lengths, Instr.wf]
theorem linkVoltageFormation (g : Fin 2) (readings : List (Option Int)) : Statement (.linkVoltageFormation g readings) := by
  simp only [Statement, lengths, Instr.wf, BootObs.wf, TrigObs.wf]
  simp
  try grind
theorem ovTrip (b : Fin 8) (mv : Int) (heldNs : Nat) : Statement (.ovTrip b mv heldNs) := by
  simp [Statement, lengths, Instr.wf]
theorem ovWarn (g : Fin 2) (us : Nat) : Statement (.ovWarn g us) := by
  simp [Statement, lengths, Instr.wf]
theorem uvLimit (g : Fin 2) (us : Nat) : Statement (.uvLimit g us) := by
  simp [Statement, lengths, Instr.wf]
theorem chopperOn (g : Fin 2) : Statement (.chopperOn g) := by
  simp [Statement, lengths, Instr.wf]
theorem chopperOff (g : Fin 2) : Statement (.chopperOff g) := by
  simp [Statement, lengths, Instr.wf]
theorem chopperUnavailable (g : Fin 2) (ifbMv : Int) : Statement (.chopperUnavailable g ifbMv) := by
  simp [Statement, lengths, Instr.wf]
theorem chopperUncommanded (g : Fin 2) (ifbMv : Int) : Statement (.chopperUncommanded g ifbMv) := by
  simp [Statement, lengths, Instr.wf]
theorem chopperEnergyLimit (g : Fin 2) : Statement (.chopperEnergyLimit g) := by
  simp [Statement, lengths, Instr.wf]
theorem dischargeAutoStart (g : Fin 2) : Statement (.dischargeAutoStart g) := by
  simp [Statement, lengths, Instr.wf]
theorem dischargeEnd (g : Fin 2) : Statement (.dischargeEnd g) := by
  simp [Statement, lengths, Instr.wf]
theorem dischargeSwitchFault (g : Fin 2) (ifbMv : Int) : Statement (.dischargeSwitchFault g ifbMv) := by
  simp [Statement, lengths, Instr.wf]
theorem windingDischargeEnd (m : Fin 8) : Statement (.windingDischargeEnd m) := by
  simp [Statement, lengths, Instr.wf]
theorem dischargeTimeout (g : Fin 2) : Statement (.dischargeTimeout g) := by
  simp [Statement, lengths, Instr.wf]
theorem fastWrite (speeds : List SpeedSeen) : Statement (.fastWrite speeds) := by
  simp only [Statement, lengths, Instr.wf, BootObs.wf, TrigObs.wf]
  simp
  try grind
theorem activeShortUnavailable (b : Fin 8) : Statement (.activeShortUnavailable b) := by
  simp [Statement, lengths, Instr.wf]
theorem lockstepMismatch (pair : Pair) (group : Fin 8) (injCycle : Bool) : Statement (.lockstepMismatch pair group injCycle) := by
  simp [Statement, lengths, Instr.wf]
theorem checkerFailure (pair : Pair) (invalidCode : Bool) : Statement (.checkerFailure pair invalidCode) := by
  simp [Statement, lengths, Instr.wf]
theorem runtimeInjection (pair : Pair) (flagged : Bool) : Statement (.runtimeInjection pair flagged) := by
  simp [Statement, lengths, Instr.wf]
theorem pairRestartDone (pair : Pair) (inj : Nat) (clean : Bool) : Statement (.pairRestartDone pair inj clean) := by
  simp [Statement, lengths, Instr.wf]
theorem torqueMonitorWindow (m : Fin 8) : Statement (.torqueMonitorWindow m) := by
  simp [Statement, lengths, Instr.wf]
theorem heartbeat (sender : Heart) (seq : Byte) (answer : Byte) : Statement (.heartbeat sender seq answer) := by
  simp [Statement, lengths, Instr.wf]
theorem heartbeatMissed (sender : Heart) (dieTicks : Nat) : Statement (.heartbeatMissed sender dieTicks) := by
  simp [Statement, lengths, Instr.wf]
theorem supplyOutOfWindow (sup : Supply) (mv : Nat) (dieTicks : Nat) : Statement (.supplyOutOfWindow sup mv dieTicks) := by
  simp [Statement, lengths, Instr.wf]
theorem supplyLowReset (sup : Supply) (mv : Nat) (us : Nat) : Statement (.supplyLowReset sup mv us) := by
  simp [Statement, lengths, Instr.wf]
theorem supplyResetRelease (sup : Supply) (mv : Nat) (us : Nat) : Statement (.supplyResetRelease sup mv us) := by
  simp [Statement, lengths, Instr.wf]
theorem dieCheck (answerOk : Bool) (ticks : Nat) : Statement (.dieCheck answerOk ticks) := by
  simp [Statement, lengths, Instr.wf]
theorem contactorPullInEnd (n : Fin 4) : Statement (.contactorPullInEnd n) := by
  simp [Statement, lengths, Instr.wf]
theorem contactorFeedbackFail (n : Fin 4) (cfb : BitVec 6) (ms : Nat) : Statement (.contactorFeedbackFail n cfb ms) := by
  simp [Statement, lengths, Instr.wf]
theorem tempMeasurement (readings : List (Fin 104 × Reading)) : Statement (.tempMeasurement readings) := by
  simp [Statement, lengths, Instr.wf]
theorem offsetLearn (sensor : Fin 104) : Statement (.offsetLearn sensor) := by
  simp [Statement, lengths, Instr.wf]
theorem monitorTripCheck (sensor : Fin 104) (r : Reading) : Statement (.monitorTripCheck sensor r) := by
  simp [Statement, lengths, Instr.wf]
theorem tempCompensation (gapA : Int) (refA : Int) (gapB : Int) (refB : Int) : Statement (.tempCompensation gapA refA gapB refB) := by
  simp [Statement, lengths, Instr.wf]
theorem tempCompensationLate : Statement .tempCompensationLate := by
  simp [Statement, lengths, Instr.wf]
theorem packetArrival (port : Port) (bytes : List Byte) (padding : List Byte) : Statement (.packetArrival port bytes padding) := by
  simp [Statement, lengths, Instr.wf]
theorem udpDatagram (eth : Fin 3) (dstPort : U16) (vlan : U16) (payload : UdpData) (srcAddr : U32) (srcPort : U16) : Statement (.udpDatagram eth dstPort vlan payload srcAddr srcPort) := by
  simp [Statement, lengths, Instr.wf]
theorem canSegment (can : Fin 4) (dev : Fin 4) : Statement (.canSegment can dev) := by
  simp [Statement, lengths, Instr.wf]
theorem segmentGapTimeout (can : Fin 4) (dev : Fin 4) : Statement (.segmentGapTimeout can dev) := by
  simp [Statement, lengths, Instr.wf]
theorem fastSetpointFrame (src : SpSource) : Statement (.fastSetpointFrame src) := by
  simp [Statement, lengths, Instr.wf]
theorem dispatch : Statement .dispatch := by
  simp [Statement, lengths, Instr.wf]
theorem contextDeadline (tag : Fin 128) : Statement (.contextDeadline tag) := by
  simp [Statement, lengths, Instr.wf]
theorem sessionIdleTimeout (sid : Fin 8) : Statement (.sessionIdleTimeout sid) := by
  simp [Statement, lengths, Instr.wf]
theorem setpointTimeout (m : Fin 8) : Statement (.setpointTimeout m) := by
  simp [Statement, lengths, Instr.wf]
theorem nonceExpiry (sid : Fin 8) : Statement (.nonceExpiry sid) := by
  simp [Statement, lengths, Instr.wf]
theorem canFrameReceive (can : Fin 4) (id : BitVec 29) (form : CanForm) (data : List Byte) : Statement (.canFrameReceive can id form data) := by
  simp only [Statement, lengths, Instr.wf, BootObs.wf, TrigObs.wf]
  simp
  try grind
theorem canBusOff (can : Fin 4) : Statement (.canBusOff can) := by
  simp [Statement, lengths, Instr.wf]
theorem canBusOffRecovery (can : Fin 4) (occurrences : Nat) : Statement (.canBusOffRecovery can occurrences) := by
  simp [Statement, lengths, Instr.wf]
theorem stateFrame : Statement .stateFrame := by
  simp [Statement, lengths, Instr.wf]
theorem oneShotFail (can : Fin 4) (lostArb : Bool) : Statement (.oneShotFail can lostArb) := by
  simp [Statement, lengths, Instr.wf]
theorem ethLinkDown (p : Fin 3) : Statement (.ethLinkDown p) := by
  simp [Statement, lengths, Instr.wf]
theorem gptpSync (offset : Int) : Statement (.gptpSync offset) := by
  simp [Statement, lengths, Instr.wf]
theorem gptpSyncLoss (intervals : Nat) : Statement (.gptpSyncLoss intervals) := by
  simp [Statement, lengths, Instr.wf]
theorem qbvCycleStart : Statement .qbvCycleStart := by
  simp [Statement, lengths, Instr.wf]
theorem ringFrameReceive (port : RingPort) (f : RingFrame) : Statement (.ringFrameReceive port f) := by
  simp [Statement, lengths, Instr.wf]
theorem ringPeriodicSend : Statement .ringPeriodicSend := by
  simp [Statement, lengths, Instr.wf]
theorem ringLinkSend : Statement .ringLinkSend := by
  simp [Statement, lengths, Instr.wf]
theorem ringDelayReq (port : RingPort) (t1 : Nat) (t2 : Nat) (t3 : Nat) (t4 : Nat) : Statement (.ringDelayReq port t1 t2 t3 t4) := by
  simp [Statement, lengths, Instr.wf]
theorem faultFlagChange : Statement .faultFlagChange := by
  simp [Statement, lengths, Instr.wf]
theorem ringLinkDown (port : RingPort) (why : RingFail) : Statement (.ringLinkDown port why) := by
  simp [Statement, lengths, Instr.wf]
theorem ringLinkRestored (port : RingPort) (ms : Nat) : Statement (.ringLinkRestored port ms) := by
  simp [Statement, lengths, Instr.wf]
theorem cascadeDeviceLost (d : Fin 4) : Statement (.cascadeDeviceLost d) := by
  simp [Statement, lengths, Instr.wf]
theorem masterLost : Statement .masterLost := by
  simp [Statement, lengths, Instr.wf]
theorem recorderFlush : Statement .recorderFlush := by
  simp [Statement, lengths, Instr.wf]
theorem postTriggerEnd : Statement .postTriggerEnd := by
  simp [Statement, lengths, Instr.wf]
theorem trendRecord (channel : Fin 128) : Statement (.trendRecord channel) := by
  simp [Statement, lengths, Instr.wf]
theorem handoverTakeover (inj : Nat) (clean : Bool) : Statement (.handoverTakeover inj clean) := by
  simp [Statement, lengths, Instr.wf]
theorem handoverTimeout : Statement .handoverTimeout := by
  simp [Statement, lengths, Instr.wf]
theorem feReload (n : Fin 8) : Statement (.feReload n) := by
  simp [Statement, lengths, Instr.wf]
theorem islReload (b : Fin 8) (answers : List IslandObs) : Statement (.islReload b answers) := by
  simp only [Statement, lengths, Instr.wf, BootObs.wf, TrigObs.wf]
  simp
  try grind
theorem feRotation (m : Fin 8) : Statement (.feRotation m) := by
  simp [Statement, lengths, Instr.wf]
theorem recalCoverEnd (target : Byte) (index : Byte) (cal : ConvCal) (low : IslandObs) (high : IslandObs) : Statement (.recalCoverEnd target index cal low high) := by
  simp [Statement, lengths, Instr.wf]
theorem feedbackConfirmsCommand (n : Fin 4) (cfb : BitVec 6) : Statement (.feedbackConfirmsCommand n cfb) := by
  simp [Statement, lengths, Instr.wf]
theorem fluxMapDerivationEnd (m : Fin 8) : Statement (.fluxMapDerivationEnd m) := by
  simp [Statement, lengths, Instr.wf]
theorem retentionRestore (dom : Fin 16) (crcOk : Bool) : Statement (.retentionRestore dom crcOk) := by
  simp [Statement, lengths, Instr.wf]
theorem ipv4ReassemblyTimeout (eth : Fin 3) (ms : Nat) : Statement (.ipv4ReassemblyTimeout eth ms) := by
  simp [Statement, lengths, Instr.wf]
theorem ethLinkUp (p : Fin 3) : Statement (.ethLinkUp p) := by
  simp [Statement, lengths, Instr.wf]
theorem arpRequest (p : Fin 3) (target : U32) : Statement (.arpRequest p target) := by
  simp [Statement, lengths, Instr.wf]
theorem icmpEchoRequest (p : Fin 3) (dst : U32) : Statement (.icmpEchoRequest p dst) := by
  simp [Statement, lengths, Instr.wf]
theorem tapInstruction (op : Byte) (vio : Bool) : Statement (.tapInstruction op vio) := by
  simp [Statement, lengths, Instr.wf]

end Sys2Proof.Laws.WellFormed
end

