-- ==== Sys2Proof/Laws/State.lean ====
section
/-! SUPPORT. What an update of one unit reads as, field by field: every other field of the state is unchanged, the changed list is
the list modified at one place, and an accessor sees the unit changed at its own index only. Stated once, so that no proof unfolds
an update of the record. -/

namespace Sys2Proof.Machine

/-! ### modBridge -/

@[simp] theorem modBridge_pins (b : Nat) (f : Bridge → Bridge) (s : State) : (modBridge b f s).pins = s.pins := rfl
@[simp] theorem modBridge_dev (b : Nat) (f : Bridge → Bridge) (s : State) : (modBridge b f s).dev = s.dev := rfl
@[simp] theorem modBridge_time (b : Nat) (f : Bridge → Bridge) (s : State) : (modBridge b f s).time = s.time := rfl
@[simp] theorem modBridge_recd (b : Nat) (f : Bridge → Bridge) (s : State) : (modBridge b f s).recd = s.recd := rfl
@[simp] theorem modBridge_chans (b : Nat) (f : Bridge → Bridge) (s : State) : (modBridge b f s).chans = s.chans := rfl
@[simp] theorem modBridge_bankA (b : Nat) (f : Bridge → Bridge) (s : State) : (modBridge b f s).bankA = s.bankA := rfl
@[simp] theorem modBridge_bankB (b : Nat) (f : Bridge → Bridge) (s : State) : (modBridge b f s).bankB = s.bankB := rfl
@[simp] theorem modBridge_machs (b : Nat) (f : Bridge → Bridge) (s : State) : (modBridge b f s).machs = s.machs := rfl
@[simp] theorem modBridge_lgs (b : Nat) (f : Bridge → Bridge) (s : State) : (modBridge b f s).lgs = s.lgs := rfl
@[simp] theorem modBridge_ctds (b : Nat) (f : Bridge → Bridge) (s : State) : (modBridge b f s).ctds = s.ctds := rfl
@[simp] theorem modBridge_safety (b : Nat) (f : Bridge → Bridge) (s : State) : (modBridge b f s).safety = s.safety := rfl
@[simp] theorem modBridge_pos (b : Nat) (f : Bridge → Bridge) (s : State) : (modBridge b f s).pos = s.pos := rfl
@[simp] theorem modBridge_pouts (b : Nat) (f : Bridge → Bridge) (s : State) : (modBridge b f s).pouts = s.pouts := rfl
@[simp] theorem modBridge_cmps (b : Nat) (f : Bridge → Bridge) (s : State) : (modBridge b f s).cmps = s.cmps := rfl
@[simp] theorem modBridge_temps (b : Nat) (f : Bridge → Bridge) (s : State) : (modBridge b f s).temps = s.temps := rfl
@[simp] theorem modBridge_proto (b : Nat) (f : Bridge → Bridge) (s : State) : (modBridge b f s).proto = s.proto := rfl
@[simp] theorem modBridge_store (b : Nat) (f : Bridge → Bridge) (s : State) : (modBridge b f s).store = s.store := rfl
@[simp] theorem modBridge_clk (b : Nat) (f : Bridge → Bridge) (s : State) : (modBridge b f s).clk = s.clk := rfl
@[simp] theorem modBridge_pwr (b : Nat) (f : Bridge → Bridge) (s : State) : (modBridge b f s).pwr = s.pwr := rfl
@[simp] theorem modBridge_net (b : Nat) (f : Bridge → Bridge) (s : State) : (modBridge b f s).net = s.net := rfl
@[simp] theorem modBridge_out (b : Nat) (f : Bridge → Bridge) (s : State) : (modBridge b f s).out = s.out := rfl
@[simp] theorem modBridge_pending (b : Nat) (f : Bridge → Bridge) (s : State) : (modBridge b f s).pending = s.pending := rfl
@[simp] theorem modBridge_bridges (b : Nat) (f : Bridge → Bridge) (s : State) : (modBridge b f s).bridges = s.bridges.modify b f := rfl

/-! ### modMach -/

@[simp] theorem modMach_pins (m : Nat) (f : Mach → Mach) (s : State) : (modMach m f s).pins = s.pins := rfl
@[simp] theorem modMach_dev (m : Nat) (f : Mach → Mach) (s : State) : (modMach m f s).dev = s.dev := rfl
@[simp] theorem modMach_time (m : Nat) (f : Mach → Mach) (s : State) : (modMach m f s).time = s.time := rfl
@[simp] theorem modMach_recd (m : Nat) (f : Mach → Mach) (s : State) : (modMach m f s).recd = s.recd := rfl
@[simp] theorem modMach_chans (m : Nat) (f : Mach → Mach) (s : State) : (modMach m f s).chans = s.chans := rfl
@[simp] theorem modMach_bridges (m : Nat) (f : Mach → Mach) (s : State) : (modMach m f s).bridges = s.bridges := rfl
@[simp] theorem modMach_bankA (m : Nat) (f : Mach → Mach) (s : State) : (modMach m f s).bankA = s.bankA := rfl
@[simp] theorem modMach_bankB (m : Nat) (f : Mach → Mach) (s : State) : (modMach m f s).bankB = s.bankB := rfl
@[simp] theorem modMach_lgs (m : Nat) (f : Mach → Mach) (s : State) : (modMach m f s).lgs = s.lgs := rfl
@[simp] theorem modMach_ctds (m : Nat) (f : Mach → Mach) (s : State) : (modMach m f s).ctds = s.ctds := rfl
@[simp] theorem modMach_safety (m : Nat) (f : Mach → Mach) (s : State) : (modMach m f s).safety = s.safety := rfl
@[simp] theorem modMach_pos (m : Nat) (f : Mach → Mach) (s : State) : (modMach m f s).pos = s.pos := rfl
@[simp] theorem modMach_pouts (m : Nat) (f : Mach → Mach) (s : State) : (modMach m f s).pouts = s.pouts := rfl
@[simp] theorem modMach_cmps (m : Nat) (f : Mach → Mach) (s : State) : (modMach m f s).cmps = s.cmps := rfl
@[simp] theorem modMach_temps (m : Nat) (f : Mach → Mach) (s : State) : (modMach m f s).temps = s.temps := rfl
@[simp] theorem modMach_proto (m : Nat) (f : Mach → Mach) (s : State) : (modMach m f s).proto = s.proto := rfl
@[simp] theorem modMach_store (m : Nat) (f : Mach → Mach) (s : State) : (modMach m f s).store = s.store := rfl
@[simp] theorem modMach_clk (m : Nat) (f : Mach → Mach) (s : State) : (modMach m f s).clk = s.clk := rfl
@[simp] theorem modMach_pwr (m : Nat) (f : Mach → Mach) (s : State) : (modMach m f s).pwr = s.pwr := rfl
@[simp] theorem modMach_net (m : Nat) (f : Mach → Mach) (s : State) : (modMach m f s).net = s.net := rfl
@[simp] theorem modMach_out (m : Nat) (f : Mach → Mach) (s : State) : (modMach m f s).out = s.out := rfl
@[simp] theorem modMach_pending (m : Nat) (f : Mach → Mach) (s : State) : (modMach m f s).pending = s.pending := rfl
@[simp] theorem modMach_machs (m : Nat) (f : Mach → Mach) (s : State) : (modMach m f s).machs = s.machs.modify m f := rfl

/-! ### modChan -/

@[simp] theorem modChan_pins (c : Nat) (f : Chan → Chan) (s : State) : (modChan c f s).pins = s.pins := rfl
@[simp] theorem modChan_dev (c : Nat) (f : Chan → Chan) (s : State) : (modChan c f s).dev = s.dev := rfl
@[simp] theorem modChan_time (c : Nat) (f : Chan → Chan) (s : State) : (modChan c f s).time = s.time := rfl
@[simp] theorem modChan_recd (c : Nat) (f : Chan → Chan) (s : State) : (modChan c f s).recd = s.recd := rfl
@[simp] theorem modChan_bridges (c : Nat) (f : Chan → Chan) (s : State) : (modChan c f s).bridges = s.bridges := rfl
@[simp] theorem modChan_bankA (c : Nat) (f : Chan → Chan) (s : State) : (modChan c f s).bankA = s.bankA := rfl
@[simp] theorem modChan_bankB (c : Nat) (f : Chan → Chan) (s : State) : (modChan c f s).bankB = s.bankB := rfl
@[simp] theorem modChan_machs (c : Nat) (f : Chan → Chan) (s : State) : (modChan c f s).machs = s.machs := rfl
@[simp] theorem modChan_lgs (c : Nat) (f : Chan → Chan) (s : State) : (modChan c f s).lgs = s.lgs := rfl
@[simp] theorem modChan_ctds (c : Nat) (f : Chan → Chan) (s : State) : (modChan c f s).ctds = s.ctds := rfl
@[simp] theorem modChan_safety (c : Nat) (f : Chan → Chan) (s : State) : (modChan c f s).safety = s.safety := rfl
@[simp] theorem modChan_pos (c : Nat) (f : Chan → Chan) (s : State) : (modChan c f s).pos = s.pos := rfl
@[simp] theorem modChan_pouts (c : Nat) (f : Chan → Chan) (s : State) : (modChan c f s).pouts = s.pouts := rfl
@[simp] theorem modChan_cmps (c : Nat) (f : Chan → Chan) (s : State) : (modChan c f s).cmps = s.cmps := rfl
@[simp] theorem modChan_temps (c : Nat) (f : Chan → Chan) (s : State) : (modChan c f s).temps = s.temps := rfl
@[simp] theorem modChan_proto (c : Nat) (f : Chan → Chan) (s : State) : (modChan c f s).proto = s.proto := rfl
@[simp] theorem modChan_store (c : Nat) (f : Chan → Chan) (s : State) : (modChan c f s).store = s.store := rfl
@[simp] theorem modChan_clk (c : Nat) (f : Chan → Chan) (s : State) : (modChan c f s).clk = s.clk := rfl
@[simp] theorem modChan_pwr (c : Nat) (f : Chan → Chan) (s : State) : (modChan c f s).pwr = s.pwr := rfl
@[simp] theorem modChan_net (c : Nat) (f : Chan → Chan) (s : State) : (modChan c f s).net = s.net := rfl
@[simp] theorem modChan_out (c : Nat) (f : Chan → Chan) (s : State) : (modChan c f s).out = s.out := rfl
@[simp] theorem modChan_pending (c : Nat) (f : Chan → Chan) (s : State) : (modChan c f s).pending = s.pending := rfl
@[simp] theorem modChan_chans (c : Nat) (f : Chan → Chan) (s : State) : (modChan c f s).chans = s.chans.modify c f := rfl

/-! ### modLg -/

@[simp] theorem modLg_pins (g : Nat) (f : LinkGroup → LinkGroup) (s : State) : (modLg g f s).pins = s.pins := rfl
@[simp] theorem modLg_dev (g : Nat) (f : LinkGroup → LinkGroup) (s : State) : (modLg g f s).dev = s.dev := rfl
@[simp] theorem modLg_time (g : Nat) (f : LinkGroup → LinkGroup) (s : State) : (modLg g f s).time = s.time := rfl
@[simp] theorem modLg_recd (g : Nat) (f : LinkGroup → LinkGroup) (s : State) : (modLg g f s).recd = s.recd := rfl
@[simp] theorem modLg_chans (g : Nat) (f : LinkGroup → LinkGroup) (s : State) : (modLg g f s).chans = s.chans := rfl
@[simp] theorem modLg_bridges (g : Nat) (f : LinkGroup → LinkGroup) (s : State) : (modLg g f s).bridges = s.bridges := rfl
@[simp] theorem modLg_bankA (g : Nat) (f : LinkGroup → LinkGroup) (s : State) : (modLg g f s).bankA = s.bankA := rfl
@[simp] theorem modLg_bankB (g : Nat) (f : LinkGroup → LinkGroup) (s : State) : (modLg g f s).bankB = s.bankB := rfl
@[simp] theorem modLg_machs (g : Nat) (f : LinkGroup → LinkGroup) (s : State) : (modLg g f s).machs = s.machs := rfl
@[simp] theorem modLg_ctds (g : Nat) (f : LinkGroup → LinkGroup) (s : State) : (modLg g f s).ctds = s.ctds := rfl
@[simp] theorem modLg_safety (g : Nat) (f : LinkGroup → LinkGroup) (s : State) : (modLg g f s).safety = s.safety := rfl
@[simp] theorem modLg_pos (g : Nat) (f : LinkGroup → LinkGroup) (s : State) : (modLg g f s).pos = s.pos := rfl
@[simp] theorem modLg_pouts (g : Nat) (f : LinkGroup → LinkGroup) (s : State) : (modLg g f s).pouts = s.pouts := rfl
@[simp] theorem modLg_cmps (g : Nat) (f : LinkGroup → LinkGroup) (s : State) : (modLg g f s).cmps = s.cmps := rfl
@[simp] theorem modLg_temps (g : Nat) (f : LinkGroup → LinkGroup) (s : State) : (modLg g f s).temps = s.temps := rfl
@[simp] theorem modLg_proto (g : Nat) (f : LinkGroup → LinkGroup) (s : State) : (modLg g f s).proto = s.proto := rfl
@[simp] theorem modLg_store (g : Nat) (f : LinkGroup → LinkGroup) (s : State) : (modLg g f s).store = s.store := rfl
@[simp] theorem modLg_clk (g : Nat) (f : LinkGroup → LinkGroup) (s : State) : (modLg g f s).clk = s.clk := rfl
@[simp] theorem modLg_pwr (g : Nat) (f : LinkGroup → LinkGroup) (s : State) : (modLg g f s).pwr = s.pwr := rfl
@[simp] theorem modLg_net (g : Nat) (f : LinkGroup → LinkGroup) (s : State) : (modLg g f s).net = s.net := rfl
@[simp] theorem modLg_out (g : Nat) (f : LinkGroup → LinkGroup) (s : State) : (modLg g f s).out = s.out := rfl
@[simp] theorem modLg_pending (g : Nat) (f : LinkGroup → LinkGroup) (s : State) : (modLg g f s).pending = s.pending := rfl
@[simp] theorem modLg_lgs (g : Nat) (f : LinkGroup → LinkGroup) (s : State) : (modLg g f s).lgs = s.lgs.modify g f := rfl

/-! ### modCtd -/

@[simp] theorem modCtd_pins (n : Nat) (f : Contactor → Contactor) (s : State) : (modCtd n f s).pins = s.pins := rfl
@[simp] theorem modCtd_dev (n : Nat) (f : Contactor → Contactor) (s : State) : (modCtd n f s).dev = s.dev := rfl
@[simp] theorem modCtd_time (n : Nat) (f : Contactor → Contactor) (s : State) : (modCtd n f s).time = s.time := rfl
@[simp] theorem modCtd_recd (n : Nat) (f : Contactor → Contactor) (s : State) : (modCtd n f s).recd = s.recd := rfl
@[simp] theorem modCtd_chans (n : Nat) (f : Contactor → Contactor) (s : State) : (modCtd n f s).chans = s.chans := rfl
@[simp] theorem modCtd_bridges (n : Nat) (f : Contactor → Contactor) (s : State) : (modCtd n f s).bridges = s.bridges := rfl
@[simp] theorem modCtd_bankA (n : Nat) (f : Contactor → Contactor) (s : State) : (modCtd n f s).bankA = s.bankA := rfl
@[simp] theorem modCtd_bankB (n : Nat) (f : Contactor → Contactor) (s : State) : (modCtd n f s).bankB = s.bankB := rfl
@[simp] theorem modCtd_machs (n : Nat) (f : Contactor → Contactor) (s : State) : (modCtd n f s).machs = s.machs := rfl
@[simp] theorem modCtd_lgs (n : Nat) (f : Contactor → Contactor) (s : State) : (modCtd n f s).lgs = s.lgs := rfl
@[simp] theorem modCtd_safety (n : Nat) (f : Contactor → Contactor) (s : State) : (modCtd n f s).safety = s.safety := rfl
@[simp] theorem modCtd_pos (n : Nat) (f : Contactor → Contactor) (s : State) : (modCtd n f s).pos = s.pos := rfl
@[simp] theorem modCtd_pouts (n : Nat) (f : Contactor → Contactor) (s : State) : (modCtd n f s).pouts = s.pouts := rfl
@[simp] theorem modCtd_cmps (n : Nat) (f : Contactor → Contactor) (s : State) : (modCtd n f s).cmps = s.cmps := rfl
@[simp] theorem modCtd_temps (n : Nat) (f : Contactor → Contactor) (s : State) : (modCtd n f s).temps = s.temps := rfl
@[simp] theorem modCtd_proto (n : Nat) (f : Contactor → Contactor) (s : State) : (modCtd n f s).proto = s.proto := rfl
@[simp] theorem modCtd_store (n : Nat) (f : Contactor → Contactor) (s : State) : (modCtd n f s).store = s.store := rfl
@[simp] theorem modCtd_clk (n : Nat) (f : Contactor → Contactor) (s : State) : (modCtd n f s).clk = s.clk := rfl
@[simp] theorem modCtd_pwr (n : Nat) (f : Contactor → Contactor) (s : State) : (modCtd n f s).pwr = s.pwr := rfl
@[simp] theorem modCtd_net (n : Nat) (f : Contactor → Contactor) (s : State) : (modCtd n f s).net = s.net := rfl
@[simp] theorem modCtd_out (n : Nat) (f : Contactor → Contactor) (s : State) : (modCtd n f s).out = s.out := rfl
@[simp] theorem modCtd_pending (n : Nat) (f : Contactor → Contactor) (s : State) : (modCtd n f s).pending = s.pending := rfl
@[simp] theorem modCtd_ctds (n : Nat) (f : Contactor → Contactor) (s : State) : (modCtd n f s).ctds = s.ctds.modify n f := rfl

/-! ### modPos -/

@[simp] theorem modPos_pins (p : Nat) (f : PosIf → PosIf) (s : State) : (modPos p f s).pins = s.pins := rfl
@[simp] theorem modPos_dev (p : Nat) (f : PosIf → PosIf) (s : State) : (modPos p f s).dev = s.dev := rfl
@[simp] theorem modPos_time (p : Nat) (f : PosIf → PosIf) (s : State) : (modPos p f s).time = s.time := rfl
@[simp] theorem modPos_recd (p : Nat) (f : PosIf → PosIf) (s : State) : (modPos p f s).recd = s.recd := rfl
@[simp] theorem modPos_chans (p : Nat) (f : PosIf → PosIf) (s : State) : (modPos p f s).chans = s.chans := rfl
@[simp] theorem modPos_bridges (p : Nat) (f : PosIf → PosIf) (s : State) : (modPos p f s).bridges = s.bridges := rfl
@[simp] theorem modPos_bankA (p : Nat) (f : PosIf → PosIf) (s : State) : (modPos p f s).bankA = s.bankA := rfl
@[simp] theorem modPos_bankB (p : Nat) (f : PosIf → PosIf) (s : State) : (modPos p f s).bankB = s.bankB := rfl
@[simp] theorem modPos_machs (p : Nat) (f : PosIf → PosIf) (s : State) : (modPos p f s).machs = s.machs := rfl
@[simp] theorem modPos_lgs (p : Nat) (f : PosIf → PosIf) (s : State) : (modPos p f s).lgs = s.lgs := rfl
@[simp] theorem modPos_ctds (p : Nat) (f : PosIf → PosIf) (s : State) : (modPos p f s).ctds = s.ctds := rfl
@[simp] theorem modPos_safety (p : Nat) (f : PosIf → PosIf) (s : State) : (modPos p f s).safety = s.safety := rfl
@[simp] theorem modPos_pouts (p : Nat) (f : PosIf → PosIf) (s : State) : (modPos p f s).pouts = s.pouts := rfl
@[simp] theorem modPos_cmps (p : Nat) (f : PosIf → PosIf) (s : State) : (modPos p f s).cmps = s.cmps := rfl
@[simp] theorem modPos_temps (p : Nat) (f : PosIf → PosIf) (s : State) : (modPos p f s).temps = s.temps := rfl
@[simp] theorem modPos_proto (p : Nat) (f : PosIf → PosIf) (s : State) : (modPos p f s).proto = s.proto := rfl
@[simp] theorem modPos_store (p : Nat) (f : PosIf → PosIf) (s : State) : (modPos p f s).store = s.store := rfl
@[simp] theorem modPos_clk (p : Nat) (f : PosIf → PosIf) (s : State) : (modPos p f s).clk = s.clk := rfl
@[simp] theorem modPos_pwr (p : Nat) (f : PosIf → PosIf) (s : State) : (modPos p f s).pwr = s.pwr := rfl
@[simp] theorem modPos_net (p : Nat) (f : PosIf → PosIf) (s : State) : (modPos p f s).net = s.net := rfl
@[simp] theorem modPos_out (p : Nat) (f : PosIf → PosIf) (s : State) : (modPos p f s).out = s.out := rfl
@[simp] theorem modPos_pending (p : Nat) (f : PosIf → PosIf) (s : State) : (modPos p f s).pending = s.pending := rfl
@[simp] theorem modPos_pos (p : Nat) (f : PosIf → PosIf) (s : State) : (modPos p f s).pos = s.pos.modify p f := rfl

/-! ### modPout -/

@[simp] theorem modPout_pins (k : Nat) (f : Pout → Pout) (s : State) : (modPout k f s).pins = s.pins := rfl
@[simp] theorem modPout_dev (k : Nat) (f : Pout → Pout) (s : State) : (modPout k f s).dev = s.dev := rfl
@[simp] theorem modPout_time (k : Nat) (f : Pout → Pout) (s : State) : (modPout k f s).time = s.time := rfl
@[simp] theorem modPout_recd (k : Nat) (f : Pout → Pout) (s : State) : (modPout k f s).recd = s.recd := rfl
@[simp] theorem modPout_chans (k : Nat) (f : Pout → Pout) (s : State) : (modPout k f s).chans = s.chans := rfl
@[simp] theorem modPout_bridges (k : Nat) (f : Pout → Pout) (s : State) : (modPout k f s).bridges = s.bridges := rfl
@[simp] theorem modPout_bankA (k : Nat) (f : Pout → Pout) (s : State) : (modPout k f s).bankA = s.bankA := rfl
@[simp] theorem modPout_bankB (k : Nat) (f : Pout → Pout) (s : State) : (modPout k f s).bankB = s.bankB := rfl
@[simp] theorem modPout_machs (k : Nat) (f : Pout → Pout) (s : State) : (modPout k f s).machs = s.machs := rfl
@[simp] theorem modPout_lgs (k : Nat) (f : Pout → Pout) (s : State) : (modPout k f s).lgs = s.lgs := rfl
@[simp] theorem modPout_ctds (k : Nat) (f : Pout → Pout) (s : State) : (modPout k f s).ctds = s.ctds := rfl
@[simp] theorem modPout_safety (k : Nat) (f : Pout → Pout) (s : State) : (modPout k f s).safety = s.safety := rfl
@[simp] theorem modPout_pos (k : Nat) (f : Pout → Pout) (s : State) : (modPout k f s).pos = s.pos := rfl
@[simp] theorem modPout_cmps (k : Nat) (f : Pout → Pout) (s : State) : (modPout k f s).cmps = s.cmps := rfl
@[simp] theorem modPout_temps (k : Nat) (f : Pout → Pout) (s : State) : (modPout k f s).temps = s.temps := rfl
@[simp] theorem modPout_proto (k : Nat) (f : Pout → Pout) (s : State) : (modPout k f s).proto = s.proto := rfl
@[simp] theorem modPout_store (k : Nat) (f : Pout → Pout) (s : State) : (modPout k f s).store = s.store := rfl
@[simp] theorem modPout_clk (k : Nat) (f : Pout → Pout) (s : State) : (modPout k f s).clk = s.clk := rfl
@[simp] theorem modPout_pwr (k : Nat) (f : Pout → Pout) (s : State) : (modPout k f s).pwr = s.pwr := rfl
@[simp] theorem modPout_net (k : Nat) (f : Pout → Pout) (s : State) : (modPout k f s).net = s.net := rfl
@[simp] theorem modPout_out (k : Nat) (f : Pout → Pout) (s : State) : (modPout k f s).out = s.out := rfl
@[simp] theorem modPout_pending (k : Nat) (f : Pout → Pout) (s : State) : (modPout k f s).pending = s.pending := rfl
@[simp] theorem modPout_pouts (k : Nat) (f : Pout → Pout) (s : State) : (modPout k f s).pouts = s.pouts.modify k f := rfl

/-! ### modCmp -/

@[simp] theorem modCmp_pins (u : Nat) (f : CmpUnit → CmpUnit) (s : State) : (modCmp u f s).pins = s.pins := rfl
@[simp] theorem modCmp_dev (u : Nat) (f : CmpUnit → CmpUnit) (s : State) : (modCmp u f s).dev = s.dev := rfl
@[simp] theorem modCmp_time (u : Nat) (f : CmpUnit → CmpUnit) (s : State) : (modCmp u f s).time = s.time := rfl
@[simp] theorem modCmp_recd (u : Nat) (f : CmpUnit → CmpUnit) (s : State) : (modCmp u f s).recd = s.recd := rfl
@[simp] theorem modCmp_chans (u : Nat) (f : CmpUnit → CmpUnit) (s : State) : (modCmp u f s).chans = s.chans := rfl
@[simp] theorem modCmp_bridges (u : Nat) (f : CmpUnit → CmpUnit) (s : State) : (modCmp u f s).bridges = s.bridges := rfl
@[simp] theorem modCmp_bankA (u : Nat) (f : CmpUnit → CmpUnit) (s : State) : (modCmp u f s).bankA = s.bankA := rfl
@[simp] theorem modCmp_bankB (u : Nat) (f : CmpUnit → CmpUnit) (s : State) : (modCmp u f s).bankB = s.bankB := rfl
@[simp] theorem modCmp_machs (u : Nat) (f : CmpUnit → CmpUnit) (s : State) : (modCmp u f s).machs = s.machs := rfl
@[simp] theorem modCmp_lgs (u : Nat) (f : CmpUnit → CmpUnit) (s : State) : (modCmp u f s).lgs = s.lgs := rfl
@[simp] theorem modCmp_ctds (u : Nat) (f : CmpUnit → CmpUnit) (s : State) : (modCmp u f s).ctds = s.ctds := rfl
@[simp] theorem modCmp_safety (u : Nat) (f : CmpUnit → CmpUnit) (s : State) : (modCmp u f s).safety = s.safety := rfl
@[simp] theorem modCmp_pos (u : Nat) (f : CmpUnit → CmpUnit) (s : State) : (modCmp u f s).pos = s.pos := rfl
@[simp] theorem modCmp_pouts (u : Nat) (f : CmpUnit → CmpUnit) (s : State) : (modCmp u f s).pouts = s.pouts := rfl
@[simp] theorem modCmp_temps (u : Nat) (f : CmpUnit → CmpUnit) (s : State) : (modCmp u f s).temps = s.temps := rfl
@[simp] theorem modCmp_proto (u : Nat) (f : CmpUnit → CmpUnit) (s : State) : (modCmp u f s).proto = s.proto := rfl
@[simp] theorem modCmp_store (u : Nat) (f : CmpUnit → CmpUnit) (s : State) : (modCmp u f s).store = s.store := rfl
@[simp] theorem modCmp_clk (u : Nat) (f : CmpUnit → CmpUnit) (s : State) : (modCmp u f s).clk = s.clk := rfl
@[simp] theorem modCmp_pwr (u : Nat) (f : CmpUnit → CmpUnit) (s : State) : (modCmp u f s).pwr = s.pwr := rfl
@[simp] theorem modCmp_net (u : Nat) (f : CmpUnit → CmpUnit) (s : State) : (modCmp u f s).net = s.net := rfl
@[simp] theorem modCmp_out (u : Nat) (f : CmpUnit → CmpUnit) (s : State) : (modCmp u f s).out = s.out := rfl
@[simp] theorem modCmp_pending (u : Nat) (f : CmpUnit → CmpUnit) (s : State) : (modCmp u f s).pending = s.pending := rfl
@[simp] theorem modCmp_cmps (u : Nat) (f : CmpUnit → CmpUnit) (s : State) : (modCmp u f s).cmps = s.cmps.modify u f := rfl

/-! ### modTemp -/

@[simp] theorem modTemp_pins (i : Nat) (f : Sensor → Sensor) (s : State) : (modTemp i f s).pins = s.pins := rfl
@[simp] theorem modTemp_dev (i : Nat) (f : Sensor → Sensor) (s : State) : (modTemp i f s).dev = s.dev := rfl
@[simp] theorem modTemp_time (i : Nat) (f : Sensor → Sensor) (s : State) : (modTemp i f s).time = s.time := rfl
@[simp] theorem modTemp_recd (i : Nat) (f : Sensor → Sensor) (s : State) : (modTemp i f s).recd = s.recd := rfl
@[simp] theorem modTemp_chans (i : Nat) (f : Sensor → Sensor) (s : State) : (modTemp i f s).chans = s.chans := rfl
@[simp] theorem modTemp_bridges (i : Nat) (f : Sensor → Sensor) (s : State) : (modTemp i f s).bridges = s.bridges := rfl
@[simp] theorem modTemp_bankA (i : Nat) (f : Sensor → Sensor) (s : State) : (modTemp i f s).bankA = s.bankA := rfl
@[simp] theorem modTemp_bankB (i : Nat) (f : Sensor → Sensor) (s : State) : (modTemp i f s).bankB = s.bankB := rfl
@[simp] theorem modTemp_machs (i : Nat) (f : Sensor → Sensor) (s : State) : (modTemp i f s).machs = s.machs := rfl
@[simp] theorem modTemp_lgs (i : Nat) (f : Sensor → Sensor) (s : State) : (modTemp i f s).lgs = s.lgs := rfl
@[simp] theorem modTemp_ctds (i : Nat) (f : Sensor → Sensor) (s : State) : (modTemp i f s).ctds = s.ctds := rfl
@[simp] theorem modTemp_safety (i : Nat) (f : Sensor → Sensor) (s : State) : (modTemp i f s).safety = s.safety := rfl
@[simp] theorem modTemp_pos (i : Nat) (f : Sensor → Sensor) (s : State) : (modTemp i f s).pos = s.pos := rfl
@[simp] theorem modTemp_pouts (i : Nat) (f : Sensor → Sensor) (s : State) : (modTemp i f s).pouts = s.pouts := rfl
@[simp] theorem modTemp_cmps (i : Nat) (f : Sensor → Sensor) (s : State) : (modTemp i f s).cmps = s.cmps := rfl
@[simp] theorem modTemp_proto (i : Nat) (f : Sensor → Sensor) (s : State) : (modTemp i f s).proto = s.proto := rfl
@[simp] theorem modTemp_store (i : Nat) (f : Sensor → Sensor) (s : State) : (modTemp i f s).store = s.store := rfl
@[simp] theorem modTemp_clk (i : Nat) (f : Sensor → Sensor) (s : State) : (modTemp i f s).clk = s.clk := rfl
@[simp] theorem modTemp_pwr (i : Nat) (f : Sensor → Sensor) (s : State) : (modTemp i f s).pwr = s.pwr := rfl
@[simp] theorem modTemp_net (i : Nat) (f : Sensor → Sensor) (s : State) : (modTemp i f s).net = s.net := rfl
@[simp] theorem modTemp_out (i : Nat) (f : Sensor → Sensor) (s : State) : (modTemp i f s).out = s.out := rfl
@[simp] theorem modTemp_pending (i : Nat) (f : Sensor → Sensor) (s : State) : (modTemp i f s).pending = s.pending := rfl
@[simp] theorem modTemp_temps (i : Nat) (f : Sensor → Sensor) (s : State) : (modTemp i f s).temps = s.temps.modify i f := rfl

/-! ### modDom -/

@[simp] theorem modDom_pins (n : Nat) (f : Dom → Dom) (s : State) : (modDom n f s).pins = s.pins := rfl
@[simp] theorem modDom_dev (n : Nat) (f : Dom → Dom) (s : State) : (modDom n f s).dev = s.dev := rfl
@[simp] theorem modDom_time (n : Nat) (f : Dom → Dom) (s : State) : (modDom n f s).time = s.time := rfl
@[simp] theorem modDom_recd (n : Nat) (f : Dom → Dom) (s : State) : (modDom n f s).recd = s.recd := rfl
@[simp] theorem modDom_chans (n : Nat) (f : Dom → Dom) (s : State) : (modDom n f s).chans = s.chans := rfl
@[simp] theorem modDom_bridges (n : Nat) (f : Dom → Dom) (s : State) : (modDom n f s).bridges = s.bridges := rfl
@[simp] theorem modDom_bankA (n : Nat) (f : Dom → Dom) (s : State) : (modDom n f s).bankA = s.bankA := rfl
@[simp] theorem modDom_bankB (n : Nat) (f : Dom → Dom) (s : State) : (modDom n f s).bankB = s.bankB := rfl
@[simp] theorem modDom_machs (n : Nat) (f : Dom → Dom) (s : State) : (modDom n f s).machs = s.machs := rfl
@[simp] theorem modDom_lgs (n : Nat) (f : Dom → Dom) (s : State) : (modDom n f s).lgs = s.lgs := rfl
@[simp] theorem modDom_ctds (n : Nat) (f : Dom → Dom) (s : State) : (modDom n f s).ctds = s.ctds := rfl
@[simp] theorem modDom_safety (n : Nat) (f : Dom → Dom) (s : State) : (modDom n f s).safety = s.safety := rfl
@[simp] theorem modDom_pos (n : Nat) (f : Dom → Dom) (s : State) : (modDom n f s).pos = s.pos := rfl
@[simp] theorem modDom_pouts (n : Nat) (f : Dom → Dom) (s : State) : (modDom n f s).pouts = s.pouts := rfl
@[simp] theorem modDom_cmps (n : Nat) (f : Dom → Dom) (s : State) : (modDom n f s).cmps = s.cmps := rfl
@[simp] theorem modDom_temps (n : Nat) (f : Dom → Dom) (s : State) : (modDom n f s).temps = s.temps := rfl
@[simp] theorem modDom_proto (n : Nat) (f : Dom → Dom) (s : State) : (modDom n f s).proto = s.proto := rfl
@[simp] theorem modDom_store (n : Nat) (f : Dom → Dom) (s : State) : (modDom n f s).store = s.store := rfl
@[simp] theorem modDom_clk (n : Nat) (f : Dom → Dom) (s : State) : (modDom n f s).clk = s.clk := rfl
@[simp] theorem modDom_net (n : Nat) (f : Dom → Dom) (s : State) : (modDom n f s).net = s.net := rfl
@[simp] theorem modDom_out (n : Nat) (f : Dom → Dom) (s : State) : (modDom n f s).out = s.out := rfl
@[simp] theorem modDom_pending (n : Nat) (f : Dom → Dom) (s : State) : (modDom n f s).pending = s.pending := rfl
@[simp] theorem modDom_pwr_d5Hold (n : Nat) (f : Dom → Dom) (s : State) :
    (modDom n f s).pwr.d5Hold = s.pwr.d5Hold := rfl
@[simp] theorem modDom_pwr_monCur (n : Nat) (f : Dom → Dom) (s : State) :
    (modDom n f s).pwr.monCur = s.pwr.monCur := rfl
@[simp] theorem modDom_pwr_monReq (n : Nat) (f : Dom → Dom) (s : State) :
    (modDom n f s).pwr.monReq = s.pwr.monReq := rfl
@[simp] theorem modDom_pwr_mainCur (n : Nat) (f : Dom → Dom) (s : State) :
    (modDom n f s).pwr.mainCur = s.pwr.mainCur := rfl
@[simp] theorem modDom_pwr_mainReq (n : Nat) (f : Dom → Dom) (s : State) :
    (modDom n f s).pwr.mainReq = s.pwr.mainReq := rfl
@[simp] theorem modDom_pwr_capped (n : Nat) (f : Dom → Dom) (s : State) :
    (modDom n f s).pwr.capped = s.pwr.capped := rfl
@[simp] theorem modDom_pwr_overrun (n : Nat) (f : Dom → Dom) (s : State) :
    (modDom n f s).pwr.overrun = s.pwr.overrun := rfl
@[simp] theorem modDom_pwr_busyMain (n : Nat) (f : Dom → Dom) (s : State) :
    (modDom n f s).pwr.busyMain = s.pwr.busyMain := rfl
@[simp] theorem modDom_pwr_busyMon (n : Nat) (f : Dom → Dom) (s : State) :
    (modDom n f s).pwr.busyMon = s.pwr.busyMon := rfl
@[simp] theorem modDom_pwr_tgtMain (n : Nat) (f : Dom → Dom) (s : State) :
    (modDom n f s).pwr.tgtMain = s.pwr.tgtMain := rfl
@[simp] theorem modDom_pwr_tgtMon (n : Nat) (f : Dom → Dom) (s : State) :
    (modDom n f s).pwr.tgtMon = s.pwr.tgtMon := rfl
@[simp] theorem modDom_pwr_waitMain (n : Nat) (f : Dom → Dom) (s : State) :
    (modDom n f s).pwr.waitMain = s.pwr.waitMain := rfl
@[simp] theorem modDom_pwr_waitMon (n : Nat) (f : Dom → Dom) (s : State) :
    (modDom n f s).pwr.waitMon = s.pwr.waitMon := rfl
@[simp] theorem modDom_pwr_depthNext (n : Nat) (f : Dom → Dom) (s : State) :
    (modDom n f s).pwr.depthNext = s.pwr.depthNext := rfl
@[simp] theorem modDom_pwr_canWake (n : Nat) (f : Dom → Dom) (s : State) :
    (modDom n f s).pwr.canWake = s.pwr.canWake := rfl
@[simp] theorem modDom_pwr_rtcArmed (n : Nat) (f : Dom → Dom) (s : State) :
    (modDom n f s).pwr.rtcArmed = s.pwr.rtcArmed := rfl
@[simp] theorem modDom_pwr_cause (n : Nat) (f : Dom → Dom) (s : State) :
    (modDom n f s).pwr.cause = s.pwr.cause := rfl
@[simp] theorem modDom_pwr_retBanks (n : Nat) (f : Dom → Dom) (s : State) :
    (modDom n f s).pwr.retBanks = s.pwr.retBanks := rfl
@[simp] theorem modDom_pwr_alarm (n : Nat) (f : Dom → Dom) (s : State) :
    (modDom n f s).pwr.alarm = s.pwr.alarm := rfl
@[simp] theorem modDom_pwr_sby (n : Nat) (f : Dom → Dom) (s : State) :
    (modDom n f s).pwr.sby = s.pwr.sby := rfl
@[simp] theorem modDom_pwr_sbyPending (n : Nat) (f : Dom → Dom) (s : State) :
    (modDom n f s).pwr.sbyPending = s.pwr.sbyPending := rfl
@[simp] theorem modDom_pwr_listening (n : Nat) (f : Dom → Dom) (s : State) :
    (modDom n f s).pwr.listening = s.pwr.listening := rfl
@[simp] theorem modDom_pwr_saved (n : Nat) (f : Dom → Dom) (s : State) :
    (modDom n f s).pwr.saved = s.pwr.saved := rfl
@[simp] theorem modDom_pwr_wuf (n : Nat) (f : Dom → Dom) (s : State) :
    (modDom n f s).pwr.wuf = s.pwr.wuf := rfl
@[simp] theorem modDom_pwr_held (n : Nat) (f : Dom → Dom) (s : State) :
    (modDom n f s).pwr.held = s.pwr.held := rfl
@[simp] theorem modDom_pwr_kl30Lost (n : Nat) (f : Dom → Dom) (s : State) :
    (modDom n f s).pwr.kl30Lost = s.pwr.kl30Lost := rfl
@[simp] theorem modDom_pwr_kl30Conf (n : Nat) (f : Dom → Dom) (s : State) :
    (modDom n f s).pwr.kl30Conf = s.pwr.kl30Conf := rfl
@[simp] theorem modDom_pwr_doms (n : Nat) (f : Dom → Dom) (s : State) :
    (modDom n f s).pwr.doms = s.pwr.doms.modify n f := rfl

/-! ### modCan -/

@[simp] theorem modCan_pins (n : Nat) (f : CanCtl → CanCtl) (s : State) : (modCan n f s).pins = s.pins := rfl
@[simp] theorem modCan_dev (n : Nat) (f : CanCtl → CanCtl) (s : State) : (modCan n f s).dev = s.dev := rfl
@[simp] theorem modCan_time (n : Nat) (f : CanCtl → CanCtl) (s : State) : (modCan n f s).time = s.time := rfl
@[simp] theorem modCan_recd (n : Nat) (f : CanCtl → CanCtl) (s : State) : (modCan n f s).recd = s.recd := rfl
@[simp] theorem modCan_chans (n : Nat) (f : CanCtl → CanCtl) (s : State) : (modCan n f s).chans = s.chans := rfl
@[simp] theorem modCan_bridges (n : Nat) (f : CanCtl → CanCtl) (s : State) : (modCan n f s).bridges = s.bridges := rfl
@[simp] theorem modCan_bankA (n : Nat) (f : CanCtl → CanCtl) (s : State) : (modCan n f s).bankA = s.bankA := rfl
@[simp] theorem modCan_bankB (n : Nat) (f : CanCtl → CanCtl) (s : State) : (modCan n f s).bankB = s.bankB := rfl
@[simp] theorem modCan_machs (n : Nat) (f : CanCtl → CanCtl) (s : State) : (modCan n f s).machs = s.machs := rfl
@[simp] theorem modCan_lgs (n : Nat) (f : CanCtl → CanCtl) (s : State) : (modCan n f s).lgs = s.lgs := rfl
@[simp] theorem modCan_ctds (n : Nat) (f : CanCtl → CanCtl) (s : State) : (modCan n f s).ctds = s.ctds := rfl
@[simp] theorem modCan_safety (n : Nat) (f : CanCtl → CanCtl) (s : State) : (modCan n f s).safety = s.safety := rfl
@[simp] theorem modCan_pos (n : Nat) (f : CanCtl → CanCtl) (s : State) : (modCan n f s).pos = s.pos := rfl
@[simp] theorem modCan_pouts (n : Nat) (f : CanCtl → CanCtl) (s : State) : (modCan n f s).pouts = s.pouts := rfl
@[simp] theorem modCan_cmps (n : Nat) (f : CanCtl → CanCtl) (s : State) : (modCan n f s).cmps = s.cmps := rfl
@[simp] theorem modCan_temps (n : Nat) (f : CanCtl → CanCtl) (s : State) : (modCan n f s).temps = s.temps := rfl
@[simp] theorem modCan_proto (n : Nat) (f : CanCtl → CanCtl) (s : State) : (modCan n f s).proto = s.proto := rfl
@[simp] theorem modCan_store (n : Nat) (f : CanCtl → CanCtl) (s : State) : (modCan n f s).store = s.store := rfl
@[simp] theorem modCan_clk (n : Nat) (f : CanCtl → CanCtl) (s : State) : (modCan n f s).clk = s.clk := rfl
@[simp] theorem modCan_pwr (n : Nat) (f : CanCtl → CanCtl) (s : State) : (modCan n f s).pwr = s.pwr := rfl
@[simp] theorem modCan_out (n : Nat) (f : CanCtl → CanCtl) (s : State) : (modCan n f s).out = s.out := rfl
@[simp] theorem modCan_pending (n : Nat) (f : CanCtl → CanCtl) (s : State) : (modCan n f s).pending = s.pending := rfl
@[simp] theorem modCan_net_eth (n : Nat) (f : CanCtl → CanCtl) (s : State) :
    (modCan n f s).net.eth = s.net.eth := rfl
@[simp] theorem modCan_net_canTx (n : Nat) (f : CanCtl → CanCtl) (s : State) :
    (modCan n f s).net.canTx = s.net.canTx := rfl
@[simp] theorem modCan_net_egress (n : Nat) (f : CanCtl → CanCtl) (s : State) :
    (modCan n f s).net.egress = s.net.egress := rfl
@[simp] theorem modCan_net_stAt (n : Nat) (f : CanCtl → CanCtl) (s : State) :
    (modCan n f s).net.stAt = s.net.stAt := rfl
@[simp] theorem modCan_net_ringAt (n : Nat) (f : CanCtl → CanCtl) (s : State) :
    (modCan n f s).net.ringAt = s.net.ringAt := rfl
@[simp] theorem modCan_net_lkAt (n : Nat) (f : CanCtl → CanCtl) (s : State) :
    (modCan n f s).net.lkAt = s.net.lkAt := rfl
@[simp] theorem modCan_net_frags (n : Nat) (f : CanCtl → CanCtl) (s : State) :
    (modCan n f s).net.frags = s.net.frags := rfl
@[simp] theorem modCan_net_gptpSync (n : Nat) (f : CanCtl → CanCtl) (s : State) :
    (modCan n f s).net.gptpSync = s.net.gptpSync := rfl
@[simp] theorem modCan_net_qbv (n : Nat) (f : CanCtl → CanCtl) (s : State) :
    (modCan n f s).net.qbv = s.net.qbv := rfl
@[simp] theorem modCan_net_gptpOfs (n : Nat) (f : CanCtl → CanCtl) (s : State) :
    (modCan n f s).net.gptpOfs = s.net.gptpOfs := rfl
@[simp] theorem modCan_net_qbvStart (n : Nat) (f : CanCtl → CanCtl) (s : State) :
    (modCan n f s).net.qbvStart = s.net.qbvStart := rfl
@[simp] theorem modCan_net_gcl (n : Nat) (f : CanCtl → CanCtl) (s : State) :
    (modCan n f s).net.gcl = s.net.gcl := rfl
@[simp] theorem modCan_net_gclPorts (n : Nat) (f : CanCtl → CanCtl) (s : State) :
    (modCan n f s).net.gclPorts = s.net.gclPorts := rfl
@[simp] theorem modCan_net_icmpCnt (n : Nat) (f : CanCtl → CanCtl) (s : State) :
    (modCan n f s).net.icmpCnt = s.net.icmpCnt := rfl
@[simp] theorem modCan_net_icmpWin (n : Nat) (f : CanCtl → CanCtl) (s : State) :
    (modCan n f s).net.icmpWin = s.net.icmpWin := rfl
@[simp] theorem modCan_net_rin (n : Nat) (f : CanCtl → CanCtl) (s : State) :
    (modCan n f s).net.rin = s.net.rin := rfl
@[simp] theorem modCan_net_rout (n : Nat) (f : CanCtl → CanCtl) (s : State) :
    (modCan n f s).net.rout = s.net.rout := rfl
@[simp] theorem modCan_net_rem (n : Nat) (f : CanCtl → CanCtl) (s : State) :
    (modCan n f s).net.rem = s.net.rem := rfl
@[simp] theorem modCan_net_ends (n : Nat) (f : CanCtl → CanCtl) (s : State) :
    (modCan n f s).net.ends = s.net.ends := rfl
@[simp] theorem modCan_net_chainRec (n : Nat) (f : CanCtl → CanCtl) (s : State) :
    (modCan n f s).net.chainRec = s.net.chainRec := rfl
@[simp] theorem modCan_net_seqs (n : Nat) (f : CanCtl → CanCtl) (s : State) :
    (modCan n f s).net.seqs = s.net.seqs := rfl
@[simp] theorem modCan_net_sentLog (n : Nat) (f : CanCtl → CanCtl) (s : State) :
    (modCan n f s).net.sentLog = s.net.sentLog := rfl
@[simp] theorem modCan_net_conflict (n : Nat) (f : CanCtl → CanCtl) (s : State) :
    (modCan n f s).net.conflict = s.net.conflict := rfl
@[simp] theorem modCan_net_sent (n : Nat) (f : CanCtl → CanCtl) (s : State) :
    (modCan n f s).net.sent = s.net.sent := rfl
@[simp] theorem modCan_net_noMaster (n : Nat) (f : CanCtl → CanCtl) (s : State) :
    (modCan n f s).net.noMaster = s.net.noMaster := rfl
@[simp] theorem modCan_net_timeSince (n : Nat) (f : CanCtl → CanCtl) (s : State) :
    (modCan n f s).net.timeSince = s.net.timeSince := rfl
@[simp] theorem modCan_net_lastTime (n : Nat) (f : CanCtl → CanCtl) (s : State) :
    (modCan n f s).net.lastTime = s.net.lastTime := rfl
@[simp] theorem modCan_net_ofs (n : Nat) (f : CanCtl → CanCtl) (s : State) :
    (modCan n f s).net.ofs = s.net.ofs := rfl
@[simp] theorem modCan_net_syncDiff (n : Nat) (f : CanCtl → CanCtl) (s : State) :
    (modCan n f s).net.syncDiff = s.net.syncDiff := rfl
@[simp] theorem modCan_net_slew (n : Nat) (f : CanCtl → CanCtl) (s : State) :
    (modCan n f s).net.slew = s.net.slew := rfl
@[simp] theorem modCan_net_epoch (n : Nat) (f : CanCtl → CanCtl) (s : State) :
    (modCan n f s).net.epoch = s.net.epoch := rfl
@[simp] theorem modCan_net_epochFix (n : Nat) (f : CanCtl → CanCtl) (s : State) :
    (modCan n f s).net.epochFix = s.net.epochFix := rfl
@[simp] theorem modCan_net_syncLost (n : Nat) (f : CanCtl → CanCtl) (s : State) :
    (modCan n f s).net.syncLost = s.net.syncLost := rfl
@[simp] theorem modCan_net_can (n : Nat) (f : CanCtl → CanCtl) (s : State) :
    (modCan n f s).net.can = s.net.can.modify n f := rfl

/-! ### modCtx -/

@[simp] theorem modCtx_pins (t : Nat) (f : Ctx → Ctx) (s : State) : (modCtx t f s).pins = s.pins := rfl
@[simp] theorem modCtx_dev (t : Nat) (f : Ctx → Ctx) (s : State) : (modCtx t f s).dev = s.dev := rfl
@[simp] theorem modCtx_time (t : Nat) (f : Ctx → Ctx) (s : State) : (modCtx t f s).time = s.time := rfl
@[simp] theorem modCtx_recd (t : Nat) (f : Ctx → Ctx) (s : State) : (modCtx t f s).recd = s.recd := rfl
@[simp] theorem modCtx_chans (t : Nat) (f : Ctx → Ctx) (s : State) : (modCtx t f s).chans = s.chans := rfl
@[simp] theorem modCtx_bridges (t : Nat) (f : Ctx → Ctx) (s : State) : (modCtx t f s).bridges = s.bridges := rfl
@[simp] theorem modCtx_bankA (t : Nat) (f : Ctx → Ctx) (s : State) : (modCtx t f s).bankA = s.bankA := rfl
@[simp] theorem modCtx_bankB (t : Nat) (f : Ctx → Ctx) (s : State) : (modCtx t f s).bankB = s.bankB := rfl
@[simp] theorem modCtx_machs (t : Nat) (f : Ctx → Ctx) (s : State) : (modCtx t f s).machs = s.machs := rfl
@[simp] theorem modCtx_lgs (t : Nat) (f : Ctx → Ctx) (s : State) : (modCtx t f s).lgs = s.lgs := rfl
@[simp] theorem modCtx_ctds (t : Nat) (f : Ctx → Ctx) (s : State) : (modCtx t f s).ctds = s.ctds := rfl
@[simp] theorem modCtx_safety (t : Nat) (f : Ctx → Ctx) (s : State) : (modCtx t f s).safety = s.safety := rfl
@[simp] theorem modCtx_pos (t : Nat) (f : Ctx → Ctx) (s : State) : (modCtx t f s).pos = s.pos := rfl
@[simp] theorem modCtx_pouts (t : Nat) (f : Ctx → Ctx) (s : State) : (modCtx t f s).pouts = s.pouts := rfl
@[simp] theorem modCtx_cmps (t : Nat) (f : Ctx → Ctx) (s : State) : (modCtx t f s).cmps = s.cmps := rfl
@[simp] theorem modCtx_temps (t : Nat) (f : Ctx → Ctx) (s : State) : (modCtx t f s).temps = s.temps := rfl
@[simp] theorem modCtx_store (t : Nat) (f : Ctx → Ctx) (s : State) : (modCtx t f s).store = s.store := rfl
@[simp] theorem modCtx_clk (t : Nat) (f : Ctx → Ctx) (s : State) : (modCtx t f s).clk = s.clk := rfl
@[simp] theorem modCtx_pwr (t : Nat) (f : Ctx → Ctx) (s : State) : (modCtx t f s).pwr = s.pwr := rfl
@[simp] theorem modCtx_net (t : Nat) (f : Ctx → Ctx) (s : State) : (modCtx t f s).net = s.net := rfl
@[simp] theorem modCtx_out (t : Nat) (f : Ctx → Ctx) (s : State) : (modCtx t f s).out = s.out := rfl
@[simp] theorem modCtx_pending (t : Nat) (f : Ctx → Ctx) (s : State) : (modCtx t f s).pending = s.pending := rfl
@[simp] theorem modCtx_proto_sess (t : Nat) (f : Ctx → Ctx) (s : State) :
    (modCtx t f s).proto.sess = s.proto.sess := rfl
@[simp] theorem modCtx_proto_opened (t : Nat) (f : Ctx → Ctx) (s : State) :
    (modCtx t f s).proto.opened = s.proto.opened := rfl
@[simp] theorem modCtx_proto_urgentQ (t : Nat) (f : Ctx → Ctx) (s : State) :
    (modCtx t f s).proto.urgentQ = s.proto.urgentQ := rfl
@[simp] theorem modCtx_proto_normalQ (t : Nat) (f : Ctx → Ctx) (s : State) :
    (modCtx t f s).proto.normalQ = s.proto.normalQ := rfl
@[simp] theorem modCtx_proto_arrivals (t : Nat) (f : Ctx → Ctx) (s : State) :
    (modCtx t f s).proto.arrivals = s.proto.arrivals := rfl
@[simp] theorem modCtx_proto_discarded (t : Nat) (f : Ctx → Ctx) (s : State) :
    (modCtx t f s).proto.discarded = s.proto.discarded := rfl
@[simp] theorem modCtx_proto_unauth (t : Nat) (f : Ctx → Ctx) (s : State) :
    (modCtx t f s).proto.unauth = s.proto.unauth := rfl
@[simp] theorem modCtx_proto_unauthWin (t : Nat) (f : Ctx → Ctx) (s : State) :
    (modCtx t f s).proto.unauthWin = s.proto.unauthWin := rfl
@[simp] theorem modCtx_proto_unauthDrop (t : Nat) (f : Ctx → Ctx) (s : State) :
    (modCtx t f s).proto.unauthDrop = s.proto.unauthDrop := rfl
@[simp] theorem modCtx_proto_reasm (t : Nat) (f : Ctx → Ctx) (s : State) :
    (modCtx t f s).proto.reasm = s.proto.reasm := rfl
@[simp] theorem modCtx_proto_spIgnored (t : Nat) (f : Ctx → Ctx) (s : State) :
    (modCtx t f s).proto.spIgnored = s.proto.spIgnored := rfl
@[simp] theorem modCtx_proto_spSrc (t : Nat) (f : Ctx → Ctx) (s : State) :
    (modCtx t f s).proto.spSrc = s.proto.spSrc := rfl
@[simp] theorem modCtx_proto_stored (t : Nat) (f : Ctx → Ctx) (s : State) :
    (modCtx t f s).proto.stored = s.proto.stored := rfl
@[simp] theorem modCtx_proto_unreach (t : Nat) (f : Ctx → Ctx) (s : State) :
    (modCtx t f s).proto.unreach = s.proto.unreach := rfl
@[simp] theorem modCtx_proto_origin (t : Nat) (f : Ctx → Ctx) (s : State) :
    (modCtx t f s).proto.origin = s.proto.origin := rfl
@[simp] theorem modCtx_proto_ctx (t : Nat) (f : Ctx → Ctx) (s : State) :
    (modCtx t f s).proto.ctx = s.proto.ctx.modify t f := rfl

/-! ### modSlots -/

@[simp] theorem modSlots_pins (c : ImgClass) (f : ClassSlots → ClassSlots) (s : State) : (modSlots c f s).pins = s.pins := rfl
@[simp] theorem modSlots_dev (c : ImgClass) (f : ClassSlots → ClassSlots) (s : State) : (modSlots c f s).dev = s.dev := rfl
@[simp] theorem modSlots_time (c : ImgClass) (f : ClassSlots → ClassSlots) (s : State) : (modSlots c f s).time = s.time := rfl
@[simp] theorem modSlots_recd (c : ImgClass) (f : ClassSlots → ClassSlots) (s : State) : (modSlots c f s).recd = s.recd := rfl
@[simp] theorem modSlots_chans (c : ImgClass) (f : ClassSlots → ClassSlots) (s : State) : (modSlots c f s).chans = s.chans := rfl
@[simp] theorem modSlots_bridges (c : ImgClass) (f : ClassSlots → ClassSlots) (s : State) : (modSlots c f s).bridges = s.bridges := rfl
@[simp] theorem modSlots_bankA (c : ImgClass) (f : ClassSlots → ClassSlots) (s : State) : (modSlots c f s).bankA = s.bankA := rfl
@[simp] theorem modSlots_bankB (c : ImgClass) (f : ClassSlots → ClassSlots) (s : State) : (modSlots c f s).bankB = s.bankB := rfl
@[simp] theorem modSlots_machs (c : ImgClass) (f : ClassSlots → ClassSlots) (s : State) : (modSlots c f s).machs = s.machs := rfl
@[simp] theorem modSlots_lgs (c : ImgClass) (f : ClassSlots → ClassSlots) (s : State) : (modSlots c f s).lgs = s.lgs := rfl
@[simp] theorem modSlots_ctds (c : ImgClass) (f : ClassSlots → ClassSlots) (s : State) : (modSlots c f s).ctds = s.ctds := rfl
@[simp] theorem modSlots_safety (c : ImgClass) (f : ClassSlots → ClassSlots) (s : State) : (modSlots c f s).safety = s.safety := rfl
@[simp] theorem modSlots_pos (c : ImgClass) (f : ClassSlots → ClassSlots) (s : State) : (modSlots c f s).pos = s.pos := rfl
@[simp] theorem modSlots_pouts (c : ImgClass) (f : ClassSlots → ClassSlots) (s : State) : (modSlots c f s).pouts = s.pouts := rfl
@[simp] theorem modSlots_cmps (c : ImgClass) (f : ClassSlots → ClassSlots) (s : State) : (modSlots c f s).cmps = s.cmps := rfl
@[simp] theorem modSlots_temps (c : ImgClass) (f : ClassSlots → ClassSlots) (s : State) : (modSlots c f s).temps = s.temps := rfl
@[simp] theorem modSlots_proto (c : ImgClass) (f : ClassSlots → ClassSlots) (s : State) : (modSlots c f s).proto = s.proto := rfl
@[simp] theorem modSlots_clk (c : ImgClass) (f : ClassSlots → ClassSlots) (s : State) : (modSlots c f s).clk = s.clk := rfl
@[simp] theorem modSlots_pwr (c : ImgClass) (f : ClassSlots → ClassSlots) (s : State) : (modSlots c f s).pwr = s.pwr := rfl
@[simp] theorem modSlots_net (c : ImgClass) (f : ClassSlots → ClassSlots) (s : State) : (modSlots c f s).net = s.net := rfl
@[simp] theorem modSlots_out (c : ImgClass) (f : ClassSlots → ClassSlots) (s : State) : (modSlots c f s).out = s.out := rfl
@[simp] theorem modSlots_pending (c : ImgClass) (f : ClassSlots → ClassSlots) (s : State) : (modSlots c f s).pending = s.pending := rfl
@[simp] theorem modSlots_store_act (c : ImgClass) (f : ClassSlots → ClassSlots) (s : State) :
    (modSlots c f s).store.act = s.store.act := rfl
@[simp] theorem modSlots_store_psetOk (c : ImgClass) (f : ClassSlots → ClassSlots) (s : State) :
    (modSlots c f s).store.psetOk = s.store.psetOk := rfl
@[simp] theorem modSlots_store_csetOk (c : ImgClass) (f : ClassSlots → ClassSlots) (s : State) :
    (modSlots c f s).store.csetOk = s.store.csetOk := rfl
@[simp] theorem modSlots_store_staging (c : ImgClass) (f : ClassSlots → ClassSlots) (s : State) :
    (modSlots c f s).store.staging = s.store.staging := rfl
@[simp] theorem modSlots_store_pending (c : ImgClass) (f : ClassSlots → ClassSlots) (s : State) :
    (modSlots c f s).store.pending = s.store.pending := rfl
@[simp] theorem modSlots_store_upd (c : ImgClass) (f : ClassSlots → ClassSlots) (s : State) :
    (modSlots c f s).store.upd = s.store.upd := rfl
@[simp] theorem modSlots_store_handover (c : ImgClass) (f : ClassSlots → ClassSlots) (s : State) :
    (modSlots c f s).store.handover = s.store.handover := rfl
@[simp] theorem modSlots_store_csign (c : ImgClass) (f : ClassSlots → ClassSlots) (s : State) :
    (modSlots c f s).store.csign = s.store.csign := rfl
@[simp] theorem modSlots_store_fuses (c : ImgClass) (f : ClassSlots → ClassSlots) (s : State) :
    (modSlots c f s).store.fuses = s.store.fuses := rfl
@[simp] theorem modSlots_store_owners (c : ImgClass) (f : ClassSlots → ClassSlots) (s : State) :
    (modSlots c f s).store.owners = s.store.owners := rfl
@[simp] theorem modSlots_store_owner (c : ImgClass) (f : ClassSlots → ClassSlots) (s : State) :
    (modSlots c f s).store.owner = s.store.owner := rfl
@[simp] theorem modSlots_store_startup (c : ImgClass) (f : ClassSlots → ClassSlots) (s : State) :
    (modSlots c f s).store.startup = s.store.startup := rfl
@[simp] theorem modSlots_store_mapB (c : ImgClass) (f : ClassSlots → ClassSlots) (s : State) :
    (modSlots c f s).store.mapB = s.store.mapB := rfl
@[simp] theorem modSlots_store_mapL (c : ImgClass) (f : ClassSlots → ClassSlots) (s : State) :
    (modSlots c f s).store.mapL = s.store.mapL := rfl
@[simp] theorem modSlots_store_mapP (c : ImgClass) (f : ClassSlots → ClassSlots) (s : State) :
    (modSlots c f s).store.mapP = s.store.mapP := rfl
@[simp] theorem modSlots_store_nonces (c : ImgClass) (f : ClassSlots → ClassSlots) (s : State) :
    (modSlots c f s).store.nonces = s.store.nonces := rfl
@[simp] theorem modSlots_store_recal (c : ImgClass) (f : ClassSlots → ClassSlots) (s : State) :
    (modSlots c f s).store.recal = s.store.recal := rfl
@[simp] theorem modSlots_store_slots (c : ImgClass) (f : ClassSlots → ClassSlots) (s : State) :
    (modSlots c f s).store.slots = s.store.slots.modify (classIx c) f := rfl

/-! ### modSess -/

@[simp] theorem modSess_pins (i : Nat) (f : Session → Session) (s : State) : (modSess i f s).pins = s.pins := by
  unfold modSess
  split <;> rfl
@[simp] theorem modSess_dev (i : Nat) (f : Session → Session) (s : State) : (modSess i f s).dev = s.dev := by
  unfold modSess
  split <;> rfl
@[simp] theorem modSess_time (i : Nat) (f : Session → Session) (s : State) : (modSess i f s).time = s.time := by
  unfold modSess
  split <;> rfl
@[simp] theorem modSess_recd (i : Nat) (f : Session → Session) (s : State) : (modSess i f s).recd = s.recd := by
  unfold modSess
  split <;> rfl
@[simp] theorem modSess_chans (i : Nat) (f : Session → Session) (s : State) : (modSess i f s).chans = s.chans := by
  unfold modSess
  split <;> rfl
@[simp] theorem modSess_bridges (i : Nat) (f : Session → Session) (s : State) : (modSess i f s).bridges = s.bridges := by
  unfold modSess
  split <;> rfl
@[simp] theorem modSess_bankA (i : Nat) (f : Session → Session) (s : State) : (modSess i f s).bankA = s.bankA := by
  unfold modSess
  split <;> rfl
@[simp] theorem modSess_bankB (i : Nat) (f : Session → Session) (s : State) : (modSess i f s).bankB = s.bankB := by
  unfold modSess
  split <;> rfl
@[simp] theorem modSess_machs (i : Nat) (f : Session → Session) (s : State) : (modSess i f s).machs = s.machs := by
  unfold modSess
  split <;> rfl
@[simp] theorem modSess_lgs (i : Nat) (f : Session → Session) (s : State) : (modSess i f s).lgs = s.lgs := by
  unfold modSess
  split <;> rfl
@[simp] theorem modSess_ctds (i : Nat) (f : Session → Session) (s : State) : (modSess i f s).ctds = s.ctds := by
  unfold modSess
  split <;> rfl
@[simp] theorem modSess_safety (i : Nat) (f : Session → Session) (s : State) : (modSess i f s).safety = s.safety := by
  unfold modSess
  split <;> rfl
@[simp] theorem modSess_pos (i : Nat) (f : Session → Session) (s : State) : (modSess i f s).pos = s.pos := by
  unfold modSess
  split <;> rfl
@[simp] theorem modSess_pouts (i : Nat) (f : Session → Session) (s : State) : (modSess i f s).pouts = s.pouts := by
  unfold modSess
  split <;> rfl
@[simp] theorem modSess_cmps (i : Nat) (f : Session → Session) (s : State) : (modSess i f s).cmps = s.cmps := by
  unfold modSess
  split <;> rfl
@[simp] theorem modSess_temps (i : Nat) (f : Session → Session) (s : State) : (modSess i f s).temps = s.temps := by
  unfold modSess
  split <;> rfl
@[simp] theorem modSess_store (i : Nat) (f : Session → Session) (s : State) : (modSess i f s).store = s.store := by
  unfold modSess
  split <;> rfl
@[simp] theorem modSess_clk (i : Nat) (f : Session → Session) (s : State) : (modSess i f s).clk = s.clk := by
  unfold modSess
  split <;> rfl
@[simp] theorem modSess_pwr (i : Nat) (f : Session → Session) (s : State) : (modSess i f s).pwr = s.pwr := by
  unfold modSess
  split <;> rfl
@[simp] theorem modSess_net (i : Nat) (f : Session → Session) (s : State) : (modSess i f s).net = s.net := by
  unfold modSess
  split <;> rfl
@[simp] theorem modSess_out (i : Nat) (f : Session → Session) (s : State) : (modSess i f s).out = s.out := by
  unfold modSess
  split <;> rfl
@[simp] theorem modSess_pending (i : Nat) (f : Session → Session) (s : State) : (modSess i f s).pending = s.pending := by
  unfold modSess
  split <;> rfl
@[simp] theorem modSess_proto_opened (i : Nat) (f : Session → Session) (s : State) :
    (modSess i f s).proto.opened = s.proto.opened := by
  unfold modSess
  split <;> rfl
@[simp] theorem modSess_proto_ctx (i : Nat) (f : Session → Session) (s : State) :
    (modSess i f s).proto.ctx = s.proto.ctx := by
  unfold modSess
  split <;> rfl
@[simp] theorem modSess_proto_left (i : Nat) (f : Session → Session) (s : State) :
    (modSess i f s).proto.left = s.proto.left := by
  unfold modSess
  split <;> rfl
@[simp] theorem modSess_proto_urgentQ (i : Nat) (f : Session → Session) (s : State) :
    (modSess i f s).proto.urgentQ = s.proto.urgentQ := by
  unfold modSess
  split <;> rfl
@[simp] theorem modSess_proto_normalQ (i : Nat) (f : Session → Session) (s : State) :
    (modSess i f s).proto.normalQ = s.proto.normalQ := by
  unfold modSess
  split <;> rfl
@[simp] theorem modSess_proto_arrivals (i : Nat) (f : Session → Session) (s : State) :
    (modSess i f s).proto.arrivals = s.proto.arrivals := by
  unfold modSess
  split <;> rfl
@[simp] theorem modSess_proto_discarded (i : Nat) (f : Session → Session) (s : State) :
    (modSess i f s).proto.discarded = s.proto.discarded := by
  unfold modSess
  split <;> rfl
@[simp] theorem modSess_proto_unauth (i : Nat) (f : Session → Session) (s : State) :
    (modSess i f s).proto.unauth = s.proto.unauth := by
  unfold modSess
  split <;> rfl
@[simp] theorem modSess_proto_unauthWin (i : Nat) (f : Session → Session) (s : State) :
    (modSess i f s).proto.unauthWin = s.proto.unauthWin := by
  unfold modSess
  split <;> rfl
@[simp] theorem modSess_proto_unauthDrop (i : Nat) (f : Session → Session) (s : State) :
    (modSess i f s).proto.unauthDrop = s.proto.unauthDrop := by
  unfold modSess
  split <;> rfl
@[simp] theorem modSess_proto_reasm (i : Nat) (f : Session → Session) (s : State) :
    (modSess i f s).proto.reasm = s.proto.reasm := by
  unfold modSess
  split <;> rfl
@[simp] theorem modSess_proto_spIgnored (i : Nat) (f : Session → Session) (s : State) :
    (modSess i f s).proto.spIgnored = s.proto.spIgnored := by
  unfold modSess
  split <;> rfl
@[simp] theorem modSess_proto_spSrc (i : Nat) (f : Session → Session) (s : State) :
    (modSess i f s).proto.spSrc = s.proto.spSrc := by
  unfold modSess
  split <;> rfl
@[simp] theorem modSess_proto_stored (i : Nat) (f : Session → Session) (s : State) :
    (modSess i f s).proto.stored = s.proto.stored := by
  unfold modSess
  split <;> rfl
@[simp] theorem modSess_proto_unreach (i : Nat) (f : Session → Session) (s : State) :
    (modSess i f s).proto.unreach = s.proto.unreach := by
  unfold modSess
  split <;> rfl
@[simp] theorem modSess_proto_origin (i : Nat) (f : Session → Session) (s : State) :
    (modSess i f s).proto.origin = s.proto.origin := by
  unfold modSess
  split <;> rfl

/-! ### emit and drawFree -/

@[simp] theorem emit_pins (o : Output) (s : State) : (emit o s).pins = s.pins := rfl
@[simp] theorem emit_dev (o : Output) (s : State) : (emit o s).dev = s.dev := rfl
@[simp] theorem emit_time (o : Output) (s : State) : (emit o s).time = s.time := rfl
@[simp] theorem emit_recd (o : Output) (s : State) : (emit o s).recd = s.recd := rfl
@[simp] theorem emit_chans (o : Output) (s : State) : (emit o s).chans = s.chans := rfl
@[simp] theorem emit_bridges (o : Output) (s : State) : (emit o s).bridges = s.bridges := rfl
@[simp] theorem emit_bankA (o : Output) (s : State) : (emit o s).bankA = s.bankA := rfl
@[simp] theorem emit_bankB (o : Output) (s : State) : (emit o s).bankB = s.bankB := rfl
@[simp] theorem emit_machs (o : Output) (s : State) : (emit o s).machs = s.machs := rfl
@[simp] theorem emit_lgs (o : Output) (s : State) : (emit o s).lgs = s.lgs := rfl
@[simp] theorem emit_ctds (o : Output) (s : State) : (emit o s).ctds = s.ctds := rfl
@[simp] theorem emit_safety (o : Output) (s : State) : (emit o s).safety = s.safety := rfl
@[simp] theorem emit_pos (o : Output) (s : State) : (emit o s).pos = s.pos := rfl
@[simp] theorem emit_pouts (o : Output) (s : State) : (emit o s).pouts = s.pouts := rfl
@[simp] theorem emit_cmps (o : Output) (s : State) : (emit o s).cmps = s.cmps := rfl
@[simp] theorem emit_temps (o : Output) (s : State) : (emit o s).temps = s.temps := rfl
@[simp] theorem emit_proto (o : Output) (s : State) : (emit o s).proto = s.proto := rfl
@[simp] theorem emit_store (o : Output) (s : State) : (emit o s).store = s.store := rfl
@[simp] theorem emit_clk (o : Output) (s : State) : (emit o s).clk = s.clk := rfl
@[simp] theorem emit_pwr (o : Output) (s : State) : (emit o s).pwr = s.pwr := rfl
@[simp] theorem emit_net (o : Output) (s : State) : (emit o s).net = s.net := rfl
@[simp] theorem emit_pending (o : Output) (s : State) : (emit o s).pending = s.pending := rfl
@[simp] theorem emit_out (o : Output) (s : State) : (emit o s).out = s.out ++ [o] := rfl
@[simp] theorem drawFree_pins (s : State) : (drawFree s).2.pins = s.pins := rfl
@[simp] theorem drawFree_dev (s : State) : (drawFree s).2.dev = s.dev := rfl
@[simp] theorem drawFree_recd (s : State) : (drawFree s).2.recd = s.recd := rfl
@[simp] theorem drawFree_chans (s : State) : (drawFree s).2.chans = s.chans := rfl
@[simp] theorem drawFree_bridges (s : State) : (drawFree s).2.bridges = s.bridges := rfl
@[simp] theorem drawFree_bankA (s : State) : (drawFree s).2.bankA = s.bankA := rfl
@[simp] theorem drawFree_bankB (s : State) : (drawFree s).2.bankB = s.bankB := rfl
@[simp] theorem drawFree_machs (s : State) : (drawFree s).2.machs = s.machs := rfl
@[simp] theorem drawFree_lgs (s : State) : (drawFree s).2.lgs = s.lgs := rfl
@[simp] theorem drawFree_ctds (s : State) : (drawFree s).2.ctds = s.ctds := rfl
@[simp] theorem drawFree_safety (s : State) : (drawFree s).2.safety = s.safety := rfl
@[simp] theorem drawFree_pos (s : State) : (drawFree s).2.pos = s.pos := rfl
@[simp] theorem drawFree_pouts (s : State) : (drawFree s).2.pouts = s.pouts := rfl
@[simp] theorem drawFree_cmps (s : State) : (drawFree s).2.cmps = s.cmps := rfl
@[simp] theorem drawFree_temps (s : State) : (drawFree s).2.temps = s.temps := rfl
@[simp] theorem drawFree_proto (s : State) : (drawFree s).2.proto = s.proto := rfl
@[simp] theorem drawFree_store (s : State) : (drawFree s).2.store = s.store := rfl
@[simp] theorem drawFree_clk (s : State) : (drawFree s).2.clk = s.clk := rfl
@[simp] theorem drawFree_pwr (s : State) : (drawFree s).2.pwr = s.pwr := rfl
@[simp] theorem drawFree_net (s : State) : (drawFree s).2.net = s.net := rfl
@[simp] theorem drawFree_out (s : State) : (drawFree s).2.out = s.out := rfl
@[simp] theorem drawFree_pending (s : State) : (drawFree s).2.pending = s.pending := rfl
@[simp] theorem drawFree_index (s : State) : (drawFree s).1 = s.time.free := rfl
@[simp] theorem drawFree_free (s : State) : (drawFree s).2.time.free = s.time.free + 1 := rfl
@[simp] theorem drawFree_time_dev (s : State) : (drawFree s).2.time.dev = s.time.dev := rfl

/-! ### Accessors after an update -/

@[simp] theorem bridgeAt_modBridge_self (i : Nat) (f : Bridge → Bridge) (s : State) (h : i < s.bridges.length) :
    bridgeAt (modBridge i f s) i = f (bridgeAt s i) := by
  simp [bridgeAt, modBridge, h]
theorem bridgeAt_modBridge_ne (i j : Nat) (f : Bridge → Bridge) (s : State) (h : i ≠ j) :
    bridgeAt (modBridge i f s) j = bridgeAt s j := by
  simp [bridgeAt, modBridge, h]

@[simp] theorem machAt_modMach_self (i : Nat) (f : Mach → Mach) (s : State) (h : i < s.machs.length) :
    machAt (modMach i f s) i = f (machAt s i) := by
  simp [machAt, modMach, h]
theorem machAt_modMach_ne (i j : Nat) (f : Mach → Mach) (s : State) (h : i ≠ j) :
    machAt (modMach i f s) j = machAt s j := by
  simp [machAt, modMach, h]

@[simp] theorem chanAt_modChan_self (i : Nat) (f : Chan → Chan) (s : State) (h : i < s.chans.length) :
    chanAt (modChan i f s) i = f (chanAt s i) := by
  simp [chanAt, modChan, h]
theorem chanAt_modChan_ne (i j : Nat) (f : Chan → Chan) (s : State) (h : i ≠ j) :
    chanAt (modChan i f s) j = chanAt s j := by
  simp [chanAt, modChan, h]

@[simp] theorem lgAt_modLg_self (i : Nat) (f : LinkGroup → LinkGroup) (s : State) (h : i < s.lgs.length) :
    lgAt (modLg i f s) i = f (lgAt s i) := by
  simp [lgAt, modLg, h]
theorem lgAt_modLg_ne (i j : Nat) (f : LinkGroup → LinkGroup) (s : State) (h : i ≠ j) :
    lgAt (modLg i f s) j = lgAt s j := by
  simp [lgAt, modLg, h]

@[simp] theorem ctdAt_modCtd_self (i : Nat) (f : Contactor → Contactor) (s : State) (h : i < s.ctds.length) :
    ctdAt (modCtd i f s) i = f (ctdAt s i) := by
  simp [ctdAt, modCtd, h]
theorem ctdAt_modCtd_ne (i j : Nat) (f : Contactor → Contactor) (s : State) (h : i ≠ j) :
    ctdAt (modCtd i f s) j = ctdAt s j := by
  simp [ctdAt, modCtd, h]

@[simp] theorem posAt_modPos_self (i : Nat) (f : PosIf → PosIf) (s : State) (h : i < s.pos.length) :
    posAt (modPos i f s) i = f (posAt s i) := by
  simp [posAt, modPos, h]
theorem posAt_modPos_ne (i j : Nat) (f : PosIf → PosIf) (s : State) (h : i ≠ j) :
    posAt (modPos i f s) j = posAt s j := by
  simp [posAt, modPos, h]

@[simp] theorem poutAt_modPout_self (i : Nat) (f : Pout → Pout) (s : State) (h : i < s.pouts.length) :
    poutAt (modPout i f s) i = f (poutAt s i) := by
  simp [poutAt, modPout, h]
theorem poutAt_modPout_ne (i j : Nat) (f : Pout → Pout) (s : State) (h : i ≠ j) :
    poutAt (modPout i f s) j = poutAt s j := by
  simp [poutAt, modPout, h]

@[simp] theorem cmpAt_modCmp_self (i : Nat) (f : CmpUnit → CmpUnit) (s : State) (h : i < s.cmps.length) :
    cmpAt (modCmp i f s) i = f (cmpAt s i) := by
  simp [cmpAt, modCmp, h]
theorem cmpAt_modCmp_ne (i j : Nat) (f : CmpUnit → CmpUnit) (s : State) (h : i ≠ j) :
    cmpAt (modCmp i f s) j = cmpAt s j := by
  simp [cmpAt, modCmp, h]

@[simp] theorem tempAt_modTemp_self (i : Nat) (f : Sensor → Sensor) (s : State) (h : i < s.temps.length) :
    tempAt (modTemp i f s) i = f (tempAt s i) := by
  simp [tempAt, modTemp, h]
theorem tempAt_modTemp_ne (i j : Nat) (f : Sensor → Sensor) (s : State) (h : i ≠ j) :
    tempAt (modTemp i f s) j = tempAt s j := by
  simp [tempAt, modTemp, h]

@[simp] theorem domAt_modDom_self (i : Nat) (f : Dom → Dom) (s : State) (h : i < s.pwr.doms.length) :
    domAt (modDom i f s) i = f (domAt s i) := by
  simp [domAt, modDom, h]
theorem domAt_modDom_ne (i j : Nat) (f : Dom → Dom) (s : State) (h : i ≠ j) :
    domAt (modDom i f s) j = domAt s j := by
  simp [domAt, modDom, h]

theorem ctxAt_modCtx_ne (i j : Nat) (f : Ctx → Ctx) (s : State) (h : i ≠ j) :
    ctxAt (modCtx i f s) j = ctxAt s j := by
  simp only [ctxAt, modCtx, List.getD_eq_getElem?_getD, List.getElem?_append, List.length_modify]
  split
  · simp [h]
  · split
    · rfl
    · rw [List.getElem?_modify]
      simp [show ¬ i - s.proto.ctx.length = j - s.proto.ctx.length by omega]

end Sys2Proof.Machine
end

