-- ==== Sys2Proof/Tests/Slice0.lean ====
section
/-! SUPPORT. Tests of the model: for every obligation with hypotheses, small states and operands that meet them, clause by clause;
an ill-formed term for each check of `Instr.wf`; and worked examples of the specification. Nothing here is a statement for the provers. -/

open Sys2Proof Sys2Proof.Machine

set_option maxRecDepth 100000
set_option Elab.async false

namespace Sys2Proof.Tests

/-! ### Small states -/

/-- A request in session 1 on ETH0 with tag and sequence number `n`. -/
def hd (n : Nat) : Hdr := ⟨BitVec.ofNat 8 n, 1, BitVec.ofNat 32 n, true, false, .eth0⟩

/-- A session that has accepted nothing above 0. -/
def ses : Machine.Session := ⟨0, 0, 0, 0, 0, 0, none, none, 1, 0⟩

/-- The current-sensor records of B0. -/
def pegs : List Peg :=
  (List.range 3).flatMap (fun i => [⟨0x0100, BitVec.ofNat 16 i, 1, 0, 200, List.replicate 8 0x10⟩,
    ⟨0x0100, BitVec.ofNat 16 (256 + i), 1, 0, 200, List.replicate 8 0x10⟩])

/-- A module in operation with a parameter set's items: every domain on, every island operating, every bridge IDLE, session 1 open. -/
def live (items : List (Nat × Int)) : Machine.State :=
  { State.reset with
    pins := { Pins.reset with kl30 := true, kl15 := true, drvEn := true }
    dev := { Dev.reset with ph := .up, fromOff := false, step := 9, ready9 := true, monRuns := true, casc1 := false, casc0 := false }
    time := { Time.reset with dev := 1000000000, running := true, esn := 100, rtc := 50 }
    clk := { Clk.reset with rdy := 0b11111, sel := 0b0010101, lock := 7, gate := 0xFFFF1FFF }
    pwr := { Pwr.reset with doms := List.replicate 16 { Dom.reset with req := .on, st := .on } }
    chans := List.replicate 52 { Chan.reset with present := true, powered := true, operating := true, uvloOk := true, vbs := 18000, vbp := 17000 }
    bridges := List.replicate 8 { Bridge.reset with st := .idle }
    lgs := List.replicate 2 { LinkGroup.reset with vlg := some 600000 }
    safety := { Safety.reset with seenA := true, seenB := true, passA := true, passB := true }
    store := { Store.reset with act := ⟨1, [], items⟩, psetOk := true, csetOk := true, owner := pegs }
    proto := { Proto.reset with sess := some ses :: List.replicate 7 none, opened := 1 }
    net := { Net.reset with eth := List.replicate 3 { EthPort.reset with link := true } } }

/-- The numbers of units of a state, in the order of `WellBuilt`. -/
def units (s : Machine.State) : List Nat :=
  [s.bridges.length, s.machs.length, s.chans.length, s.lgs.length, s.ctds.length, s.pos.length, s.pouts.length, s.cmps.length,
   s.temps.length, s.pwr.doms.length, s.net.can.length, s.proto.ctx.length, s.proto.sess.length, s.store.slots.length,
   s.store.owners.length, s.store.fuses.length]

/-- The numbers of units that `WellBuilt` asks for. -/
def built : List Nat := [8, 8, 52, 2, 4, 8, 4, 16, 104, 16, 4, 128, 8, 7, 4, 5]

theorem wellBuilt_of_units {s : Machine.State} (h : units s = built) : WellBuilt s := by
  simp only [units, built, List.cons.injEq] at h
  obtain ⟨a, b, c, d, e, f, g, i, j, k, l, m, n, o, p, q, -⟩ := h
  exact ⟨a, b, c, d, e, f, g, i, j, k, l, m, n, o, p, q⟩

/-- The state in which a request's own meaning begins. -/
def adm (n op : Nat) (p : List Byte) (s : Machine.State) : Machine.State := (admits (hd n) op p s).2

/-- The request begins in a well-built state. -/
def begins (n op : Nat) (p : List Byte) (onBridge : Bool) (s : Machine.State) : Bool :=
  receives s .eth0 && (admits (hd n) op p s).1 && dispatches (adm n op p s) &&
    nothingAhead (hd n) (adm n op p s) && (stateRefusal op onBridge (adm n op p s)).isNone && units s == built

theorem begins_of {n op : Nat} {p : List Byte} {b : Bool} {s : Machine.State} (h : begins n op p b s = true) :
    WellBuilt s ∧ Begins (hd n) op p b s (adm n op p s) := by
  simp only [begins, Bool.and_eq_true, beq_iff_eq] at h
  obtain ⟨⟨⟨⟨⟨a, c⟩, d⟩, g⟩, e⟩, f⟩ := h
  exact ⟨wellBuilt_of_units f, a, Prod.ext c rfl, d, g, by simpa using e⟩

/-- Machine 0 on B0, a PMSM. -/
def one : Machine.State := modBridge 1 (fun b => { b with st := .disabled }) (live [(0x4081, 1), (0x5000, 3)])

/-- The same with B0 in a state. -/
def inSt (st : BridgeState) : Machine.State := modBridge 0 (fun b => { b with st := st }) one

/-- The same with machine 0 changed. -/
def inM (st : BridgeState) (f : Mach → Mach) : Machine.State := modMach 0 f (inSt st)

/-- The device in SERVICE by command. -/
def serv : Machine.State := { one with dev := { one.dev with commanded := true } }

/-- The hypotheses of `Obligations.QueriesWithoutOperandsAnswer` are met, clause by clause. -/
theorem witness_QueriesWithoutOperandsAnswer :
    (begins 1 0x0100 [] false one = true) ∧
    (begins 1 0x0101 [] false one = true) ∧
    (begins 1 0x0600 [] false one = true) ∧
    (begins 1 0x0700 (beBytes 32 5) false one = true) ∧
    (begins 1 0x0800 [] false one = true) ∧
    (begins 1 0x0904 [] false one = true) ∧
    (begins 1 0x0B01 [] false one = true) ∧
    (begins 1 0x0B03 [] false one = true) ∧
    (domOn (adm 1 0x0600 [] one) 4 = true ∧ gateOpen (adm 1 0x0600 [] one) 10 = true ∧ gateOpen (adm 1 0x0700 (beBytes 32 5) one) 0 = true) := by
  decide +kernel

/-- A final reply. -/
def anyReply : Reply := ⟨.eth0, 0x0200, 2, 1, 2, 0, 0, true, false, false, 0, [], 0, []⟩

/-- Tag 2 is in use by session 1. -/
def busy (st : CtxState) : Machine.State :=
  modCtx 2 (fun c => { c with st := st, hdr := hd 2, gen := 1, opcode := 0x0200, final := some anyReply }) one

/-- A factory record. -/
def peg : Peg := ⟨0x0100, 3, 1, 0, 200, List.replicate 8 1⟩

/-- An owner record in force. -/
def pegged : Machine.State := { one with store := { one.store with startup := [{ peg with origin := 3 }] } }

/-- The hypotheses of `Obligations.QueriesWithOperandsAnswer` are met, clause by clause. -/
theorem witness_QueriesWithOperandsAnswer :
    (begins 1 0x0104 [2] false (busy .long) = true) ∧
    ((ctxAt (adm 1 0x0104 [2] (busy .long)) 2).st = .long) ∧
    ((ctxAt (adm 1 0x0104 [2] (busy .long)) 2).mute = false) ∧
    ((ctxAt (adm 1 0x0104 [2] (busy .long)) 2).gen = (ctxAt (adm 1 0x0104 [2] (busy .long)) 1).gen) ∧
    ((ctxAt (adm 1 0x0104 [2] (busy .long)) 2).gen ≠ 0) ∧
    (begins 1 0x0104 [2] false (busy .done) = true) ∧
    ((ctxAt (adm 1 0x0104 [2] (busy .done)) 2).st = .done) ∧
    ((ctxAt (adm 1 0x0104 [2] (busy .done)) 2).final = some anyReply) ∧
    ((ctxAt (adm 1 0x0104 [2] (busy .done)) 2).gen = (ctxAt (adm 1 0x0104 [2] (busy .done)) 1).gen) ∧
    (begins 1 0x0209 [15] false one = true ∧ gateOpen (adm 1 0x0209 [15] one) 12 = true) ∧
    (begins 1 0x0300 ([0, 1, 0, 0] ++ beBytes 2 0x4081) false one = true) ∧
    (begins 1 0x0300 ([1, 1, 0, 0] ++ beBytes 2 0x4081) false one = true) ∧
    (begins 1 0x0302 [0, 0, 0, 0] false one = true) ∧
    (stagingHeld 1 (adm 1 0x0302 [0, 0, 0, 0] one) = false) ∧
    (begins 1 0x0400 [1, 0, 0, 3, 3, 0] false pegged = true) ∧
    (findPeg (adm 1 0x0400 [1, 0, 0, 3, 3, 0] pegged) 0x0100 3 3 0 = some { peg with origin := 3 }) ∧
    (begins 1 0x0601 (beBytes 4 0 ++ beBytes 2 1) false one = true) ∧
    (begins 1 0x0601 (beBytes 4 0 ++ beBytes 2 4096) false one = true) ∧
    (domOn (adm 1 0x0601 (beBytes 4 0 ++ beBytes 2 1) one) 4 = true ∧ gateOpen (adm 1 0x0601 (beBytes 4 0 ++ beBytes 2 1) one) 10 = true) ∧
    (begins 1 0x0602 (beBytes 2 127 ++ beBytes 2 63 ++ beBytes 8 0) false one = true) ∧
    (domOn (adm 1 0x0602 (beBytes 2 127 ++ beBytes 2 63 ++ beBytes 8 0) one) 4 = true) ∧
    (gateOpen (adm 1 0x0602 (beBytes 2 127 ++ beBytes 2 63 ++ beBytes 8 0) one) 10 = true) ∧
    (begins 1 0x0900 (beBytes 4 0x40000000 ++ beBytes 2 1) false one = true) ∧
    (regsFrom 0x40000000 1 = some [⟨0, 0, 0⟩]) ∧
    ([⟨0, 0, 0⟩].findSome? (regRefusal (adm 1 0x0900 (beBytes 4 0x40000000 ++ beBytes 2 1) one)) = none) := by
  decide +kernel

/-- The hypotheses of `Obligations.DeviceRequestsComplete` are met, clause by clause. -/
theorem witness_DeviceRequestsComplete :
    (begins 1 0x0102 [1] false one = true) ∧
    (devState (adm 1 0x0102 [1] one) ≠ .service) ∧
    (anyActive (adm 1 0x0102 [1] one) (List.range 8) = false) ∧
    (begins 1 0x0102 [1] false serv = true) ∧
    (devState (adm 1 0x0102 [1] serv) = .service) ∧
    (begins 1 0x0102 [0] false serv = true) ∧
    (serviceReason (adm 1 0x0102 [0] serv) = 0x04) ∧
    (begins 1 0x0103 [0] false one = true) ∧
    (anyActive (adm 1 0x0103 [0] one) (List.range 8) = false) ∧
    (begins 1 0x0903 [] false one = true) ∧
    (begins 1 0x0702 [] false one = true) := by
  decide +kernel

/-- The same with the high islands in Start. -/
def starting : Machine.State := { one with chans := one.chans.map (fun c => { c with operating := false }) }

/-- The monitor pair at operating point 1. -/
def mon1 : Machine.State := { one with pwr := { one.pwr with monCur := 1 } }

/-- An induction machine in operation. -/
def runIm : Machine.State :=
  modBridge 0 (fun b => { b with st := .running }) (live [(0x4000, 1), (0x4081, 1), (0x5000, 3)])

/-- The hypotheses of `Obligations.ArmingRequestsComplete` are met, clause by clause. -/
theorem witness_ArmingRequestsComplete :
    (begins 1 0x0200 [0] false one = true) ∧
    (machExists (adm 1 0x0200 [0] one) 0 = true) ∧
    (armRefusal (adm 1 0x0200 [0] one) 0 = none) ∧
    (allOperating (seekMon 0 { adm 1 0x0200 [0] one with pwr := { (adm 1 0x0200 [0] one).pwr with monReq := 0 } }) 0 = true) ∧
    ((seekMon 0 (adm 1 0x0200 [0] one)).pwr.busyMon = false ∧ (seekMon 0 (adm 1 0x0200 [0] one)).pwr.monCur = 0) ∧
    (begins 1 0x0200 [0] false mon1 = true ∧ armRefusal (adm 1 0x0200 [0] mon1) 0 = none ∧ (seekMon 0 (adm 1 0x0200 [0] mon1)).pwr.monCur ≠ 0) ∧
    (begins 1 0x0200 [0] false starting = true) ∧
    (armRefusal (adm 1 0x0200 [0] starting) 0 = none) ∧
    (allOperating (seekMon 0 { adm 1 0x0200 [0] starting with pwr := { (adm 1 0x0200 [0] starting).pwr with monReq := 0 } }) 0 = false) ∧
    (begins 1 0x0201 [0] false one = true) ∧
    (machRunning (adm 1 0x0201 [0] one) 0 = false) ∧
    (anyActive (adm 1 0x0201 [0] one) (machBridges (adm 1 0x0201 [0] one) 0) = false) ∧
    (begins 1 0x0201 [0] false (inSt .armed) = true) ∧
    (machRunning (adm 1 0x0201 [0] (inSt .armed)) 0 = false) ∧
    (anyActive (adm 1 0x0201 [0] (inSt .armed)) (machBridges (adm 1 0x0201 [0] (inSt .armed)) 0) = true) ∧
    (begins 1 0x0201 [0] false (inSt .running) = true) ∧
    (machRunning (adm 1 0x0201 [0] (inSt .running)) 0 = true) ∧
    (begins 1 0x0201 [0] false runIm = true ∧ machRunning (adm 1 0x0201 [0] runIm) 0 = true ∧ (machAt (adm 1 0x0201 [0] runIm) 0).ramp = .none) ∧
    (rectifies (adm 1 0x0201 [0] runIm) 0 = false) ∧
    ((machAt (adm 1 0x0201 [0] (inSt .running)) 0).ramp = .none) ∧
    (begins 1 0x0204 [0, 0] false one = true) ∧
    (begins 1 0x0204 [1, 1] false one = true) ∧
    (begins 1 0x0204 [2, 0] false one = true) := by
  decide +kernel

/-- The hypotheses of `Obligations.MotionRequestsComplete` are met, clause by clause. -/
theorem witness_MotionRequestsComplete :
    (begins 1 0x0202 ([0, 0, 0, 0] ++ beBytes 4 0) false (inSt .armed) = true) ∧
    (torqueInRange (adm 1 0x0202 ([0, 0, 0, 0] ++ beBytes 4 0) (inSt .armed)) 0 0 = true) ∧
    (takesRefs (adm 1 0x0202 ([0, 0, 0, 0] ++ beBytes 4 0) (inSt .armed)) 0 = true) ∧
    ((machAt (adm 1 0x0202 ([0, 0, 0, 0] ++ beBytes 4 0) (inSt .armed)) 0).ph ≠ .discharging) ∧
    (boundElsewhere (adm 1 0x0202 ([0, 0, 0, 0] ++ beBytes 4 0) (inSt .armed)) 0 1 = false) ∧
    (begins 1 0x0203 ([0, 0, 0, 0] ++ beBytes 4 0) false (inSt .armed) = true) ∧
    (speedInRange (adm 1 0x0203 ([0, 0, 0, 0] ++ beBytes 4 0) (inSt .armed)) 0 0 = true) ∧
    (takesRefs (adm 1 0x0203 ([0, 0, 0, 0] ++ beBytes 4 0) (inSt .armed)) 0 = true) ∧
    (begins 1 0x0205 [0, 1] false (modPos 0 (fun p => { p with angleValid := true, speedValid := true }) (inSt .armed)) = true) ∧
    (allIn (inSt .armed) (machBridges (inSt .armed) 0) .armed = true) ∧
    (isStart (machAt (inSt .armed) 0).ph = false) ∧
    ((machAt (inSt .armed) 0).tRef = 0) ∧
    (ifAngleOk (modPos 0 (fun p => { p with angleValid := true, speedValid := true }) (inSt .armed)) 0 = true) ∧
    (begins 1 0x0205 [0, 0xFF] false (modPos 0 (fun p => { p with angleValid := true, speedValid := true }) (inSt .armed)) = true) ∧
    (begins 1 0x0206 [0] false (inSt .armed) = true) ∧
    (isPmsm (adm 1 0x0206 [0] (inSt .armed)) 0 = true) ∧
    ((machAt (adm 1 0x0206 [0] (inSt .armed)) 0).tRef = 0) ∧
    ((hasIf (adm 1 0x0206 [0] (inSt .armed)) 0 && ifSpeedOk (adm 1 0x0206 [0] (inSt .armed)) 0) = false) := by
  decide +kernel

/-- A six-phase machine 2 on B2 and B3, both RUNNING. -/
def six : Machine.State := modBridge 3 (fun b => { b with st := .running }) (modBridge 2 (fun b => { b with st := .running })
  (live [(0x4281, 1), (0x4201, 6), (0x4381, 1)]))

/-- B0 retired, with a leg or whole. -/
def gone (leg : Option Nat) : Machine.State := modBridge 0 (fun b => { b with retiredLeg := leg }) (inSt .retired)

/-- B0 mapped to leg 3. -/
def remapped : Machine.State := { one with store := { one.store with mapL := one.store.mapL.set 0 3 } }

/-- The hypotheses of `Obligations.UnitRequestsComplete` are met, clause by clause. -/
theorem witness_UnitRequestsComplete :
    (begins 1 0x0207 [1, 0] false one = true) ∧
    (stOf (adm 1 0x0207 [1, 0] one) 0 = .idle) ∧
    (begins 1 0x0207 [1, 7] false one = true) ∧
    (stOf (adm 1 0x0207 [1, 7] one) 7 = .idle) ∧
    (begins 1 0x0207 [1, 2] false six = true) ∧
    (stOf (adm 1 0x0207 [1, 2] six) 2 = .running) ∧
    (bridgeMach (adm 1 0x0207 [1, 2] six) 2 = some 2) ∧
    ((machBridges (adm 1 0x0207 [1, 2] six) 2).length = 2) ∧
    (allIn (adm 1 0x0207 [1, 2] six) (machBridges (adm 1 0x0207 [1, 2] six) 2) .running = true) ∧
    ((machAt (adm 1 0x0207 [1, 2] six) 2).ramp = .none ∧ (machAt (adm 1 0x0207 [1, 2] six) 2).tag = none) ∧
    (begins 1 0x0207 [0, 23] false one = true) ∧
    (stOf (adm 1 0x0207 [0, 23] one) (legBridge (adm 1 0x0207 [0, 23] one) 23) = .idle) ∧
    (begins 1 0x0207 [2, 7] false one = true) ∧
    (ifMachine (adm 1 0x0207 [2, 7] one) 7 = none) ∧
    (begins 1 0x0208 ([15, 2, 0, 0] ++ beBytes 4 0) false one = true ∧ gateOpen (adm 1 0x0208 ([15, 2, 0, 0] ++ beBytes 4 0) one) 12 = true) ∧
    (begins 1 0x0208 ([15, 1, 0, 0] ++ beBytes 4 262143) false one = true) ∧
    (domOn (adm 1 0x0208 ([15, 1, 0, 0] ++ beBytes 4 262143) one) (8 + cmpIf one 15) = true) ∧
    (begins 1 0x020A [0, 0, 3] false (gone (some 0)) = true) ∧
    (stOf (adm 1 0x020A [0, 0, 3] (gone (some 0))) 0 = .retired) ∧
    ((bridgeAt (adm 1 0x020A [0, 0, 3] (gone (some 0))) 0).retiredLeg = some 0) ∧
    (spareBridge (adm 1 0x020A [0, 0, 3] (gone (some 0))) 1 = true) ∧
    (lgOf (adm 1 0x020A [0, 0, 3] (gone (some 0))) 1 = lgOf (adm 1 0x020A [0, 0, 3] (gone (some 0))) 0) ∧
    (machineStill (adm 1 0x020A [0, 0, 3] (gone (some 0))) 0 = true) ∧
    (domOn (adm 1 0x020A [0, 0, 3] (gone (some 0))) 9 = true) ∧
    ((adm 1 0x020A [0, 0, 3] (gone (some 0))).store.mapL.contains (ixByte 3) = false) ∧
    (begins 1 0x020A [1, 0, 1] false (gone (some 3)) = true) ∧
    (assigned (gone (some 3)) 0 = true ∧ sixLower (gone (some 3)) 0 = false ∧ sixUpper (gone (some 3)) 0 = false) ∧
    (spareBridge (adm 1 0x020A [1, 0, 1] (gone (some 3))) 1 = true) ∧
    (lgOf (adm 1 0x020A [1, 0, 1] (gone (some 3))) 1 = lgOf (adm 1 0x020A [1, 0, 1] (gone (some 3))) 0) ∧
    (machineStill (adm 1 0x020A [1, 0, 1] (gone (some 3))) 0 = true) ∧
    (begins 1 0x020A [2, 0, 7] false (modPos 0 (fun p => { p with retired := true }) (live [])) = true) ∧
    ((posAt (adm 1 0x020A [2, 0, 7] (modPos 0 (fun p => { p with retired := true }) (live []))) 0).retired = true) ∧
    (posPar (live []) 7 0 = 0 ∧ ifMachine (live []) 7 = none ∧ (live []).store.mapP.contains (ixByte 7) = false) ∧
    ((machines (live [])).find? (fun m => hasIf (live []) m && mParN (live []) m 0x19 == 0) = none) ∧
    (begins 1 0x020A [0, 0, 0] false remapped = true) ∧
    ((adm 1 0x020A [0, 0, 0] remapped).store.mapL.getD 0 0xFF ≠ 0xFF) ∧
    (machineStill (adm 1 0x020A [0, 0, 0] remapped) 0 = true) ∧
    (stOf (adm 1 0x020A [0, 0, 0] remapped) 0 ≠ .retired) := by
  decide +kernel

/-- An item: P_OP_MAIN. -/
def item : Item := ⟨0xB001, 0x01, 1⟩

/-- Session 1 holds a live nonce. -/
def nonced : Machine.State := { one with proto := { one.proto with sess := some { ses with nonce := some (7, 1000000000) } :: List.replicate 7 none } }

/-- No machine, and a live nonce. -/
def bare : Machine.State := { live [] with proto := nonced.proto }

/-- A set with serial 2. -/
def set2 : Machine.PSet := ⟨2, [], []⟩

/-- Slot B of the parameter sets holds set 2; A is in force. -/
def twoSets : Machine.State := modSlots .pset (fun k => { k with b := { sealedSlot set2 with st := .active }, inB := some false }) (live [])

/-- The hypotheses of `Obligations.ParameterRequestsComplete` are met, clause by clause. -/
theorem witness_ParameterRequestsComplete :
    (begins 1 0x0301 ([1, 0, 0, 0] ++ (beBytes 2 0xB001 ++ [1, 0] ++ beBytes 4 1)) (bridgeScope 0xB001) one = true) ∧
    (stagingHeld 1 one = false ∧ checkItems [item] = none) ∧
    (begins 1 0x0302 ([1, 0, 0, 0] ++ beBytes 4 2 ++ zeros 32 ++ zeros 384) (onBridgeChange bare (stagedSet bare)) bare = true) ∧
    ((adm 1 0x0302 ([1, 0, 0, 0] ++ beBytes 4 2 ++ zeros 32 ++ zeros 384) bare).store.pending = none) ∧
    ((adm 1 0x0302 ([1, 0, 0, 0] ++ beBytes 4 2 ++ zeros 32 ++ zeros 384) bare).store.act.serial.toNat < 2) ∧
    ((liveNonce (adm 1 0x0302 ([1, 0, 0, 0] ++ beBytes 4 2 ++ zeros 32 ++ zeros 384) bare) 1).isSome = true) ∧
    (commitRefusal { stagedSet bare with serial := 2 } bare = none) ∧
    (begins 1 0x0302 [2, 0, 0, 0] false one = true) ∧
    (begins 1 0x0303 [0] (selectOnBridge twoSets) twoSets = true) ∧
    (parsePset (otherSlot (adm 1 0x0303 [0] twoSets) .pset).body = some set2) ∧
    (psetContent (otherSlot (adm 1 0x0303 [0] twoSets) .pset).body (adm 1 0x0303 [0] twoSets) = .ok set2) ∧
    (stateBreach (adm 1 0x0303 [0] twoSets) (ruleView set2 (adm 1 0x0303 [0] twoSets)) (changedItems (adm 1 0x0303 [0] twoSets).store.act.items set2.items) = none) ∧
    (begins 1 0x0401 [0, 0] true one = true) ∧
    (domOn one 6 = true ∧ recalBusy one 1 0 = false ∧ startingOn one 0 = false) ∧
    (begins 1 0x0401 [1, 7] true one = true) ∧
    (domOn one 7 = true ∧ recalBusy one 0 7 = false ∧ startingOn one 7 = false) ∧
    (begins 1 0x0401 [2, 23] true one = true) ∧
    (domOn one (8 + legBridge one 23) = true ∧ allQuiet one [legBridge one 23] = true) := by
  decide +kernel

/-- An update of MAIN into slot B, its slot in a state. -/
def upd (st : SlotState) : Machine.State :=
  let m := modSlots .main (fun k => { k with b := ⟨st, { bareManifest 1 5 (0x20, 0x21) (0, 0) [] with bodyDigest := 0 }, [1, 2]⟩, inB := some false }) one
  { m with store := { m.store with upd := some ⟨1, .main, true, 900⟩ } }

/-- A manifest. -/
def man : Manifest := { bareManifest 1 5 (0x20, 0x21) (0, 0) [] with bodyDigest := 0 }

/-- The hypotheses of `Obligations.UpdateRequestsComplete` are met, clause by clause. -/
theorem witness_UpdateRequestsComplete :
    (begins 1 0x0500 (beBytes 2 1 ++ [0, 0] ++ beBytes 4 841 ++ manifestBytes man) false one = true) ∧
    (updateBusy 1 one = false ∧ otherClass 1 one = false ∧ classOf 1 = some .main ∧ 840 < 841 ∧ 841 ≤ 840 + classMax .main) ∧
    (begins 1 0x0501 (beBytes 4 842 ++ [1]) false (upd .receiving) = true) ∧
    (updReceived (adm 1 0x0501 (beBytes 4 842 ++ [1]) (upd .receiving)) ⟨1, .main, true, 900⟩ = 842) ∧
    ((updSlot (adm 1 0x0501 (beBytes 4 842 ++ [1]) (upd .receiving)) ⟨1, .main, true, 900⟩).st = .receiving) ∧
    (updateBusy 1 (adm 1 0x0501 (beBytes 4 842 ++ [1]) (upd .receiving)) = false) ∧
    (begins 1 0x0502 [] false (upd .received) = true) ∧
    ((updSlot (adm 1 0x0502 [] (upd .received)) ⟨1, .main, true, 900⟩).st = .received) ∧
    (begins 1 0x0503 [0] false (upd .verified) = true) ∧
    (updateBusy 1 (adm 1 0x0503 [0] (upd .verified)) = false) ∧
    ((adm 1 0x0503 [0] (upd .verified)).store.upd = some ⟨1, .main, true, 900⟩) ∧
    ((updSlot (adm 1 0x0503 [0] (upd .verified)) ⟨1, .main, true, 900⟩).st = .verified) ∧
    (begins 1 0x0504 [] false (upd .verified) = true) := by
  decide +kernel

/-- Two owner slots are valid. -/
def owned : Machine.State := { nonced with dev := { nonced.dev with commanded := true }, store := { nonced.store with owners := [.valid 3, .valid 4, .empty, .empty] } }

/-- A lock-out of F-0504 stands, its cause present or not. -/
def locked (present : Bool) : Machine.State :=
  modLg 0 (fun g => { g with uvLim := present })
    { nonced with safety := { nonced.safety with locks := [⟨77, 0x0504, .linkGroup 0, none, 0⟩] } }

/-- The hypotheses of `Obligations.SecurityRequestsComplete` are met, clause by clause. -/
theorem witness_SecurityRequestsComplete :
    (begins 1 0x0701 (zeros 384) false one = true ∧ gateOpen (adm 1 0x0701 (zeros 384) one) 0 = true) ∧
    (freeSession (adm 1 0x0701 (zeros 384) one) = some 2) ∧
    (begins 1 0x0703 [0] false one = true) ∧
    (begins 1 0x0703 [1] false one = true) ∧
    (begins 1 0x0704 (ownerPayload 0 0 3 9 0) false serv = true) ∧
    ((ownerAuth 1 0 0 9 0 (adm 1 0x0704 (ownerPayload 0 0 3 9 0) serv)).1 = none) ∧
    (ownerSlot (adm 1 0x0704 (ownerPayload 0 0 3 9 0) serv) 3 = .empty) ∧
    (begins 1 0x0704 (ownerPayload 1 0 1 9 5) false owned = true) ∧
    ((liveNonce (adm 1 0x0704 (ownerPayload 1 0 1 9 5) owned) 1).isSome = true) ∧
    (ownerSlot (adm 1 0x0704 (ownerPayload 1 0 1 9 5) owned) 1 = .valid 4) ∧
    (1 < ((List.range 4).filter (fun i => slotValid (ownerSlot (adm 1 0x0704 (ownerPayload 1 0 1 9 5) owned) i))).length) ∧
    (begins 1 0x0B00 (beBytes 4 77 ++ [0, 0, 0, 0] ++ zeros 384) false (locked false) = true) ∧
    ((liveNonce (adm 1 0x0B00 (beBytes 4 77 ++ [0, 0, 0, 0] ++ zeros 384) (locked false)) 1).isSome = true) ∧
    ((locked false).safety.locks.find? (fun k => k.esn == 77) = some ⟨77, 0x0504, .linkGroup 0, none, 0⟩) ∧
    (lockPresent (locked false) ⟨77, 0x0504, .linkGroup 0, none, 0⟩ = false) := by
  decide +kernel

/-- The hypotheses of `Obligations.LockoutClearJudgesInOrder` are met, clause by clause. -/
theorem witness_LockoutClearJudgesInOrder :
    (begins 1 0x0B00 (beBytes 4 77 ++ [0, 0, 0, 0] ++ zeros 384) false one = true) ∧
    (liveNonce (adm 1 0x0B00 (beBytes 4 77 ++ [0, 0, 0, 0] ++ zeros 384) one) 1 = none) ∧
    (begins 1 0x0B00 (beBytes 4 77 ++ [0, 0, 0, 0] ++ zeros 384) false nonced = true) ∧
    (liveNonce (adm 1 0x0B00 (beBytes 4 77 ++ [0, 0, 0, 0] ++ zeros 384) nonced) 1 = some 7) ∧
    (nonced.safety.locks = []) ∧
    (slotSigOk nonced 0 5 0 = false) ∧
    (begins 1 0x0B00 (beBytes 4 77 ++ [0, 0, 0, 0] ++ zeros 384) false (locked true) = true) ∧
    (liveNonce (adm 1 0x0B00 (beBytes 4 77 ++ [0, 0, 0, 0] ++ zeros 384) (locked true)) 1 = some 7) ∧
    (lockPresent (modSess 1 (fun k => { k with nonce := none }) (locked true)) ⟨77, 0x0504, .linkGroup 0, none, 0⟩ = true) ∧
    ((adm 1 0x0B00 (beBytes 4 77 ++ [0, 0, 0, 0] ++ zeros 384) (locked true)).safety.locks.find? (fun k => k.esn == 77) = some ⟨77, 0x0504, .linkGroup 0, none, 0⟩) := by
  decide +kernel

/-- The hypotheses of `Obligations.ServiceRequestsComplete` are met, clause by clause. -/
theorem witness_ServiceRequestsComplete :
    (begins 1 0x0901 (beBytes 4 0x40020004 ++ leBytes 4 0xFFFFFFFF ++ leBytes 4 1000) false serv = true) ∧
    (regAt 0x40020004 = some ⟨2, 0, 4⟩) ∧
    (0xFFFFFFFF &&& ((regBits ⟨2, 0, 4⟩).1 ||| (regBits ⟨2, 0, 4⟩).2) = 0xFFFFFFFF) ∧
    (regRefusal serv ⟨2, 0, 4⟩ = none ∧ writeStatus serv ⟨2, 0, 4⟩ 1000 0xFFFFFFFF = none) ∧
    (begins 1 0x0902 ([0, 0] ++ beBytes 4 25000) false one = true) ∧
    (one.clk.fmBusy = false ∧ domOn one 4 = true ∧ gateOpen one 9 = true ∧ fmDomain 0 = none ∧ fmRefHz 0 = some 25000000) ∧
    (fmInRange one = true) ∧
    (begins 1 0x0A00 ([15, 2] ++ beBytes 2 0) false one = true) ∧
    (domainRefusal (adm 1 0x0A00 ([15, 2] ++ beBytes 2 0) one) 15 2 0 = none) ∧
    (begins 1 0x0A00 ([1, 0] ++ beBytes 2 0) false one = true) ∧
    (domainRefusal (adm 1 0x0A00 ([1, 0] ++ beBytes 2 0) one) 1 0 0 = none) ∧
    (begins 1 0x0A01 [0, 2] false one = true) ∧
    (begins 1 0x0A01 [1, 1] false one = true) ∧
    (monRefused (adm 1 0x0A01 [1, 1] one) 1 = false) := by
  decide +kernel

/-- The wake pins low. -/
def asleepPins : Machine.State := { one with pins := { one.pins with kl15 := false, keep := false } }

/-- The hypotheses of `Obligations.StandbyAndContactorRequestsComplete` are met, clause by clause. -/
theorem witness_StandbyAndContactorRequestsComplete :
    (begins 1 0x0A02 [1, 1, 2] false one = true) ∧
    (begins 1 0x0A02 [1, 0, 2] false asleepPins = true) ∧
    (anyActive asleepPins (List.range 8) = false ∧ (adm 1 0x0A02 [1, 0, 2] asleepPins).pins.kl15 = false ∧ asleepPins.pins.keep = false) ∧
    (begins 1 0x0A03 (beBytes 6 12345) false one = true) ∧
    (begins 1 0x0A04 (beBytes 6 53 ++ [1]) false one = true) ∧
    ((adm 1 0x0A04 (beBytes 6 53 ++ [1]) one).time.rtc.toNat + 2 < 53) ∧
    (begins 1 0x0B02 [15, 0, 3] false one = true) ∧
    (domOn one 3 = true ∧ monUp one = true ∧ [0, 1].find? (fun g => anyActive one (lgBridges one g)) = none) ∧
    (begins 1 0x0B02 [15, 1, 0] false one = true) ∧
    ([0, 1].find? (groupLocked one) = none) := by
  decide +kernel

/-- The hypotheses of `Obligations.StepTakesFront` are met, clause by clause. -/
theorem witness_StepTakesFront :
    (({ State.reset with pending := [.fmStart] } : Machine.State).pending = .fmStart :: []) := by
  decide +kernel

/-- The outcome is a next state. -/
def goes (o : Out) : Bool :=
  match o with
  | .next _ => true
  | .fault _ => false
  | .refused _ => false

/-- The hypotheses of `Obligations.EmptyQueuePassesOneTick` are met, clause by clause. -/
theorem witness_EmptyQueuePassesOneTick :
    (one.pending = []) ∧
    (timebaseRuns one = true ∧ one.net.slew = 0) ∧
    (State.reset.pending = [] ∧ timebaseRuns State.reset = false) ∧
    (timebaseRuns { one with net := { one.net with slew := 5 } } = true) := by
  decide +kernel

/-- The hypotheses of `Obligations.WellFormedCommandsAnswer` are met, clause by clause. -/
theorem witness_WellFormedCommandsAnswer :
    (Instr.wf .fmStart = true ∧ Instr.wf (.canSegment 0 0) = true ∧ Instr.wf (.fastWrite (List.replicate 8 ⟨none, none⟩)) = true) ∧
    (goes (exec .fmStart one) = true) := by
  decide +kernel

/-- The hypotheses of `Obligations.DeviceTimeNeverDecreases` are met, clause by clause. -/
theorem witness_DeviceTimeNeverDecreases :
    (goes (step one) = true) ∧
    (goes (step { one with pending := [.fmStart] }) = true) := by
  decide +kernel

/-- The hypotheses of `Obligations.CoreModeIsSetInBoot` are met, clause by clause. -/
theorem witness_CoreModeIsSetInBoot :
    (goes (step one) = true ∧ one.dev.ph ≠ .boot) ∧
    (goes (step { State.reset with dev := { Dev.reset with ph := .boot } }) = true) := by
  decide +kernel

/-- The hypotheses of `Obligations.StepsKeepTheUnits` are met, clause by clause. -/
theorem witness_StepsKeepTheUnits :
    (units one = built ∧ goes (step { one with pending := [.fmStart] }) = true) := by
  decide +kernel

/-- The hypotheses of `Obligations.EveryWordResetsAsTabled` are met, clause by clause. -/
theorem witness_EveryWordResetsAsTabled :
    (regAt 0x40000000 = some ⟨0, 0, 0⟩) ∧
    (regAt 0x40090010 = some ⟨9, 0, 0x10⟩) ∧
    (regAt 0x40050338 = some ⟨5, 51, 8⟩) := by
  decide +kernel

/-- The hypotheses of `Obligations.OwnerSlotsAndFusesAreOneWay` are met, clause by clause. -/
theorem witness_OwnerSlotsAndFusesAreOneWay :
    (goes (step owned) = true) := by
  decide +kernel

/-- The hypotheses of `Obligations.CommandsChangeOnlyTheirParts` are met, clause by clause. -/
theorem witness_CommandsChangeOnlyTheirParts :
    (goes (exec .fmStart one) = true ∧ Part.pins ∉ mayChange .fmStart) := by
  decide +kernel

/-- A FROZEN device with a command waiting. -/
def frozen (c : Instr) : Machine.State := { one with dev := { one.dev with ph := .frozen }, pending := [c] }

/-- The phase after a step. -/
def phaseAfter (s : Machine.State) : Phase :=
  match step s with
  | .next t => t.dev.ph
  | .fault _ => s.dev.ph
  | .refused _ => s.dev.ph

/-- The hypotheses of `Obligations.FrozenIsLeftOnly` are met, clause by clause. -/
theorem witness_FrozenIsLeftOnly :
    ((frozen (.restart true 0x95)).dev.ph = .frozen ∧ (frozen (.restart true 0x95)).dev.resetAt = none) ∧
    (phaseAfter (frozen (.restart true 0x95)) = .boot) ∧
    (phaseAfter (frozen (.freezePinRise)) = .frozen) := by
  decide +kernel

/-- The hypotheses of `Obligations.FrozenHoldsNoReset` are met, clause by clause. -/
theorem witness_FrozenHoldsNoReset :
    ((frozen .freezePinRise).dev.resetAt = none ∧ phaseAfter (frozen .freezePinRise) = .frozen) := by
  decide +kernel

/-- The hypotheses of `Obligations.EventsAreNumberedInOrder` are met, clause by clause. -/
theorem witness_EventsAreNumberedInOrder :
    (one.dev.ph ≠ .frozen ∧ (frozen .fmStart).dev.ph = .frozen) := by
  decide +kernel

/-- The hypotheses of `Obligations.RaisedFaultsAreRecorded` are met, clause by clause. -/
theorem witness_RaisedFaultsAreRecorded :
    (minLevel 0x0612 = some 3) ∧
    (one.dev.ph ≠ .frozen ∧ (lgAt one 0).dis = none ∧ (lgAt one 1).dis = none) := by
  decide +kernel

/-- Machine 2 on B2 and B3, both PRECHARGING. -/
def sixPre : Machine.State := modBridge 3 (fun b => { b with st := .precharging }) (modBridge 2 (fun b => { b with st := .precharging }) six)

/-- The hypotheses of `Obligations.ReactionsFollowTheLevel` are met, clause by clause. -/
theorem witness_ReactionsFollowTheLevel :
    (units sixPre = built ∧ scopeBridges sixPre (.machine 2) = [2, 3]) ∧
    (isActive (stOf sixPre 2) = true ∧ isActive (stOf sixPre 3) = true) ∧
    (stOf (react 3 0x0210 2 (.machine 2) false 0 9 sixPre) 3 = .safe) ∧
    (0 < sixPre.ctds.length ∧ lgOf sixPre 2 = 0 ∧ ctdCovers sixPre 0 0 = true) ∧
    ((react 4 0x0508 0 (.linkGroup 0) false 0 9 sixPre).safety.locks = [⟨9, 0x0508, .linkGroup 0, none, 0⟩]) ∧
    (sixPre.safety.mon.halted = false ∧ { sixPre.safety.mon with halted := true }.halted = true) := by
  decide +kernel

/-- An armed clearance. -/
def armedLock : Lockout := ⟨77, 0x0504, .linkGroup 0, some 1000000000, 0⟩

/-- It stands. -/
def clearing : Machine.State := { one with safety := { one.safety with locks := [armedLock] } }

/-- The hypotheses of `Obligations.ClearancesAreJudgedAtTheEdge` are met, clause by clause. -/
theorem witness_ClearancesAreJudgedAtTheEdge :
    (armedLock ∈ clearing.safety.locks ∧ clearing.dev.ph ≠ .frozen) ∧
    (inLockWin clearing armedLock = true ∧ faultLevel clearing 0x0650 < 2 ∧ (lgAt clearing 0).dis = none ∧ (lgAt clearing 1).dis = none) ∧
    (inLockWin clearing { armedLock with armed := none } = false) := by
  decide +kernel

/-- The hypotheses of `Obligations.SequenceNumbersDecideReplay` are met, clause by clause. -/
theorem witness_SequenceNumbersDecideReplay :
    (units one = built ∧ (hd 1).auth = true ∧ gateOpen one 0 = true ∧ sessAt one 1 = some ses) ∧
    (((hd 1).seq - ses.high).toNat = 1) ∧
    (((hd 0).seq - ses.high).toNat = 0 ∧ (ses.high - (hd 0).seq).toNat = 0) ∧
    ((ses.high - (4294967232 : U32)).toNat = 64 ∧ hasBit ses.seen.toNat 63 = false) ∧
    ((ses.high - (4294967231 : U32)).toNat = 65) := by
  decide +kernel

/-- The hypotheses of `Obligations.AcceptedNumbersStayRefused` are met, clause by clause. -/
theorem witness_AcceptedNumbersStayRefused :
    (seqOk ses 1 = true) ∧
    (seqOk ses 0 = false ∧ (ses.high - 0).toNat < 2 ^ 30 ∧ (1 - ses.high : U32).toNat < 2 ^ 30) ∧
    (seqOk ses 4294967232 = true ∧ (ses.high - (4294967232 : U32)).toNat ≤ 64) := by
  decide +kernel

/-- The hypotheses of `Obligations.ChecksDecideInOrder` are met, clause by clause. -/
theorem witness_ChecksDecideInOrder :
    ((hd 1).auth = true ∧ ({ hd 1 with auth := false, session := 0 } : Hdr).session = 0 ∧ opcodeOpen 0x0100 = true) ∧
    (gateOpen one 0 = true ∧ gateOpen State.reset 0 = false ∧ gateOpen { one with proto := State.reset.proto } 0 = true) ∧
    ((countUnauth .eth0 one).1 = true ∧ ctxFree (ctxAt (countUnauth .eth0 one).2 1) = true) ∧
    (sessAt State.reset 1 = none ∧ sessAt one 1 = some ses ∧ seqOk ses (hd 1).seq = true) ∧
    (opcodeDefined 0x0104 = true ∧ opcodeDefined 0x0105 = false ∧ opcodeOpen 0x0104 = false ∧ opcodeUrgent 0x0104 = false) ∧
    (127 < (hd 128).tag.toNat ∧ (hd 127).tag.toNat ≤ 127) ∧
    (ctxFree (ctxAt (modSess 1 (takeSeq 0 2) (busy .long)) 2) = false ∧ sessAt (copyRef 0x0202 (zeros 8) one) 1 = some ses) := by
  decide +kernel

/-- The hypotheses of `Obligations.RefusedPacketsOccupyNoContext` are met, clause by clause. -/
theorem witness_RefusedPacketsOccupyNoContext :
    ((hd 0).auth = true ∧ (admits (hd 0) 0x0104 [1] one).1 = false) := by
  decide +kernel

/-- Start-up at step 5. -/
def boot5 : Machine.State := { one with dev := { one.dev with ph := .boot, step := 5 } }

/-- The hypotheses of `Obligations.StateRulesRefuseRequests` are met, clause by clause. -/
theorem witness_StateRulesRefuseRequests :
    (units serv = built ∧ receives serv .eth0 = true ∧ dispatches (adm 1 0x0200 [0] serv) = true) ∧
    ((admits (hd 1) 0x0200 [0] serv).1 = true ∧ (stateRefusal 0x0200 false (adm 1 0x0200 [0] serv)).isSome = true) ∧
    ((admits (hd 1) 0x0103 [0] serv).1 = true ∧ nothingAhead (hd 1) (adm 1 0x0103 [0] serv) = true) ∧
    (nothingAhead (hd 1) (adm 1 0x0200 [0] serv) = true ∧ nothingAhead (hd 1) (adm 1 0x0901 (beBytes 4 0 ++ leBytes 4 0 ++ leBytes 4 0) one) = true) ∧
    ((admits (hd 1) 0x0901 (beBytes 4 0 ++ leBytes 4 0 ++ leBytes 4 0) one).1 = true) ∧
    ((stateRefusal 0x0901 false (adm 1 0x0901 (beBytes 4 0 ++ leBytes 4 0 ++ leBytes 4 0) one)).isSome = true) ∧
    (receives boot5 .eth0 = true ∧ dispatches (adm 1 0x0103 [0] boot5) = true ∧ units boot5 = built) ∧
    ((admits (hd 1) 0x0103 [0] boot5).1 = true ∧ (stateRefusal 0x0103 false (adm 1 0x0103 [0] boot5)).isSome = true) := by
  decide +kernel

/-- CLKCTL of `one` changed. -/
def clk (f : Clk → Clk) : Machine.State := { one with clk := f one.clk }

/-- The hypotheses of `Obligations.ClockRegisterRowsAct` are met, clause by clause. -/
theorem witness_ClockRegisterRowsAct :
    (isUp one = true ∧ gateBit 0 = true ∧ gateOpen one 0 = true ∧ gateHeld one 0 = false) ∧
    (selRefusal (clk (fun c => { c with rdy := 0 })) .net 2 = some ST_SRC_NOT_READY) ∧
    (refOf 0b0010000 .net = 1) ∧
    (selRefusal one .net 1 = none ∧ refOf one.clk.sel.toNat .net = 1) ∧
    (selRefusal one .net 2 = none ∧ refOf one.clk.sel.toNat .net ≠ 2 ∧ refOf 0b0100000 .net = 2) ∧
    ((clk (fun c => { c with switching := [.net, .sys] })).clk.switching = .net :: [.sys]) ∧
    (refOf one.clk.sel.toNat .sys ≠ 0 ∧ Pll.sys ∉ one.clk.switching) ∧
    (gateOpen (inSt .running) 16 = true ∧ gateHeld (inSt .running) 16 = true) ∧
    (hasBit (clk (fun c => { c with closing := 1 })).clk.closing.toNat 0 = true) ∧
    (fmUsable one = true ∧ one.clk.fmBusy = false ∧ fmInRange one = true) ∧
    (fmInRange (clk (fun c => { c with fmGate := 1 })) = false) := by
  decide +kernel

/-- The hypotheses of `Obligations.WindowAndSnapshotRowsAct` are met, clause by clause. -/
theorem witness_WindowAndSnapshotRowsAct :
    (one.dev.ph ≠ .off ∧ domainRefusal (inSt .running) 8 2 0 ≠ none) ∧
    (domainRefusal one 15 2 0 = none) ∧
    (isUp one = true ∧ monRefused one 1 = false ∧ recorderOn one = true) ∧
    (domOn one (bankDom .a) = true ∧ comparatorOn (modBank .a (fun k => { k with force := true, input := 0 }) one) .a 0 = true) ∧
    (isFrozen (frozen .fmStart) = true ∧ restartBlocked (frozen .fmStart) = false) := by
  decide +kernel

/-- PWRCTL and the supply of `one` changed. -/
def pwr (f : Pwr → Pwr) : Machine.State := { one with pwr := f one.pwr }

/-- The device in a phase. -/
def inPh (p : Phase) : Machine.State := { one with dev := { one.dev with ph := p } }

/-- An entry to STANDBY at a step. -/
def entry (n : Nat) : Machine.State := { one with pwr := { one.pwr with sby := some ⟨n, false, false⟩ } }

/-- Machine 0 turns fast while STANDBY waits. -/
def turning : Machine.State := modMach 0 (fun m => { m with spd := 100000, spdKnown := true }) (modBridge 0 (fun b => { b with st := .running }) (entry 2))

/-- The hypotheses of `Obligations.WakePinRowsAct` are met, clause by clause. -/
theorem witness_WakePinRowsAct :
    ((inPh .standby).dev.ph = .standby ∧ (inPh .standby).pwr.kl30Lost = false) ∧
    (one.dev.ph = .up ∧ (inPh .boot).dev.ph = .boot ∧ (inPh .boot).safety.held = false ∧ (inPh .boot).dev.halted = none) ∧
    ((inPh .calibrating).dev.ph = .calibrating ∧ ({ one.dev with ph := .boot, halted := some 4 }).halted.isSome = true) ∧
    ((modDom 5 (fun d => { d with st := .off }) (pwr (fun p => { p with d5Hold := some 5 }))).pwr.d5Hold = some 5) ∧
    (domOn (modDom 5 (fun d => { d with st := .off }) (pwr (fun p => { p with d5Hold := some 5 }))) 5 = false) ∧
    ((domAt (modDom 5 (fun d => { d with st := .off }) one) 5).busy = false ∧ one.pwr.d5Hold = none) ∧
    (isUp (entry 4) = true ∧ (entry 4).pwr.sby = some ⟨4, false, false⟩ ∧ (entry 4).lgs.any (fun g => g.dis.isSome) = false) ∧
    (mainUp turning = true ∧ sbyStep turning = 2 ∧ parN turning 0xB003 ≤ 300) ∧
    ((activeMachines turning).filter (fun m => !belowFwSpeed turning m) = [0]) := by
  decide +kernel

/-- FROZEN, with the watcher on B0. -/
def watched : Machine.State := { frozen .fmStart with recd := { one.recd with watcher := true :: List.replicate 7 false } }

/-- A freeze is asked for at the pin. -/
def asking : Machine.State := { one with recd := { one.recd with freezePin := true } }

/-- The hypotheses of `Obligations.EnableAndFreezeRowsAct` are met, clause by clause. -/
theorem witness_EnableAndFreezeRowsAct :
    (isLive one = true ∧ isUp one = true) ∧
    (isUp asking = true ∧ asking.recd.freezePin = true) ∧
    (bridgeMach watched 0 = some 0 ∧ isFrozen watched = true ∧ watched.recd.watcher.getD 0 false = true) ∧
    (halfTooLong watched 0 1000000000 = true) := by
  decide +kernel

/-- STO channel A demands alone. -/
def demanding : Machine.State := { one with safety := { one.safety with demA := true } }

/-- The hypotheses of `Obligations.StoRowsAct` are met, clause by clause. -/
theorem witness_StoRowsAct :
    (one.dev.ph ≠ .off ∧ one.safety.demA = false ∧ one.safety.demB = false) ∧
    (monUp demanding = true ∧ demanding.safety.demA = true ∧ demanding.safety.demB = false ∧ parN demanding 0x8F01 ≤ 1000) ∧
    (demanding.safety.disc = false ∧ { one.safety with demB := true }.demB = true) := by
  decide +kernel

/-- The hypotheses of `Obligations.SupplyAndStartRowsAct` are met, clause by clause. -/
theorem witness_SupplyAndStartRowsAct :
    (one.pins.kl30 = true ∧ one.pwr.kl30Lost = false ∧ isFrozen one = false) ∧
    (isFrozen (frozen .fmStart) = true ∧ (frozen .fmStart).pins.kl30 = true ∧ (frozen .fmStart).pwr.kl30Lost = false) ∧
    ((pwr (fun p => { p with kl30Lost := true })).pwr.kl30Conf = false ∧ isUp (pwr (fun p => { p with kl30Lost := true })) = true) ∧
    ((pwr (fun p => { p with kl30Lost := true, kl30Conf := true })).pwr.kl30Conf = true) ∧
    (State.reset.dev.ph = .off) ∧
    ((inPh .boot).dev.ph = .boot ∧ { (inPh .boot).dev with bootCause := some .kl15 }.bootCause = some .kl15) ∧
    (stepMax 9 < 1001) := by
  decide +kernel

/-- D4 wakes. -/
def waking : Machine.State := modDom 4 (fun d => { d with st := .off, busy := true }) one

/-- STANDBY with the alarm armed and due. -/
def alarmed : Machine.State := { inPh .standby with pwr := { one.pwr with rtcArmed := true, alarm := 50 } }

/-- STANDBY, listening. -/
def listening (w : BitVec 2) : Machine.State := { inPh .standby with pwr := { one.pwr with listening := true, canWake := w } }

/-- The hypotheses of `Obligations.DomainRowsAct` are met, clause by clause. -/
theorem witness_DomainRowsAct :
    ((domAt waking 4).busy = true ∧ (domAt waking 4).forcedOff = false ∧ isUp waking = true ∧ (domAt waking 4).tries < 3) ∧
    ((domAt (modDom 4 (fun d => { d with tries := 3 }) waking) 4).tries = 3) ∧
    ((domAt (modDom 4 (fun d => { d with forcedOff := true }) waking) 4).forcedOff = true) ∧
    ((domAt (modDom 8 (fun d => { d with saved := true }) one) 8).saved = true ∧ (domAt one 8).st = .on) ∧
    (canWakes (pwr (fun p => { p with d5Hold := some 5, canWake := 1 })) [] (.dominant 5000) = true) ∧
    (domOn (modDom 5 (fun d => { d with st := .off }) (pwr (fun p => { p with d5Hold := some 5 }))) 5 = false) ∧
    ((domAt (modDom 5 (fun d => { d with st := .off }) (pwr (fun p => { p with d5Hold := some 5 }))) 5).busy = false ∧ one.dev.ph ≠ .standby) ∧
    ((pwr (fun p => { p with busyMain := true, busyMon := true })).pwr.busyMain = true) ∧
    (alarmed.dev.ph = .standby ∧ alarmed.pwr.rtcArmed = true ∧ alarmed.time.rtc = alarmed.pwr.alarm) ∧
    ((listening 1).dev.ph = .standby ∧ (listening 1).pwr.kl30Lost = false ∧ (listening 1).pwr.listening = true) ∧
    ((listening 1).pwr.canWake = 1 ∧ (listening 2).pwr.canWake = 2) ∧
    (isWakeFrame [] false 0 0 [] = true) := by
  decide +kernel

/-- The hypotheses of `Obligations.ClockSourceRowsAct` are met, clause by clause. -/
theorem witness_ClockSourceRowsAct :
    (one.dev.ph ≠ .off ∧ qualDelay one .xo25 ≤ 4000 ∧ (clk (fun c => { c with refqWritten := true })).clk.refqWritten = true) ∧
    (isLive one = true ∧ hasBit one.clk.coast.toNat (pllBit .sys) = false ∧ hasBit one.clk.coast.toNat (pllBit .net) = false) ∧
    ([ClkSrc.xo25, .rc40, .xo32k, .rc32k, .refin].all (srcReady one) = true ∧ srcWindow one .xo25 < |(-20001 : Int)|) ∧
    (monUp (clk (fun c => { c with nmi := [.xo25] })) = true ∧ (clk (fun c => { c with nmi := [.xo25] })).clk.nmi.contains .xo25 = true) ∧
    (onRc40 one = false ∧ onRc40 (clk (fun c => { c with nmi := [.xo25], sel := 0b0010000 })) = true) ∧
    ((50000 : Int) < |(50001 : Int)| ∧ pllSrc one .sys = some .xo25 ∧ srcReady (clk (fun c => { c with rdy := 0 })) .xo25 = false) ∧
    (pllSrc (clk (fun c => { c with sel := 0b0110000 })) .net = none ∧ one.clk.netStopped = false ∧ (clk (fun c => { c with netStopped := true })).clk.netStopped = true) ∧
    (allIdle one (List.range 8) = true ∧ one.dev.severe = false ∧ isUp one = true) ∧
    ((clk (fun c => { c with fmBusy := true })).clk.fmBusy = true) := by
  decide +kernel

/-- Channel `c` of `one` changed. -/
def ch (c : Nat) (f : Chan → Chan) : Machine.State := modChan c f one

/-- The hypotheses of `Obligations.IslandLatchRowsAct` are met, clause by clause. -/
theorem witness_IslandLatchRowsAct :
    (islandActs (ch 0 (fun x => { x with cmd := true })) 0 = true ∧ (chanAt (ch 0 (fun x => { x with cmd := true })) 0).cmd = true) ∧
    (100 * sideGate one 0 0 1 < 100000 ∧ 50 * sideGate one 0 2 3 + 120 ≤ 100000) ∧
    ((chanAt (ch 51 (fun x => { x with gate := .softOff })) 51).gate = .softOff ∧ -100000 < offLevel one 51 + 2000) ∧
    (chanHigh 0 = false ∧ (chanAt one 0).uvloOk = true) ∧
    (islandActs (gateDown false 0 (modChan 0 (fun x => { x with uvloOk := false, vbp := 11000 }) one)) 0 = true) ∧
    (islandActs (gateDown false 0 (modChan 0 (fun x => { x with uvloOk := false, vbp := 11000 }) (ch 0 (fun x => { x with powered := false })))) 0 = false) ∧
    (islandActs one 0 = true ∧ islandActs one 1 = true) ∧
    ((chanAt one (highChan 23)).operating = true ∧ islandActs one (highChan 23) = true) ∧
    (islandActs one (lowChan 23) = true ∧ (chanAt one (lowChan 23)).uvloOk = true ∧ mainUp one = true) ∧
    ((chanAt one 0).cmd = false ∧ offLevel (seeIsland ⟨30000, 18000, 17000, -5000⟩ 0 one) 0 + 2000 < 30000) ∧
    ((chanAt (ch 0 (fun x => { x with cmd := true })) 0).cmd = true ∧ -30000 < onLevel (seeIsland ⟨-30000, 18000, 17000, -5000⟩ 0 one) 0 - 2000) ∧
    (50 * (chanGate one 0 6).toNat + (if chanGate one 0 4 = 0 then 0 else 50 * (chanGate one 0 5).toNat) < 1000000) ∧
    ((chanAt one 0).refused.any (fun t => decide (one.time.dev < t + 20)) = false) ∧
    (overlapMet (ch 1 (fun x => { x with couplerLost := true })) 1 .partnerOn = true ∧ overlapMet one 0 .bothCommanded = true) ∧
    (overlapMet (ch 1 (fun x => { x with gateAt := 1000000000 })) 0 .within50ns = true) ∧
    (islandActs one 51 = true ∧ [0x0112, 0x0113, 0x0114, 0x0116, 0x0117].contains (0x0117 : U16).toNat = true) := by
  decide +kernel

/-- The hypotheses of `Obligations.IslandConditionRowsAct` are met, clause by clause. -/
theorem witness_IslandConditionRowsAct :
    (chanHigh 0 = false ∧ (chanAt (ch 0 (fun x => { x with uvloOk := false })) 0).uvloOk = false) ∧
    ((highOf (ch 1 (fun x => { x with operating := false })) 0).operating = false) ∧
    (islandActs one 1 = true ∧ (chanAt one 1).operating = true ∧ (chanAt one 1).warn = false) ∧
    ((highOf (ch 1 (fun x => { x with warn := true })) 0).warn = true) ∧
    (let v := gateDown false 1 (modChan 1 (fun x => { x with operating := false, vbs := 7000 }) (inSt .running)); islandActs v 1 = true ∧ stOf v (legBridge one 0) = .running ∧ latched (chanAt v 1) 0x0104 = false) ∧
    (stOf (gateDown false 1 (modChan 1 (fun x => { x with operating := false, vbs := 7000 }) one)) (legBridge one 0) = .idle) ∧
    (mainUp one = true ∧ islandActs one (lowChan 23) = true) ∧
    ((chanAt one 0).powered = true ∧ (chanAt one 0).parked = false ∧ (chanAt one 51).powered = true ∧ (chanAt one 51).parked = false) ∧
    (servedBridge one 0 = some 0 ∧ isLive one = true ∧ domOn one 8 = true ∧ (chanAt (ch 0 (fun x => { x with present := false })) 0).present = false) ∧
    (islandThere (chanAt one 0) = true ∧ isUp one = true ∧ (inPh .calibrating).dev.ph = .calibrating) ∧
    ((chanAt one 0).present = true ∧ (chanAt one 0).handFail = false ∧ (chanAt one 0).missed < 2 ∧ (chanAt (ch 0 (fun x => { x with missed := 2 })) 0).missed = 2) := by
  decide +kernel

/-- A commutation instant due now. -/
def due : Toggle := ⟨BitVec.ofNat 32 1000000000, 1⟩

/-- B0 in six-step with that instant for leg 0. -/
def stepping : Machine.State := modBridge 0 (fun b => { b with active := { b.active with sixstep := true, toggles := [[due], [], []] } }) (inSt .running)

/-- B0 in double update, at the peak of its carrier. -/
def peaking : Machine.State := { live [(0x3082, 1), (0x4081, 1)] with time := { one.time with dev := 1000012500 } }

/-- Machine 0 is ready to be locked and matched, at a period boundary. -/
def matching : Machine.State := modBridge 0 (fun b => { b with lastBoundary := some 1000000000 })
  (inM .armed (fun m => { m with ph := .checking, ready := true, readyAt := 999990000 }))

/-- Trigger 1 of B0 in use at the valley. -/
def triggered : Machine.State := live [(0x3089, 0)]

/-- The hypotheses of `Obligations.PwmRowsAct` are met, clause by clause. -/
theorem witness_PwmRowsAct :
    (isUp (inSt .precharging) = true ∧ precharging (inSt .precharging) 0 = true ∧ allOperating (inSt .precharging) 0 = true) ∧
    (allOperating { inSt .precharging with chans := starting.chans } 0 = false) ∧
    ((machAt one 0).phStart + bGate one 0 0xF1 * 400000 ≤ one.time.dev) ∧
    (timerOn one 0 = true ∧ boundaryDue one 0 false = true) ∧
    (timerOn peaking 0 = true ∧ boundaryDue peaking 0 true = true) ∧
    (4 ≤ (bridgeAt (modBridge 0 (fun b => { b with miss := 4 }) (inSt .running)) 0).miss ∧ stOf (inSt .running) 0 = .running) ∧
    (isStart (machAt matching 0).ph = true ∧ (machAt matching 0).ready = true ∧ (machAt matching 0).readyAt < matching.time.dev) ∧
    (allIn matching (machBridges matching 0) .armed = true ∧ rectWaits matching 0 = false) ∧
    ((bridgeAt matching (setBridge matching 0 0)).lastBoundary = some matching.time.dev) ∧
    (timerOn (inSt .running) (legBridge one 0) = true ∧ isActive (stOf (inSt .running) 0) = true) ∧
    ((recentRefusals (driveLeg false .none 0 (inSt .running)) 0).length < bPwm (inSt .running) 0 0x86) ∧
    (bPwm one 0 0x86 < (recentRefusals (modBridge 0 (fun b => { b with xon := List.replicate 40 1000000000 }) (inSt .running)) 0).length) ∧
    ((bridgeAt (inSt .running) 0).ovr.any (fun o => o.src == .fault 0x0201) = false) ∧
    ((bridgeAt stepping 0).active.toggles.getD 0 [] = [due] ∧ timerOn stepping 0 = true ∧ ticksTo stepping due.time = 0) ∧
    ((bridgeAt stepping 0).st = .running ∧ (bridgeAt stepping 0).active.sixstep = true) ∧
    (stOf one 0 ≠ .disabled ∧ trigUsed one 0 0 = true ∧ trigDue one 0 0 = true) ∧
    (trigUsed triggered 0 1 = true ∧ trigDue triggered 0 1 = true ∧ timerOn triggered 0 = true) ∧
    (stOf (inSt .disabled) 0 = .disabled) := by
  decide +kernel

/-- A slave of a cascade. -/
def slave : Machine.State := { live [(0x4081, 1), (0xAF36, 3)] with dev := { one.dev with casc0 := true } }

/-- An induction machine. -/
def induction : Machine.State := modBridge 0 (fun b => { b with st := .running }) (live [(0x4081, 1), (0x4000, 1)])

/-- The angle of the voltage vector at the boundary after `live`, for a vector whose angle to the rotor is `a`. -/
def vertexAngle (a : Int) : Nat := ang18 ((ang18 (0 + a) : Int) + 43691092)

/-- Compare values that hold every leg at the rail that six-step gives it at an angle. -/
def rails (th : Nat) : List (Nat × Nat) := [0, 1, 2].map (fun k => if sixHigh th k then (0, 0) else (200000, 200000))

/-- The angle of the zero vector, which the spec leaves open. -/
def zeroAngle : Int := Config.atan18 (puRat 0) (puRat 0)

/-- Machine 0 may enter six-step. -/
def sixIn : Machine.State := modPos 0 (fun p => { p with angleValid := true, speedValid := true, rpm100 := 100000 })
  (modMach 0 (fun m => { m with sixIn := 16, sixRamp := 8, tRef := 100, spd := 100000, spdKnown := true })
    (modBridge 0 (fun b => { b with
        st := .running, active := { b.active with cmp := rails (vertexAngle zeroAngle) }, shadow := { b.shadow with cmp := rails (vertexAngle zeroAngle) } })
      (live [(0x4081, 1), (0x5000, 3), (0x4030, 1)])))

/-- Every leg of machine 0 is clamped there, whatever the angle of the zero vector. -/
theorem sixIn_clamped : allClamped sixIn 0 = true := by
  have hs : controlledSets sixIn 0 = [0] := by decide +kernel
  have hb : setBridge sixIn 0 0 = 0 := by decide +kernel
  have ht : turned sixIn 0 (((sixIn.time.dev + (if (bridgeAt sixIn 0).lateCommit then 0 else toBoundary sixIn 0) : Nat) : Rat) -
      ((bridgeAt sixIn 0).smp.time : Rat)) = 43691092 := by decide +kernel
  have ha : entryAngle sixIn 0 = ang18 (0 + zeroAngle) := rfl
  have hc : (bridgeAt sixIn 0).active.cmp = rails (vertexAngle zeroAngle) := rfl
  have hd : (bridgeAt sixIn 0).shadow.cmp = rails (vertexAngle zeroAngle) := rfl
  have hi : bPwm sixIn 0 0x81 = 0 := by decide +kernel
  have hp : bPwm sixIn 0 0x80 = 25000 := by decide +kernel
  have hr : ∀ (th k : Nat), clampRail sixIn 0 (if sixHigh th k then (0, 0) else (200000, 200000)) = some (sixHigh th k) := by
    intro th k
    unfold clampRail
    rw [hi, hp]
    cases sixHigh th k <;> rfl
  have hv : ang18 ((ang18 (0 + zeroAngle) : Int) + 43691092) = vertexAngle zeroAngle := rfl
  simp only [allClamped, hs, List.all_cons, List.all_nil, hb, ht, ha, hc, hd, hv, rails, List.map_cons, List.map_nil,
    List.getD_cons_zero, List.getD_cons_succ, hr, Option.isSome_some, beq_self_eq_true, Bool.and_self]

/-- Machine 0 runs on crossings. -/
def crossing : Machine.State := modMach 0 (fun m => { m with six := true, zcAngle := true, zcMiss := 24, spd := 1000000, spdKnown := true })
  (modBridge 0 (fun b => { b with st := .running }) (live [(0x4081, 1), (0x4018, 1), (0x4030, 1)]))

/-- The hypotheses of `Obligations.ControlRowsAct` are met, clause by clause (for SIXSTEP_ENTRY with `sixIn_clamped`). -/
theorem witness_ControlRowsAct :
    (isUp slave = true ∧ isSlave slave = true ∧ parN slave 0x3F02 ≤ 100 ∧ slave.net.syncLost = false) ∧
    (controlDue (modBridge 0 (fun b => { b with ctrlAt := some 1000000000 }) (inSt .running)) 0 = true) ∧
    (machRunning (inSt .running) 0 = true ∧ machRunning one 0 = false) ∧
    (mainUp (inSt .running) = true ∧ drives (inSt .running) 0 = true) ∧
    ((machAt (inM .running (fun m => { m with reduced := some 100 })) 0).reduced = some 100 ∧ 100 + 4000000 < one.time.dev ∧ (machAt one 0).f0211 = false) ∧
    (mParN one 0 0x29 * 40000 < (machAt (inM .running (fun m => { m with trkCnt := 1000000 })) 0).trkCnt * ctrlPeriod one 0) ∧
    (machRunning six 2 = true ∧ mParN six 2 0x27 * 400000 < (machAt (modMach 2 (fun m => { m with xyCnt := 1000000 }) six) 2).xyCnt * ctrlPeriod six 2) ∧
    (isPmsm induction 0 = false ∧ machRunning induction 0 = true ∧ (machAt induction 0).fluxOk = false) ∧
    (10 * rotorTau induction 0 * 400000000 < ((induction.time.dev - (machAt induction 0).ranAt : Nat) : Rat)) ∧
    (drives sixIn 0 = true ∧ (machAt sixIn 0).six = false ∧ sixAllowed sixIn 0 = true ∧ 16 ≤ (machAt sixIn 0).sixIn ∧ 8 ≤ (machAt sixIn 0).sixRamp) ∧
    (sixConds sixIn 0 = true) ∧
    ((machAt (inM .running (fun m => { m with six := true, sixOut := 16 })) 0).six = true) ∧
    (sixConds (inM .running (fun m => { m with six := true })) 0 = false ∧ sixAllowed one 0 = false) ∧
    (crossingsServe crossing 0 = true ∧ crossingSpeed crossing 0 = true ∧ (machAt crossing 0).zcAngle = true) := by
  decide +kernel

/-- Machine 2 disarms, one bridge in the safe state. -/
def halfSafe : Machine.State := modMach 2 (fun m => { m with ramp := .disarm }) (modBridge 3 (fun b => { b with st := .safe }) six)

/-- Diode current while machine 0 catches. -/
def rectified : Machine.State := modBridge 0 (fun b => { b with smp := { b.smp with iA := [1000000, 0, 0] } })
  (inM .armed (fun m => { m with ph := .catching }))

/-- Machine 0 in its checks. -/
def checked : Machine.State := inM .armed (fun m => { m with ph := .checking })

/-- Machine 0 in the extension of its catch window. -/
def extendedM : Machine.State := inM .armed (fun m => { m with ph := .catching, extended := true })

/-- Ten crossings of an even rotation. -/
def turns : CatchObs := ⟨400000, [⟨0, 0, true, 1000000, 400000⟩, ⟨0, 2, false, 2000000, 400000⟩, ⟨0, 1, true, 3000000, 400000⟩, ⟨0, 0, false, 4000000, 400000⟩,
  ⟨0, 2, true, 5000000, 400000⟩, ⟨0, 1, false, 6000000, 400000⟩, ⟨0, 0, true, 7000000, 400000⟩, ⟨0, 2, false, 8000000, 400000⟩, ⟨0, 1, true, 9000000, 400000⟩,
  ⟨0, 0, false, 10000000, 400000⟩]⟩

/-- Machine 0 in a pluck test, a pulse under way. -/
def plucked : Machine.State := inM .armed (fun m => { m with ph := .plucking, pluck := some { Pluck.fresh true with start := some 0 } })

/-- Machine 0 runs on its observer, out of its limits. -/
def lostObs : Machine.State := modMach 0 (fun m => { m with obs := { m.obs with badSince := some 0 } }) crossing

/-- The hypotheses of `Obligations.StartingRowsAct` are met, clause by clause. -/
theorem witness_StartingRowsAct :
    (isUp six = true ∧ (machAt crossing 0).six = true ∧ (machAt crossing 0).zcAngle = true ∧ mParN crossing 0 0x36 ≤ (machAt crossing 0).zcMiss) ∧
    ((machAt (inM .running (fun m => { m with ramp := .stop [(0x0301, 0)] })) 0).ramp = .stop [(0x0301, 0)] ∧ (machAt (inSt .running) 0).tRef = 0) ∧
    ((machAt (inM .running (fun m => { m with ramp := .disarm })) 0).ramp = .disarm) ∧
    (allIn (toIdle 0 (inM .running (fun m => { m with ramp := .disarm }))) (machBridges one 0) .idle = true) ∧
    (allIn (toIdle 2 halfSafe) (machBridges (toIdle 2 halfSafe) 2) .idle = false ∧ (machAt halfSafe 2).ramp = .disarm ∧ (machAt halfSafe 2).tRef = 0) ∧
    ((machAt (inM .running (fun m => { m with ramp := .retire 0 3 })) 0).ramp = .retire 0 3) ∧
    (isStart (machAt rectified 0).ph = true ∧ pulsing rectified 0 = false ∧ rectifying rectified 0 0 0 = true) ∧
    ((machAt checked 0).ph = .checking ∧ (machAt checked 0).ready = false ∧ rectWaits checked 0 = false) ∧
    ((machAt checked 0).phStart + mParN checked 0 0x64 * 40000 ≤ checked.time.dev) ∧
    ((machAt extendedM 0).ph = .catching ∧ (machAt extendedM 0).ready = false ∧ rectWaits extendedM 0 = false) ∧
    ((machAt extendedM 0).extended = true ∧ (machAt extendedM 0).extEnd ≤ extendedM.time.dev) ∧
    ((evaluateCatch extendedM 0 turns).2.isSome = true ∧ (evaluateCatch extendedM 0 ⟨0, []⟩).2 = none) ∧
    ((machAt plucked 0).pluck = some { Pluck.fresh true with start := some 0 } ∧ (Pluck.fresh true).halfUs ≤ 1000) ∧
    ((machAt plucked 0).ph = .plucking ∧ (machAt plucked 0).ready = false ∧ rectWaits plucked 0 = false) ∧
    (machRunning lostObs 0 = true ∧ isPmsm lostObs 0 = true ∧ usesIf lostObs 0 = false) ∧
    ((machAt lostObs 0).obs.badSince = some 0 ∧ mParN lostObs 0 0x6D * 40000 ≤ lostObs.time.dev) := by
  decide +kernel

/-- Interface 0 in a mode, valid or faulty. -/
def ifc (mode : Int) (faulty : Bool) : Machine.State :=
  modPos 0 (fun p => { p with faulty := faulty, speedValid := true, angleValid := true }) (live [(0x4081, 1), (0x5000, mode)])

/-- Quadrature interface 0 with its levels, valid or faulty. -/
def levels (a b faulty : Bool) : Machine.State := modPos 0 (fun p => { p with levels := some (a, b) }) (ifc 3 faulty)

/-- Resolver interface 0 locked since the start. -/
def locking : Machine.State := modPos 0 (fun p => { p with angleValid := false, track := { p.track with lockAt := some 0 } }) (ifc 1 false)

/-- The hypotheses of `Obligations.PositionRowsAct` are met, clause by clause. -/
theorem witness_PositionRowsAct :
    (posOn (ifc 1 false) 0 = true ∧ posOn (ifc 2 false) 0 = true ∧ posOn (ifc 3 false) 0 = true ∧ posOn (ifc 4 false) 0 = true) ∧
    (qfAccepts (ifc 3 false) 0 1000 = true ∧ qfAccepts (ifc 2 false) 0 0 = true ∧ (posAt (ifc 3 false) 0).faulty = false) ∧
    (posMode (ifc 3 false) 0 = 3 ∧ bothHigh (levels true true false) 0 = true ∧ (posAt (levels true true false) 0).levels = some (true, true)) ∧
    (bothHigh (takeLevels 0 true true (levels false false false)) 0 = true ∧ bothHigh (takeLevels 0 false true (levels true false false)) 0 = false) ∧
    ((posAt (levels true false true) 0).faulty = true ∧ (posAt (levels true false true) 0).levels = some (true, false)) ∧
    (posPar (ifc 3 false) 0 8 < ((recentBad (modPos 0 (fun p => { p with bad := List.replicate 40 250000000 }) (ifc 3 false)) 0).length : Int)) ∧
    (posPar (ifc 4 false) 0 8 < ((recentBad (modPos 0 (fun p => { p with bad := List.replicate 40 250000000 }) (ifc 4 false)) 0).length : Int)) ∧
    (hallAccepts (ifc 4 false) 0 1000 = true ∧ hallBad (ifc 4 false) 0 7 = true ∧ hallBad (ifc 4 true) 0 7 = true) ∧
    (posMode (ifc 4 false) 0 = 4 ∧ (posAt (modPos 0 (fun p => { p with hallBadAt := some 100 }) (ifc 4 false)) 0).hallBadAt = some 100) ∧
    (posMode (ifc 1 false) 0 = 1 ∧ posMode (ifc 2 false) 0 = 2) ∧
    ((posPar (ifc 1 false) 0 1 : Rat) < 8 * signalHz (modPos 0 (fun p => { p with track := { p.track with speed := 1000000 } }) (ifc 1 false)) 0) ∧
    (200000 < signalHz (modPos 0 (fun p => { p with track := { p.track with speed := 1000000 } }) (ifc 2 false)) 0) ∧
    ((posAt locking 0).faulty = false ∧ (posAt locking 0).angleValid = false ∧ (posAt locking 0).track.lockAt = some 0 ∧ posMode locking 0 = 1) ∧
    ((posAt (ifc 3 true) 0).faulty = true ∧ posOn (ifc 3 true) 0 = true ∧ posMach (ifc 3 true) 0 = some 0 ∧ machRunning (ifc 3 true) 0 = false) ∧
    ((posAt (ifc 3 true) 0).checkAt + 40000000 ≤ (ifc 3 true).time.dev ∧ (posAt (ifc 3 true) 0).hallBadAt = none) ∧
    (hallAccepts (ifc 4 true) 0 1000 = true ∧ (posAt (ifc 4 true) 0).faulty = true) ∧
    ((posAt (ifc 3 false) 0).winAt + (posAt (ifc 3 false) 0).winLen ≤ now10 (ifc 3 false) ∧ (posAt (ifc 3 false) 0).speedValid = true) ∧
    (((posAt (ifc 3 false) 0).lastEdge.getD (posAt (ifc 3 false) 0).initAt : Int) + 100000 * posPar (ifc 3 false) 0 0xC ≤ now10 (ifc 3 false)) := by
  decide +kernel

/-- Compare unit 0 changed. -/
def cmpU (f : CmpUnit → CmpUnit) : Machine.State := modCmp 0 f one

/-- A quadrature interface that divided output 0 follows. -/
def quadOut : Machine.State := modPos 0 (fun p => { p with speedValid := true, angleValid := true })
  (live [(0x4081, 1), (0x5000, 3), (0x5800, 0)])

/-- The hypotheses of `Obligations.OutputAndCompareRowsAct` are met, clause by clause. -/
theorem witness_OutputAndCompareRowsAct :
    (isUp one = true ∧ gateOpen one 12 = true ∧ poutValid quadOut 0 = true ∧ isUp quadOut = true ∧ gateOpen quadOut 11 = true) ∧
    (poutIsB quadOut 0 = false ∧ poutPar quadOut 0 3 ≠ 2 ∧ poutRoom quadOut 0 = true) ∧
    ((poutAt (modPout 0 (fun p => { p with queue := [true] }) quadOut) 0).queue = [true]) ∧
    ((cmpAt (cmpU (fun c => { c with pend := some (5, true) })) 0).pend = some (5, true)) ∧
    ((cmpAt (cmpU (fun c => { c with st := .armed, hit := some (true, 5, 1000) })) 0).st = .armed) ∧
    ((cmpAt (cmpU (fun c => { c with st := .armed, hit := some (true, 5, 1000) })) 0).hit = some (true, 5, 1000)) ∧
    (let s := modCmp 0 (fun c => { c with waiting := true, target := 0x20000 }) (modPos 0 (fun p => { p with count := 0 }) quadOut); (cmpAt s 0).waiting = true ∧ 0x10000 ≤ |angDiff (cmpAngle s 0) (cmpAt s 0).target|) := by
  decide +kernel

/-- Link group 0 changed. -/
def lnk (f : LinkGroup → LinkGroup) : Machine.State := modLg 0 f one

/-- A low link voltage below its limit. -/
def uvSet : Machine.State := modLg 0 (fun g => { g with vlg := some 100000 }) (live [(0x7004, 500)])

/-- The hypotheses of `Obligations.SensingRowsAct` are met, clause by clause. -/
theorem witness_SensingRowsAct :
    (comparatorOn one .a 0 = true ∧ filterNs one 0 ≤ 100000) ∧
    (let v := compareInput .a 0 100000 one; hasBit (bankOf v .a).outside.toNat 0 = true ∧ filterNs v 0 ≤ 100000) ∧
    (bridgeMach one 0 = some 0 ∧ domOn one 6 = true ∧ (bridgeAt one 0).recalA = false ∧ (bridgeAt one 0).sumA = false) ∧
    (bSns one 0 4 ≤ (bridgeAt (modBridge 0 (fun b => { b with isumA := 255, isumB := 255 }) one) 0).isumA) ∧
    (domOn one 7 = true ∧ (bridgeAt one 0).recalB = false ∧ (bridgeAt one 0).sumB = false) ∧
    (one.dev.supplyA = false ∧ one.dev.supplyB = false ∧ { one.dev with supplyA := true, supplyB := true }.supplyA = true) ∧
    (islandActs one (lowChan (bridgeLeg one 0 0)) = true ∧ (lgPar one (lgOf one 0) 3 : Int) * 1000 < 100000000) ∧
    (mainUp one = true ∧ (lgAt one 0).ovWarn = false ∧ vlgAbove (lnk (fun g => { g with vlg := some 20000000 })) 0 (lgPar one 0 2) = true) ∧
    (vlgBelow (lnk (fun g => { g with ovWarn := true })) 0 ((lgPar one 0 2 : Int) - 10) = true) ∧
    (lgPar uvSet 0 4 ≠ 0 ∧ (lgAt uvSet 0).uvLim = false ∧ vlgBelow uvSet 0 (lgPar uvSet 0 4) = true) ∧
    (vlgAbove (lnk (fun g => { g with uvLim := true })) 0 ((lgPar one 0 4 : Int) + 10) = true) := by
  decide +kernel

/-- A chopper on link group 0. -/
def chop : Machine.State := live [(0x7005, 1)]

/-- The automatic discharge waits. -/
def autoDis : Machine.State := modLg 0 (fun g => { g with autoWait := true }) (live [(0x700D, 1)])

/-- A discharge through the switch, with winding discharge allowed. -/
def switched : Machine.State := modLg 0 (fun g => { g with dis := some ⟨0, none, none⟩, disOn := true }) (live [(0x700E, 1)])

/-- A discharge through machine 0. -/
def winding : Machine.State := modMach 0 (fun m => { m with spd := 100000, spdKnown := true })
  (modLg 0 (fun g => { g with dis := some ⟨0, some 0, none⟩ }) one)

/-- The chopper conducts. -/
def chopping : Machine.State := modLg 0 (fun g => { g with chopOn := true }) chop

/-- Its resistor is hot. -/
def heated : Machine.State := modLg 0 (fun g => { g with energy := 1000000000000, formAt := 1000000000 }) chop

/-- The hypotheses of `Obligations.LinkRowsAct` are met, clause by clause. -/
theorem witness_LinkRowsAct :
    (isUp one = true ∧ domOn one 3 = true ∧ (heatResistor 0 one).lgs.length = 2 ∧ ((lgBridges one 0).filter (givesReading (heatResistor 0 one))).length = 7) ∧
    (chopHeld one 0 = true ∧ chopperAvailable chop 0 = true ∧ (lgAt chop 0).chopOn = false ∧ chopHeld chop 0 = true) ∧
    ((lgAt (modLg 0 (fun g => { g with onRun := 2 }) chop) 0).onRun = 2 ∧ (lgAt (modLg 0 (fun g => { g with chopOn := true, offRun := 2 }) chop) 0).chopOn = true) ∧
    (chopSupervised chop 0 = true ∧ (lgAt chop 0).chopLock = false ∧ (lgAt chopping 0).chopOn = true) ∧
    (belowHalf chopping 0 (lgAt chopping 0).chopAt (chopOhms chopping 0) 0 = true) ∧
    (auxLatched (modChan 48 (fun c => { c with latches := [⟨0x0112, 1, 1, 1, [], true⟩] }) one) (2 * 0) = true) ∧
    (aboveTenth chop 0 (lgAt chop 0).chopAt (chopOhms chop 0) 2000000000 = true ∧ aboveTenth chop 0 (lgAt chop 0).chopAt (chopOhms chop 0) 0 = false) ∧
    (startHalted { one with dev := { one.dev with ph := .boot, halted := some 5 } } = true) ∧
    (9 / 10 * (lgPar (heatResistor 0 heated) 0 8 : Rat) < (lgAt (heatResistor 0 heated) 0).energy ∧ (lgAt (heatResistor 0 heated) 0).energyFlag = false) ∧
    ((lgAt (heatResistor 0 chop) 0).energy ≤ 9 / 10 * (lgPar (heatResistor 0 chop) 0 8 : Rat)) ∧
    (lgPar autoDis 0 0xD = 1 ∧ (lgAt autoDis 0).autoWait = true ∧ dischargeRefusal autoDis 0 = none ∧ monUp autoDis = true) ∧
    ((lgAt (lnk (fun g => { g with lowAt := some 0 })) 0).lowAt = some 0 ∧ windingGroup winding 0 = some 0) ∧
    ((lgAt switched 0).disOn = true ∧ belowHalf switched 0 (lgAt switched 0).disAt (disOhms switched 0) 0 = true) ∧
    ((lgAt (raiseFault 0x0507 0 (srcLg 0) (.linkGroup 0) [] (setDischarge 0 false switched)) 0).dis = some ⟨0, none, none⟩) ∧
    (lgPar (raiseFault 0x0507 0 (srcLg 0) (.linkGroup 0) [] (setDischarge 0 false switched)) 0 0xE = 1) ∧
    ((lgAt (raiseFault 0x0507 0 (srcLg 0) (.linkGroup 0) [] (setDischarge 0 false (lnk (fun g => { g with disOn := true })))) 0).dis = none) ∧
    ((lgAt one 0).disOn = false ∧ aboveTenth one 0 (lgAt one 0).disAt (disOhms one 0) 2000000000 = true) ∧
    (isUp winding = true ∧ linkEmpty winding 0 = false ∧ creeping winding 0 = false) ∧
    ((lgAt switched 0).dis = some ⟨0, none, none⟩ ∧ 0 + lgPar switched 0 0xC * 400000 ≤ switched.time.dev ∧ vlgBelow switched 0 60 = false) := by
  decide +kernel

/-- B0 held by an override, its active short not available. -/
def heldB : Machine.State := modMach 0 (fun m => { m with spd := 2000000, spdKnown := true })
  (modBridge 0 (fun b => { b with st := .safe, ovr := [⟨.fault 0x0501, 3, 0⟩], pmsm := true, fast := true })
    { one with chans := one.chans.map (fun c => { c with present := false }) })

/-- The main pair halted. -/
def halted : Machine.State := { one with safety := { one.safety with main := { one.safety.main with halted := true } } }

/-- The module in Split mode. -/
def twoCores : Machine.State := { one with dev := { one.dev with split := true } }

/-- The hypotheses of `Obligations.MonitorRowsAct` are met, clause by clause. -/
theorem witness_MonitorRowsAct :
    (monUp one = true ∧ one.safety.fastWin < one.time.dev / 40000 ∧ (List.replicate 8 (default : SpeedSeen)).length = 8) ∧
    (isHeld (bridgeAt heldB 0) = true ∧ shortStill heldB 0 = true ∧ (bridgeAt heldB 0).shortRaised = false ∧ monUp heldB = true) ∧
    (compared one .main = true ∧ compared one .mon = true ∧ (pairState one (pairIx .mon)).injAt ≤ one.time.dev) ∧
    ((pairState halted (pairIx .main)).halted = true ∧ isUp halted = true ∧ injPasses 32 false = true ∧ injPasses 31 false = false) ∧
    (machExists (inSt .running) 0 = true ∧ windowDue (inSt .running) 0 = true) ∧
    (one.safety.main.missed = false ∧ one.safety.main.suspended = false ∧ one.safety.mon.missed = false ∧ one.safety.mon.suspended = false) ∧
    (beats one .main = true ∧ beats one .mon = true ∧ beats one .main2 = false ∧ isUp one = true) ∧
    (beats twoCores .main2 = true ∧ isUp twoCores = true ∧ twoCores.dev.split = true ∧ twoCores.safety.main2.missed = false ∧ twoCores.safety.main2.suspended = false) ∧
    (mainUp one = true ∧ mainUp halted = false) := by
  decide +kernel

/-- Contactor driver 0 closed, in its pull-in time. -/
def pulled : Machine.State := modCtd 0 (fun c => { c with closed := true, tag := some 5 }) (live [(0x8801, 1), (0x8804, 50)])

/-- The hypotheses of `Obligations.DieAndContactorRowsAct` are met, clause by clause. -/
theorem witness_DieAndContactorRowsAct :
    (isLive one = true ∧ supplyInside one .vddIo 1800 = true ∧ supplyInside one .vddIo 100 = false) ∧
    (one.safety.supBad.getD (supplyIx .vddIo) false = false ∧ ((100 : Nat) : Rat) < (supplyWindow one .vddIo).1) ∧
    ({ one.safety with held := true }.held = true ∧ monUp one = true) ∧
    ((one.safety.supLow.set (supplyIx .vddIo) true).getD (supplyIx .vddIo) false = true) ∧
    (true ∉ (one.safety.supLow.set (supplyIx .vddIo) true).set (supplyIx .vddIo) false) ∧
    (true ∈ ((one.safety.supLow.set 1 true).set (supplyIx .vddIo) true).set (supplyIx .vddIo) false ∨ supplyIx .vddIo = 1) ∧
    ((ctdAt pulled 0).closed = true ∧ (ctdAt pulled 0).econ = false ∧ ctPar pulled 0 4 ≠ 100 ∧ monUp pulled = true) ∧
    ((ctdAt pulled 0).since + ctPar pulled 0 3 * 400000 ≤ pulled.time.dev) ∧
    (feedbackAll pulled 0 0 true = false ∧ cfbTime pulled ≤ 10000 ∧ (ctdAt pulled 0).tag = some 5) ∧
    ((ctdAt (modCtd 0 (fun c => { c with tag := none }) pulled) 0).tag = none) := by
  decide +kernel

/-- Every sensor read and valid. -/
def learning : Machine.State := { one with temps := one.temps.map (fun t => { t with read := true }) }

/-- The hypotheses of `Obligations.TemperatureRowsAct` are met, clause by clause. -/
theorem witness_TemperatureRowsAct :
    (mainUp one = true ∧ sensorRead one 0 = true ∧ monUp one = true) ∧
    ((tempAt learning 16).read = true ∧ (tempAt learning 16).invalid = false ∧ (tempAt learning 16).suspect = false) ∧
    ((neighbourMedian learning learning 16).isSome = true ∧ sensorRead learning 16 = true ∧ periodOver learning (tempAt learning 16).learnAt slowPeriod = true) ∧
    (let v := modTemp 16 (fun x => { x with monAt := some 1000000000, own := validReading one 16 (.value 1600) }) one; readsBelow v 16 (.value 1600) = false ∧ monitorValue v 16 = some 1600 ∧ (tTrip v 16 : Rat) ≤ 1600) ∧
    (periodOver one (tempAt one 16).monAt slowPeriod = true ∧ periodOver one one.dev.compAt slowPeriod = true) ∧
    (({ one.dev with compAt := some 0 }).compAt = some 0 ∧ 0 + 3 * slowPeriod < one.time.dev ∧ one.dev.compTold = false) := by
  decide +kernel

/-- A packet of 24 bytes: GET_STATE without a session. -/
def pkt : List Byte := [2, 0, 0x01, 0x01, 5, 0, 0, 0] ++ zeros 16

/-- A CAN module on cascade index 0. -/
def canny : Machine.State := live [(0xA800, 1), (0xA840, 1)]

/-- A reassembly under way on CANF0. -/
def reading : Machine.State := { canny with proto := { canny.proto with reasm := canny.proto.reasm.set 0 (some ⟨[1], 1, 0⟩) } }

/-- A ring of two devices, this one the master. -/
def ring : Machine.State := live [(0xAF36, 3), (0xAF29, 1), (0xAF21, 1)]

/-- A request frame in the buffer of CANF0. -/
def buffered (bytes : List Byte) : Machine.State := modCan 0 (fun c => { c with rx := c.rx.set (bufferPair true 0).1 ⟨[(0, bytes)]⟩ }) canny

/-- The hypotheses of `Obligations.ArrivalRowsAct` are met, clause by clause. -/
theorem witness_ArrivalRowsAct :
    (receives one .eth0 = true ∧ pkt.length = 24 ∧ pkt.getD 0 0 = 0x02 ∧ hasBit (field pkt 1 1) 0 = false ∧ field pkt 6 2 ≤ 4096) ∧
    (pkt.length = packetLength pkt ∧ paddingOk .eth0 [] = true ∧ field pkt 1 1 / 16 = 0 ∧ (pkt ++ [0]).length ≠ packetLength (pkt ++ [0])) ∧
    (receives one (ethPort 0) = true ∧ netPar one 0x27 = 0 ∧ deviceIndex one = 0) ∧
    (receives (buffered [1]) (canPort 0) = true ∧ oldestFrame 0 true 0 (buffered [1]) = some [1] ∧ servesIndex (buffered [1]) 0 = true) ∧
    (oldestFrame 0 true 0 (buffered []) = some []) ∧
    (served reading = true ∧ reading.proto.reasm.getD 0 none = some ⟨[1], 1, 0⟩ ∧ 0 + netPar reading 0x42 * 40000 < reading.time.dev) ∧
    (sessAt one 1 = some ses ∧ receives ring .ring = true) ∧
    (oldestFrame 0 false 0 (modCan 0 (fun c => { c with rx := c.rx.set (bufferPair false 0).1 ⟨[(0, zeros 64)]⟩ }) canny) = some (zeros 64)) := by
  decide +kernel

/-- A request waits in a dispatch queue. -/
def queued (urgent : Bool) : Machine.State :=
  { one with proto := { one.proto with urgentQ := if urgent then [2] else [], normalQ := [2] } }

/-- A command that a closed session left under tag 2. -/
def leftover : Machine.State := { one with proto := { one.proto with left := [{ Ctx.reset with st := .long, hdr := hd 2 }] } }

/-- Session 1 idle for long. -/
def idleLong : Machine.State := { live [(0xAF43, 1)] with time := { one.time with dev := 100000000000 } }

/-- A nonce of session 1 issued long ago. -/
def lateNonce : Machine.State := { idleLong with proto := { one.proto with sess := some { ses with nonce := some (7, 0) } :: List.replicate 7 none } }

/-- Machine 0 bound to session 1. -/
def boundM : Machine.State := inM .armed (fun m => { m with bound := some 1 })

/-- State frames to session 1. -/
def stating : Machine.State := { live [(0xAF2B, 1)] with proto := { one.proto with spSrc := some (1, .eth0, []) } }

/-- The hypotheses of `Obligations.ContextAndSessionRowsAct` are met, clause by clause. -/
theorem witness_ContextAndSessionRowsAct :
    (served one = true ∧ dispatches one = true ∧ (queued true).proto.urgentQ = [2] ∧ (queued false).proto.normalQ = [2]) ∧
    ((queued false).proto.urgentQ = []) ∧
    ((ctxAt (busy .short) 2).deadline ≤ (busy .short).time.dev ∧ (ctxAt (busy .short) 2).st = .short ∧ (ctxAt (busy .long) 2).st = .long) ∧
    ((busy .short).proto.left = [] ∧ (busy .short).proto.ctx.length = 128 ∧ leftover.proto.left = [{ Ctx.reset with st := .long, hdr := hd 2 }]) ∧
    ((ctxAt leftover 2).st = .free ∧ (hd 2).tag.toNat = 2 ∧ Ctx.reset.deadline ≤ leftover.time.dev) ∧
    (sessAt idleLong 1 = some ses ∧ netPar idleLong 0x43 ≠ 0 ∧ ses.last + netPar idleLong 0x43 * 400000000 ≤ idleLong.time.dev) ∧
    (sessAt lateNonce 1 = some { ses with nonce := some (7, 0) } ∧ 24000000000 ≤ lateNonce.time.dev) ∧
    ((machAt boundM 0).bound.isSome = true ∧ (machAt boundM 0).timedOut = false ∧ isUp boundM = true) ∧
    ((machBridges boundM 0).any (fun b => stOf boundM b == .armed || stOf boundM b == .running) = true) ∧
    ((machAt boundM 0).spLast + netPar boundM 0x41 * netPar boundM 0x40 * 40000 ≤ boundM.time.dev) ∧
    (netPar stating 0x2B ≠ 0 ∧ stating.proto.spSrc = some (1, .eth0, []) ∧ sessAt stating 1 = some ses ∧ served stating = true) ∧
    (periodOver stating stating.net.stAt (netPar stating 0x2B * 40000) = true) := by
  decide +kernel

/-- The hypotheses of `Obligations.BusRowsAct` are met, clause by clause. -/
theorem witness_BusRowsAct :
    (receives canny (canPort 0) = true ∧ vexfiIndex canny 0 (canPar canny 0 0x42 == 1) (canPar canny 0 0x41) = some (true, 0) ∧
      onVexfi canny 0 (canPar canny 0 0x42 == 1) (canPar canny 0 0x41) = true ∧ canRuns canny 0 = true) ∧
    ((canAt (modCan 0 (fun c => { c with shot := some (0, [1]) }) canny) 0).shot.isSome = true) ∧
    ((canAt (modCan 0 (fun c => { c with busOff := true }) canny) 0).busOff = true ∧ served canny = true) ∧
    (ethOn one 0 = true ∧ portLost one (ethPort 0) = false ∧ netPar one 0x24 < 2 ^ 32 ∧ one.net.icmpCnt < 10) := by
  decide +kernel

/-- The hypotheses of `Obligations.TimeAndRingRowsAct` are met, clause by clause. -/
theorem witness_TimeAndRingRowsAct :
    (served ring = true ∧ netPar ring 0x29 = 1 ∧ isSlave ring = false ∧ { ring.net with gptpSync := true }.gptpSync = true) ∧
    (0 < cycleTicks (runningGcl ring) ∧ ring.time.dev % cycleTicks (runningGcl ring) = 0) ∧
    (inCascade ring = true ∧ (ringPort ring .rin).down = false ∧ failsLink ring (ringPort ring .rin) (.noLock 1000) = true ∧ deviceIndex ring = 0) ∧
    (failsLink ring (ringPort ring .rin) .noLink = true ∧ failsLink (modRing .rin (fun p => { p with crcBad := 3 }) ring) (ringPort (modRing .rin (fun p => { p with crcBad := 3 }) ring) .rin) .crc = true) ∧
    ((ringPort (modRing .rin (fun p => { p with down := true }) ring) .rin).down = true) ∧
    (periodOver ring ring.net.lkAt 400000 = true ∧ periodOver ring (ringPort ring .rin).reqAt 400000000 = true) ∧
    (periodOver ring ring.net.ringAt (netPar ring 0x30 * 400) = true ∧ faultPath { ring with dev := { ring.dev with ph := .frozen } } = true ∧
      served { ring with dev := { ring.dev with ph := .frozen } } = false) ∧
    (hasBit (netPar ring 0x36) 1 = true ∧ netPar ring 0x31 ≤ 100000 ∧ (ring.net.rem.getD 1 Remote.reset).lost = false) ∧
    (isSlave slave = true ∧ slave.net.noMaster = false ∧ served slave = true ∧ inCascade slave = true) ∧
    (faultPath ring = true ∧ served (sendFault ring) = true ∧ deviceIndex (sendFault ring) = 0 ∧ (sendFault ring).net.conflict = false) ∧
    (deviceIndex (sendFault slave) ≠ 0) ∧
    (ownFlags { ring with safety := { ring.safety with demA := true } } ≠ ring.net.sent.toNat) := by
  decide +kernel

/-- Machine 0 has an owner flux map. -/
def mapped0 (d : List Byte) : Machine.State := { one with store := { one.store with owner := [⟨0x0102, 0, 2, 0, 200, d⟩] } }

/-- Axes -3 to 2 and 0 to 5, every flux 0. -/
def mapData : List Byte := [6, 6, 0, 0] ++ ([-3, -2, -1, 0, 1, 2] ++ [0, 1, 2, 3, 4, 5]).flatMap (beInt 4) ++ zeros 288

/-- The hypotheses of `Obligations.RecorderAndMapRowsAct` are met, clause by clause. -/
theorem witness_RecorderAndMapRowsAct :
    (recorderOn one = true ∧ isUp one = true ∧ ({ one.recd with postEnd := some 5 }).postEnd = some 5) ∧
    (one.recd.trendStart.getD 127 0 + parN (live [(0xCF01, 1)]) 0xCF01 * 400000000 ≤ one.time.dev) ∧
    ((domAt (modDom 2 (fun d => { d with saved := true }) one) 2).saved = true ∧ domOn one 2 = true) ∧
    ((domAt (modDom 5 (fun d => { d with saved := true }) one) 5).saved = true ∧ domOn one 5 = true) ∧
    ((domAt (modDom 8 (fun d => { d with saved := true }) one) 8).saved = true ∧ domOn one 8 = true) ∧
    (mainUp one = true ∧ (machAt (inM .idle (fun m => { m with mapPending := true })) 0).mapPending = true) ∧
    ((goodMap (mapped0 mapData) 0).isSome = true ∧ goodMap (mapped0 []) 0 = none) ∧
    (tapRuns { one with pins := { one.pins with tap := tapTakes one 2 } } = 2 ∧ tapRuns { one with pins := { one.pins with tap := tapTakes one 0 } } ≠ 2) ∧
    (tapRuns { serv with pins := { serv.pins with tap := tapTakes serv 3 } } = 3) ∧
    (feedbackAll pulled 1 0 true = true ∧ monUp pulled = true ∧ (ctdAt (modCtd 0 (fun c => { c with checking := false }) pulled) 0).tag = some 5) := by
  decide +kernel

/-- A handover is under way. -/
def handing : Machine.State := { one with store := { one.store with handover := some ⟨some 2, 0, true, false, none⟩ } }

/-- The hypotheses of `Obligations.UpdateRowsAct` are met, clause by clause. -/
theorem witness_UpdateRowsAct :
    (isUp handing = true ∧ handing.store.handover = some ⟨some 2, 0, true, false, none⟩ ∧ 0 + 80000000 ≤ handing.time.dev) ∧
    (injPasses 31 false = false ∧ (some 5 : Option U16).isSome = true) ∧
    ((bridgeAt (modBridge 0 (fun b => { b with feReload := true, islReload := true }) one) 0).feReload = true ∧ stOf one 0 = .idle) ∧
    (allQuiet one [0] = true ∧ domOn one 8 = true ∧ mainUp six = true ∧ sixLower six 2 = true) ∧
    (({ one.store with recal := [(0, 0, none)] }).recal.any (fun r => r.1 == 0 && r.2.1 == 0) = true) := by
  decide +kernel

/-! ### Premises about signatures and authentication codes

The values of the cryptographic functions are opaque (log entry 5), so these witnesses take as hypotheses that a signature verifies, or
that a code matches; everything else that the obligations ask for is shown. -/

/-- A statement signed by a valid owner slot's key in a session with a live nonce is verified and consumes the nonce. -/
theorem verified_if_signed {t opcode : Nat} {slot form : Byte} {subject : List Byte} {sig : Rsa} {s : Machine.State} {n : BitVec 128}
    (hn : liveNonce s (ctxAt s t).hdr.session.toNat = some n)
    (ho : slotSigOk s slot (Config.sha256 (Machine.statement opcode slot form n subject)) sig = true) :
    verifySigned t opcode slot form subject sig s =
      (none, modSess (ctxAt s t).hdr.session.toNat (fun k => { k with nonce := none }) s) := by
  simp [verifySigned, hn, ho]

/-- The payload of a commit of the staged set with serial 2. -/
def commitBytes : List Byte :=
  [1, 0, 0, 0] ++ beBytes 4 2 ++ beBytes 32 (stagingDigest (stagedSet bare)).toNat ++ beBytes 384 0

/-- ParameterRequestsComplete, PARAM_COMMIT form 1: with `verified_if_signed`, every premise for a signature that verifies. -/
theorem witness_ParamCommitApply :
    begins 1 0x0302 commitBytes (onBridgeChange bare (stagedSet bare)) bare = true ∧
      stagingHeld 1 (adm 1 0x0302 commitBytes bare) = false ∧
      ((adm 1 0x0302 commitBytes bare).store.pending = none ∧ (adm 1 0x0302 commitBytes bare).store.upd = none) ∧
      (adm 1 0x0302 commitBytes bare).store.act.serial.toNat < 2 ∧
      liveNonce (adm 1 0x0302 commitBytes bare) (ctxAt (adm 1 0x0302 commitBytes bare) 1).hdr.session.toNat = some 7 ∧
      commitRefusal { stagedSet (adm 1 0x0302 commitBytes bare) with serial := 2 }
        (modSess 1 (fun k => { k with nonce := none }) (adm 1 0x0302 commitBytes bare)) = none := by
  decide +kernel

/-- ParameterRequestsComplete, SET_SELECT: a slot whose content and signature hold, and that is not below its fuse, is good. -/
theorem witness_SetSelect
    (hc : contentOk .pset (otherSlot (adm 1 0x0303 [0] twoSets) .pset) = true)
    (hs : signaturesOk (adm 1 0x0303 [0] twoSets) .pset (otherSlot (adm 1 0x0303 [0] twoSets) .pset) = true) :
    verifySlot (adm 1 0x0303 [0] twoSets) .pset (otherSlot (adm 1 0x0303 [0] twoSets) .pset) = .good := by
  unfold verifySlot
  rw [hc, hs]
  rfl

/-- An update of MAIN received in slot B, its length and digest as its manifest says. -/
def received : Machine.State :=
  let m := modSlots .main (fun k => { k with b := ⟨.received, bareManifest 1 5 (0, 0) (0, 0) [1, 2], [1, 2]⟩, inB := some false }) one
  { m with store := { m.store with upd := some ⟨1, .main, true, 842⟩ } }

/-- A MAIN slot whose length, digest, signatures, class, device step and rollback number hold is not refused. -/
theorem verifyRefusal_main {s : Machine.State} {sl : Slot} (hl : sl.man.bodyLen.toNat = sl.body.length)
    (hd : Config.sha256 sl.body = sl.man.bodyDigest) (hs : signaturesOk s .main sl = true)
    (hc : sl.man.cls = classCode .main ∧ devStepOk sl.man = true) (hf : ¬ sl.man.rollback.toNat < fuseOf s .main) :
    verifyRefusal s .main sl = none := by
  simp [verifyRefusal, hl, hd, hs, hc.1, hc.2, hf]

/-- UpdateRequestsComplete, UPD_VERIFY: with valid signatures no check refuses the slot. -/
theorem witness_UpdVerify
    (hs : signaturesOk (adm 1 0x0502 [] received) .main (updSlot (adm 1 0x0502 [] received) ⟨1, .main, true, 842⟩) = true) :
    begins 1 0x0502 [] false received = true ∧
      verifyRefusal (adm 1 0x0502 [] received) .main (updSlot (adm 1 0x0502 [] received) ⟨1, .main, true, 842⟩) = none :=
  ⟨by decide +kernel, verifyRefusal_main (by decide +kernel) rfl hs (by decide +kernel) (by decide +kernel)⟩

/-- A compatibility entry that names version 5 of every image, for any device step and any island step. -/
def tabEntry : List Byte := beBytes 4 5 ++ beBytes 4 5 ++ beBytes 4 5 ++ beBytes 4 5 ++ [0, 255, 0, 255] ++ zeros 4

/-- Slot A in force and slot B VERIFIED, both in version 5. -/
def five (i : Nat) : ClassSlots :=
  let sl : Slot := ⟨.active, { bareManifest (BitVec.ofNat 16 i) 5 (0, 0) (0, 0) [] with bodyDigest := 0 },
    if i = 4 then beBytes 4 5 ++ beBytes 2 1 ++ zeros 10 ++ tabEntry else []⟩
  { slotsOf sl with b := { sl with st := .verified }, inB := some false }

/-- Every class in version 5, an update of a class VERIFIED in slot B. -/
def tested (c : ImgClass) : Machine.State :=
  { one with store := { one.store with slots := (List.range 7).map five, upd := some ⟨1, c, true, 900⟩ } }

/-- The set that results from the update of ISL or MAIN is a tested one. -/
theorem tested_result : resultTested (adm 1 0x0503 [1] (tested .isl)) .isl true = true ∧
    resultTested (adm 1 0x0504 [] (tested .main)) .main true = true := by
  have h := Config.deviceStep.isLt
  unfold resultTested setTested entryMatches
  generalize Config.deviceStep.toNat = n at h ⊢
  revert n
  decide +kernel

/-- UpdateRequestsComplete, UPD_ACTIVATE form 1. -/
theorem witness_UpdActivateNow : begins 1 0x0503 [1] false (tested .isl) = true ∧
    nowRefusal (adm 1 0x0503 [1] (tested .isl)) ⟨1, .isl, true, 900⟩ = none := by
  refine ⟨by decide +kernel, ?_⟩
  unfold nowRefusal
  simp only [tested_result.1]
  rfl

/-- UpdateRequestsComplete, UPD_HANDOVER. -/
theorem witness_UpdHandover : begins 1 0x0504 [] false (tested .main) = true ∧
    handoverRefusal 1 (adm 1 0x0504 [] (tested .main)) = none := by
  refine ⟨by decide +kernel, ?_⟩
  have hu : (adm 1 0x0504 [] (tested .main)).store.upd = some ⟨1, .main, true, 900⟩ := rfl
  unfold handoverRefusal
  simp only [hu, tested_result.2]
  decide +kernel

/-- ArrivalRowsAct: a setpoint frame of a session without a number is accepted if its code matches, and refused if its reserved bytes
are not zero. -/
theorem witness_SetpointFrames (h : frameMacOk ses (zeros 64) = true) :
    frameAccepted ses (zeros 64) = true ∧ frameAccepted ses (zeros 40 ++ [1] ++ zeros 23) = false := by
  constructor
  · unfold frameAccepted
    rw [h]
    rfl
  · have hz : (slice (zeros 40 ++ [1] ++ zeros 23) 40 16).all (· == 0) = false := rfl
    unfold frameAccepted
    rw [hz, Bool.and_false, Bool.false_and]

/-- UpdateRowsAct, HANDOVER_TAKEOVER: an image whose content and signatures hold starts when the injection test passes. -/
theorem witness_HandoverTakeover (hc : contentOk .main (classSlot handing .main true) = true)
    (hs : signaturesOk handing .main (classSlot handing .main true) = true) :
    (injPasses 32 false && verifySlot handing .main (classSlot handing .main true) == .good) = true := by
  unfold verifySlot
  rw [hc, hs]
  rfl

/-- Measurements of a start-up without a failure. -/
def bootObs : BootObs where
  straps := List.replicate 4 (List.replicate 4 false)
  xo25At := some 100
  refinReady := false
  sramCorrectable := []
  sramUncorrectable := false
  injMain := 32
  injMainClean := false
  injMon := 32
  injMonClean := false
  dieOverrideOk := true
  calA := List.replicate 8 ⟨0, 0, 0⟩
  calB := List.replicate 8 ⟨0, 0, 0⟩
  refA := 0
  refB := 0
  islands := List.replicate 52 ⟨true, true, ⟨0, 0, 0, 0⟩, 0x20, 10, 18000, 17000⟩
  dieTemps := List.replicate 16 400
  regAt := List.replicate 8 [20]
  xo32kReady := true

/-- SupplyAndStartRowsAct, BOOT_ENTRY. -/
theorem witness_BootEntry : bootObs.wf = true ∧ bootObs.straps.length = 4 ∧ bootObs.islands.length = 52 ∧
    bootObs.calA.length = 8 ∧ bootObs.calB.length = 8 ∧ bootObs.dieTemps.length = 16 := by decide +kernel

/-! ### Ill-formed commands are refused (WellFormed.lean) -/

/-- One ill-formed term for each check. -/
theorem test_ill_formed :
    Instr.wf (.bootEntry { bootObs with straps := [] }) = false ∧
    Instr.wf (.bootEntry { bootObs with straps := List.replicate 4 [true] }) = false ∧
    Instr.wf (.bootEntry { bootObs with calA := [] }) = false ∧
    Instr.wf (.bootEntry { bootObs with calB := [] }) = false ∧
    Instr.wf (.bootEntry { bootObs with islands := [] }) = false ∧
    Instr.wf (.bootEntry { bootObs with dieTemps := [] }) = false ∧
    Instr.wf (.adcTrigger 0 ⟨0, [], [0, 0, 0], 0, 0, [0, 0, 0], none⟩) = false ∧
    Instr.wf (.adcTrigger 0 ⟨0, [0, 0, 0], [], 0, 0, [0, 0, 0], none⟩) = false ∧
    Instr.wf (.adcTrigger 0 ⟨0, [0, 0, 0], [0, 0, 0], 0, 0, [], none⟩) = false ∧
    Instr.wf (.islReload 0 []) = false ∧
    Instr.wf (.linkVoltageFormation 0 []) = false ∧
    Instr.wf (.fastWrite []) = false ∧
    Instr.wf (.canFrameReceive 0 0 ⟨false, true, false, false⟩ (zeros 65)) = false ∧
    Instr.wf (.paramRead (hd 1) 0 []) = false ∧
    Instr.wf (.paramWrite (hd 1) []) = false ∧
    Instr.wf (.updChunk (hd 1) 0 []) = false ∧
    Instr.wf (.updChunk (hd 1) 0 (zeros 4001)) = false := by decide +kernel

/-! ### Worked examples of the spec -/

/-- 01, R36: what the soundpost sees is numbered before an island's latch, a high island before its low partner, and a packet last. -/
theorem test_tick_order : inTickOrder [.dispatch, .softTurnoffEnd 0 0 0, .softTurnoffEnd 1 0 0, .drvEnFall, .fmStart] =
    [.drvEnFall, .softTurnoffEnd 1 0 0, .softTurnoffEnd 0 0 0, .dispatch, .fmStart] := by decide +kernel

/-- 01, R39: serial numbers compare modulo 2^32. -/
theorem test_serial_numbers : serialAfter 0x10 0xFFFFFFF0 = true ∧ serialAfter 0xFFFFFFF0 0x10 = false := by decide

/-- 13, R449: with H = 0x1000, 0x1002 is accepted, then 0x0FF0 once, and 0x0FB0 is too far below. -/
theorem test_replay_window :
    let k0 : Machine.Session := { ses with high := 0x1000 }
    let k1 := takeSeq 0 0x1002 k0
    let k2 := takeSeq 0 0x0FF0 k1
    seqOk k0 0x1002 = true ∧ k1.high = 0x1002 ∧ seqOk k1 0x0FF0 = true ∧ k2.high = 0x1002 ∧ seqOk k2 0x0FF0 = false ∧
      seqOk k2 0x1002 = false ∧ seqOk k2 0x0FB0 = false := by decide +kernel

/-- 12, Table 12.4: a crystal measured against REFIN, 2,500,105 counts for 2,500,000, is 42.0 ppm fast. -/
theorem test_frequency_measure : fmPpmOf 2500105 2500000 25000000 25000000 = 0x1A4 := by decide

/-- 06, the example after R215: six-step at 1.9 pu leads by 29,856. -/
theorem test_six_step_advance :
    advance (live [(0x4047, 58982), (0x4048, 65536), (0x4057, 27671), (0x4058, 32040)]) 0 62259 = 29856 := by decide +kernel

/-- 06, the example of R197: 1.5 control periods of 16 kHz at 1,500 rpm with four pole pairs are 2,458 counts. -/
theorem test_angle_compensation :
    turned (modMach 0 (fun m => { m with spd := 32768, spdKnown := true }) (live [(0x4003, 4), (0x4006, 1500), (0x4081, 1)])) 0 37500 = 2458 := by
  decide +kernel

/-- 14, the example after Table 14.13: F-0102 at L4 and P_TQ_BAND 80 are taken, F-0502 at level 0 is out of range. -/
theorem test_raise_fault_level :
    checkItems [⟨0x1102, 1, 4⟩, ⟨0x8000, 3, 80⟩] = none ∧ checkItems [⟨0x1502, 1, 0⟩] = some (ST_OUT_OF_RANGE, 0x1502) := by
  decide +kernel

/-- 05, 04, 08, 13: the identifiers that the chapters give as examples name parameters. -/
theorem test_parameter_ids :
    [0x23F1, 0x3210, 0x4058, 0x4180, 0x4060, 0x5208, 0x5832, 0x5C12, 0x8200, 0xA141, 0xAF41, 0xA202, 0xAF35].all
      (fun i => (paramDef i).isSome) = true := by decide +kernel

/-- 08, Table 8.4: with the rotor at 72,818 and P_CMP_LATE 1,456, the target 71,726 fires late at its load, 70,633 and 80,100 do not. -/
theorem test_compare_loads :
    let s := modPos 0 (fun p => { p with theta := 72818, fwd := true, angleValid := true })
      (live [(0x4081, 1), (0x5000, 3), (0x5930, 0), (0x5931, 1), (0x4003, 1), (0x5F00, 1456)])
    let fired := fun (target : Nat) => ((cmpAt (loadCmp 3 target false s) 3).st, (cmpAt (loadCmp 3 target false s) 3).late)
    fired 71726 = (.disarmed, true) ∧ fired 70633 = (.armed, false) ∧ fired 80100 = (.armed, false) := by decide +kernel

end Sys2Proof.Tests
end

section
/-! The module keeps its units (R7 to R12): what moves forward only, as every command and every tick does, stays well built. -/

namespace Sys2Proof.Machine

/-! ### The units of the module -/

/-- Equal numbers of units carry `WellBuilt` over; owner slots and fuses keep their number because they only move forward. -/
theorem Forward.wellBuilt {s t : State} (h : Forward s t) (w : WellBuilt s) : WellBuilt t := by
  obtain ⟨⟨-, bridges, machs, chans, lgs, ctds, pos, pouts, cmps, temps, doms, can, ctx, sess, slots⟩, ⟨owners, -⟩, fuses, -⟩ := h
  exact ⟨bridges.trans w.bridges, machs.trans w.machs, chans.trans w.chans, lgs.trans w.lgs, ctds.trans w.ctds, pos.trans w.pos,
    pouts.trans w.pouts, cmps.trans w.cmps, temps.trans w.temps, doms.trans w.doms, can.trans w.can, ctx.trans w.ctx,
    sess.trans w.sess, slots.trans w.slots, owners.trans w.owners, fuses.trans w.fuses⟩

/-- The queue is no unit. -/
theorem WellBuilt.setPending {s : State} (w : WellBuilt s) (q : List Instr) : WellBuilt { s with pending := q } :=
  ⟨w.bridges, w.machs, w.chans, w.lgs, w.ctds, w.pos, w.pouts, w.cmps, w.temps, w.doms, w.can, w.ctx, w.sess, w.slots, w.owners,
    w.fuses⟩

/-- A step runs a command on the state without it at the front of the queue, or passes a tick; both move forward only. -/
theorem step_forward {s t : State} (h : step s = .next t) : ∃ q, Forward { s with pending := q } t := by
  unfold step at h
  split at h
  next c rest _ =>
    have f := exec_forward c { s with pending := rest }
    rw [h] at f
    exact ⟨rest, f⟩
  next =>
    cases h
    exact ⟨s.pending, tick_forward s⟩

/-- Settles O6. -/
theorem resetHasItsUnits : Obligations.ResetHasItsUnits := by
  unfold Obligations.ResetHasItsUnits
  constructor <;> rfl

/-- Settles O7: every command and every tick moves forward, and what moves forward keeps the units. -/
theorem stepsKeepTheUnits : Obligations.StepsKeepTheUnits := by
  intro s t w h
  obtain ⟨q, f⟩ := step_forward h
  exact f.wellBuilt (w.setPending q)

end Sys2Proof.Machine
end

section
/-! What a raised fault records (R20, R22, R35, R573), and what it leaves unchanged. -/

namespace Sys2Proof.Machine

/-! ### Loops -/

/-- What no pass of a loop changes, the loop does not change. -/
theorem forEach_proj {γ : Type} (v : State → γ) {f : Nat → State → State} (h : ∀ i s, v (f i s) = v s) (l : List Nat) (s : State) :
    v (forEach l f s) = v s :=
  foldl_proj v l _ h s

/-- What every pass of a loop keeps holds after the loop. -/
theorem forEach_induction {P : State → Prop} {f : Nat → State → State} {l : List Nat} {s : State} (hs : P s)
    (h : ∀ u, P u → ∀ i ∈ l, P (f i u)) : P (forEach l f s) :=
  List.foldlRecOn l _ hs h

/-! ### Recording an event -/

/-- The entry is the newest of the write buffer, also where a full buffer is written first (R575). -/
theorem pushEvent_getLast? (e : Entry) (s : State) : (pushEvent e s).recd.buf.getLast? = some e := by
  simp [pushEvent]

@[simp] theorem noteEvent_buf (level : Nat) (e : Esn) (s : State) : (noteEvent level e s).recd.buf = s.recd.buf := rfl

/-- `Recorded` speaks of the state after only through its recorder. -/
theorem Recorded.of_recd {code level : Nat} {src : U16} {data : List Byte} {s t u : State} (h : Recorded code level src data s t)
    (e : u.recd = t.recd) : Recorded code level src data s u := by
  unfold Recorded
  rwa [e]

/-- Outside FROZEN an event's entry is the newest, with the next event sequence number (R35, R573). -/
theorem recordEvent_recorded {s : State} (h : s.dev.ph ≠ .frozen) (code level : Nat) (src : U16) (data : List Byte) :
    Recorded code level src data s (recordEvent code level src data s).2 := by
  have hf : isFrozen s = false := by simpa [isFrozen] using h
  refine ⟨⟨s.time.esn, s.time.dev, BitVec.ofNat 16 code, level, 0, src, 1, entryData data⟩, ?_, rfl, rfl, rfl, rfl, rfl, rfl, rfl⟩
  simp [recordEvent, recordAt, allocEsn, hf, pushEvent_getLast?]

/-! ### What a reaction does, case by case -/

/-- Below L2 a fault only records (R20). -/
theorem react_of_lt_two {level : Nat} (h : level < 2) (code ix : Nat) (sc : Scope) (idleToo : Bool) (why : Byte) (e : Esn)
    (s : State) : react level code ix sc idleToo why e s = s := by
  simp [react, h]

/-- F-0503 overrides nothing: at L4 it stands as a lock-out alone (R321). -/
theorem react_0503 {level : Nat} (h : 2 < level) (ix : Nat) (sc : Scope) (idleToo : Bool) (why : Byte) (e : Esn) (s : State) :
    react level 0x0503 ix sc idleToo why e s = if level = 4 then addLockout 0x0503 ix sc e s else s := by
  simp [react, show ¬ level < 2 by omega, show level ≠ 2 by omega]

/-- At L3 the soundpost overrides the bridges of the scope; at L4 a lock-out and open contactors follow (R20, R362, R369). -/
theorem react_override {level code : Nat} (h : 2 < level) (hc : code ≠ 0x0503) (ix : Nat) (sc : Scope) (idleToo : Bool) (why : Byte)
    (e : Esn) (s : State) :
    let u := override why idleToo ⟨.fault (BitVec.ofNat 16 code), level, ix⟩ (scopeBridges s sc) s
    react level code ix sc idleToo why e s =
      if level = 4 then openContactors (scopeBridges s sc) (addLockout code ix sc e u) else u := by
  simp [react, show ¬ level < 2 by omega, show level ≠ 2 by omega, hc]

/-! ### Opening contactors -/

/-- The link groups of a list of bridges. -/
def groupsOf (bs : List Nat) (s : State) : List Nat := [0, 1].filter (fun g => bs.any (fun b => lgOf s b == g))

/-- The open request of one contactor driver: it waits for a monitor pair that restarts. -/
def openCtd (n : Nat) (s : State) : State :=
  if s.safety.mon.halted then modCtd n (fun c => { c with openWait := true }) s else commandCtd false n s

/-- A link group waits for its automatic discharge where its parameter in `v` asks for one (R325). -/
def waitDischarge (v : State) (g : Nat) : State → State := modLg g (fun x => { x with autoWait := lgPar v g 0xD == 1 })

/-- The open request goes to the drivers that cover a link group of the bridges; then these groups wait for their discharge. -/
theorem openContactors_eq (bs : List Nat) (s : State) :
    let v := forEach ((List.range 4).filter (fun n => (groupsOf bs s).any (ctdCovers s n))) openCtd s
    openContactors bs s = forEach (groupsOf bs s) (waitDischarge v) v := rfl

@[simp] theorem openCtd_lgs (n : Nat) (s : State) : (openCtd n s).lgs = s.lgs := by
  unfold openCtd
  split <;> rfl

/-- A link group is read from the link groups alone. -/
theorem lgAt_of_lgs {s t : State} (h : t.lgs = s.lgs) (g : Nat) : lgAt t g = lgAt s g := by
  unfold lgAt
  rw [h]

/-! ### A winding discharge is left as it was -/

theorem waitDischarge_dis (v : State) (i : Nat) (s : State) (g : Nat) : (lgAt (waitDischarge v i s) g).dis = (lgAt s g).dis := by
  simp only [lgAt, waitDischarge, modLg_lgs, List.getD_eq_getElem?_getD, List.getElem?_modify]
  split
  · cases s.lgs[g]? <;> rfl
  · simp

/-- Opening contactors may ask for an automatic discharge; a discharge under way goes on. -/
theorem openContactors_dis (bs : List Nat) (s : State) (g : Nat) : (lgAt (openContactors bs s) g).dis = (lgAt s g).dis := by
  rw [openContactors_eq, forEach_proj (fun u => (lgAt u g).dis) (fun i u => waitDischarge_dis _ i u g),
    lgAt_of_lgs (forEach_proj State.lgs openCtd_lgs _ s)]

/-- A reaction starts and stops no discharge. -/
theorem react_dis (level code ix : Nat) (sc : Scope) (idleToo : Bool) (why : Byte) (e : Esn) (s : State) (g : Nat) :
    (lgAt (react level code ix sc idleToo why e s) g).dis = (lgAt s g).dis := by
  have lock : ∀ u, lgAt (addLockout code ix sc e u) g = lgAt u g := fun u => lgAt_of_lgs (by simp [id addLockout_same]) g
  have held : ∀ o bs, lgAt (override why idleToo o bs s) g = lgAt s g := fun o bs => lgAt_of_lgs (by simp [id override_same]) g
  unfold react
  dsimp only
  split_ifs
  · rfl
  · have stop : ∀ m u, (stopMachine code ix idleToo m u).lgs = u.lgs := fun m u => by simp [id stopMachine_same]
    rw [lgAt_of_lgs (forEach_proj State.lgs stop _ s)]
  · rw [lock]
  · rfl
  · rw [openContactors_dis, lock, held]
  · rw [held]

/-- No winding discharge runs, on any link group. -/
def NoWinding (s : State) : Prop := ∀ g d, (lgAt s g).dis = some d → d.winding = none

/-- Where none runs none has aborted (R328). -/
theorem NoWinding.abortedWinding {s : State} (h : NoWinding s) (g : Nat) : abortedWinding s g = false := by
  unfold Machine.abortedWinding
  split
  next d hd => rw [h g d hd]
  next => rfl

/-- Without a winding discharge a fault is recorded and acted on, and F-0508 does not follow (R328, R329). -/
theorem raiseFault_of_noWinding {s : State} (h : NoWinding s) (code ix : Nat) (src : U16) (sc : Scope) (data : List Byte) :
    raiseFault code ix src sc data s = raiseBase code ix src sc (code == 0x0305) RS_BRIDGE_STATE data s := by
  have hn : NoWinding (raiseBase code ix src sc (code == 0x0305) RS_BRIDGE_STATE data s) := by
    intro g d hd
    refine h g d ?_
    have kept : (recordEvent code (faultLevel s code) src data s).2.lgs = s.lgs := by simp [id recordEvent_same]
    rw [← hd, raiseBase, react_dis, lgAt_of_lgs kept]
  simp [raiseFault, raiseWhy, hn.abortedWinding, forEach]

/-! ### What a fault leaves unchanged -/

/-- Networks that agree in their CAN controllers, Ethernet ports and everything `Net.rest` keeps differ in what is queued and numbered. -/
theorem Net.eq_of_rest {m n : Net} (can : n.can = m.can) (eth : n.eth = m.eth) (rest : n.rest = m.rest) :
    n = { m with canTx := n.canTx, egress := n.egress, seqs := n.seqs, sentLog := n.sentLog } := by
  cases m; cases n
  simp_all [Net.rest]

theorem raiseFault_faultFrame (code ix : Nat) (src : U16) (sc : Scope) (data : List Byte) (s : State) :
    FaultFrame s (raiseFault code ix src sc data s) := by
  obtain ⟨⟨pending, -⟩, -⟩ := raiseFault_keeps code ix src sc data s
  obtain ⟨pins, dev, time, rtc, bankA, bankB, pos, pouts, cmps, temps, store, clk, pwr, -, can, eth, rest⟩ :=
    raiseFault_same code ix src sc data s
  exact ⟨pins, dev, time, rtc, bankA, bankB, pos, pouts, cmps, temps, store, clk, pwr, pending, Net.eq_of_rest can eth rest⟩

/-- R22: the level of a code is never below its minimum. -/
theorem minLevel_le_faultLevel {code lo : Nat} (h : minLevel code = some lo) (s : State) : lo ≤ faultLevel s code := by
  simp [faultLevel, h]

/-- Settles O15: the entry is made before the reaction, which leaves the recorder alone. -/
theorem raisedFaultsAreRecorded : Obligations.RaisedFaultsAreRecorded := by
  intro code ix src sc data s
  refine ⟨fun lo h => minLevel_le_faultLevel h s, raiseFault_faultFrame code ix src sc data s, fun hf hw => ?_⟩
  rw [raiseFault_of_noWinding hw]
  exact (recordEvent_recorded hf code _ src data).of_recd (by simp [raiseBase, id react_same])

end Sys2Proof.Machine
end

section
/-! What a reaction does to the bridges of its scope, to the lock-outs and to the contactors (R20, R21, R148, R362, R369). The idea:
while an override goes through its list, a bridge of the list that was active is SAFE and held once it has been visited; until then
only the SAFE of its machine's other bridge moves it, from PRECHARGING to IDLE, and the second pass of `override` takes it there. -/

namespace Sys2Proof.Machine

/-! ### Loops -/

/-- What every pass keeps and the pass of one index establishes holds after a loop over a list with that index; until its own pass a
second fact is kept, unless what is to be established holds already. -/
theorem forEach_establishes {P Q : State → Prop} {f : Nat → State → State} {k : Nat} (keep : ∀ i s, P s → P (f i s))
    (wait : ∀ i s, i ≠ k → Q s → Q (f i s) ∨ P (f i s)) (reach : ∀ s, Q s → P (f k s))
    {l : List Nat} {s : State} (hk : k ∈ l) (hs : Q s) : P (forEach l f s) := by
  induction l generalizing s with
  | nil => cases hk
  | cons i l ih =>
    have rest : ∀ u, P u → P (forEach l f u) := fun u hu => forEach_induction hu (fun v hv j _ => keep j v hv)
    by_cases h : i = k
    · subst h
      exact rest _ (reach s hs)
    · rcases wait i s h hs with q | p
      · exact ih (by simpa [Ne.symm h] using hk) q
      · exact rest _ p

/-! ### What overriding other bridges leaves of a bridge -/

/-- The state is the same, and no override has gone. -/
def Bridge.StaysHeld (x y : Bridge) : Prop := y.st = x.st ∧ ∀ o ∈ x.ovr, o ∈ y.ovr

/-- The same, but that PRECHARGING may have become IDLE (R148). -/
def Bridge.MayIdle (x y : Bridge) : Prop :=
  (y.st = x.st ∨ x.st = .precharging ∧ y.st = .idle) ∧ ∀ o ∈ x.ovr, o ∈ y.ovr

theorem Bridge.StaysHeld.refl (x : Bridge) : x.StaysHeld x := ⟨rfl, fun _ h => h⟩

theorem Bridge.StaysHeld.trans {x y z : Bridge} (h : x.StaysHeld y) (g : y.StaysHeld z) : x.StaysHeld z :=
  ⟨g.1.trans h.1, fun o ho => g.2 o (h.2 o ho)⟩

theorem Bridge.StaysHeld.mayIdle {x y : Bridge} (h : x.StaysHeld y) : x.MayIdle y := ⟨Or.inl h.1, h.2⟩

theorem Bridge.MayIdle.trans {x y z : Bridge} (h : x.MayIdle y) (g : y.MayIdle z) : x.MayIdle z := by
  refine ⟨?_, fun o ho => g.2 o (h.2 o ho)⟩
  rcases h.1 with e | ⟨p, i⟩
  · rw [← e]; exact g.1
  · rcases g.1 with e | ⟨p', -⟩
    · exact Or.inr ⟨p, e.trans i⟩
    · rw [i] at p'; cases p'

/-- A bridge that is not PRECHARGING stays in its state. -/
theorem Bridge.MayIdle.st_eq {x y : Bridge} (h : x.MayIdle y) (hx : x.st ≠ .precharging) : y.st = x.st :=
  h.1.resolve_right (fun p => hx p.1)

/-- Every bridge keeps its state and its overrides. -/
def StaysHeld (s t : State) : Prop := ∀ c, (bridgeAt s c).StaysHeld (bridgeAt t c)

theorem StaysHeld.refl (s : State) : StaysHeld s s := fun _ => .refl _

theorem StaysHeld.trans {s t u : State} (h : StaysHeld s t) (g : StaysHeld t u) : StaysHeld s u := fun c => (h c).trans (g c)

theorem StaysHeld.of_bridges {s t : State} (h : t.bridges = s.bridges) : StaysHeld s t := by
  intro c
  unfold bridgeAt
  rw [h]
  exact .refl _

theorem StaysHeld.forEach {f : Nat → State → State} (h : ∀ i s, StaysHeld s (f i s)) (l : List Nat) (s : State) :
    StaysHeld s (forEach l f s) :=
  forEach_induction (P := StaysHeld s) (.refl s) (fun u hu i _ => hu.trans (h i u))

/-- A bridge outside the module has no state but DISABLED. -/
theorem lt_of_stOf_ne_disabled {s : State} {b : Nat} (h : stOf s b ≠ .disabled) : b < s.bridges.length := by
  by_contra hb
  refine h ?_
  unfold stOf bridgeAt
  rw [List.getD_eq_default _ _ (Nat.le_of_not_lt hb)]
  rfl

/-- An update of one bridge changes at most that bridge. -/
theorem bridgeAt_modBridge_or (i : Nat) (f : Bridge → Bridge) (s : State) (c : Nat) :
    bridgeAt (modBridge i f s) c = bridgeAt s c ∨ i = c ∧ bridgeAt (modBridge i f s) c = f (bridgeAt s c) := by
  by_cases h : i = c
  · subst h
    by_cases hi : i < s.bridges.length
    · exact Or.inr ⟨rfl, bridgeAt_modBridge_self i f s hi⟩
    · exact Or.inl (by simp [bridgeAt, hi])
  · exact Or.inl (bridgeAt_modBridge_ne i c f s h)

theorem modBridge_staysHeld {i : Nat} {f : Bridge → Bridge} {s : State} (h : (bridgeAt s i).StaysHeld (f (bridgeAt s i))) :
    StaysHeld s (modBridge i f s) := by
  intro c
  rcases bridgeAt_modBridge_or i f s c with e | ⟨rfl, e⟩ <;> rw [e]
  · exact .refl _
  · exact h

/-! ### The operations of an override -/

theorem driveSide_staysHeld (keep want high : Bool) (l : Nat) (s : State) : StaysHeld s (driveSide keep want high l s) := by
  unfold driveSide
  dsimp only
  refine StaysHeld.trans (.of_bridges ?_) (modBridge_staysHeld ⟨rfl, fun _ h => h⟩)
  rw [apply_ite State.bridges]
  simp [id offCmd_same]

theorem driveLeg_staysHeld (keep : Bool) (mode : SafeMode) (l : Nat) (s : State) : StaysHeld s (driveLeg keep mode l s) :=
  (driveSide_staysHeld _ _ _ _ _).trans (driveSide_staysHeld _ _ _ _ _)

theorem clearRequests_staysHeld (b : Nat) (s : State) : StaysHeld s (clearRequests b s) := modBridge_staysHeld ⟨rfl, fun _ h => h⟩

theorem switchesOff_staysHeld (b : Nat) (s : State) : StaysHeld s (switchesOff b s) :=
  (StaysHeld.forEach (driveLeg_staysHeld _ _) _ _).trans (clearRequests_staysHeld _ _)

theorem reselect_staysHeld (b : Nat) (s : State) : StaysHeld s (reselect b s) := by
  unfold reselect
  dsimp only
  split
  · exact ((modBridge_staysHeld ⟨rfl, fun _ h => h⟩).trans (clearRequests_staysHeld _ _)).trans
      (StaysHeld.forEach (driveLeg_staysHeld _ _) _ _)
  · exact .refl s

/-- The requests of an orderly stop come after the overrides that stand. -/
theorem holdRequests_staysHeld (causes : List (Nat × Nat)) (b : Nat) (s : State) : StaysHeld s (holdRequests causes b s) := by
  unfold holdRequests
  split
  · refine modBridge_staysHeld ⟨rfl, fun o ho => ?_⟩
    refine List.foldlRecOn causes _ (motive := fun l => o ∈ l) ho (fun l hl c _ => ?_)
    dsimp only
    split
    · exact hl
    · exact List.mem_append_left _ hl
  · exact .refl s

theorem stopPulses_staysHeld (b : Nat) (s : State) : StaysHeld s (stopPulses b s) :=
  (modBridge_staysHeld ⟨rfl, fun _ h => h⟩).trans (switchesOff_staysHeld _ _)

theorem modMach_staysHeld (m : Nat) (f : Mach → Mach) (s : State) : StaysHeld s (modMach m f s) := .of_bridges rfl

/-- The PRECHARGING bridges of a list stop their pulses and return to IDLE (R148). -/
def idlePrecharging (l : List Nat) (s : State) : State :=
  forEach (l.filter (fun x => stOf s x == .precharging)) (fun x u => stopPulses x (modBridge x (fun br => { br with st := .idle }) u)) s

/-- What the SAFE of a bridge that came from `prev` means for its machine: its phase ends where one of the other bridges still runs, and
else it leaves, with the requests of an orderly stop standing (R229, R239, R604). -/
def endWork (others : List Nat) (m : Nat) (prev : BridgeState) (s : State) : State :=
  if others.any (fun x => stOf s x == .running) then
    modMach m (fun x =>
      let y := endRamp (endRotation x)
      if isStart x.ph then { y with ph := .none, extended := false, ready := false, found := none, pluck := none, oldStart := none } else y) s
  else
    let u := forEach (machBridges s m) (holdRequests (stopCauses (machAt s m))) (machineLeaves m s)
    if prev == .running then modMach m (fun x => { x with leftRun := some u.time.dev }) u else u

/-- `machineHit` in its three stages. -/
theorem machineHit_eq (why : Byte) (b m : Nat) (prev : BridgeState) (s : State) :
    let others := (machBridges s m).filter (fun x => x != b)
    let u := endMachineTag m why s
    machineHit why b m prev s = endWork others m prev (if prev == .precharging then idlePrecharging others u else u) := rfl

theorem idlePrecharging_mayIdle (l : List Nat) (s : State) (c : Nat) : (bridgeAt s c).MayIdle (bridgeAt (idlePrecharging l s) c) := by
  refine forEach_induction (P := fun u => (bridgeAt s c).MayIdle (bridgeAt u c)) (Bridge.StaysHeld.refl _).mayIdle (fun u hu i hi => ?_)
  refine Bridge.MayIdle.trans ?_ (stopPulses_staysHeld i _ c).mayIdle
  rcases bridgeAt_modBridge_or i (fun br => { br with st := .idle }) u c with e | ⟨rfl, e⟩ <;> rw [e]
  · exact hu
  · have hp : stOf s i = .precharging := by simpa using (List.mem_filter.mp hi).2
    exact ⟨Or.inr ⟨hp, rfl⟩, hu.2⟩

theorem endWork_staysHeld (others : List Nat) (m : Nat) (prev : BridgeState) (s : State) : StaysHeld s (endWork others m prev s) := by
  have leave : StaysHeld s (forEach (machBridges s m) (holdRequests (stopCauses (machAt s m))) (machineLeaves m s)) :=
    (modMach_staysHeld _ _ _).trans (StaysHeld.forEach (holdRequests_staysHeld _) _ _)
  unfold endWork
  dsimp only
  split
  · exact modMach_staysHeld _ _ _
  · split
    · exact leave.trans (modMach_staysHeld _ _ _)
    · exact leave

/-- A bridge that turns SAFE takes no bridge out of its state but a PRECHARGING one (R148). -/
theorem machineHit_mayIdle (why : Byte) (b m : Nat) (prev : BridgeState) (s : State) (c : Nat) :
    (bridgeAt s c).MayIdle (bridgeAt (machineHit why b m prev s) c) := by
  have tag : StaysHeld s (endMachineTag m why s) := .of_bridges (by simp [id endMachineTag_same])
  rw [machineHit_eq]
  refine (tag c).mayIdle.trans (Bridge.MayIdle.trans ?_ (endWork_staysHeld _ _ _ _ c).mayIdle)
  split
  · exact idlePrecharging_mayIdle _ _ c
  · exact (Bridge.StaysHeld.refl _).mayIdle

/-! ### Entering SAFE -/

/-- The bridge is SAFE and held by an override. -/
def Bridge.SafeUnder (o : Ovr) (x : Bridge) : Prop := x.st = .safe ∧ o ∈ x.ovr

theorem Bridge.MayIdle.safeUnder {x y : Bridge} {o : Ovr} (h : x.MayIdle y) (hx : x.SafeUnder o) : y.SafeUnder o := by
  obtain ⟨st, held⟩ := hx
  exact ⟨(h.st_eq (by rw [st]; decide)).trans st, h.2 o held⟩

/-- A bridge that is not active stays as it is. -/
theorem enterSafe_of_not_active {b : Nat} {s : State} (h : isActive (stOf s b) = false) (why : Byte) : enterSafe why b s = s := by
  simp [enterSafe, h]

/-- What entering SAFE means beyond the bridge's own state. -/
theorem enterSafe_mayIdle {b : Nat} {s : State} (h : isActive (stOf s b) = true) (why : Byte) (c : Nat) :
    (bridgeAt (modBridge b (fun br => { br with st := .safe }) s) c).MayIdle (bridgeAt (enterSafe why b s) c) := by
  unfold enterSafe
  simp only [h, if_true]
  split
  · exact machineHit_mayIdle _ _ _ _ _ c
  · exact (Bridge.StaysHeld.refl _).mayIdle

/-- An active bridge is in the module. -/
theorem lt_of_isActive {b : Nat} {s : State} (h : isActive (stOf s b) = true) : b < s.bridges.length :=
  lt_of_stOf_ne_disabled (fun e => by rw [e] at h; cases h)

theorem enterSafe_self {b : Nat} {s : State} {o : Ovr} (h : isActive (stOf s b) = true) (ho : o ∈ (bridgeAt s b).ovr) (why : Byte) :
    (bridgeAt (enterSafe why b s) b).SafeUnder o := by
  refine (enterSafe_mayIdle h why b).safeUnder ?_
  rw [bridgeAt_modBridge_self _ _ _ (lt_of_isActive h)]
  exact ⟨rfl, ho⟩

theorem enterSafe_other {b c : Nat} (hc : b ≠ c) (why : Byte) (s : State) : (bridgeAt s c).MayIdle (bridgeAt (enterSafe why b s) c) := by
  by_cases h : isActive (stOf s b) = true
  · have other := enterSafe_mayIdle h why c
    rwa [bridgeAt_modBridge_ne _ _ _ _ hc] at other
  · rw [enterSafe_of_not_active (Bool.eq_false_of_not_eq_true h)]
    exact (Bridge.StaysHeld.refl _).mayIdle

/-! ### Overriding one bridge -/

/-- An override takes a bridge (R30, R332): active, SAFE or already held, and with `idleToo` every one that is not DISABLED. -/
def takesOverride (idleToo : Bool) (br : Bridge) : Bool :=
  isActive br.st || br.st == .safe || isHeld br || (idleToo && br.st != .disabled)

/-- The override stands on the bridge, the soundpost selects again, and with `idleToo` an IDLE bridge is SAFE. -/
def holdBridge (idleToo : Bool) (o : Ovr) (b : Nat) (s : State) : State :=
  let br := bridgeAt s b
  let keep := br.ovr.filter (fun x => !(x.src == o.src && x.ix == o.ix))
  let u := reselect b (modBridge b (fun br =>
    { br with ovr := keep ++ [o], rect := br.rect.filter (fun x => !(x.src == o.src && x.ix == o.ix)) }) s)
  if idleToo && br.st == .idle then modBridge b (fun br => { br with st := .safe }) u else u

theorem overrideBridge_eq (why : Byte) (idleToo : Bool) (o : Ovr) (b : Nat) (s : State) :
    overrideBridge why idleToo o b s =
      if takesOverride idleToo (bridgeAt s b) then enterSafe why b (holdBridge idleToo o b s) else s := rfl

theorem holdBridge_other {b c : Nat} (hc : b ≠ c) (idleToo : Bool) (o : Ovr) (s : State) :
    (bridgeAt s c).StaysHeld (bridgeAt (holdBridge idleToo o b s) c) := by
  have sel := fun f => (reselect_staysHeld b (modBridge b f s)) c
  unfold holdBridge
  dsimp only
  split
  · rw [bridgeAt_modBridge_ne _ _ _ _ hc, ← bridgeAt_modBridge_ne b c _ s hc]
    exact sel _
  · rw [← bridgeAt_modBridge_ne b c _ s hc]
    exact sel _

theorem holdBridge_self {b : Nat} {s : State} (h : b < s.bridges.length) (idleToo : Bool) (o : Ovr) :
    o ∈ (bridgeAt (holdBridge idleToo o b s) b).ovr ∧
      stOf (holdBridge idleToo o b s) b = if idleToo && stOf s b == .idle then .safe else stOf s b := by
  unfold holdBridge
  dsimp only
  generalize hv : modBridge b _ s = v
  have at_v : o ∈ (bridgeAt v b).ovr ∧ stOf v b = stOf s b := by
    rw [stOf, ← hv, bridgeAt_modBridge_self _ _ _ h]
    exact ⟨List.mem_append_right _ (List.mem_singleton.mpr rfl), rfl⟩
  obtain ⟨sel_st, sel_ovr⟩ := reselect_staysHeld b v b
  have lt_u : b < (reselect b v).bridges.length := by simpa [id reselect_keeps, ← hv] using h
  split
  · rename_i hi
    rw [stOf, bridgeAt_modBridge_self _ _ _ lt_u]
    exact ⟨sel_ovr o at_v.1, by rw [if_pos (by exact hi)]⟩
  · rename_i hi
    exact ⟨sel_ovr o at_v.1, by rw [if_neg (by exact hi)]; exact sel_st.trans at_v.2⟩

theorem overrideBridge_other {b c : Nat} (hc : b ≠ c) (why : Byte) (idleToo : Bool) (o : Ovr) (s : State) :
    (bridgeAt s c).MayIdle (bridgeAt (overrideBridge why idleToo o b s) c) := by
  rw [overrideBridge_eq]
  split
  · exact (holdBridge_other hc idleToo o s).mayIdle.trans (enterSafe_other hc why _)
  · exact (Bridge.StaysHeld.refl _).mayIdle

/-- A bridge that is active or SAFE, or IDLE where IDLE bridges are taken too, is SAFE under the override. -/
theorem overrideBridge_self {b : Nat} {s : State} {idleToo : Bool}
    (h : isActive (stOf s b) = true ∨ stOf s b = .safe ∨ idleToo = true ∧ stOf s b = .idle) (why : Byte) (o : Ovr) :
    (bridgeAt (overrideBridge why idleToo o b s) b).SafeUnder o := by
  have takes : takesOverride idleToo (bridgeAt s b) = true := by
    rw [stOf] at h
    rcases h with a | st | ⟨i, st⟩ <;> simp [takesOverride, *]
  have lt : b < s.bridges.length := lt_of_stOf_ne_disabled (by
    intro e
    rw [e] at h
    simp [isActive] at h)
  obtain ⟨held, st⟩ := holdBridge_self lt idleToo o
  rw [overrideBridge_eq, if_pos takes]
  by_cases active : isActive (stOf (holdBridge idleToo o b s) b) = true
  · exact enterSafe_self active held why
  · rw [enterSafe_of_not_active (Bool.eq_false_of_not_eq_true active)]
    refine ⟨?_, held⟩
    rcases h with a | safe | ⟨i, idle⟩
    · have ni : (stOf s b == .idle) = false := by
        rw [beq_eq_false_iff_ne]
        intro e
        rw [e] at a
        cases a
      simp [st, ni, a] at active
    · exact st.trans (by simp [safe])
    · exact st.trans (by simp [i, idle])

/-- An IDLE bridge stays IDLE where IDLE bridges are not taken. -/
theorem overrideBridge_idle {b : Nat} {s : State} (h : stOf s b = .idle) (why : Byte) (o : Ovr) :
    stOf (overrideBridge why false o b s) b = .idle := by
  have lt : b < s.bridges.length := lt_of_stOf_ne_disabled (by rw [h]; decide)
  have st : stOf (holdBridge false o b s) b = .idle := (holdBridge_self lt false o).2.trans h
  rw [overrideBridge_eq]
  split
  · rwa [enterSafe_of_not_active (by rw [st]; rfl)]
  · exact h

/-! ### Overriding a list of bridges -/

/-- Where an override finds or leaves a bridge of its list that it has visited: SAFE under it, or IDLE with its precharge just ended. -/
def Bridge.SafeOrIdle (o : Ovr) (x : Bridge) : Prop := x.SafeUnder o ∨ x.st = .idle

theorem overrideBridge_safeUnder {b : Nat} {s : State} {o : Ovr} (h : (bridgeAt s b).SafeUnder o) (why : Byte) (idleToo : Bool) (i : Nat) :
    (bridgeAt (overrideBridge why idleToo o i s) b).SafeUnder o := by
  by_cases e : i = b
  · subst e
    exact overrideBridge_self (Or.inr (Or.inl h.1)) why o
  · exact (overrideBridge_other e why idleToo o s).safeUnder h

theorem overrideBridge_safeOrIdle {b : Nat} {s : State} {o : Ovr} (h : (bridgeAt s b).SafeOrIdle o) (why : Byte) (idleToo : Bool) (i : Nat) :
    (bridgeAt (overrideBridge why idleToo o i s) b).SafeOrIdle o := by
  rcases h with safe | idle
  · exact Or.inl (overrideBridge_safeUnder safe why idleToo i)
  · by_cases e : i = b
    · subst e
      cases idleToo with
      | true => exact Or.inl (overrideBridge_self (Or.inr (Or.inr ⟨rfl, idle⟩)) why o)
      | false => exact Or.inr (overrideBridge_idle idle why o)
    · exact Or.inr (((overrideBridge_other e why idleToo o s).st_eq (by rw [idle]; decide)).trans idle)

/-- The first pass: whatever the order, a bridge of the list that was active is SAFE under the override, or IDLE because the SAFE of its
machine's other bridge came first. -/
theorem overridePass_of_active {b : Nat} {bs : List Nat} {s : State} (hb : b ∈ bs) (h : isActive (stOf s b) = true) (why : Byte)
    (idleToo : Bool) (o : Ovr) : (bridgeAt (forEach bs (overrideBridge why idleToo o) s) b).SafeOrIdle o := by
  refine forEach_establishes (P := fun u => (bridgeAt u b).SafeOrIdle o) (Q := fun u => isActive (stOf u b) = true)
    (fun i u hu => overrideBridge_safeOrIdle hu why idleToo i) (fun i u hi hu => ?_)
    (fun u hu => Or.inl (overrideBridge_self (Or.inl hu) why o)) hb h
  rcases (overrideBridge_other hi why idleToo o u).1 with e | ⟨-, idle⟩
  · exact Or.inl ((congrArg isActive e).trans hu)
  · exact Or.inr (Or.inr idle)

/-- The second pass: an IDLE bridge of its list is SAFE under the override. -/
theorem overridePass_of_idle {b : Nat} {bs : List Nat} {s : State} (hb : b ∈ bs) (h : stOf s b = .idle) (why : Byte) (o : Ovr) :
    (bridgeAt (forEach bs (overrideBridge why true o) s) b).SafeUnder o :=
  forEach_establishes (P := fun u => (bridgeAt u b).SafeUnder o) (Q := fun u => stOf u b = .idle)
    (fun i _ hu => overrideBridge_safeUnder hu why true i)
    (fun _ u hi hu => Or.inl (((overrideBridge_other hi why true o u).st_eq (by rw [← stOf, hu]; decide)).trans hu))
    (fun _ hu => overrideBridge_self (Or.inr (Or.inr ⟨rfl, hu⟩)) why o) hb h

/-- Every bridge of the list that was active is SAFE under the override. -/
theorem override_of_active {b : Nat} {bs : List Nat} {s : State} (hb : b ∈ bs) (h : isActive (stOf s b) = true) (why : Byte)
    (idleToo : Bool) (o : Ovr) : (bridgeAt (override why idleToo o bs s) b).SafeUnder o := by
  unfold override
  dsimp only
  rcases overridePass_of_active hb h why idleToo o with safe | idle
  · exact forEach_induction (P := fun u => (bridgeAt u b).SafeUnder o) safe (fun u hu i _ => overrideBridge_safeUnder hu why true i)
  · exact overridePass_of_idle (List.mem_filter.mpr ⟨hb, by rw [h, Bool.true_and]; exact beq_iff_eq.mpr idle⟩) idle why o

/-! ### Topology is read from the stores -/

section
variable {s t : State} (h : t.store = s.store)
include h

theorem par_of_store : par t = par s := by funext id; unfold par; rw [h]

theorem lgOf_of_store (b : Nat) : lgOf t b = lgOf s b := by unfold lgOf parN; rw [par_of_store h]

theorem ctdCovers_of_store (n g : Nat) : ctdCovers t n g = ctdCovers s n g := by unfold ctdCovers ctPar parN; rw [par_of_store h]

theorem machBridges_of_store (m : Nat) : machBridges t m = machBridges s m := by
  unfold machBridges machExists sixUpper sixLower assigned mapped
  rw [par_of_store h, h]

theorem scopeBridges_of_store (sc : Scope) : scopeBridges t sc = scopeBridges s sc := by
  cases sc with
  | linkGroup g => simp only [scopeBridges, lgBridges, lgOf_of_store h]
  | machine m => exact machBridges_of_store h m
  | device | bothGroups | bridge | nothing => rfl

end

/-! ### Lock-outs (R369) -/

/-- A lock-out of the code stands that covers the scope, whether it stood before or is new. -/
theorem addLockout_covers (code ix : Nat) (sc : Scope) (e : Esn) (s : State) :
    ∃ k ∈ (addLockout code ix sc e s).safety.locks, k.code.toNat = code % 65536 ∧ ∀ b ∈ scopeBridges s sc, b ∈ lockBridges s k := by
  unfold addLockout
  dsimp only
  split
  · rename_i covered
    obtain ⟨k, hk, covers⟩ := List.any_eq_true.mp covered
    simp only [Bool.and_eq_true, beq_iff_eq, List.all_eq_true, List.contains_iff_mem] at covers
    obtain ⟨⟨hcode, all⟩, -⟩ := covers
    have small := k.code.isLt
    exact ⟨k, hk, by omega, all⟩
  · exact ⟨⟨e, BitVec.ofNat 16 code, sc, none, ix⟩, List.mem_append_right _ (List.mem_singleton.mpr rfl), by simp, fun b hb => hb⟩

/-! ### Contactors (R362) -/

/-- The driver has its open request: it waits where the monitor pair restarts, and is commanded open otherwise. -/
def CtdOpening (halted : Bool) (n : Nat) (s : State) : Prop :=
  if halted then (ctdAt s n).openWait = true else (ctdAt s n).closed = false

/-- What an open request looks at, beyond its own driver, is as it was in `s`. -/
def OpensFrom (s u : State) : Prop := u.safety = s.safety ∧ u.ctds.length = s.ctds.length

theorem openCtd_opensFrom {s u : State} (h : OpensFrom s u) (i : Nat) : OpensFrom s (openCtd i u) := by
  obtain ⟨safety, length⟩ := h
  unfold openCtd
  split <;> exact ⟨safety, by simpa [commandCtd] using length⟩

theorem openCtd_self {n : Nat} {s : State} (h : n < s.ctds.length) : CtdOpening s.safety.mon.halted n (openCtd n s) := by
  unfold CtdOpening openCtd
  split
  · rw [ctdAt_modCtd_self _ _ _ h]
  · rw [commandCtd, ctdAt_modCtd_self _ _ _ h]
    split <;> simp_all

theorem openCtd_other {i n : Nat} (h : i ≠ n) (s : State) : ctdAt (openCtd i s) n = ctdAt s n := by
  unfold openCtd
  split
  · exact ctdAt_modCtd_ne i n _ s h
  · exact ctdAt_modCtd_ne i n _ s h

/-- The drivers of a list have their open requests after the loop over it. -/
theorem forEach_openCtd {n : Nat} {l : List Nat} {s : State} (hn : n ∈ l) (h : n < s.ctds.length) :
    CtdOpening s.safety.mon.halted n (forEach l openCtd s) := by
  have reach : ∀ u, OpensFrom s u → CtdOpening s.safety.mon.halted n (openCtd n u) := fun u ⟨safety, length⟩ =>
    safety ▸ openCtd_self (length ▸ h)
  refine (forEach_establishes (P := fun u => OpensFrom s u ∧ CtdOpening s.safety.mon.halted n u) (Q := OpensFrom s)
    (fun i u ⟨hu, opening⟩ => ⟨openCtd_opensFrom hu i, ?_⟩) (fun i _ _ hu => Or.inl (openCtd_opensFrom hu i))
    (fun u hu => ⟨openCtd_opensFrom hu n, reach u hu⟩) hn ⟨rfl, rfl⟩).2
  by_cases e : i = n
  · subst e
    exact reach u hu
  · unfold CtdOpening
    rwa [openCtd_other e]

/-- A driver that covers the link group of a bridge opens with it. -/
theorem openContactors_opening {bs : List Nat} {n b : Nat} {s : State} (hn : n < 4) (h : n < s.ctds.length) (hg : lgOf s b < 2)
    (hb : b ∈ bs) (hc : ctdCovers s n (lgOf s b) = true) : CtdOpening s.safety.mon.halted n (openContactors bs s) := by
  have group : lgOf s b ∈ groupsOf bs s := by
    refine List.mem_filter.mpr ⟨?_, List.any_eq_true.mpr ⟨b, hb, beq_self_eq_true _⟩⟩
    simp only [List.mem_cons, List.not_mem_nil, or_false]
    omega
  have driver : n ∈ (List.range 4).filter (fun n => (groupsOf bs s).any (ctdCovers s n)) :=
    List.mem_filter.mpr ⟨List.mem_range.mpr hn, List.any_eq_true.mpr ⟨_, group, hc⟩⟩
  have same : ∀ v u, (forEach (groupsOf bs s) (waitDischarge v) u).ctds = u.ctds := fun v u =>
    forEach_proj State.ctds (f := waitDischarge v) (fun _ _ => rfl) _ u
  rw [openContactors_eq]
  unfold CtdOpening ctdAt
  rw [same]
  exact forEach_openCtd driver h

/-! ### The reaction -/

/-- F-0503 leaves bridges, channels and contactors alone (R321). -/
theorem react_0503_overrides_nothing {level : Nat} (h : 2 < level) (ix : Nat) (sc : Scope) (idleToo : Bool) (why : Byte) (e : Esn)
    (s : State) :
    let t := react level 0x0503 ix sc idleToo why e s
    t.bridges = s.bridges ∧ t.chans = s.chans ∧ t.ctds = s.ctds := by
  rw [react_0503 h]
  split
  · simp [id addLockout_same]
  · exact ⟨rfl, rfl, rfl⟩

/-- At L3 and L4 an active bridge of the scope is SAFE and held by the override of the fault (R20). -/
theorem react_safeUnder {level code : Nat} (h : 2 < level) (hc : code ≠ 0x0503) (ix : Nat) (sc : Scope) (idleToo : Bool) (why : Byte)
    (e : Esn) {s : State} {b : Nat} (hb : b ∈ scopeBridges s sc) (ha : isActive (stOf s b) = true) :
    (bridgeAt (react level code ix sc idleToo why e s) b).SafeUnder ⟨.fault (BitVec.ofNat 16 code), level, ix⟩ := by
  have safe := override_of_active hb ha why idleToo ⟨.fault (BitVec.ofNat 16 code), level, ix⟩
  rw [react_override h hc]
  split
  · unfold bridgeAt at safe ⊢
    simpa [id openContactors_same, id addLockout_same] using safe
  · exact safe

/-- At L4 a lock-out covers the scope, and the contactor drivers of its link groups open (R20, R362, R369). -/
theorem react_four {code : Nat} (hc : code ≠ 0x0503) (ix : Nat) (sc : Scope) (idleToo : Bool) (why : Byte) (e : Esn) (s : State) :
    let t := react 4 code ix sc idleToo why e s
    (∃ k ∈ t.safety.locks, k.code.toNat = code % 65536 ∧ ∀ b ∈ scopeBridges s sc, b ∈ lockBridges s k) ∧
    ∀ n b, n < 4 → n < s.ctds.length → lgOf s b < 2 → b ∈ scopeBridges s sc → ctdCovers s n (lgOf s b) = true →
      CtdOpening s.safety.mon.halted n t := by
  rw [react_override (by decide) hc, if_pos rfl]
  generalize hu : override why idleToo _ (scopeBridges s sc) s = u
  obtain ⟨store, ctds, safety⟩ : u.store = s.store ∧ u.ctds = s.ctds ∧ u.safety = s.safety := by simp [← hu, id override_same]
  generalize hv : addLockout code ix sc e u = v
  have lock := addLockout_covers code ix sc e u
  obtain ⟨vstore, vctds, vhalted⟩ : v.store = s.store ∧ v.ctds = s.ctds ∧ v.safety.mon.halted = s.safety.mon.halted := by
    refine ⟨?_, ?_, ?_⟩
    · simp [← hv, id addLockout_same, store]
    · simp [← hv, id addLockout_same, ctds]
    · rw [← hv, ← safety, addLockout]
      dsimp only
      split <;> rfl
  constructor
  · simpa only [hv, lockBridges, scopeBridges_of_store store, openContactors_same] using lock
  · intro n b hn lt hg hb hcov
    rw [← vhalted]
    rw [← vctds] at lt
    rw [← lgOf_of_store vstore] at hg hcov
    rw [← ctdCovers_of_store vstore] at hcov
    exact openContactors_opening hn lt hg hb hcov

/-- Settles O16, level by level. -/
theorem reactionsFollowTheLevel : Obligations.ReactionsFollowTheLevel := by
  intro level code ix sc idleToo why e s
  refine ⟨fun h => react_of_lt_two h .., ?_, fun _ hc h b hb _ ha => ?_, ?_⟩
  · rintro rfl h
    exact react_0503_overrides_nothing h ..
  · obtain ⟨safe, held⟩ := react_safeUnder h hc ix sc idleToo why e hb ha
    exact ⟨safe, _, held, rfl⟩
  · rintro hc rfl
    obtain ⟨lock, opening⟩ := react_four hc ix sc idleToo why e s
    refine ⟨lock, ?_⟩
    rintro n g b hn lt hg hb rfl hcov
    exact opening n b hn lt hg hb hcov

end Sys2Proof.Machine
end

section
/-! What a step is, and which commands keep all of `Keeps`. -/

namespace Sys2Proof.Machine

/-! ### What a step is -/

/-- A step runs the command at the front on the state without it, or passes a tick on an empty queue. -/
theorem step_cases {s t : State} (h : step s = .next t) :
    (∃ c rest, s.pending = c :: rest ∧ exec c { s with pending := rest } = .next t) ∨ (s.pending = [] ∧ t = tick s) := by
  unfold step at h
  split at h
  next c rest hq => exact Or.inl ⟨c, rest, hq, h⟩
  next hq =>
    cases h
    exact Or.inr ⟨hq, rfl⟩

theorem step_of_empty {s : State} (h : s.pending = []) : step s = .next (tick s) := by
  simp [step, h]

/-- What holds of every next state holds of the one that is answered. -/
theorem OutAll.next {P : State → Prop} {o : Out} {t : State} (h : OutAll P o) (e : o = .next t) : P t := by
  subst e
  exact h

theorem OutAll.mono {P Q : State → Prop} {o : Out} (h : OutAll P o) (imp : ∀ t, P t → Q t) : OutAll Q o := by
  cases o with
  | next t => exact imp t h
  | fault => trivial
  | refused => trivial

/-! ### Commands that keep the device as it was -/

/-- The commands that may burn a fuse, change an owner slot, set device time or move the device between its phases. -/
def movesDevice : Instr → Bool
  | .updActivate .. => true
  | .ownerSlotFuse .. => true
  | .ownerSlotRevoke .. => true
  | .standbyEnter .. => true
  | .restart .. => true
  | .kl15Rise => true
  | .kl15KeepHigh .. => true
  | .kl15KeepLowCount .. => true
  | .standbyEntryResume => true
  | .freezeTake .. => true
  | .kl30LossConfirmed .. => true
  | .kl30Return .. => true
  | .holdupEnd .. => true
  | .kl30Apply .. => true
  | .bootEntry .. => true
  | .rtcAlarm => true
  | .canWake .. => true
  | .supplyLowReset .. => true
  | .dispatch => true
  | .gptpSync .. => true
  | .ringFrameReceive .. => true
  | .handoverTakeover .. => true
  | _ => false

/-- Every other command keeps all of `Keeps`. -/
theorem exec_keeps {c : Instr} (h : movesDevice c = false) (s : State) : OutKeeps s (exec c s) := by
  cases c with
  | identify a0 => exact execIdentify_keeps a0 s
  | getState a0 => exact execGetState_keeps a0 s
  | setOpModeEnter a0 => exact execSetOpModeEnter_keeps a0 s
  | setOpModeLeave a0 => exact execSetOpModeLeave_keeps a0 s
  | reset a0 a1 => exact execReset_keeps a0 a1 s
  | ctxQuery a0 a1 => exact execCtxQuery_keeps a0 a1 s
  | arm a0 a1 => exact execArm_keeps a0 a1 s
  | disarm a0 a1 => exact execDisarm_keeps a0 a1 s
  | torqueSet a0 a1 a2 => exact execTorqueSet_keeps a0 a1 a2 s
  | speedSet a0 a1 a2 => exact execSpeedSet_keeps a0 a1 a2 s
  | safeState a0 a1 a2 => exact execSafeState_keeps a0 a1 a2 s
  | start a0 a1 a2 => exact execStart_keeps a0 a1 a2 s
  | pluckTest a0 a1 => exact execPluckTest_keeps a0 a1 s
  | retire a0 a1 a2 => exact execRetire_keeps a0 a1 a2 s
  | cmpArm a0 a1 a2 a3 => exact execCmpArm_keeps a0 a1 a2 a3 s
  | cmpStatus a0 a1 => exact execCmpStatus_keeps a0 a1 s
  | remap a0 a1 a2 a3 => exact execRemap_keeps a0 a1 a2 a3 s
  | paramRead a0 a1 a2 => exact execParamRead_keeps a0 a1 a2 s
  | paramWrite a0 a1 => exact execParamWrite_keeps a0 a1 s
  | paramCommitPrepare a0 => exact execParamCommitPrepare_keeps a0 s
  | paramCommitApply a0 a1 a2 a3 a4 => exact execParamCommitApply_keeps a0 a1 a2 a3 a4 s
  | paramCommitDiscard a0 => exact execParamCommitDiscard_keeps a0 s
  | setSelect a0 a1 => exact execSetSelect_keeps a0 a1 s
  | calRead a0 a1 a2 a3 a4 => exact execCalRead_keeps a0 a1 a2 a3 a4 s
  | calRecal a0 a1 a2 => exact execCalRecal_keeps a0 a1 a2 s
  | updBegin a0 a1 a2 a3 => exact execUpdBegin_keeps a0 a1 a2 a3 s
  | updChunk a0 a1 a2 => exact execUpdChunk_keeps a0 a1 a2 s
  | updVerify a0 => exact execUpdVerify_keeps a0 s
  | updHandover a0 => exact execUpdHandover_keeps a0 s
  | recInfo a0 => exact execRecInfo_keeps a0 s
  | recRead a0 a1 a2 => exact execRecRead_keeps a0 a1 a2 s
  | trendRead a0 a1 a2 a3 => exact execTrendRead_keeps a0 a1 a2 a3 s
  | attest a0 a1 => exact execAttest_keeps a0 a1 s
  | sessionOpen a0 a1 => exact execSessionOpen_keeps a0 a1 s
  | sessionClose a0 => exact execSessionClose_keeps a0 s
  | keyInfo a0 a1 => exact execKeyInfo_keeps a0 a1 s
  | cascStatus a0 => exact execCascStatus_keeps a0 s
  | regRead a0 a1 a2 => exact execRegRead_keeps a0 a1 a2 s
  | regWrite a0 a1 a2 a3 => exact execRegWrite_keeps a0 a1 a2 a3 s
  | freqMeasure a0 a1 a2 a3 => exact execFreqMeasure_keeps a0 a1 a2 a3 s
  | freeze a0 => exact execFreeze_keeps a0 s
  | snapshotInfo a0 => exact execSnapshotInfo_keeps a0 s
  | domainSet a0 a1 a2 a3 => exact execDomainSet_keeps a0 a1 a2 a3 s
  | opPoint a0 a1 a2 => exact execOpPoint_keeps a0 a1 a2 s
  | rtcSet a0 a1 => exact execRtcSet_keeps a0 a1 s
  | alarmSet a0 a1 a2 => exact execAlarmSet_keeps a0 a1 a2 s
  | lockoutClear a0 a1 a2 a3 => exact execLockoutClear_keeps a0 a1 a2 a3 s
  | stoStatus a0 => exact execStoStatus_keeps a0 s
  | contactorSet a0 a1 a2 a3 => exact execContactorSet_keeps a0 a1 a2 a3 s
  | lockoutList a0 => exact execLockoutList_keeps a0 s
  | clkSelWrite a0 => exact execClkSelWrite_keeps a0 s
  | clockSwitchForced a0 => exact execClockSwitchForced_keeps a0 s
  | clkGateOpen a0 => exact execClkGateOpen_keeps a0 s
  | clkGateClose a0 a1 => exact execClkGateClose_keeps a0 a1 s
  | gateCloseForced a0 a1 => exact execGateCloseForced_keeps a0 a1 s
  | domCtlRequest a0 a1 a2 => exact execDomCtlRequest_keeps a0 a1 a2 s
  | opPointRegRequest a0 a1 => exact execOpPointRegRequest_keeps a0 a1 s
  | fmStart => exact execFmStart_keeps s
  | recFlush => exact execRecFlush_keeps s
  | recSampleEnWrite a0 => exact execRecSampleEnWrite_keeps a0 s
  | snsTestForce a0 a1 a2 => exact execSnsTestForce_keeps a0 a1 a2 s
  | snpStatus a0 => exact execSnpStatus_keeps a0 s
  | snpRead a0 a1 a2 => exact execSnpRead_keeps a0 a1 a2 s
  | standbyWaitReport a0 => exact execStandbyWaitReport_keeps a0 s
  | drvEnFall => exact execDrvEnFall_keeps s
  | drvEnRise a0 a1 => exact execDrvEnRise_keeps a0 a1 s
  | clearanceExpiry a0 => exact execClearanceExpiry_keeps a0 s
  | freezePinRise => exact execFreezePinRise_keeps s
  | freezeWatcherFastClear a0 a1 => exact execFreezeWatcherFastClear_keeps a0 a1 s
  | stoDemand a0 a1 => exact execStoDemand_keeps a0 a1 s
  | stoDemandEnd a0 => exact execStoDemandEnd_keeps a0 s
  | stoDiscrepancy a0 => exact execStoDiscrepancy_keeps a0 s
  | kl30Loss a0 a1 => exact execKl30Loss_keeps a0 a1 s
  | kl30OutOfRange a0 a1 => exact execKl30OutOfRange_keeps a0 a1 s
  | islandHandshakeTimeout a0 a1 => exact execIslandHandshakeTimeout_keeps a0 a1 s
  | startupStepOverrun a0 a1 => exact execStartupStepOverrun_keeps a0 a1 s
  | domainWakeDeadline a0 a1 a2 => exact execDomainWakeDeadline_keeps a0 a1 a2 s
  | domainWakeRetry a0 a1 => exact execDomainWakeRetry_keeps a0 a1 s
  | feRestoreComplete a0 a1 => exact execFeRestoreComplete_keeps a0 a1 s
  | d5HoldExpiry a0 a1 => exact execD5HoldExpiry_keeps a0 a1 s
  | opPointTransitionDone a0 => exact execOpPointTransitionDone_keeps a0 s
  | opPointOverrun a0 a1 => exact execOpPointOverrun_keeps a0 a1 s
  | sourceReady a0 a1 => exact execSourceReady_keeps a0 a1 s
  | pllCoast a0 a1 => exact execPllCoast_keeps a0 a1 s
  | clockSourceFail a0 a1 a2 => exact execClockSourceFail_keeps a0 a1 a2 s
  | clockFailHandling a0 => exact execClockFailHandling_keeps a0 s
  | clockLossSevere a0 a1 => exact execClockLossSevere_keeps a0 a1 s
  | clockRestore => exact execClockRestore_keeps s
  | freqMeasureDone a0 => exact execFreqMeasureDone_keeps a0 s
  | freqMeasureSrcOff => exact execFreqMeasureSrcOff_keeps s
  | desaturation a0 a1 a2 a3 a4 a5 => exact execDesaturation_keeps a0 a1 a2 a3 a4 a5 s
  | softTurnoffEnd a0 a1 a2 => exact execSoftTurnoffEnd_keeps a0 a1 a2 s
  | vbpUndervoltage a0 a1 a2 => exact execVbpUndervoltage_keeps a0 a1 a2 s
  | vbpUvloRelease a0 a1 a2 => exact execVbpUvloRelease_keeps a0 a1 a2 s
  | vbnOutOfRange a0 a1 a2 => exact execVbnOutOfRange_keeps a0 a1 a2 s
  | vbsOk a0 a1 a2 => exact execVbsOk_keeps a0 a1 a2 s
  | vbsWarn a0 a1 a2 => exact execVbsWarn_keeps a0 a1 a2 s
  | vbsWarnClear a0 a1 a2 => exact execVbsWarnClear_keeps a0 a1 a2 s
  | vbsUv a0 a1 a2 => exact execVbsUv_keeps a0 a1 a2 s
  | highIslandStartReturn a0 a1 a2 => exact execHighIslandStartReturn_keeps a0 a1 a2 s
  | bowMeasurement a0 a1 a2 a3 => exact execBowMeasurement_keeps a0 a1 a2 a3 s
  | bowFailure a0 a1 a2 a3 => exact execBowFailure_keeps a0 a1 a2 a3 s
  | gateMonitorBreach a0 a1 a2 a3 a4 => exact execGateMonitorBreach_keeps a0 a1 a2 a3 a4 s
  | islandOverlapRefusal a0 a1 => exact execIslandOverlapRefusal_keeps a0 a1 s
  | islandLinkLoss a0 a1 a2 a3 a4 => exact execIslandLinkLoss_keeps a0 a1 a2 a3 a4 s
  | islandLinkTrained a0 a1 => exact execIslandLinkTrained_keeps a0 a1 s
  | auxFaultLatch a0 a1 a2 => exact execAuxFaultLatch_keeps a0 a1 a2 s
  | prechargePulse a0 => exact execPrechargePulse_keeps a0 s
  | prechargeComplete a0 => exact execPrechargeComplete_keeps a0 s
  | prechargeTimeout a0 => exact execPrechargeTimeout_keeps a0 s
  | periodBoundary a0 a1 => exact execPeriodBoundary_keeps a0 a1 s
  | missedUpdateLimit a0 => exact execMissedUpdateLimit_keeps a0 s
  | lockAndMatch a0 => exact execLockAndMatch_keeps a0 s
  | interlockRefusal a0 => exact execInterlockRefusal_keeps a0 s
  | refusalLimit a0 => exact execRefusalLimit_keeps a0 s
  | sixstepToggle a0 => exact execSixstepToggle_keeps a0 s
  | adcTrigger a0 a1 => exact execAdcTrigger_keeps a0 a1 s
  | syncPulse a0 => exact execSyncPulse_keeps a0 s
  | syncLoss a0 => exact execSyncLoss_keeps a0 s
  | controlPeriod a0 a1 => exact execControlPeriod_keeps a0 a1 s
  | referenceUpdate a0 => exact execReferenceUpdate_keeps a0 s
  | torqueNotReachable a0 => exact execTorqueNotReachable_keeps a0 s
  | trackingError a0 => exact execTrackingError_keeps a0 s
  | xyExcess a0 => exact execXyExcess_keeps a0 s
  | imFluxTimeout a0 => exact execImFluxTimeout_keeps a0 s
  | sixstepEntry a0 => exact execSixstepEntry_keeps a0 s
  | sixstepExit a0 => exact execSixstepExit_keeps a0 s
  | zcWindowEnd a0 a1 a2 => exact execZcWindowEnd_keeps a0 a1 a2 s
  | zcMissLimit a0 => exact execZcMissLimit_keeps a0 s
  | orderlyStopEnd a0 => exact execOrderlyStopEnd_keeps a0 s
  | disarmRampEnd a0 => exact execDisarmRampEnd_keeps a0 s
  | retireRampEnd a0 => exact execRetireRampEnd_keeps a0 s
  | rectificationDetect a0 a1 a2 a3 => exact execRectificationDetect_keeps a0 a1 a2 a3 s
  | checkTimeEnd a0 => exact execCheckTimeEnd_keeps a0 s
  | catchWindowEnd a0 a1 => exact execCatchWindowEnd_keeps a0 a1 s
  | catchExtensionEnd a0 a1 => exact execCatchExtensionEnd_keeps a0 a1 s
  | pluckPulse a0 a1 => exact execPluckPulse_keeps a0 a1 s
  | observerInvalid a0 => exact execObserverInvalid_keeps a0 s
  | quadEdge a0 a1 a2 a3 => exact execQuadEdge_keeps a0 a1 a2 a3 s
  | dividedOutputEmit a0 => exact execDividedOutputEmit_keeps a0 s
  | indexMark a0 => exact execIndexMark_keeps a0 s
  | illegalTransition a0 a1 a2 => exact execIllegalTransition_keeps a0 a1 a2 s
  | illegalEventLimit a0 => exact execIllegalEventLimit_keeps a0 s
  | hallEdge a0 a1 a2 => exact execHallEdge_keeps a0 a1 a2 s
  | hallInvalid a0 a1 a2 => exact execHallInvalid_keeps a0 a1 a2 s
  | hallInvalidHeld a0 => exact execHallInvalidHeld_keeps a0 s
  | amplitudeWindowFault a0 a1 => exact execAmplitudeWindowFault_keeps a0 a1 s
  | excitationFault a0 a1 => exact execExcitationFault_keeps a0 a1 s
  | inputFrequencyLimit a0 => exact execInputFrequencyLimit_keeps a0 s
  | trackingLock a0 a1 => exact execTrackingLock_keeps a0 a1 s
  | interfaceRecovery a0 => exact execInterfaceRecovery_keeps a0 s
  | speedWindow a0 => exact execSpeedWindow_keeps a0 s
  | speedZeroTimeout a0 => exact execSpeedZeroTimeout_keeps a0 s
  | compareLoad a0 => exact execCompareLoad_keeps a0 s
  | compareFire a0 => exact execCompareFire_keeps a0 s
  | compareRearm a0 => exact execCompareRearm_keeps a0 s
  | windowComparatorTrip a0 a1 a2 a3 => exact execWindowComparatorTrip_keeps a0 a1 a2 a3 s
  | currentSumViolation a0 a1 => exact execCurrentSumViolation_keeps a0 a1 s
  | sensorSupplyFault a0 a1 a2 a3 => exact execSensorSupplyFault_keeps a0 a1 a2 a3 s
  | linkVoltageFormation a0 a1 => exact execLinkVoltageFormation_keeps a0 a1 s
  | ovTrip a0 a1 a2 => exact execOvTrip_keeps a0 a1 a2 s
  | ovWarn a0 a1 => exact execOvWarn_keeps a0 a1 s
  | uvLimit a0 a1 => exact execUvLimit_keeps a0 a1 s
  | chopperOn a0 => exact execChopperOn_keeps a0 s
  | chopperOff a0 => exact execChopperOff_keeps a0 s
  | chopperUnavailable a0 a1 => exact execChopperUnavailable_keeps a0 a1 s
  | chopperUncommanded a0 a1 => exact execChopperUncommanded_keeps a0 a1 s
  | chopperEnergyLimit a0 => exact execChopperEnergyLimit_keeps a0 s
  | dischargeAutoStart a0 => exact execDischargeAutoStart_keeps a0 s
  | dischargeEnd a0 => exact execDischargeEnd_keeps a0 s
  | dischargeSwitchFault a0 a1 => exact execDischargeSwitchFault_keeps a0 a1 s
  | windingDischargeEnd a0 => exact execWindingDischargeEnd_keeps a0 s
  | dischargeTimeout a0 => exact execDischargeTimeout_keeps a0 s
  | fastWrite a0 => exact execFastWrite_keeps a0 s
  | activeShortUnavailable a0 => exact execActiveShortUnavailable_keeps a0 s
  | lockstepMismatch a0 a1 a2 => exact execLockstepMismatch_keeps a0 a1 a2 s
  | checkerFailure a0 a1 => exact execCheckerFailure_keeps a0 a1 s
  | runtimeInjection a0 a1 => exact execRuntimeInjection_keeps a0 a1 s
  | pairRestartDone a0 a1 a2 => exact execPairRestartDone_keeps a0 a1 a2 s
  | torqueMonitorWindow a0 => exact execTorqueMonitorWindow_keeps a0 s
  | heartbeat a0 a1 a2 => exact execHeartbeat_keeps a0 a1 a2 s
  | heartbeatMissed a0 a1 => exact execHeartbeatMissed_keeps a0 a1 s
  | supplyOutOfWindow a0 a1 a2 => exact execSupplyOutOfWindow_keeps a0 a1 a2 s
  | supplyResetRelease a0 a1 a2 => exact execSupplyResetRelease_keeps a0 a1 a2 s
  | dieCheck a0 a1 => exact execDieCheck_keeps a0 a1 s
  | contactorPullInEnd a0 => exact execContactorPullInEnd_keeps a0 s
  | contactorFeedbackFail a0 a1 a2 => exact execContactorFeedbackFail_keeps a0 a1 a2 s
  | tempMeasurement a0 => exact execTempMeasurement_keeps a0 s
  | offsetLearn a0 => exact execOffsetLearn_keeps a0 s
  | monitorTripCheck a0 a1 => exact execMonitorTripCheck_keeps a0 a1 s
  | tempCompensation a0 a1 a2 a3 => exact execTempCompensation_keeps a0 a1 a2 a3 s
  | tempCompensationLate => exact execTempCompensationLate_keeps s
  | packetArrival a0 a1 a2 => exact execPacketArrival_keeps a0 a1 a2 s
  | udpDatagram a0 a1 a2 a3 a4 a5 => exact execUdpDatagram_keeps a0 a1 a2 a3 a4 a5 s
  | canSegment a0 a1 => exact execCanSegment_keeps a0 a1 s
  | segmentGapTimeout a0 a1 => exact execSegmentGapTimeout_keeps a0 a1 s
  | fastSetpointFrame a0 => exact execFastSetpointFrame_keeps a0 s
  | contextDeadline a0 => exact execContextDeadline_keeps a0 s
  | sessionIdleTimeout a0 => exact execSessionIdleTimeout_keeps a0 s
  | setpointTimeout a0 => exact execSetpointTimeout_keeps a0 s
  | nonceExpiry a0 => exact execNonceExpiry_keeps a0 s
  | canFrameReceive a0 a1 a2 a3 => exact execCanFrameReceive_keeps a0 a1 a2 a3 s
  | canBusOff a0 => exact execCanBusOff_keeps a0 s
  | canBusOffRecovery a0 a1 => exact execCanBusOffRecovery_keeps a0 a1 s
  | stateFrame => exact execStateFrame_keeps s
  | oneShotFail a0 a1 => exact execOneShotFail_keeps a0 a1 s
  | ethLinkDown a0 => exact execEthLinkDown_keeps a0 s
  | gptpSyncLoss a0 => exact execGptpSyncLoss_keeps a0 s
  | qbvCycleStart => exact execQbvCycleStart_keeps s
  | ringPeriodicSend => exact execRingPeriodicSend_keeps s
  | ringLinkSend => exact execRingLinkSend_keeps s
  | ringDelayReq a0 a1 a2 a3 a4 => exact execRingDelayReq_keeps a0 a1 a2 a3 a4 s
  | faultFlagChange => exact execFaultFlagChange_keeps s
  | ringLinkDown a0 a1 => exact execRingLinkDown_keeps a0 a1 s
  | ringLinkRestored a0 a1 => exact execRingLinkRestored_keeps a0 a1 s
  | cascadeDeviceLost a0 => exact execCascadeDeviceLost_keeps a0 s
  | masterLost => exact execMasterLost_keeps s
  | recorderFlush => exact execRecorderFlush_keeps s
  | postTriggerEnd => exact execPostTriggerEnd_keeps s
  | trendRecord a0 => exact execTrendRecord_keeps a0 s
  | handoverTimeout => exact execHandoverTimeout_keeps s
  | feReload a0 => exact execFeReload_keeps a0 s
  | islReload a0 a1 => exact execIslReload_keeps a0 a1 s
  | feRotation a0 => exact execFeRotation_keeps a0 s
  | recalCoverEnd a0 a1 a2 a3 a4 => exact execRecalCoverEnd_keeps a0 a1 a2 a3 a4 s
  | feedbackConfirmsCommand a0 a1 => exact execFeedbackConfirmsCommand_keeps a0 a1 s
  | fluxMapDerivationEnd a0 => exact execFluxMapDerivationEnd_keeps a0 s
  | retentionRestore a0 a1 => exact execRetentionRestore_keeps a0 a1 s
  | ipv4ReassemblyTimeout a0 a1 => exact execIpv4ReassemblyTimeout_keeps a0 a1 s
  | ethLinkUp a0 => exact execEthLinkUp_keeps a0 s
  | arpRequest a0 a1 => exact execArpRequest_keeps a0 a1 s
  | icmpEchoRequest a0 a1 => exact execIcmpEchoRequest_keeps a0 a1 s
  | tapInstruction a0 a1 => exact execTapInstruction_keeps a0 a1 s
  | _ => cases h

end Sys2Proof.Machine
end

section
/-! Device time and the core mode (R40, R43, R46, R401): what a tick adds to device time, which commands correct it, and that apart
from a start-up no step sets it back or changes the mode. -/

namespace Sys2Proof.Machine

/-! ### One tick (R40, R43, R401) -/

/-- A correction under way gains one tick or holds one (R43). -/
theorem devTick_dev_bounds (s : State) : s.time.dev ≤ (devTick s).time.dev ∧ (devTick s).time.dev ≤ s.time.dev + 2 := by
  unfold devTick
  dsimp only
  split_ifs <;> simp

/-- Without a correction under way a tick of device time is one tick. -/
theorem devTick_dev_of_noSlew {s : State} (h : s.net.slew = 0) : (devTick s).time.dev = s.time.dev + 1 := by
  simp [devTick, h]

theorem timebaseTick_dev (s : State) : (timebaseTick s).time.dev = (devTick s).time.dev := by
  simp [timebaseTick, id trendTick_keeps, id egressTick_keeps, id canTick_keeps, id posTick_keeps, id gatesTick_keeps,
    id syncPulse_keeps]

/-- Device time moves with the timebase, and stands still while that stops or misses the tick. -/
theorem tick_dev (s : State) :
    (tick s).time.dev = if timebaseRuns s && !missesTick s then (devTick s).time.dev else s.time.dev := by
  rw [← timebaseTick_dev, ← ite_dev]
  unfold tick
  dsimp only
  generalize (if (timebaseRuns s && !missesTick s) = true then timebaseTick s else s) = u
  split <;> simp [id d0Advance_keeps, id standbyAdvance_keeps]

theorem tick_dev_bounds (s : State) : s.time.dev ≤ (tick s).time.dev ∧ (tick s).time.dev ≤ s.time.dev + 2 := by
  rw [tick_dev]
  split
  · exact devTick_dev_bounds s
  · omega

theorem tick_pending (s : State) : (tick s).pending = s.pending := by
  obtain ⟨⟨pending, -⟩, -⟩ := tick_keeps s
  exact pending

/-- Settles O2: the step is a tick, and of a tick only the tick of the timebase moves device time. -/
theorem emptyQueuePassesOneTick : Obligations.EmptyQueuePassesOneTick := by
  intro s hq
  refine ⟨tick s, step_of_empty hq, (tick_pending s).trans hq, fun stands => ?_, fun runs meets still => ?_, fun _ => tick_dev_bounds s⟩
  · rw [tick_dev]
    rcases stands with stopped | missed
    · simp [stopped]
    · simp [missed]
  · rw [tick_dev]
    simp [runs, meets, devTick_dev_of_noSlew still]

/-! ### Commands that keep device time and mode -/

/-- Device time has not fallen, and the core mode is as it was. -/
def ClockOn (s t : State) : Prop := s.time.dev ≤ t.time.dev ∧ t.dev.split = s.dev.split

theorem ClockOn.refl (s : State) : ClockOn s s := ⟨le_rfl, rfl⟩

theorem ClockOn.trans {s t u : State} (h : ClockOn s t) (g : ClockOn t u) : ClockOn s u :=
  ⟨h.1.trans g.1, g.2.trans h.2⟩

theorem ClockOn.of_eq {s t : State} (time : t.time.dev = s.time.dev) (mode : t.dev.split = s.dev.split) : ClockOn s t :=
  ⟨time.ge, mode⟩

theorem Keeps.clockOn {s t : State} (h : Keeps s t) : ClockOn s t := by
  obtain ⟨-, -, -, time, mode, -⟩ := h
  exact .of_eq time mode

theorem CallKeeps.clockOn {s t : State} (h : CallKeeps s t) : ClockOn s t := by
  obtain ⟨-, -, time, mode⟩ := h
  exact .of_eq time mode

theorem tick_clockOn (s : State) : ClockOn s (tick s) := by
  obtain ⟨-, -, -, mode⟩ := tick_keeps s
  exact ⟨(tick_dev_bounds s).1, mode⟩

theorem OutKeeps.clockOn {s : State} {o : Out} (h : OutKeeps s o) : OutAll (ClockOn s) o := by
  cases o with
  | next t => exact Keeps.clockOn h
  | fault => trivial
  | refused => trivial

/-! ### Corrections of device time (R43, R514, R524) -/

/-- A correction steps device time forward or leaves it to the ticks. -/
theorem ClockOn.correctTime {s u : State} (h : ClockOn s u) (off : Int) : ClockOn s (correctTime off u) := by
  obtain ⟨-, -, -, mode, -⟩ := correctTime_keeps off u
  refine h.trans ⟨?_, mode⟩
  unfold Machine.correctTime
  split
  · simp [stepTime, id shiftTimes_keeps]
  · exact le_rfl

theorem takeTime_clockOn (port : RingPort) (f : RingFrame) (s : State) : ClockOn s (takeTime port f s) := by
  unfold takeTime
  refine ClockOn.correctTime ?_ _
  exact .of_eq rfl rfl

/-- Of the frames that are acted on, only TIME touches device time. -/
theorem actFrame_clockOn (port : RingPort) (f : RingFrame) (s : State) : ClockOn s (actFrame port f s) := by
  unfold actFrame
  dsimp only
  split
  · split
    · exact takeTime_clockOn port f s
    · exact .refl s
  · exact Keeps.clockOn (takeFault_keeps ..)
  · split
    · exact Keeps.clockOn (takeSum_keeps ..)
    · exact .refl s
  · exact Keeps.clockOn (takeVexfi_keeps ..)
  · exact .refl s

theorem hearFrame_clockOn (port : RingPort) (f : RingFrame) (s : State) : ClockOn s (hearFrame port f s) := by
  have heard := fun d r => Keeps.clockOn (modRem_keeps d r s)
  unfold hearFrame
  dsimp only
  split_ifs
  · exact (heard ..).trans (Keeps.clockOn (takeLocal_keeps ..))
  · exact ((heard ..).trans (Keeps.clockOn (modRem_keeps ..))).trans (actFrame_clockOn ..)
  · exact heard ..

theorem ringFrame_clockOn (port : RingPort) (f : RingFrame) (s : State) : ClockOn s (ringFrame port f s) := by
  unfold ringFrame
  dsimp only
  generalize hu : modRing port _ s = u
  generalize hv : (if (f.src.toNat == deviceIndex s || decide (5 ≤ f.typ.toNat)) = true then u else passOn port f u) = v
  have counted : ClockOn s u := hu ▸ Keeps.clockOn (modRing_keeps ..)
  have passed : ClockOn s v := by
    rw [← hv]
    split
    · exact counted
    · exact counted.trans (Keeps.clockOn (passOn_keeps ..))
  split_ifs
  · exact passed
  · exact passed
  · exact passed.trans (Keeps.clockOn (indexConflict_keeps ..))
  · exact (passed.trans (hearFrame_clockOn ..)).trans (Keeps.clockOn (cascadeHold_keeps ..))

/-! ### Every command but start-up -/

theorem execUpdActivate_clockOn (h : Hdr) (timing : Byte) (s : State) : OutAll (ClockOn s) (execUpdActivate h timing s) := by
  simp [execUpdActivate, ClockOn, id opUpdActivate_keeps]

theorem execOwnerSlotFuse_clockOn (h : Hdr) (signer target : Byte) (hash : Digest) (sig : Rsa) (s : State) :
    OutAll (ClockOn s) (execOwnerSlotFuse h signer target hash sig s) := by
  simp [execOwnerSlotFuse, ClockOn, id opOwnerFuse_keeps]

theorem execOwnerSlotRevoke_clockOn (h : Hdr) (signer target : Byte) (hash : Digest) (sig : Rsa) (s : State) :
    OutAll (ClockOn s) (execOwnerSlotRevoke h signer target hash sig s) := by
  simp [execOwnerSlotRevoke, ClockOn, id opOwnerRevoke_keeps]

theorem execStandbyEnter_clockOn (h : Hdr) (depth timing wake : Byte) (s : State) :
    OutAll (ClockOn s) (execStandbyEnter h depth timing wake s) := by
  simp [execStandbyEnter, ClockOn, id opStandbyEnter_keeps]

theorem execRestart_clockOn (vio : Bool) (second : Byte) (s : State) : OutAll (ClockOn s) (execRestart vio second s) := by
  unfold execRestart
  split_ifs <;> simp [ClockOn, id enterBoot_keeps]

theorem execKl15Rise_clockOn (s : State) : OutAll (ClockOn s) (execKl15Rise s) := by
  simp [execKl15Rise, ClockOn, id kl15Edge_keeps]

theorem execKl15KeepHigh_clockOn (pin : WakePin) (edge : Bool) (s : State) : OutAll (ClockOn s) (execKl15KeepHigh pin edge s) := by
  unfold execKl15KeepHigh
  cases pin <;> dsimp only <;> split_ifs <;> simp [ClockOn, id kl15Edge_keeps, id abandonStandby_keeps]

theorem execKl15KeepLowCount_clockOn (ticks : Nat) (s : State) : OutAll (ClockOn s) (execKl15KeepLowCount ticks s) := by
  unfold execKl15KeepLowCount
  dsimp only
  repeat' split
  all_goals simp [ClockOn, id standbyHalted_keeps, id standbyAdvance_keeps, id standbyBegin_keeps]

theorem execStandbyEntryResume_clockOn (s : State) : OutAll (ClockOn s) (execStandbyEntryResume s) := by
  simp [execStandbyEntryResume, ClockOn, id standbyAdvance_keeps]

theorem execFreezeTake_clockOn (forced : Byte) (s : State) : OutAll (ClockOn s) (execFreezeTake forced s) := by
  unfold execFreezeTake
  split_ifs <;> simp [ClockOn, id takeFreeze_keeps]

theorem execKl30LossConfirmed_clockOn (ticks : Nat) (s : State) : OutAll (ClockOn s) (execKl30LossConfirmed ticks s) := by
  unfold execKl30LossConfirmed
  dsimp only
  split_ifs <;> simp [ClockOn, id powerDown_keeps, id raiseFault_keeps, id commandCtd_keeps]

theorem execKl30Return_clockOn (mv us : Nat) (s : State) : OutAll (ClockOn s) (execKl30Return mv us s) := by
  unfold execKl30Return
  dsimp only
  split_ifs <;> simp [ClockOn, id enterBoot_keeps, id note_keeps]

theorem execHoldupEnd_clockOn (us : Nat) (s : State) : OutAll (ClockOn s) (execHoldupEnd us s) := by
  unfold execHoldupEnd
  split_ifs <;> simp [ClockOn, id goOff_keeps, id powerDown_keeps]

theorem execKl30Apply_clockOn (high : Bool) (s : State) : OutAll (ClockOn s) (execKl30Apply high s) := by
  unfold execKl30Apply
  dsimp only
  split_ifs <;> simp [ClockOn, id enterBoot_keeps]

theorem execRtcAlarm_clockOn (s : State) : OutAll (ClockOn s) (execRtcAlarm s) := by
  unfold execRtcAlarm
  split_ifs <;> simp [ClockOn, id enterBoot_keeps]

theorem execCanWake_clockOn (ev : CanWakeEv) (s : State) : OutAll (ClockOn s) (execCanWake ev s) := by
  unfold execCanWake
  split_ifs <;> simp [ClockOn, id enterBoot_keeps, id returnD5_keeps]

theorem execSupplyLowReset_clockOn (sup : Supply) (mv us : Nat) (s : State) : OutAll (ClockOn s) (execSupplyLowReset sup mv us s) := by
  unfold execSupplyLowReset
  dsimp only
  split_ifs <;> simp [ClockOn, id enterBoot_keeps]

theorem execGptpSync_clockOn (offset : Int) (s : State) : OutAll (ClockOn s) (execGptpSync offset s) := by
  unfold execGptpSync
  dsimp only
  split_ifs
  · exact .refl s
  · refine (outAll_next ..).mpr (ClockOn.correctTime ?_ offset)
    exact .of_eq rfl rfl
  · exact .refl s

theorem execRingFrameReceive_clockOn (port : RingPort) (f : RingFrame) (s : State) :
    OutAll (ClockOn s) (execRingFrameReceive port f s) := by
  unfold execRingFrameReceive
  split_ifs
  · exact ringFrame_clockOn port f s
  · exact .refl s

theorem execHandoverTakeover_clockOn (inj : Nat) (clean : Bool) (s : State) : OutAll (ClockOn s) (execHandoverTakeover inj clean s) := by
  unfold execHandoverTakeover
  repeat' split
  all_goals simp [ClockOn, id takeover_keeps]

/-- Of the commands that may move the device, a time correction sets device time forward and the others keep it. None but start-up
changes the mode. -/
theorem exec_clockOn_of_moves {c : Instr} (hm : movesDevice c = true) (hb : ∀ o, c ≠ .bootEntry o) (s : State) :
    OutAll (ClockOn s) (exec c s) := by
  cases c with
  | bootEntry o => exact absurd rfl (hb o)
  | updActivate h timing => exact execUpdActivate_clockOn h timing s
  | ownerSlotFuse h signer target hash sig => exact execOwnerSlotFuse_clockOn h signer target hash sig s
  | ownerSlotRevoke h signer target hash sig => exact execOwnerSlotRevoke_clockOn h signer target hash sig s
  | standbyEnter h depth timing wake => exact execStandbyEnter_clockOn h depth timing wake s
  | restart vio second => exact execRestart_clockOn vio second s
  | kl15Rise => exact execKl15Rise_clockOn s
  | kl15KeepHigh pin edge => exact execKl15KeepHigh_clockOn pin edge s
  | kl15KeepLowCount ticks => exact execKl15KeepLowCount_clockOn ticks s
  | standbyEntryResume => exact execStandbyEntryResume_clockOn s
  | freezeTake forced => exact execFreezeTake_clockOn forced s
  | kl30LossConfirmed ticks => exact execKl30LossConfirmed_clockOn ticks s
  | kl30Return mv us => exact execKl30Return_clockOn mv us s
  | holdupEnd us => exact execHoldupEnd_clockOn us s
  | kl30Apply high => exact execKl30Apply_clockOn high s
  | rtcAlarm => exact execRtcAlarm_clockOn s
  | canWake ev => exact execCanWake_clockOn ev s
  | supplyLowReset sup mv us => exact execSupplyLowReset_clockOn sup mv us s
  | dispatch => exact (execDispatch_callKeeps s).mono fun _ => CallKeeps.clockOn
  | gptpSync offset => exact execGptpSync_clockOn offset s
  | ringFrameReceive port f => exact execRingFrameReceive_clockOn port f s
  | handoverTakeover inj clean => exact execHandoverTakeover_clockOn inj clean s
  | _ => cases hm

/-- Every command but start-up keeps the mode and sets device time forward at most. -/
theorem exec_clockOn {c : Instr} (hb : ∀ o, c ≠ .bootEntry o) (s : State) : OutAll (ClockOn s) (exec c s) := by
  cases hm : movesDevice c with
  | false => exact (exec_keeps hm s).clockOn
  | true => exact exec_clockOn_of_moves hm hb s

/-! ### Start-up (R40 to R42, R46) -/

/-- From OFF device time starts at 0; otherwise it is extrapolated, that is set forward (R40, R41). -/
theorem bootTime_dev (s : State) :
    s.time.dev ≤ (bootTime s).time.dev ∨ (s.dev.fromOff = true ∧ (bootTime s).time.dev = 0) := by
  unfold bootTime
  dsimp only
  split
  next off => exact Or.inr ⟨off, rfl⟩
  next => exact Or.inl (by simp only; omega)

theorem execBootEntry_dev (o : BootObs) (s : State) :
    OutAll (fun t => s.time.dev ≤ t.time.dev ∨ (s.dev.fromOff = true ∧ t.time.dev = 0)) (execBootEntry o s) := by
  have start := bootTime_dev (flushBuffer s)
  have flushed : (flushBuffer s).time.dev = s.time.dev ∧ (flushBuffer s).dev.fromOff = s.dev.fromOff := by
    simp [id flushBuffer_same]
  rw [flushed.1, flushed.2] at start
  unfold execBootEntry
  split
  · trivial
  · split
    · simpa [id bootSteps_keeps, id bootDomains_keeps, id bootClocks_keeps, id bootStraps_keeps, id bootUnits_keeps] using start
    · exact Or.inl le_rfl

/-- Outside BOOT there is nothing to start up. -/
theorem execBootEntry_of_not_boot {s : State} (h : s.dev.ph ≠ .boot) (o : BootObs) : OutAll (ClockOn s) (execBootEntry o s) := by
  unfold execBootEntry
  split
  · trivial
  · split
    next boot _ => exact absurd boot h
    next => exact .refl s

theorem bootMode_split (s : State) : (bootMode s).dev.split = (!s.dev.coreStrap && par s 0x1000 == 1) := by
  unfold bootMode
  dsimp only
  split <;> simp [id note_keeps, Bool.and_comm]

/-! ### The obligations -/

/-- Settles O4: a start-up from OFF sets device time to 0, and every other step sets it forward at most. -/
theorem deviceTimeNeverDecreases : Obligations.DeviceTimeNeverDecreases := by
  intro s t h
  rcases step_cases h with ⟨c, rest, hq, he⟩ | ⟨-, rfl⟩
  · by_cases hc : ∃ o, c = .bootEntry o
    · obtain ⟨o, rfl⟩ := hc
      rcases (execBootEntry_dev o _).next he with up | ⟨off, zero⟩
      · exact Or.inl up
      · exact Or.inr ⟨off, zero, o, rest, hq⟩
    · obtain ⟨up, -⟩ := (exec_clockOn (not_exists.mp hc) _).next he
      exact Or.inl up
  · exact Or.inl (tick_dev_bounds s).1

/-- Settles O5: the mode is set by `bootMode` in a start-up that runs, and kept by every other step. -/
theorem coreModeIsSetInBoot : Obligations.CoreModeIsSetInBoot := by
  refine ⟨bootMode_split, fun s t h hb => ?_⟩
  rcases step_cases h with ⟨c, rest, hq, he⟩ | ⟨-, rfl⟩
  · by_cases hc : ∃ o, c = .bootEntry o
    · obtain ⟨o, rfl⟩ := hc
      have idle : s.dev.ph ≠ .boot := hb.resolve_right fun none => none o rest hq
      exact ((execBootEntry_of_not_boot (s := { s with pending := rest }) idle o).next he).2
    · exact ((exec_clockOn (not_exists.mp hc) _).next he).2
  · exact (tick_clockOn s).2

end Sys2Proof.Machine
end

section
/-! The order of the commands of one tick (R36): a list laid out key by key, and the queue as such a list. -/

namespace Sys2Proof.Machine

/-! ### A list laid out key by key -/

section
variable {α : Type} (f : α → Nat) (n : Nat) (l : List α)

/-- The members with key 0, then those with key 1, up to key `n - 1`, each group in the order of the list. -/
def byKey : List α := (List.range n).flatMap (fun k => l.filter (fun a => f a == k))

theorem byKey_succ : byKey f (n + 1) l = byKey f n l ++ l.filter (fun a => f a == n) := by
  simp [byKey, List.range_succ]

theorem mem_byKey {a : α} : a ∈ byKey f n l ↔ a ∈ l ∧ f a < n := by
  simp [byKey, and_comm]

/-- Members whose keys lie below the bound are neither lost nor added. -/
theorem byKey_perm : (byKey f n l).Perm (l.filter (fun a => decide (f a < n))) := by
  induction n with
  | zero => simp [byKey]
  | succ n ih =>
    have below : (l.filter (fun a => decide (f a < n + 1))).filter (fun a => decide (f a < n)) = l.filter (fun a => decide (f a < n)) := by
      rw [List.filter_filter]
      exact List.filter_congr fun a _ => by grind
    have last : (l.filter (fun a => decide (f a < n + 1))).filter (fun a => !decide (f a < n)) = l.filter (fun a => f a == n) := by
      rw [List.filter_filter]
      exact List.filter_congr fun a _ => by grind
    have parts := List.filter_append_perm (fun a => decide (f a < n)) (l.filter (fun a => decide (f a < n + 1)))
    rw [below, last] at parts
    rw [byKey_succ]
    exact (ih.append_right _).trans parts

/-- The keys rise along the list. -/
theorem byKey_pairwise : (byKey f n l).Pairwise (fun a b => f a ≤ f b) := by
  induction n with
  | zero => simp [byKey]
  | succ n ih =>
    rw [byKey_succ, List.pairwise_append]
    refine ⟨ih, List.pairwise_of_forall_mem_list fun a ha b hb => ?_, fun a ha b hb => ?_⟩
    · simp only [List.mem_filter, beq_iff_eq] at ha hb
      omega
    · simp only [mem_byKey, List.mem_filter, beq_iff_eq] at ha hb
      omega

/-- Members of one key keep their order. -/
theorem byKey_filter {k : Nat} (h : k < n) : (byKey f n l).filter (fun a => f a == k) = l.filter (fun a => f a == k) := by
  induction n with
  | zero => omega
  | succ n ih =>
    rw [byKey_succ, List.filter_append, List.filter_filter]
    rcases Nat.lt_succ_iff_lt_or_eq.mp h with lt | rfl
    · have other : l.filter (fun a => f a == k && f a == n) = [] :=
        List.filter_eq_nil_iff.mpr fun a _ => by simp only [Bool.and_eq_true, beq_iff_eq]; omega
      rw [ih lt, other, List.append_nil]
    · have before : (byKey f k l).filter (fun a => f a == k) = [] :=
        List.filter_eq_nil_iff.mpr fun a ha => by simpa using ((mem_byKey f k l).mp ha).2.ne
      simp [before]

end

/-! ### The sources of R36 -/

theorem islandPlace_lt {c : Nat} (h : c < 52) : islandPlace c < 52 := by
  unfold islandPlace
  split <;> omega

theorem esnPlace_lt {source place : Nat} (hs : source < 10) (hp : place < 64) : esnPlace source place < 640 := by
  unfold esnPlace
  omega

/-- Every command has one of the 640 places: the number of a unit lies below how many of its kind there are, which is 52 at most. -/
theorem esnSource_lt (c : Instr) : esnSource c < 640 := by
  cases c <;> refine esnPlace_lt (by decide) ?_
  all_goals grind [islandPlace_lt]

theorem inTickOrder_perm (cs : List Instr) : (inTickOrder cs).Perm cs := by
  have all : cs.filter (fun c => decide (esnSource c < 640)) = cs := by simp [esnSource_lt]
  exact (byKey_perm esnSource 640 cs).trans (.of_eq all)

/-- Commands of one place keep the order in which they came. -/
theorem inTickOrder_filter (cs : List Instr) (k : Nat) :
    (inTickOrder cs).filter (fun c => esnSource c == k) = cs.filter (fun c => esnSource c == k) := by
  by_cases h : k < 640
  · exact byKey_filter esnSource 640 cs h
  · have nowhere : ∀ l : List Instr, l.filter (fun c => esnSource c == k) = [] := fun l =>
      List.filter_eq_nil_iff.mpr fun c _ => by
        have := esnSource_lt c
        simp only [beq_iff_eq]
        omega
    rw [nowhere, nowhere]

/-! ### What an event changes (R35, R39) -/

/-- The entry changes the recorder alone. -/
theorem pushEvent_recd (e : Entry) (s : State) : pushEvent e s = { s with recd := (pushEvent e s).recd } := by
  unfold pushEvent
  dsimp only
  split <;> rfl

theorem recordEvent_of_frozen {s : State} (h : s.dev.ph = .frozen) (code level : Nat) (src : U16) (data : List Byte) :
    recordEvent code level src data s = (s.time.esn, s) := by
  simp [recordEvent, recordAt, isFrozen, h]

/-- Outside FROZEN the allocator moves on by one and the recorder takes the event; nothing else changes. -/
theorem recordEvent_of_not_frozen {s : State} (h : s.dev.ph ≠ .frozen) (code level : Nat) (src : U16) (data : List Byte) :
    let r := recordEvent code level src data s
    r.1 = s.time.esn ∧ r.2 = { s with time := { s.time with esn := s.time.esn + 1 }, recd := r.2.recd } := by
  have hf : isFrozen s = false := by simpa [isFrozen] using h
  simp only [recordEvent, recordAt, allocEsn, hf, Bool.false_eq_true, if_false, true_and]
  rw [pushEvent_recd]
  rfl

/-- Settles O14: the queue takes the commands of a tick laid out by their place, and an event draws a number and fills the recorder. -/
theorem eventsAreNumberedInOrder : Obligations.EventsAreNumberedInOrder := by
  refine ⟨fun cs s => ⟨rfl, inTickOrder_perm cs, byKey_pairwise esnSource 640 cs, inTickOrder_filter cs⟩, fun code level src data s => ?_⟩
  refine ⟨fun h => by rw [recordEvent_of_frozen h], fun h => ?_⟩
  obtain ⟨number, rest⟩ := recordEvent_of_not_frozen h code level src data
  exact ⟨number, by rw [rest], recordEvent_recorded h code level src data, rest⟩

end Sys2Proof.Machine
end

section
/-! What a module as delivered holds (R39, R451, R540). -/

namespace Sys2Proof.Machine

/-- Settles O9: the queue, the recorder, the lock-outs and the parameters start as empty lists, and every session, context, owner slot
and bridge is a copy of the one reset value of its kind. -/
theorem resetIsEmpty : Obligations.ResetIsEmpty := by
  refine ⟨rfl, rfl, rfl, rfl, rfl, rfl, rfl, fun k hk => List.eq_of_mem_replicate hk, fun c hc => ?_, rfl, fun o ho => ?_, rfl,
    fun b hb => ?_⟩
  · rw [List.eq_of_mem_replicate hc]
    rfl
  · exact List.eq_of_mem_replicate ho
  · rw [List.eq_of_mem_replicate hb]
    rfl

end Sys2Proof.Machine
end

section
/-! What the pins KL15 and KEEP do (R63, R64), and how an entry to STANDBY goes on (R423, R424). -/

namespace Sys2Proof.Machine

/-! ### D5 comes back from its hold time (R412) -/

theorem returnD5_of_held {hold : Nat} {s : State} (held : s.pwr.d5Hold = some hold) (off : domOn s 5 = false)
    (idle : (domAt s 5).busy = false) : returnD5 s = changeDomain 5 0 0 s := by
  simp [returnD5, held, off, idle]

theorem returnD5_of_not_held {s : State} (h : s.pwr.d5Hold = none ∨ domOn s 5 = true ∨ (domAt s 5).busy = true) :
    returnD5 s = s := by
  rcases h with none | on | busy
  · simp [returnD5, none]
  · simp [returnD5, on]
  · simp [returnD5, busy]

@[simp] theorem returnD5_dev (s : State) : (returnD5 s).dev = s.dev := by
  simp [id returnD5_same]

/-- A request for "on" touches the domain alone, so the supply's marks stay. -/
@[simp] theorem returnD5_kl30Lost (s : State) : (returnD5 s).pwr.kl30Lost = s.pwr.kl30Lost := by
  unfold returnD5
  split
  · rfl
  · rfl

/-! ### A rising edge (R63, R102, R423) -/

theorem execKl15Rise_of_standby {s : State} (standby : s.dev.ph = .standby) (supplied : s.pwr.kl30Lost = false) :
    execKl15Rise s = .next (enterBoot (if s.dev.fromOff then .powerUpKl15 else .kl15)
      (returnD5 { s with pins := { s.pins with kl15 := true } })) := by
  simp [execKl15Rise, kl15Edge, standby, supplied]

theorem execKl15Rise_of_begun {s : State} (begun : s.dev.ph = .up ∨ s.dev.ph = .boot ∨ s.dev.ph = .calibrating) :
    execKl15Rise s = .next (abandonStandby (returnD5 { s with pins := { s.pins with kl15 := true } })) := by
  rcases begun with up | boot | cal
  · simp [execKl15Rise, kl15Edge, up]
  · simp [execKl15Rise, kl15Edge, boot]
  · simp [execKl15Rise, kl15Edge, cal]

theorem execKl15KeepHigh_keep_edge_of_up {s : State} (up : s.dev.ph = .up) :
    execKl15KeepHigh .keep true s = .next (abandonStandby { s with pins := { s.pins with keep := true } }) := by
  simp [execKl15KeepHigh, isUp, up]

/-! ### Both pins low (R64, R102, R428) -/

/-- Both pins read low. -/
def pinsLow (s : State) : State := { s with pins := { s.pins with kl15 := false, keep := false } }

theorem execKl15KeepLowCount_of_lt {ticks : Nat} (short : ticks < 16384) (s : State) :
    execKl15KeepLowCount ticks s = .next (pinsLow s) := by
  rw [execKl15KeepLowCount, if_pos short]
  rfl

theorem execKl15KeepLowCount_of_up {ticks : Nat} {s : State} (long : 16384 ≤ ticks) (up : s.dev.ph = .up) :
    execKl15KeepLowCount ticks s = .next (standbyAdvance (standbyBegin s.pwr.depthNext (pinsLow s))) := by
  simp [execKl15KeepLowCount, Nat.not_lt.mpr long, up, pinsLow]

theorem execKl15KeepLowCount_of_boot {ticks : Nat} {s : State} (long : 16384 ≤ ticks) (boot : s.dev.ph = .boot)
    (free : s.safety.held = false) (running : s.dev.halted = none) :
    execKl15KeepLowCount ticks s = .next { pinsLow s with pwr := { s.pwr with sbyPending := true } } := by
  simp [execKl15KeepLowCount, Nat.not_lt.mpr long, boot, free, running, pinsLow]

theorem execKl15KeepLowCount_of_halted {ticks : Nat} {s : State} (long : 16384 ≤ ticks)
    (starting : s.dev.ph = .boot ∧ s.safety.held = false ∨ s.dev.ph = .calibrating) (halted : s.dev.halted.isSome = true) :
    execKl15KeepLowCount ticks s = .next (standbyHalted s.pwr.depthNext (pinsLow s)) := by
  rcases starting with ⟨boot, free⟩ | cal
  · simp [execKl15KeepLowCount, Nat.not_lt.mpr long, boot, free, halted, pinsLow]
  · simp [execKl15KeepLowCount, Nat.not_lt.mpr long, cal, halted, pinsLow]

/-! ### An entry to STANDBY goes on (R424) -/

theorem sbyStep_of_entry {s : State} {e : SbyEntry} (h : s.pwr.sby = some e) : sbyStep s = e.step := by
  simp [sbyStep, h]

theorem standbySleep_of_discharged {s : State} {e : SbyEntry} (h : s.pwr.sby = some e)
    (done : s.lgs.any (fun g => g.dis.isSome) = false) : standbySleep s = powerDown e.listening s := by
  rw [standbySleep, if_neg (by simp [done]), h]

/-- An entry that has reached step 4 runs that step alone. -/
theorem standbyAdvance_of_four {s : State} (up : isUp s = true) (four : sbyStep s = 4) :
    standbyAdvance s = standbySleep s := by
  simp [standbyAdvance, up, four]

theorem execStandbyEntryResume_of_discharged {s : State} {e : SbyEntry} (up : isUp s = true) (h : s.pwr.sby = some e)
    (four : e.step = 4) (done : s.lgs.any (fun g => g.dis.isSome) = false) :
    execStandbyEntryResume s = .next (powerDown e.listening s) := by
  rw [execStandbyEntryResume, standbyAdvance_of_four up ((sbyStep_of_entry h).trans four), standbySleep_of_discharged h done]

theorem execStandbyWaitReport_of_turning {seconds : Nat} {s : State} (up : mainUp s = true) (two : sbyStep s = 2)
    (long : parN s 0xB003 ≤ seconds) (turning : (activeMachines s).filter (fun m => !belowFwSpeed s m) ≠ []) :
    execStandbyWaitReport seconds s = .next (note 0x0813 (srcDom 2)
      [BitVec.ofNat 8 ((((activeMachines s).filter (fun m => !belowFwSpeed s m)).map (fun m => 2 ^ m)).foldl (· + ·) 0)] s) := by
  rw [execStandbyWaitReport, if_pos]
  simp only [up, two, long, List.isEmpty_eq_false_iff.mpr turning, decide_true, beq_self_eq_true, Bool.not_false, Bool.and_self]

/-- Settles O37: an edge acts by the device's phase alone, which the return of D5 keeps, and so does the count of both pins low; an
entry at step 4 has nothing left but to power down. -/
theorem wakePinRowsAct : Obligations.WakePinRowsAct := by
  intro s
  refine ⟨execKl15Rise_of_standby, execKl15Rise_of_begun, fun _ => returnD5_of_held, returnD5_of_not_held, ⟨rfl, rfl, rfl⟩,
    execKl15KeepHigh_keep_edge_of_up, fun _ => ?low, fun _ => execStandbyEntryResume_of_discharged,
    fun _ => execStandbyWaitReport_of_turning⟩
  case low =>
    exact ⟨fun short => execKl15KeepLowCount_of_lt short s, execKl15KeepLowCount_of_up, execKl15KeepLowCount_of_boot,
      execKl15KeepLowCount_of_halted⟩

end Sys2Proof.Machine
end

section
/-! What DRV_EN (R65, R68), the clearance window (R371) and the freeze (R75, R565, R567) do. -/

namespace Sys2Proof.Machine

theorem execDrvEnFall_of_live {s : State} (live : isLive s = true) :
    let v := override RS_DRV_EN_LOW false ⟨.drvEn, 3, 0⟩ (List.range 8) (markFreeze 4 { s with pins := { s.pins with drvEn := false } })
    execDrvEnFall s = .next (forEach ([0, 1].filter (abortedWinding v)) raise0508 v) :=
  if_pos live

theorem execDrvEnRise_of_qualifying {lowTicks : Nat} {s : State} (up : isUp s = true) (long : 328 ≤ lowTicks) (obs : EdgeObs) :
    execDrvEnRise lowTicks obs s = .next (qualifyingEdge obs { s with pins := { s.pins with drvEn := true } }) :=
  if_pos (by simpa [isUp, long] using up)

theorem execFreezePinRise_of_up {s : State} (up : isUp s = true) :
    execFreezePinRise s = .next { s with recd := { s.recd with freezePin := true } } := by
  simp [execFreezePinRise, up]

theorem execFreezeTake_of_asked {s : State} (up : isUp s = true) (asked : s.recd.freezePin = true ∨ s.recd.freezeOpcode = true)
    (forced : Byte) : execFreezeTake forced s = .next (takeFreeze forced s) := by
  simp [execFreezeTake, up, asked]

/-- The last step of a freeze stops the clocks, whatever the steps before it left. -/
@[simp] theorem freezeStop_ph (s : State) : (freezeStop s).dev.ph = .frozen := rfl

@[simp] theorem takeFreeze_ph (forced : Byte) (s : State) : (takeFreeze forced s).dev.ph = .frozen := by
  simp only [takeFreeze, freezeStop_ph]

theorem execFreezeWatcherFastClear_of_slow {b : Fin 8} {m halfTicks : Nat} {s : State} (mach : bridgeMach s b = some m)
    (frozen : isFrozen s = true) (watched : s.recd.watcher.getD b false = true) (slow : halfTooLong s m halfTicks = true) :
    execFreezeWatcherFastClear b halfTicks s = .next (reselect b (modBridge b (fun br => { br with fast := false })
      { s with recd := { s.recd with watcher := s.recd.watcher.set b false } })) := by
  simp only [execFreezeWatcherFastClear, mach, frozen, watched, slow, Bool.and_self, if_true]

/-- Settles O38: each row acts as soon as its guard holds, and a freeze, however it was asked for, ends by stopping the device. -/
theorem enableAndFreezeRowsAct : Obligations.EnableAndFreezeRowsAct := by
  intro s
  refine ⟨fun live => ⟨_, rfl, execDrvEnFall_of_live live⟩, fun _ obs up long => execDrvEnRise_of_qualifying up long obs,
    fun _ => rfl, execFreezePinRise_of_up, fun forced up asked => ?freeze, fun _ _ _ => execFreezeWatcherFastClear_of_slow⟩
  case freeze => exact ⟨_, execFreezeTake_of_asked up asked forced, rfl, takeFreeze_ph forced s⟩

end Sys2Proof.Machine
end

section
/-! What a request leaves that passes the checks of Table 13.3 and is refused by a state rule, check 10 (R101, R108, R116). -/

namespace Sys2Proof.Machine

/-! ### A request that passes the checks -/

/-- The checks before check 7 let a request pass on to it with the contexts as they were. -/
theorem admitTail_of_admits {h : Hdr} {op : Nat} {p : List Byte} {s u : State} (passed : admits h op p s = (true, u)) :
    ∃ v, v.proto.ctx = s.proto.ctx ∧ admitTail h op p v = (true, u) := by
  unfold admits at passed
  split at passed
  next => simp at passed
  next =>
    split at passed
    next =>
      generalize copied : (if (sessAt s h.session.toNat).isSome then copyRef op p s else s) = v at passed
      have proto : v.proto = s.proto := by
        rw [← copied]
        split
        · exact copyRef_proto op p s
        · rfl
      unfold admitSeq at passed
      split at passed
      next =>
        split at passed
        next => exact ⟨_, by simp [proto], passed⟩
        next => simp at passed
      next => simp at passed
    next =>
      split at passed
      next => exact ⟨s, rfl, passed⟩
      next => simp at passed

/-- A request that passes the checks occupies a context of its own: SHORT, not muted, with the request in it. -/
theorem context_of_admits {h : Hdr} {op : Nat} {p : List Byte} {s u : State} (w : WellBuilt s)
    (passed : admits h op p s = (true, u)) :
    h.tag.toNat < u.proto.ctx.length ∧ (ctxAt u h.tag.toNat).st = .short ∧ (ctxAt u h.tag.toNat).hdr = h ∧
      (ctxAt u h.tag.toNat).mute = false := by
  obtain ⟨v, ctx, tail⟩ := admitTail_of_admits passed
  have ctxCount : v.proto.ctx.length = 128 := by rw [ctx, w.ctx]
  obtain ⟨tag, st, hdr, mute, -⟩ := admitTail_context ctxCount tail
  have result : (admitTail h op p v).2 = u := by rw [tail]
  have keeps : u.proto.ctx.length = v.proto.ctx.length := by simp [← result, id admitTail_keeps]
  exact ⟨by omega, st, hdr, mute⟩

/-- Ending the request at once, whatever state it met, replies and changes nothing else. -/
theorem finish_of_admits {h : Hdr} {op : Nat} {p : List Byte} {s u : State} (w : WellBuilt s)
    (passed : admits h op p s = (true, u)) (status : U16) (d : List Byte) :
    Replies h status d (finish h.tag.toNat status d u) ∧ OnlyReply h.tag.toNat u (finish h.tag.toNat status d u) := by
  obtain ⟨tag, st, hdr, mute⟩ := context_of_admits w passed
  have done := finish_done (status := status) (data := d) tag (.inl st) mute
  rw [hdr] at done
  exact ⟨done, finish_onlyReply tag status d⟩

/-! ### Check 10 -/

/-- A state rule that refuses an opcode ends its command; the opcode's own meaning does not begin. -/
theorem gated_of_refused {op : Nat} {b : Bool} {s : State} {status : U16} {d : List Byte}
    (refused : stateRefusal op b s = some (status, d)) (t : Nat) (f : State → State) :
    gated op b t f s = finish t status d s := by
  simp only [gated, refused]

/-- A request that is dispatched at once meets the state rules. -/
theorem serve_of_dispatched {h : Hdr} {op : Nat} {p : List Byte} {s u : State} (received : receives s h.port = true)
    (passed : admits h op p s = (true, u)) (dispatched : dispatches u = true) (first : nothingAhead h u = true) (b : Bool)
    (f : Nat → State → State) : serve h op p b f s = gated op b h.tag.toNat (f h.tag.toNat) u := by
  simp [serve, received, passed, dispatched, first]

/-- A request row whose state rule refuses it answers that refusal, whatever the opcode means, and does nothing else. -/
theorem serve_of_refused {h : Hdr} {op : Nat} {p : List Byte} {b : Bool} {s u : State} {status : U16} {d : List Byte}
    (w : WellBuilt s) (received : receives s h.port = true) (passed : admits h op p s = (true, u))
    (dispatched : dispatches u = true) (first : nothingAhead h u = true) (refused : stateRefusal op b u = some (status, d))
    (f : Nat → State → State) :
    Replies h status d (serve h op p b f s) ∧ OnlyReply h.tag.toNat u (serve h op p b f s) := by
  rw [serve_of_dispatched received passed dispatched first, gated_of_refused refused]
  exact finish_of_admits w passed status d

/-- Settles O23: each of the three rows is a request that is served, and being refused does not depend on what it asks for. -/
theorem stateRulesRefuseRequests : Obligations.StateRulesRefuseRequests := by
  intro h s u status d w received dispatched first
  refine ⟨fun p passed refused => ?reset, fun m passed refused => ?arm, fun a m v passed refused => ?regWrite⟩
  case reset => exact ⟨_, rfl, serve_of_refused w received passed dispatched first refused _⟩
  case arm => exact ⟨_, rfl, serve_of_refused w received passed dispatched first refused _⟩
  case regWrite => exact ⟨_, rfl, serve_of_refused w received passed dispatched first refused _⟩

end Sys2Proof.Machine
end

section
/-! What the breaches that an island sees latch, and what its gate does then (R133, R141, R145, R150 to R158, R160). -/

namespace Sys2Proof.Machine

/-! ### Desaturation (R150, R155) -/

section
variable {ch : ChanIx} {senseMv sinceOnNs heldNs : Nat} {s : State}
variable (acts : islandActs s ch = true) (on : (chanAt s ch).cmd = true) (breach : 100 * sideGate s ch 0 1 < senseMv)
variable (held : 120 ≤ heldNs) (blanked : 50 * sideGate s ch 2 3 + 120 ≤ sinceOnNs) (now : IslandNow)
include acts on breach held blanked

theorem execDesaturation_alone :
    execDesaturation ch senseMv sinceOnNs heldNs false now s =
      .next (latchOff (chanCode ch 0x0101 0x0102 0x0112) true senseMv now.gateMv ch (seeIsland now ch s)) := by
  rw [execDesaturation, if_pos (by simp [acts, on, breach, held, blanked])]
  rfl

/-- Both latches are set before either acts; they act in the order of their numbers. -/
theorem execDesaturation_with_gate_breach :
    let v := seeIsland now ch s
    let a := setLatch (chanCode ch 0x0101 0x0102 0x0112) (latchDetail v ch senseMv now.gateMv) ch (gateDown true ch v)
    let b := setLatch (chanCode ch 0x0105 0x0105 0x0113) (latchDetail a.2 ch senseMv now.gateMv) ch a.2
    execDesaturation ch senseMv sinceOnNs heldNs true now s =
      .next (actLatch (chanCode ch 0x0105 0x0105 0x0113) ch b.1 (actLatch (chanCode ch 0x0101 0x0102 0x0112) ch a.1 b.2)) := by
  rw [execDesaturation, if_pos (by simp [acts, on, breach, held, blanked])]
  rfl

end

/-! ### Soft turn-off and the gate monitor (R151, R154) -/

theorem execSoftTurnoffEnd_of_ended {ch : ChanIx} {gateMv : Int} {ns : Nat} {s : State} (soft : (chanAt s ch).gate = .softOff)
    (ended : gateMv < offLevel s ch + 2000 ∨ 10000 ≤ ns) :
    execSoftTurnoffEnd ch gateMv ns s = .next (modChan ch (fun x => { x with
      gate := if gateMv < offLevel s ch + 2000 then .off else .falling, gateAt := s.time.dev, clamp := true }) s) := by
  rw [execSoftTurnoffEnd, if_pos (by simpa [soft] using ended)]
  simp only [decide_eq_true_eq]

/-- A gate commanded on that has not risen within its window. -/
theorem execGateMonitorBreach_of_on {ch : ChanIx} {sinceNs heldNs : Nat} {now : IslandNow} {s : State}
    (acts : islandActs s ch = true) (held : 120 ≤ heldNs) (on : (chanAt s ch).cmd = true)
    (low : now.gateMv < onLevel (seeIsland now ch s) ch - 2000) (late : 50 * (chanGate s ch 6).toNat < sinceNs) :
    execGateMonitorBreach ch true sinceNs heldNs now s = .next (latchOff (chanCode ch 0x0105 0x0105 0x0113)
      ((chanAt s ch).gate == .softOff) 0 now.gateMv ch (seeIsland now ch s)) :=
  if_pos (by simp [acts, on, low, late, held])

/-- A gate commanded off that has not fallen within its window, which two-level turn-off makes longer. -/
theorem execGateMonitorBreach_of_off {ch : ChanIx} {sinceNs heldNs : Nat} {now : IslandNow} {s : State}
    (acts : islandActs s ch = true) (held : 120 ≤ heldNs) (off : (chanAt s ch).cmd = false)
    (high : offLevel (seeIsland now ch s) ch + 2000 < now.gateMv)
    (late : 50 * (chanGate s ch 6).toNat + (if chanGate s ch 4 = 0 then 0 else 50 * (chanGate s ch 5).toNat) < sinceNs) :
    execGateMonitorBreach ch false sinceNs heldNs now s = .next (latchOff (chanCode ch 0x0105 0x0105 0x0113)
      ((chanAt s ch).gate == .softOff) 0 now.gateMv ch (seeIsland now ch s)) :=
  if_pos (by simp [acts, off, high, late, held])

/-! ### Bias and bootstrap (R133, R141, R145) -/

/-- The gate is held off whether the island acts or not; the latch is an island's that acts. -/
theorem execVbpUndervoltage_of_low {ch : ChanIx} {mv : Int} {ns : Nat} {s : State} (side : chanHigh ch = false)
    (ok : (chanAt s ch).uvloOk = true) (low : mv < 12000) (long : 1000 ≤ ns) :
    let v := gateDown false ch (modChan ch (fun x => { x with uvloOk := false, vbp := mv }) s)
    execVbpUndervoltage ch mv ns s =
      if islandActs v ch then .next (latchOff (chanCode ch 0x0103 0x0103 0x0114) false 0 0 ch v) else .next v :=
  if_pos (by simp [side, ok, low, long])

theorem execVbnOutOfRange_of_high {ch : ChanIx} {mv : Int} {ns : Nat} {s : State} (side : chanHigh ch = false)
    (acts : islandActs s ch = true) (high : -1500 < mv) (long : 1000 ≤ ns) :
    execVbnOutOfRange ch mv ns s =
      .next (latchOff (chanCode ch 0x0108 0x0108 0x0116) false 0 0 ch (modChan ch (fun x => { x with vbn := mv }) s)) :=
  if_pos (by simp [side, acts, high, long])

theorem execVbsUv_of_low {leg : Fin 24} {mv : Int} {ns : Nat} {s : State} (acts : islandActs s (highChan leg) = true)
    (operating : (chanAt s (highChan leg)).operating = true) (low : mv ≤ 13000) (long : 1000 ≤ ns) :
    execVbsUv leg mv ns s =
      .next (latchOff 0x0104 true 0 0 (highChan leg) (modChan (highChan leg) (fun x => { x with vbs := mv }) s)) :=
  if_pos (by simp [acts, operating, low, long])

theorem execBowFailure_of_weak {leg : Fin 24} {ua : Nat} {vbsMv : Int} {ms : Nat} {s : State}
    (acts : islandActs s (lowChan leg) = true) (ok : (chanAt s (lowChan leg)).uvloOk = true) (weak : ua < 1000)
    (low : vbsMv < 19000) (long : 10 ≤ ms) :
    let v := latchIsland 0x0109 [0, 0, vbsMv, (chanAt s (lowChan leg)).vbp] (lowChan leg) s
    execBowFailure leg ua vbsMv ms s = .next (if mainUp v then markCapoh (legBridge s leg)
      (modBridge (legBridge s leg) (fun br => { br with refreshForce := true, lowOnly := true }) v) else v) :=
  if_pos (by simp [acts, ok, weak, low, long])

/-! ### The overlap guard (R157, R158) -/

/-- A refusal of one island is its latch alone. -/
theorem refuseOn_false {c : Nat} {s : State} (acts : islandActs s c = true) :
    refuseOn false c s = latchOff 0x0106 false 0 0 c s := by
  simp [refuseOn, forEach, acts]

/-- A refusal that has not been told within the last 20 ticks is told, to both islands where both were commanded. -/
theorem execIslandOverlapRefusal_of_met {ch : ChanIx} {kind : OverlapKind} {s : State} (leg : ch.val < 48)
    (acts : islandActs s ch = true) (met : overlapMet s ch kind = true)
    (untold : (chanAt s ch).refused.any (fun t => decide (s.time.dev < t + 20)) = false) :
    execIslandOverlapRefusal ch kind s = .next (refuseOn (kind == .bothCommanded) ch s) :=
  if_neg (by simp [Nat.not_le.mpr leg, acts, met, untold])

theorem execIslandOverlapRefusal_of_one {ch : ChanIx} {kind : OverlapKind} {s : State} (leg : ch.val < 48)
    (acts : islandActs s ch = true) (met : overlapMet s ch kind = true)
    (untold : (chanAt s ch).refused.any (fun t => decide (s.time.dev < t + 20)) = false) (one : kind ≠ .bothCommanded) :
    execIslandOverlapRefusal ch kind s = .next (latchOff 0x0106 false 0 0 ch s) := by
  rw [execIslandOverlapRefusal_of_met leg acts met untold, beq_false_of_ne one, refuseOn_false acts]

theorem execIslandOverlapRefusal_of_both {ch : ChanIx} {kind : OverlapKind} {s : State} (leg : ch.val < 48)
    (acts : islandActs s ch = true) (met : overlapMet s ch kind = true)
    (untold : (chanAt s ch).refused.any (fun t => decide (s.time.dev < t + 20)) = false) (both : kind = .bothCommanded) :
    execIslandOverlapRefusal ch kind s = .next (forEach [highChan (ch.val / 2), lowChan (ch.val / 2)]
      (fun i s => if islandActs s i then latchOff 0x0106 false 0 0 i s else s) s) := by
  rw [execIslandOverlapRefusal_of_met leg acts met untold, both]
  rfl

/-! ### Auxiliary channels (R160) -/

theorem execAuxFaultLatch_of_code {aux : Fin 4} {code : U16} {s : State}
    (known : [0x0112, 0x0113, 0x0114, 0x0116, 0x0117].contains code.toNat = true)
    (acts : islandActs s (48 + aux.val) = true) (now : IslandNow) :
    execAuxFaultLatch aux code now s =
      .next (latchOff code.toNat (code == 0x0112) 0 now.gateMv (48 + aux.val) (seeIsland now (48 + aux.val) s)) := by
  rw [execAuxFaultLatch, if_pos (by rw [known, acts]; rfl)]

/-- Settles O43, row by row: what a row asks for is the guard of its branch. -/
theorem islandLatchRowsAct : Obligations.IslandLatchRowsAct := by
  intro s
  refine ⟨fun _ _ _ _ now acts on breach held blanked => ?desaturation, fun _ _ _ => execSoftTurnoffEnd_of_ended,
    fun _ _ _ side ok low long => ?undervoltage, fun _ _ _ => execVbnOutOfRange_of_high, fun _ _ _ => execVbsUv_of_low,
    fun _ _ _ _ acts ok weak low long _ => ⟨_, rfl, execBowFailure_of_weak acts ok weak low long⟩,
    fun _ _ _ _ acts held => ⟨execGateMonitorBreach_of_on acts held, execGateMonitorBreach_of_off acts held⟩,
    fun _ leg acts _ met untold => ⟨execIslandOverlapRefusal_of_one leg acts met untold,
      execIslandOverlapRefusal_of_both leg acts met untold⟩,
    fun _ _ now known acts => execAuxFaultLatch_of_code known acts now⟩
  case desaturation =>
    exact ⟨execDesaturation_alone acts on breach held blanked now, execDesaturation_with_gate_breach acts on breach held blanked now⟩
  case undervoltage =>
    have row := execVbpUndervoltage_of_low side ok low long
    exact ⟨fun acts => row.trans (if_pos acts), fun idle => row.trans (if_neg (by simp [idle]))⟩

end Sys2Proof.Machine
end

section
/-! What the supplies, loads and links of the islands do (R128, R133, R138, R140, R142, R143, R156, R158, R380). -/

namespace Sys2Proof.Machine

/-! ### Supplies that come back or warn (R133, R138, R142, R143) -/

theorem execVbpUvloRelease_of_high {ch : ChanIx} {mv : Int} {ns : Nat} {s : State} (side : chanHigh ch = false)
    (hold : (chanAt s ch).uvloOk = false) (high : 13000 < mv) (long : 1000 ≤ ns) :
    execVbpUvloRelease ch mv ns s = .next (modChan ch (fun x => { x with uvloOk := true, vbp := mv }) s) :=
  if_pos (by simp [side, hold, high, long])

section
variable {leg : Fin 24} {mv : Int} {ns : Nat} {s : State} (long : 1000 ≤ ns)
include long

theorem execVbsOk_of_high (start : (highOf s leg).operating = false) (high : 16500 ≤ mv) :
    execVbsOk leg mv ns s =
      .next (reselect (legBridge s leg) (modChan (highChan leg) (fun x => { x with operating := true, vbs := mv }) s)) :=
  if_pos (by simp [start, high, long])

theorem execVbsWarn_of_low (acts : islandActs s (highChan leg) = true) (operating : (chanAt s (highChan leg)).operating = true)
    (fresh : (chanAt s (highChan leg)).warn = false) (low : mv ≤ 15000) :
    execVbsWarn leg mv ns s =
      .next (reportIsland 0x0110 (highChan leg) (modChan (highChan leg) (fun x => { x with warn := true, vbs := mv }) s)) :=
  if_pos (by simp [acts, operating, fresh, low, long])

theorem execVbsWarnClear_of_high (warned : (highOf s leg).warn = true) (high : 16500 ≤ mv) :
    execVbsWarnClear leg mv ns s = .next (modChan (highChan leg) (fun x => { x with warn := false, vbs := mv }) s) :=
  if_pos (by simp [warned, high, long])

/-- The high island is in Start again; on an ARMED or RUNNING bridge the loss of its supply latches (Table 4.6). -/
theorem execHighIslandStartReturn_of_low (operating : (chanAt s (highChan leg)).operating = true) (low : mv < 8000) :
    let c := highChan leg
    let b := legBridge s leg
    let v := gateDown false c (modChan c (fun x => { x with operating := false, vbs := mv }) s)
    execHighIslandStartReturn leg mv ns s =
      if islandActs v c && (stOf v b == .armed || stOf v b == .running) && !latched (chanAt v c) 0x0104 then
        .next (latchOff 0x0104 false 0 0 c v)
      else .next (reselect b v) :=
  if_pos (by simp [operating, low, long])

end

/-! ### The Bow (R140) -/

section
variable {leg : Fin 24} {ua : Nat} {vbsMv : Int} {s : State} (main : mainUp s = true)
variable (acts : islandActs s (lowChan leg) = true) (high : 19500 < vbsMv)
include main acts high

theorem execBowMeasurement_of_light (light : ua ≤ 1800) :
    execBowMeasurement leg ua vbsMv false s =
      .next (markCapoh (legBridge s leg) (modChan (lowChan leg) (fun x => { x with bowLoad := false }) s)) := by
  rw [execBowMeasurement, if_pos (by simp [main, acts, high])]
  simp [Nat.not_lt.mpr light]

theorem execBowMeasurement_of_heavy (heavy : 1800 < ua) :
    execBowMeasurement leg ua vbsMv false s = .next (reportIsland 0x0115 (lowChan leg)
      (markCapoh (legBridge s leg) (modChan (lowChan leg) (fun x => { x with bowLoad := true }) s))) := by
  rw [execBowMeasurement, if_pos (by simp [main, acts, high])]
  simp [heavy]

end

/-! ### Lost links and handshakes (R128, R156, R158) -/

/-- The soundpost selects again for the bridge that channel `c` serves; an auxiliary island serves none. -/
def reselectServed (c : Nat) (s : State) : State :=
  match servedBridge s c with
  | some b => reselect b s
  | none => s

/-- A row that ends by selecting again for the bridge served. -/
theorem next_reselectServed (c : Nat) (s : State) :
    (match servedBridge s c with
      | some b => .next (reselect b s)
      | none => .next s : Out) = .next (reselectServed c s) := by
  unfold reselectServed
  cases servedBridge s c <;> rfl

/-- The bridge of a leg is read from the stores alone. -/
theorem legBridge_of_store {s t : State} (h : t.store = s.store) (l : Nat) : legBridge t l = legBridge s l := by
  unfold legBridge
  rw [h]

theorem legBridge_forgetUnread (s : State) (l : Nat) : legBridge (forgetUnread s) l = legBridge s l :=
  legBridge_of_store (by simp [id forgetUnread_same]) l

section
variable {ch : ChanIx} {carrierNs frames : Nat} {s : State} (powered : (chanAt s ch).powered = true)
variable (unparked : (chanAt s ch).parked = false)
include powered unparked

/-- The loss of an edge or data link means the same; a data link is lost also with its frames. -/
theorem execIslandLinkLoss_of_link {link : LinkKind} (own : link ≠ .coupler)
    (lost : 200 ≤ carrierNs ∨ link = .data ∧ 4 ≤ frames) (bias : Bool) :
    execIslandLinkLoss ch link carrierNs frames bias s = .next (reselectServed ch (forgetUnread
      (modChan ch (fun x => { x with present := false, uvloOk := x.uvloOk && bias, operating := x.operating && bias })
        (lossAt ch (modChan ch (fun x => { x with powered := bias }) s))))) := by
  have lost' : (decide (200 ≤ carrierNs) || (link == .data && decide (4 ≤ frames))) = true := by simpa using lost
  rw [execIslandLinkLoss, if_neg (by simp [powered, unparked, lost']), if_neg own]
  exact next_reselectServed _ _

/-- A lost coupler carrier acts on both channels of the leg (R158). -/
theorem execIslandLinkLoss_of_coupler (leg : ch.val < 48) (lost : 200 ≤ carrierNs) (bias : Bool) :
    let legs := [highChan (ch.val / 2), lowChan (ch.val / 2)]
    let v := forgetUnread (forEach legs lossAt (forEach legs (fun i => modChan i (fun x => { x with couplerLost := true })) s))
    execIslandLinkLoss ch .coupler carrierNs frames bias s = .next (reselect (legBridge v (ch.val / 2)) v) := by
  rw [execIslandLinkLoss, if_neg (by simp [powered, unparked, lost]), if_pos rfl, if_neg (Nat.not_le.mpr leg)]
  simp only [legBridge_forgetUnread]

end

/-- An island of a bridge that is fed is there again. -/
theorem execIslandLinkTrained_of_link {ch : ChanIx} {b : Nat} {s : State} (serves : servedBridge s ch = some b)
    (live : isLive s = true) (fed : domOn s (8 + b) = true) (absent : (chanAt s ch).present = false) {link : LinkKind}
    (own : link ≠ .coupler) :
    execIslandLinkTrained ch link s =
      .next (tellKept ch (modChan ch (fun x => { x with present := true, powered := true }) s)) := by
  simp [execIslandLinkTrained, own, serves, live, fed, absent]

theorem execIslandLinkTrained_of_coupler {ch : ChanIx} (leg : ch.val < 48) (s : State) :
    execIslandLinkTrained ch .coupler s = .next (forEach [highChan (ch.val / 2), lowChan (ch.val / 2)]
      (fun i s => tellKept i (modChan i (fun x => { x with couplerLost := false }) s)) s) := by
  rw [execIslandLinkTrained, if_pos rfl, if_neg (Nat.not_le.mpr leg)]

section
variable {ch : ChanIx} {ticks : Nat} {s : State} (served : isUp s = true ∨ s.dev.ph = .calibrating)
variable (present : (chanAt s ch).present = true) (sound : (chanAt s ch).handFail = false) (late : 40000 ≤ ticks)
include served present sound late

theorem execIslandHandshakeTimeout_of_first_two (few : (chanAt s ch).missed < 2) :
    execIslandHandshakeTimeout ch ticks s = .next
      (forgetUnread (modChan ch (fun x => { x with missed := (chanAt s ch).missed + 1, handFail := false }) s)) := by
  have below : ¬ 3 ≤ (chanAt s ch).missed + 1 := by omega
  rw [execIslandHandshakeTimeout, if_pos (by simpa [present, sound, late] using served)]
  simp only [below, decide_false, if_false]

theorem execIslandHandshakeTimeout_of_third (third : (chanAt s ch).missed = 2) :
    execIslandHandshakeTimeout ch ticks s = .next (reselectServed ch (note 0x0120 (srcChan ch) []
      (forgetUnread (modChan ch (fun x => { x with missed := 3, handFail := true }) s)))) := by
  rw [execIslandHandshakeTimeout, if_pos (by simpa [present, sound, late] using served)]
  simp only [third]
  exact next_reselectServed _ _

end

/-- Settles O44, row by row. -/
theorem islandConditionRowsAct : Obligations.IslandConditionRowsAct := by
  intro s
  refine ⟨fun _ _ _ => execVbpUvloRelease_of_high, fun _ _ _ long => ⟨execVbsOk_of_high long, execVbsWarn_of_low long,
      execVbsWarnClear_of_high long, fun operating low => ?start⟩,
    fun _ _ _ main acts high => ⟨execBowMeasurement_of_light main acts high, execBowMeasurement_of_heavy main acts high⟩,
    fun _ _ _ bias powered unparked => ⟨⟨fun lost => ?edge, fun lost => ?data⟩, fun leg lost => ?coupler⟩,
    fun _ _ serves live fed absent _ own => execIslandLinkTrained_of_link serves live fed absent own,
    fun _ there => if_pos there, fun _ leg => execIslandLinkTrained_of_coupler leg s,
    fun _ _ served present sound late => ⟨execIslandHandshakeTimeout_of_first_two served present sound late,
      fun third => ⟨_, rfl, execIslandHandshakeTimeout_of_third served present sound late third⟩⟩⟩
  case start =>
    have row := execHighIslandStartReturn_of_low long operating low
    exact ⟨fun trips => row.trans (if_pos trips), fun stays => row.trans (if_neg (by rw [stays]; decide))⟩
  case edge => exact execIslandLinkLoss_of_link powered unparked (by decide) (.inl lost) bias
  case data => exact execIslandLinkLoss_of_link powered unparked (by decide) (lost.imp_right (⟨rfl, ·⟩)) bias
  case coupler => exact execIslandLinkLoss_of_coupler powered unparked leg lost bias

end Sys2Proof.Machine
end

section
/-! What the rows of precharge, of the PWM timers and of the triggers do (R147, R149, R169 to R176, R184, R185, R252). -/

namespace Sys2Proof.Machine

/-! ### Precharge (R147, R149) -/

/-- One bridge of a precharge: its next zero-vector pulse where `allowed` and due, and no pulse again where it no longer is (R149). -/
def prechargeBridge (allowed : Bool) (b : Nat) (s : State) : State :=
  let br := bridgeAt s b
  if br.pulseOk && allowed && decide (br.pulses < bGate s b 0xF2) then
    if !br.active.indep || br.pulses != 0 && decide (s.time.dev < br.pulseAt + 400000) then s
    else zeroPulse b (modBridge b (fun br => { br with pulses := br.pulses + 1, pulseAt := s.time.dev }) s)
  else modBridge b (fun br => { br with pulseOk := false }) s

section
variable {m : Fin 8} {s : State} (up : isUp s = true) (charging : precharging s m = true)
include up charging

/-- Whether pulses are allowed is judged once, before the machine's bridges take theirs. -/
theorem execPrechargePulse_of_charging :
    execPrechargePulse m s = .next (forEach (machBridges s m) (prechargeBridge (pulsesAllowed s m)) s) :=
  if_pos (by rw [up, charging]; rfl)

theorem execPrechargeComplete_of_operating (operating : allOperating s m = true) :
    execPrechargeComplete m s = .next (endPrecharge m s) :=
  if_pos (by rw [up, charging, operating]; rfl)

theorem execPrechargeTimeout_of_late (waiting : allOperating s m = false)
    (late : (machAt s m).phStart + bGate s m 0xF1 * 400000 ≤ s.time.dev) :
    let v := finishMach m ST_TIMEOUT (detail RS_NONE (ixByte m) 0) (note 0x0111 (srcMach m) [] (toIdle m s))
    execPrechargeTimeout m s = .next (match windingGroup s m with
      | some g => raise0508 g v
      | none => v) := by
  rw [execPrechargeTimeout, if_pos (by simp [up, charging, late]), if_neg (by simp [waiting])]
  cases windingGroup s m <;> rfl

end

/-! ### Period boundaries (R170, R171, R252) -/

theorem execPeriodBoundary_of_due {b : Fin 8} {peak : Bool} {s : State} (timer : timerOn s b = true)
    (due : boundaryDue s b peak = true) : execPeriodBoundary b peak s = .next (periodBoundary b peak s) :=
  if_pos (by rw [timer, due]; rfl)

theorem execMissedUpdateLimit_of_fourth {b : Fin 8} {s : State} (timer : timerOn s b = true) (fourth : 4 ≤ (bridgeAt s b).miss)
    (running : stOf s b = .running) :
    execMissedUpdateLimit b s = .next (raiseFault 0x0203 b (srcBridge b) (.bridge b) [] s) :=
  if_pos (by simp [timer, fourth, running])

theorem execLockAndMatch_of_ready {m : Fin 8} {s : State} (up : isUp s = true) (start : isStart (machAt s m).ph = true)
    (ready : (machAt s m).ready = true) (armed : allIn s (machBridges s m) .armed = true)
    (before : (machAt s m).readyAt < s.time.dev)
    (boundary : (bridgeAt s (setBridge s m 0)).lastBoundary = some s.time.dev) (free : rectWaits s m = false) :
    execLockAndMatch m s = .next (lockMatch m s) :=
  if_pos (by simp [up, start, ready, armed, before, boundary, free])

/-! ### The interlock (R175, R176) -/

/-- The leg is held off for the rest of its carrier period, its requests are off, and the refusal is counted; a bridge that is not RUNNING
keeps the requests of its pulses for later. -/
def holdRefusedLeg (leg : Nat) (s : State) : State :=
  let b := legBridge s leg
  let k := legPhase s leg
  let u := driveLeg false .none leg s
  let asked := if stOf s b = .running then [] else pulseRequests s b leg
  modBridge b (fun br => { br with
    sched := br.sched ++ asked, xon := recentRefusals u b ++ [u.time.dev], xonLeg := leg, held := br.held.set k true,
    reqHigh := br.reqHigh.set k false, reqLow := br.reqLow.set k false,
    onHigh := br.onHigh.set k 0, onLow := br.onLow.set k 0 }) u

/-- The refusal that exceeds the limit is not recorded here: it is the limit's own row. -/
theorem execInterlockRefusal_of_active {leg : Fin 24} {s : State} (timer : timerOn s (legBridge s leg) = true)
    (active : isActive (stOf s (legBridge s leg)) = true) :
    let b := legBridge s leg
    let v := holdRefusedLeg leg s
    execInterlockRefusal leg s =
      if (bridgeAt v b).xon.length ≤ bPwm v b 0x86 then .next (note 0x0201 (srcBridge b) [ixByte leg] v) else .next v := by
  rw [execInterlockRefusal, if_pos (by rw [timer, active]; rfl)]
  simp only [beq_iff_eq]
  rfl

theorem execRefusalLimit_of_exceeded {b : Fin 8} {s : State} (timer : timerOn s b = true) (active : isActive (stOf s b) = true)
    (many : bPwm s b 0x86 < (recentRefusals s b).length)
    (fresh : (bridgeAt s b).ovr.any (fun o => o.src == .fault 0x0201) = false) :
    execRefusalLimit b s =
      .next (raiseAtLeast 3 0x0201 b (srcBridge b) (.bridge b) [ixByte (bridgeAt s b).xonLeg] s) :=
  if_pos (by simp only [timer, active, many, fresh, decide_true, Bool.not_false, Bool.and_self])

/-! ### Six-step and triggers (R184, R185, R306) -/

theorem execSixstepToggle_of_due {leg : Fin 24} {t : Toggle} {ts : List Toggle} {s : State}
    (next : (bridgeAt s (legBridge s leg)).active.toggles.getD (legPhase s leg) [] = t :: ts)
    (timer : timerOn s (legBridge s leg) = true) (sixstep : (bridgeAt s (legBridge s leg)).active.sixstep = true)
    (running : (bridgeAt s (legBridge s leg)).st = .running) (due : ticksTo s t.time = 0 ∨ 2 ^ 31 < ticksTo s t.time) :
    execSixstepToggle leg s = .next (runToggle (legBridge s leg) (legPhase s leg) s) := by
  simp only [execSixstepToggle, next]
  exact if_pos (by simpa [timer, sixstep, running] using due)

section
variable {b : Fin 8} {obs : TrigObs} {s : State}
variable (codesA : obs.codeA.length = 3) (codesB : obs.codeB.length = 3) (volts : obs.vph.length = 3)
include codesA codesB volts

theorem execAdcTrigger_of_due (timer : timerOn s b = true) (enabled : stOf s b ≠ .disabled)
    (used : trigUsed s b obs.trig = true) (due : trigDue s b obs.trig = true) :
    let n := obs.trig.val
    let v := if n = 0 then trigger0 b obs s else triggerX b n obs s
    execAdcTrigger b obs s = .next (compareEvent 1 b (trigSample v b n).time true (monitorTrigger b n v)) := by
  rw [execAdcTrigger, if_neg (by simp [codesA, codesB, volts]), if_pos (by simp [timer, enabled, used, due])]

/-- On a DISABLED bridge trigger 0 samples the general input alone. -/
theorem execAdcTrigger_of_disabled (up : isUp s = true) (disabled : stOf s b = .disabled) (zero : obs.trig = 0) :
    execAdcTrigger b obs s = .next (sampleGen b obs s) := by
  rw [execAdcTrigger, if_neg (by simp [codesA, codesB, volts]), if_neg (by simp [disabled]),
    if_pos (by simp [up, disabled, zero])]

end

/-- Settles O45, row by row. -/
theorem pwmRowsAct : Obligations.PwmRowsAct := by
  intro s
  refine ⟨fun _ up charging => ⟨execPrechargePulse_of_charging up charging, execPrechargeComplete_of_operating up charging,
      fun waiting late => ⟨_, rfl, execPrechargeTimeout_of_late up charging waiting late⟩⟩,
    fun _ _ => execPeriodBoundary_of_due, fun _ => execMissedUpdateLimit_of_fourth, fun _ => execLockAndMatch_of_ready,
    fun _ timer active => ?interlock, fun _ => execRefusalLimit_of_exceeded, fun _ _ _ => execSixstepToggle_of_due,
    fun _ _ codesA codesB volts => ⟨execAdcTrigger_of_due codesA codesB volts, execAdcTrigger_of_disabled codesA codesB volts⟩⟩
  case interlock =>
    have row := execInterlockRefusal_of_active timer active
    exact ⟨fun within => row.trans (if_pos within), fun above => row.trans (if_neg (Nat.not_le.mpr above))⟩

end Sys2Proof.Machine
end

section
/-! How ARM, DISARM and SAFE_STATE end (R147, R421, R479, R480, R527). -/

namespace Sys2Proof.Machine

/-- An opcode that names a machine that exists acts on it. -/
theorem withMachine_of_exists {s : State} {machine : Byte} (there : machExists s machine.toNat = true) (t : Nat)
    (f : Nat → State → State) : withMachine t machine f s = f machine.toNat s :=
  if_pos there

/-! ### ARM (R147, R421) -/

/-- The monitor pair is asked for operating point 0 (R421). -/
def raiseMon (s : State) : State := seekMon 0 { s with pwr := { s.pwr with monReq := 0 } }

theorem armMachine_of_allowed {m : Nat} {s : State} (allowed : armRefusal s m = none) (t : Nat) :
    let v := raiseMon s
    armMachine t m s =
      if v.pwr.busyMon || v.pwr.monCur != 0 then
        accept t (bGate v m 0xF1 + 100) (modMach m (fun x => { x with tag := some t, armWait := true }) v)
      else if allOperating v m then finish t ST_OK [] (freshArm m v)
      else startPrecharge m false (modMach m (fun x => { x with tag := some t }) (accept t (bGate v m 0xF1 + 100) v)) := by
  simp only [armMachine, allowed]
  rfl

section
variable {t m : Nat} {s : State} (allowed : armRefusal s m = none)
include allowed

theorem armMachine_of_operating (still : (raiseMon s).pwr.busyMon = false) (full : (raiseMon s).pwr.monCur = 0)
    (operating : allOperating (raiseMon s) m = true) :
    armMachine t m s = finish t ST_OK [] (freshArm m (raiseMon s)) := by
  rw [armMachine_of_allowed allowed, if_neg (by simp [still, full]), if_pos operating]

theorem armMachine_of_uncharged (still : (raiseMon s).pwr.busyMon = false) (full : (raiseMon s).pwr.monCur = 0)
    (uncharged : allOperating (raiseMon s) m = false) :
    armMachine t m s = startPrecharge m false
      (modMach m (fun x => { x with tag := some t }) (accept t (bGate (raiseMon s) m 0xF1 + 100) (raiseMon s))) := by
  rw [armMachine_of_allowed allowed, if_neg (by simp [still, full]), if_neg (by simp [uncharged])]

theorem armMachine_of_monitor_below (below : (raiseMon s).pwr.busyMon = true ∨ (raiseMon s).pwr.monCur ≠ 0) :
    armMachine t m s = accept t (bGate (raiseMon s) m 0xF1 + 100)
      (modMach m (fun x => { x with tag := some t, armWait := true }) (raiseMon s)) := by
  rw [armMachine_of_allowed allowed, if_pos (by simpa using below)]

end

/-- An ARM that begins is what it does to its machine, under the cascade's flags (R527). -/
theorem exec_arm_of_begins {h : Hdr} {machine : Byte} {s u : State} (g : Begins h 0x0200 [machine] false s u)
    (there : machExists u machine.toNat = true) :
    exec (.arm h machine) s = .next (cascadeHold u (armMachine h.tag.toNat machine.toNat u)) := by
  rw [begins_exec (f := fun t => opArm t machine) g rfl, opArm, withMachine_of_exists there]

/-! ### DISARM (R479) -/

theorem disarmMachine_of_inactive {m : Nat} {s : State} (still : machRunning s m = false)
    (inactive : anyActive s (machBridges s m) = false) (t : Nat) : disarmMachine t m s = finish t ST_OK [] s := by
  simp [disarmMachine, still, inactive]

theorem disarmMachine_of_active {m : Nat} {s : State} (still : machRunning s m = false)
    (active : anyActive s (machBridges s m) = true) (t : Nat) :
    disarmMachine t m s = finish t ST_OK [] (toIdle m (endMachineTag m RS_BRIDGE_STATE s)) := by
  simp [disarmMachine, still, active]

/-- A RUNNING machine with no ramp under way starts one. -/
theorem disarmMachine_of_running {m : Nat} {s : State} (running : machRunning s m = true) (passive : rectifies s m = false)
    (unramped : (machAt s m).ramp = .none) (t : Nat) :
    disarmMachine t m s = modMach m (fun x => { x with ramp := .disarm }) (accept t (rampTime s m + 100) s) := by
  have kept : (machAt (accept t (rampTime s m + 100) s) m).ramp = .none := by
    simpa [machAt, id accept_same] using unramped
  simp only [disarmMachine, running, disarmRunning, passive, kept, if_true, Bool.false_eq_true, if_false]

section
variable {h : Hdr} {machine : Byte} {s u : State} (g : Begins h 0x0201 [machine] false s u)
variable (there : machExists u machine.toNat = true)
include g there

theorem exec_disarm_of_begins :
    exec (.disarm h machine) s = .next (disarmMachine h.tag.toNat machine.toNat u) := by
  rw [begins_exec (f := fun t => opDisarm t machine) g rfl, opDisarm, withMachine_of_exists there]

theorem disarm_completes (w : WellBuilt s) (still : machRunning u machine.toNat = false)
    (inactive : anyActive u (machBridges u machine.toNat) = false) : Completes (.disarm h machine) h [] s u :=
  begins_completes (f := fun t => opDisarm t machine) w g rfl rfl
    ((withMachine_of_exists there _ _).trans (disarmMachine_of_inactive still inactive _))

theorem disarm_accepts (w : WellBuilt s) (running : machRunning u machine.toNat = true)
    (passive : rectifies u machine.toNat = false) (unramped : (machAt u machine.toNat).ramp = .none) :
    Accepts (.disarm h machine) h (rampTime u machine.toNat + 100) s
      (modMach machine.toNat (fun x => { x with ramp := .disarm }) u) :=
  begins_accepts (f := fun t => opDisarm t machine) (modMach machine.toNat (fun x => { x with ramp := .disarm })) w g rfl
    ((withMachine_of_exists there _ _).trans (disarmMachine_of_running running passive unramped _)) rfl
    (fun _ => ⟨rfl, rfl⟩) (fun _ => modMach_onlyReply)

end

/-! ### SAFE_STATE (R480) -/

theorem opSafeState_machine {machine : Byte} {s : State} (there : machExists s machine.toNat = true) (t : Nat) :
    opSafeState t 0 machine s =
      finish t ST_OK [] (commandSafe machine.toNat (srcMach machine.toNat) (.machine machine.toNat) s) := by
  rw [opSafeState, if_pos rfl, withMachine_of_exists there]

theorem opSafeState_linkGroup {lg : Byte} (two : lg.toNat < 2) (t : Nat) (s : State) :
    opSafeState t 1 lg s = finish t ST_OK [] (commandSafe lg.toNat (srcLg lg.toNat) (.linkGroup lg.toNat) s) := by
  rw [opSafeState, if_neg (by decide), if_pos rfl, if_pos two]

theorem opSafeState_device (t : Nat) (i : Byte) (s : State) :
    opSafeState t 2 i s = finish t ST_OK [] (commandSafe 0 (srcDom 2) .device s) := by
  rw [opSafeState, if_neg (by decide), if_neg (by decide), if_pos rfl]

/-- A SAFE_STATE that begins is its own meaning. -/
theorem exec_safeState_of_begins {h : Hdr} {scope index : Byte} {s u : State} (g : Begins h 0x0204 [scope, index] false s u) :
    exec (.safeState h scope index) s = .next (opSafeState h.tag.toNat scope index u) :=
  begins_exec (f := fun t => opSafeState t scope index) g rfl

/-- Settles O27: a request that begins runs its opcode's meaning, which goes by the machine's state. -/
theorem armingRequestsComplete : Obligations.ArmingRequestsComplete := by
  intro h machine s u w there
  refine ⟨fun g allowed => ⟨fun still full operating => ?operating, fun still full uncharged => ?uncharged, fun below => ?waits⟩,
    fun g => ⟨disarm_completes g there w, fun still active => ?active, disarm_accepts g there w⟩, fun g => ?machine,
    fun lg two g => ?linkGroup, fun i g => ?device⟩
  case operating =>
    rw [exec_arm_of_begins g there, armMachine_of_operating allowed still full operating]
    rfl
  case uncharged =>
    rw [exec_arm_of_begins g there, armMachine_of_uncharged allowed still full uncharged]
    rfl
  case waits =>
    rw [exec_arm_of_begins g there, armMachine_of_monitor_below allowed below]
    rfl
  case active => rw [exec_disarm_of_begins g there, disarmMachine_of_active still active]
  case machine => rw [exec_safeState_of_begins g, opSafeState_machine there]
  case linkGroup => rw [exec_safeState_of_begins g, opSafeState_linkGroup two]
  case device => rw [exec_safeState_of_begins g, opSafeState_device]

end Sys2Proof.Machine
end

section
/-! What the rows of the carrier epoch, of the control periods and of their supervisions do (R172, R189, R190, R196, R201, R206, R210, R213,
R218, R220, R223, R225). -/

namespace Sys2Proof.Machine

/-! ### The carrier epoch (R189, R190) -/

section
variable {s : State} (up : isUp s = true) (slave : isSlave s = true)
include up slave

theorem execSyncPulse_of_slave (arrival : Nat) :
    let d := syncDifference s arrival
    execSyncPulse arrival s = .next { s with net := { s.net with
      epochFix := d, syncLost := s.net.syncLost && decide (320 < |d|),
      syncDiff := clampInt (-32768) 32767 (roundDiv (d * 25) 16) } } :=
  if_pos (by rw [up, slave]; rfl)

theorem execSyncLoss_of_absent {periods : Nat} (absent : parN s 0x3F02 ≤ periods) (fresh : s.net.syncLost = false) :
    execSyncLoss periods s = .next (note 0x0204 (srcDom 1) [] { s with net := { s.net with syncLost := true } }) :=
  if_pos (by simp [up, slave, absent, fresh])

end

/-! ### Control periods and reference updates (R172, R196, R201, R235) -/

theorem execControlPeriod_of_due {m : Fin 8} {obs : CtrlObs} {s : State} (up : isUp s = true) (running : machRunning s m = true)
    (due : controlDue s m = true) :
    execControlPeriod m obs s = .next (settleLate m (controlPeriod m obs (countControl m s))) := by
  rw [execControlPeriod, if_neg (by simp [up]), if_pos running, if_pos due]

/-- No control period runs; what a new set holds for a machine at rest takes effect. -/
theorem execControlPeriod_of_resting {m : Fin 8} {obs : CtrlObs} {s : State} (up : isUp s = true) (resting : machRunning s m = false) :
    execControlPeriod m obs s = .next (settleLate m (restItems (setBridge s m 0) s)) := by
  rw [execControlPeriod, if_neg (by simp [up]), if_neg (by simp [resting])]

theorem execReferenceUpdate_of_driving {m : Fin 8} {s : State} (up : mainUp s = true) (driving : drives s m = true) :
    execReferenceUpdate m s = .next (referenceUpdate m s) :=
  if_pos (by rw [up, driving]; rfl)

/-! ### Supervisions (R206, R210, R213, R218) -/

/-- A limit has held the torque below its reference for more than 10 ms, and this occurrence has not been raised (R206). -/
theorem execTorqueNotReachable_of_lasting {m : Fin 8} {since : Nat} {s : State} (up : isUp s = true) (driving : drives s m = true)
    (reduced : (machAt s m).reduced = some since) (lasting : since + 4000000 < s.time.dev) (fresh : (machAt s m).f0211 = false) :
    execTorqueNotReachable m s =
      .next (raiseFault 0x0211 m (srcMach m) (.machine m) [] (modMach m (fun x => { x with f0211 := true }) s)) :=
  if_pos (by simp [up, driving, reduced, lasting, fresh])

section
variable {m : Fin 8} {s : State} (up : isUp s = true) (running : machRunning s m = true)
include up running

theorem execTrackingError_of_lasting (lasting : mParN s m 0x29 * 40000 < (machAt s m).trkCnt * ctrlPeriod s m) :
    execTrackingError m s = .next (raiseOnce 0x0210 m s) :=
  if_pos (by simp [up, running, lasting])

theorem execXyExcess_of_lasting (lasting : mParN s m 0x27 * 400000 < (machAt s m).xyCnt * ctrlPeriod s m) :
    execXyExcess m s = .next (raiseOnce 0x0212 m s) :=
  if_pos (by simp [up, running, lasting])

/-- Ten rotor time constants have passed without the flux of an induction machine (R213). -/
theorem execImFluxTimeout_of_late (induction : isPmsm s m = false) (weak : (machAt s m).fluxOk = false)
    (late : 10 * rotorTau s m * 400000000 < ((s.time.dev - (machAt s m).ranAt : Nat) : Rat)) :
    execImFluxTimeout m s = .next (raiseOnce 0x0216 m s) :=
  if_pos (by simp only [up, running, induction, weak, late, decide_true, Bool.not_false, Bool.and_self])

end

/-! ### Six-step and its float windows (R220, R223, R225) -/

section
variable {m : Fin 8} {s : State} (up : isUp s = true)
include up

theorem execSixstepEntry_of_clamped (driving : drives s m = true) (sine : (machAt s m).six = false) (allowed : sixAllowed s m = true)
    (met : 16 ≤ (machAt s m).sixIn) (ramped : 8 ≤ (machAt s m).sixRamp) (conds : sixConds s m = true)
    (clamped : allClamped s m = true) : execSixstepEntry m s = .next (enterSix m s) :=
  if_pos (by simp [up, driving, sine, allowed, met, ramped, conds, clamped])

/-- Each of the three reasons ends six-step by itself. -/
theorem execSixstepExit_of_failed (six : (machAt s m).six = true)
    (failed : 16 ≤ (machAt s m).sixOut ∨ sixConds s m = false ∨ sixAllowed s m = false) :
    execSixstepExit m s = .next (leaveSix m s) :=
  if_pos (by simpa [up, six, or_assoc] using failed)

theorem execZcWindowEnd_of_serving {k : Fin 3} {samples : List ZcSample} (serving : crossingsServe s m = true)
    (usable : (machAt s m).zcAngle = true ∨ crossingSpeed s m = true) :
    execZcWindowEnd m k samples s = .next (windowEnd m k samples s) :=
  if_pos (by simpa [up, serving] using usable)

end

/-- Settles O46, row by row. -/
theorem controlRowsAct : Obligations.ControlRowsAct := by
  intro s m
  exact ⟨fun arrival up slave => execSyncPulse_of_slave up slave arrival, fun _ up slave => execSyncLoss_of_absent up slave,
    fun _ up => ⟨execControlPeriod_of_due up, execControlPeriod_of_resting up⟩, execReferenceUpdate_of_driving,
    fun _ => execTorqueNotReachable_of_lasting,
    fun up running => ⟨execTrackingError_of_lasting up running, execXyExcess_of_lasting up running,
      execImFluxTimeout_of_late up running⟩,
    execSixstepEntry_of_clamped, execSixstepExit_of_failed, fun _ _ up => execZcWindowEnd_of_serving up⟩

end Sys2Proof.Machine
end

section
/-! What the stages of a start, the ends of ramps and stops, and the supervisions of crossings and of the observer do (R226, R232, R242,
R244, R247, R248, R251, R254, R262, R479, R604). -/

namespace Sys2Proof.Machine

/-- The observer has been out of its limits for P_OBS_TIME (R262). -/
theorem observerGone_of_lasting {m since : Nat} {s : State} (bad : (machAt s m).obs.badSince = some since)
    (lasting : since + mParN s m 0x6D * 40000 ≤ s.time.dev) : observerGone s m = true := by
  simp [observerGone, bad, lasting]

section
variable {m : Fin 8} {s : State} (up : isUp s = true)
include up

/-! ### Angle sources that fail (R226, R262) -/

theorem execZcMissLimit_of_missed (six : (machAt s m).six = true) (crossings : (machAt s m).zcAngle = true)
    (missed : mParN s m 0x36 ≤ (machAt s m).zcMiss) : execZcMissLimit m s = .next (leaveCrossings m s) :=
  if_pos (by simp [up, six, crossings, missed])

theorem execObserverInvalid_of_gone (running : machRunning s m = true) (pmsm : isPmsm s m = true) (alone : usesIf s m = false)
    (gone : observerGone s m = true) : execObserverInvalid m s = .next (raiseOnce 0x040A m s) :=
  if_pos (by simp [up, running, pmsm, alone, gone])

/-! ### The ends of ramps and stops (R232, R479, R604) -/

/-- At zero torque every cause of the stop applies its safe state. -/
theorem execOrderlyStopEnd_of_zero {causes : List (Nat × Nat)} (stopping : (machAt s m).ramp = .stop causes)
    (zero : (machAt s m).tRef = 0) :
    let v := causes.foldl (fun s c =>
      override RS_BRIDGE_STATE false ⟨.fault (BitVec.ofNat 16 c.1), 2, c.2⟩ (machBridges s m) s) s
    execOrderlyStopEnd m s = .next (forEach ([0, 1].filter (abortedWinding v)) raise0508 v) := by
  simp only [execOrderlyStopEnd, stopping, up, zero, beq_self_eq_true, Bool.and_self, if_true]

/-- At zero torque the machine goes to IDLE; the DISARM requests end once every bridge has. -/
theorem execDisarmRampEnd_of_zero (disarming : (machAt s m).ramp = .disarm) (zero : (machAt s m).tRef = 0) :
    let v := toIdle m s
    execDisarmRampEnd m s =
      if allIn v (machBridges v m) .idle then .next (forEach (disarmTags v m) (fun t => finish t ST_OK []) v) else .next v :=
  if_pos (by simp [up, disarming, zero])

/-- Within half the rated torque the bridge enters its safe state and is RETIRED. -/
theorem execRetireRampEnd_of_half {b leg : Nat} (retiring : (machAt s m).ramp = .retire b leg)
    (half : |(machAt s m).tRef| ≤ 16384) :
    execRetireRampEnd m s = .next (finishOpt (machAt s m).tag ST_OK [bridgeCode .retired] (retireBridge b leg
      (overrideBridge RS_BRIDGE_STATE false ⟨.fault 0, 3, b⟩ b
        (modMach m (fun x => { x with ramp := .none, tag := none, halfLim := false }) s)))) := by
  simp only [execRetireRampEnd, retiring, up, half, decide_true, Bool.and_self, if_true]

/-! ### Diode current in a start (R243, R244) -/

theorem execRectificationDetect_of_held {idc0Mv idc1Mv : Int} {us : Nat} (starting : isStart (machAt s m).ph = true)
    (gap : pulsing s m = false) (long : 500 ≤ us) (current : rectifying s m idc0Mv idc1Mv = true) :
    execRectificationDetect m idc0Mv idc1Mv us s = .next (raiseWhy RS_RECTIFYING 0x0407 m (srcMach m) (.machine m) [] s) :=
  if_pos (by simp [recognised, up, starting, gap, long, current])

/-! ### The stages of a start without a rectification in the same tick (R242, R247, R248, R251, R254) -/

section
variable (calm : rectWaits s m = false)
include calm

theorem execCatchWindowEnd_of_calm (obs : CatchObs) : execCatchWindowEnd m obs s = .next (windowOver m obs s) :=
  if_pos (by simp [up, calm])

variable (unready : (machAt s m).ready = false)
include unready

theorem execCheckTimeEnd_of_due (checking : (machAt s m).ph = .checking)
    (due : (machAt s m).phStart + mParN s m 0x64 * 40000 ≤ s.time.dev) : execCheckTimeEnd m s = .next (checkEnd m s) :=
  if_pos (by simp [up, calm, unready, checking, due])

/-- The window extended once ends in what its crossings give: a consistent measurement, or a failed start. -/
theorem execCatchExtensionEnd_of_due {obs : CatchObs} (catching : (machAt s m).ph = .catching)
    (extended : (machAt s m).extended = true) (due : (machAt s m).extEnd ≤ s.time.dev) :
    execCatchExtensionEnd m obs s = .next (match (evaluateCatch s m obs).2 with
      | some f => caught m f s
      | none => failStart m 0x0406 RS_CATCH_FAIL s) :=
  if_pos (by simp [up, calm, unready, catching, extended, due])

theorem execPluckPulse_of_ended {p : Pluck} {since : Nat} {obs : PluckObs} (pluck : (machAt s m).pluck = some p)
    (started : p.start = some since) (ended : since + 200 * p.halfUs ≤ s.time.dev) (plucking : (machAt s m).ph = .plucking) :
    execPluckPulse m obs s = .next (onePulse m p obs s) := by
  simp [execPluckPulse, pluck, started, ended, up, calm, unready, plucking]

end

end

/-- Settles O47, row by row. -/
theorem startingRowsAct : Obligations.StartingRowsAct := by
  intro s m up
  refine ⟨execZcMissLimit_of_missed up, fun _ => execOrderlyStopEnd_of_zero up, fun disarming zero => ?disarm,
    fun _ _ => execRetireRampEnd_of_half up, fun _ _ _ => execRectificationDetect_of_held up,
    fun checking unready calm => execCheckTimeEnd_of_due up calm unready checking,
    fun obs catching unready calm => ⟨execCatchWindowEnd_of_calm up calm obs, fun extended due => ?extension⟩,
    fun _ _ _ pluck started ended plucking unready calm =>
      execPluckPulse_of_ended up calm unready pluck started ended plucking,
    fun _ running pmsm alone bad lasting =>
      execObserverInvalid_of_gone up running pmsm alone (observerGone_of_lasting bad lasting)⟩
  case disarm =>
    have row := execDisarmRampEnd_of_zero up disarming zero
    exact ⟨fun idle => row.trans (if_pos idle), fun busy => row.trans (if_neg (by simp [busy]))⟩
  case extension =>
    have row := execCatchExtensionEnd_of_due (obs := obs) up calm unready catching extended due
    exact ⟨fun f measured => row.trans (by rw [measured]), fun unmeasured => row.trans (by rw [unmeasured])⟩

end Sys2Proof.Machine
end

section
/-! What the rows of the position interfaces, of the divided outputs and of the angle-compare units do (R270 to R290, R293 to R297). -/

namespace Sys2Proof.Machine

section
variable {s : State} {p : Fin 8} (on : posOn s p = true)
include on

/-! ### Counting (R273, R277 to R281) -/

theorem execQuadEdge_of_accepted {held : Nat} (accepted : qfAccepts s p held = true) (sound : (posAt s p).faulty = false) (a b : Bool) :
    execQuadEdge p a b held s = .next (takeLevels p a b s) :=
  if_pos (by simp [on, accepted, sound])

theorem execIndexMark_of_qualified (mode : posMode s p = 3 ∨ posMode s p = 2) (sound : (posAt s p).faulty = false)
    (high : bothHigh s p = true) : execIndexMark p s = .next (takeIndex p s) :=
  if_pos (by simpa [on, sound, high] using mode)

/-- Both levels change: a sound interface takes them, and then the mark of the same sample where it qualifies (R281). -/
theorem execIllegalTransition_of_sound {held : Nat} {a b : Bool} (mode : posMode s p = 3) (accepted : qfAccepts s p held = true)
    (levels : (posAt s p).levels = some (a, b)) (sound : (posAt s p).faulty = false) (z : Bool) :
    let v := takeLevels p (!a) (!b) s
    execIllegalTransition p held z s = .next (if z && bothHigh v p then takeIndex p v else v) := by
  simp [execIllegalTransition, on, mode, accepted, levels, sound]

theorem execIllegalTransition_of_faulty {held : Nat} {a b : Bool} (mode : posMode s p = 3) (accepted : qfAccepts s p held = true)
    (levels : (posAt s p).levels = some (a, b)) (faulty : (posAt s p).faulty = true) (z : Bool) :
    execIllegalTransition p held z s =
      .next (failCheck p (modPos p (fun x => { x with levels := some (!a, !b) }) s)) := by
  simp [execIllegalTransition, on, mode, accepted, levels, faulty]

theorem execIllegalEventLimit_of_exceeded (mode : posMode s p = 3 ∨ posMode s p = 4)
    (exceeded : posPar s p 8 < ((recentBad s p).length : Int)) :
    execIllegalEventLimit p s = .next (declareFaulty (if posMode s p = 4 then 0x0403 else 0x0402) p s) :=
  if_pos (by simpa [on, exceeded] using mode)

/-! ### Hall states (R282, R283) -/

theorem execHallEdge_of_accepted {heldUs : Nat} (accepted : hallAccepts s p heldUs = true) (state : BitVec 3) :
    execHallEdge p state heldUs s = .next (if (posAt s p).faulty then watchHall p state s else takeHall p state s) :=
  if_pos (by simp [on, accepted])

theorem execHallInvalid_of_bad {state : BitVec 3} {heldUs : Nat} (accepted : hallAccepts s p heldUs = true)
    (bad : hallBad s p state = true) :
    execHallInvalid p state heldUs s = .next (if (posAt s p).faulty then watchHall p state s else badHall p state s) :=
  if_pos (by simp [on, accepted, bad])

theorem execHallInvalidHeld_of_lasting {since : Nat} (mode : posMode s p = 4) (invalid : (posAt s p).hallBadAt = some since)
    (lasting : since + 400000 ≤ s.time.dev) : execHallInvalidHeld p s = .next (declareFaulty 0x0403 p s) :=
  if_pos (by simp [on, mode, invalid, lasting])

/-! ### Resolver and sin/cos signals (R270, R272, R274, R276) -/

theorem execAmplitudeWindowFault_of_pairs (mode : posMode s p = 1 ∨ posMode s p = 2) (pairs : List (Int × Int)) :
    execAmplitudeWindowFault p pairs s = .next (pairs.foldl (fun s q => takePair p q s) s) :=
  if_pos (by simpa [on] using mode)

theorem execExcitationFault_of_resolver (mode : posMode s p = 1) (periods : List (Nat × Nat)) :
    execExcitationFault p periods s = .next (periods.foldl (fun s o => takePeriod p o s) s) :=
  if_pos (by simp [on, mode])

/-- Each mode has a limit of its own: an eighth of the excitation frequency, or 200 kHz (R272, R273). -/
theorem execInputFrequencyLimit_of_exceeded
    (exceeded : posMode s p = 1 ∧ (posPar s p 1 : Rat) < 8 * signalHz s p ∨ posMode s p = 2 ∧ 200000 < signalHz s p) :
    execInputFrequencyLimit p s = .next (if (posAt s p).faulty then failCheck p s else posFault 0x0414 p (failCheck p s)) := by
  obtain ⟨mode, high⟩ | ⟨mode, high⟩ := exceeded <;> exact if_pos (by simp [on, mode, high])

theorem execTrackingLock_of_locked {since : Nat} (mode : posMode s p = 1) (sound : (posAt s p).faulty = false)
    (unset : (posAt s p).angleValid = false) (locked : (posAt s p).track.lockAt = some since) (lasting : since + 4000000 ≤ s.time.dev)
    (phase : Nat) :
    execTrackingLock p phase s = .next (modPos p (fun x =>
      { x with speedValid := true, angleValid := true, fwd := true, excPhase := phase % 262144 }) s) :=
  if_pos (by simp [on, mode, sound, unset, locked, lasting])

/-! ### Recovery (R287) -/

/-- An interface that serves no machine recovers as one whose machine does not run. -/
theorem execInterfaceRecovery_of_passing (faulty : (posAt s p).faulty = true) (valid : (posAt s p).hallBadAt = none)
    (passing : (posAt s p).checkAt + 40000000 ≤ s.time.dev) (still : ∀ m, posMach s p = some m → machRunning s m = false) :
    execInterfaceRecovery p s = .next (initPos p s) := by
  cases served : posMach s p with
  | none => simp [execInterfaceRecovery, on, faulty, valid, passing, served]
  | some m => simp [execInterfaceRecovery, on, faulty, valid, passing, served, still m served]

/-! ### Speed (R288, R290) -/

theorem execSpeedWindow_of_ended (ended : (posAt s p).winAt + (posAt s p).winLen ≤ now10 s) :
    let tEnd := (posAt s p).winAt + (posAt s p).winLen
    let v := (drawFree s).2
    let w := if (posAt s p).speedValid = true then passSpeed p (measureSpeed s.time.free p tEnd v) else v
    execSpeedWindow p s = .next (modPos p (fun x => { x with
      edges := x.edges.filter (fun e => decide (tEnd < e.2)), track := { x.track with sum := 0, n := 0 },
      winAt := tEnd, winLen := 1000 * (posPar w p 0xB).toNat }) w) :=
  if_pos (by simp [on, ended])

theorem execSpeedZeroTimeout_of_idle (valid : (posAt s p).speedValid = true) (mode : posMode s p = 2 ∨ posMode s p = 3 ∨ posMode s p = 4)
    (idle : ((posAt s p).lastEdge.getD (posAt s p).initAt : Int) + 100000 * posPar s p 0xC ≤ now10 s) :
    execSpeedZeroTimeout p s = .next (passSpeed p (modPos p (fun x => { x with rpm100 := 0, edges := [] }) s)) :=
  if_pos (by simpa [on, valid, idle, or_assoc] using mode)

end

/-- Settles O48, row by row. -/
theorem positionRowsAct : Obligations.PositionRowsAct := by
  intro s p on
  refine ⟨fun a b _ accepted sound => execQuadEdge_of_accepted on accepted sound a b, execIndexMark_of_qualified on,
    fun a b held z mode accepted levels => ⟨fun sound => ?illegal, fun faulty => ?illegalFaulty⟩, fun exceeded => ?limit,
    fun state heldUs accepted => ?hall, fun _ => execHallInvalidHeld_of_lasting on,
    fun pairs mode => execAmplitudeWindowFault_of_pairs on mode pairs, fun periods mode => execExcitationFault_of_resolver on mode periods,
    fun exceeded => ?frequency,
    fun phase _ mode sound unset locked lasting => execTrackingLock_of_locked on mode sound unset locked lasting phase,
    execInterfaceRecovery_of_passing on, execSpeedWindow_of_ended on, execSpeedZeroTimeout_of_idle on⟩
  case illegal =>
    have row := execIllegalTransition_of_sound on mode accepted levels sound z
    exact ⟨fun mark => row.trans (by rw [if_pos mark]), fun unmarked => row.trans (by rw [if_neg (by simp [unmarked])])⟩
  case illegalFaulty => exact execIllegalTransition_of_faulty on mode accepted levels faulty z
  case limit =>
    exact ⟨fun quad => (execIllegalEventLimit_of_exceeded on (.inl quad) exceeded).trans (by rw [if_neg (by omega)]),
      fun hall => (execIllegalEventLimit_of_exceeded on (.inr hall) exceeded).trans (by rw [if_pos hall])⟩
  case hall =>
    have edge := execHallEdge_of_accepted on accepted state
    refine ⟨fun sound => edge.trans (by simp [sound]), fun faulty => edge.trans (by simp [faulty]), fun bad => ?_⟩
    have invalid := execHallInvalid_of_bad on accepted bad
    exact ⟨fun sound => invalid.trans (by simp [sound]), fun faulty => invalid.trans (by simp [faulty])⟩
  case frequency =>
    have row := execInputFrequencyLimit_of_exceeded on exceeded
    exact ⟨fun sound => row.trans (by simp [sound]), fun faulty => row.trans (by simp [faulty])⟩

section
variable {s : State} (up : isUp s = true)
include up

/-! ### Divided outputs (R293) -/

theorem execDividedOutputEmit_of_room {k : Fin 4} {upward : Bool} {rest : List Bool} (gate : gateOpen s 11 = true)
    (valid : poutValid s k = true) (own : poutIsB s k = false) (counts : poutPar s k 3 ≠ 2) (room : poutRoom s k = true)
    (queue : (poutAt s k).queue = upward :: rest) :
    execDividedOutputEmit k s = .next (showCount k upward (modPout k (fun x => { x with queue := rest, full := false }) s)) := by
  simp [execDividedOutputEmit, up, gate, valid, own, counts, room, queue]

/-! ### Compare units (R295 to R297) -/

section
variable {u : Fin 16} (gate : gateOpen s 12 = true)
include gate

theorem execCompareLoad_of_pending {target : Nat} {rep : Bool} (pending : (cmpAt s u).pend = some (target, rep)) :
    execCompareLoad u s = .next (loadCmp u target rep (fireHit u s)) := by
  simp [execCompareLoad, up, gate, pending]

theorem execCompareFire_of_hit {forward : Bool} {angle time : Nat} (armed : (cmpAt s u).st = .armed)
    (hit : (cmpAt s u).hit = some (forward, angle, time)) :
    execCompareFire u s = .next (fireCmp u false forward time angle s) := by
  simp [execCompareFire, fireHit, up, gate, armed, hit]

theorem execCompareRearm_of_away (waiting : (cmpAt s u).waiting = true)
    (away : 0x10000 ≤ |angDiff (cmpAngle s u) (cmpAt s u).target|) :
    execCompareRearm u s = .next (modCmp u (fun x => { x with waiting := false }) s) :=
  if_pos (by simp [up, gate, waiting, away])

end

end

/-- Settles O49, row by row. -/
theorem outputAndCompareRowsAct : Obligations.OutputAndCompareRowsAct := by
  intro s up
  exact ⟨fun _ _ _ => execDividedOutputEmit_of_room up, fun _ _ _ gate => execCompareLoad_of_pending up gate,
    fun _ _ _ _ gate => execCompareFire_of_hit up gate, fun _ gate => execCompareRearm_of_away up gate⟩

end Sys2Proof.Machine
end

section
/-! What the rows of current sensing, of the sensor supplies and of the link voltage supervision do (R307 to R311, R315 to R317). -/

namespace Sys2Proof.Machine

/-! ### What a bank keeps of its sensor supply (R311) -/

/-- A sensor supply, in mV, below its lower limit. -/
def supplyLow (mv : Nat) : Bool := decide (mv < 4750)

/-- A reference, in tenths of a mV, out of its window. -/
def referenceOff (tenthMv : Nat) : Bool := decide (tenthMv < 24875) || decide (25125 < tenthMv)

/-- F-0305 of a bank is told and stands until its supply and reference are both in range. -/
def supplyTold (s : State) : Bank → Bool
  | .a => s.dev.supplyA
  | .b => s.dev.supplyB

def tellSupply (bank : Bank) (v : Bool) (s : State) : State :=
  match bank with
  | .a => { s with dev := { s.dev with supplyA := v } }
  | .b => { s with dev := { s.dev with supplyB := v } }

/-- The flags of a bank collect what was out of range. -/
def flagSupply (bank : Bank) (mv tenthMv : Nat) : State → State :=
  modBank bank (fun k => { k with supErr := k.supErr || supplyLow mv, refErr := k.refErr || referenceOff tenthMv })

section
variable {s : State} (up : isUp s = true)
include up

/-! ### Current sums (R310) -/

section
variable {b : Fin 8} {m : Nat} (assigned : bridgeMach s b = some m)
include assigned

theorem execCurrentSumViolation_a_of_exceeded (on : domOn s 6 = true) (sampling : (bridgeAt s b).recalA = false)
    (untold : (bridgeAt s b).sumA = false) (many : bSns s b 4 ≤ (bridgeAt s b).isumA) :
    execCurrentSumViolation .a b s = .next (raiseFault 0x0301 b (srcBridge b) (.machine m) []
      (modBridge b (fun br => { br with sumA := true }) s)) := by
  simp [execCurrentSumViolation, bankDom, assigned, up, on, sampling, untold, many]

theorem execCurrentSumViolation_b_of_exceeded (on : domOn s 7 = true) (sampling : (bridgeAt s b).recalB = false)
    (untold : (bridgeAt s b).sumB = false) (many : bSns s b 4 ≤ (bridgeAt s b).isumB) :
    execCurrentSumViolation .b b s = .next (raiseFault 0x0302 b (srcBridge b) (.machine m) []
      (modBridge b (fun br => { br with sumB := true }) s)) := by
  simp [execCurrentSumViolation, bankDom, assigned, up, on, sampling, untold, many]

end

/-! ### Sensor supplies and references (R311) -/

section
variable {bank : Bank} {us : Nat} (on : domOn s (bankDom bank) = true) (long : 100 ≤ us)
include on long

/-- What was measured is judged: the module is up, the bank is on and the time of R311 is over. -/
theorem sensorSupply_judged : ¬ (!isUp s || !domOn s (bankDom bank) || decide (us < 100)) = true := by
  simp [up, on, long]

section
variable {mv tenthMv : Nat} (out : (supplyLow mv || referenceOff tenthMv) = true)
include out

theorem execSensorSupplyFault_of_untold (untold : supplyTold s bank = false) :
    execSensorSupplyFault bank mv tenthMv us s = .next (raiseFault 0x0305 (bankDom bank) (srcBank bank) .device []
      (tellSupply bank true (flagSupply bank mv tenthMv s))) :=
  (if_neg (sensorSupply_judged up on long)).trans ((if_pos out).trans (if_neg (ne_true_of_eq_false untold)))

theorem execSensorSupplyFault_of_told (told : supplyTold s bank = true) :
    execSensorSupplyFault bank mv tenthMv us s = .next (flagSupply bank mv tenthMv s) :=
  (if_neg (sensorSupply_judged up on long)).trans ((if_pos out).trans (if_pos told))

end

theorem execSensorSupplyFault_of_inside {mv tenthMv : Nat} (inside : (supplyLow mv || referenceOff tenthMv) = false) :
    execSensorSupplyFault bank mv tenthMv us s = .next (tellSupply bank false s) :=
  (if_neg (sensorSupply_judged up on long)).trans (if_neg (ne_true_of_eq_false inside))

end

end

section
variable {s : State}

/-! ### The window comparator of a phase current (R307, R308) -/

theorem execWindowComparatorTrip_of_outside {bank : Bank} {input : Fin 24} {mv : Int} {heldNs : Nat}
    (on : comparatorOn s bank input = true) :
    let v := compareInput bank input mv s
    hasBit (bankOf v bank).outside.toNat input = true → filterNs v input ≤ heldNs →
      execWindowComparatorTrip bank input mv heldNs s = .next (tripComparator bank input v) := by
  intro v outside filtered
  exact (if_pos on).trans (if_pos (by simp [v, outside, filtered]))

/-! ### The link voltage (R315 to R317) -/

theorem execOvTrip_of_high {b : Fin 8} {mv : Int} {heldNs : Nat} (acts : islandActs s (lowChan (bridgeLeg s b 0)) = true)
    (high : (lgPar s (lgOf s b) 3 : Int) * 1000 < mv) (filtered : 500 ≤ heldNs) :
    execOvTrip b mv heldNs s = .next (latchIsland 0x0501 [mv] (lowChan (bridgeLeg s b 0)) s) :=
  if_pos (by simp [acts, high, filtered])

section
variable {g : Fin 2} {us : Nat} (main : mainUp s = true) (long : 10 ≤ us)
include main long

theorem execOvWarn_of_above (fresh : (lgAt s g).ovWarn = false) (above : vlgAbove s g (lgPar s g 2) = true) :
    execOvWarn g us s =
      .next (raiseFault 0x0502 g (srcLg g) (.linkGroup g) [] (modLg g (fun x => { x with ovWarn := true }) s)) := by
  rw [execOvWarn, if_neg (by simp [main, long]), if_pos (by simp [fresh, above])]

theorem execOvWarn_of_back (warned : (lgAt s g).ovWarn = true) (back : vlgBelow s g ((lgPar s g 2 : Int) - 10) = true) :
    execOvWarn g us s = .next (modLg g (fun x => { x with ovWarn := false }) s) := by
  rw [execOvWarn, if_neg (by simp [main, long]), if_neg (by simp [warned]), if_pos (by simp [warned, back])]

theorem execUvLimit_of_below (fresh : (lgAt s g).uvLim = false) (used : lgPar s g 4 ≠ 0)
    (below : vlgBelow s g (lgPar s g 4) = true) :
    execUvLimit g us s =
      .next (raiseFault 0x0504 g (srcLg g) (.linkGroup g) [] (modLg g (fun x => { x with uvLim := true }) s)) := by
  rw [execUvLimit, if_neg (by simp [main, long]), if_pos (by simp [fresh, used, below])]

theorem execUvLimit_of_back (limited : (lgAt s g).uvLim = true)
    (back : lgPar s g 4 = 0 ∨ vlgAbove s g ((lgPar s g 4 : Int) + 10) = true) :
    execUvLimit g us s = .next (modLg g (fun x => { x with uvLim := false }) s) := by
  rw [execUvLimit, if_neg (by simp [main, long]), if_neg (by simp [limited]), if_pos (by simpa [limited] using back)]

end

end

/-- Settles O50, row by row. -/
theorem sensingRowsAct : Obligations.SensingRowsAct := by
  intro s up
  exact ⟨fun _ _ _ _ => execWindowComparatorTrip_of_outside,
    fun _ _ assigned => ⟨execCurrentSumViolation_a_of_exceeded up assigned, execCurrentSumViolation_b_of_exceeded up assigned⟩,
    fun _ _ _ long =>
      ⟨fun on => ⟨execSensorSupplyFault_of_untold (bank := .a) up on long, execSensorSupplyFault_of_told (bank := .a) up on long,
          execSensorSupplyFault_of_inside (bank := .a) up on long⟩,
        fun on => ⟨execSensorSupplyFault_of_untold (bank := .b) up on long, execSensorSupplyFault_of_told (bank := .b) up on long,
          execSensorSupplyFault_of_inside (bank := .b) up on long⟩⟩,
    fun _ _ _ => execOvTrip_of_high,
    fun _ _ main long => ⟨execOvWarn_of_above main long, execOvWarn_of_back main long, execUvLimit_of_below main long,
      execUvLimit_of_back main long⟩⟩

end Sys2Proof.Machine
end

section
/-! What the rows of the link voltage, of the chopper and of the discharge do (R313, R319 to R323, R325 to R329). -/

namespace Sys2Proof.Machine

/-! ### Forming V_LG (R313) -/

/-- The reading of bridge `b`, where it gives one. -/
def bridgeReading (s : State) (readings : List (Option Int)) (b : Nat) : Option Int :=
  if givesReading s b then readings.getD b none else none

/-- The readings of a group in ascending order. -/
def groupReadings (s : State) (g : Nat) (readings : List (Option Int)) : List Int :=
  ((lgBridges s g).filterMap (bridgeReading s readings)).foldl (fun l v => insertSorted v l) []

/-- Every bridge of a group shows its reading of this formation. -/
def storeReadings (g : Nat) (readings : List (Option Int)) (s : State) : State :=
  forEach (lgBridges s g) (fun b => modBridge b (fun br => { br with vdc := bridgeReading s readings b })) s

/-- What a formation does with the ascending readings: two are held against each other, three and more against their median. -/
def formFrom (g : Nat) (bs : List Nat) (reading : Nat → Option Int) (vs : List Int) (s : State) : State :=
  match vs with
  | [] => loseReadings g s
  | [_] => formVlg g vs s
  | [a, b] => markPair g a b (formVlg g vs s)
  | _ => forEach bs (fun b => markOpt (vs.getD (vs.length / 2) 0) (reading b) b) (formVlg g vs s)

/-- A row that ends by forming V_LG. -/
theorem next_formFrom (g : Nat) (bs : List Nat) (reading : Nat → Option Int) (vs : List Int) (s : State) :
    (match vs with
      | [] => .next (loseReadings g s)
      | [_] => .next (formVlg g vs s)
      | [a, b] => .next (markPair g a b (formVlg g vs s))
      | _ => .next (forEach bs (fun b => markOpt (vs.getD (vs.length / 2) 0) (reading b) b) (formVlg g vs s)) : Out) =
      .next (formFrom g bs reading vs s) := by
  unfold formFrom
  rcases vs with _ | ⟨_, _ | ⟨_, _ | ⟨_, _⟩⟩⟩ <;> rfl

section
variable (g : Nat) (bs : List Nat) (reading : Nat → Option Int) {vs : List Int} (s : State)

theorem formFrom_of_eq_nil (missing : vs = []) : formFrom g bs reading vs s = loseReadings g s := by
  subst missing
  rfl

theorem formFrom_of_length_one (one : vs.length = 1) : formFrom g bs reading vs s = formVlg g vs s := by
  obtain ⟨a, rfl⟩ := List.length_eq_one_iff.mp one
  rfl

theorem formFrom_of_eq_pair {a b : Int} (two : vs = [a, b]) :
    formFrom g bs reading vs s = markPair g a b (formVlg g vs s) := by
  subst two
  rfl

theorem formFrom_of_three_le_length (many : 3 ≤ vs.length) :
    formFrom g bs reading vs s =
      forEach bs (fun b => markOpt (vs.getD (vs.length / 2) 0) (reading b) b) (formVlg g vs s) := by
  match vs, many with
  | _ :: _ :: _ :: _, _ => rfl

end

theorem execLinkVoltageFormation_of_on {g : Fin 2} {readings : List (Option Int)} {s : State} (eight : readings.length = 8)
    (up : isUp s = true) (on : domOn s 3 = true) :
    let u := heatResistor g s
    execLinkVoltageFormation g readings s = .next
      (formFrom g (lgBridges u g) (bridgeReading u readings) (groupReadings u g readings) (storeReadings g readings u)) :=
  (if_neg (not_not.mpr eight)).trans ((if_neg (by simp [up, on])).trans (next_formFrom _ _ _ _ _))

section
variable {s : State} {g : Fin 2}

/-! ### The chopper (R319, R321 to R323) -/

section
variable (held : chopHeld s g = true)
include held

theorem execChopperOn_of_reached (available : chopperAvailable s g = true) (off : (lgAt s g).chopOn = false)
    (reached : 2 ≤ (lgAt s g).onRun) : execChopperOn g s = .next (setChopper g true s) :=
  if_pos (by simp [held, available, off, reached])

theorem execChopperOff_of_fallen (up : isUp s = true) (chopping : (lgAt s g).chopOn = true) (fallen : 2 ≤ (lgAt s g).offRun) :
    execChopperOff g s = .next (setChopper g false s) :=
  if_pos (by simp [held, up, chopping, fallen])

end

section
variable (supervised : chopSupervised s g = true)
include supervised

theorem execChopperUnavailable_of_breach {ifbMv : Int} (unlocked : (lgAt s g).chopLock = false)
    (breach : ((lgAt s g).chopOn = true ∧ belowHalf s g (lgAt s g).chopAt (chopOhms s g) ifbMv = true) ∨
      auxLatched s (2 * g.val) = true) :
    execChopperUnavailable g ifbMv s = .next (raiseFault 0x0503 g (srcLg g) (.linkGroup g) []
      (modLg g (fun x => { x with chopLock := true }) (setChopper g false s))) :=
  if_pos (by simpa [supervised, unlocked] using breach)

theorem execChopperUncommanded_of_off (off : (lgAt s g).chopOn = false) (ifbMv : Int) :
    let bad := aboveTenth s g (lgAt s g).chopAt (chopOhms s g) ifbMv
    let v := modLg g (fun x => { x with conducts := bad }) s
    execChopperUncommanded g ifbMv s =
      .next (if bad then raiseFault 0x0505 g (srcLg g) (.linkGroup g) [] v else v) :=
  if_pos (by simp [supervised, off])

/-- F-0506 is raised as the energy comes above 90 % of its limit, and not again while it stays there. -/
theorem execChopperEnergyLimit_of_supervised :
    let u := heatResistor g s
    let high := decide (9 / 10 * (lgPar u g 8 : Rat) < (lgAt u g).energy)
    let v := modLg g (fun x => { x with energyFlag := high }) u
    execChopperEnergyLimit g s =
      if high && !(lgAt u g).energyFlag then .next (raiseFault 0x0506 g (srcLg g) (.linkGroup g) [] v) else .next v :=
  if_pos supervised

end

/-! ### The discharge (R325, R327 to R329) -/

theorem execDischargeAutoStart_of_waiting (mon : monUp s = true) (waiting : (lgAt s g).autoWait = true)
    (automatic : lgPar s g 0xD = 1) (possible : dischargeRefusal s g = none) :
    execDischargeAutoStart g s = .next (beginDischarge g none s) :=
  if_pos (by simp [mon, waiting, automatic, possible])

theorem linkEmpty_of_lasting {since : Nat} (low : (lgAt s g).lowAt = some since) (lasting : since + 4000000 ≤ s.time.dev) :
    linkEmpty s g = true := by
  simp [linkEmpty, low, lasting]

theorem execDischargeEnd_of_empty (served : isUp s = true ∨ startHalted s = true) (on : domOn s 3 = true)
    (empty : linkEmpty s g = true) : execDischargeEnd g s = .next (endDischarge g s) :=
  if_pos (by simpa [on, empty] using served)

section
variable {m : Fin 8} (winding : windingGroup s m = some g.val) (up : isUp s = true)
include winding up

theorem execWindingDischargeEnd_of_empty (empty : linkEmpty s g = true) :
    execWindingDischargeEnd m s = .next (endDischarge g s) := by
  simp [execWindingDischargeEnd, winding, up, empty]

/-- Above 1 % of base speed the winding discharge aborts. -/
theorem execWindingDischargeEnd_of_turning (charged : linkEmpty s g = false) (turning : creeping s m = false) :
    execWindingDischargeEnd m s = .next (raise0508 g (toIdle m s)) := by
  simp [execWindingDischargeEnd, winding, up, charged, turning]

end

/-- The switch goes off with F-0507; a discharge through it, where P_WD_EN allows, goes on through a winding. -/
theorem execDischargeSwitchFault_of_breach {ifbMv : Int} (up : isUp s = true) (on : domOn s 3 = true)
    (breach : ((lgAt s g).disOn = true ∧ belowHalf s g (lgAt s g).disAt (disOhms s g) ifbMv = true) ∨
      auxLatched s (2 * g.val + 1) = true ∨
      ((lgAt s g).disOn = false ∧ aboveTenth s g (lgAt s g).disAt (disOhms s g) ifbMv = true)) :
    let v := raiseFault 0x0507 g (srcLg g) (.linkGroup g) [] (setDischarge g false s)
    (∀ d, (lgAt v g).dis = some d → d.winding = none → lgPar v g 0xE = 1 →
      execDischargeSwitchFault g ifbMv s = .next (tryWinding g 0 v)) ∧
    ((lgAt v g).dis = none → execDischargeSwitchFault g ifbMv s = .next v) := by
  intro v
  have row : execDischargeSwitchFault g ifbMv s = (match (lgAt v g).dis with
      | some d => if d.winding.isNone && lgPar v g 0xE == 1 then .next (tryWinding g 0 v) else .next v
      | none => .next v) := if_pos (by simpa [up, on, or_assoc] using breach)
  rw [row]
  exact ⟨fun d running switch allowed => by simp [running, switch, allowed], fun ended => by simp [ended]⟩

theorem execDischargeTimeout_of_late {d : Discharge} (served : isUp s = true ∨ startHalted s = true) (on : domOn s 3 = true)
    (running : (lgAt s g).dis = some d) (late : d.start + lgPar s g 0xC * 400000 ≤ s.time.dev)
    (charged : vlgBelow s g 60 = false) : execDischargeTimeout g s = .next (raise0508 g s) := by
  simp only [execDischargeTimeout, running]
  exact if_pos (by simpa [on, late, charged] using served)

end

/-- Settles O51, row by row. -/
theorem linkRowsAct : Obligations.LinkRowsAct := by
  intro s g
  refine ⟨fun readings eight up on => ?formation, fun held => ⟨execChopperOn_of_reached held, execChopperOff_of_fallen held⟩,
    fun ifbMv supervised => ⟨execChopperUnavailable_of_breach supervised, fun off carries => ?carries, fun off idle => ?idle⟩,
    fun supervised => ?energy, execDischargeAutoStart_of_waiting,
    fun _ low lasting => ?ends, fun _ up on breach => ⟨_, rfl, execDischargeSwitchFault_of_breach up on breach⟩,
    fun _ winding up => execWindingDischargeEnd_of_turning winding up, fun _ => execDischargeTimeout_of_late⟩
  case formation =>
    have row := execLinkVoltageFormation_of_on (g := g) eight up on
    exact ⟨fun missing => row.trans (congrArg _ (formFrom_of_eq_nil _ _ _ _ missing)),
      fun one => row.trans (congrArg _ (formFrom_of_length_one _ _ _ _ one)),
      fun _ _ two => row.trans (congrArg _ (formFrom_of_eq_pair _ _ _ _ two)),
      fun many => row.trans (congrArg _ (formFrom_of_three_le_length _ _ _ _ many))⟩
  case carries => exact (execChopperUncommanded_of_off supervised off ifbMv).trans (by simp [carries])
  case idle => exact (execChopperUncommanded_of_off supervised off ifbMv).trans (by simp [idle])
  case energy =>
    have row := execChopperEnergyLimit_of_supervised supervised
    exact ⟨fun high => ⟨fun fresh => row.trans (by simp [high, fresh]), fun told => row.trans (by simp [high, told])⟩,
      fun low => row.trans (by simp [not_lt.mpr low])⟩
  case ends =>
    have empty := linkEmpty_of_lasting low lasting
    exact ⟨fun served on => execDischargeEnd_of_empty served on empty,
      fun _ up winding => execWindingDischargeEnd_of_empty winding up empty⟩

end Sys2Proof.Machine
end

section
/-! What the rows of the monitor pair, of the comparators and checkers, of the torque windows and of the heartbeats do (R330, R334, R343
to R347, R364, R365). -/

namespace Sys2Proof.Machine

section
variable {s : State}

/-! ### The monitor pair (R330, R334, R347) -/

section
variable (mon : monUp s = true)
include mon

theorem execFastWrite_of_due {speeds : List SpeedSeen} (eight : speeds.length = 8)
    (due : s.safety.fastWin < s.time.dev / 40000) :
    execFastWrite speeds s = .next (forEach (machines s)
      (fun m v => writeFast m (monitorSpeed v m (speeds.getD m default)) v)
      { s with safety := { s.safety with fastWin := s.time.dev / 40000 } }) :=
  (if_neg (not_not.mpr eight)).trans (if_pos (by simp [mon, due]))

theorem execActiveShortUnavailable_of_still {b : Fin 8} (held : isHeld (bridgeAt s b) = true) (still : shortStill s b = true)
    (fresh : (bridgeAt s b).shortRaised = false) :
    execActiveShortUnavailable b s = .next (raiseFault 0x0620 b (srcBridge b) (.bridge b) []
      (modBridge b (fun br => { br with shortRaised := true }) s)) :=
  if_pos (by simp [mon, held, still, fresh])

theorem execTorqueMonitorWindow_of_due {m : Fin 8} (there : machExists s m = true) (due : windowDue s m = true) :
    execTorqueMonitorWindow m s = .next (monitorWindow m s) :=
  if_pos (by simp [mon, there, due])

end

/-! ### Comparators and checkers (R343 to R345) -/

/-- The code of a comparator mismatch (R345). -/
def mismatchCode : Pair → Nat
  | .main => 0x0601
  | .mon => 0x0602

/-- The next group; after the last one the first again, with its next bit. -/
def nextInjection (x : PairState) : PairState :=
  if x.injGroup = 7 then { x with injAt := x.injAt + injPeriod, injGroup := 0, injBit := (x.injBit + 1) % 64 }
  else { x with injAt := x.injAt + injPeriod, injGroup := x.injGroup + 1 }

section
variable {pair : Pair} (working : compared s pair = true)
include working

/-- Outside the injection cycle no flag is the injection's. -/
theorem execLockstepMismatch_of_compared (group : Fin 8) :
    execLockstepMismatch pair group false s = .next (lockstepFault (mismatchCode pair) pair s) :=
  if_pos (by simp [working])

theorem execCheckerFailure_of_compared (code : Bool) :
    execCheckerFailure pair code s = .next (lockstepFault 0x0604 pair s) :=
  if_pos working

/-- An injection that is not flagged is a failed checker. -/
theorem execRuntimeInjection_of_due (due : (pairState s (pairIx pair)).injAt ≤ s.time.dev) (flagged : Bool) :
    execRuntimeInjection pair flagged s = .next (if flagged then modPair pair nextInjection s
      else lockstepFault 0x0604 pair (modPair pair nextInjection s)) :=
  if_pos (by simp [working, due])

end

/-! ### The restart of a pair (R346) -/

/-- A pair whose test has passed runs, its injections from the first on. -/
def rerunPair (pair : Pair) (s : State) : State :=
  modPair pair (fun x =>
    { x with halted := false, testOk := true, injGroup := 0, injBit := 0, injAt := s.time.dev + injPeriod }) s

section
variable {inj : Nat} {clean : Bool} (up : isUp s = true)
include up

theorem execPairRestartDone_main_of_passed (halted : s.safety.main.halted = true) (passed : injPasses inj clean = true) :
    execPairRestartDone .main inj clean s = .next (rerunPair .main s) :=
  (if_pos (by simp [up, pairState, pairIx, halted])).trans (if_pos passed)

theorem execPairRestartDone_mon_of_passed (halted : s.safety.mon.halted = true) (passed : injPasses inj clean = true) :
    let v := rerunPair .mon s
    execPairRestartDone .mon inj clean s = .next (monRestarted { v with safety := { v.safety with monRestart := false } }) :=
  (if_pos (by simp [up, pairState, pairIx, halted])).trans (if_pos passed)

theorem execPairRestartDone_of_failed {pair : Pair} (halted : (pairState s (pairIx pair)).halted = true)
    (failed : injPasses inj clean = false) :
    execPairRestartDone pair inj clean s = .next (raiseFault 0x0605 (pairIx pair) (srcDom (2 + pairIx pair)) .device []
      { s with safety := { s.safety with injBad := true } }) :=
  (if_pos (by simp [up, halted])).trans (if_neg (ne_true_of_eq_false failed))

end

/-! ### Heartbeats (R364, R365) -/

/-- A link after an accepted heartbeat: three in a row end what a missed one began (R365). -/
def acceptBeat (challenge : Byte) (x : PairState) : PairState :=
  { x with seq := x.seq + 1, challenge := challenge, suspended := false, good := min 3 (x.good + 1),
           missed := x.missed && !(x.missed && decide (3 ≤ min 3 (x.good + 1))) }

theorem acceptBeat_missed_iff (challenge : Byte) (x : PairState) :
    (acceptBeat challenge x).missed = true ↔ x.missed = true ∧ min 3 (x.good + 1) < 3 := by
  simp only [acceptBeat]
  cases x.missed <;> simp

theorem heartState_modHeart_same (h : Heart) (f : PairState → PairState) (s : State) :
    heartState (modHeart h f s) h = f (heartState s h) := by
  cases h <;> rfl

/-- The challenge after an accepted heartbeat is a free value (log entry 3). -/
theorem execHeartbeat_of_answered {h : Heart} (up : isUp s = true) (sends : beats s h = true) :
    ∃ t challenge, execHeartbeat h ((heartState s h).seq + 1) (Config.dieAnswer (heartState s h).challenge) s = .next t ∧
      heartState t h = acceptBeat challenge (heartState s h) := by
  have guard : (isUp s && beats s h) = true := by simp [up, sends]
  cases h <;> exact ⟨_, _, (if_pos guard).trans (if_pos (by simp)), rfl⟩

/-- A heartbeat that misses its time is recorded on its link, and the count of accepted ones starts anew. -/
def missBeat (x : PairState) : PairState := { x with missed := true, good := 0 }

section
variable {ticks : Nat} (up : isUp s = true) (late : 30000 ≤ ticks)
include up late

theorem execHeartbeatMissed_main (fresh : s.safety.main.missed = false) (awaited : s.safety.main.suspended = false) :
    execHeartbeatMissed .main ticks s = .next (raiseFault 0x0640 0 (srcDom 2) .device [] (modPair .main missBeat s)) :=
  (if_pos (by simp [up, beats, heartState, awaited, late])).trans (if_neg (by simp [heartState, fresh]))

theorem execHeartbeatMissed_main2 (split : s.dev.split = true) (fresh : s.safety.main2.missed = false)
    (awaited : s.safety.main2.suspended = false) :
    execHeartbeatMissed .main2 ticks s = .next (raiseFault 0x0640 0 (srcDom 2) .device [] (modHeart .main2 missBeat s)) :=
  (if_pos (by simp [up, beats, split, heartState, awaited, late])).trans (if_neg (by simp [heartState, fresh]))

/-- The die cuts the contactor supply; where the main pair does not run, the fault waits and the soundpost overrides alone. -/
theorem execHeartbeatMissed_mon (fresh : s.safety.mon.missed = false) (awaited : s.safety.mon.suspended = false) :
    let v := modPair .mon missBeat s
    let w := forEach (List.range 4) (commandCtd false) { v with safety := { v.safety with ctdCut := true } }
    execHeartbeatMissed .mon ticks s = .next (if mainUp w then raiseFault 0x0641 1 (srcDom 3) .device [] w
      else override RS_BRIDGE_STATE false ⟨.fault 0x0641, 4, 1⟩ (List.range 8)
        { w with safety := { w.safety with wait641 := true } }) :=
  (if_pos (by simp [up, beats, heartState, awaited, late])).trans (if_neg (by simp [heartState, fresh]))

end

end

/-- Settles O52, row by row. -/
theorem monitorRowsAct : Obligations.MonitorRowsAct := by
  intro s
  refine ⟨fun _ eight mon due => execFastWrite_of_due mon eight due, fun _ mon => execActiveShortUnavailable_of_still mon,
    fun group => ⟨fun working => execLockstepMismatch_of_compared working group,
      fun working => execLockstepMismatch_of_compared working group⟩,
    fun _ code working => execCheckerFailure_of_compared working code,
    fun pair working due => ⟨_, rfl, execRuntimeInjection_of_due working due true, execRuntimeInjection_of_due working due false⟩,
    fun pair inj clean up halted => ⟨fun passed main => ?main, fun passed mon => ?mon,
      execPairRestartDone_of_failed up halted⟩,
    fun _ mon => execTorqueMonitorWindow_of_due mon, fun h up sends => ?heartbeat,
    fun ticks up => ⟨fun fresh awaited late => execHeartbeatMissed_main up late fresh awaited,
      fun split fresh awaited late => execHeartbeatMissed_main2 up late split fresh awaited, fun fresh awaited late => ?missed⟩⟩
  case main =>
    subst main
    exact execPairRestartDone_main_of_passed up halted passed
  case mon =>
    subst mon
    exact execPairRestartDone_mon_of_passed up halted passed
  case heartbeat =>
    obtain ⟨t, challenge, row, link⟩ := execHeartbeat_of_answered up sends
    exact ⟨t, row, by rw [link]; rfl, by rw [link]; rfl, by rw [link]; rfl, by rw [link]; exact acceptBeat_missed_iff _ _⟩
  case missed =>
    have row := execHeartbeatMissed_mon up late fresh awaited
    exact ⟨fun main => row.trans (congrArg _ (if_pos main)),
      fun restarting => row.trans (congrArg _ (if_neg (ne_true_of_eq_false restarting)))⟩

end Sys2Proof.Machine
end

section
/-! What LOCKOUT_CLEAR answers (R370, R473, R474): the order in which the signature, the ESN and the cause are judged. -/

namespace Sys2Proof.Machine

/-! ### Requests outside a session -/

/-- An opcode that is not open is refused to a request outside a session, at check 4 or at check 7 (Table 13.3). -/
theorem admits_of_unauthenticated {h : Hdr} {op : Nat} (outside : h.auth = false) (closed : opcodeOpen op = false)
    (p : List Byte) (s : State) : (admits h op p s).1 = false := by
  have tail : (admitTail h op p s).1 = false := by
    unfold admitTail
    split
    · rfl
    · rw [if_pos (by simp [outside, closed])]
  simp only [admits, outside, Bool.false_and, Bool.false_eq_true, if_false]
  split
  · exact tail
  · rfl

/-! ### A request that ends at once -/

/-- A request whose meaning is one reply, of any status, over an effect that leaves the contexts alone. -/
theorem begins_finishes {c : Instr} {h : Hdr} {op : Nat} {p : List Byte} {b : Bool} {s u v : State} {f : Nat → State → State}
    {status : U16} {data : List Byte} (w : WellBuilt s) (g : Begins h op p b s u) (hx : exec c s = .next (serve h op p b f s))
    (hv : v.proto.ctx = u.proto.ctx) (hf : f h.tag.toNat u = finish h.tag.toNat status data v) :
    ∃ t, exec c s = .next t ∧ Replies h status data t ∧ OnlyReply h.tag.toNat v t :=
  ⟨_, (begins_exec g hx).trans (congrArg _ hf), g.replies w _ _ _ hv, finish_onlyReply (by rw [hv]; exact g.tagLt w) _ _⟩

/-! ### The signature (R473, R474) -/

/-- The live nonce of a session is consumed. -/
def consumeNonce (sid : Nat) (s : State) : State := modSess sid (fun k => { k with nonce := none }) s

@[simp] theorem consumeNonce_safety (sid : Nat) (s : State) : (consumeNonce sid s).safety = s.safety := modSess_safety ..

@[simp] theorem consumeNonce_ctx (sid : Nat) (s : State) : (consumeNonce sid s).proto.ctx = s.proto.ctx := modSess_proto_ctx ..

section
variable {t opcode : Nat} {slot form : Byte} {subject : List Byte} {sig : Rsa} {s : State}

/-- Without a live nonce nothing is verified and nothing consumed. -/
theorem verifySigned_of_no_nonce (dead : liveNonce s (ctxAt s t).hdr.session.toNat = none) :
    verifySigned t opcode slot form subject sig s = (some RS_NONCE, s) := by
  simp [verifySigned, dead]

/-- A live nonce is consumed, whether the signature over it verifies or not. -/
theorem verifySigned_of_nonce {n : BitVec 128} (live : liveNonce s (ctxAt s t).hdr.session.toNat = some n) :
    verifySigned t opcode slot form subject sig s =
      (if slotSigOk s slot (Config.sha256 (statement opcode slot form n subject)) sig then none else some RS_NONE,
        consumeNonce (ctxAt s t).hdr.session.toNat s) := by
  simp only [verifySigned, live]
  rfl

end

/-! ### The steps of R370 -/

/-- The clearance of the lock-out that an event sequence number names is armed. -/
def armClearance (esn : Esn) (s : State) : State :=
  { s with safety := { s.safety with
    locks := s.safety.locks.map (fun x => if x.esn = esn then { x with armed := some s.time.dev } else x) } }

section
variable {t : Nat} {esn : Esn} {slot : Byte} {sig : Rsa} {s v : State}

theorem opLockoutClear_of_refused {why : Byte}
    (refused : verifySigned t 0x0B00 slot 0 (beBytes 4 esn.toNat) sig s = (some why, v)) :
    opLockoutClear t esn slot sig s = refuse t ST_NOT_AUTHORISED why 0xFF 0 v := by
  simp only [opLockoutClear, refused]

section
variable (signed : verifySigned t 0x0B00 slot 0 (beBytes 4 esn.toNat) sig s = (none, v))
include signed

theorem opLockoutClear_of_unknown (unknown : v.safety.locks.find? (fun k => k.esn == esn) = none) :
    opLockoutClear t esn slot sig s = refuse t ST_BAD_PARAM RS_NONE 0xFF 0 v := by
  simp only [opLockoutClear, signed, unknown]

theorem opLockoutClear_of_known {k : Lockout} (known : v.safety.locks.find? (fun k => k.esn == esn) = some k) :
    opLockoutClear t esn slot sig s =
      if lockPresent v k then refuse t ST_WRONG_STATE RS_CAUSE_PRESENT 0xFF 0 v
      else finish t ST_OK [] (armClearance esn v) := by
  simp only [opLockoutClear, signed, known]
  rfl

end

end

/-- Settles O22: the first step that fails decides the reply, and each reply is over the state that step leaves. -/
theorem lockoutClearJudgesInOrder : Obligations.LockoutClearJudgesInOrder := by
  refine ⟨fun h p s outside => admits_of_unauthenticated outside (by decide) p s, fun h esn slot sig s u w g => ?_⟩
  obtain ⟨-, -, hdr, -⟩ := g.context w
  have ends : ∀ {status data} (v : State), v.proto.ctx = u.proto.ctx →
      opLockoutClear h.tag.toNat esn slot sig u = finish h.tag.toNat status data v →
      ∃ t, exec (.lockoutClear h esn slot sig) s = .next t ∧ Replies h status data t ∧ OnlyReply h.tag.toNat v t :=
    fun _ ctx meaning => begins_finishes (f := fun t => opLockoutClear t esn slot sig) w g rfl ctx meaning
  intro c refused
  refine ⟨fun dead => ?noNonce, fun n live => ?_⟩
  case noNonce => exact ends u rfl (opLockoutClear_of_refused (verifySigned_of_no_nonce (by rwa [hdr])))
  intro good v
  have verdict : verifySigned h.tag.toNat 0x0B00 slot 0 (beBytes 4 esn.toNat) sig u = (if good then none else some RS_NONE, v) := by
    rw [verifySigned_of_nonce (by rwa [hdr]), hdr]
    rfl
  have ctx : v.proto.ctx = u.proto.ctx := consumeNonce_ctx ..
  have safety : v.safety = u.safety := consumeNonce_safety ..
  have signed : good = true → verifySigned h.tag.toNat 0x0B00 slot 0 (beBytes 4 esn.toNat) sig u = (none, v) := fun valid => by
    rw [verdict, if_pos valid]
  refine ⟨fun invalid => ?signature, fun valid unknown => ?esn, fun k valid known present => ?present,
    fun k valid known absent => ?absent⟩
  case signature =>
    rw [if_neg (ne_true_of_eq_false invalid)] at verdict
    exact ends v ctx (opLockoutClear_of_refused verdict)
  case esn =>
    have missing : v.safety.locks.find? (fun k => k.esn == esn) = none := by simpa [safety] using unknown
    exact ends v ctx (opLockoutClear_of_unknown (signed valid) missing)
  case present =>
    rw [← safety] at known
    exact ends v ctx ((opLockoutClear_of_known (signed valid) known).trans (if_pos present))
  case absent =>
    rw [← safety] at known
    exact ends (armClearance esn v) ctx
      ((opLockoutClear_of_known (signed valid) known).trans (if_neg (ne_true_of_eq_false absent)))

end Sys2Proof.Machine
end

section
/-! What a clearance comes to at the edge of DRV_EN (R371). -/

namespace Sys2Proof.Machine

/-! ### Events that are only recorded -/

/-- The level of a code is read from the stores. -/
theorem faultLevel_of_store {s t : State} (h : t.store = s.store) (code : Nat) : faultLevel t code = faultLevel s code := by
  unfold faultLevel parN
  rw [par_of_store h]

/-- Whether a winding discharge runs is read from the link groups. -/
theorem NoWinding.of_lgs {s t : State} (h : NoWinding s) (lgs : t.lgs = s.lgs) : NoWinding t := fun g d hd =>
  h g d (by rwa [lgAt_of_lgs lgs] at hd)

/-- Below L2, and without a winding discharge, a code whose chapter gives it no reaction has none (R20, R328). -/
theorem reactSrc_of_mild {code : Nat} {s : State} (mild : faultLevel s code < 2) (calm : NoWinding s) (src : U16) (e : Esn) :
    reactSrc code src e s = s := by
  unfold reactSrc
  rw [react_of_lt_two mild]
  simp [calm.abortedWinding, forEach]

/-- Such an event is recorded, and that is all. -/
theorem note_of_mild {code : Nat} {s : State} (mild : faultLevel s code < 2) (calm : NoWinding s) (src : U16) (data : List Byte) :
    note code src data s = (recordEvent code (faultLevel s code) src data s).2 := by
  have store : (recordEvent code (faultLevel s code) src data s).2.store = s.store := by simp [id recordEvent_same]
  have lgs : (recordEvent code (faultLevel s code) src data s).2.lgs = s.lgs := by simp [id recordEvent_same]
  exact reactSrc_of_mild (by rwa [faultLevel_of_store store]) (calm.of_lgs lgs) ..

/-! ### One armed lock-out -/

/-- The clearance of a lock-out is spent; the lock-out stands. -/
def spendClearance (esn : Esn) (s : State) : State :=
  { s with safety := { s.safety with
    locks := s.safety.locks.map (fun x => if x.esn = esn then { x with armed := none } else x) } }

/-- A lock-out is gone. -/
def removeLockout (esn : Esn) (s : State) : State :=
  { s with safety := { s.safety with locks := s.safety.locks.filter (fun x => x.esn != esn) } }

/-- With the lock-out of F-0503 its link group's chopper works again, and the machines of the group regenerate in full. -/
def unlockChopper (k : Lockout) (s : State) : State :=
  match k.code.toNat, k.scope with
  | 0x0503, .linkGroup g =>
    forEach ((machines s).filter (fun m => machLg s m == g)) (fun m => modMach m (fun x => { x with regenF := 5 }))
      (modLg g (fun x => { x with chopLock := false }) s)
  | _, _ => s

theorem unlockChopper_safety (k : Lockout) (s : State) : (unlockChopper k s).safety = s.safety := by
  unfold unlockChopper
  split
  · exact forEach_proj State.safety (by intros; rfl) _ _
  · rfl

theorem unlockChopper_recd (k : Lockout) (s : State) : (unlockChopper k s).recd = s.recd := by
  unfold unlockChopper
  split
  · exact forEach_proj State.recd (by intros; rfl) _ _
  · rfl

section
variable {present : State → Bool} {k : Lockout} {s : State}

theorem judgeLockout_of_outside (outside : inLockWin s k = false) : judgeLockout present k s = s :=
  if_pos (by simp [outside])

section
variable (inside : inLockWin s k = true)
include inside

theorem judgeLockout_of_present (there : present s = true) :
    judgeLockout present k s = spendClearance k.esn (recordEvent k.code.toNat 4 (codeSrc k.code.toNat k.ix) [] s).2 :=
  (if_neg (by simp [inside])).trans (if_pos there)

theorem judgeLockout_of_absent (gone : present s = false) (mild : faultLevel s 0x0650 < 2) (calm : NoWinding s) :
    judgeLockout present k s = unlockChopper k (recordEvent 0x0650 (faultLevel s 0x0650) (codeSrc k.code.toNat k.ix)
      (beBytes 4 k.esn.toNat) (removeLockout k.esn s)).2 := by
  have row : judgeLockout present k s =
      unlockChopper k (note 0x0650 (codeSrc k.code.toNat k.ix) (beBytes 4 k.esn.toNat) (removeLockout k.esn s)) :=
    (if_neg (by simp [inside])).trans (if_neg (ne_true_of_eq_false gone))
  rw [row, note_of_mild (s := removeLockout k.esn s) mild calm]
  rfl

end

end

/-- Settles O17: an edge outside the window changes nothing; inside it the cause decides, and what is recorded is the newest entry. -/
theorem clearancesAreJudgedAtTheEdge : Obligations.ClearancesAreJudgedAtTheEdge := by
  intro present k s _ live
  refine ⟨judgeLockout_of_outside, fun inside there => ?present, fun inside gone mild calm => ?absent⟩
  case present =>
    have safety : (recordEvent k.code.toNat 4 (codeSrc k.code.toNat k.ix) [] s).2.safety = s.safety := by simp [id recordEvent_same]
    rw [judgeLockout_of_present inside there]
    exact ⟨by simp only [spendClearance, safety], (recordEvent_recorded live ..).of_recd rfl⟩
  case absent =>
    have row := judgeLockout_of_absent inside gone mild calm
    have locks : (judgeLockout present k s).safety.locks = s.safety.locks.filter (fun x => x.esn != k.esn) := by
      rw [row, unlockChopper_safety]
      simp [id recordEvent_same, removeLockout]
    have recorded : Recorded 0x0650 (faultLevel s 0x0650) (codeSrc k.code.toNat k.ix) (beBytes 4 k.esn.toNat) s
        (judgeLockout present k s) := by
      rw [row]
      exact (recordEvent_recorded (s := removeLockout k.esn s) live ..).of_recd (unlockChopper_recd ..)
    dsimp only
    rw [locks]
    exact ⟨fun x kept => by simpa using (List.mem_filter.mp kept).2, fun x stood other => List.mem_filter.mpr ⟨stood, by simpa using other⟩,
      recorded⟩

end Sys2Proof.Machine
end

section
/-! What the inputs of Safe Torque Off do (R355 to R357, R359). -/

namespace Sys2Proof.Machine

section
variable {s : State}

/-! ### A low channel (R355, R356) -/

/-- A channel demands already. -/
def demands (ch : StoCh) (s : State) : Bool :=
  match ch with
  | .a => s.safety.demA
  | .b => s.safety.demB

theorem execStoDemand_of_idle {ch : StoCh} (on : s.dev.ph ≠ .off) (idle : demands ch s = false) (lowUs : Nat) :
    execStoDemand ch lowUs s = .next (if (lowDemands lowUs s).1 then demand ch (lowDemands lowUs s).2 else (lowDemands lowUs s).2) :=
  if_neg (by cases ch <;> simpa [demands, on] using idle)

/-- The filter passes a level of 1.1 ms. -/
theorem lowDemands_of_long {lowUs : Nat} (long : 1100 ≤ lowUs) : lowDemands lowUs s = (true, s) :=
  (if_neg (by omega)).trans (if_pos long)

/-- It stops a level of 1.0 ms. -/
theorem lowDemands_of_short {lowUs : Nat} (short : lowUs ≤ 1000) : lowDemands lowUs s = (false, s) :=
  if_pos short

/-- Between them it may do either. -/
theorem lowDemands_between {lowUs : Nat} (long : 1000 < lowUs) (short : lowUs < 1100) :
    lowDemands lowUs s = (Config.freeBit s.time.free, { s with time := { s.time with free := s.time.free + 1 } }) :=
  (if_neg (by omega)).trans (if_neg (by omega))

theorem execStoDemand_of_long {ch : StoCh} {lowUs : Nat} (on : s.dev.ph ≠ .off) (long : 1100 ≤ lowUs)
    (idle : demands ch s = false) : execStoDemand ch lowUs s = .next (demand ch s) := by
  simp [execStoDemand_of_idle on idle, lowDemands_of_long long]

/-- A level that the filter stops does nothing, whatever the device does. -/
theorem execStoDemand_of_short {lowUs : Nat} (short : lowUs ≤ 1000) (ch : StoCh) : execStoDemand ch lowUs s = .next s := by
  by_cases off : s.dev.ph = .off
  · simp [execStoDemand, off]
  · cases demanding : demands ch s
    · simp [execStoDemand_of_idle off demanding, lowDemands_of_short short]
    · exact if_pos (by cases ch <;> simpa [demands, off] using demanding)

theorem execStoDemand_between {ch : StoCh} {lowUs : Nat} (on : s.dev.ph ≠ .off) (idle : demands ch s = false)
    (long : 1000 < lowUs) (short : lowUs < 1100) :
    let v := { s with time := { s.time with free := s.time.free + 1 } }
    execStoDemand ch lowUs s = .next (if Config.freeBit s.time.free then demand ch v else v) := by
  simp only [execStoDemand_of_idle on idle, lowDemands_between long short]

/-! ### Both channels high (R357) -/

theorem execStoDemandEnd_of_long {highUs : Nat} (on : s.dev.ph ≠ .off) (long : 10000 ≤ highUs) :
    execStoDemandEnd highUs s = .next (endDemand s) :=
  if_pos (by simp [on, long])

/-! ### A disagreement (R359) -/

/-- The channel that does not demand has been seen high. -/
def markDiscrepancy (s : State) : State :=
  { s with
    pins := if s.safety.demA then { s.pins with stoB := true } else { s.pins with stoA := true }
    safety := { s.safety with disc := true } }

theorem execStoDiscrepancy_of_lasting {ms : Nat} (mon : monUp s = true) (lasting : parN s 0x8F01 ≤ ms)
    (fresh : s.safety.disc = false) (differ : s.safety.demA ≠ s.safety.demB) :
    execStoDiscrepancy ms s = .next (raiseFault 0x0631 0 (srcDom 3) .device [] (markDiscrepancy s)) := by
  refine (if_pos (by simp [mon, lasting, fresh, differ])).trans ?_
  unfold markDiscrepancy
  cases s.safety.demA <;> rfl

end

/-- Settles O39, row by row. -/
theorem stoRowsAct : Obligations.StoRowsAct := by
  intro s
  refine ⟨fun _ on long => ⟨execStoDemand_of_long (ch := .a) on long, execStoDemand_of_long (ch := .b) on long⟩,
    fun _ short => ⟨execStoDemand_of_short short .a, execStoDemand_of_short short .b⟩,
    fun _ on idle long short => execStoDemand_between (ch := .a) on idle long short, fun _ => execStoDemandEnd_of_long,
    fun ms mon lasting fresh => ⟨fun a b => ?alone, fun a b => ?other⟩⟩
  case alone =>
    have row := execStoDiscrepancy_of_lasting mon lasting fresh (by simp [a, b])
    rwa [markDiscrepancy, if_pos a] at row
  case other =>
    have row := execStoDiscrepancy_of_lasting mon lasting fresh (by simp [a, b])
    rwa [markDiscrepancy, if_neg (ne_true_of_eq_false a)] at row

end Sys2Proof.Machine
end

section
/-! What the safety monitor die and the contactor drivers do (R360, R361, R367, R368). -/

namespace Sys2Proof.Machine

section
variable {s : State}

/-! ### Supplies (R367) -/

/-- The die's record of whether a supply is out of its window. -/
def setSupplyBad (sup : Supply) (bad : Bool) (s : State) : State :=
  { s with safety := { s.safety with supBad := s.safety.supBad.set (supplyIx sup) bad } }

section
variable {sup : Supply} {mv ticks : Nat} (live : isLive s = true)
include live

theorem execSupplyOutOfWindow_of_inside (inside : supplyInside s sup mv = true) :
    execSupplyOutOfWindow sup mv ticks s = .next (setSupplyBad sup false s) :=
  (if_neg (by simp [live])).trans (if_pos inside)

theorem execSupplyOutOfWindow_of_outside (outside : supplyInside s sup mv = false) (long : 20 ≤ ticks)
    (fresh : s.safety.supBad.getD (supplyIx sup) false = false) :
    execSupplyOutOfWindow sup mv ticks s =
      .next (raiseFault 0x0642 (supplyIx sup) (srcDom 1) .device [] (markFreeze 5 (setSupplyBad sup true s))) :=
  ((if_neg (by simp [live])).trans (if_neg (ne_true_of_eq_false outside))).trans
    (if_neg (not_or.mpr ⟨Nat.not_lt.mpr long, ne_true_of_eq_false fresh⟩))

end

/-- The device is held in BOOT without a cause: start-up does not begin (log entry 15). -/
def holdReset (sup : Supply) (s : State) : State :=
  let v := enterBoot .restart s
  { v with safety := { v.safety with held := true, supLow := v.safety.supLow.set (supplyIx sup) true },
           dev := { v.dev with bootCause := none } }

theorem execSupplyLowReset_of_low {sup : Supply} {mv us : Nat} (live : isLive s = true)
    (low : (mv : Rat) < (supplyWindow s sup).1) (long : 1000 ≤ us) :
    execSupplyLowReset sup mv us s = .next (holdReset sup s) :=
  if_pos (by simp [live, low, long])

/-- A supply that was low is back: its record ends, and with the last of them the reset. -/
theorem execSupplyResetRelease_of_back {sup : Supply} {mv us : Nat} (held : s.safety.held = true)
    (low : s.safety.supLow.getD (supplyIx sup) false = true) (inside : supplyInside s sup mv = true) (long : 10000 ≤ us) :
    let rest := s.safety.supLow.set (supplyIx sup) false
    let v := { s with safety := { s.safety with supLow := rest, supBad := s.safety.supBad.set (supplyIx sup) false } }
    execSupplyResetRelease sup mv us s = .next (if rest.any id then v
      else { v with safety := { v.safety with held := false }, dev := { s.dev with bootCause := some .restart } }) :=
  if_pos (by simp only [held, low, inside, long, decide_true, Bool.and_self])

/-! ### The check of the die (R368) -/

/-- The die's answer comes, right and in its time. -/
def dieAnswers (answerOk : Bool) (ticks : Nat) : Bool := answerOk && decide (950000 ≤ ticks ∧ ticks ≤ 1050000)

theorem dieAnswers_eq_false {answerOk : Bool} {ticks : Nat} (wrong : answerOk = false ∨ ticks < 950000 ∨ 1050000 < ticks) :
    dieAnswers answerOk ticks = false := by
  simp only [dieAnswers, Bool.and_eq_false_iff, decide_eq_false_iff_not]
  exact wrong.imp_right fun untimely => by omega

/-- Whether the last check of the die failed. -/
def setDieBad (bad : Bool) (s : State) : State := { s with safety := { s.safety with dieBad := bad } }

theorem execDieCheck_of_up (mon : monUp s = true) (answerOk : Bool) (ticks : Nat) :
    execDieCheck answerOk ticks s = .next (if dieAnswers answerOk ticks then setDieBad (!dieAnswers answerOk ticks) s
      else raiseFault 0x0643 0 (srcDom 3) .device [] (setDieBad (!dieAnswers answerOk ticks) s)) :=
  if_pos mon

/-! ### Contactor drivers (R360, R361) -/

section
variable {n : Fin 4} (mon : monUp s = true)
include mon

theorem execContactorPullInEnd_of_elapsed (closed : (ctdAt s n).closed = true) (pulling : (ctdAt s n).econ = false)
    (elapsed : (ctdAt s n).since + ctPar s n 3 * 400000 ≤ s.time.dev) (economises : ctPar s n 4 ≠ 100) :
    execContactorPullInEnd n s = .next (modCtd n (fun c => { c with econ := true }) s) :=
  if_pos (by simp [mon, closed, pulling, elapsed, economises])

/-- The fault ends the check of the driver before it reacts; then the command that the driver carried out ends. -/
theorem execContactorFeedbackFail_of_late {cfb : BitVec 6} {ms : Nat} :
    let v := { s with pins := { s.pins with cfb := cfb } }
    let u := modCtd n (fun c => { c with checking := false, tag := none }) v
    let w := raiseFault 0x0607 n (srcDom 3) (ctdScope u n) [BitVec.ofNat 8 n.val] u
    feedbackAll v cfb n (ctdAt v n).closed = false → cfbTime v ≤ ms →
    (∀ t, (ctdAt v n).tag = some t →
      execContactorFeedbackFail n cfb ms s = .next (refuse t ST_TIMEOUT RS_NONE (ixByte n) 0 (dropContactorTag t w))) ∧
    ((ctdAt v n).tag = none → execContactorFeedbackFail n cfb ms s = .next w) := by
  intro v u w differs late
  have guard : (feedbackAll v cfb n (ctdAt v n).closed || decide (ms < cfbTime v)) = false := by simp [differs, late]
  have row : execContactorFeedbackFail n cfb ms s = (match (ctdAt v n).tag with
      | some t => .next (refuse t ST_TIMEOUT RS_NONE (ixByte n) 0 (dropContactorTag t w))
      | none => .next w) :=
    (if_neg (by simp [mon])).trans (if_neg (ne_true_of_eq_false guard))
  rw [row]
  exact ⟨fun t ordered => by rw [ordered], fun free => by rw [free]⟩

end

end

/-- Settles O53, row by row. -/
theorem dieAndContactorRowsAct : Obligations.DieAndContactorRowsAct := by
  intro s
  refine ⟨fun _ _ _ live => ⟨execSupplyOutOfWindow_of_inside live, execSupplyOutOfWindow_of_outside live⟩,
    fun _ _ _ live low long => ⟨_, execSupplyLowReset_of_low live low long, rfl, rfl, rfl⟩,
    fun _ _ _ held low inside long => ⟨fun others => ?stillLow, fun last => ?released⟩,
    fun answerOk ticks mon => ⟨fun right early late => ?answered, fun wrong => ?failed⟩,
    fun _ => execContactorPullInEnd_of_elapsed, fun _ _ _ mon differs late => ⟨_, rfl, execContactorFeedbackFail_of_late mon differs late⟩⟩
  case stillLow => exact (execSupplyResetRelease_of_back held low inside long).trans (congrArg _ (if_pos (by simpa using others)))
  case released => exact (execSupplyResetRelease_of_back held low inside long).trans (congrArg _ (if_neg (by simpa using last)))
  case answered =>
    have answers : dieAnswers answerOk ticks = true := by simp [dieAnswers, right, early, late]
    have row := execDieCheck_of_up mon answerOk ticks
    rwa [answers] at row
  case failed =>
    have row := execDieCheck_of_up mon answerOk ticks
    rwa [dieAnswers_eq_false wrong] at row

end Sys2Proof.Machine
end

section
/-! What the rows of the temperature readings and of the compensation do (R379, R384, R390, R392, R394). -/

namespace Sys2Proof.Machine

section
variable {s : State}

/-! ### The main pair's measurement (R379, R384) -/

theorem execTempMeasurement_of_main (readings : List (Fin 104 × Reading)) (main : mainUp s = true) :
    let u := forgetUnread { s with dev := { s.dev with oldThermal := none } }
    let l := measuredNow u readings
    execTempMeasurement readings s = .next (updateCap (forEach l (settleSensor u) (forEach l (crossCheck u readings)
      (forEach l (fun i => takeReading i (readingOf readings i)) u)))) :=
  if_pos main

theorem execOffsetLearn_of_eligible {i : Fin 104} {m : Rat} (main : mainUp s = true) (fitted : sensorRead s i = true)
    (read : (tempAt s i).read = true) (valid : (tempAt s i).invalid = false) (trusted : (tempAt s i).suspect = false)
    (due : periodOver s (tempAt s i).learnAt slowPeriod = true) (between : neighbourMedian s s i = some m) :
    let dev : Rat := ((tempAt s i).reading : Rat) - (m + (tempAt s i).offset)
    execOffsetLearn i s = .next (modTemp i (fun x => { x with
      learnAt := some s.time.dev, dev := dev,
      offset := clampRat ((thermParN s 0x9F00 * 5 : Nat) : Rat)
        ((tempAt s i).offset + dev * (1 / 10) / (thermParN s 0x9F01 : Nat)) }) s) :=
  (if_pos (by simp [main, fitted, read, valid, trusted, due])).trans (by rw [between])

/-! ### The monitor pair's trip rule (R390) -/

/-- The monitor pair takes its own reading of a sensor. -/
def takeOwn (i : Nat) (r : Reading) (s : State) : State :=
  modTemp i (fun x => { x with monAt := some s.time.dev, own := validReading s i r }) s

/-- A reading not below T_stop - 5 K re-enables no trip, so the value alone decides, and at T_trip it raises F-0706 for every machine
in the sensor's scope. -/
theorem execMonitorTripCheck_of_hot {i : Fin 104} {r : Reading} {t : Rat} (mon : monUp s = true) (fitted : sensorRead s i = true)
    (due : periodOver s (tempAt s i).monAt slowPeriod = true) (warm : readsBelow (takeOwn i r s) i r = false)
    (value : monitorValue (takeOwn i r s) i = some t) (hot : (tTrip (takeOwn i r s) i : Rat) ≤ t) :
    execMonitorTripCheck i r s =
      .next (forEach (sensorMachines (takeOwn i r s) i) (raiseTrip i) (takeOwn i r s)) := by
  have judged : (monUp s && sensorRead s i && periodOver s (tempAt s i).monAt slowPeriod) = true := by
    simp only [mon, fitted, due, Bool.and_self]
  rw [takeOwn] at warm value hot ⊢
  simp [execMonitorTripCheck, judged, warm, value, hot]

/-! ### The compensation (R392) -/

theorem execTempCompensation_of_due (gapA refA gapB refB : Int) (main : mainUp s = true)
    (due : periodOver s s.dev.compAt slowPeriod = true) :
    execTempCompensation gapA refA gapB refB s = .next (refCheck .b gapB refB (refCheck .a gapA refA (compensate s))) :=
  if_pos (by simp [main, due])

theorem execTempCompensationLate_of_late {last : Nat} (up : isUp s = true) (before : s.dev.compAt = some last)
    (late : last + 3 * slowPeriod < s.time.dev) (untold : s.dev.compTold = false) :
    execTempCompensationLate s = .next (note 0x0711 (srcTemp 0) [] { s with dev := { s.dev with compTold := true } }) :=
  if_pos (by simp [up, before, late, untold])

end

/-- Settles O54, row by row. -/
theorem temperatureRowsAct : Obligations.TemperatureRowsAct := by
  intro s
  exact ⟨execTempMeasurement_of_main, fun _ _ => execOffsetLearn_of_eligible, fun _ _ _ => execMonitorTripCheck_of_hot,
    execTempCompensation_of_due, fun _ => execTempCompensationLate_of_late⟩

end Sys2Proof.Machine
end

section
/-! What every command leaves alone, what is one-way, and that every well-formed command answers (R537, R544, INDEX.md). -/

namespace Sys2Proof.Machine

/-! ### The parts outside a command's list -/

/-- Between two states no part has changed but those of a list. -/
def OnlyChanges (ps : List Part) (s t : State) : Prop := ∀ p, p ∉ ps → Part.same s t p

theorem OutAll.onlyChanges {P : State → Prop} {ps : List Part} {o : Out} {s : State} (same : OutAll P o)
    (apart : ∀ t, P t → OnlyChanges ps s t := by
      intro t same p
      cases p <;> simp only [Part.same, same, and_self, implies_true]
      all_goals exact fun outside => absurd (List.elem_iff.mp rfl) outside) :
    OutAll (OnlyChanges ps s) o :=
  same.mono apart

/-- What recording an event or raising a fault leaves alone. -/
theorem OutAll.onlyFaultParts {o : Out} {s : State} (same : OutAll (fun t => Same1 s t) o) : OutAll (OnlyChanges faultParts s) o :=
  same.onlyChanges

/-- What taking a request leaves alone. -/
theorem OutAll.onlyRequestParts {o : Out} {s : State} (same : OutAll (fun t => Same2 s t) o) :
    OutAll (OnlyChanges requestParts s) o :=
  same.onlyChanges

/-- DISPATCH leaves the pins and device time alone, whichever opcode waits. -/
theorem CallKeeps.onlyChanges {s t : State} (kept : CallKeeps s t) : OnlyChanges (mayChange .dispatch) s t := by
  obtain ⟨-, pins, time, -⟩ := kept
  intro p
  cases p <;> simp only [Part.same, pins, time, implies_true]
  all_goals exact fun outside => absurd (List.elem_iff.mp rfl) outside

/-- Every command changes only the parts in its list: its frame lemma names them. -/
theorem exec_onlyChanges (c : Instr) (s : State) : OutAll (OnlyChanges (mayChange c) s) (exec c s) := by
  cases c with
  | identify a0 => exact OutAll.onlyRequestParts (execIdentify_same a0 s)
  | getState a0 => exact OutAll.onlyRequestParts (execGetState_same a0 s)
  | setOpModeEnter a0 => exact (execSetOpModeEnter_same a0 s).onlyChanges
  | setOpModeLeave a0 => exact (execSetOpModeLeave_same a0 s).onlyChanges
  | reset a0 a1 => exact (execReset_same a0 a1 s).onlyChanges
  | ctxQuery a0 a1 => exact OutAll.onlyRequestParts (execCtxQuery_same a0 a1 s)
  | arm a0 a1 => exact (execArm_same a0 a1 s).onlyChanges
  | disarm a0 a1 => exact OutAll.onlyRequestParts (execDisarm_same a0 a1 s)
  | torqueSet a0 a1 a2 => exact OutAll.onlyRequestParts (execTorqueSet_same a0 a1 a2 s)
  | speedSet a0 a1 a2 => exact OutAll.onlyRequestParts (execSpeedSet_same a0 a1 a2 s)
  | safeState a0 a1 a2 => exact OutAll.onlyRequestParts (execSafeState_same a0 a1 a2 s)
  | start a0 a1 a2 => exact OutAll.onlyRequestParts (execStart_same a0 a1 a2 s)
  | pluckTest a0 a1 => exact OutAll.onlyRequestParts (execPluckTest_same a0 a1 s)
  | retire a0 a1 a2 => exact (execRetire_same a0 a1 a2 s).onlyChanges
  | cmpArm a0 a1 a2 a3 => exact (execCmpArm_same a0 a1 a2 a3 s).onlyChanges
  | cmpStatus a0 a1 => exact OutAll.onlyRequestParts (execCmpStatus_same a0 a1 s)
  | remap a0 a1 a2 a3 => exact (execRemap_same a0 a1 a2 a3 s).onlyChanges
  | paramRead a0 a1 a2 => exact OutAll.onlyRequestParts (execParamRead_same a0 a1 a2 s)
  | paramWrite a0 a1 => exact OutAll.onlyRequestParts (execParamWrite_same a0 a1 s)
  | paramCommitPrepare a0 => exact OutAll.onlyRequestParts (execParamCommitPrepare_same a0 s)
  | paramCommitApply a0 a1 a2 a3 a4 => exact (execParamCommitApply_same a0 a1 a2 a3 a4 s).onlyChanges
  | paramCommitDiscard a0 => exact OutAll.onlyRequestParts (execParamCommitDiscard_same a0 s)
  | setSelect a0 a1 => exact (execSetSelect_same a0 a1 s).onlyChanges
  | calRead a0 a1 a2 a3 a4 => exact OutAll.onlyRequestParts (execCalRead_same a0 a1 a2 a3 a4 s)
  | calRecal a0 a1 a2 => exact OutAll.onlyRequestParts (execCalRecal_same a0 a1 a2 s)
  | updBegin a0 a1 a2 a3 => exact OutAll.onlyRequestParts (execUpdBegin_same a0 a1 a2 a3 s)
  | updChunk a0 a1 a2 => exact OutAll.onlyRequestParts (execUpdChunk_same a0 a1 a2 s)
  | updVerify a0 => exact OutAll.onlyRequestParts (execUpdVerify_same a0 s)
  | updActivate a0 a1 => exact (execUpdActivate_same a0 a1 s).onlyChanges
  | updHandover a0 => exact OutAll.onlyRequestParts (execUpdHandover_same a0 s)
  | recInfo a0 => exact OutAll.onlyRequestParts (execRecInfo_same a0 s)
  | recRead a0 a1 a2 => exact OutAll.onlyRequestParts (execRecRead_same a0 a1 a2 s)
  | trendRead a0 a1 a2 a3 => exact OutAll.onlyRequestParts (execTrendRead_same a0 a1 a2 a3 s)
  | attest a0 a1 => exact OutAll.onlyRequestParts (execAttest_same a0 a1 s)
  | sessionOpen a0 a1 => exact OutAll.onlyRequestParts (execSessionOpen_same a0 a1 s)
  | sessionClose a0 => exact OutAll.onlyRequestParts (execSessionClose_same a0 s)
  | keyInfo a0 a1 => exact OutAll.onlyRequestParts (execKeyInfo_same a0 a1 s)
  | ownerSlotFuse a0 a1 a2 a3 a4 => exact OutAll.onlyRequestParts (execOwnerSlotFuse_same a0 a1 a2 a3 a4 s)
  | ownerSlotRevoke a0 a1 a2 a3 a4 => exact OutAll.onlyRequestParts (execOwnerSlotRevoke_same a0 a1 a2 a3 a4 s)
  | cascStatus a0 => exact OutAll.onlyRequestParts (execCascStatus_same a0 s)
  | regRead a0 a1 a2 => exact OutAll.onlyRequestParts (execRegRead_same a0 a1 a2 s)
  | regWrite a0 a1 a2 a3 => exact (execRegWrite_same a0 a1 a2 a3 s).onlyChanges
  | freqMeasure a0 a1 a2 a3 => exact OutAll.onlyRequestParts (execFreqMeasure_same a0 a1 a2 a3 s)
  | freeze a0 => exact OutAll.onlyRequestParts (execFreeze_same a0 s)
  | snapshotInfo a0 => exact OutAll.onlyRequestParts (execSnapshotInfo_same a0 s)
  | domainSet a0 a1 a2 a3 => exact (execDomainSet_same a0 a1 a2 a3 s).onlyChanges
  | opPoint a0 a1 a2 => exact (execOpPoint_same a0 a1 a2 s).onlyChanges
  | standbyEnter a0 a1 a2 a3 => exact (execStandbyEnter_same a0 a1 a2 a3 s).onlyChanges
  | rtcSet a0 a1 => exact (execRtcSet_same a0 a1 s).onlyChanges
  | alarmSet a0 a1 a2 => exact (execAlarmSet_same a0 a1 a2 s).onlyChanges
  | lockoutClear a0 a1 a2 a3 => exact OutAll.onlyRequestParts (execLockoutClear_same a0 a1 a2 a3 s)
  | stoStatus a0 => exact OutAll.onlyRequestParts (execStoStatus_same a0 s)
  | contactorSet a0 a1 a2 a3 => exact OutAll.onlyRequestParts (execContactorSet_same a0 a1 a2 a3 s)
  | lockoutList a0 => exact OutAll.onlyRequestParts (execLockoutList_same a0 s)
  | clkSelWrite a0 => exact (execClkSelWrite_same a0 s).onlyChanges
  | clockSwitchForced a0 => exact (execClockSwitchForced_same a0 s).onlyChanges
  | clkGateOpen a0 => exact (execClkGateOpen_same a0 s).onlyChanges
  | clkGateClose a0 a1 => exact (execClkGateClose_same a0 a1 s).onlyChanges
  | gateCloseForced a0 a1 => exact (execGateCloseForced_same a0 a1 s).onlyChanges
  | domCtlRequest a0 a1 a2 => exact (execDomCtlRequest_same a0 a1 a2 s).onlyChanges
  | opPointRegRequest a0 a1 => exact (execOpPointRegRequest_same a0 a1 s).onlyChanges
  | fmStart => exact (execFmStart_same s).onlyChanges
  | recFlush => exact (execRecFlush_same s).onlyChanges
  | recSampleEnWrite a0 => exact (execRecSampleEnWrite_same a0 s).onlyChanges
  | snsTestForce a0 a1 a2 => exact (execSnsTestForce_same a0 a1 a2 s).onlyChanges
  | snpStatus a0 => exact (execSnpStatus_same a0 s).onlyChanges
  | snpRead a0 a1 a2 => exact (execSnpRead_same a0 a1 a2 s).onlyChanges
  | restart a0 a1 => exact (execRestart_same a0 a1 s).onlyChanges
  | kl15Rise => exact (execKl15Rise_same s).onlyChanges
  | kl15KeepHigh a0 a1 => exact (execKl15KeepHigh_same a0 a1 s).onlyChanges
  | kl15KeepLowCount a0 => exact (execKl15KeepLowCount_same a0 s).onlyChanges
  | standbyEntryResume => exact (execStandbyEntryResume_same s).onlyChanges
  | standbyWaitReport a0 => exact OutAll.onlyFaultParts (execStandbyWaitReport_same a0 s)
  | drvEnFall => exact (execDrvEnFall_same s).onlyChanges
  | drvEnRise a0 a1 => exact (execDrvEnRise_same a0 a1 s).onlyChanges
  | clearanceExpiry a0 => exact (execClearanceExpiry_same a0 s).onlyChanges
  | freezePinRise => exact (execFreezePinRise_same s).onlyChanges
  | freezeTake a0 => exact (execFreezeTake_same a0 s).onlyChanges
  | freezeWatcherFastClear a0 a1 => exact (execFreezeWatcherFastClear_same a0 a1 s).onlyChanges
  | stoDemand a0 a1 => exact (execStoDemand_same a0 a1 s).onlyChanges
  | stoDemandEnd a0 => exact (execStoDemandEnd_same a0 s).onlyChanges
  | stoDiscrepancy a0 => exact (execStoDiscrepancy_same a0 s).onlyChanges
  | kl30Loss a0 a1 => exact (execKl30Loss_same a0 a1 s).onlyChanges
  | kl30LossConfirmed a0 => exact (execKl30LossConfirmed_same a0 s).onlyChanges
  | kl30Return a0 a1 => exact (execKl30Return_same a0 a1 s).onlyChanges
  | holdupEnd a0 => exact (execHoldupEnd_same a0 s).onlyChanges
  | kl30OutOfRange a0 a1 => exact OutAll.onlyFaultParts (execKl30OutOfRange_same a0 a1 s)
  | kl30Apply a0 => exact (execKl30Apply_same a0 s).onlyChanges
  | bootEntry a0 => exact (execBootEntry_same a0 s).onlyChanges
  | islandHandshakeTimeout a0 a1 => exact (execIslandHandshakeTimeout_same a0 a1 s).onlyChanges
  | startupStepOverrun a0 a1 => exact OutAll.onlyFaultParts (execStartupStepOverrun_same a0 a1 s)
  | domainWakeDeadline a0 a1 a2 => exact (execDomainWakeDeadline_same a0 a1 a2 s).onlyChanges
  | domainWakeRetry a0 a1 => exact (execDomainWakeRetry_same a0 a1 s).onlyChanges
  | feRestoreComplete a0 a1 => exact (execFeRestoreComplete_same a0 a1 s).onlyChanges
  | d5HoldExpiry a0 a1 => exact (execD5HoldExpiry_same a0 a1 s).onlyChanges
  | opPointTransitionDone a0 => exact (execOpPointTransitionDone_same a0 s).onlyChanges
  | opPointOverrun a0 a1 => exact (execOpPointOverrun_same a0 a1 s).onlyChanges
  | rtcAlarm => exact (execRtcAlarm_same s).onlyChanges
  | canWake a0 => exact (execCanWake_same a0 s).onlyChanges
  | sourceReady a0 a1 => exact (execSourceReady_same a0 a1 s).onlyChanges
  | pllCoast a0 a1 => exact (execPllCoast_same a0 a1 s).onlyChanges
  | clockSourceFail a0 a1 a2 => exact (execClockSourceFail_same a0 a1 a2 s).onlyChanges
  | clockFailHandling a0 => exact (execClockFailHandling_same a0 s).onlyChanges
  | clockLossSevere a0 a1 => exact (execClockLossSevere_same a0 a1 s).onlyChanges
  | clockRestore => exact (execClockRestore_same s).onlyChanges
  | freqMeasureDone a0 => exact (execFreqMeasureDone_same a0 s).onlyChanges
  | freqMeasureSrcOff => exact (execFreqMeasureSrcOff_same s).onlyChanges
  | desaturation a0 a1 a2 a3 a4 a5 => exact OutAll.onlyFaultParts (execDesaturation_same a0 a1 a2 a3 a4 a5 s)
  | softTurnoffEnd a0 a1 a2 => exact (execSoftTurnoffEnd_same a0 a1 a2 s).onlyChanges
  | vbpUndervoltage a0 a1 a2 => exact OutAll.onlyFaultParts (execVbpUndervoltage_same a0 a1 a2 s)
  | vbpUvloRelease a0 a1 a2 => exact (execVbpUvloRelease_same a0 a1 a2 s).onlyChanges
  | vbnOutOfRange a0 a1 a2 => exact OutAll.onlyFaultParts (execVbnOutOfRange_same a0 a1 a2 s)
  | vbsOk a0 a1 a2 => exact (execVbsOk_same a0 a1 a2 s).onlyChanges
  | vbsWarn a0 a1 a2 => exact OutAll.onlyFaultParts (execVbsWarn_same a0 a1 a2 s)
  | vbsWarnClear a0 a1 a2 => exact (execVbsWarnClear_same a0 a1 a2 s).onlyChanges
  | vbsUv a0 a1 a2 => exact OutAll.onlyFaultParts (execVbsUv_same a0 a1 a2 s)
  | highIslandStartReturn a0 a1 a2 => exact OutAll.onlyFaultParts (execHighIslandStartReturn_same a0 a1 a2 s)
  | bowMeasurement a0 a1 a2 a3 => exact OutAll.onlyFaultParts (execBowMeasurement_same a0 a1 a2 a3 s)
  | bowFailure a0 a1 a2 a3 => exact OutAll.onlyFaultParts (execBowFailure_same a0 a1 a2 a3 s)
  | gateMonitorBreach a0 a1 a2 a3 a4 => exact OutAll.onlyFaultParts (execGateMonitorBreach_same a0 a1 a2 a3 a4 s)
  | islandOverlapRefusal a0 a1 => exact OutAll.onlyFaultParts (execIslandOverlapRefusal_same a0 a1 s)
  | islandLinkLoss a0 a1 a2 a3 a4 => exact (execIslandLinkLoss_same a0 a1 a2 a3 a4 s).onlyChanges
  | islandLinkTrained a0 a1 => exact OutAll.onlyFaultParts (execIslandLinkTrained_same a0 a1 s)
  | auxFaultLatch a0 a1 a2 => exact OutAll.onlyFaultParts (execAuxFaultLatch_same a0 a1 a2 s)
  | prechargePulse a0 => exact (execPrechargePulse_same a0 s).onlyChanges
  | prechargeComplete a0 => exact (execPrechargeComplete_same a0 s).onlyChanges
  | prechargeTimeout a0 => exact OutAll.onlyFaultParts (execPrechargeTimeout_same a0 s)
  | periodBoundary a0 a1 => exact (execPeriodBoundary_same a0 a1 s).onlyChanges
  | missedUpdateLimit a0 => exact OutAll.onlyFaultParts (execMissedUpdateLimit_same a0 s)
  | lockAndMatch a0 => exact OutAll.onlyFaultParts (execLockAndMatch_same a0 s)
  | interlockRefusal a0 => exact OutAll.onlyFaultParts (execInterlockRefusal_same a0 s)
  | refusalLimit a0 => exact OutAll.onlyFaultParts (execRefusalLimit_same a0 s)
  | sixstepToggle a0 => exact (execSixstepToggle_same a0 s).onlyChanges
  | adcTrigger a0 a1 => exact (execAdcTrigger_same a0 a1 s).onlyChanges
  | syncPulse a0 => exact (execSyncPulse_same a0 s).onlyChanges
  | syncLoss a0 => exact (execSyncLoss_same a0 s).onlyChanges
  | controlPeriod a0 a1 => exact OutAll.onlyFaultParts (execControlPeriod_same a0 a1 s)
  | referenceUpdate a0 => exact (execReferenceUpdate_same a0 s).onlyChanges
  | torqueNotReachable a0 => exact OutAll.onlyFaultParts (execTorqueNotReachable_same a0 s)
  | trackingError a0 => exact OutAll.onlyFaultParts (execTrackingError_same a0 s)
  | xyExcess a0 => exact OutAll.onlyFaultParts (execXyExcess_same a0 s)
  | imFluxTimeout a0 => exact OutAll.onlyFaultParts (execImFluxTimeout_same a0 s)
  | sixstepEntry a0 => exact (execSixstepEntry_same a0 s).onlyChanges
  | sixstepExit a0 => exact (execSixstepExit_same a0 s).onlyChanges
  | zcWindowEnd a0 a1 a2 => exact (execZcWindowEnd_same a0 a1 a2 s).onlyChanges
  | zcMissLimit a0 => exact OutAll.onlyFaultParts (execZcMissLimit_same a0 s)
  | orderlyStopEnd a0 => exact OutAll.onlyFaultParts (execOrderlyStopEnd_same a0 s)
  | disarmRampEnd a0 => exact (execDisarmRampEnd_same a0 s).onlyChanges
  | retireRampEnd a0 => exact (execRetireRampEnd_same a0 s).onlyChanges
  | rectificationDetect a0 a1 a2 a3 => exact OutAll.onlyFaultParts (execRectificationDetect_same a0 a1 a2 a3 s)
  | checkTimeEnd a0 => exact OutAll.onlyFaultParts (execCheckTimeEnd_same a0 s)
  | catchWindowEnd a0 a1 => exact OutAll.onlyFaultParts (execCatchWindowEnd_same a0 a1 s)
  | catchExtensionEnd a0 a1 => exact OutAll.onlyFaultParts (execCatchExtensionEnd_same a0 a1 s)
  | pluckPulse a0 a1 => exact OutAll.onlyFaultParts (execPluckPulse_same a0 a1 s)
  | observerInvalid a0 => exact OutAll.onlyFaultParts (execObserverInvalid_same a0 s)
  | quadEdge a0 a1 a2 a3 => exact (execQuadEdge_same a0 a1 a2 a3 s).onlyChanges
  | dividedOutputEmit a0 => exact (execDividedOutputEmit_same a0 s).onlyChanges
  | indexMark a0 => exact (execIndexMark_same a0 s).onlyChanges
  | illegalTransition a0 a1 a2 => exact (execIllegalTransition_same a0 a1 a2 s).onlyChanges
  | illegalEventLimit a0 => exact (execIllegalEventLimit_same a0 s).onlyChanges
  | hallEdge a0 a1 a2 => exact (execHallEdge_same a0 a1 a2 s).onlyChanges
  | hallInvalid a0 a1 a2 => exact (execHallInvalid_same a0 a1 a2 s).onlyChanges
  | hallInvalidHeld a0 => exact (execHallInvalidHeld_same a0 s).onlyChanges
  | amplitudeWindowFault a0 a1 => exact (execAmplitudeWindowFault_same a0 a1 s).onlyChanges
  | excitationFault a0 a1 => exact (execExcitationFault_same a0 a1 s).onlyChanges
  | inputFrequencyLimit a0 => exact (execInputFrequencyLimit_same a0 s).onlyChanges
  | trackingLock a0 a1 => exact (execTrackingLock_same a0 a1 s).onlyChanges
  | interfaceRecovery a0 => exact (execInterfaceRecovery_same a0 s).onlyChanges
  | speedWindow a0 => exact (execSpeedWindow_same a0 s).onlyChanges
  | speedZeroTimeout a0 => exact (execSpeedZeroTimeout_same a0 s).onlyChanges
  | compareLoad a0 => exact (execCompareLoad_same a0 s).onlyChanges
  | compareFire a0 => exact (execCompareFire_same a0 s).onlyChanges
  | compareRearm a0 => exact (execCompareRearm_same a0 s).onlyChanges
  | windowComparatorTrip a0 a1 a2 a3 => exact (execWindowComparatorTrip_same a0 a1 a2 a3 s).onlyChanges
  | currentSumViolation a0 a1 => exact OutAll.onlyFaultParts (execCurrentSumViolation_same a0 a1 s)
  | sensorSupplyFault a0 a1 a2 a3 => exact (execSensorSupplyFault_same a0 a1 a2 a3 s).onlyChanges
  | linkVoltageFormation a0 a1 => exact OutAll.onlyFaultParts (execLinkVoltageFormation_same a0 a1 s)
  | ovTrip a0 a1 a2 => exact OutAll.onlyFaultParts (execOvTrip_same a0 a1 a2 s)
  | ovWarn a0 a1 => exact OutAll.onlyFaultParts (execOvWarn_same a0 a1 s)
  | uvLimit a0 a1 => exact OutAll.onlyFaultParts (execUvLimit_same a0 a1 s)
  | chopperOn a0 => exact (execChopperOn_same a0 s).onlyChanges
  | chopperOff a0 => exact (execChopperOff_same a0 s).onlyChanges
  | chopperUnavailable a0 a1 => exact OutAll.onlyFaultParts (execChopperUnavailable_same a0 a1 s)
  | chopperUncommanded a0 a1 => exact OutAll.onlyFaultParts (execChopperUncommanded_same a0 a1 s)
  | chopperEnergyLimit a0 => exact OutAll.onlyFaultParts (execChopperEnergyLimit_same a0 s)
  | dischargeAutoStart a0 => exact (execDischargeAutoStart_same a0 s).onlyChanges
  | dischargeEnd a0 => exact (execDischargeEnd_same a0 s).onlyChanges
  | dischargeSwitchFault a0 a1 => exact OutAll.onlyFaultParts (execDischargeSwitchFault_same a0 a1 s)
  | windingDischargeEnd a0 => exact OutAll.onlyFaultParts (execWindingDischargeEnd_same a0 s)
  | dischargeTimeout a0 => exact OutAll.onlyFaultParts (execDischargeTimeout_same a0 s)
  | fastWrite a0 => exact (execFastWrite_same a0 s).onlyChanges
  | activeShortUnavailable a0 => exact OutAll.onlyFaultParts (execActiveShortUnavailable_same a0 s)
  | lockstepMismatch a0 a1 a2 => exact OutAll.onlyFaultParts (execLockstepMismatch_same a0 a1 a2 s)
  | checkerFailure a0 a1 => exact OutAll.onlyFaultParts (execCheckerFailure_same a0 a1 s)
  | runtimeInjection a0 a1 => exact OutAll.onlyFaultParts (execRuntimeInjection_same a0 a1 s)
  | pairRestartDone a0 a1 a2 => exact OutAll.onlyFaultParts (execPairRestartDone_same a0 a1 a2 s)
  | torqueMonitorWindow a0 => exact (execTorqueMonitorWindow_same a0 s).onlyChanges
  | heartbeat a0 a1 a2 => exact (execHeartbeat_same a0 a1 a2 s).onlyChanges
  | heartbeatMissed a0 a1 => exact OutAll.onlyFaultParts (execHeartbeatMissed_same a0 a1 s)
  | supplyOutOfWindow a0 a1 a2 => exact OutAll.onlyFaultParts (execSupplyOutOfWindow_same a0 a1 a2 s)
  | supplyLowReset a0 a1 a2 => exact (execSupplyLowReset_same a0 a1 a2 s).onlyChanges
  | supplyResetRelease a0 a1 a2 => exact (execSupplyResetRelease_same a0 a1 a2 s).onlyChanges
  | dieCheck a0 a1 => exact OutAll.onlyFaultParts (execDieCheck_same a0 a1 s)
  | contactorPullInEnd a0 => exact (execContactorPullInEnd_same a0 s).onlyChanges
  | contactorFeedbackFail a0 a1 a2 => exact (execContactorFeedbackFail_same a0 a1 a2 s).onlyChanges
  | tempMeasurement a0 => exact (execTempMeasurement_same a0 s).onlyChanges
  | offsetLearn a0 => exact (execOffsetLearn_same a0 s).onlyChanges
  | monitorTripCheck a0 a1 => exact (execMonitorTripCheck_same a0 a1 s).onlyChanges
  | tempCompensation a0 a1 a2 a3 => exact (execTempCompensation_same a0 a1 a2 a3 s).onlyChanges
  | tempCompensationLate => exact (execTempCompensationLate_same s).onlyChanges
  | packetArrival a0 a1 a2 => exact OutAll.onlyRequestParts (execPacketArrival_same a0 a1 a2 s)
  | udpDatagram a0 a1 a2 a3 a4 a5 => exact (execUdpDatagram_same a0 a1 a2 a3 a4 a5 s).onlyChanges
  | canSegment a0 a1 => exact (execCanSegment_same a0 a1 s).onlyChanges
  | segmentGapTimeout a0 a1 => exact (execSegmentGapTimeout_same a0 a1 s).onlyChanges
  | fastSetpointFrame a0 => exact (execFastSetpointFrame_same a0 s).onlyChanges
  | dispatch => exact (execDispatch_callKeeps s).mono fun _ => CallKeeps.onlyChanges
  | contextDeadline a0 => exact (execContextDeadline_same a0 s).onlyChanges
  | sessionIdleTimeout a0 => exact (execSessionIdleTimeout_same a0 s).onlyChanges
  | setpointTimeout a0 => exact OutAll.onlyFaultParts (execSetpointTimeout_same a0 s)
  | nonceExpiry a0 => exact (execNonceExpiry_same a0 s).onlyChanges
  | canFrameReceive a0 a1 a2 a3 => exact (execCanFrameReceive_same a0 a1 a2 a3 s).onlyChanges
  | canBusOff a0 => exact (execCanBusOff_same a0 s).onlyChanges
  | canBusOffRecovery a0 a1 => exact (execCanBusOffRecovery_same a0 a1 s).onlyChanges
  | stateFrame => exact (execStateFrame_same s).onlyChanges
  | oneShotFail a0 a1 => exact (execOneShotFail_same a0 a1 s).onlyChanges
  | ethLinkDown a0 => exact (execEthLinkDown_same a0 s).onlyChanges
  | gptpSync a0 => exact (execGptpSync_same a0 s).onlyChanges
  | gptpSyncLoss a0 => exact (execGptpSyncLoss_same a0 s).onlyChanges
  | qbvCycleStart => exact (execQbvCycleStart_same s).onlyChanges
  | ringFrameReceive a0 a1 => exact (execRingFrameReceive_same a0 a1 s).onlyChanges
  | ringPeriodicSend => exact (execRingPeriodicSend_same s).onlyChanges
  | ringLinkSend => exact (execRingLinkSend_same s).onlyChanges
  | ringDelayReq a0 a1 a2 a3 a4 => exact (execRingDelayReq_same a0 a1 a2 a3 a4 s).onlyChanges
  | faultFlagChange => exact (execFaultFlagChange_same s).onlyChanges
  | ringLinkDown a0 a1 => exact (execRingLinkDown_same a0 a1 s).onlyChanges
  | ringLinkRestored a0 a1 => exact (execRingLinkRestored_same a0 a1 s).onlyChanges
  | cascadeDeviceLost a0 => exact (execCascadeDeviceLost_same a0 s).onlyChanges
  | masterLost => exact (execMasterLost_same s).onlyChanges
  | recorderFlush => exact (execRecorderFlush_same s).onlyChanges
  | postTriggerEnd => exact (execPostTriggerEnd_same s).onlyChanges
  | trendRecord a0 => exact (execTrendRecord_same a0 s).onlyChanges
  | handoverTakeover a0 a1 => exact (execHandoverTakeover_same a0 a1 s).onlyChanges
  | handoverTimeout => exact (execHandoverTimeout_same s).onlyChanges
  | feReload a0 => exact (execFeReload_same a0 s).onlyChanges
  | islReload a0 a1 => exact (execIslReload_same a0 a1 s).onlyChanges
  | feRotation a0 => exact (execFeRotation_same a0 s).onlyChanges
  | recalCoverEnd a0 a1 a2 a3 a4 => exact (execRecalCoverEnd_same a0 a1 a2 a3 a4 s).onlyChanges
  | feedbackConfirmsCommand a0 a1 => exact (execFeedbackConfirmsCommand_same a0 a1 s).onlyChanges
  | fluxMapDerivationEnd a0 => exact OutAll.onlyFaultParts (execFluxMapDerivationEnd_same a0 s)
  | retentionRestore a0 a1 => exact (execRetentionRestore_same a0 a1 s).onlyChanges
  | ipv4ReassemblyTimeout a0 a1 => exact (execIpv4ReassemblyTimeout_same a0 a1 s).onlyChanges
  | ethLinkUp a0 => exact (execEthLinkUp_same a0 s).onlyChanges
  | arpRequest a0 a1 => exact (execArpRequest_same a0 a1 s).onlyChanges
  | icmpEchoRequest a0 a1 => exact (execIcmpEchoRequest_same a0 a1 s).onlyChanges
  | tapInstruction a0 a1 => exact (execTapInstruction_same a0 a1 s).onlyChanges

/-- Settles O11: the frame lemma of each command leaves every part outside its list as it was. -/
theorem commandsChangeOnlyTheirParts : Obligations.CommandsChangeOnlyTheirParts :=
  fun c s _ answered => (exec_onlyChanges c s).next answered

/-! ### What is one-way (R537, R544) -/

/-- Settles O10: fuses and owner slots only move forward in a command and in a tick, and the queue is neither. -/
theorem ownerSlotsAndFusesAreOneWay : Obligations.OwnerSlotsAndFusesAreOneWay := by
  intro s t moved
  obtain ⟨_, -, ⟨-, owners⟩, -, fuses⟩ := step_forward moved
  exact ⟨owners, fuses⟩

/-! ### The queue -/

/-- Settles O1. -/
theorem stepTakesFront : Obligations.StepTakesFront :=
  ⟨fun _ _ => rfl, fun c rest s front => by simp [step, front]⟩

/-! ### Every row answers -/

/-- An outcome with a next state. -/
def Answers (o : Out) : Prop := ∃ t, o = .next t

theorem Answers.next {s : State} : Answers (.next s) := ⟨s, rfl⟩

theorem Answers.ite {c : Prop} [Decidable c] {a b : Out} (ha : Answers a) (hb : Answers b) : Answers (if c then a else b) := by
  split
  · exact ha
  · exact hb

theorem execIslReload_answers {b : Fin 8} {answers : List IslandObs} (wf : Instr.wf (.islReload b answers) = true) (s : State) :
    Answers (execIslReload b answers s) := by
  have six : answers.length = 6 := by simpa [Instr.wf] using wf
  unfold execIslReload
  rw [if_neg (not_not.mpr six)]
  exact .ite .next .next

theorem execFastWrite_answers {speeds : List SpeedSeen} (wf : Instr.wf (.fastWrite speeds) = true) (s : State) :
    Answers (execFastWrite speeds s) := by
  have eight : speeds.length = 8 := by simpa [Instr.wf] using wf
  unfold execFastWrite
  rw [if_neg (not_not.mpr eight)]
  exact .ite .next .next

theorem execLinkVoltageFormation_answers {g : Fin 2} {readings : List (Option Int)}
    (wf : Instr.wf (.linkVoltageFormation g readings) = true) (s : State) :
    Answers (execLinkVoltageFormation g readings s) := by
  have eight : readings.length = 8 := by simpa [Instr.wf] using wf
  unfold execLinkVoltageFormation
  rw [if_neg (not_not.mpr eight)]
  refine .ite .next ?_
  dsimp only
  split <;> exact .next

theorem execAdcTrigger_answers {b : Fin 8} {obs : TrigObs} (wf : Instr.wf (.adcTrigger b obs) = true) (s : State) :
    Answers (execAdcTrigger b obs s) := by
  have three : ¬ (obs.codeA.length ≠ 3 ∨ obs.codeB.length ≠ 3 ∨ obs.vph.length ≠ 3) := by
    simpa [Instr.wf, TrigObs.wf, and_assoc] using wf
  unfold execAdcTrigger
  rw [if_neg three]
  exact .ite .next (.ite .next .next)

theorem execBootEntry_answers {obs : BootObs} (wf : Instr.wf (.bootEntry obs) = true) (s : State) :
    Answers (execBootEntry obs s) := by
  have lengths : ¬ (obs.straps.length ≠ 4 ∨ obs.islands.length ≠ 52 ∨ obs.calA.length ≠ 8 ∨ obs.calB.length ≠ 8 ∨
      obs.dieTemps.length ≠ 16) := by
    simp only [Instr.wf, BootObs.wf, Bool.and_eq_true, beq_iff_eq] at wf
    omega
  unfold execBootEntry
  rw [if_neg lengths]
  split <;> exact .next

/-- A row answers in each of its branches; the five that fault do so on lists of the wrong length (log entry 11). -/
theorem exec_answers {c : Instr} (wf : Instr.wf c = true) (s : State) : Answers (exec c s) := by
  cases c with
  | identify _ => exact .next
  | getState _ => exact .next
  | setOpModeEnter _ => exact .next
  | setOpModeLeave _ => exact .next
  | reset _ _ => exact .next
  | ctxQuery _ _ => exact .next
  | arm _ _ => exact .next
  | disarm _ _ => exact .next
  | torqueSet _ _ _ => exact .next
  | speedSet _ _ _ => exact .next
  | safeState _ _ _ => exact .next
  | start _ _ _ => exact .next
  | pluckTest _ _ => exact .next
  | retire _ _ _ => exact .next
  | cmpArm _ _ _ _ => exact .next
  | cmpStatus _ _ => exact .next
  | remap _ _ _ _ => exact .next
  | paramRead _ _ _ => exact .next
  | paramWrite _ _ => exact .next
  | paramCommitPrepare _ => exact .next
  | paramCommitApply _ _ _ _ _ => exact .next
  | paramCommitDiscard _ => exact .next
  | setSelect _ _ => exact .next
  | calRead _ _ _ _ _ => exact .next
  | calRecal _ _ _ => exact .next
  | updBegin _ _ _ _ => exact .next
  | updChunk _ _ _ => exact .next
  | updVerify _ => exact .next
  | updActivate _ _ => exact .next
  | updHandover _ => exact .next
  | recInfo _ => exact .next
  | recRead _ _ _ => exact .next
  | trendRead _ _ _ _ => exact .next
  | attest _ _ => exact .next
  | sessionOpen _ _ => exact .next
  | sessionClose _ => exact .next
  | keyInfo _ _ => exact .next
  | ownerSlotFuse _ _ _ _ _ => exact .next
  | ownerSlotRevoke _ _ _ _ _ => exact .next
  | cascStatus _ => exact .next
  | regRead _ _ _ => exact .next
  | regWrite _ _ _ _ => exact .next
  | freqMeasure _ _ _ _ => exact .next
  | freeze _ => exact .next
  | snapshotInfo _ => exact .next
  | domainSet _ _ _ _ => exact .next
  | opPoint _ _ _ => exact .next
  | standbyEnter _ _ _ _ => exact .next
  | rtcSet _ _ => exact .next
  | alarmSet _ _ _ => exact .next
  | lockoutClear _ _ _ _ => exact .next
  | stoStatus _ => exact .next
  | contactorSet _ _ _ _ => exact .next
  | lockoutList _ => exact .next
  | clkSelWrite _ => exact .ite .next .next
  | clockSwitchForced _ => exact .ite .next .next
  | clkGateOpen _ => exact .ite .next .next
  | clkGateClose _ _ => exact .ite .next .next
  | gateCloseForced _ _ => exact .ite .next .next
  | domCtlRequest _ _ _ => exact .ite .next .next
  | opPointRegRequest _ _ =>
    change Answers (execOpPointRegRequest _ _ s)
    unfold execOpPointRegRequest
    repeat' split
    all_goals exact .next
  | fmStart => exact .ite .next .next
  | recFlush => exact .next
  | recSampleEnWrite _ => exact .next
  | snsTestForce _ _ _ => exact .ite .next .next
  | snpStatus _ => exact .ite .next .next
  | snpRead _ _ _ => exact .ite .next .next
  | restart _ _ => exact .ite .next .next
  | kl15Rise => exact .next
  | kl15KeepHigh _ _ =>
    change Answers (execKl15KeepHigh _ _ s)
    unfold execKl15KeepHigh
    split <;> exact .next
  | kl15KeepLowCount _ =>
    change Answers (execKl15KeepLowCount _ s)
    unfold execKl15KeepLowCount
    dsimp only
    repeat' split
    all_goals exact .next
  | standbyEntryResume => exact .next
  | standbyWaitReport _ => exact .ite .next .next
  | drvEnFall => exact .ite .next .next
  | drvEnRise _ _ => exact .ite .next .next
  | clearanceExpiry _ => exact .next
  | freezePinRise => exact .next
  | freezeTake _ => exact .ite .next .next
  | freezeWatcherFastClear _ _ =>
    change Answers (execFreezeWatcherFastClear _ _ s)
    unfold execFreezeWatcherFastClear
    split <;> [exact .ite .next .next; exact .next]
  | stoDemand _ _ => exact .ite .next .next
  | stoDemandEnd _ => exact .ite .next .next
  | stoDiscrepancy _ => exact .ite .next .next
  | kl30Loss _ _ => exact .ite .next .next
  | kl30LossConfirmed _ => exact .ite (.ite .next .next) .next
  | kl30Return _ _ => exact .ite (.ite .next (.ite .next .next)) .next
  | holdupEnd _ => exact .ite .next .next
  | kl30OutOfRange _ _ => exact .ite .next .next
  | kl30Apply _ => exact .ite .next .next
  | bootEntry _ => exact execBootEntry_answers wf s
  | islandHandshakeTimeout _ _ =>
    change Answers (execIslandHandshakeTimeout _ _ s)
    unfold execIslandHandshakeTimeout
    dsimp only
    repeat' split
    all_goals exact .next
  | startupStepOverrun _ _ => exact .ite .next .next
  | domainWakeDeadline _ _ _ =>
    change Answers (execDomainWakeDeadline _ _ _ s)
    unfold execDomainWakeDeadline
    dsimp only
    repeat' split
    all_goals exact .next
  | domainWakeRetry _ _ => exact .ite .next .next
  | feRestoreComplete _ _ => exact .ite .next .next
  | d5HoldExpiry _ _ =>
    change Answers (execD5HoldExpiry _ _ s)
    unfold execD5HoldExpiry
    split <;> exact .next
  | opPointTransitionDone _ =>
    change Answers (execOpPointTransitionDone _ s)
    unfold execOpPointTransitionDone
    split <;> exact .ite .next .next
  | opPointOverrun _ _ =>
    change Answers (execOpPointOverrun _ _ s)
    unfold execOpPointOverrun
    dsimp only
    repeat' split
    all_goals exact .next
  | rtcAlarm => exact .ite .next .next
  | canWake _ => exact .ite .next (.ite .next .next)
  | sourceReady _ _ => exact .ite .next .next
  | pllCoast _ _ => exact .ite .next .next
  | clockSourceFail _ _ _ => exact .ite .next .next
  | clockFailHandling _ => exact .ite .next .next
  | clockLossSevere _ _ => exact .ite .next .next
  | clockRestore => exact .ite .next .next
  | freqMeasureDone _ => exact .ite .next .next
  | freqMeasureSrcOff => exact .ite .next .next
  | desaturation _ _ _ _ _ _ => exact .ite (.ite .next .next) .next
  | softTurnoffEnd _ _ _ => exact .ite .next .next
  | vbpUndervoltage _ _ _ => exact .ite (.ite .next .next) .next
  | vbpUvloRelease _ _ _ => exact .ite .next .next
  | vbnOutOfRange _ _ _ => exact .ite .next .next
  | vbsOk _ _ _ => exact .ite .next .next
  | vbsWarn _ _ _ => exact .ite .next .next
  | vbsWarnClear _ _ _ => exact .ite .next .next
  | vbsUv _ _ _ => exact .ite .next .next
  | highIslandStartReturn _ _ _ => exact .ite (.ite .next .next) .next
  | bowMeasurement _ _ _ _ => exact .ite .next .next
  | bowFailure _ _ _ _ => exact .ite .next .next
  | gateMonitorBreach _ _ _ _ _ => exact .ite .next .next
  | islandOverlapRefusal _ _ => exact .ite .next .next
  | islandLinkLoss _ _ _ _ _ =>
    change Answers (execIslandLinkLoss _ _ _ _ _ s)
    unfold execIslandLinkLoss
    dsimp only
    repeat' split
    all_goals exact .next
  | islandLinkTrained _ _ => exact .ite .next (.ite .next .next)
  | auxFaultLatch _ _ _ => exact .ite .next .next
  | prechargePulse _ => exact .ite .next .next
  | prechargeComplete _ => exact .ite .next .next
  | prechargeTimeout _ =>
    change Answers (execPrechargeTimeout _ s)
    unfold execPrechargeTimeout
    dsimp only
    repeat' split
    all_goals exact .next
  | periodBoundary _ _ => exact .ite .next .next
  | missedUpdateLimit _ => exact .ite .next .next
  | lockAndMatch _ => exact .ite .next .next
  | interlockRefusal _ => exact .ite (.ite .next .next) .next
  | refusalLimit _ => exact .ite .next .next
  | sixstepToggle _ =>
    change Answers (execSixstepToggle _ s)
    unfold execSixstepToggle
    dsimp only
    repeat' split
    all_goals exact .next
  | adcTrigger _ _ => exact execAdcTrigger_answers wf s
  | syncPulse _ => exact .ite .next .next
  | syncLoss _ => exact .ite .next .next
  | controlPeriod _ _ => exact .ite .next (.ite .next .next)
  | referenceUpdate _ => exact .ite .next .next
  | torqueNotReachable _ => exact .ite .next .next
  | trackingError _ => exact .ite .next .next
  | xyExcess _ => exact .ite .next .next
  | imFluxTimeout _ => exact .ite .next .next
  | sixstepEntry _ => exact .ite .next .next
  | sixstepExit _ => exact .ite .next .next
  | zcWindowEnd _ _ _ => exact .ite .next .next
  | zcMissLimit _ => exact .ite .next .next
  | orderlyStopEnd _ =>
    change Answers (execOrderlyStopEnd _ s)
    unfold execOrderlyStopEnd
    dsimp only
    repeat' split
    all_goals exact .next
  | disarmRampEnd _ => exact .ite (.ite .next .next) .next
  | retireRampEnd _ =>
    change Answers (execRetireRampEnd _ s)
    unfold execRetireRampEnd
    dsimp only
    repeat' split
    all_goals exact .next
  | rectificationDetect _ _ _ _ => exact .ite .next .next
  | checkTimeEnd _ => exact .ite .next .next
  | catchWindowEnd _ _ => exact .ite .next .next
  | catchExtensionEnd _ _ => exact .ite .next .next
  | pluckPulse _ _ =>
    change Answers (execPluckPulse _ _ s)
    unfold execPluckPulse
    dsimp only
    repeat' split
    all_goals exact .next
  | observerInvalid _ => exact .ite .next .next
  | quadEdge _ _ _ _ => exact .ite .next .next
  | dividedOutputEmit _ =>
    change Answers (execDividedOutputEmit _ s)
    unfold execDividedOutputEmit
    repeat' split
    all_goals exact .next
  | indexMark _ => exact .ite .next .next
  | illegalTransition _ _ _ =>
    change Answers (execIllegalTransition _ _ _ s)
    unfold execIllegalTransition
    dsimp only
    repeat' split
    all_goals exact .next
  | illegalEventLimit _ => exact .ite .next .next
  | hallEdge _ _ _ => exact .ite .next .next
  | hallInvalid _ _ _ => exact .ite .next .next
  | hallInvalidHeld _ => exact .ite .next .next
  | amplitudeWindowFault _ _ => exact .ite .next .next
  | excitationFault _ _ => exact .ite .next .next
  | inputFrequencyLimit _ => exact .ite .next .next
  | trackingLock _ _ => exact .ite .next .next
  | interfaceRecovery _ => exact .ite .next .next
  | speedWindow _ => exact .ite .next .next
  | speedZeroTimeout _ => exact .ite .next .next
  | compareLoad _ =>
    change Answers (execCompareLoad _ s)
    unfold execCompareLoad
    repeat' split
    all_goals exact .next
  | compareFire _ => exact .ite .next .next
  | compareRearm _ => exact .ite .next .next
  | windowComparatorTrip _ _ _ _ => exact .ite (.ite .next .next) .next
  | currentSumViolation _ _ =>
    change Answers (execCurrentSumViolation _ _ s)
    unfold execCurrentSumViolation
    dsimp only
    repeat' split
    all_goals exact .next
  | sensorSupplyFault _ _ _ _ => exact .ite .next (.ite (.ite .next .next) .next)
  | linkVoltageFormation _ _ => exact execLinkVoltageFormation_answers wf s
  | ovTrip _ _ _ => exact .ite .next .next
  | ovWarn _ _ => exact .ite .next (.ite .next (.ite .next .next))
  | uvLimit _ _ => exact .ite .next (.ite .next (.ite .next .next))
  | chopperOn _ => exact .ite .next .next
  | chopperOff _ => exact .ite .next .next
  | chopperUnavailable _ _ => exact .ite .next .next
  | chopperUncommanded _ _ => exact .ite .next .next
  | chopperEnergyLimit _ => exact .ite (.ite .next .next) .next
  | dischargeAutoStart _ => exact .ite .next .next
  | dischargeEnd _ => exact .ite .next .next
  | dischargeSwitchFault _ _ =>
    change Answers (execDischargeSwitchFault _ _ s)
    unfold execDischargeSwitchFault
    dsimp only
    repeat' split
    all_goals exact .next
  | windingDischargeEnd _ =>
    change Answers (execWindingDischargeEnd _ s)
    unfold execWindingDischargeEnd
    repeat' split
    all_goals exact .next
  | dischargeTimeout _ => exact .ite .next .next
  | fastWrite _ => exact execFastWrite_answers wf s
  | activeShortUnavailable _ => exact .ite .next .next
  | lockstepMismatch _ _ _ => exact .ite .next .next
  | checkerFailure _ _ => exact .ite .next .next
  | runtimeInjection _ _ => exact .ite .next .next
  | pairRestartDone _ _ _ => exact .ite (.ite .next .next) .next
  | torqueMonitorWindow _ => exact .ite .next .next
  | heartbeat _ _ _ => exact .ite (.ite .next .next) .next
  | heartbeatMissed _ _ =>
    change Answers (execHeartbeatMissed _ _ s)
    unfold execHeartbeatMissed
    split <;> exact .ite (.ite .next .next) .next
  | supplyOutOfWindow _ _ _ => exact .ite .next (.ite .next (.ite .next .next))
  | supplyLowReset _ _ _ => exact .ite .next .next
  | supplyResetRelease _ _ _ => exact .ite .next .next
  | dieCheck _ _ => exact .ite .next .next
  | contactorPullInEnd _ => exact .ite .next .next
  | contactorFeedbackFail _ _ _ =>
    change Answers (execContactorFeedbackFail _ _ _ s)
    unfold execContactorFeedbackFail
    dsimp only
    repeat' split
    all_goals exact .next
  | tempMeasurement _ => exact .ite .next .next
  | offsetLearn _ =>
    change Answers (execOffsetLearn _ s)
    unfold execOffsetLearn
    split <;> exact .ite .next .next
  | monitorTripCheck _ _ =>
    change Answers (execMonitorTripCheck _ _ s)
    unfold execMonitorTripCheck
    dsimp only
    repeat' split
    all_goals exact .next
  | tempCompensation _ _ _ _ => exact .ite .next .next
  | tempCompensationLate => exact .ite .next .next
  | packetArrival _ _ _ => exact .ite .next .next
  | udpDatagram _ _ _ _ _ _ =>
    change Answers (execUdpDatagram _ _ _ _ _ _ s)
    unfold execUdpDatagram
    repeat' split
    all_goals exact .next
  | canSegment _ _ =>
    change Answers (execCanSegment _ _ s)
    unfold execCanSegment
    split <;> [exact .ite .next .next; exact .next]
  | segmentGapTimeout _ _ =>
    change Answers (execSegmentGapTimeout _ _ s)
    unfold execSegmentGapTimeout
    split <;> [exact .ite .next .next; exact .next]
  | fastSetpointFrame _ =>
    change Answers (execFastSetpointFrame _ s)
    unfold execFastSetpointFrame
    repeat' split
    all_goals exact .next
  | dispatch => exact .ite .next .next
  | contextDeadline _ => exact .next
  | sessionIdleTimeout _ =>
    change Answers (execSessionIdleTimeout _ s)
    unfold execSessionIdleTimeout
    split <;> [exact .ite .next .next; exact .next]
  | setpointTimeout _ => exact .ite .next .next
  | nonceExpiry _ =>
    change Answers (execNonceExpiry _ s)
    unfold execNonceExpiry
    repeat' split
    all_goals exact .next
  | canFrameReceive _ _ _ _ =>
    change Answers (execCanFrameReceive _ _ _ _ s)
    unfold execCanFrameReceive
    repeat' split
    all_goals exact .next
  | canBusOff _ => exact .ite .next .next
  | canBusOffRecovery _ _ => exact .ite .next .next
  | stateFrame =>
    change Answers (execStateFrame s)
    unfold execStateFrame
    dsimp only
    repeat' split
    all_goals exact .next
  | oneShotFail _ _ => exact .ite .next .next
  | ethLinkDown _ => exact .ite .next .next
  | gptpSync _ => exact .ite (.ite .next .next) .next
  | gptpSyncLoss _ => exact .ite .next .next
  | qbvCycleStart => exact .ite .next .next
  | ringFrameReceive _ _ => exact .ite .next .next
  | ringPeriodicSend => exact .ite .next .next
  | ringLinkSend => exact .ite .next .next
  | ringDelayReq _ _ _ _ _ => exact .ite .next .next
  | faultFlagChange => exact .ite .next .next
  | ringLinkDown _ _ => exact .ite .next .next
  | ringLinkRestored _ _ => exact .ite .next .next
  | cascadeDeviceLost _ => exact .ite .next .next
  | masterLost => exact .ite .next .next
  | recorderFlush => exact .ite .next .next
  | postTriggerEnd =>
    change Answers (execPostTriggerEnd s)
    unfold execPostTriggerEnd
    repeat' split
    all_goals exact .next
  | trendRecord _ => exact .ite .next .next
  | handoverTakeover _ _ =>
    change Answers (execHandoverTakeover _ _ s)
    unfold execHandoverTakeover
    repeat' split
    all_goals exact .next
  | handoverTimeout =>
    change Answers (execHandoverTimeout s)
    unfold execHandoverTimeout
    repeat' split
    all_goals exact .next
  | feReload _ => exact .ite .next .next
  | islReload _ _ => exact execIslReload_answers wf s
  | feRotation _ => exact .ite .next .next
  | recalCoverEnd _ _ _ _ _ => exact .ite .next .next
  | feedbackConfirmsCommand _ _ =>
    change Answers (execFeedbackConfirmsCommand _ _ s)
    unfold execFeedbackConfirmsCommand
    dsimp only
    repeat' split
    all_goals exact .next
  | fluxMapDerivationEnd _ => exact .ite .next .next
  | retentionRestore _ _ =>
    change Answers (execRetentionRestore _ _ s)
    unfold execRetentionRestore
    dsimp only
    repeat' split
    all_goals exact .next
  | ipv4ReassemblyTimeout _ _ => exact .ite .next .next
  | ethLinkUp _ => exact .ite .next .next
  | arpRequest _ _ => exact .ite .next .next
  | icmpEchoRequest _ _ => exact .ite .next .next
  | tapInstruction _ _ => exact .ite .next .next

/-- Settles O3: every row but five answers in each of its branches, and those five fault on an ill-formed operand list alone. -/
theorem wellFormedCommandsAnswer : Obligations.WellFormedCommandsAnswer := by
  refine ⟨fun c s wf => exec_answers wf s, fun c s t answered => ?_⟩
  obtain ⟨⟨queue, -⟩, -⟩ := (exec_forward c s).next answered
  exact queue

end Sys2Proof.Machine
end

section
/-! What the words of the diagnostic window read in a module as delivered (Tables 12.12 to 12.14 and 17.8 to 17.14). -/

namespace Sys2Proof.Machine

/-! ### The units of a module as delivered -/

theorem getD_replicate_self {α : Type} (n i : Nat) (a : α) : (List.replicate n a).getD i a = a := by
  simp only [List.getD_eq_getElem?_getD, List.getElem?_replicate]
  split <;> rfl

theorem chanAt_reset (c : Nat) : chanAt State.reset c = Chan.reset := getD_replicate_self ..
theorem bridgeAt_reset (b : Nat) : bridgeAt State.reset b = Bridge.reset := getD_replicate_self ..
theorem tempAt_reset (i : Nat) : tempAt State.reset i = Sensor.reset := getD_replicate_self ..
theorem canAt_reset (n : Nat) : canAt State.reset n = CanCtl.reset := getD_replicate_self ..

/-- Only D0 is on; nothing asks for another domain. -/
theorem domAt_reset_zero : domAt State.reset 0 = { Dom.reset with req := .on, st := .on } := rfl
theorem domAt_reset_succ (n : Nat) : domAt State.reset (n + 1) = Dom.reset := getD_replicate_self 15 n _

/-! ### Block by block -/

theorem readClk_reset (i off : Nat) : readClk State.reset off = resetWord ⟨0, i, off⟩ := by
  simp only [readClk, resetWord]
  split <;> simp_all [State.reset, Clk.reset, bitAt]

theorem readFm_reset (i off : Nat) : readFm State.reset off = resetWord ⟨2, i, off⟩ := by
  simp only [readFm, fmStat, resetWord]
  split <;> simp_all [State.reset, Clk.reset, bitAt]

theorem readPwr_reset (i off : Nat) (aligned : off % 4 = 0) : readPwr State.reset off = resetWord ⟨1, i, off⟩ := by
  have dom : ∀ k, k % 4 = 0 → k ≠ 0 → domAt State.reset (k / 4) = Dom.reset := fun k word other => by
    obtain ⟨n, place⟩ : ∃ n, k / 4 = n + 1 := ⟨k / 4 - 1, by omega⟩
    rw [place, domAt_reset_succ]
  by_cases requests : off < 0x40
  · by_cases first : off = 0
    · subst first
      rfl
    · simp only [readPwr, if_pos requests, dom off aligned first]
      simp [resetWord, first, show off ≠ 0x40 by omega, show off < 0x80 by omega, Dom.reset, domCode]
  by_cases states : off < 0x80
  · by_cases first : off = 0x40
    · subst first
      rfl
    · simp only [readPwr, if_neg requests, if_pos states, dom (off - 0x40) (by omega) (by omega)]
      simp [resetWord, first, show off ≠ 0 by omega, states, Dom.reset, domCode, bitAt]
  by_cases wake : off = 0x88
  · subst wake
    rfl
  · simp only [readPwr, if_neg requests, if_neg states, resetWord, if_neg (show ¬ (off = 0 ∨ off = 0x40) by omega),
      if_neg (show ¬ (off < 0x80 ∨ off = 0x88) by omega)]
    split
    case h_3 => exact absurd rfl wake
    all_goals rfl

theorem readCan_reset (n off : Nat) : readCan State.reset n off = resetWord ⟨7, n, off⟩ := by
  simp only [readCan, resetWord, canAt_reset]
  split <;> simp_all [CanCtl.reset, bitAt]

theorem readRec_reset (i off : Nat) (aligned : off % 4 = 0) (defined : off ≤ 0x10) :
    readRec State.reset off = resetWord ⟨9, i, off⟩ := by
  simp only [readRec, resetWord]
  split <;> simp_all [State.reset, Rec.reset, bitAt]
  omega

theorem readIsl_reset (c off : Nat) : readIsl State.reset c off = 0 := by
  simp only [readIsl, islandCond, chanAt_reset]
  split
  · rfl
  · simp [Chan.reset, islandThere, low]
  · rfl
  · rfl

theorem readPwm_reset (b off : Nat) : readPwm State.reset b off = 0 := by
  simp only [readPwm, recentRefusals, bridgeAt_reset]
  split
  · rfl
  · rfl
  · rfl
  · rfl
  · change (([(0, 0), (0, 0), (0, 0)] : List (Nat × Nat)).getD ((off - 8) / 4) (0, 0)).1 = 0
    exact congrArg Prod.fst (getD_replicate_self 3 _ _)

/-- No sensor is marked fast, so none is fast as the neighbour of one. -/
theorem isFast_reset (i : Nat) : isFast State.reset i = false := by
  simp [isFast, tempAt_reset, Sensor.reset]

theorem readTemp_reset (off : Nat) : readTemp State.reset off = 0 := by
  simp only [readTemp, tempAt_reset, isFast_reset]
  split
  · rfl
  · simp [Sensor.reset, low, roundRat, roundDiv]

theorem readSns_reset (x off : Nat) : readSns State.reset x off = 0 := by
  have bank : (if x = 0 then State.reset.bankA else State.reset.bankB) = SnsBank.reset := by split <;> rfl
  simp only [readSns, bank]
  split
  · split <;> rfl
  · rfl
  · rfl
  · rfl
  · exact congrArg (low 32) (getD_replicate_self 8 _ _)

theorem readEth_reset (off : Nat) : readEth State.reset off = 0 := by
  have port : State.reset.net.eth.getD (off / 0x40) EthPort.reset = EthPort.reset := getD_replicate_self ..
  have tagged : netPar State.reset 0x23 = 0 := rfl
  simp only [readEth, port, tagged]
  split
  · rfl
  · rfl
  · rfl
  · split
    · simp [State.reset, Net.reset, EthPort.reset, portGated, hasBit, bitAt]
    · rfl
    · rfl
    · rfl

/-! ### The window -/

/-- A block's instances lie at multiples of 4. -/
theorem four_dvd_blkStride (k : Nat) : 4 ∣ (blkStride k).1 := by
  unfold blkStride
  split <;> decide

/-- A word that the window defines lies at a multiple of 4 in its block. -/
theorem regAt_defined {addr : Nat} {r : RegAt} (word : regAt addr = some r) : r.off % 4 = 0 ∧ offDefined r.block r.off = true := by
  revert word
  fun_cases regAt addr
  next => exact fun word => nomatch word
  next inside k low stride n block defined =>
    have aligned : low % 4 = 0 :=
      (Nat.mod_mod_of_dvd addr (by decide : 4 ∣ 0x10000)).trans (not_not.mp (not_or.mp inside).1)
    clear_value k low
    intro word
    obtain rfl := Option.some.inj word
    have stride4 : 4 ∣ stride := by simpa [block] using four_dvd_blkStride k
    exact ⟨(Nat.mod_mod_of_dvd low stride4).trans aligned, defined.2⟩
  next => exact fun word => nomatch word

/-- Settles O8, block by block. -/
theorem everyWordResetsAsTabled : Obligations.EveryWordResetsAsTabled := by
  intro addr r word
  obtain ⟨aligned, defined⟩ := regAt_defined word
  obtain ⟨block, inst, off⟩ := r
  match block, defined with
  | 0, _ => exact readClk_reset inst off
  | 1, _ => exact readPwr_reset inst off aligned
  | 2, _ => exact readFm_reset inst off
  | 3, _ => exact readSns_reset inst off
  | 4, _ => exact readPwm_reset inst off
  | 5, _ => exact readIsl_reset inst off
  | 6, _ => exact readTemp_reset off
  | 7, _ => exact readCan_reset inst off
  | 8, _ => exact readEth_reset off
  | 9, defined => exact readRec_reset inst off aligned (by simpa [offDefined] using defined)

end Sys2Proof.Machine
end

section
/-! What the queries answer (R453, R468, R475, R476, R481, R485, R487, R488, R491, R494, R547, R570, R577, R578). -/

namespace Sys2Proof.Machine

/-! ### Queries without operands -/

theorem opRecInfo_of_on {s : State} (on : domOn s 4 = true) (gate : gateOpen s 10 = true) (t : Nat) :
    opRecInfo t s = finish t ST_OK (beBytes 4 4194304 ++ beBytes 4 ((oldestEsn s).getD (Config.freeWord s.time.free)).toNat ++
      beBytes 4 (s.recd.newest.getD 0).toNat ++ beBytes 4 s.recd.entOvw.toNat ++ beBytes 4 4194304)
      { s with time := { s.time with free := s.time.free + 1 } } := by
  simp only [opRecInfo, on, gate, Bool.not_true, Bool.false_eq_true, if_false]
  rfl

theorem opAttest_of_gate {s : State} (gate : gateOpen s 0 = true) (t : Nat) (nonce : Digest) :
    opAttest t nonce s = finish t ST_OK (attestHead s s.time.free nonce ++ beBytes 384 (Config.rsaSignature Config.identityModulus
      (Config.sha256 (attestHead s s.time.free nonce))).toNat) { s with time := { s.time with free := s.time.free + 224 } } := by
  simp only [opAttest, gate, Bool.not_true, Bool.false_eq_true, if_false]
  rfl

/-- Settles O24: each query is one reply over the state in which it begins, apart from the free values that the reply draws. -/
theorem queriesWithoutOperandsAnswer : Obligations.QueriesWithoutOperandsAnswer := by
  intro h nonce s u w
  refine ⟨fun g => ?identify, fun g => ?getState, fun g on gate => ?recInfo, fun g gate => ?attest, fun g => ?cascStatus,
    fun g => ?snapshotInfo, fun g => ?stoStatus, fun g => ?lockoutList⟩
  case identify => exact begins_answers (f := opIdentify) w g rfl u.time.free rfl
  case getState => exact begins_answers (f := opGetState) w g rfl (u.time.free + 1 + 1) rfl
  case recInfo => exact begins_answers (f := opRecInfo) w g rfl (u.time.free + 1) (opRecInfo_of_on on gate _)
  case attest => exact begins_answers (f := fun t => opAttest t nonce) w g rfl (u.time.free + 224) (opAttest_of_gate gate _ _)
  case cascStatus => exact begins_answers (f := opCascStatus) w g rfl u.time.free rfl
  case snapshotInfo => exact begins_answers (f := opSnapshotInfo) w g rfl (u.time.free + 12) rfl
  case stoStatus => exact begins_answers (f := opStoStatus) w g rfl u.time.free rfl
  case lockoutList => exact begins_answers (f := opLockoutList) w g rfl u.time.free rfl

/-! ### Queries with operands -/

section
variable {t : Nat} {s : State}

/-- CTX_QUERY of a context of the asker's own session goes on to the state of that context (R453). -/
theorem opCtxQuery_of_own {tag : Byte} (short : tag.toNat ≤ 127) (busy : (ctxAt s tag.toNat).st ≠ .free)
    (mute : (ctxAt s tag.toNat).mute = false) (own : (ctxAt s tag.toNat).gen = (ctxAt s t).gen) (open_ : (ctxAt s tag.toNat).gen ≠ 0) :
    opCtxQuery t tag s =
      match (ctxAt s tag.toNat).st, (ctxAt s tag.toNat).final with
      | .done, some r => finish t ST_OK ([ctxCode (ctxAt s tag.toNat).st, 0] ++ beBytes 2 (ctxAt s tag.toNat).opcode.toNat ++
          beBytes 4 0 ++ replyBytes r) s
      | .done, none => refuse t ST_NO_CONTEXT RS_NONE 0xFF 0 s
      | _, _ => finish t ST_OK ([ctxCode (ctxAt s tag.toNat).st, 0] ++ beBytes 2 (ctxAt s tag.toNat).opcode.toNat ++
          beBytes 4 (msLeft s (ctxAt s tag.toNat))) s := by
  have passed : ¬ ((ctxAt s tag.toNat).st == .free || (ctxAt s tag.toNat).mute || (ctxAt s tag.toNat).gen != (ctxAt s t).gen ||
      (ctxAt s tag.toNat).gen == 0) = true := by simp [busy, mute, ← own, open_]
  exact (if_neg (by omega)).trans (if_neg passed)

theorem opCmpStatus_of_gate {unit : Byte} (short : unit.toNat < 16) (gate : gateOpen s 12 = true) :
    opCmpStatus t unit s = finish t ST_OK ([cmpCode (cmpAt s unit.toNat).st, BitVec.ofNat 8 (bitAt (cmpAt s unit.toNat).late 0 +
      bitAt (cmpAt s unit.toNat).repFlag 1 + bitAt (cmpAt s unit.toNat).back 2)] ++
      beBytes 2 (cmpAt s unit.toNat).unrec ++ beBytes 4 (cmpAt s unit.toNat).esn.toNat ++
      beBytes 8 (cmpAt s unit.toNat).time ++ beBytes 4 (cmpAt s unit.toNat).angle) s :=
  (if_neg (by omega)).trans (if_neg (by simp [gate]))

/-- A row of a counted list whose count is in its range is the opcode's own meaning. -/
theorem countRow_of_range {n : Nat} (least : 1 ≤ n) (most : n ≤ 255) (f : State → State) : countRow n t f s = f s :=
  (if_neg (by omega)).trans (if_neg (by omega))

theorem opCommitPrepare_of_free (free : stagingHeld t s = false) :
    opCommitPrepare t s =
      finish t ST_OK (beBytes 32 (stagingDigest (stagedSet s)).toNat ++ beBytes 4 s.store.act.serial.toNat) s :=
  if_neg (by simp [free])

theorem opCalRead_of_found {kind inst : U16} {origin age : Byte} {p : Peg} (known : origin = 1 ∨ origin = 2 ∨ origin = 3)
    (found : findPeg s kind inst origin age = some p) : opCalRead t kind inst origin age s = finish t ST_OK (pegBytes p) s := by
  have range : ¬ (origin = 0 ∨ 3 < origin.toNat) := by rcases known with rfl | rfl | rfl <;> decide
  simp only [opCalRead, range, if_false, found]

theorem opRecRead_of_on {first : Esn} {count : U16} (least : 1 ≤ count.toNat) (most : count.toNat ≤ 4096) (on : domOn s 4 = true)
    (gate : gateOpen s 10 = true) : opRecRead t first count s = sendParts t 66 ((entriesFrom first s).take count.toNat) s := by
  have range : ¬ (count = 0 ∨ 4096 < count.toNat) := by bv_omega
  exact (if_neg range).trans ((if_neg (by simp [on])).trans (if_neg (by simp [gate])))

theorem opTrendRead_of_on {channel count : U16} {time : U64} (known : channel.toNat ≤ 127) (least : 1 ≤ count.toNat)
    (most : count.toNat ≤ 63) (on : domOn s 4 = true) (gate : gateOpen s 10 = true) :
    let rs := ((s.recd.trend.getD channel.toNat []).filter (fun r => decide (time.toNat ≤ r.time))).take count.toNat
    opTrendRead t channel count time s = finish t ST_OK (beBytes 2 rs.length ++ zeros 2 ++ rs.flatMap trendBytes) s := by
  have range : ¬ (count = 0 ∨ 63 < count.toNat) := by bv_omega
  exact (if_neg (by omega)).trans ((if_neg range).trans ((if_neg (by simp [on])).trans (if_neg (by simp [gate]))))

theorem opRegRead_of_words {addr : U32} {words : U16} {rs : List RegAt} (least : 1 ≤ words.toNat) (most : words.toNat ≤ 256)
    (known : regsFrom addr.toNat words.toNat = some rs) (allowed : rs.findSome? (regRefusal s) = none) :
    opRegRead t addr words s = finish t ST_OK (rs.flatMap (fun r => leBytes 4 (readReg s r))) s := by
  have range : ¬ (words = 0 ∨ 256 < words.toNat) := by bv_omega
  simp only [opRegRead, range, if_false, known, allowed]

end

/-- Settles O25: a query whose operands lie in their ranges is one reply; REC_READ is the parts of one. -/
theorem queriesWithOperandsAnswer : Obligations.QueriesWithOperandsAnswer := by
  intro h s u w
  refine ⟨fun tag g short mute own open_ => ⟨fun running => ?running, fun r done final => ?done⟩, fun unit g short gate => ?cmpStatus,
    fun source ids g least most => ⟨fun active => ?active, fun staged => ?staged⟩, fun g free => ?prepare,
    fun kind inst origin age p g known found => ?calRead, fun first count g least most on gate => ?recRead,
    fun channel count time g known least most on gate => ?trendRead, fun addr words rs g least most known allowed => ?regRead⟩
  case running =>
    refine begins_answers (f := fun t => opCtxQuery t tag) w g rfl u.time.free ?_
    rcases running with st | st <;> simp [opCtxQuery_of_own short (by simp [st]) mute own open_, st]
  case done =>
    refine begins_answers (f := fun t => opCtxQuery t tag) w g rfl u.time.free ?_
    simp [opCtxQuery_of_own short (by simp [done]) mute own open_, done, final, ctxCode]
  case cmpStatus => exact begins_answers (f := fun t => opCmpStatus t unit) w g rfl u.time.free (opCmpStatus_of_gate short gate)
  case active =>
    subst active
    exact begins_answers (f := fun t s => countRow ids.length t (opParamRead t 0 ids) s) w g rfl u.time.free
      (countRow_of_range least most _)
  case staged =>
    subst staged
    exact begins_answers (f := fun t s => countRow ids.length t (opParamRead t 1 ids) s) w g rfl u.time.free
      (countRow_of_range least most _)
  case prepare => exact begins_answers (f := opCommitPrepare) w g rfl u.time.free (opCommitPrepare_of_free free)
  case calRead =>
    exact begins_answers (f := fun t => opCalRead t kind inst origin age) w g rfl u.time.free (opCalRead_of_found known found)
  case recRead =>
    intro es
    obtain ⟨-, st, hdr, mute, -⟩ := g.context w
    have row := begins_exec (c := .recRead h first count) (f := fun t => opRecRead t first count) g rfl
    obtain ⟨replies, only⟩ := sendParts_spec h 66 es u (by simp [es]; omega) hdr st mute (g.tagLt w)
    exact ⟨_, row.trans (congrArg _ (opRecRead_of_on least most on gate)), replies, only⟩
  case trendRead =>
    exact begins_answers (f := fun t => opTrendRead t channel count time) w g rfl u.time.free
      (opTrendRead_of_on known least most on gate)
  case regRead =>
    exact begins_answers (f := fun t => opRegRead t addr words) w g rfl u.time.free (opRegRead_of_words least most known allowed)

end Sys2Proof.Machine
end

section
/-! What the requests about the device, its machines and its units do (R201, R232, R237, R254, R263, R295, R448, R461, R476, R477, R479,
R481, R493, R561). -/

namespace Sys2Proof.Machine

/-! ### Effects beside a reply -/

/-- A state with what sending a reply takes as it is in another one. -/
def afterReply (s r : State) : State :=
  { s with
    out := r.out
    time := { s.time with esn := r.time.esn, free := r.time.free }
    net := { s.net with canTx := r.net.canTx, egress := r.net.egress, seqs := r.net.seqs, sentLog := r.net.sentLog }
    proto := { s.proto with ctx := r.proto.ctx } }

/-- An effect that neither reads nor changes what a reply takes may come before the reply or after it. -/
theorem OnlyReply.map {tag : Nat} {u x : State} (k : State → State) (blind : ∀ r, k (afterReply u r) = afterReply (k u) r)
    (ctx : (k u).proto.ctx = u.proto.ctx) (h : OnlyReply tag u x) : OnlyReply tag (k u) (k x) := by
  obtain ⟨frame, others⟩ := h
  have apart : k x = afterReply (k u) x := by
    rw [← blind]
    exact congrArg k frame
  refine ⟨?_, fun i other => ?_⟩
  · rw [apart]
    rfl
  · rw [apart, ctx]
    exact others i other

/-! ### The device (R448, R476, R477, R493) -/

/-- A command whose effect follows its reply and leaves the contexts alone. -/
theorem begins_completes_then {c : Instr} {h : Hdr} {op : Nat} {p : List Byte} {b : Bool} {s u : State} {f : Nat → State → State}
    {data : List Byte} (k : State → State) (w : WellBuilt s) (g : Begins h op p b s u) (hx : exec c s = .next (serve h op p b f s))
    (meaning : f h.tag.toNat u = k (finish h.tag.toNat ST_OK data u)) (ctx : ∀ x, (k x).proto.ctx = x.proto.ctx)
    (blind : ∀ r, k (afterReply u r) = afterReply (k u) r) : Completes c h data s (k u) := by
  have tag : h.tag.toNat < (finish h.tag.toNat ST_OK data u).proto.ctx.length := by simpa [id finish_keeps] using g.tagLt w
  refine ⟨_, (begins_exec g hx).trans (congrArg _ meaning), ?_, .map k blind (ctx u) (finish_onlyReply (g.tagLt w) _ _)⟩
  unfold Replies
  rw [ctxAt_of_ctx (ctx _) tag]
  exact g.replies w _ _ _ rfl

section
variable {t : Nat} {s : State}

theorem opServiceEnter_of_service (service : devState s = .service) : opServiceEnter t s = finish t ST_OK [] s :=
  if_pos (by simp [service])

theorem opServiceEnter_of_quiet (outside : devState s ≠ .service) (quiet : anyActive s (List.range 8) = false) :
    opServiceEnter t s = finish t ST_OK [] (noteService 0x04 { s with dev := { s.dev with commanded := true } }) :=
  (if_neg (by simp [outside])).trans (if_neg (by simp [quiet]))

theorem opServiceLeave_of_commanded (service : devState s = .service) (commanded : serviceReason s = 0x04) :
    opServiceLeave t s = finish t ST_OK [] { s with dev := { s.dev with commanded := false } } :=
  if_pos (by simp [service, commanded])

end

/-- A RESET waits: BOOT is entered 10 ms after its reply (R477). -/
def scheduleReset (s : State) : State :=
  { s with dev := { s.dev with resetAt := some (s.dev.resetAt.getD (s.time.rtc + 328).toNat) } }

theorem opReset_of_quiet {s : State} (quiet : anyActive s (List.range 8) = false) (t : Nat) :
    opReset t 0 s = scheduleReset (finish t ST_OK [] s) :=
  (if_neg (by simp)).trans (if_neg (by simp [quiet]))

/-- A freeze is asked for by the opcode (R493). -/
def askFreeze (s : State) : State := { s with recd := { s.recd with freezeOpcode := true } }

/-- A command that is an acceptance and an effect that neither reads nor changes what a reply takes. -/
theorem begins_accepts_then {c : Instr} {h : Hdr} {op : Nat} {p : List Byte} {b : Bool} {s u : State} {f : Nat → State → State}
    {ms : Nat} (k : State → State) (w : WellBuilt s) (g : Begins h op p b s u) (hx : exec c s = .next (serve h op p b f s))
    (meaning : f h.tag.toNat u = k (accept h.tag.toNat ms u)) (parts : ∀ x, (k x).proto.ctx = x.proto.ctx ∧ (k x).time.dev = x.time.dev)
    (blind : ∀ r, k (afterReply u r) = afterReply (k u) r) : Accepts c h ms s (k u) :=
  begins_accepts k w g hx meaning rfl parts (fun _ => .map k blind (parts u).1)

/-- Settles O26: each row is one reply, with its effect before it, after it or none. -/
theorem deviceRequestsComplete : Obligations.DeviceRequestsComplete := by
  intro h s u w
  refine ⟨fun g => ⟨fun service => ?inService, fun outside quiet => ?enter⟩, fun g service commanded => ?leave,
    fun g quiet => ?reset, fun g => ?freeze, fun g => ?close⟩
  case inService => exact begins_completes (f := opServiceEnter) w g rfl rfl (opServiceEnter_of_service service)
  case enter =>
    exact begins_completes (f := opServiceEnter) w g rfl (by simp [id noteService_same]) (opServiceEnter_of_quiet outside quiet)
  case leave => exact begins_completes (f := opServiceLeave) w g rfl rfl (opServiceLeave_of_commanded service commanded)
  case reset =>
    exact begins_completes_then (f := fun t => opReset t 0) scheduleReset w g rfl (opReset_of_quiet quiet _) (fun _ => rfl)
      (fun _ => rfl)
  case freeze =>
    exact begins_completes_then (f := opFreeze) askFreeze w g rfl rfl (fun _ => rfl) (fun _ => rfl)
  case close =>
    obtain ⟨-, -, hdr, -⟩ := g.context w
    refine ⟨finish h.tag.toNat ST_OK [] u, (begins_exec (f := opSessionClose) g rfl).trans ?_, g.replies w _ _ _ rfl,
      finish_onlyReply (g.tagLt w) _ _⟩
    simp only [opSessionClose, hdr]

/-! ### References and starts (R201, R237, R254, R461, R479) -/

section
variable {t m : Nat} {s : State}

theorem setRef_of_free {r : Ref} (takes : takesRefs s m = true) (running : (machAt s m).ph ≠ .discharging)
    (own : boundElsewhere s m (ctxAt s t).hdr.session.toNat = false) :
    setRef t m r s = finish t ST_OK [] (applyRef (ctxAt s t).arrival m r s) :=
  (if_neg (by simp [takes])).trans ((if_neg (by simp [running])).trans (if_neg (by simp [own])))

/-- The machine's start begins: the checks of a sensor start or the catch of a flying one (R237). -/
def beginStart (t m : Nat) (d : Int) (s : State) : State :=
  modMach m (fun x => { x with ph := if usesIf s m then .checking else .catching, phStart := s.time.dev, extended := false,
                               dir := d, autoStart := false, tag := some t, pluck := none }) s

theorem startMachine_of_armed {d : Int} (armed : allIn s (machBridges s m) .armed = true) (rest : isStart (machAt s m).ph = false)
    (still : (machAt s m).tRef = 0) (angle : mPar s m 0x18 = 0 → ifAngleOk s m = true) :
    startMachine t m d s = beginStart t m d (accept t 2000 s) :=
  (if_neg (by simp [armed])).trans ((if_neg (by simp [rest])).trans ((if_neg (by simp [still])).trans
    (if_neg (by simpa using angle))))

/-- The machine's pluck test waits for the catch window (R254). -/
def beginPluckCatch (t m : Nat) (s : State) : State :=
  modMach m (fun x => { x with ph := .catching, phStart := s.time.dev, extended := false, tag := some t,
                               pluck := some (Pluck.fresh true) }) s

theorem pluckMachine_of_armed (armed : allIn s (machBridges s m) .armed = true) (pmsm : isPmsm s m = true)
    (rest : isStart (machAt s m).ph = false) (still : (machAt s m).tRef = 0) (blind : (hasIf s m && ifSpeedOk s m) = false) :
    pluckMachine t m s = beginPluckCatch t m (accept t 200 s) :=
  (if_neg (by simp [armed, pmsm])).trans ((if_neg (by simp [rest])).trans ((if_neg (by simp [still])).trans
    (if_neg (by simp [blind]))))

end

/-- Settles O28: a reference is one reply over its effect, and a start or a test is accepted and then begins. -/
theorem motionRequestsComplete : Obligations.MotionRequestsComplete := by
  intro h machine s u w there m
  refine ⟨fun torque g range takes running own => ?torque, fun speed g range takes running own => ?speed,
    fun dir d named g armed rest still angle => ?start, fun g armed pmsm rest still blind => ?pluck⟩
  case torque =>
    obtain ⟨-, -, hdr, -⟩ := g.context w
    refine begins_completes (f := fun t => opTorqueSet t machine torque) w g rfl (by simp [id applyRef_same]) ?_
    exact (withMachine_of_exists there _ _).trans ((if_pos range).trans (setRef_of_free takes running (by rwa [hdr])))
  case speed =>
    obtain ⟨-, -, hdr, -⟩ := g.context w
    refine begins_completes (f := fun t => opSpeedSet t machine speed) w g rfl (by simp [id applyRef_same]) ?_
    exact (withMachine_of_exists there _ _).trans ((if_pos range).trans (setRef_of_free takes running (by rwa [hdr])))
  case start =>
    refine begins_accepts_then (f := fun t => opStart t machine dir) (beginStart h.tag.toNat m d) w g rfl ?_
      (fun _ => ⟨rfl, rfl⟩) (fun _ => rfl)
    refine (withMachine_of_exists there _ _).trans ?_
    rcases named with ⟨rfl, rfl⟩ | ⟨rfl, rfl⟩
    · exact (if_pos rfl).trans (startMachine_of_armed armed rest still angle)
    · exact (if_neg (by decide)).trans ((if_pos rfl).trans (startMachine_of_armed armed rest still angle))
  case pluck =>
    exact begins_accepts_then (f := fun t => opPluckTest t machine) (beginPluckCatch h.tag.toNat m) w g rfl
      ((withMachine_of_exists there _ _).trans (pluckMachine_of_armed armed pmsm rest still blind))
      (fun _ => ⟨rfl, rfl⟩) (fun _ => rfl)

end Sys2Proof.Machine
end

section
/-! What RETIRE, CMP_ARM and REMAP do (R263, R295, R481, R561). -/

namespace Sys2Proof.Machine

section
variable {t i r : Nat} {index repl : Byte} {s : State}

/-! ### RETIRE -/

/-- A leg or a bridge that does not run is out at once (R481). -/
theorem retireLegOrBridge_of_rest {b leg : Nat} (rest : stOf s b = .idle ∨ stOf s b = .disabled ∨ stOf s b = .safe) :
    retireLegOrBridge t b leg index s = finish t ST_OK [bridgeCode .retired] (retireBridge b leg s) := by
  refine if_pos ?_
  rcases rest with st | st | st <;> simp [st]

/-- The machine's torque ramps down, after which bridge `b` goes out (R232). -/
def beginRetireRamp (t m b : Nat) (s : State) : State :=
  modMach m (fun x => { x with ramp := .retire b 3, halfLim := true, tag := some t }) s

theorem retireLegOrBridge_of_running {b m : Nat} (running : stOf s b = .running) (drives : bridgeMach s b = some m)
    (six : (machBridges s m).length = 2) (all : allIn s (machBridges s m) .running = true) (level : (machAt s m).ramp = .none)
    (free : (machAt s m).tag = none) : retireLegOrBridge t b 3 index s = beginRetireRamp t m b (accept t 2000 s) := by
  refine (if_neg (by simp [running])).trans ?_
  rw [drives]
  exact if_pos ⟨six, all, level, free⟩

/-- A position interface is out (R263, R481). -/
def retirePos (p : Nat) (s : State) : State :=
  stopPouts p (modPos p (fun x => { x with retired := true, angleValid := false, speedValid := false }) s)

theorem retireIf_of_still (still : ∀ m, ifMachine s i = some m → machRunning s m = false) :
    retireIf t i s = finish t ST_OK [bridgeCode .retired] (retirePos i s) := by
  unfold retireIf
  cases serves : ifMachine s i with
  | some m => exact if_pos (by simp [still m serves])
  | none => rfl

theorem opRetire_of_leg (known : index.toNat < 24) :
    opRetire t 0 index s = retireLegOrBridge t (legBridge s index.toNat) (legPhase s index.toNat) index s :=
  if_pos ⟨rfl, known⟩

theorem opRetire_of_bridge (known : index.toNat < 8) : opRetire t 1 index s = retireLegOrBridge t index.toNat 3 index s := by
  simp [opRetire, known]

theorem opRetire_of_interface (known : index.toNat < 8) : opRetire t 2 index s = retireIf t index.toNat s := by
  simp [opRetire, known]

/-! ### CMP_ARM -/

theorem opCmpArm_of_disarm {target : U32} (known : index.toNat < 16) (gate : gateOpen s 12 = true) :
    opCmpArm t index 2 target s = finish t ST_OK []
      (modCmp index.toNat (fun x => { x with st := .disarmed, waiting := false, pend := none }) (fireHit index.toNat s)) :=
  (if_neg (by omega)).trans ((if_neg (by simp [gate])).trans (if_pos rfl))

theorem opCmpArm_of_target {form : Byte} {target : U32} (known : index.toNat < 16) (gate : gateOpen s 12 = true)
    (arms : form.toNat < 2) (range : target.toNat < 262144) (on : domOn s (8 + cmpIf s index.toNat) = true) :
    opCmpArm t index form target s =
      finish t ST_OK [] (modCmp index.toNat (fun x => { x with pend := some (target.toNat, form == 1) }) s) := by
  have arming : form ≠ 2 := by bv_omega
  exact (if_neg (by omega)).trans ((if_neg (by simp [gate])).trans ((if_neg arming).trans ((if_neg (by omega)).trans
    ((if_neg (by omega)).trans (if_neg (by simp [on]))))))

/-! ### REMAP -/

theorem opRemap_of_leg (known : index.toNat < 24) (spare : repl.toNat < 24) :
    opRemap t 0 index repl s = remapLeg t index.toNat repl.toNat index s :=
  (if_pos known).trans ((if_pos spare).trans (if_pos rfl))

theorem opRemap_of_bridge (known : index.toNat < 8) (spare : repl.toNat < 8) :
    opRemap t 1 index repl s = remapBridge t index.toNat repl.toNat index s :=
  (if_pos known).trans ((if_pos spare).trans ((if_neg (by decide)).trans (if_pos rfl)))

theorem opRemap_of_interface (known : index.toNat < 8) (spare : repl.toNat < 8) :
    opRemap t 2 index repl s = remapIf t index.toNat repl.toNat index s :=
  (if_pos known).trans ((if_pos spare).trans ((if_neg (by decide)).trans (if_neg (by decide))))

theorem remapLeg_of_spare (other : r ≠ i) (retired : stOf s (i / 3) = .retired)
    (cause : (bridgeAt s (i / 3)).retiredLeg = some (i % 3)) (phase : r % 3 = i % 3) (spare : spareBridge s (r / 3) = true)
    (group : lgOf s (r / 3) = lgOf s (i / 3)) (still : machineStill s (i / 3) = true) (on : domOn s (8 + r / 3) = true)
    (fresh : s.store.mapL.contains (ixByte r) = false) :
    remapLeg t i r index s =
      finish t ST_OK [] (returnBridge (i / 3) { s with store := { s.store with mapL := s.store.mapL.set i (ixByte r) } }) :=
  (if_neg other).trans (if_pos ⟨by simp [retired], cause, phase, spare, group, still, on, by rw [fresh]; rfl⟩)

theorem remapLeg_of_removal (mapped : s.store.mapL.getD i 0xFF ≠ 0xFF) (still : machineStill s (i / 3) = true)
    (there : stOf s (i / 3) ≠ .retired) :
    remapLeg t i i index s = finish t ST_OK [] { s with store := { s.store with mapL := s.store.mapL.set i 0xFF } } := by
  refine (if_pos rfl).trans ((if_pos ⟨.inr mapped, still⟩).trans ?_)
  have stays : ¬ (stOf { s with store := { s.store with mapL := s.store.mapL.set i 0xFF } } (i / 3) == .retired) = true := by
    simpa [stOf, bridgeAt] using there
  exact congrArg (finish t ST_OK []) (if_neg stays)

/-- Bridge `r` takes the place of bridge `b` (R561). -/
def mapBridge (b r : Nat) (s : State) : State :=
  let v := { s with store := { s.store with mapB := s.store.mapB.set b (ixByte r) } }
  modBridge r (fun br => { br with st := idleState v r br }) v

theorem remapBridge_of_spare (other : r ≠ i) (retired : stOf s i = .retired) (assigns : assigned s i = true)
    (lower : sixLower s i = false) (upper : sixUpper s i = false) (spare : spareBridge s r = true) (group : lgOf s r = lgOf s i)
    (still : machineStill s i = true) : remapBridge t i r index s = finish t ST_OK [] (mapBridge i r s) :=
  (if_neg other).trans (if_pos ⟨by simp [retired], assigns, by simp [lower, upper], spare, group, still⟩)

theorem remapIf_of_spare (other : r ≠ i) (retired : (posAt s i).retired = true) (unused : posPar s r 0 = 0)
    (serves : ifMachine s r = none) (fresh : s.store.mapP.contains (ixByte r) = false)
    (nobody : (machines s).find? (fun m => hasIf s m && mParN s m 0x19 == i) = none) :
    remapIf t i r index s = finish t ST_OK [] (initPos r { s with store := { s.store with mapP := s.store.mapP.set i (ixByte r) } }) := by
  refine (if_neg other).trans (if_pos ?_)
  rw [nobody]
  simpa [retired, unused, serves] using fresh

end

/-- Settles O29: each row goes to its unit, whose one reply stands over its effect. -/
theorem unitRequestsComplete : Obligations.UnitRequestsComplete := by
  intro h index repl s u w i r
  refine ⟨fun g known => ⟨fun rest => ?bridgeAtRest, fun m running drives six all level free => ?bridgeRunning⟩,
    fun g known rest => ?leg, fun g known still => ?interface, fun g known gate => ?disarm,
    fun form target g known gate arms range on => ?target,
    fun g known spare other retired cause phase spareB group still on fresh => ?remapLeg,
    fun g known spare other retired assigns lower upper spareB group still => ?remapBridge,
    fun g known spare other retired unused serves fresh nobody => ?remapIf, fun g known mapped still there => ?removal⟩
  case bridgeAtRest =>
    exact (begins_exec (f := fun t => opRetire t 1 index) g rfl).trans
      (congrArg _ ((opRetire_of_bridge known).trans (retireLegOrBridge_of_rest rest)))
  case bridgeRunning =>
    exact begins_accepts_then (f := fun t => opRetire t 1 index) (beginRetireRamp h.tag.toNat m i) w g rfl
      ((opRetire_of_bridge known).trans (retireLegOrBridge_of_running running drives six all level free))
      (fun _ => ⟨rfl, rfl⟩) (fun _ => rfl)
  case leg =>
    exact (begins_exec (f := fun t => opRetire t 0 index) g rfl).trans
      (congrArg _ ((opRetire_of_leg known).trans (retireLegOrBridge_of_rest rest)))
  case interface =>
    exact begins_completes (f := fun t => opRetire t 2 index) w g rfl (by simp [id stopPouts_same])
      ((opRetire_of_interface known).trans (retireIf_of_still still))
  case disarm =>
    exact (begins_exec (f := fun t => opCmpArm t index 2 0) g rfl).trans (congrArg _ (opCmpArm_of_disarm known gate))
  case target =>
    exact begins_completes (f := fun t => opCmpArm t index form target) w g rfl rfl (opCmpArm_of_target known gate arms range on)
  case remapLeg =>
    exact (begins_exec (f := fun t => opRemap t 0 index repl) g rfl).trans (congrArg _ ((opRemap_of_leg known spare).trans
      (remapLeg_of_spare other retired cause phase spareB group still on fresh)))
  case remapBridge =>
    intro v
    exact begins_completes (f := fun t => opRemap t 1 index repl) w g rfl rfl ((opRemap_of_bridge known spare).trans
      (remapBridge_of_spare other retired assigns lower upper spareB group still))
  case remapIf =>
    exact begins_completes (f := fun t => opRemap t 2 index repl) w g rfl (by simp [id initPos_same])
      ((opRemap_of_interface known spare).trans (remapIf_of_spare other retired unused serves fresh nobody))
  case removal =>
    exact begins_completes (f := fun t => opRemap t 0 index index) w g rfl rfl
      ((opRemap_of_leg known known).trans (remapLeg_of_removal mapped still there))

end Sys2Proof.Machine
end

section
/-! What the parameter and calibration requests do (R484, R485, R487, R488, R558). -/

namespace Sys2Proof.Machine

section
variable {t : Nat} {s v : State}

theorem opParamWrite_of_valid {items : List Item} (free : stagingHeld t s = false) (valid : checkItems items = none) :
    let p := { stagedSet s with items := applyItems (stagedSet s).items items }
    opParamWrite t items s = finish t ST_OK [] { s with store := { s.store with staging := some ⟨(ctxAt s t).hdr.session, p⟩ } } := by
  refine (if_neg (by simp [free])).trans ?_
  rw [valid]

/-- A staged set whose digest is signed and which no rule refuses is stored and waits for its instant (R485). -/
theorem opCommitApply_of_signed {slot : Byte} {serial : U32} {digest : Digest} {sig : Rsa} (free : stagingHeld t s = false)
    (idle : s.store.pending = none) (newer : s.store.act.serial.toNat < serial.toNat)
    (same : digest = stagingDigest (stagedSet s)) (quiet : s.store.upd = none)
    (signed : verifySigned t 0x0302 slot 1 (beBytes 32 (Config.sha256 (beBytes 4 serial.toNat ++ beBytes 32 digest.toNat)).toNat)
      sig s = (none, v))
    (allowed : commitRefusal { stagedSet s with serial := serial } v = none) :
    let p := { stagedSet s with serial := serial }
    let k := storeInactive .pset (sealedSlot p) v
    opCommitApply t slot serial digest sig s = awaitInstant ⟨p, some t, !usesB v .pset, false⟩
      (accept t 500 { k with store := { k.store with staging := none, upd := none } }) := by
  intro p k
  have kept : k.store.upd = none := by
    have session : v.store.upd = s.store.upd := by
      have result : (verifySigned t 0x0302 slot 1 (beBytes 32 (Config.sha256 (beBytes 4 serial.toNat ++ beBytes 32 digest.toNat)).toNat)
        sig s).2 = v := congrArg Prod.snd signed
      simp [← result, id verifySigned_same]
    exact session.trans quiet
  refine (if_neg (by simp [free])).trans ((if_neg (by simp [idle])).trans ((if_neg (by omega)).trans ((if_neg (by simp [same])).trans ?_)))
  simp only [signed, allowed]
  exact congrArg (fun upd => awaitInstant ⟨p, some t, !usesB v .pset, false⟩
    (accept t 500 { k with store := { k.store with staging := none, upd := upd } })) (by rw [kept])

theorem opCommitDiscard_of_free (free : stagingHeld t s = false) :
    opCommitDiscard t s = finish t ST_OK [] { s with store := { s.store with staging := none } } :=
  if_neg (by simp [free])

theorem opSetSelect_of_good {p : Machine.PSet} (idle : s.store.pending = none) (parsed : parsePset (otherSlot s .pset).body = some p)
    (good : verifySlot s .pset (otherSlot s .pset) = .good) (newer : s.store.act.serial.toNat < p.serial.toNat)
    (content : psetContent (otherSlot s .pset).body s = .ok p)
    (allowed : stateBreach s (ruleView p s) (changedItems s.store.act.items p.items) = none) :
    opSetSelect t 0 s = awaitInstant ⟨p, some t, !usesB s .pset, false⟩ (accept t 500 s) := by
  have after : ¬ p.serial.toNat ≤ s.store.act.serial.toNat := by omega
  simp [opSetSelect, idle, parsed, good, after, content, allowed]

/-! ### CAL_RECAL (R558) -/

section
variable {index : Byte}

theorem opCalRecal_of_bank {target : Byte} (bank : target.toNat < 2) (known : index.toNat < 8)
    (on : domOn s (6 + target.toNat) = true) (other : recalBusy s (1 - target) index.toNat = false)
    (still : startingOn s index.toNat = false) : opCalRecal t target index s = beginRecal t target index s :=
  (if_pos bank).trans ((if_neg (by omega)).trans ((if_neg (by simp [on])).trans (if_neg (by rw [other, still]; decide))))

theorem opCalRecal_of_leg (known : index.toNat < 24) (on : domOn s (8 + legBridge s index.toNat) = true)
    (quiet : allQuiet s [legBridge s index.toNat] = true) : opCalRecal t 2 index s = beginRecal t 2 index s := by
  simp [opCalRecal, known, on, quiet]

/-- A recalibration waits for its end. -/
def addRecal (t : Nat) (target index : Byte) (s : State) : State :=
  { s with store := { s.store with recal := s.store.recal ++ [(target, index, some t)] } }

end

end

/-- Settles O30: what is staged changes the staging area alone, and an accepted set waits for its commit instant. -/
theorem parameterRequestsComplete : Obligations.ParameterRequestsComplete := by
  intro h s u v w
  refine ⟨fun items g least most free valid => ?write, fun slot serial digest sig g free idle newer same quiet signed => ?apply,
    fun g free => ?discard, fun p g idle parsed good newer content allowed => ?select,
    fun index g known on other still => ?bankA, fun index g known on other still => ?bankB, fun index g known on quiet => ?leg⟩
  case write =>
    obtain ⟨-, -, hdr, -⟩ := g.context w
    refine begins_completes (f := fun t s => countRow items.length t (opParamWrite t items) s) w g rfl rfl ?_
    rw [countRow_of_range least most, opParamWrite_of_valid free valid, hdr]
  case apply =>
    intro p allowed k
    exact (begins_exec (f := fun t => opCommitApply t slot serial digest sig) g rfl).trans
      (congrArg _ (opCommitApply_of_signed free idle newer same quiet signed allowed))
  case discard => exact begins_completes (f := opCommitDiscard) w g rfl rfl (opCommitDiscard_of_free free)
  case select =>
    exact (begins_exec (f := fun t => opSetSelect t 0) g rfl).trans
      (congrArg _ (opSetSelect_of_good idle parsed good newer content allowed))
  case bankA =>
    exact begins_accepts_then (f := fun t => opCalRecal t 0 index)
      (fun x => modBridge index.toNat (fun b => { b with recalA := true }) (addRecal h.tag.toNat 0 index x)) w g rfl
      (opCalRecal_of_bank (by decide) known on other still) (fun _ => ⟨rfl, rfl⟩) (fun _ => rfl)
  case bankB =>
    exact begins_accepts_then (f := fun t => opCalRecal t 1 index)
      (fun x => modBridge index.toNat (fun b => { b with recalB := true }) (addRecal h.tag.toNat 1 index x)) w g rfl
      (opCalRecal_of_bank (by decide) known on other still) (fun _ => ⟨rfl, rfl⟩) (fun _ => rfl)
  case leg =>
    exact begins_accepts_then (f := fun t => opCalRecal t 2 index) (addRecal h.tag.toNat 2 index) w g rfl
      (opCalRecal_of_leg known on quiet) (fun _ => ⟨rfl, rfl⟩) (fun _ => rfl)

end Sys2Proof.Machine
end

section
/-! What the update requests and the security requests do (R370, R448, R474, R490, R537, R545, R548, R550, R551). -/

namespace Sys2Proof.Machine

/-! ### The update requests -/

section
variable {t : Nat} {x : Update} {s : State}

theorem opUpdBegin_of_class {cls : U16} {total : U32} {manifest : Manifest} {c : ImgClass} (own : updateBusy t s = false)
    (single : otherClass cls s = false) (known : classOf cls = some c) (least : 840 < total.toNat)
    (most : total.toNat ≤ 840 + classMax c) : opUpdBegin t cls total manifest s = beginUpdate t c total.toNat manifest s := by
  have range : ¬ (total.toNat < 840 ∨ 840 + classMax c < total.toNat) := by omega
  simp [opUpdBegin, own, single, known, range]

/-- An update longer than its manifest opens the inactive slot of its class (R548). -/
theorem beginUpdate_of_long {c : ImgClass} {total : Nat} {manifest : Manifest} (long : 840 < total) :
    let d := dropUpdate s
    let toB := (slotsAt d c).inB != some true
    let n : Update := ⟨(ctxAt d t).hdr.session, c, toB, total⟩
    let v := modUpdSlot n (fun _ => ⟨.receiving, manifest, []⟩) d
    beginUpdate t c total manifest s =
      finish t ST_OK ([flagByte toB, 0, 0, 0] ++ beBytes 2 4000) { v with store := { v.store with upd := some n } } := by
  have short : ¬ total ≤ 840 := by omega
  simp only [beginUpdate, short, if_false]

theorem dropUpdate_proto (s : State) : (dropUpdate s).proto = s.proto := by
  unfold dropUpdate
  split
  · rfl
  · rfl

/-- An opcode of the update under way goes on with it (R489). -/
theorem withUpdate_of_own (own : updateBusy t s = false) (upd : s.store.upd = some x) (f : Update → State → State) :
    withUpdate t f s = f x s := by
  simp only [withUpdate, own, upd, Bool.false_eq_true, if_false]

theorem opUpdChunk_of_next {offset : U32} {data : List Byte} (own : updateBusy t s = false) (upd : s.store.upd = some x)
    (next : offset.toNat = updReceived s x) (fits : updReceived s x + data.length ≤ x.total) (open_ : (updSlot s x).st = .receiving) :
    opUpdChunk t offset data s = finish t ST_OK (beBytes 4 (updReceived s x + data.length))
      (modUpdSlot x (fun sl => { sl with st := if updReceived s x + data.length = x.total then .received else .receiving
                                         body := sl.body ++ data }) s) := by
  have takes : ¬ (offset.toNat ≠ updReceived s x ∨ x.total < updReceived s x + data.length ∨ (updSlot s x).st ≠ .receiving) := by
    simp [next, fits, open_]
  exact (withUpdate_of_own own upd _).trans (if_neg takes)

/-- What UPD_VERIFY finds does not depend on what sending a reply takes. -/
theorem verifyRefusal_afterReply (u r : State) (c : ImgClass) (sl : Slot) :
    verifyRefusal (afterReply u r) c sl = verifyRefusal u c sl := rfl

theorem opUpdVerify_of_good (own : updateBusy t s = false) (upd : s.store.upd = some x) (received : (updSlot s x).st = .received)
    (good : verifyRefusal s x.cls (updSlot s x) = none) (tag : t < s.proto.ctx.length) :
    opUpdVerify t s = finish t ST_OK (beBytes 4 (updSlot s x).man.version.toNat ++ [(updSlot s x).man.rollback, 0, 0, 0])
      (modUpdSlot x (fun sl => { sl with st := .verified }) (accept t 2000 s)) := by
  obtain ⟨frame, -⟩ := accept_onlyReply tag 2000
  have still : verifyRefusal (accept t 2000 s) x.cls (updSlot s x) = none := by
    rw [← good, ← verifyRefusal_afterReply s (accept t 2000 s)]
    exact congrArg (fun v => verifyRefusal v x.cls (updSlot s x)) frame
  refine (withUpdate_of_own own upd _).trans ?_
  simp [verifyUpdate, received, still]

theorem opUpdActivate_of_verified {timing : Byte} (known : timing.toNat ≤ 1) (own : updateBusy t s = false)
    (upd : s.store.upd = some x) (verified : (updSlot s x).st = .verified) (allowed : timing = 0 ∨ nowRefusal s x = none) :
    let v := accept t 500 { s with store := { s.store with upd := none } }
    opUpdActivate t timing s = if timing = 0 then activateNext t x v else activateNow t x v := by
  refine (withUpdate_of_own own upd _).trans ((if_neg (by omega)).trans ((if_neg (by simp [verified])).trans ?_))
  have passed : (if timing = 0 then none else nowRefusal s x) = none := by
    rcases allowed with zero | good
    · exact if_pos zero
    · rw [good, ite_self]
  rw [passed]

/-- The main pair's control is suspended and the image of a slot is to take over (R551). -/
def beginHandover (t : Nat) (x : Update) (s : State) : State :=
  let v := modPair .main (fun p => { p with suspended := true }) s
  { v with store := { v.store with upd := none, handover := some ⟨some t, s.time.dev, x.slotB, false, none⟩ } }

theorem opUpdHandover_of_allowed (upd : s.store.upd = some x) (allowed : handoverRefusal t s = none) :
    opUpdHandover t s = beginHandover t x (accept t 300 s) := by
  simp only [opUpdHandover, allowed, upd]
  rfl

end

/-- Settles O31: each request meets the update of its own session and goes on from the state of its slot. -/
theorem updateRequestsComplete : Obligations.UpdateRequestsComplete := by
  intro h x s u w
  refine ⟨fun cls total manifest c g own single known least most => ?begin,
    fun offset data g least most own upd next fits open_ => ?chunk, fun g own upd received good => ?verify,
    fun g own upd verified => ?next, fun g own upd verified allowed => ?now, fun g upd allowed => ?handover⟩
  case begin =>
    intro d toB n v
    obtain ⟨-, -, hdr, -⟩ := g.context w
    have session : (ctxAt d h.tag.toNat).hdr = h := by
      rw [ctxAt_of_ctx (by rw [dropUpdate_proto]) (g.tagLt w), hdr]
    refine begins_completes (f := fun t => opUpdBegin t cls total manifest) w g rfl ?_
      ((opUpdBegin_of_class own single known least most).trans ?_)
    · exact (congrArg (·.ctx) (dropUpdate_proto u) : d.proto.ctx = u.proto.ctx)
    · rw [beginUpdate_of_long least, session]
  case chunk =>
    refine begins_completes (f := fun t s => if data.length < 1 ∨ 4000 < data.length then refuse t ST_BAD_LENGTH RS_NONE 0xFF 0 s
      else opUpdChunk t offset data s) w g rfl ?_ ((if_neg (by omega)).trans (opUpdChunk_of_next own upd next fits open_))
    rfl
  case verify =>
    exact (begins_exec (f := opUpdVerify) g rfl).trans (congrArg _ (opUpdVerify_of_good own upd received good (g.tagLt w)))
  case next =>
    exact (begins_exec (f := fun t => opUpdActivate t 0) g rfl).trans
      (congrArg _ ((opUpdActivate_of_verified (by decide) own upd verified (.inl rfl)).trans (if_pos rfl)))
  case now =>
    exact (begins_exec (f := fun t => opUpdActivate t 1) g rfl).trans
      (congrArg _ ((opUpdActivate_of_verified (by decide) own upd verified (.inr allowed)).trans (if_neg (by decide))))
  case handover =>
    exact begins_accepts_then (f := opUpdHandover) (beginHandover h.tag.toNat x) w g rfl (opUpdHandover_of_allowed upd allowed)
      (fun _ => ⟨rfl, rfl⟩) (fun _ => rfl)

/-! ### SESSION_OPEN (R448, R545) -/

/-- The context of a request holds what its ciphertext decrypts to. -/
def notePlain (t : Nat) (plain : Option (List Byte)) (s : State) : State := modCtx t (fun c => { c with plain := some plain }) s

/-- Ending a request in its own context, SHORT and not muted, replies. -/
theorem replies_of_context {h : Hdr} {x : State} (tag : h.tag.toNat < x.proto.ctx.length) (st : (ctxAt x h.tag.toNat).st = .short)
    (hdr : (ctxAt x h.tag.toNat).hdr = h) (mute : (ctxAt x h.tag.toNat).mute = false) (status : U16) (data : List Byte) :
    Replies h status data (finish h.tag.toNat status data x) := by
  have done := finish_done (status := status) (data := data) tag (.inl st) mute
  rw [hdr] at done
  exact done

/-- A SESSION_OPEN row that begins is the opcode's own meaning, with the ciphertext decrypted. -/
theorem serveSession_begins {h : Hdr} {s u : State} (w : WellBuilt s) (g : Begins h 0x0701 (zeros 384) false s u)
    (plain : Option (List Byte)) :
    serveSession h plain s = opSessionOpen h.tag.toNat (notePlain h.tag.toNat plain u) := by
  have frame : notePlain h.tag.toNat plain u = _ := modCtx_frame (g.tagLt w) _
  have dispatched : dispatches (notePlain h.tag.toNat plain u) = true := by
    rw [frame]
    exact g.dispatched
  have first : nothingAhead h (notePlain h.tag.toNat plain u) = true := by
    rw [frame]
    exact g.first
  have allowed : stateRefusal 0x0701 false (notePlain h.tag.toNat plain u) = none := by
    rw [frame]
    exact g.allowed
  unfold notePlain at dispatched first allowed
  simp [serveSession, gated, notePlain, g.received, g.passed, dispatched, first, allowed]

/-- A context's decrypted key opens the lowest free session (R448, R545). -/
theorem opSessionOpen_of_key {t i : Nat} {k : List Byte} {s : State} (gate : gateOpen s 0 = true)
    (plain : sessionPlain (ctxAt s t) = some k) (size : k.length = 32) (free : freeSession s = some i) :
    let key := BitVec.ofNat 256 (beNat k)
    opSessionOpen t s = finish t ST_OK ([ixByte i] ++ zeros 3 ++ confirmation (directionKey key labelM2H) i (ctxAt s t).hdr.seq)
      (openSession i key (ctxAt s t).hdr.seq s) := by
  simp [opSessionOpen, gate, plain, size, free]

/-! ### KEY_INFO (R474) -/

theorem opKeyInfo_of_summary {t : Nat} {s : State} :
    let x := { s with time := { s.time with free := s.time.free + 128 } }
    let i := (ctxAt s t).hdr.session.toNat
    opKeyInfo t 0 s = finish t ST_OK (beBytes 32 identityHash.toNat ++ slotStates s ++
      (List.range 4).flatMap (fun i => slotHash (s.time.free + 32 * i) (ownerSlot s i)) ++ fuseBytes s ++ zeros 3 ++
      beBytes 16 (issueNonce i x).1.toNat) (issueNonce i x).2 := by
  intro x i
  have store : ((issueNonce i x).2).store.owners = s.store.owners ∧ ((issueNonce i x).2).store.fuses = s.store.fuses := by
    simp [issueNonce, x]
  obtain ⟨owners, fuses⟩ := store
  have states : slotStates (issueNonce i x).2 = slotStates s := by simp only [slotStates, ownerSlot, owners]
  have slot : ∀ n, ownerSlot (issueNonce i x).2 n = ownerSlot s n := fun n => by simp only [ownerSlot, owners]
  have counters : fuseBytes (issueNonce i x).2 = fuseBytes s := by simp only [fuseBytes, fuses]
  simp only [← states, ← slot, ← counters]
  rfl

/-! ### OWNER_SLOT (R537) -/

section
variable {t : Nat} {signer target : Byte} {hash : Digest} {sig : Rsa} {s v : State}

theorem ownerAuth_owners {action : Byte} (signed : ownerAuth t signer action hash sig s = (none, v)) :
    v.store.owners = s.store.owners := by
  have result : (ownerAuth t signer action hash sig s).2 = v := congrArg Prod.snd signed
  simp [← result, id ownerAuth_same]

theorem opOwnerFuse_of_empty (known : target.toNat < 4) (signed : ownerAuth t signer 0 hash sig s = (none, v))
    (empty : ownerSlot s target.toNat = .empty) :
    opOwnerFuse t signer target hash sig s = finish t ST_OK [] (setOwner target.toNat (.valid hash) v) := by
  have slot : ownerSlot v target.toNat = .empty := by simpa only [ownerSlot, ownerAuth_owners signed] using empty
  refine (if_neg (by omega)).trans ?_
  simp only [signed]
  exact if_pos (by simp [slot])

theorem opOwnerRevoke_of_valid {k : Digest} (known : target.toNat < 4) (signed : ownerAuth t signer 1 hash sig s = (none, v))
    (valid : ownerSlot s target.toNat = .valid k) (several : 1 < ((List.range 4).filter (fun i => slotValid (ownerSlot s i))).length) :
    opOwnerRevoke t signer target hash sig s = finish t ST_OK [] (setOwner target.toNat (.revoked k) v) := by
  have slots : ∀ i, ownerSlot v i = ownerSlot s i := fun i => by simp only [ownerSlot, ownerAuth_owners signed]
  refine (if_neg (by omega)).trans ?_
  simp only [signed, slots, valid]
  exact if_neg (by omega)

end

/-- Settles O32: each row is its opcode's one reply over its effect, the decrypted key of a SESSION_OPEN resting in its own context. -/
theorem securityRequestsComplete : Obligations.SecurityRequestsComplete := by
  intro h s u v w
  refine ⟨fun k i g gate size free => ?sessionOpen, fun g => ?summary, fun g => ?certificate,
    fun signer target hash sig known => ⟨fun g signed empty => ?fuse, fun k g signed valid several => ?revoke⟩,
    fun esn slot sig k g signed known absent => ?lockout⟩
  case sessionOpen =>
    intro key
    obtain ⟨-, short, hdr, mute, -⟩ := g.context w
    have tag := g.tagLt w
    have context : ctxAt (notePlain h.tag.toNat (some k) u) h.tag.toNat = { ctxAt u h.tag.toNat with plain := some (some k) } :=
      ctxAt_modCtx_self _ _ _ tag
    have frame : notePlain h.tag.toNat (some k) u = _ := modCtx_frame tag _
    have noted : OnlyReply h.tag.toNat u (notePlain h.tag.toNat (some k) u) :=
      ⟨by rw [frame], fun i other => ctx_modCtx_other _ i _ u other⟩
    have tagNoted : h.tag.toNat < (notePlain h.tag.toNat (some k) u).proto.ctx.length := by rw [frame]; simpa using tag
    have meaning : exec (.sessionOpen h (some k)) s = .next (opSessionOpen h.tag.toNat (notePlain h.tag.toNat (some k) u)) :=
      congrArg Host.Outcome.next (serveSession_begins w g (some k))
    rw [opSessionOpen_of_key (by rw [frame]; exact gate) (by rw [context]; rfl) size (by rw [frame]; exact free), context, hdr] at meaning
    have opened : ctxAt (openSession i key h.seq (notePlain h.tag.toNat (some k) u)) h.tag.toNat =
        { ctxAt u h.tag.toNat with plain := some (some k) } := (ctxAt_of_ctx rfl tagNoted).trans context
    have done := replies_of_context (x := openSession i key h.seq (notePlain h.tag.toNat (some k) u)) tagNoted
      (by rw [opened]; exact short) (by rw [opened]; exact hdr) (by rw [opened]; exact mute)
    exact ⟨_, meaning, done _ _, (OnlyReply.map (openSession i key h.seq) (fun _ => rfl) rfl noted).trans (finish_onlyReply (s := openSession i key h.seq _) tagNoted _ _)⟩
  case summary =>
    obtain ⟨-, -, hdr, -⟩ := g.context w
    intro x n
    refine begins_completes (f := fun t => opKeyInfo t 0) w g rfl ?_ (opKeyInfo_of_summary.trans ?_)
    · simp [issueNonce, x]
    · rw [hdr]
  case certificate => exact begins_completes (f := fun t => opKeyInfo t 1) w g rfl rfl rfl
  case fuse =>
    exact (begins_exec (f := fun t => opOwnerFuse t signer target hash sig) g rfl).trans
      (congrArg _ (opOwnerFuse_of_empty known signed empty))
  case revoke =>
    exact (begins_exec (f := fun t => opOwnerRevoke t signer target hash sig) g rfl).trans
      (congrArg _ (opOwnerRevoke_of_valid known signed valid several))
  case lockout =>
    have result : (verifySigned h.tag.toNat 0x0B00 slot 0 (beBytes 4 esn.toNat) sig u).2 = v := congrArg Prod.snd signed
    have locks : v.safety = u.safety := by simp [← result, id verifySigned_same]
    have ctx : v.proto.ctx = u.proto.ctx := by simp [← result, id verifySigned_same]
    rw [← locks] at known
    exact begins_completes (f := fun t => opLockoutClear t esn slot sig) w g rfl (v := armClearance esn v) ctx
      ((opLockoutClear_of_known signed known).trans (if_neg (ne_true_of_eq_false absent)))

end Sys2Proof.Machine
end

section
/-! What the service, power, standby and contactor requests do (R406, R411, R420, R422, R423, R425, R492, R494). -/

namespace Sys2Proof.Machine

/-! ### REG_WRITE, FREQ_MEASURE, DOMAIN_SET and OP_POINT -/

section
variable {t : Nat} {s : State}

theorem opRegWrite_of_allowed {addr mask value : U32} {r : RegAt} (known : regAt addr.toNat = some r)
    (bits : mask.toNat &&& ((regBits r).1 ||| (regBits r).2) = mask.toNat) (allowed : regRefusal s r = none)
    (takes : writeStatus s r (((BitVec.ofNat 32 (readReg s r) &&& ~~~mask) ||| (value &&& mask)) &&&
      BitVec.ofNat 32 (regBits r).1).toNat mask.toNat = none) :
    let new := ((BitVec.ofNat 32 (readReg s r) &&& ~~~mask) ||| (value &&& mask)) &&& BitVec.ofNat 32 (regBits r).1
    let v := writeReg r new.toNat mask.toNat (value.toNat &&& mask.toNat &&& (regBits r).2) s
    opRegWrite t addr mask value s = finish t ST_OK (leBytes 4 (readReg v r)) v := by
  simp only [opRegWrite, known, bits, allowed, takes, ne_eq, not_true_eq_false, if_false]

/-- The counter's selections and its gate (R404). -/
def selectFm (inSel refSel : Byte) (nRef : U32) (s : State) : State :=
  { s with clk := { s.clk with fmIn := BitVec.ofNat 4 inSel.toNat, fmRef := BitVec.ofNat 3 refSel.toNat, fmGate := nRef } }

/-- The counter counts for a context. -/
def startFm (t : Nat) (s : State) : State := { s with clk := { s.clk with fmTag := some t, fmBusy := true } }

theorem fmBegin_of_range (range : fmInRange s = true) : fmBegin s = { s with clk := { s.clk with fmBusy := true } } := if_pos range

theorem opFreqMeasure_of_range {inSel refSel : Byte} {nRef : U32} {f : Nat} (idle : s.clk.fmBusy = false) (on : domOn s 4 = true)
    (gate : gateOpen s 9 = true) (powered : ∀ n, fmDomain inSel.toNat = some n → domOn s n = true) (input : inSel.toNat < 12)
    (ref : refSel.toNat < 4) (clock : fmRefHz refSel.toNat = some f) (range : fmInRange (selectFm inSel refSel nRef s) = true)
    (tag : t < s.proto.ctx.length) :
    opFreqMeasure t inSel refSel nRef s =
      startFm t (accept t ((nRef.toNat * 1000 + f - 1) / f + 100) (selectFm inSel refSel nRef s)) := by
  have selected : { s with clk := { s.clk with fmIn := BitVec.ofNat 4 (min 15 inSel.toNat), fmRef := BitVec.ofNat 3 (min 7 refSel.toNat),
                                               fmGate := nRef } } = selectFm inSel refSel nRef s := by
    rw [selectFm, Nat.min_eq_right (by omega), Nat.min_eq_right (by omega)]
  generalize chosen : selectFm inSel refSel nRef s = x at *
  obtain ⟨frame, -⟩ := accept_onlyReply (s := x) (t := t) (by rw [← chosen]; exact tag) ((nRef.toNat * 1000 + f - 1) / f + 100)
  have still : fmInRange { accept t ((nRef.toNat * 1000 + f - 1) / f + 100) x with clk :=
      { (accept t ((nRef.toNat * 1000 + f - 1) / f + 100) x).clk with fmTag := some t } } = true := by
    rw [frame, ← range]
    rfl
  have counts : opFreqMeasure t inSel refSel nRef s = _ :=
    (if_neg (by simp [idle])).trans ((if_neg (by simp [on])).trans (if_neg (by simp [gate])))
  rw [counts]
  cases needs : fmDomain inSel.toNat with
  | some n =>
    simp only [powered n needs, if_true, selected, clock, fmBegin_of_range still]
    exact if_pos (by simp [input, ref])
  | none =>
    simp only [selected, clock, fmBegin_of_range still]
    exact if_pos (by simp [input, ref])

theorem opDomainSet_of_allowed {domain request : Byte} {hold : U16} (least : 1 ≤ domain.toNat) (most : domain.toNat ≤ 15)
    (known : request.toNat ≤ 2) (allowed : domainRefusal s domain.toNat request.toNat hold.toNat = none)
    (after : domainRefusal (finish t ST_OK [] s) domain.toNat request.toNat hold.toNat = none) :
    opDomainSet t domain request hold s = changeDomain domain.toNat request.toNat hold.toNat (finish t ST_OK [] s) := by
  refine (if_neg (by omega)).trans ((if_neg (by omega)).trans ?_)
  simp only [allowed, requestDomain, after]

theorem opOpPoint_of_main {point : Byte} (known : point.toNat < 3) :
    opOpPoint t 0 point s =
      finish t ST_OK [BitVec.ofNat 8 (requestMain point.toNat s).pwr.mainCur] (requestMain point.toNat s) :=
  if_pos ⟨rfl, known⟩

theorem opOpPoint_of_mon {point : Byte} (known : point.toNat < 2) (allowed : monRefused s point.toNat = false) :
    opOpPoint t 1 point s =
      finish t ST_OK [BitVec.ofNat 8 (requestMon point.toNat s).pwr.monCur] (requestMon point.toNat s) :=
  (if_neg (by simp)).trans ((if_pos ⟨rfl, known⟩).trans (if_neg (ne_true_of_eq_false allowed)))

end

/-- Whether a domain request is refused does not depend on what sending a reply takes. -/
theorem domainRefusal_afterReply (u r : State) (n req hold : Nat) :
    domainRefusal (afterReply u r) n req hold = domainRefusal u n req hold := rfl

/-- Settles O33: the register and the point answer what they then hold, and the counter and the sequencer go on after the reply. -/
theorem serviceRequestsComplete : Obligations.ServiceRequestsComplete := by
  intro h s u w
  refine ⟨fun addr mask value r g known bits allowed => ?regWrite,
    fun inSel refSel nRef f g idle on gate powered input ref clock => ?measure,
    fun domain request hold g least most known allowed => ?domain,
    fun point => ⟨fun known g => ?main, fun known g allowed => ?mon⟩⟩
  case regWrite =>
    intro new takes v
    exact (begins_exec (f := fun t => opRegWrite t addr mask value) g rfl).trans
      (congrArg _ (opRegWrite_of_allowed known bits allowed takes))
  case measure =>
    intro x range
    have meaning := opFreqMeasure_of_range (t := h.tag.toNat) idle on gate powered input ref clock range (g.tagLt w)
    have tag : h.tag.toNat < (selectFm inSel refSel nRef u).proto.ctx.length := (g.tagLt w : h.tag.toNat < u.proto.ctx.length)
    refine ⟨_, (begins_exec (f := fun t => opFreqMeasure t inSel refSel nRef) g rfl).trans (congrArg _ meaning), ?_,
      .map (startFm h.tag.toNat) (fun _ => rfl) rfl (accept_onlyReply tag _)⟩
    have long := accept_runsLong (ms := (nRef.toNat * 1000 + f - 1) / f + 100) tag
    unfold RunsLong at *
    rw [ctxAt_of_ctx (t := h.tag.toNat) (s := accept h.tag.toNat _ (selectFm inSel refSel nRef u))
      (v := startFm h.tag.toNat _) rfl (by simpa [id accept_keeps] using tag)]
    exact long
  case domain =>
    obtain ⟨frame, -⟩ := finish_onlyReply (g.tagLt w) ST_OK []
    have after : domainRefusal (finish h.tag.toNat ST_OK [] u) domain.toNat request.toNat hold.toNat = none := by
      rw [← allowed, ← domainRefusal_afterReply u (finish h.tag.toNat ST_OK [] u)]
      exact congrArg (fun v => domainRefusal v domain.toNat request.toNat hold.toNat) frame
    exact (begins_exec (f := fun t => opDomainSet t domain request hold) g rfl).trans
      (congrArg _ (opDomainSet_of_allowed least most known allowed after))
  case main => exact (begins_exec (f := fun t => opOpPoint t 0 point) g rfl).trans (congrArg _ (opOpPoint_of_main known))
  case mon => exact (begins_exec (f := fun t => opOpPoint t 1 point) g rfl).trans (congrArg _ (opOpPoint_of_mon known allowed))

/-! ### STANDBY_ENTER, RTC_SET and ALARM_SET (R422, R423, R425) -/

section
variable {t : Nat} {s : State}

theorem opStandbyEnter_of_next {depth canWake : Byte} (deep : depth.toNat < 2) (wakes : canWake.toNat < 3) :
    opStandbyEnter t depth 1 canWake s = finish t ST_OK []
      { s with pwr := { s.pwr with depthNext := depth == 1, canWake := BitVec.ofNat 2 canWake.toNat } } := by
  have range : ¬ (1 < depth.toNat ∨ 1 < (1 : Byte).toNat ∨ 2 < canWake.toNat) := by simp; omega
  exact (if_neg range).trans (if_pos rfl)

theorem opStandbyEnter_of_quiet {depth canWake : Byte} (deep : depth.toNat < 2) (wakes : canWake.toNat < 3)
    (quiet : anyActive s (List.range 8) = false) (kl15 : s.pins.kl15 = false) (keep : s.pins.keep = false) :
    let v := finish t ST_OK [] s
    opStandbyEnter t depth 0 canWake s = standbyAdvance (standbyBegin (depth == 1)
      { v with pwr := { v.pwr with canWake := BitVec.ofNat 2 canWake.toNat } }) := by
  have range : ¬ (1 < depth.toNat ∨ 1 < (0 : Byte).toNat ∨ 2 < canWake.toNat) := by simp; omega
  exact (if_neg range).trans ((if_neg (by decide)).trans ((if_neg (by simp [quiet])).trans (if_neg (by simp [kl15, keep]))))

theorem opAlarmSet_of_later {alarm : BitVec 48} {armed : Byte} (known : armed.toNat < 2)
    (later : s.time.rtc.toNat + 2 < alarm.toNat) :
    opAlarmSet t alarm armed s = finish t ST_OK [] { s with pwr := { s.pwr with alarm := alarm, rtcArmed := armed == 1 } } :=
  (if_neg (by omega)).trans (if_neg (by omega))

/-! ### CONTACTOR_SET (R494) -/

/-- A CONTACTOR_SET that no bridge and no lock-out forbids commands the drivers and asks for the discharges. -/
theorem opContactorSet_of_allowed {mask command discharge : Byte} (some_ : mask ≠ 0) (four : mask.toNat ≤ 15)
    (known : command.toNat ≤ 1) (groups : discharge.toNat ≤ 3) (closing : command = 1 → discharge = 0) (on : domOn s 3 = true)
    (up : monUp s = true) :
    let ns := (List.range 4).filter (fun n => hasBit mask.toNat n)
    let gs := [0, 1].filter (fun g => ns.any (fun n => ctdCovers s n g))
    let ds := [0, 1].filter (fun g => hasBit discharge.toNat g)
    let ms := if ds.isEmpty then cfbTime s + 100 else (ds.map (fun g => lgPar s g 0xC)).foldl max 0 + 3000
    (command = 0 → gs.find? (fun g => anyActive s (lgBridges s g)) = none) → (command = 1 → gs.find? (groupLocked s) = none) →
    opContactorSet t mask command discharge s = settleContactors t
      (forEach ds (fun g => modLg g (fun x => { x with disWait := some t }))
        (forEach ns (fun n s => modCtd n (fun c => { c with tag := some t }) (commandCtd (command == 1) n s)) (accept t ms s))) := by
  intro ns gs ds ms quiet unlocked
  have range : ¬ (mask = 0 ∨ 15 < mask.toNat ∨ 1 < command.toNat ∨ 3 < discharge.toNat ∨ (command = 1 ∧ discharge ≠ 0)) := by
    rintro (zero | mask | command | discharge | ⟨close, wrong⟩)
    · exact some_ zero
    · omega
    · omega
    · omega
    · exact wrong (closing close)
  have free : (if command = 0 then gs.find? (fun g => anyActive s (lgBridges s g)) else gs.find? (groupLocked s)) = none := by
    split
    next opens => exact quiet opens
    next closes => exact unlocked (by bv_omega)
  refine (if_neg range).trans ((if_neg (by simp [on])).trans ((if_neg (by simp [up])).trans ?_))
  simp only [free, ns, gs]
  rfl

end

/-- Settles O34: each request is one reply over its effect, or goes on after it. -/
theorem standbyAndContactorRequestsComplete : Obligations.StandbyAndContactorRequestsComplete := by
  intro h s u w
  refine ⟨fun depth canWake deep wakes => ⟨fun g => ?next, fun g quiet kl15 keep => ?now⟩, fun count g => ?rtc,
    fun alarm armed g known later => ?alarm, fun mask command discharge g some_ four known groups closing on up => ?contactors⟩
  case next =>
    exact begins_completes (f := fun t => opStandbyEnter t depth 1 canWake) w g rfl rfl (opStandbyEnter_of_next deep wakes)
  case now =>
    exact (begins_exec (f := fun t => opStandbyEnter t depth 0 canWake) g rfl).trans
      (congrArg _ (opStandbyEnter_of_quiet deep wakes quiet kl15 keep))
  case rtc => exact begins_completes (f := fun t => opRtcSet t count) w g rfl rfl rfl
  case alarm => exact begins_completes (f := fun t => opAlarmSet t alarm armed) w g rfl rfl (opAlarmSet_of_later known later)
  case contactors =>
    intro ns gs ds quiet unlocked ms
    exact (begins_exec (f := fun t => opContactorSet t mask command discharge) g rfl).trans
      (congrArg _ (opContactorSet_of_allowed some_ four known groups closing on up quiet unlocked))

end Sys2Proof.Machine
end

section
/-! Which sequence numbers a session accepts (R449, R450), and what a packet refused at checks 4 to 9 leaves (R446). -/

namespace Sys2Proof.Machine

/-! ### The record of accepted numbers -/

theorem hasBit_eq_testBit (v i : Nat) : hasBit v i = v.testBit i := by
  rw [hasBit, Nat.testBit_eq_decide_div_mod_eq, Bool.eq_iff_iff]
  simp

/-- Number `q` lies after `H` when it differs and is less than 2^31 ahead. -/
theorem serialAfter_iff (q high : U32) : serialAfter q high = true ↔ 1 ≤ (q - high).toNat ∧ (q - high).toNat < 2 ^ 31 := by
  simp only [serialAfter, Bool.and_eq_true, bne_iff_ne, decide_eq_true_eq]
  refine and_congr_left fun _ => ⟨fun differs => ?_, fun ahead same => ?_⟩
  · bv_omega
  · simp [same] at ahead

section
variable {now : Nat} {q : U32} {k : Session}

theorem takeSeq_of_after (after : serialAfter q k.high = true) :
    takeSeq now q k = { k with
      high := q
      seen := if 65 ≤ (q - k.high).toNat then 0 else BitVec.ofNat 64 ((k.seen.toNat * 2 + 1) * 2 ^ ((q - k.high).toNat - 1))
      last := now
      macFails := 0 } := if_pos after

theorem takeSeq_of_below (below : serialAfter q k.high = false) :
    takeSeq now q k = { k with
      seen := k.seen ||| BitVec.ofNat 64 (2 ^ ((k.high - q).toNat - 1)), last := now, macFails := 0 } :=
  if_neg (ne_true_of_eq_false below)

theorem high_takeSeq_of_after (after : serialAfter q k.high = true) : (takeSeq now q k).high = q := by rw [takeSeq_of_after after]

theorem high_takeSeq_of_below (below : serialAfter q k.high = false) : (takeSeq now q k).high = k.high := by
  rw [takeSeq_of_below below]

@[simp] theorem takeSeq_macFails (now : Nat) (q : U32) (k : Session) : (takeSeq now q k).macFails = 0 := by
  unfold takeSeq
  split
  · rfl
  · rfl

/-- A number ahead by `d` becomes H: the old H is bit d - 1, and what was j below H is now j + d below it. -/
theorem seen_takeSeq_of_after (after : serialAfter q k.high = true) {j : Nat} (least : 1 ≤ j) (most : j ≤ 64) :
    hasBit (takeSeq now q k).seen.toNat (j - 1) =
      (j == (q - k.high).toNat || decide ((q - k.high).toNat < j) && hasBit k.seen.toNat (j - (q - k.high).toNat - 1)) := by
  obtain ⟨ahead, -⟩ := (serialAfter_iff q k.high).mp after
  rw [takeSeq_of_after after]
  simp only [hasBit_eq_testBit]
  generalize distance : (q - k.high).toNat = d at *
  split
  next far =>
    have beyond : j ≠ d ∧ ¬ d < j := by omega
    simp [beyond]
  next near =>
    have place : j - 1 < 64 := by omega
    rw [BitVec.toNat_ofNat, Nat.testBit_mod_two_pow, ← Nat.shiftLeft_eq, Nat.testBit_shiftLeft, decide_eq_true place, Bool.true_and]
    rcases Nat.lt_trichotomy j d with before | rfl | behind
    · simp [show ¬ d - 1 ≤ j - 1 by omega, show j ≠ d by omega, show ¬ d < j by omega]
    · simp [Nat.testBit_zero, Nat.add_mod]
    · obtain ⟨i, rfl⟩ : ∃ i, j = d + 1 + i := ⟨j - (d + 1), by omega⟩
      rw [show d + 1 + i - 1 - (d - 1) = i + 1 by omega, show d + 1 + i - d - 1 = i by omega, Nat.testBit_add_one]
      rw [decide_eq_true (show d + 1 + i - 1 ≥ d - 1 by omega), decide_eq_true (show d < d + 1 + i by omega),
        beq_eq_false_iff_ne.mpr (show d + 1 + i ≠ d by omega), show (k.seen.toNat * 2 + 1) / 2 = k.seen.toNat by omega]
      rfl

/-- A number below H adds its own bit to the record. -/
theorem seen_takeSeq_of_below (below : serialAfter q k.high = false) (near : 1 ≤ (k.high - q).toNat) (far : (k.high - q).toNat ≤ 64)
    {j : Nat} (least : 1 ≤ j) :
    hasBit (takeSeq now q k).seen.toNat (j - 1) = (j == (k.high - q).toNat || hasBit k.seen.toNat (j - 1)) := by
  rw [takeSeq_of_below below]
  simp only [hasBit_eq_testBit]
  generalize (k.high - q).toNat = b at *
  have small : 2 ^ (b - 1) < 2 ^ 64 := Nat.pow_lt_pow_right (by decide) (by omega)
  rw [BitVec.toNat_or, Nat.testBit_or, BitVec.toNat_ofNat, Nat.mod_eq_of_lt small, Nat.testBit_two_pow, Bool.or_comm]
  congr 1
  rw [Bool.eq_iff_iff]
  simp
  omega

/-- A number is accepted if it lies after H, or is one of the 64 below it that was not accepted (R449). -/
theorem seqOk_iff : seqOk k q = true ↔ serialAfter q k.high = true ∨
    1 ≤ (k.high - q).toNat ∧ (k.high - q).toNat ≤ 64 ∧ hasBit k.seen.toNat ((k.high - q).toNat - 1) = false := by
  simp [seqOk, and_assoc]

/-- An accepted number is refused from then on. -/
theorem seqOk_takeSeq_self (accepted : seqOk k q = true) : seqOk (takeSeq now q k) q = false := by
  rw [← Bool.not_eq_true, seqOk_iff]
  by_cases after : serialAfter q k.high = true
  · rw [high_takeSeq_of_after after, serialAfter_iff]
    simp
  · have below : serialAfter q k.high = false := by simpa using after
    obtain ⟨near, far, -⟩ := (seqOk_iff.mp accepted).resolve_left after
    rw [high_takeSeq_of_below below, seen_takeSeq_of_below below near far near]
    simp [below]

/-- A refused number near H stays refused when another one is accepted. -/
theorem seqOk_takeSeq_of_refused {p : U32} (refused : seqOk k q = false) (near : (k.high - q).toNat < 2 ^ 30)
    (accepted : seqOk k p = true) (little : (p - k.high).toNat < 2 ^ 30 ∨ (k.high - p).toNat ≤ 64) :
    seqOk (takeSeq now p k) q = false := by
  rw [← Bool.not_eq_true, seqOk_iff] at refused
  obtain ⟨notAfter, notBelow⟩ := not_or.mp refused
  rw [← Bool.not_eq_true, seqOk_iff]
  by_cases after : serialAfter p k.high = true
  · obtain ⟨ahead, window⟩ := (serialAfter_iff p k.high).mp after
    have distance : (p - q).toNat = (p - k.high).toNat + (k.high - q).toNat := by bv_omega
    rw [high_takeSeq_of_after after]
    rintro (later | ⟨least, most, fresh⟩)
    · obtain ⟨-, ahead'⟩ := (serialAfter_iff q p).mp later
      bv_omega
    · rw [seen_takeSeq_of_after after least most] at fresh
      simp only [Bool.or_eq_false_iff, beq_eq_false_iff_ne, Bool.and_eq_false_imp, decide_eq_true_eq] at fresh
      obtain ⟨other, unseen⟩ := fresh
      refine notBelow ⟨by omega, by omega, ?_⟩
      rw [show (k.high - q).toNat - 1 = (p - q).toNat - (p - k.high).toNat - 1 by omega]
      exact unseen (by omega)
  · have below : serialAfter p k.high = false := by simpa using after
    obtain ⟨nearP, farP, -⟩ := (seqOk_iff.mp accepted).resolve_left after
    rw [high_takeSeq_of_below below]
    rintro (later | ⟨least, most, fresh⟩)
    · exact notAfter later
    · rw [seen_takeSeq_of_below below nearP farP least] at fresh
      exact notBelow ⟨least, most, (Bool.or_eq_false_iff.mp fresh).2⟩

end

/-- Settles O19: the record shifts with H, so what it refuses it goes on refusing. -/
theorem acceptedNumbersStayRefused : Obligations.AcceptedNumbersStayRefused :=
  fun _ _ _ _ => ⟨seqOk_takeSeq_self, seqOk_takeSeq_of_refused⟩

/-! ### Check 6 -/

theorem sess_of_sessAt {s : State} {i : Nat} {k : Session} (open_ : sessAt s i = some k) :
    i ≠ 0 ∧ ∃ there : i - 1 < s.proto.sess.length, s.proto.sess[i - 1] = some k := by
  unfold sessAt at open_
  split at open_
  next => simp at open_
  next nonzero =>
    rw [List.getD_eq_getElem?_getD] at open_
    by_cases there : i - 1 < s.proto.sess.length
    · exact ⟨nonzero, there, by simpa [there] using open_⟩
    · simp [there] at open_

/-- A session is written back with the record `k`. -/
def setSess (i : Nat) (k : Session) (s : State) : State :=
  { s with proto := { s.proto with sess := s.proto.sess.set (i - 1) (some k) } }

theorem modSess_of_open {s : State} {i : Nat} {k : Session} (open_ : sessAt s i = some k) (f : Session → Session) :
    modSess i f s = setSess i (f k) s := by
  obtain ⟨nonzero, there, entry⟩ := sess_of_sessAt open_
  have written : s.proto.sess.modify (i - 1) (Option.map f) = s.proto.sess.set (i - 1) (some (f k)) := by
    rw [List.modify_eq_set, List.getElem?_eq_getElem there, entry]
    rfl
  rw [modSess, if_neg nonzero, written, setSess]

theorem sessAt_setSess_self {s : State} {i : Nat} (nonzero : i ≠ 0) (there : i - 1 < s.proto.sess.length) (k : Session) :
    sessAt (setSess i k s) i = some k := by
  simp [sessAt, setSess, nonzero, there]

theorem setSess_setSess (i : Nat) (k k' : Session) (s : State) : setSess i k (setSess i k' s) = setSess i k s := by
  simp [setSess]

section
variable {h : Hdr} {opcode : Nat} {payload : List Byte} {s : State} {k : Session}
variable (auth : h.auth = true) (gate : gateOpen s 0 = true) (open_ : sessAt s h.session.toNat = some k)
include auth gate open_

/-- A packet of an open session whose tag is right ends the row of MAC failures, and its number is judged. -/
theorem admits_of_open :
    admits h opcode payload s = if seqOk k h.seq then
      admitTail h opcode payload
        (setSess h.session.toNat (takeSeq s.time.dev h.seq { k with macFails := 0 }) (copyRef opcode payload s))
    else (false, bounce h opcode ST_REPLAYED (modSess h.session.toNat (fun k => { k with macFails := 0 }) (copyRef opcode payload s))) := by
  have copied : sessAt (copyRef opcode payload s) h.session.toNat = some k := by
    rw [← open_]
    simp only [sessAt, copyRef_proto]
  have now : (copyRef opcode payload s).time.dev = s.time.dev := by simp [id copyRef_keeps]
  obtain ⟨nonzero, there, -⟩ := sess_of_sessAt copied
  have passed : admits h opcode payload s = admitSeq h opcode payload (copyRef opcode payload s) := by
    simp [admits, auth, gate, open_]
  rw [passed, admitSeq, copied]
  dsimp only
  rw [modSess_of_open copied, modSess_of_open (sessAt_setSess_self nonzero there _), setSess_setSess]
  simp only [setSess, now]

/-- A packet whose number is accepted goes on to check 7 with the session's new record. -/
theorem admits_of_seqOk (accepted : seqOk k h.seq = true) :
    admits h opcode payload s = admitTail h opcode payload
      (setSess h.session.toNat (takeSeq s.time.dev h.seq { k with macFails := 0 }) (copyRef opcode payload s)) :=
  (admits_of_open auth gate open_).trans (if_pos accepted)

end

/-- Settles O18: the three ways a number can lie to H, each with the record that `takeSeq` then keeps. -/
theorem sequenceNumbersDecideReplay : Obligations.SequenceNumbersDecideReplay := by
  intro h opcode payload s k w auth gate open_
  refine ⟨fun i key q least most => ?opened, fun ahead window => ?after, fun near far fresh => ?below, fun notAfter notBelow => ?refused⟩
  case opened =>
    have there : i - 1 < s.proto.sess.length := by rw [w.sess]; omega
    refine ⟨_, sessAt_setSess_self (by omega) there _, rfl, fun j => ?_⟩
    simp [hasBit]
  case after =>
    have after : serialAfter h.seq k.high = true := (serialAfter_iff _ _).mpr ⟨ahead, window⟩
    refine ⟨takeSeq s.time.dev h.seq { k with macFails := 0 }, ⟨takeSeq_macFails .., admits_of_seqOk auth gate open_ ?_⟩, ?_,
      fun j least most => ?_⟩
    · exact seqOk_iff.mpr (.inl after)
    · exact high_takeSeq_of_after (k := { k with macFails := 0 }) after
    · exact seen_takeSeq_of_after (k := { k with macFails := 0 }) after least most
  case below =>
    have below : serialAfter h.seq k.high = false := by
      rw [← Bool.not_eq_true, serialAfter_iff]
      bv_omega
    refine ⟨takeSeq s.time.dev h.seq { k with macFails := 0 }, ⟨takeSeq_macFails .., admits_of_seqOk auth gate open_ ?_⟩, ?_,
      fun j least most => ?_⟩
    · exact seqOk_iff.mpr (.inr ⟨near, far, fresh⟩)
    · exact high_takeSeq_of_below (k := { k with macFails := 0 }) below
    · exact seen_takeSeq_of_below (k := { k with macFails := 0 }) below near far least
  case refused =>
    refine (admits_of_open auth gate open_).trans (if_neg ?_)
    rw [seqOk_iff, serialAfter_iff]
    exact not_or.mpr ⟨notAfter, notBelow⟩

/-! ### Refused packets (R446, R450) -/

/-- A copied reference stands with the monitor pair, and nowhere else. -/
theorem copyRef_frame (opcode : Nat) (payload : List Byte) (s : State) :
    copyRef opcode payload s = { s with machs := (copyRef opcode payload s).machs } ∧
    ∀ m, { machAt (copyRef opcode payload s) m with monRef := .none } = { machAt s m with monRef := .none } := by
  have put : ∀ (m : Nat) (r : Ref), modMach m (fun x => { x with monRef := r }) s =
      { s with machs := (modMach m (fun x => { x with monRef := r }) s).machs } ∧
      ∀ n, { machAt (modMach m (fun x => { x with monRef := r }) s) n with monRef := .none } = { machAt s n with monRef := .none } := by
    intro m r
    refine ⟨rfl, fun n => ?_⟩
    by_cases same : m = n
    · subst same
      by_cases there : m < s.machs.length
      · rw [machAt_modMach_self _ _ _ there]
      · simp [machAt, modMach, there]
    · rw [machAt_modMach_ne _ _ _ _ same]
  unfold copyRef
  dsimp only
  split
  · split
    · exact put _ _
    · split
      · exact put _ _
      · exact ⟨rfl, fun _ => rfl⟩
  · exact ⟨rfl, fun _ => rfl⟩

/-- A request with a session that is refused at checks 7 to 9 is answered, and no more. -/
theorem admitTail_of_refused {h : Hdr} {opcode : Nat} {payload : List Byte} {s : State} (auth : h.auth = true)
    (refused : (admitTail h opcode payload s).1 = false) : ∃ status, (admitTail h opcode payload s).2 = bounce h opcode status s := by
  revert refused
  unfold admitTail
  simp only [auth, Bool.not_true, Bool.false_and, Bool.false_eq_true, if_false, if_true]
  split
  · exact fun _ => ⟨_, rfl⟩
  · split
    · exact fun _ => ⟨_, rfl⟩
    · split
      · exact fun _ => ⟨_, rfl⟩
      · split
        · simp
        · exact fun _ => ⟨_, rfl⟩

/-- What a refused packet may leave before its reply: nothing, or the copied reference and its own session's record. -/
theorem admits_of_refused {h : Hdr} {opcode : Nat} {payload : List Byte} {s : State} (auth : h.auth = true)
    (refused : (admits h opcode payload s).1 = false) : ∃ status v, (admits h opcode payload s).2 = bounce h opcode status v ∧
      (v = s ∨ h.session.toNat ≠ 0 ∧ ∃ k, v = setSess h.session.toNat k (copyRef opcode payload s)) := by
  by_cases gate : gateOpen s 0 = true
  · cases open_ : sessAt s h.session.toNat with
    | none =>
      refine ⟨ST_NOT_AUTHORISED, s, ?_, .inl rfl⟩
      simp [admits, auth, gate, open_, admitSeq]
    | some k =>
      obtain ⟨nonzero, -, -⟩ := sess_of_sessAt open_
      rw [admits_of_open auth gate open_] at refused ⊢
      split at refused
      next accepted =>
        obtain ⟨status, reply⟩ := admitTail_of_refused auth refused
        exact ⟨status, _, by rw [if_pos accepted, reply], .inr ⟨nonzero, _, rfl⟩⟩
      next replayed =>
        have copied : sessAt (copyRef opcode payload s) h.session.toNat = some k := by
          rw [← open_]
          simp only [sessAt, copyRef_proto]
        exact ⟨ST_REPLAYED, _, by rw [if_neg replayed], .inr ⟨nonzero, _, modSess_of_open copied _⟩⟩
  · exact ⟨ST_BUS_ERROR, s, by simp [admits, auth, gate], .inl rfl⟩

theorem sessAt_setSess_ne {s : State} {i j : Nat} (nonzero : j ≠ 0) (other : i ≠ j) (k : Session) :
    sessAt (setSess j k s) i = sessAt s i := by
  unfold sessAt
  split
  · rfl
  next first =>
    have apart : j - 1 ≠ i - 1 := by omega
    simp [setSess, apart]

/-- Settles O21: the reply is only sent, and what was there before it is a record and a copied reference. -/
theorem refusedPacketsOccupyNoContext : Obligations.RefusedPacketsOccupyNoContext := by
  intro h opcode payload s auth refused t
  obtain ⟨status, v, reply, before⟩ := admits_of_refused auth refused
  have sent : OnlySent v t := by
    have bounced : t = bounce h opcode status v := reply
    rw [bounced]
    exact sendReply_onlySent ..
  unfold OnlySent at sent
  obtain ⟨frame, monitor⟩ := copyRef_frame opcode payload s
  rcases before with rfl | ⟨nonzero, k, rfl⟩
  · refine ⟨?_, fun i _ => ?_, .inl ?_, fun m => ?_, ?_⟩
    · rw [sent]
    · rw [sent]; rfl
    · rw [sent]
    · rw [sent]; rfl
    · rw [sent]
  · refine ⟨?_, fun i other => ?_, .inr ?_, fun m => ?_, ?_⟩
    · rw [sent, frame]; rfl
    · calc sessAt t i = sessAt (setSess h.session.toNat k (copyRef opcode payload s)) i := by rw [sent]; rfl
        _ = sessAt (copyRef opcode payload s) i := sessAt_setSess_ne nonzero other k
        _ = sessAt s i := by simp only [sessAt, copyRef_proto]
    · rw [sent]; rfl
    · rw [← monitor m, sent]; rfl
    · rw [sent, setSess, frame]

end Sys2Proof.Machine
end

section
/-! What writes of the clock registers do (R399, R400, R404, R408, R409). -/

namespace Sys2Proof.Machine

section
variable {s : State}

/-! ### CLK_SEL -/

theorem execClkSelWrite_of_up (up : isUp s = true) (value : U32) : execClkSelWrite value s = .next (writeClkSel value.toNat s) :=
  if_pos up

section
variable {value : Nat} {p : Pll}

theorem writeSel_of_refused {status : U16} (refused : selRefusal s p (refOf value p) = some status) :
    writeSel value p s = { s with clk := { s.clk with swErr := true } } := by
  simp only [writeSel, refused]

theorem writeSel_of_allowed (allowed : selRefusal s p (refOf value p) = none) :
    writeSel value p s = if refOf s.clk.sel.toNat p = refOf value p then s else
      let v := takeRef p (refOf value p) s
      { v with dev := { v.dev with severe := v.dev.severe && p == .net } } := by
  simp only [writeSel, allowed]

end

theorem switching_takeRef {p : Pll} {code : Nat} (differs : refOf s.clk.sel.toNat p ≠ code) (idle : p ∉ s.clk.switching) :
    (takeRef p code s).clk.switching = s.clk.switching ++ [p] :=
  if_pos (by simp [differs, idle])

section
variable {q : Pll} {qs : List Pll} (busy : s.clk.switching = q :: qs)
include busy

theorem execClockSwitchForced_of_edge {k : Nat} (early : k ≤ 8) :
    execClockSwitchForced (some k) s = .next { s with clk := { s.clk with switching := qs } } := by
  simp [execClockSwitchForced, busy, early]

theorem execClockSwitchForced_of_late {edge : Option Nat} (late : ∀ k, edge = some k → 8 < k) :
    execClockSwitchForced edge s = .next (note 0x0806 (srcDom 0) [] { s with clk := { s.clk with switching := qs, swForced := true } }) := by
  cases edge with
  | none => simp [execClockSwitchForced, busy]
  | some k =>
    have forced : ¬ k ≤ 8 := by
      have := late k rfl
      omega
    simp [execClockSwitchForced, busy, forced]

end

/-! ### CLK_GATE -/

section
variable {bit : Fin 32} (up : isUp s = true)
include up

theorem execClkGateOpen_of_up (block : gateBit bit = true) : execClkGateOpen bit s = .next { s with
    clk := { s.clk with gate := s.clk.gate ||| maskBit bit, closing := s.clk.closing &&& ~~~(maskBit bit) } } :=
  (if_pos up).trans (congrArg _ (if_pos block))

theorem execClkGateClose_of_open (block : gateBit bit = true) (open_ : gateOpen s bit = true) (idleAt : Nat) :
    execClkGateClose bit idleAt s = .next (
      if gateHeld s bit then { s with clk := { s.clk with swErr := true } }
      else if decide (idleAt ≤ 256) then
        { s with clk := { s.clk with gate := s.clk.gate &&& ~~~(maskBit bit), closing := s.clk.closing &&& ~~~(maskBit bit) } }
      else { s with clk := { s.clk with closing := s.clk.closing ||| maskBit bit } }) :=
  (if_pos up).trans (congrArg _ (if_neg (by simp [block, open_])))

section
variable (closing : hasBit s.clk.closing.toNat bit.val = true)
include closing

theorem execGateCloseForced_of_busy : execGateCloseForced bit none s = .next (note 0x0807 (srcDom 0) [] { s with
    clk := { s.clk with gate := s.clk.gate &&& ~~~(maskBit bit.val), closing := s.clk.closing &&& ~~~(maskBit bit.val),
                        gateForced := true } }) := by
  simp [execGateCloseForced, up, closing]

theorem execGateCloseForced_of_idle {k : Nat} (early : k ≤ 256) : execGateCloseForced bit (some k) s = .next { s with
    clk := { s.clk with gate := s.clk.gate &&& ~~~(maskBit bit.val), closing := s.clk.closing &&& ~~~(maskBit bit.val),
                        gateForced := s.clk.gateForced } } := by
  simp [execGateCloseForced, up, closing, early]

end

end

/-! ### FM_CMD -/

theorem execFmStart_of_idle (up : isUp s = true) (usable : fmUsable s = true) (idle : s.clk.fmBusy = false) :
    execFmStart s = .next (fmBegin s) :=
  if_pos (by simp [up, usable, idle])

theorem fmBegin_of_out_of_range (range : fmInRange s = false) : fmBegin s = { s with clk := { s.clk with fmErr := true } } :=
  if_neg (ne_true_of_eq_false range)

end

/-- Settles O35, row by row. -/
theorem clockRegisterRowsAct : Obligations.ClockRegisterRowsAct := by
  intro s
  refine ⟨fun value up => execClkSelWrite_of_up up value,
    fun value p => ⟨fun _ => writeSel_of_refused, fun allowed same => ?same, fun allowed differs => ?differs⟩,
    fun _ _ => switching_takeRef, fun q qs busy => ⟨fun _ => execClockSwitchForced_of_edge busy, fun _ => execClockSwitchForced_of_late busy⟩,
    fun _ => execClkGateOpen_of_up,
    fun bit idleAt up block open_ => ⟨fun held => ?held, fun free early => ?idle, fun free late => ?deferred⟩,
    fun bit up closing => ⟨execGateCloseForced_of_busy up closing, fun _ => execGateCloseForced_of_idle up closing⟩,
    fun up usable idle => ⟨fun range => ?start, fun range => ?error⟩⟩
  case same => exact (writeSel_of_allowed allowed).trans (if_pos same)
  case differs => exact (writeSel_of_allowed allowed).trans (if_neg differs)
  case held => exact (execClkGateClose_of_open up block open_ idleAt).trans (congrArg _ (if_pos held))
  case idle =>
    exact (execClkGateClose_of_open up block open_ idleAt).trans
      (congrArg _ ((if_neg (ne_true_of_eq_false free)).trans (if_pos (decide_eq_true early))))
  case deferred =>
    exact (execClkGateClose_of_open up block open_ idleAt).trans
      (congrArg _ ((if_neg (ne_true_of_eq_false free)).trans (if_neg (by simp [late]))))
  case start => exact (execFmStart_of_idle up usable idle).trans (congrArg _ (fmBegin_of_range range))
  case error => exact (execFmStart_of_idle up usable idle).trans (congrArg _ (fmBegin_of_out_of_range range))

end Sys2Proof.Machine
end

section
/-! What the other writable words and the snapshot port do (R411, R420, R568, R571, R575, R576, R579). -/

namespace Sys2Proof.Machine

section
variable {s : State}

theorem execDomCtlRequest_of_state {n : Fin 16} {req : BitVec 2} (on : s.dev.ph ≠ .off) (writable : n.val ≠ 0) (named : req ≠ 3)
    (hold : U16) : execDomCtlRequest n req hold s = .next (requestDomain n req.toNat hold.toNat s) :=
  if_neg (by
    simp only [Bool.or_eq_true, beq_iff_eq, decide_eq_true_eq]
    rintro ((off | zero) | nothing)
    · exact on off
    · exact writable zero
    · exact named nothing)

theorem requestDomain_of_refused {n req hold : Nat} {why : Byte} (refused : domainRefusal s n req hold = some why) :
    requestDomain n req hold s = modDom n (fun d => { d with ilk := true }) s := by
  simp only [requestDomain, refused]

theorem requestDomain_of_allowed {n req hold : Nat} (allowed : domainRefusal s n req hold = none) :
    requestDomain n req hold s = changeDomain n req hold s := by
  simp only [requestDomain, allowed]

section
variable {point : BitVec 2} (up : isUp s = true)
include up

theorem execOpPointRegRequest_of_main (named : point ≠ 3) :
    execOpPointRegRequest .main point s = .next (requestMain point.toNat s) :=
  (if_neg (by simp [up])).trans (if_neg named)

theorem execOpPointRegRequest_of_mon (named : point.toNat ≤ 1) (allowed : monRefused s point.toNat = false) :
    execOpPointRegRequest .mon point s = .next (requestMon point.toNat s) :=
  (if_neg (by simp [up])).trans (if_neg (by simp [allowed, named]))

end

section
variable (on : recorderOn s = true)
include on

theorem execRecFlush_of_on : execRecFlush s = .next (flushBuffer s) := congrArg _ (if_pos on)

theorem execRecSampleEnWrite_of_on (en : Bool) : execRecSampleEnWrite en s =
    .next { s with recd := { s.recd with sampleEn := en, postHold := s.recd.postHold && !en } } := congrArg _ (if_pos on)

end

theorem execSnsTestForce_of_on {bank : Bank} (up : isUp s = true) (on : domOn s (bankDom bank) = true) (force : Bool) (input : BitVec 5) :
    execSnsTestForce bank force input s = .next (forceComparator bank force input s) :=
  if_pos (by simp [up, on])

/-- A comparator that watches its input trips when it is forced (R579). -/
theorem forceComparator_of_watched {bank : Bank} {input : BitVec 5} (known : input.toNat < 24)
    (watches : comparatorOn (modBank bank (fun k => { k with force := true, input := input }) s) bank input.toNat = true) :
    forceComparator bank true input s =
      tripComparator bank input.toNat (modBank bank (fun k => { k with force := true, input := input }) s) :=
  if_pos (by simp [known, watches])

theorem enterBoot_locks (cause : BootCause) (s : State) : (enterBoot cause s).safety.locks = s.safety.locks := by
  have closed := forEach_proj (fun v : State => v.safety.locks) (f := closeSession) (fun i v => by simp [id closeSession_same])
    (List.range' 1 8) s
  simpa only [enterBoot] using closed

theorem execRestart_of_frozen (frozen : isFrozen s = true) (free : restartBlocked s = false) :
    let v := enterBoot .restart s
    execRestart true 0x95 s =
      .next { v with recd := { v.recd with buf := [], kl05 := false, watcher := List.replicate 8 false } } :=
  if_pos (by simp [frozen, free])

end

/-- Settles O36, row by row. -/
theorem windowAndSnapshotRowsAct : Obligations.WindowAndSnapshotRowsAct := by
  intro s
  refine ⟨fun n req hold on writable named => ⟨fun why refused => ?refused, fun allowed => ?allowed⟩,
    fun _ => execOpPointRegRequest_of_main, fun _ => execOpPointRegRequest_of_mon,
    fun on => ⟨execRecFlush_of_on on, execRecSampleEnWrite_of_on on⟩,
    fun bank input up on => ⟨?released, fun known watches => ?forced⟩, ⟨rfl, fun _ _ => rfl⟩, fun frozen free => ?restart⟩
  case refused =>
    exact (execDomCtlRequest_of_state on writable named hold).trans (congrArg _ (requestDomain_of_refused refused))
  case allowed =>
    exact (execDomCtlRequest_of_state on writable named hold).trans (congrArg _ (requestDomain_of_allowed allowed))
  case released => exact execSnsTestForce_of_on up on false input
  case forced => exact (execSnsTestForce_of_on up on true input).trans (congrArg _ (forceComparator_of_watched known watches))
  case restart => exact ⟨_, execRestart_of_frozen frozen free, rfl, rfl, rfl, enterBoot_locks .restart s⟩

end Sys2Proof.Machine
end

section
/-! What the domains, the operating points and the wakes from STANDBY do (R412, R417, R420, R425, R426, R427, R509). -/

namespace Sys2Proof.Machine

section
variable {s : State}

/-! ### Wake deadlines (R417, R426, R427) -/

section
variable {dom : Fin 16} {ticks : Nat} {regAt : Option Nat} (busy : (domAt s dom).busy = true) (tries : (domAt s dom).forcedOff = false)
include busy tries

theorem execDomainWakeDeadline_of_regulated {k : Nat} (up : isUp s = true) (short : k ≤ 66) (seen : k ≤ ticks) :
    execDomainWakeDeadline dom ticks (some k) s = .next (domainOn dom s) := by
  have running : s.dev.ph ≠ .boot := by
    intro boot
    simp [isUp, boot] at up
  exact (if_neg (by simp [busy, tries])).trans (if_pos (by simp [short, seen, running]))

/-- A domain that is not in regulation within 66 ticks has failed the attempt. -/
theorem execDomainWakeDeadline_of_late (late : ∀ k, regAt = some k → 66 < k) (spent : 66 ≤ ticks) :
    execDomainWakeDeadline dom ticks regAt s =
      if (domAt s dom).tries < 3 then .next (modDom dom (fun d => { d with forcedOff := true, st := .off, saved := false }) s)
      else
        let v := modDom dom (fun d => { d with forcedOff := false, busy := false, wakeFail := true, st := .off, saved := false }) s
        .next (if isUp v then wakeFailed dom v else noteWake dom v) := by
  cases regAt with
  | none => simp [execDomainWakeDeadline, busy, tries, spent]
  | some k =>
    have missed : ¬ k ≤ 66 := by
      have := late k rfl
      omega
    simp [execDomainWakeDeadline, busy, tries, spent, missed]

end

theorem execDomainWakeRetry_of_waited {dom : Fin 16} {ticks : Nat} (busy : (domAt s dom).busy = true)
    (forced : (domAt s dom).forcedOff = true) (waited : 328 ≤ ticks) (again : (domAt s dom).tries < 3) :
    execDomainWakeRetry dom ticks s = .next (modDom dom (fun d => { d with forcedOff := false, tries := d.tries + 1 }) s) :=
  if_pos (by simp [busy, forced, waited, again])

theorem execFeRestoreComplete_of_restored {n : Fin 8} {us : Nat} (saved : (domAt s (8 + n)).saved = true)
    (on : (domAt s (8 + n)).st = .on) (long : 180 ≤ us) :
    execFeRestoreComplete n us s = .next (returnFe n (modDom (8 + n) (fun d => { d with saved := false }) s)) :=
  if_pos (by simp [saved, on, long])

/-! ### The hold time of D5 (R412) -/

section
variable {hold : Nat} (held : s.pwr.d5Hold = some hold)
include held

theorem execD5HoldExpiry_of_expiry {ms : Nat} (long : 10 * hold ≤ ms) : execD5HoldExpiry .expiry ms s = .next (returnD5 s) := by
  simp [execD5HoldExpiry, held, long]

theorem execD5HoldExpiry_of_kl15 (ms : Nat) : execD5HoldExpiry .kl15Rise ms s = .next (returnD5 s) := by
  simp [execD5HoldExpiry, held]

theorem execD5HoldExpiry_of_can {ev : CanWakeEv} (wakes : canWakes s s.pwr.wuf ev = true) (ms : Nat) :
    execD5HoldExpiry (.canWake ev) ms s = .next (returnD5 s) := by
  simp [execD5HoldExpiry, held, wakes]

end

theorem execCanWake_of_awake {ev : CanWakeEv} (wakes : canWakes s s.pwr.wuf ev = true) (awake : s.dev.ph ≠ .standby) :
    execCanWake ev s = .next (returnD5 s) :=
  (if_neg (by simp [awake])).trans (if_pos wakes)

/-! ### Operating points (R420) -/

theorem execOpPointTransitionDone_of_main (busy : s.pwr.busyMain = true) :
    execOpPointTransitionDone .main s = .next (settleMain s.pwr.tgtMain s) := if_pos busy

theorem execOpPointTransitionDone_of_mon (busy : s.pwr.busyMon = true) :
    execOpPointTransitionDone .mon s = .next (settleMon s.pwr.tgtMon s) := if_pos busy

section
variable {us : Nat} (late : 100 ≤ us)
include late

theorem execOpPointOverrun_of_main (busy : s.pwr.busyMain = true) : execOpPointOverrun .main us s = .next (settleMain s.pwr.mainCur
    (note 0x0808 (srcDom 2) [] { s with pwr := { s.pwr with overrun := true } })) :=
  (if_neg (by omega)).trans (if_pos busy)

theorem execOpPointOverrun_of_mon (busy : s.pwr.busyMon = true) : execOpPointOverrun .mon us s = .next (settleMon s.pwr.monCur
    (note 0x0808 (srcDom 3) [] { s with pwr := { s.pwr with overrun := true } })) :=
  (if_neg (by omega)).trans (if_pos busy)

end

/-! ### Wakes from STANDBY (R425, R509) -/

section
variable (asleep : s.dev.ph = .standby) (supplied : s.pwr.kl30Lost = false)
include asleep supplied

theorem execRtcAlarm_of_reached (armed : s.pwr.rtcArmed = true) (reached : s.time.rtc = s.pwr.alarm) :
    execRtcAlarm s = .next (enterBoot .rtc s) :=
  if_pos (by simp [asleep, supplied, armed, reached])

theorem execCanWake_of_listening {ev : CanWakeEv} (listening : s.pwr.listening = true) (wakes : canWakes s s.pwr.wuf ev = true) :
    execCanWake ev s = .next (enterBoot .can s) :=
  if_pos (by simp [asleep, supplied, listening, wakes])

end

end

/-- Settles O41, row by row. -/
theorem domainRowsAct : Obligations.DomainRowsAct := by
  intro s
  refine ⟨fun dom ticks busy tries up => ⟨fun k short seen => execDomainWakeDeadline_of_regulated busy tries up short seen,
      fun regAt late spent => ⟨fun again => ?again, fun last => ?last⟩⟩,
    fun _ _ => execDomainWakeRetry_of_waited, fun _ _ => execFeRestoreComplete_of_restored,
    fun hold ms held off idle => ⟨fun long => ?expiry, ?kl15, fun ev wakes => ⟨?can, fun awake => ?frame⟩⟩,
    fun busy => ⟨execOpPointTransitionDone_of_main busy, fun _ late => execOpPointOverrun_of_main late busy⟩,
    fun busy => ⟨execOpPointTransitionDone_of_mon busy, fun _ late => execOpPointOverrun_of_mon late busy⟩,
    execRtcAlarm_of_reached, fun asleep supplied listening => ⟨fun ns wake long => ?dominant, fun xtd id dlc data wake set => ?wakeFrame,
      fun n wake many => ?errors⟩⟩
  case again => exact (execDomainWakeDeadline_of_late busy tries late spent).trans (if_pos again)
  case last =>
    refine ⟨_, rfl, (execDomainWakeDeadline_of_late busy tries late spent).trans ((if_neg (by omega)).trans (congrArg _ (if_pos ?_)))⟩
    exact up
  case expiry => rw [← returnD5_of_held held off idle]; exact execD5HoldExpiry_of_expiry held long
  case kl15 => rw [← returnD5_of_held held off idle]; exact execD5HoldExpiry_of_kl15 held ms
  case can => rw [← returnD5_of_held held off idle]; exact execD5HoldExpiry_of_can held wakes ms
  case frame => rw [← returnD5_of_held held off idle]; exact execCanWake_of_awake wakes awake
  case dominant => exact execCanWake_of_listening asleep supplied listening (by simp [canWakes, wake, long])
  case wakeFrame => exact execCanWake_of_listening asleep supplied listening (by simp [canWakes, wake, set])
  case errors => exact execCanWake_of_listening asleep supplied listening (by simp [canWakes, wake, many])

end Sys2Proof.Machine
end

section
/-! What the clock sources, the PLLs and the frequency counter do (R396, R397, R401, R403, R404, R405). -/

namespace Sys2Proof.Machine

section
variable {s : State}

/-! ### Sources that become ready (R396) -/

/-- A source's ready bit is set, and its failure mark cleared. -/
def markReady (src : ClkSrc) (s : State) : State :=
  { s with clk := { s.clk with
    rdy := s.clk.rdy ||| BitVec.ofNat 5 (2 ^ srcBit src), fail := s.clk.fail &&& ~~~(BitVec.ofNat 5 (2 ^ srcBit src)),
    sel := if src = .xo32k then s.clk.sel ||| 0b1000000 else s.clk.sel } }

theorem hasBit_markReady (src : ClkSrc) (s : State) : srcReady (markReady src s) src = true ∧
    hasBit (markReady src s).clk.fail.toNat (srcBit src) = false := by
  have set : ∀ (i : Fin 5) (x : BitVec 5), hasBit (x ||| BitVec.ofNat 5 (2 ^ i.val)).toNat i = true ∧
      hasBit (x &&& ~~~(BitVec.ofNat 5 (2 ^ i.val))).toNat i = false := by decide
  have bit : srcBit src < 5 := by cases src <;> decide
  exact ⟨(set ⟨srcBit src, bit⟩ s.clk.rdy).1, (set ⟨srcBit src, bit⟩ s.clk.fail).2⟩

/-- What a change of references and of selectors leaves alone: the sources' marks, the machines, the recorder, the pins and safety. -/
def KeepsSources (s t : State) : Prop :=
  t.clk.rdy = s.clk.rdy ∧ t.clk.fail = s.clk.fail ∧ t.machs = s.machs ∧ t.recd = s.recd ∧ t.pins = s.pins ∧ t.safety = s.safety

theorem KeepsSources.refl (s : State) : KeepsSources s s := ⟨rfl, rfl, rfl, rfl, rfl, rfl⟩

theorem KeepsSources.trans {s t u : State} (h : KeepsSources s t) (g : KeepsSources t u) : KeepsSources s u := by
  obtain ⟨rdy, fail, machs, recd, pins, safety⟩ := h
  obtain ⟨rdy', fail', machs', recd', pins', safety'⟩ := g
  exact ⟨rdy'.trans rdy, fail'.trans fail, machs'.trans machs, recd'.trans recd, pins'.trans pins, safety'.trans safety⟩

theorem restorePll_keepsSources (p : Pll) (s : State) : KeepsSources s (restorePll p s) := by
  unfold restorePll
  split
  · exact ⟨rfl, rfl, rfl, rfl, rfl, rfl⟩
  · exact .refl s

theorem reselect_keepsSources (b : Nat) (s : State) : KeepsSources s (reselect b s) := by
  simp [KeepsSources, id reselect_same]

theorem reselectAll_keepsSources (l : List Nat) (s : State) : KeepsSources s (forEach l reselect s) :=
  forEach_induction (P := KeepsSources s) (.refl s) (fun v h b _ => h.trans (reselect_keepsSources b v))

/-- A source that has run for its qualification delay is ready; what follows from it changes references and selectors alone. -/
theorem execSourceReady_of_qualified {src : ClkSrc} {us : Nat} (on : s.dev.ph ≠ .off) (long : qualDelay s src ≤ us)
    (written : src = .refin → s.clk.refqWritten = true) :
    ∃ t, execSourceReady src us s = .next t ∧ KeepsSources (markReady src s) t := by
  have passed : ¬ (s.dev.ph == .off || decide (us < qualDelay s src) || (src == .refin && !s.clk.refqWritten)) = true := by
    simp only [Bool.or_eq_true, beq_iff_eq, decide_eq_true_eq, Bool.and_eq_true, Bool.not_eq_true', not_or, not_and, Bool.not_eq_false]
    exact ⟨⟨on, by omega⟩, written⟩
  refine ⟨_, if_neg passed, ?_⟩
  generalize (!hasBit s.clk.fail.toNat (srcBit src) && !srcReady s src) = first
  have refs : KeepsSources (markReady src s) (if src == .refin && first && isUp (markReady src s) && isSlave (markReady src s) then
      restorePll .net (restorePll .pwm (markReady src s)) else markReady src s) := by
    split
    · exact (restorePll_keepsSources .pwm _).trans (restorePll_keepsSources .net _)
    · exact .refl _
  unfold markReady at refs ⊢
  generalize (if src == .refin && first && _ && _ then _ else _) = u at refs ⊢
  refine refs.trans ?_
  have selectors : KeepsSources u (if src == .rc40 && isUp u then
      forEach ((List.range 8).filter (fun b => isHeld (bridgeAt u b))) reselect u else u) := by
    split
    · exact reselectAll_keepsSources _ u
    · exact .refl u
  exact selectors

/-! ### Supervision (R401, R403) -/

theorem execPllCoast_of_missing {pll : Pll} {missing : Nat} (live : isLive s = true) (four : 4 ≤ missing)
    (runs : hasBit s.clk.coast.toNat (pllBit pll) = false) :
    execPllCoast pll missing s =
      .next (note 0x0802 (srcDom 0) [] { s with clk := { s.clk with coast := setPll pll true s.clk.coast } }) :=
  if_pos (by simp [live, four, runs])

theorem execClockSourceFail_of_ready {src : ClkSrc} {missing : Nat} {ppm : Int} (on : s.dev.ph ≠ .off)
    (ready : srcReady s src = true) (fails : 4 ≤ missing ∨ srcWindow s src < |ppm|) :
    execClockSourceFail src missing ppm s = .next (fallback src .net (fallback src .pwm (fallback src .sys
      { s with clk := { s.clk with rdy := s.clk.rdy &&& ~~~(BitVec.ofNat 5 (2 ^ srcBit src)),
                                   fail := s.clk.fail ||| BitVec.ofNat 5 (2 ^ srcBit src), nmi := s.clk.nmi ++ [src],
                                   sel := if src = .xo32k then s.clk.sel &&& 0b0111111 else s.clk.sel } }))) := by
  refine if_pos ?_
  rcases fails with edges | window
  · simp [on, ready, edges]
  · simp [on, ready, window]

theorem execClockFailHandling_of_waiting {src : ClkSrc} (up : monUp s = true) (waits : s.clk.nmi.contains src = true) :
    let v := note 0x0801 (srcDom 0) [BitVec.ofNat 8 (srcBit src)] { s with clk := { s.clk with nmi := s.clk.nmi.filter (· != src) } }
    execClockFailHandling src s = .next (if onRc40 v then raiseFault 0x0804 0 (srcDom 0) .device [] v else v) :=
  if_pos (by rw [up, waits]; rfl)

theorem execClockLossSevere_of_stopped (kind : SevereKind) (stopped : s.clk.netStopped = true) :
    execClockLossSevere .net kind s = .next s :=
  if_neg (by simp [isSevere, stopped])

theorem execClockLossSevere_of_severe {pll : Pll} {kind : SevereKind} (live : isLive s = true) (severe : isSevere s pll kind = true) :
    execClockLossSevere pll kind s = .next (raiseFault 0x0805 0 (srcDom 0) .device []
      { s with dev := { s.dev with severe := true }, clk := { s.clk with lock := setPll pll false s.clk.lock } }) :=
  if_pos (by simp [live, severe])

theorem execClockRestore_of_idle (up : isUp s = true) (idle : allIdle s (List.range 8) = true) :
    let v := restorePll .net (restorePll .pwm (restorePll .sys s))
    execClockRestore s = .next { v with dev := { v.dev with severe := v.dev.severe && !refsReady v } } :=
  if_pos (by simp [up, idle])

/-! ### The frequency counter (R404, R405) -/

theorem fmFinish_clk (status : U16) (data : List Byte) (s : State) :
    (fmFinish status data s).clk = { s.clk with fmTag := none } := by
  simp [fmFinish, id finishOpt_same]

theorem execFreqMeasureSrcOff_of_busy (busy : s.clk.fmBusy = true) :
    execFreqMeasureSrcOff s = .next (fmFinish ST_SRC_NOT_READY (detail RS_NONE 0xFF 0)
      { s with clk := { s.clk with fmSrcOff := true, fmBusy := false } }) := if_pos busy

theorem execFreqMeasureDone_of_busy (busy : s.clk.fmBusy = true) (nIn : Nat) : ∃ t, execFreqMeasureDone nIn s = .next t ∧
    t.clk.fmDone = true ∧ t.clk.fmBusy = false ∧ t.clk.fmTag = none ∧ t.clk.fmNref = s.clk.fmGate ∧
    (nIn < 2 ^ 32 → t.clk.fmNin = BitVec.ofNat 32 nIn ∧ t.clk.fmOvf = s.clk.fmOvf ∧
      t.clk.fmPpm = fmPpmOf nIn s.clk.fmGate.toNat ((fmRefHz s.clk.fmRef.toNat).getD 1) ((fmInHz s s.clk.fmIn.toNat).getD 1)) ∧
    (2 ^ 32 ≤ nIn → t.clk.fmOvf = true) := by
  refine ⟨_, by rw [execFreqMeasureDone, if_pos busy], ?_⟩
  rw [fmFinish_clk]
  by_cases overflow : 4294967296 ≤ nIn
  · simp [overflow, Nat.not_lt.mpr overflow]
  · simp [overflow]

end

/-- Settles O42, row by row. -/
theorem clockSourceRowsAct : Obligations.ClockSourceRowsAct := by
  intro s
  refine ⟨fun src us on long written => ?ready, fun _ _ => execPllCoast_of_missing, fun _ _ _ => execClockSourceFail_of_ready,
    fun src up waits => ⟨fun slow => ?onRc40, fun fast => ?offRc40⟩, fun kind => execClockLossSevere_of_stopped kind,
    fun pll live runs => ?severe, execClockRestore_of_idle,
    fun busy => ⟨execFreqMeasureDone_of_busy busy, execFreqMeasureSrcOff_of_busy busy⟩⟩
  case ready =>
    obtain ⟨t, row, rdy, fail, machs, recd, pins, safety⟩ := execSourceReady_of_qualified on long written
    obtain ⟨ready, clear⟩ := hasBit_markReady src s
    refine ⟨t, row, ?_, ?_, machs, recd, pins, safety⟩
    · rw [← ready, srcReady, rdy]
      rfl
    · rw [fail, clear]
  case onRc40 => exact (execClockFailHandling_of_waiting up waits).trans (congrArg _ (if_pos slow))
  case offRc40 => exact (execClockFailHandling_of_waiting up waits).trans (congrArg _ (if_neg (ne_true_of_eq_false fast)))
  case severe =>
    have counts : (pll == .net && s.clk.netStopped) = false := by
      rcases runs with other | running
      · simp [other]
      · simp [running]
    refine ⟨fun us long => execClockLossSevere_of_severe live ?_, fun ppm pwm far => execClockLossSevere_of_severe live ?_,
      fun src source lost => execClockLossSevere_of_severe live ?_, fun source => execClockLossSevere_of_severe live ?_⟩
    · simp [isSevere, counts, long]
    · simp [isSevere, pwm, far]
    · simp [isSevere, counts, source, lost]
    · simp [isSevere, counts, source]

end Sys2Proof.Machine
end

section
/-! What KL30, the hold-up and start-up do (R96, R99, R586, R587, R588, R590). -/

namespace Sys2Proof.Machine

section
variable {s : State}

/-- A device that is up is neither FROZEN nor in another phase. -/
theorem isFrozen_of_up (up : isUp s = true) : isFrozen s = false := by
  have running : s.dev.ph = .up := by simpa [isUp] using up
  simp [isFrozen, running]

/-! ### KL30 (R586, R587, R588, R590) -/

theorem execKl30Loss_of_low {mv us : Nat} (there : s.pins.kl30 = true) (supplied : s.pwr.kl30Lost = false) (low : mv < 12000)
    (long : 50 ≤ us) :
    let v := { s with pwr := { s.pwr with kl30Lost := true, kl30Conf := false } }
    execKl30Loss mv us s = .next (if isFrozen v then v else flushBuffer v) :=
  if_pos (by simp [there, supplied, low, long])

theorem execKl30LossConfirmed_of_up {ticks : Nat} (lost : s.pwr.kl30Lost = true) (first : s.pwr.kl30Conf = false) (long : 328 ≤ ticks)
    (up : isUp s = true) :
    execKl30LossConfirmed ticks s = .next (powerDown false (raiseFault 0x0810 0 (srcDom 3) .device []
      (forEach (List.range 4) (commandCtd false) { s with pwr := { s.pwr with kl30Conf := true } }))) := by
  have confirmed : isUp { s with pwr := { s.pwr with kl30Conf := true } } = true := up
  refine (if_pos (by simp [lost, first, long])).trans ((if_neg (ne_true_of_eq_false (isFrozen_of_up confirmed))).trans ?_)
  exact congrArg (fun v => Host.Outcome.next (powerDown false v)) (if_pos confirmed)

section
variable {mv us : Nat} (lost : s.pwr.kl30Lost = true) (high : 13000 < mv) (long : 1000 ≤ us)
include lost high long

theorem execKl30Return_of_dip (dip : s.pwr.kl30Conf = false) (up : isUp s = true) : execKl30Return mv us s =
    .next (note 0x0811 (srcDom 0) [] { s with pwr := { s.pwr with kl30Lost := false, kl30Conf := false } }) :=
  (if_pos (by simp [lost, high, long])).trans ((if_neg (by simp [dip])).trans (if_pos up))

theorem execKl30Return_of_confirmed (confirmed : s.pwr.kl30Conf = true) (runs : isFrozen s = false) : execKl30Return mv us s =
    .next (enterBoot .kl30Return { s with pwr := { s.pwr with kl30Lost := false, kl30Conf := false } }) := by
  have running : isFrozen { s with pwr := { s.pwr with kl30Lost := false, kl30Conf := false } } = false := runs
  exact (if_pos (by simp [lost, high, long])).trans (if_pos (by rw [confirmed, running]; rfl))

end

theorem execHoldupEnd_of_over {us : Nat} (lost : s.pwr.kl30Lost = true) (long : 20000 ≤ us) :
    execHoldupEnd us s = .next (goOff (if s.dev.ph == .standby || isFrozen s then s else powerDown false s)) :=
  if_pos (by simp [lost, long])

/-- A power-down leaves fuses and owner slots alone. -/
theorem powerDown_oneWay (listening : Bool) (s : State) :
    (powerDown listening s).store.fuses = s.store.fuses ∧ (powerDown listening s).store.owners = s.store.owners := by
  simp [id powerDown_keeps]

theorem execKl30OutOfRange_of_out {mv ticks : Nat} (up : isUp s = true) (supplied : s.pwr.kl30Lost = false) (long : 328 ≤ ticks)
    (out : 12000 ≤ mv ∧ mv < 16000 ∨ 32000 < mv ∧ mv ≤ 58000) :
    execKl30OutOfRange mv ticks s = .next (note 0x0812 (srcDom 0) [] s) := by
  refine if_pos ?_
  rcases out with low | high
  · simp [up, supplied, long, low]
  · simp [up, supplied, long, high]

/-- A module to which KL30 is applied (R590). -/
def supply (kl15 : Bool) (s : State) : State :=
  { s with
    pins := { s.pins with kl30 := true, kl15 := kl15 }
    dev := { s.dev with ph := .standby, fromOff := true }
    time := { s.time with rtc := 0, rtcAtHold := 0, d0Phase := 0 }
    pwr := { s.pwr with rtcArmed := false, alarm := 0, listening := false } }

theorem execKl30Apply_of_off (off : s.dev.ph = .off) (kl15 : Bool) :
    execKl30Apply kl15 s = .next (if kl15 then enterBoot .powerUpKl15 (supply kl15 s) else supply kl15 s) :=
  if_pos (by simp [off])

/-! ### Start-up (R96, R99) -/

theorem execBootEntry_of_boot {obs : BootObs} {cause : BootCause} (straps : obs.straps.length = 4) (islands : obs.islands.length = 52)
    (calA : obs.calA.length = 8) (calB : obs.calB.length = 8) (dies : obs.dieTemps.length = 16) (boot : s.dev.ph = .boot)
    (latched : s.dev.bootCause = some cause) :
    let v := bootTime (flushBuffer s)
    let w := bootUnits { v with dev := { v.dev with bootCause := none }, pwr := { v.pwr with cause := causeBits s.dev.fromOff cause } }
    execBootEntry obs s =
      .next (bootSteps obs (bootDomains obs (List.range' 1 7) (bootClocks obs (bootStraps obs w)))) := by
  refine (if_neg (by simp [straps, islands, calA, calB, dies])).trans ?_
  rw [boot, latched]

theorem execStartupStepOverrun_of_late {step : Fin 10} {us : Nat} (up : isUp s = true) (started : step ≠ 0)
    (late : stepMax step < us) : execStartupStepOverrun step us s = .next (note 0x0821 (srcDom 0) [ixByte step] s) :=
  if_pos (by simp [up, started, late])

end

/-- Settles O40, row by row. -/
theorem supplyAndStartRowsAct : Obligations.SupplyAndStartRowsAct := by
  intro s
  refine ⟨fun mv us there supplied low long => ⟨fun runs => ?flushed, fun frozen => ?frozen⟩,
    fun _ => execKl30LossConfirmed_of_up, fun mv us lost high long => ⟨execKl30Return_of_dip lost high long,
      execKl30Return_of_confirmed lost high long⟩, fun us lost long => ?off, fun _ _ => execKl30OutOfRange_of_out,
    fun off => ?apply, fun _ _ => execBootEntry_of_boot, fun _ _ => execStartupStepOverrun_of_late⟩
  case flushed => exact (execKl30Loss_of_low there supplied low long).trans (congrArg _ (if_neg (ne_true_of_eq_false runs)))
  case frozen => exact (execKl30Loss_of_low there supplied low long).trans (congrArg _ (if_pos frozen))
  case off =>
    refine ⟨_, execHoldupEnd_of_over lost long, rfl, ?_⟩
    have kept : (if s.dev.ph == .standby || isFrozen s then s else powerDown false s).store.fuses = s.store.fuses ∧
        (if s.dev.ph == .standby || isFrozen s then s else powerDown false s).store.owners = s.store.owners := by
      split
      · exact ⟨rfl, rfl⟩
      · exact powerDown_oneWay false s
    exact kept
  case apply =>
    exact ⟨_, _, execKl30Apply_of_off off false, rfl, rfl, execKl30Apply_of_off off true, rfl, rfl⟩

end Sys2Proof.Machine
end

section
/-! What packets, datagrams, segments and setpoint frames do on arrival (R439, R442, R446, R447, R459). -/

namespace Sys2Proof.Machine

section
variable {s : State}

/-! ### Packets (Table 13.3, checks 1 to 3) -/

section
variable {port : Port} {bytes : List Byte} {padOk : Bool}

theorem checkPacket_of_foreign (foreign : bytes.length < 24 ∨ bytes.getD 0 0 ≠ 0x02) :
    checkPacket port bytes padOk s = discardPacket s :=
  if_pos (foreign.imp_right .inl)

section
variable (whole : 24 ≤ bytes.length) (version : bytes.getD 0 0 = 0x02) (request : hasBit (field bytes 1 1) 0 = false)
include whole version request

theorem checkPacket_of_length
    (wrong : 4096 < field bytes 6 2 ∨ bytes.length ≠ packetLength bytes ∨ padOk = false) :
    checkPacket port bytes padOk s = bounce (parseHdr port bytes) (field bytes 2 2) ST_BAD_LENGTH s := by
  have own : ¬ (bytes.length < 24 ∨ bytes.getD 0 0 ≠ 0x02 ∨ hasBit (field bytes 1 1) 0 = true) := by
    rw [version, request]
    simp [whole]
  exact (if_neg own).trans (if_pos (wrong.imp_right (.imp_right (by simp))))

theorem checkPacket_of_whole (short : field bytes 6 2 ≤ 4096) (length : bytes.length = packetLength bytes) (padded : padOk = true)
    (flags : field bytes 1 1 / 16 = 0) :
    checkPacket port bytes padOk s = checkRequest (parseHdr port bytes) (field bytes 2 2) bytes s := by
  have own : ¬ (bytes.length < 24 ∨ bytes.getD 0 0 ≠ 0x02 ∨ hasBit (field bytes 1 1) 0 = true) := by
    rw [version, request]
    simp [whole]
  have right : ¬ (4096 < field bytes 6 2 ∨ bytes.length ≠ packetLength bytes ∨ (!padOk) = true) := by
    simp [short, ← length, padded]
  exact (if_neg own).trans ((if_neg right).trans (if_neg (by simp [flags])))

end

end

theorem execPacketArrival_of_received {port : Port} (received : receives s port = true) (bytes padding : List Byte) :
    execPacketArrival port bytes padding s = .next (checkPacket port bytes (paddingOk port padding) s) :=
  if_pos received

/-! ### Datagrams (R439, R444) -/

section
variable {eth : Fin 3} {vlan : U16} (received : receives s (ethPort eth) = true) (tagged : vlan.toNat = netPar s 0x27)
include received tagged

theorem execUdpDatagram_of_whole (dstPort : U16) (payload : List Byte) (srcAddr : U32) (srcPort : U16) :
    execUdpDatagram eth dstPort vlan (.whole payload) srcAddr srcPort s =
      .next (udpArrives eth dstPort.toNat payload srcAddr srcPort s) :=
  if_pos (by simp [received, tagged])

theorem execUdpDatagram_of_fragment (dstPort ident : U16) (offset : Nat) (more : Bool) (payload : List Byte) (srcAddr : U32) (srcPort : U16) :
    execUdpDatagram eth dstPort vlan (.fragment ident offset more payload) srcAddr srcPort s =
      .next (takeFragment eth srcAddr ident offset more payload s) :=
  if_pos (by simp [received, tagged])

end

/-- A datagram that arrives on a port is counted. -/
def countDatagram (p : Nat) (s : State) : State :=
  { s with net := { s.net with eth := s.net.eth.modify p (fun e => { e with rx := e.rx + 1 }) } }

/-- Origin bytes of a datagram on an Ethernet port (Table 15.6). -/
def udpOrigin (p : Nat) (src : U32) (srcPort : U16) : List Byte :=
  [BitVec.ofNat 8 p, 0] ++ beBytes 2 srcPort.toNat ++ beBytes 4 src.toNat

theorem udpArrives_of_own (p : Fin 3) (payload : List Byte) (src : U32) (srcPort : U16) :
    udpArrives p 48160 payload src srcPort s = ownDatagram p (udpOrigin p src srcPort) payload (countDatagram p s) := rfl

theorem udpArrives_of_slave {p : Fin 3} (master : deviceIndex (countDatagram p s) = 0) (payload : List Byte) (src : U32) (srcPort : U16) :
    udpArrives p 48161 payload src srcPort s = forwardTo 1 (udpOrigin p src srcPort) payload (countDatagram p s) := by
  have passes : (decide (48160 < 48161 ∧ 48161 < 48164) && deviceIndex (countDatagram p s) == 0) = true := by
    rw [master]
    rfl
  unfold udpArrives
  rw [if_neg (show ¬ 48161 = 48160 by decide)]
  exact if_pos passes

/-! ### CAN segments (R442) -/

theorem execCanSegment_of_oldest {can dev : Fin 4} {frame : List Byte} (oldest : oldestFrame can true dev s = some frame)
    (received : receives s (canPort can) = true) (serves : servesIndex s dev = true) :
    execCanSegment can dev s = .next (if frame.isEmpty then readBuffer can true dev s else takeSegment can dev frame (readBuffer can true dev s)) := by
  simp only [execCanSegment, oldest, received, serves, Bool.and_self, if_true]

theorem execSegmentGapTimeout_of_gap {can dev : Fin 4} {r : Reasm} (on : served s = true)
    (started : s.proto.reasm.getD (4 * can.val + dev.val) none = some r) (gap : r.last + netPar s 0x42 * 40000 < s.time.dev) :
    execSegmentGapTimeout can dev s = .next (dropReassembly can dev s) := by
  simp only [execSegmentGapTimeout, started, on, gap, decide_true, Bool.and_self, if_true]

/-! ### Setpoint frames (R349, R459) -/

/-- A setpoint frame of an open session is copied where its tag is right, and accepted or rejected. -/
theorem setpointFrame_of_session {p : Port} {bytes : List Byte} {k : Session} (length : bytes.length = 64)
    (kind : bytes.getD 0 0 = 0x12) (open_ : sessAt s (field bytes 1 1) = some k) :
    let w := if frameMacOk k bytes then copyEntries bytes s else s
    setpointFrame p bytes s = if gateOpen s 0 = false then rejectFrame p s
      else if frameAccepted k bytes then acceptFrame p (field bytes 1 1) bytes w else rejectFrame p w := by
  refine (if_neg (by rw [length, kind]; simp)).trans ?_
  simp only [open_, Bool.not_eq_true']

theorem execFastSetpointFrame_of_udp {eth : Fin 3} (received : receives s (ethPort eth) = true) (bytes : List Byte) :
    execFastSetpointFrame (.udp eth bytes) s = .next (setpointFrame (ethPort eth) bytes s) :=
  congrArg _ (if_pos received)

theorem execFastSetpointFrame_of_ring (received : receives s .ring = true) (bytes : List Byte) :
    execFastSetpointFrame (.ring bytes) s = .next (setpointFrame .ring bytes s) :=
  congrArg _ (if_pos received)

theorem execFastSetpointFrame_of_can {n : Fin 4} {bytes : List Byte} (received : receives s (canPort n) = true)
    (oldest : oldestFrame n false (deviceIndex s) s = some bytes) :
    execFastSetpointFrame (.can n) s = .next (setpointFrame (canPort n) bytes (readBuffer n false (deviceIndex s) s)) := by
  simp only [execFastSetpointFrame, oldest, received, if_true]

end

/-- Settles O55, row by row. -/
theorem arrivalRowsAct : Obligations.ArrivalRowsAct := by
  intro s
  refine ⟨fun port bytes padding received => ⟨fun foreign => ?foreign, fun whole version request =>
      ⟨fun wrong => ?length, fun short length padded flags => ?request⟩⟩,
    fun eth vlan payload srcAddr srcPort received tagged => ⟨?own, fun master => ?forwarded, fun dstPort ident offset more => ?fragment⟩,
    fun can dev frame oldest received serves => ⟨fun some_ => ?segment, fun none_ => ?noSegment⟩,
    fun can dev r on started gap => execSegmentGapTimeout_of_gap on started gap,
    fun bytes k length kind open_ => ⟨fun eth received => ?udp, fun received => ?ring, fun n received oldest => ?can⟩⟩
  case foreign => exact (execPacketArrival_of_received received ..).trans (congrArg _ (checkPacket_of_foreign foreign))
  case length =>
    exact (execPacketArrival_of_received received ..).trans (congrArg _ (checkPacket_of_length whole version request wrong))
  case request =>
    exact (execPacketArrival_of_received received ..).trans
      (congrArg _ (checkPacket_of_whole whole version request short length padded flags))
  case own => exact (execUdpDatagram_of_whole received tagged ..).trans (congrArg _ (udpArrives_of_own ..))
  case forwarded =>
    exact (execUdpDatagram_of_whole received tagged ..).trans (congrArg _ (udpArrives_of_slave master ..))
  case fragment => exact execUdpDatagram_of_fragment received tagged dstPort ident offset more payload srcAddr srcPort
  case segment =>
    exact (execCanSegment_of_oldest oldest received serves).trans (congrArg _ (if_neg (by simpa using some_)))
  case noSegment => exact (execCanSegment_of_oldest oldest received serves).trans (congrArg _ (if_pos (by simp [none_])))
  case udp => exact (execFastSetpointFrame_of_udp received bytes).trans (congrArg _ (setpointFrame_of_session length kind open_))
  case ring => exact (execFastSetpointFrame_of_ring received bytes).trans (congrArg _ (setpointFrame_of_session length kind open_))
  case can =>
    exact (execFastSetpointFrame_of_can received oldest).trans (congrArg _ (setpointFrame_of_session length kind open_))

end Sys2Proof.Machine
end

section
/-! Dispatch, deadlines, sessions, setpoint timeouts and state frames act (R448, R452, R456, R462, R474, R506). -/

namespace Sys2Proof.Machine

section
variable {s : State}

/-! ### Dispatch (R456) -/

section
variable (on : served s = true) (runs : dispatches s = true)
include on runs

theorem execDispatch_of_served : execDispatch s = .next (takeNext s) :=
  if_pos (by simp [on, runs])

end

theorem takeNext_of_urgent {q : Nat} {rest : List Nat} (front : s.proto.urgentQ = q :: rest) :
    takeNext s = runEntry q { s with proto := { s.proto with urgentQ := rest } } := by
  simp only [takeNext, front]

theorem takeNext_of_normal {q : Nat} {rest : List Nat} (noUrgent : s.proto.urgentQ = []) (front : s.proto.normalQ = q :: rest) :
    takeNext s = runEntry q { s with proto := { s.proto with normalQ := rest } } := by
  simp only [takeNext, noUrgent, front]

/-! ### Context deadlines (R452, Table 13.4) -/

section
variable (tags : s.proto.ctx.length = 128)
include tags

/-- A place past the 128 tags holds a context that a closed session left. -/
theorem ctxAt_of_left {j : Nat} (h : j < s.proto.left.length) : ctxAt s (128 + j) = s.proto.left[j] := by
  have place : 128 + j - 128 = j := by omega
  rw [ctxAt, List.getD_append_right _ _ _ _ (by omega), tags, place, List.getD_eq_getElem _ _ h]

theorem tagContexts_of_none_left {tag : Nat} (own : ∀ c ∈ s.proto.left, c.hdr.tag.toNat ≠ tag) : tagContexts s tag = [tag] := by
  refine congrArg (tag :: ·) (List.filter_eq_nil_iff.mpr fun i places passes => ?_)
  simp only [ctxPlaces, List.mem_range, tags] at places
  simp only [Bool.and_eq_true, decide_eq_true_eq, beq_iff_eq] at passes
  obtain ⟨past, tagged⟩ := passes
  obtain ⟨j, rfl⟩ := Nat.exists_eq_add_of_le past
  have left : j < s.proto.left.length := by omega
  rw [ctxAt_of_left tags left] at tagged
  exact own _ (List.getElem_mem left) tagged

theorem ctxAt_of_one_left {c : Ctx} (left : s.proto.left = [c]) : ctxAt s 128 = c := by
  rw [ctxAt_of_left tags (j := 0) (by simp [left])]
  simp [left]

theorem tagContexts_of_one_left {tag : Nat} {c : Ctx} (left : s.proto.left = [c]) (tagged : c.hdr.tag.toNat = tag) :
    tagContexts s tag = [tag, 128] := by
  have below : (List.range 128).filter (fun i => decide (128 ≤ i) && (ctxAt s i).hdr.tag.toNat == tag) = [] :=
    List.filter_eq_nil_iff.mpr fun i h => by simp [List.mem_range.mp h]
  have places : ctxPlaces s = List.range 128 ++ [128] := by
    rw [ctxPlaces, tags, left]
    exact List.range_succ
  rw [tagContexts, places, List.filter_append, below]
  simp [ctxAt_of_one_left tags left, tagged]

end

theorem ctxOver_of_open {i : Nat} (open_ : (ctxAt s i).st = .short ∨ (ctxAt s i).st = .long) (past : (ctxAt s i).deadline ≤ s.time.dev) :
    ctxOver s i = true := by
  obtain short | long := open_
  · simp [ctxOver, short, past]
  · simp [ctxOver, long, past]

theorem ctxOver_of_closed {i : Nat} (closed : (ctxAt s i).st = .free ∨ (ctxAt s i).st = .done) : ctxOver s i = false := by
  obtain free | done := closed
  · simp [ctxOver, free]
  · simp [ctxOver, done]

theorem execContextDeadline_of_own {tag : Fin 128} (alone : tagContexts s tag = [tag.val]) (open_ : ctxOver s tag = true) :
    execContextDeadline tag s = .next (expireContext tag s) := by
  have due : (tagContexts s tag).filter (ctxOver s) = [tag.val] := by simp [alone, open_]
  exact congrArg (fun l => Host.Outcome.next (forEach l expireContext s)) due

/-- A request ends with ST_TIMEOUT and leaves the dispatch queues. -/
def answerTimeout (t : Nat) (s : State) : State :=
  finish t ST_TIMEOUT (detail RS_NONE 0xFF 0) { s with proto := { s.proto with
    urgentQ := s.proto.urgentQ.filter (· != t), normalQ := s.proto.normalQ.filter (· != t) } }

theorem expireContext_of_short {t : Nat} (short : (ctxAt s t).st = .short) : expireContext t s = answerTimeout t s :=
  if_neg (by simp [short])

theorem expireContext_of_long {t : Nat} (long : (ctxAt s t).st = .long) :
    expireContext t s = retag t none (abortOp t (ctxAt s t) (answerTimeout t s)) :=
  if_pos (by simp [long])

/-! ### Sessions (R448, R474) -/

section
variable {sid : Fin 8} {k : Session} (open_ : sessAt s (sid.val + 1) = some k)
include open_

theorem execSessionIdleTimeout_of_idle (limited : netPar s 0x43 ≠ 0) (idle : k.last + netPar s 0x43 * 400000000 ≤ s.time.dev) :
    execSessionIdleTimeout sid s = .next (closeSession (sid.val + 1) s) := by
  simp only [execSessionIdleTimeout, open_]
  exact if_pos ⟨limited, idle⟩

theorem execNonceExpiry_of_old {n : BitVec 128} {issued : Nat} (nonce : k.nonce = some (n, issued)) (old : issued + 24000000000 ≤ s.time.dev) :
    execNonceExpiry sid s = .next (modSess (sid.val + 1) (fun k => { k with nonce := none }) s) := by
  simp only [execNonceExpiry, open_, nonce]
  exact if_pos old

end

/-! ### Setpoint timeouts and state frames (R462, R506) -/

theorem execSetpointTimeout_of_late {m : Fin 8} (up : isUp s = true) (bound : (machAt s m).bound.isSome = true)
    (first : (machAt s m).timedOut = false)
    (takes : (machBridges s m).any (fun b => stOf s b == .armed || stOf s b == .running) = true)
    (late : (machAt s m).spLast + netPar s 0x41 * netPar s 0x40 * 40000 ≤ s.time.dev) :
    execSetpointTimeout m s =
      .next (raiseFault 0x0902 m (srcMach m) (.machine m) [] (modMach m (fun x => { x with timedOut := true }) s)) :=
  if_pos (by rw [up, bound, first, takes, decide_eq_true late]; rfl)

theorem execStateFrame_of_due {i : Nat} {p : Port} {origin : List Byte} {k : Session} (on : served s = true) (sends : netPar s 0x2B ≠ 0)
    (due : periodOver s s.net.stAt (netPar s 0x2B * 40000) = true) (source : s.proto.spSrc = some (i, p, origin))
    (open_ : sessAt s i = some k) :
    execStateFrame s = .next (sendState i p origin k { s with net := { s.net with stAt := some s.time.dev } }) := by
  have passes : (served s && netPar s 0x2B != 0 && periodOver s s.net.stAt (netPar s 0x2B * 40000)) = true := by
    simp [on, sends, due]
  have still : sessAt { s with net := { s.net with stAt := some s.time.dev } } i = some k := open_
  simp only [execStateFrame, passes, if_true, source, still]

end

/-- Settles O56, row by row. -/
theorem contextAndSessionRowsAct : Obligations.ContextAndSessionRowsAct := by
  intro s
  refine ⟨fun on runs => ⟨fun q rest urgent => ?urgent, fun q rest none_ normal => ?normal⟩,
    fun tag past own tags => ⟨answerTimeout tag s, rfl, fun short => ?short, fun long => ?long⟩,
    fun tag c left tagged tags closed open_ past => ?left,
    fun sid k open_ => ⟨fun limited idle => execSessionIdleTimeout_of_idle open_ limited idle,
      fun n issued nonce old => execNonceExpiry_of_old open_ nonce old⟩,
    fun m up bound first takes late => execSetpointTimeout_of_late up bound first takes late,
    fun i p origin k on sends due source open_ => execStateFrame_of_due on sends due source open_⟩
  case urgent => exact (execDispatch_of_served on runs).trans (congrArg _ (takeNext_of_urgent urgent))
  case normal => exact (execDispatch_of_served on runs).trans (congrArg _ (takeNext_of_normal none_ normal))
  case short =>
    exact (execContextDeadline_of_own (tagContexts_of_none_left tags own) (ctxOver_of_open (.inl short) past)).trans
      (congrArg _ (expireContext_of_short short))
  case long =>
    exact (execContextDeadline_of_own (tagContexts_of_none_left tags own) (ctxOver_of_open (.inr long) past)).trans
      (congrArg _ (expireContext_of_long long))
  case left =>
    have place : ctxAt s 128 = c := ctxAt_of_one_left tags left
    have due : (tagContexts s tag).filter (ctxOver s) = [128] := by
      rw [tagContexts_of_one_left tags left tagged, List.filter_cons_of_neg (by rw [ctxOver_of_closed closed]; decide),
        List.filter_cons_of_pos (ctxOver_of_open (by rwa [place]) (by rwa [place]))]
      rfl
    exact congrArg (fun l => Host.Outcome.next (forEach l expireContext s)) due

end Sys2Proof.Machine
end

section
/-! The CAN and Ethernet rows act (R439, R499, R501, R504, R507, R510, R513). -/

namespace Sys2Proof.Machine

section
variable {s : State}

/-! ### CAN (R499, R501, R504, R507) -/

section
variable {can : Fin 4} {id : BitVec 29} {form : CanForm} {data : List Byte}

theorem execCanFrameReceive_of_ignored (ignored : form.remote = true ∨ form.res = true) :
    execCanFrameReceive can id form data s = .next s :=
  if_neg (by obtain remote | res := ignored <;> simp [*])

section
variable (received : receives s (canPort can) = true) (dataFrame : form.remote = false) (dominant : form.res = false)
include received dataFrame dominant

/-- A frame that the controller does not ignore meets the identifiers of VEXFI. -/
theorem canFrame_passes : (receives s (canPort can) && !form.remote && !form.res) = true := by
  rw [received, dataFrame, dominant]
  rfl

theorem execCanFrameReceive_of_fd {request : Bool} {d : Nat} (fd : form.fd = true)
    (found : vexfiIndex s can form.xtd id.toNat = some (request, d)) :
    execCanFrameReceive can id form data s = .next (takeFrame can request d id.toNat data s) := by
  simp only [execCanFrameReceive, canFrame_passes received dataFrame dominant, fd, found, if_true]

theorem execCanFrameReceive_of_classic (classic : form.fd = false) (own : onVexfi s can form.xtd id.toNat = true) :
    execCanFrameReceive can id form data s = .next (modCan can (fun c => { c with classic := c.classic + 1 }) s) := by
  simp only [execCanFrameReceive, canFrame_passes received dataFrame dominant, classic, own, if_true, Bool.false_eq_true, if_false]

end

end

section
variable {can : Fin 4} (runs : canRuns s can = true)
include runs

theorem execCanBusOff_of_runs :
    execCanBusOff can s = .next (note 0x0910 (srcNet (3 + can)) [] (dropCan can (modCan can (fun c =>
      { c with busOff := true, passive := true, busOffCnt := c.busOffCnt + 1, seg := List.replicate 4 0, shot := none }) s))) :=
  if_pos runs

theorem execOneShotFail_of_waiting (waits : (canAt s can).shot.isSome = true) (lostArb : Bool) :
    execOneShotFail can lostArb s = .next (noteLimited 0x0914 (srcNet (3 + can)) (s.time.dev + 40000000)
      (modCan can (fun c => if lostArb then { c with shot := none, lostArb := true } else { c with shot := none, txErr := true }) s)) :=
  if_pos (by rw [runs, waits]; rfl)

end

theorem execCanBusOffRecovery_of_idle {can : Fin 4} {occurrences : Nat} (on : served s = true) (off : (canAt s can).busOff = true)
    (enough : 128 ≤ occurrences) :
    execCanBusOffRecovery can occurrences s =
      .next (modCan can (fun c => { c with busOff := false, passive := false, recv := 0, tec := 0 }) s) :=
  if_pos (by rw [on, off, decide_eq_true enough]; rfl)

/-! ### Ethernet (R439, R510, R513) -/

/-- Every discarded datagram of a port counts. -/
theorem forEach_discardDatagram (p : Nat) (l : List Nat) (s : State) :
    forEach l (fun _ s => discardDatagram p s) s =
      { s with net := { s.net with eth := s.net.eth.modify p (fun e => { e with disc := e.disc + l.length }) } } := by
  induction l generalizing s with
  | nil =>
    have same : s.net.eth.modify p (fun e => { e with disc := e.disc + 0 }) = s.net.eth := List.modify_id p _
    simp only [forEach, List.foldl_nil, List.length_nil, same]
  | cons x l ih =>
    have both : (s.net.eth.modify p (fun e => { e with disc := e.disc + 1 })).modify p (fun e => { e with disc := e.disc + l.length }) =
        s.net.eth.modify p (fun e => { e with disc := e.disc + (l.length + 1) }) := by
      rw [List.modify_modify_eq]
      refine congrArg (s.net.eth.modify p) (funext fun e => ?_)
      simp only [Function.comp_apply, Nat.add_assoc, Nat.add_comm 1]
    refine (ih (discardDatagram p s)).trans ?_
    simp only [discardDatagram, both, List.length_cons]

section
variable {p : Fin 3} (on : ethOn s p = true)
include on

theorem execEthLinkUp_of_on : execEthLinkUp p s = .next (modEth p (fun e => { e with link := true }) s) :=
  if_pos on

theorem execIpv4ReassemblyTimeout_of_on {ms : Nat} (enough : 10 ≤ ms) :
    let late := fun (f : FragSet) => f.eth == p.val && decide (f.since + ms * 400000 ≤ s.time.dev)
    execIpv4ReassemblyTimeout p ms s = .next { s with net := { s.net with
      frags := s.net.frags.filter (fun f => !late f)
      eth := s.net.eth.modify p (fun e => { e with disc := e.disc + (s.net.frags.filter late).length }) } } := by
  refine (if_pos (by rw [on, decide_eq_true enough]; rfl)).trans (congrArg _ ?_)
  rw [forEach_discardDatagram, List.length_range]

section
variable (linked : portLost s (ethPort p) = false)
include linked

theorem execEthLinkDown_of_linked :
    execEthLinkDown p s =
      .next (note 0x0911 (srcNet p) [ixByte p] (modEth p (fun e => { e with link := false, down := e.down + 1 }) s)) :=
  if_pos (by rw [on, linked]; rfl)

section
variable {addr : U32} (own : addr.toNat = netPar s 0x24)
include own

/-- The responders of a port answer for its address while its link is up. -/
theorem responder_passes : (ethOn s p && !portLost s (ethPort p) && addr.toNat == netPar s 0x24) = true := by
  rw [on, linked, own, beq_self_eq_true]
  rfl

theorem execArpRequest_of_own : execArpRequest p addr s = .next (emit (.arp p addr) s) :=
  if_pos (responder_passes on linked own)

theorem execIcmpEchoRequest_of_own : execIcmpEchoRequest p addr s = .next (echo p s) :=
  if_pos (responder_passes on linked own)

end

end

end

end

/-- Settles O57, row by row. -/
theorem busRowsAct : Obligations.BusRowsAct := by
  intro s
  refine ⟨fun can id form data => ⟨execCanFrameReceive_of_ignored, fun received dataFrame dominant =>
      ⟨fun request d fd found => execCanFrameReceive_of_fd received dataFrame dominant fd found,
        fun classic own => execCanFrameReceive_of_classic received dataFrame dominant classic own⟩⟩,
    fun can runs => ⟨execCanBusOff_of_runs runs, fun waits => ⟨execOneShotFail_of_waiting runs waits true, execOneShotFail_of_waiting runs waits false⟩⟩,
    fun can occurrences on off enough => execCanBusOffRecovery_of_idle on off enough,
    fun p on => ⟨execEthLinkUp_of_on on, fun ms enough => execIpv4ReassemblyTimeout_of_on on enough, fun linked =>
      ⟨execEthLinkDown_of_linked on linked, fun addr own => ⟨execArpRequest_of_own on linked own, fun few => ?answered, fun many => ?silent⟩⟩⟩⟩
  case answered => exact (execIcmpEchoRequest_of_own on linked own).trans (congrArg _ (if_pos few))
  case silent => exact (execIcmpEchoRequest_of_own on linked own).trans (congrArg _ (if_neg (Nat.not_lt.mpr many)))

end Sys2Proof.Machine
end

section
/-! Time synchronisation and the cascade ring act (R514 to R516, R520 to R532). -/

namespace Sys2Proof.Machine

section
variable {s : State}

/-! ### Time synchronisation (R514 to R516) -/

section
variable (on : served s = true)
include on

section
variable (gptp : netPar s 0x29 = 1)
include gptp

/-- A device whose clock follows the grandmaster takes part in gPTP. -/
theorem gptp_passes : (served s && netPar s 0x29 == 1) = true := by
  rw [on, gptp]
  rfl

/-- The state after a Sync message has set the offset. -/
def syncTaken (offset : Int) (s : State) : State :=
  { s with net := { s.net with gptpSync := true, gptpOfs := clampInt (-2147483648) 2147483647 (roundDiv (offset * 5) 2) } }

omit on gptp in
theorem isSlave_syncTaken (offset : Int) : isSlave (syncTaken offset s) = isSlave s := rfl

theorem execGptpSync_of_slave (slave : isSlave s = true) (offset : Int) : execGptpSync offset s = .next (syncTaken offset s) :=
  (if_pos (gptp_passes on gptp)).trans (if_pos ((isSlave_syncTaken offset).trans slave))

theorem execGptpSync_of_master (master : isSlave s = false) (offset : Int) :
    execGptpSync offset s = .next (correctTime offset (syncTaken offset s)) :=
  (if_pos (gptp_passes on gptp)).trans (if_neg (Bool.eq_false_iff.mp ((isSlave_syncTaken offset).trans master)))

theorem execGptpSyncLoss_of_lost {n : Nat} (enough : 3 ≤ n) (first : s.net.gptpSync = true ∨ n = 3) :
    execGptpSyncLoss n s = .next (note 0x0912 (srcDom 5) [] { s with net := { s.net with gptpSync := false } }) :=
  if_pos (by simp [on, gptp, enough, first])

end

theorem execQbvCycleStart_of_boundary (cycle : 0 < cycleTicks (runningGcl s)) (boundary : s.time.dev % cycleTicks (runningGcl s) = 0) :
    execQbvCycleStart s = .next { s with net := { s.net with
      gcl := configuredGcl s, gclPorts := netPar s 0x20, qbv := netPar s 0x20 != 0, qbvStart := s.time.dev } } :=
  if_pos (by simp [on, cycle, boundary])

/-! ### The ring (R520 to R532) -/

section
variable (ring : inCascade s = true)
include ring

omit ring in
theorem execRingFrameReceive_of_served (port : RingPort) (f : RingFrame) :
    execRingFrameReceive port f s = .next (ringFrame port f s) :=
  if_pos (by simp [on])

theorem execRingLinkSend_of_due (due : periodOver s s.net.lkAt 400000 = true) :
    let a := newFrame 0x05 ((Config.freeWord s.time.free).setWidth 8) [ixByte (deviceIndex s), ixByte (linkState s), 0, 0]
      { s with time := { s.time with free := s.time.free + 1 }, net := { s.net with lkAt := some s.time.dev } }
    execRingLinkSend s = .next (putRing a.1 .rout (putRing a.1 .rin a.2)) :=
  if_pos (by rw [on, ring, due]; rfl)

theorem execRingDelayReq_of_due {port : RingPort} (live : (ringPort s port).down = false)
    (due : periodOver s (ringPort s port).reqAt 400000000 = true) (t1 t2 t3 t4 : Nat) :
    let a := newFrame 0x06 ((Config.freeWord s.time.free).setWidth 8) (beBytes 8 (t1 / 16))
      { s with time := { s.time with free := s.time.free + 1 } }
    execRingDelayReq port t1 t2 t3 t4 s =
      .next (modRing port (fun p => { p with delay := ((t4 - t1) - (t3 - t2)) / 2, reqAt := some s.time.dev }) (putRing a.1 port a.2)) :=
  if_pos (by rw [on, ring, live, due]; rfl)

theorem execRingLinkDown_of_failed {port : RingPort} {why : RingFail} (live : (ringPort s port).down = false)
    (failed : failsLink s (ringPort s port) why = true) :
    execRingLinkDown port why s = .next (judgeChain (note 0x0B01 (srcCasc (deviceIndex s)) [ringIx port, 0]
      (modRing port (fun p => { p with down := true, crcBad := 0 }) s))) :=
  if_pos (by rw [on, ring, live, failed]; rfl)

theorem execRingLinkRestored_of_down {port : RingPort} {ms : Nat} (down : (ringPort s port).down = true) (enough : 100 ≤ ms) :
    let u := modRing port (fun p => { p with down := false, seen := 0, linkAt := s.time.dev, crcBad := 0 }) s
    let v := if deviceIndex u = 0 then u else { u with net := { u.net with ends := 0 } }
    execRingLinkRestored port ms s =
      .next (judgeChain (if endBits v = 0 then note 0x0B01 (srcCasc (deviceIndex v)) [ringIx port, 1] v else v)) :=
  if_pos (by rw [on, ring, down, decide_eq_true enough]; rfl)

theorem execCascadeDeviceLost_of_silent {d : Fin 4} (other : d.val ≠ deviceIndex s) (watched : hasBit (netPar s 0x36) d = true)
    (silent : (s.net.rem.getD d Remote.reset).seenAt + netPar s 0x31 * 400 ≤ s.time.dev)
    (first : (s.net.rem.getD d Remote.reset).lost = false) :
    execCascadeDeviceLost d s =
      .next (cascadeHold s (note 0x0B04 (srcCasc d) [ixByte d] (modRem d (fun r => { r with lost := true }) s))) :=
  if_pos (by rw [on, ring, watched, decide_eq_true silent, first, bne_iff_ne.mpr other]; rfl)

end

theorem execMasterLost_of_silent (slave : isSlave s = true) (first : s.net.noMaster = false)
    (silent : s.net.lastTime + netPar s 0x31 * 400 ≤ s.time.dev) :
    execMasterLost s = .next (raiseFault 0x0B03 0 (srcCasc 0) .device [] { s with net := { s.net with noMaster := true } }) :=
  if_pos (by rw [on, slave, first, decide_eq_true silent]; rfl)

end

/-! ### The fault path (R526) -/

section
variable (path : faultPath s = true)
include path

theorem execFaultFlagChange_of_changed (changed : ownFlags s ≠ s.net.sent.toNat) : execFaultFlagChange s = .next (sendFault s) :=
  if_pos (by simp [path, changed])

section
variable (due : s.dev.ph = .frozen ∨ periodOver s s.net.ringAt (netPar s 0x30 * 400) = true)
include due

/-- Once in a period, and at every row of a FROZEN device, the FAULT frame goes out. -/
theorem execRingPeriodicSend_of_due :
    let v := sendFault { s with net := { s.net with ringAt := some s.time.dev } }
    execRingPeriodicSend s = .next (if served v && deviceIndex v == 0 && !v.net.conflict then sendMaster v else v) :=
  if_pos (by obtain frozen | over_ := due <;> simp [*])

end

end

end

/-- Settles O58, row by row. -/
theorem timeAndRingRowsAct : Obligations.TimeAndRingRowsAct := by
  intro s
  refine ⟨fun on gptp => ⟨fun offset => ⟨syncTaken offset s, rfl, fun slave => execGptpSync_of_slave on gptp slave offset,
      fun master => execGptpSync_of_master on gptp master offset⟩, fun n enough first => execGptpSyncLoss_of_lost on gptp enough first⟩,
    fun on cycle boundary => execQbvCycleStart_of_boundary on cycle boundary,
    fun on ring => ⟨fun port f => execRingFrameReceive_of_served on port f, fun due => execRingLinkSend_of_due on ring due,
      fun port t1 t2 t3 t4 live due => execRingDelayReq_of_due on ring live due t1 t2 t3 t4,
      fun port why live failed => execRingLinkDown_of_failed on ring live failed,
      fun port ms down enough => execRingLinkRestored_of_down on ring down enough,
      fun d other watched silent first => execCascadeDeviceLost_of_silent on ring other watched silent first⟩,
    fun on slave first silent => execMasterLost_of_silent on slave first silent,
    fun path => ⟨fun due => ⟨fun on master clear => ?master, fun other => ?other⟩, fun changed => execFaultFlagChange_of_changed path changed⟩⟩
  case master => exact (execRingPeriodicSend_of_due path due).trans (congrArg _ (if_pos (by simp [on, master, clear])))
  case other =>
    refine (execRingPeriodicSend_of_due path due).trans (congrArg _ (if_neg ?_))
    obtain off | slave := other
    · simp [off]
    · simp [slave]

end Sys2Proof.Machine
end

section
/-! The recorder, the domain restore, the flux map, the TAP and the contactor feedback act (R88, R203, R416, R494, R575 to R578). -/

namespace Sys2Proof.Machine

section
variable {s : State}

/-! ### The recorder (R575, R576, R578) -/

section
variable (on : recorderOn s = true)
include on

theorem execRecorderFlush_of_on : execRecorderFlush s = .next (flushBuffer s) := if_pos on

theorem execPostTriggerEnd_of_over {e : Nat} (set : s.recd.postEnd = some e) (past : e ≤ s.time.dev) :
    execPostTriggerEnd s = .next { s with recd := { s.recd with postHold := true, postEnd := none } } := by
  simp only [execPostTriggerEnd, set, on, past, decide_true, Bool.and_self, if_true]

theorem execTrendRecord_of_period {channel : Fin 128} (up : isUp s = true)
    (past : s.recd.trendStart.getD channel 0 + parN s 0xCF01 * 400000000 ≤ s.time.dev) :
    let r := trendRec s (if trendSource s channel then s.recd.trendAcc.getD channel ⟨0, 0, 0, 0⟩ else ⟨0, 0, 0, 0⟩)
    execTrendRecord channel s = .next { s with
      time := { s.time with free := s.time.free + 3 },
      recd := { s.recd with trend := s.recd.trend.modify channel (fun l => (ringAppend 32768 l [r]).1),
                            trendStart := s.recd.trendStart.set channel s.time.dev,
                            trendAcc := s.recd.trendAcc.set channel ⟨0, 0, 0, 0⟩ } } :=
  if_pos (by rw [on, up, decide_eq_true past]; rfl)

end

/-! ### The restore of a domain (R416) -/

section
variable {dom : Fin 16} (saved : (domAt s dom).saved = true) (on : domOn s dom = true)
include saved on

/-- A domain that kept its contents and is on is restored. -/
theorem restore_passes : ((domAt s dom).saved && domOn s dom) = true := by
  rw [saved, on]
  rfl

theorem execRetentionRestore_of_right :
    execRetentionRestore dom true s = .next (if 8 ≤ dom.val then s else modDom dom (fun d => { d with saved := false }) s) :=
  if_pos (restore_passes saved on)

theorem execRetentionRestore_of_wrong :
    let v := note 0x0809 (srcDom dom) [] (leaveOn dom false (modDom dom (fun d => { d with saved := false, crcErr := true }) s))
    execRetentionRestore dom false s =
      .next (if dom.val = 5 then startCan v else if 8 ≤ dom.val then returnFe (dom.val - 8) v else v) :=
  if_pos (restore_passes saved on)

end

/-! ### The flux map (R203) -/

section
variable {m : Fin 8} (on : mainUp s = true) (waits : (machAt s m).mapPending = true)
include on waits

theorem execFluxMapDerivationEnd_of_good {f : FluxMap} (good : goodMap s m = some f) :
    let v := modMach m (fun x => { x with mapPending := false, mapUsed := true }) s
    execFluxMapDerivationEnd m s = .next (modMach m (fun x => { x with tables := some (deriveTables v m f) }) v) := by
  simp only [execFluxMapDerivationEnd, on, waits, good, Bool.and_self, if_true]

theorem execFluxMapDerivationEnd_of_bad (bad : goodMap s m = none) :
    execFluxMapDerivationEnd m s = .next (note 0x0213 (srcMach m) []
      (modMach m (fun x => { x with mapPending := false, mapUsed := false, tables := none }) s)) := by
  simp only [execFluxMapDerivationEnd, on, waits, bad, Bool.and_self, if_true]

end

/-! ### The TAP (R88) -/

/-- The TAP holds an instruction. -/
def setTap (op : Byte) (s : State) : State := { s with pins := { s.pins with tap := op } }

theorem tapRuns_of_ne_extest (other : s.pins.tap ≠ 3) : tapRuns s = s.pins.tap :=
  if_neg (by simp [show ¬ s.pins.tap = 3#8 from other])

/-- EXTEST runs only in SERVICE with no active bridge. -/
theorem service_of_extest (runs : tapRuns s = 3) : s.dev.ph = .up ∧ serviceReason s ≠ 0 ∧ anyActive s (List.range 8) = false := by
  by_cases stopped : (decide (s.pins.tap = 3) && !(s.dev.ph == .up && serviceReason s != 0 && !anyActive s (List.range 8))) = true
  · have idle : tapRuns s = 0 := if_pos stopped
    exact absurd (idle.symm.trans runs) (by decide)
  · have held : s.pins.tap = 3 := (if_neg stopped).symm.trans runs
    simpa [held, and_assoc] using stopped

theorem execTapInstruction_of_sample {op : Byte} (sample : tapRuns (setTap (tapTakes s op) s) = 2) :
    let v := setTap (tapTakes s op) s
    let u := { v with time := { v.time with free := v.time.free + 56 } }
    execTapInstruction op true s = .next { u with pins := { u.pins with cells := pinCells v.time.free u } } :=
  if_pos sample

theorem execTapInstruction_of_other {op : Byte} (other : tapRuns (setTap (tapTakes s op) s) ≠ 2) :
    execTapInstruction op true s = .next (setTap (tapTakes s op) s) :=
  if_neg other

theorem execTapInstruction_of_reset (op : Byte) : execTapInstruction op false s = .next (setTap 0 s) := by
  have held : (setTap 0 s).pins.tap = 0 := rfl
  have quiet : tapRuns (setTap 0 s) ≠ 2 := by
    rw [tapRuns_of_ne_extest (by rw [held]; decide), held]
    decide
  simp only [execTapInstruction, Bool.false_eq_true, if_false]
  exact if_neg quiet

/-! ### Contactor feedback (R494) -/

theorem execFeedbackConfirmsCommand_of_shown {n : Fin 4} {cfb : BitVec 6} {t : Nat} (on : monUp s = true)
    (shown : feedbackAll { s with pins := { s.pins with cfb := cfb } } cfb n
      (ctdAt { s with pins := { s.pins with cfb := cfb } } n).closed = true) :
    let w := modCtd n (fun c => { c with checking := false }) { s with pins := { s.pins with cfb := cfb } }
    (ctdAt w n).tag = some t → execFeedbackConfirmsCommand n cfb s = .next (settleContactors t w) := by
  intro w named
  refine (if_neg (by simp [on])).trans ((if_pos shown).trans ?_)
  simp only [w] at named
  simp only [named, w]

end

/-- Settles O59, row by row. -/
theorem recorderAndMapRowsAct : Obligations.RecorderAndMapRowsAct := by
  intro s
  refine ⟨fun on => ⟨execRecorderFlush_of_on on, fun e set past => execPostTriggerEnd_of_over on set past,
      fun channel up past => execTrendRecord_of_period on up past⟩,
    fun dom saved on => ⟨fun low => ⟨?kept, ?lost⟩, fun high => ⟨?feKept, ?feLost⟩⟩,
    fun m on waits => ⟨fun f good => execFluxMapDerivationEnd_of_good on waits good,
      fun bad => execFluxMapDerivationEnd_of_bad on waits bad⟩,
    fun op => ⟨execTapInstruction_of_sample, execTapInstruction_of_other, execTapInstruction_of_reset op, service_of_extest⟩,
    fun n cfb t on shown named => execFeedbackConfirmsCommand_of_shown on shown named⟩
  case kept => exact (execRetentionRestore_of_right saved on).trans (congrArg _ (if_neg (Nat.not_le.mpr low)))
  case lost =>
    refine (execRetentionRestore_of_wrong saved on).trans (congrArg _ ?_)
    rw [if_neg (Nat.not_le.mpr low)]
  case feKept => exact (execRetentionRestore_of_right saved on).trans (congrArg _ (if_pos high))
  case feLost =>
    refine (execRetentionRestore_of_wrong saved on).trans (congrArg _ ?_)
    rw [if_neg (show ¬ dom.val = 5 by omega), if_pos high]

end Sys2Proof.Machine
end

section
/-! Handover, reload, rotation and recalibration act (R551, R552, R554, R557, R559). -/

namespace Sys2Proof.Machine

section
variable {s : State} (up : isUp s = true)
include up

/-! ### The handover (R551, R552, R554) -/

section
variable {h : Handover} (runs : s.store.handover = some h)
include runs

theorem execHandoverTakeover_of_running (inj : Nat) (clean : Bool) :
    execHandoverTakeover inj clean s = .next (takeover h (injPasses inj clean) s) := by
  simp only [execHandoverTakeover, runs, up, if_true]

theorem execHandoverTimeout_of_late (first : h.late = false) (past : h.halt + 80000000 ≤ s.time.dev) :
    let v := { s with store := { s.store with handover := some { h with late := true } } }
    execHandoverTimeout s = .next (forEach ((machines v).filter (machRunning v))
      (fun m s => raiseFault 0x0A21 m (srcMach m) (.machine m) [] s) v) := by
  simp only [execHandoverTimeout, runs, up, first, past, decide_true, Bool.not_false, Bool.and_self, if_true]

end

omit up in
section
variable {h : Handover} {passes : Bool}

/-- The main image of a slot can take over: its injection test and the checks of its slot pass. -/
def imageStarts (s : State) (passes slotB : Bool) : Bool := passes && verifySlot s .main (classSlot s .main slotB) == .good

/-- The handover ends: the main pair controls again, with the setpoints that came while it ran. -/
def endHandover (s : State) : State := applyStored (releasePair .main { s with store := { s.store with handover := none } })

theorem takeover_of_starts (new : h.fail = none) (starts : imageStarts s passes h.slotB = true) :
    let u := activateSlot .main h.slotB s
    let v := finishOpt h.tag ST_OK (beBytes 4 (versionOf u .main).toNat) u
    takeover h passes s = endHandover (bootFuses.raiseFuse .main (note 0x0A20 (srcDom 2) (beBytes 4 (versionOf v .main).toNat) v)) := by
  simp only [takeover, new]
  exact if_pos starts

theorem takeover_of_fails (new : h.fail = none) (fails : imageStarts s passes h.slotB = false) :
    let v := note 0x0A22 (srcDom 2) [] (setSlotSt .main h.slotB .invalid s)
    takeover h passes s = { v with
      time := { v.time with free := v.time.free + 1 },
      store := { v.store with handover := some { h with fail := some ((Config.freeWord v.time.free).setWidth 16) } } } := by
  intro v
  simp only [imageStarts] at fails
  simp only [takeover, new, fails, Bool.false_eq_true, if_false, drawFree, v]

section
variable {st : U16} (failed : h.fail = some st)
include failed

theorem takeover_of_previous (starts : imageStarts s passes (!h.slotB) = true) :
    takeover h passes s = endHandover (finishOpt h.tag st (detail RS_NONE 0xFF 0) s) := by
  simp only [takeover, failed]
  exact if_pos starts

theorem takeover_of_waiting (waits : imageStarts s passes (!h.slotB) = false) : takeover h passes s = s := by
  simp only [takeover, failed]
  exact if_neg (Bool.eq_false_iff.mp waits)

end

end

/-! ### Reloads and rotation (R550, R557) -/

theorem execFeReload_of_resting {n : Fin 8} (asked : (bridgeAt s n).feReload = true) (resting : stOf s n = .idle ∨ stOf s n = .disabled) :
    execFeReload n s = .next (modBridge n (fun br => { br with feReload := false, feVersion := versionOf s .fe }) s) := by
  have rest : (stOf s n == .idle || stOf s n == .disabled) = true := by obtain idle | disabled := resting <;> simp [*]
  exact if_pos (by rw [up, asked, rest]; rfl)

theorem execIslReload_of_quiet {b : Fin 8} {answers : List IslandObs} (six : answers.length = 6)
    (asked : (bridgeAt s b).islReload = true) (quiet : allQuiet s [b.val] = true) (on : domOn s (8 + b) = true) :
    execIslReload b answers s = .next (modBridge b (fun br => { br with islReload := false })
      (forgetUnread ((bridgeChans s b).zipIdx.foldl (fun s p => takeHandshake (answers.getD p.2 IslandObs.none) p.1 s) s))) :=
  (if_neg (by simp [six])).trans (if_pos (by rw [up, asked, quiet, on]; rfl))

/-! ### Recalibration (R559) -/

theorem execRecalCoverEnd_of_asked {target index : Byte} (cal : ConvCal) (low high : IslandObs)
    (asked : s.store.recal.any (fun r => r.1 == target && r.2.1 == index) = true) :
    let mine := fun (r : Byte × Byte × Option Nat) => r.1 == target && r.2.1 == index
    let r := recalResult target index cal low high
      { s with store := { s.store with recal := s.store.recal.filter (fun r => !mine r) } }
    let w := { r.2.2.2 with time := { r.2.2.2.time with free := r.2.2.2.time.free + 1 } }
    let p := if r.1 then writeStartup (recalRecord target index).1 (recalRecord target index).2 r.2.2.1 r.2.1 w
      else (Config.freeWord r.2.2.2.time.free, w)
    execRecalCoverEnd target index cal low high s = .next (((s.store.recal.filter mine).map (fun r => r.2.2)).foldl
      (fun s t => finishOpt t ST_OK ([flagByte (!r.1), 0, 0, 0] ++ beBytes 4 p.1.toNat) s) p.2) :=
  if_pos (by rw [up, asked]; rfl)

end

section
variable {s : State}

theorem execFeRotation_of_turn {m : Fin 8} (on : mainUp s = true) (turn : sixLower s m = true) :
    execFeRotation m s = .next (rotate m s) :=
  if_pos (by rw [on, turn]; rfl)

end

/-- Settles O60, row by row. -/
theorem updateRowsAct : Obligations.UpdateRowsAct := by
  intro s up
  refine ⟨fun h inj clean runs => ⟨fun new starts => ?new, fun new fails => ?fails, fun st failed => ⟨fun starts => ?previous, fun waits => ?waits⟩⟩,
    fun h runs first past => execHandoverTimeout_of_late up runs first past,
    fun n asked resting => execFeReload_of_resting up asked resting,
    fun b answers six asked quiet on => execIslReload_of_quiet up six asked quiet on,
    fun m on turn => execFeRotation_of_turn on turn,
    fun target index cal low high asked => execRecalCoverEnd_of_asked up cal low high asked⟩
  case new => exact (execHandoverTakeover_of_running up runs inj clean).trans (congrArg _ (takeover_of_starts new starts))
  case fails => exact (execHandoverTakeover_of_running up runs inj clean).trans (congrArg _ (takeover_of_fails new fails))
  case previous => exact (execHandoverTakeover_of_running up runs inj clean).trans (congrArg _ (takeover_of_previous failed starts))
  case waits => exact (execHandoverTakeover_of_running up runs inj clean).trans (congrArg _ (takeover_of_waiting failed waits))

end Sys2Proof.Machine
end

section
/-! What leaves FROZEN and what enters it (R477, R565, R566, R568). The idea: TAKE_FREEZE alone enters it, and drops an accepted RESET as
it does; in a FROZEN device nothing sets one. -/

namespace Sys2Proof.Machine

/-! ### What does not enter FROZEN -/

/-- A device that is FROZEN now was FROZEN before. -/
def NoFreeze (s t : State) : Prop := t.dev.ph = .frozen → s.dev.ph = .frozen

theorem NoFreeze.of_eq {s t : State} (phase : t.dev.ph = s.dev.ph) : NoFreeze s t := fun frozen => phase ▸ frozen

theorem NoFreeze.of_ne {s t : State} (phase : t.dev.ph ≠ .frozen) : NoFreeze s t := fun frozen => absurd frozen phase

theorem NoFreeze.trans {s t u : State} (h : NoFreeze s t) (g : NoFreeze t u) : NoFreeze s u := h ∘ g

/-- A change that keeps the phase may come first. -/
theorem NoFreeze.after {s u t : State} (h : NoFreeze u t) (phase : u.dev.ph = s.dev.ph) : NoFreeze s t := fun frozen => phase ▸ h frozen

theorem NoFreeze.ite {c : Prop} [Decidable c] {s a b : State} (ha : NoFreeze s a) (hb : NoFreeze s b) :
    NoFreeze s (if c then a else b) := by
  split
  · exact ha
  · exact hb

theorem Keeps.phase {s t : State} (h : Keeps s t) : t.dev.ph = s.dev.ph := by
  obtain ⟨-, -, -, -, -, phase⟩ := h
  exact phase

theorem Keeps.noFreeze {s t : State} (h : Keeps s t) : NoFreeze s t := .of_eq h.phase

/-! ### Entries to STANDBY, BOOT and OFF -/

theorem powerDown_phase (listening : Bool) (s : State) : (powerDown listening s).dev.ph = .standby := rfl

theorem enterBoot_phase (cause : BootCause) (s : State) : (enterBoot cause s).dev.ph = .boot := rfl

theorem goOff_phase (s : State) : (goOff s).dev.ph = .off := rfl

theorem standbySleep_noFreeze (s : State) : NoFreeze s (standbySleep s) := by
  unfold standbySleep
  split
  · exact .of_eq rfl
  · split
    · exact .of_ne (by simp [powerDown_phase])
    · exact .of_eq rfl

theorem standbyAdvance_noFreeze (s : State) : NoFreeze s (standbyAdvance s) := by
  unfold standbyAdvance
  refine .ite (.of_eq rfl) ?_
  generalize disarmed : (if sbyStep s = 2 then standbyDisarm s else s) = u
  dsimp only
  generalize opened : (if sbyStep u = 3 then standbyContactors u else u) = v
  have disarm : NoFreeze s u := disarmed ▸ .ite (standbyDisarm_keeps s).noFreeze (.of_eq rfl)
  have contactors : NoFreeze u v := opened ▸ .ite (standbyContactors_keeps u).noFreeze (.of_eq rfl)
  exact (disarm.trans contactors).trans (.ite (standbySleep_noFreeze v) (.of_eq rfl))

theorem standbyHalted_noFreeze (listening : Bool) (s : State) : NoFreeze s (standbyHalted listening s) := by
  unfold standbyHalted
  refine .ite (.of_eq rfl) (.trans (.of_eq ?_) (standbyAdvance_noFreeze _))
  simp [id commandCtd_keeps]

theorem kl15Edge_noFreeze (s : State) : NoFreeze s (kl15Edge s) := by
  have rise : NoFreeze s (returnD5 { s with pins := { s.pins with kl15 := true } }) := (returnD5_keeps _).noFreeze
  unfold kl15Edge
  generalize returnD5 { s with pins := { s.pins with kl15 := true } } = u at rise
  dsimp only
  split
  · exact rise
  · exact .ite rise (.of_ne (by simp [enterBoot_phase]))
  · exact rise.trans (abandonStandby_keeps u).noFreeze
  · exact rise.trans (abandonStandby_keeps u).noFreeze
  · exact rise.trans (abandonStandby_keeps u).noFreeze
  · exact rise

theorem NoFreeze.ne {s t : State} (h : NoFreeze s t) (running : s.dev.ph ≠ .frozen) : t.dev.ph ≠ .frozen := mt h running

theorem opStandbyEnter_noFreeze (t : Nat) (depth timing canWake : Byte) (s : State) : NoFreeze s (opStandbyEnter t depth timing canWake s) := by
  unfold opStandbyEnter
  refine .ite (refuse_keeps ..).noFreeze (.ite ?later (.ite (refuse_keeps ..).noFreeze (.ite (refuse_keeps ..).noFreeze ?now)))
  case later => exact .trans (.of_eq rfl) (finish_keeps ..).noFreeze
  case now =>
    refine NoFreeze.trans (.trans ?_ (standbyBegin_keeps _ _).noFreeze) (standbyAdvance_noFreeze _)
    exact .of_eq (finish_keeps t ST_OK [] s).phase

/-! ### Start-up (R97, R98) -/

theorem haltAt_ph_ne_frozen (n : Nat) (s : State) : (haltAt n s).dev.ph ≠ .frozen := by
  have stopped : (if n < 4 then Phase.boot else Phase.calibrating) ≠ .frozen := by split <;> decide
  unfold haltAt
  dsimp only
  split
  · refine (standbyHalted_noFreeze _ _).ne ?_
    exact stopped
  · exact stopped

theorem bootFinish_ph_ne_frozen (s : State) : (bootFinish s).dev.ph ≠ .frozen := by
  unfold bootFinish
  dsimp only
  generalize started : forEach (List.range 8) initPos _ = u
  have up : u.dev.ph = .up := by
    rw [← started]
    split <;> simp [id initPos_keeps, id newTrend_keeps, id bootBridges_keeps]
  have running : u.dev.ph ≠ .frozen := by simp [up]
  split
  · refine NoFreeze.ne ?_ running
    exact (standbyBegin_keeps ..).noFreeze.trans (standbyAdvance_noFreeze _)
  · exact running

theorem execBootEntry_noFreeze (o : BootObs) (s : State) : OutAll (NoFreeze s) (execBootEntry o s) := by
  unfold execBootEntry
  split
  · trivial
  · split
    · refine NoFreeze.of_ne ?_
      dsimp only [bootSteps]
      split
      · exact haltAt_ph_ne_frozen _ _
      · exact bootFinish_ph_ne_frozen _
    · exact NoFreeze.of_eq rfl

/-! ### Requests -/

theorem gated_noFreeze (op : Nat) (b : Bool) (t : Nat) {f : State → State} (h : ∀ v, NoFreeze v (f v)) (s : State) :
    NoFreeze s (gated op b t f s) := by
  unfold gated
  split
  · exact (finish_keeps ..).noFreeze
  · exact h s

theorem serve_noFreeze (hd : Hdr) (op : Nat) (p : List Byte) (b : Bool) {f : Nat → State → State} (h : ∀ t v, NoFreeze v (f t v))
    (s : State) : NoFreeze s (serve hd op p b f s) := by
  have checked : NoFreeze s (admits hd op p s).2 := (admits_keeps ..).noFreeze
  unfold serve
  exact .ite (.ite checked (.ite (checked.trans (gated_noFreeze _ _ _ (h _) _)) (checked.trans (enqueue_keeps ..).noFreeze))) (.of_eq rfl)

theorem opUpdActivate_noFreeze (t : Nat) (timing : Byte) (s : State) : NoFreeze s (opUpdActivate t timing s) := by
  obtain ⟨-, -, -, -, phase⟩ := opUpdActivate_keeps t timing s
  exact .of_eq phase

theorem opOwnerFuse_noFreeze (t : Nat) (signer target : Byte) (hash : Digest) (sig : Rsa) (s : State) :
    NoFreeze s (opOwnerFuse t signer target hash sig s) := by
  obtain ⟨-, -, -, -, phase⟩ := opOwnerFuse_keeps t signer target hash sig s
  exact .of_eq phase

theorem opOwnerRevoke_noFreeze (t : Nat) (signer target : Byte) (hash : Digest) (sig : Rsa) (s : State) :
    NoFreeze s (opOwnerRevoke t signer target hash sig s) := by
  obtain ⟨-, -, -, -, phase⟩ := opOwnerRevoke_keeps t signer target hash sig s
  exact .of_eq phase

end Sys2Proof.Machine
end

section
/-! A request that waits in a queue does not freeze the device (R456, R565): no opcode's meaning enters FROZEN. -/

namespace Sys2Proof.Machine

/-- What a queued request asks for does not freeze the device. -/
def NeverFreezes (c : Option Call) : Prop := ∀ onBridge f, c = some (onBridge, f) → ∀ t v, NoFreeze v (f t v)

section
variable {f : Nat → State → State} (h : ∀ t v, NoFreeze v (f t v))
include h

theorem NeverFreezes.some (b : Bool) : NeverFreezes (Option.some (b, f)) := by
  intro onBridge g hc
  obtain ⟨-, rfl⟩ := Prod.mk.injEq .. ▸ Option.some.inj hc
  exact h

theorem NeverFreezes.fixed (n : Nat) (p : List Byte) : NeverFreezes (fixed n p f) := by
  unfold Machine.fixed
  split
  · exact .some h false
  · exact fun _ _ none_ => nomatch none_

end

theorem NeverFreezes.none : NeverFreezes Option.none := fun _ _ none_ => nomatch none_

theorem badForm_noFreeze (t : Nat) (s : State) : NoFreeze s (badForm t s) := (refuse_keeps ..).noFreeze

theorem noCount_noFreeze (t : Nat) (s : State) : NoFreeze s (noCount t s) := (refuse_keeps ..).noFreeze

theorem callDrive_neverFreezes (op : Nat) (p : List Byte) : NeverFreezes (callDrive op p) := by
  unfold callDrive
  dsimp only
  split
  · exact .fixed (fun _ _ => (opIdentify_keeps ..).noFreeze) _ _
  · exact .fixed (fun _ _ => (opGetState_keeps ..).noFreeze) _ _
  · refine .fixed (fun t v => ?_) _ _
    split_ifs
    · exact (opServiceLeave_keeps ..).noFreeze
    · exact (opServiceEnter_keeps ..).noFreeze
    · exact badForm_noFreeze _ _
  · exact .fixed (fun _ _ => (opReset_keeps ..).noFreeze) _ _
  · exact .fixed (fun _ _ => (opCtxQuery_keeps ..).noFreeze) _ _
  · exact .fixed (fun _ _ => (opArm_keeps ..).noFreeze) _ _
  · exact .fixed (fun _ _ => (opDisarm_keeps ..).noFreeze) _ _
  · exact .fixed (fun _ _ => (opTorqueSet_keeps ..).noFreeze) _ _
  · exact .fixed (fun _ _ => (opSpeedSet_keeps ..).noFreeze) _ _
  · exact .fixed (fun _ _ => (opSafeState_keeps ..).noFreeze) _ _
  · exact .fixed (fun _ _ => (opStart_keeps ..).noFreeze) _ _
  · exact .fixed (fun _ _ => (opPluckTest_keeps ..).noFreeze) _ _
  · exact .fixed (fun _ _ => (opRetire_keeps ..).noFreeze) _ _
  · exact .fixed (fun _ _ => (opCmpArm_keeps ..).noFreeze) _ _
  · exact .fixed (fun _ _ => (opCmpStatus_keeps ..).noFreeze) _ _
  · exact .fixed (fun _ _ => (opRemap_keeps ..).noFreeze) _ _

theorem callSets_neverFreezes (op : Nat) (p : List Byte) (s : State) : NeverFreezes (callSets op p s) := by
  unfold callSets
  dsimp only
  split
  · split_ifs
    · exact .none
    · exact .some noCount_noFreeze _
    · exact .some (fun _ _ => (opParamRead_keeps ..).noFreeze) _
  · split_ifs
    · exact .none
    · exact .some noCount_noFreeze _
    · exact .some (fun _ _ => (opParamWrite_keeps ..).noFreeze) _
  · split_ifs
    · exact .some (fun _ _ => (opCommitApply_keeps ..).noFreeze) _
    · exact .none
    · exact .fixed (fun _ _ => (opCommitPrepare_keeps ..).noFreeze) _ _
    · exact .fixed (fun _ _ => (opCommitDiscard_keeps ..).noFreeze) _ _
    · exact .fixed badForm_noFreeze _ _
  · split_ifs
    · exact .some (fun _ _ => (opSetSelect_keeps ..).noFreeze) _
    · exact .none
  · exact .fixed (fun _ _ => (opCalRead_keeps ..).noFreeze) _ _
  · split_ifs
    · exact .some (fun _ _ => (opCalRecal_keeps ..).noFreeze) _
    · exact .none
  · exact .fixed (fun _ _ => (opUpdBegin_keeps ..).noFreeze) _ _
  · split_ifs
    · exact .none
    · exact .some (fun _ _ => (opUpdChunk_keeps ..).noFreeze) _
  · exact .fixed (fun _ _ => (opUpdVerify_keeps ..).noFreeze) _ _
  · exact .fixed (fun _ _ => opUpdActivate_noFreeze _ _ _) _ _
  · exact .fixed (fun _ _ => (opUpdHandover_keeps ..).noFreeze) _ _

theorem callTrust_neverFreezes (op : Nat) (p : List Byte) : NeverFreezes (callTrust op p) := by
  unfold callTrust
  dsimp only
  split
  · exact .fixed (fun _ _ => (opRecInfo_keeps ..).noFreeze) _ _
  · exact .fixed (fun _ _ => (opRecRead_keeps ..).noFreeze) _ _
  · exact .fixed (fun _ _ => (opTrendRead_keeps ..).noFreeze) _ _
  · exact .fixed (fun _ _ => (opAttest_keeps ..).noFreeze) _ _
  · exact .fixed (fun _ _ => (opSessionOpen_keeps ..).noFreeze) _ _
  · exact .fixed (fun _ _ => (opSessionClose_keeps ..).noFreeze) _ _
  · exact .fixed (fun _ _ => (opKeyInfo_keeps ..).noFreeze) _ _
  · refine .fixed (fun t v => ?_) _ _
    split_ifs
    · exact opOwnerFuse_noFreeze _ _ _ _ _ _
    · exact opOwnerRevoke_noFreeze _ _ _ _ _ _
    · exact badForm_noFreeze _ _
  · exact .fixed (fun _ _ => (opCascStatus_keeps ..).noFreeze) _ _

theorem callPower_neverFreezes (op : Nat) (p : List Byte) : NeverFreezes (callPower op p) := by
  unfold callPower
  dsimp only
  split
  · exact .fixed (fun _ _ => (opRegRead_keeps ..).noFreeze) _ _
  · exact .fixed (fun _ _ => (opRegWrite_keeps ..).noFreeze) _ _
  · exact .fixed (fun _ _ => (opFreqMeasure_keeps ..).noFreeze) _ _
  · exact .fixed (fun _ _ => (opFreeze_keeps ..).noFreeze) _ _
  · exact .fixed (fun _ _ => (opSnapshotInfo_keeps ..).noFreeze) _ _
  · exact .fixed (fun _ _ => (opDomainSet_keeps ..).noFreeze) _ _
  · exact .fixed (fun _ _ => (opOpPoint_keeps ..).noFreeze) _ _
  · exact .fixed (fun _ _ => opStandbyEnter_noFreeze _ _ _ _ _) _ _
  · exact .fixed (fun _ _ => (opRtcSet_keeps ..).noFreeze) _ _
  · exact .fixed (fun _ _ => (opAlarmSet_keeps ..).noFreeze) _ _
  · exact .fixed (fun _ _ => (opLockoutClear_keeps ..).noFreeze) _ _
  · exact .fixed (fun _ _ => (opStoStatus_keeps ..).noFreeze) _ _
  · exact .fixed (fun _ _ => (opContactorSet_keeps ..).noFreeze) _ _
  · exact .fixed (fun _ _ => (opLockoutList_keeps ..).noFreeze) _ _

theorem callOf_neverFreezes (op : Nat) (p : List Byte) (s : State) : NeverFreezes (callOf op p s) := by
  unfold callOf
  split_ifs
  · exact callDrive_neverFreezes op p
  · exact callSets_neverFreezes op p s
  · exact callTrust_neverFreezes op p
  · exact callPower_neverFreezes op p

theorem runContext_noFreeze (t : Nat) (s : State) : NoFreeze s (runContext t s) := by
  unfold runContext
  dsimp only
  split
  next onBridge f call => exact gated_noFreeze _ _ _ (callOf_neverFreezes _ _ _ onBridge f call t) s
  next => exact (refuse_keeps ..).noFreeze

theorem runEntry_noFreeze (t : Nat) (s : State) : NoFreeze s (runEntry t s) := .ite (runContext_noFreeze t s) (.of_eq rfl)

theorem takeNext_noFreeze (s : State) : NoFreeze s (takeNext s) := by
  unfold takeNext
  split
  · exact .trans (.of_eq rfl) (runEntry_noFreeze _ _)
  · exact .trans (.of_eq rfl) (runEntry_noFreeze _ _)
  · exact .of_eq rfl

theorem execDispatch_noFreeze (s : State) : OutAll (NoFreeze s) (execDispatch s) := by
  unfold execDispatch
  split
  · exact takeNext_noFreeze s
  · exact NoFreeze.of_eq rfl

end Sys2Proof.Machine
end

section
/-! FROZEN is entered by TAKE_FREEZE alone, left only as R568 says, and holds no RESET that waits (R477, R566, R568). -/

namespace Sys2Proof.Machine

/-! ### No command but TAKE_FREEZE enters FROZEN -/

theorem execKl15KeepHigh_noFreeze (pin : WakePin) (edge : Bool) (s : State) : OutAll (NoFreeze s) (execKl15KeepHigh pin edge s) := by
  cases pin with
  | kl15 => exact NoFreeze.ite (kl15Edge_noFreeze s) (.of_eq rfl)
  | keep =>
    refine NoFreeze.ite ((abandonStandby_keeps _).noFreeze.after rfl) (.of_eq rfl)

theorem execKl15KeepLowCount_noFreeze (ticks : Nat) (s : State) : OutAll (NoFreeze s) (execKl15KeepLowCount ticks s) := by
  unfold execKl15KeepLowCount
  dsimp only
  split
  · exact NoFreeze.of_eq rfl
  · split
    · exact (standbyAdvance_noFreeze _).after (standbyBegin_keeps _ _).phase
    · split
      · exact NoFreeze.of_eq rfl
      · exact NoFreeze.ite ((standbyHalted_noFreeze _ _).after rfl) (.of_eq rfl)
    · exact NoFreeze.ite ((standbyHalted_noFreeze _ _).after rfl) (.of_eq rfl)
    · exact NoFreeze.of_eq rfl
    · exact NoFreeze.of_eq rfl
    · exact NoFreeze.of_eq rfl

theorem execRestart_noFreeze (vio : Bool) (second : Byte) (s : State) : OutAll (NoFreeze s) (execRestart vio second s) := by
  unfold execRestart
  split
  · exact NoFreeze.of_ne (by simp [enterBoot_phase])
  · exact NoFreeze.of_eq rfl

theorem execKl30LossConfirmed_noFreeze (ticks : Nat) (s : State) : OutAll (NoFreeze s) (execKl30LossConfirmed ticks s) := by
  unfold execKl30LossConfirmed
  split
  · dsimp only
    split
    · exact NoFreeze.of_eq rfl
    · exact NoFreeze.of_ne (by simp [powerDown_phase])
  · exact NoFreeze.of_eq rfl

theorem execKl30Return_noFreeze (mv us : Nat) (s : State) : OutAll (NoFreeze s) (execKl30Return mv us s) := by
  unfold execKl30Return
  split
  · dsimp only
    split
    · exact NoFreeze.of_ne (by simp [enterBoot_phase])
    · split
      · exact (note_keeps _ _ _ _).noFreeze.after rfl
      · exact NoFreeze.of_eq rfl
  · exact NoFreeze.of_eq rfl

theorem execHoldupEnd_noFreeze (us : Nat) (s : State) : OutAll (NoFreeze s) (execHoldupEnd us s) := by
  unfold execHoldupEnd
  split
  · exact NoFreeze.of_ne (by simp [goOff_phase])
  · exact NoFreeze.of_eq rfl

theorem execKl30Apply_noFreeze (high : Bool) (s : State) : OutAll (NoFreeze s) (execKl30Apply high s) := by
  unfold execKl30Apply
  split
  · exact NoFreeze.ite (.of_ne (by simp [enterBoot_phase])) (.of_ne (by simp))
  · exact NoFreeze.of_eq rfl

theorem execRtcAlarm_noFreeze (s : State) : OutAll (NoFreeze s) (execRtcAlarm s) := by
  unfold execRtcAlarm
  split
  · exact NoFreeze.of_ne (by simp [enterBoot_phase])
  · exact NoFreeze.of_eq rfl

theorem execCanWake_noFreeze (ev : CanWakeEv) (s : State) : OutAll (NoFreeze s) (execCanWake ev s) := by
  unfold execCanWake
  split
  · exact NoFreeze.of_ne (by simp [enterBoot_phase])
  · split
    · exact (returnD5_keeps s).noFreeze
    · exact NoFreeze.of_eq rfl

theorem execSupplyLowReset_noFreeze (sup : Supply) (mv us : Nat) (s : State) : OutAll (NoFreeze s) (execSupplyLowReset sup mv us s) := by
  unfold execSupplyLowReset
  split
  · exact NoFreeze.of_ne (by simp [enterBoot_phase])
  · exact NoFreeze.of_eq rfl

theorem correctTime_noFreeze (off : Int) (s : State) : NoFreeze s (correctTime off s) := by
  obtain ⟨-, -, -, -, phase⟩ := correctTime_keeps off s
  exact .of_eq phase

theorem execGptpSync_noFreeze (offset : Int) (s : State) : OutAll (NoFreeze s) (execGptpSync offset s) := by
  unfold execGptpSync
  split
  · dsimp only
    split
    · exact NoFreeze.of_eq rfl
    · exact (correctTime_noFreeze offset _).after rfl
  · exact NoFreeze.of_eq rfl

theorem execRingFrameReceive_noFreeze (port : RingPort) (f : RingFrame) (s : State) :
    OutAll (NoFreeze s) (execRingFrameReceive port f s) := by
  obtain ⟨-, -, -, -, phase⟩ := ringFrame_keeps port f s
  unfold execRingFrameReceive
  split
  · exact NoFreeze.of_eq phase
  · exact NoFreeze.of_eq rfl

theorem execHandoverTakeover_noFreeze (inj : Nat) (clean : Bool) (s : State) : OutAll (NoFreeze s) (execHandoverTakeover inj clean s) := by
  unfold execHandoverTakeover
  split
  next h _ =>
    obtain ⟨-, -, -, -, phase⟩ := takeover_keeps h (injPasses inj clean) s
    split
    · exact NoFreeze.of_eq phase
    · exact NoFreeze.of_eq rfl
  next => exact NoFreeze.of_eq rfl

theorem exec_noFreeze_of_moves {c : Instr} (hm : movesDevice c = true) (other : ∀ forced, c ≠ .freezeTake forced) (s : State) :
    OutAll (NoFreeze s) (exec c s) := by
  cases c with
  | freezeTake forced => exact absurd rfl (other forced)
  | updActivate h timing => exact serve_noFreeze _ _ _ _ (fun t v => opUpdActivate_noFreeze t timing v) s
  | ownerSlotFuse h signer target hash sig =>
    exact serve_noFreeze _ _ _ _ (fun t v => opOwnerFuse_noFreeze t signer target hash sig v) s
  | ownerSlotRevoke h signer target hash sig =>
    exact serve_noFreeze _ _ _ _ (fun t v => opOwnerRevoke_noFreeze t signer target hash sig v) s
  | standbyEnter h depth timing wake =>
    exact serve_noFreeze _ _ _ _ (fun t v => opStandbyEnter_noFreeze t depth timing wake v) s
  | restart vio second => exact execRestart_noFreeze vio second s
  | kl15Rise => exact kl15Edge_noFreeze s
  | kl15KeepHigh pin edge => exact execKl15KeepHigh_noFreeze pin edge s
  | kl15KeepLowCount ticks => exact execKl15KeepLowCount_noFreeze ticks s
  | standbyEntryResume => exact standbyAdvance_noFreeze s
  | kl30LossConfirmed ticks => exact execKl30LossConfirmed_noFreeze ticks s
  | kl30Return mv us => exact execKl30Return_noFreeze mv us s
  | holdupEnd us => exact execHoldupEnd_noFreeze us s
  | kl30Apply high => exact execKl30Apply_noFreeze high s
  | bootEntry obs => exact execBootEntry_noFreeze obs s
  | rtcAlarm => exact execRtcAlarm_noFreeze s
  | canWake ev => exact execCanWake_noFreeze ev s
  | supplyLowReset sup mv us => exact execSupplyLowReset_noFreeze sup mv us s
  | dispatch => exact execDispatch_noFreeze s
  | gptpSync offset => exact execGptpSync_noFreeze offset s
  | ringFrameReceive port f => exact execRingFrameReceive_noFreeze port f s
  | handoverTakeover inj clean => exact execHandoverTakeover_noFreeze inj clean s
  | _ => cases hm

theorem OutKeeps.noFreeze {s : State} {o : Out} (h : OutKeeps s o) : OutAll (NoFreeze s) o := by
  cases o with
  | next t => exact Keeps.noFreeze h
  | fault => trivial
  | refused => trivial

theorem exec_noFreeze {c : Instr} (other : ∀ forced, c ≠ .freezeTake forced) (s : State) : OutAll (NoFreeze s) (exec c s) := by
  cases hm : movesDevice c with
  | false => exact (exec_keeps hm s).noFreeze
  | true => exact exec_noFreeze_of_moves hm other s

theorem d0Tick_noFreeze (s : State) : NoFreeze s (d0Tick s) := by
  unfold d0Tick
  exact .ite (.of_eq rfl) (.ite (.of_ne (by simp [enterBoot_phase])) (.of_eq rfl))

theorem d0Advance_noFreeze (s : State) : NoFreeze s (d0Advance s) := by
  unfold d0Advance
  exact .ite (.of_eq rfl) ((d0Tick_noFreeze _).after rfl)

theorem tick_noFreeze (s : State) : NoFreeze s (tick s) := by
  obtain ⟨-, timers, -⟩ := timebaseTick_same s
  unfold tick
  dsimp only
  generalize timed : (if (timebaseRuns s && !missesTick s) = true then timebaseTick s else s) = u
  generalize stood : (if entering u = true then standbyAdvance u else u) = v
  have run : NoFreeze s u := timed ▸ .ite (.of_eq (congrArg Dev.ph timers)) (.of_eq rfl)
  have stand : NoFreeze u v := stood ▸ .ite (standbyAdvance_noFreeze u) (.of_eq rfl)
  exact (run.trans stand).trans (d0Advance_noFreeze v)

/-! ### What acts in FROZEN keeps the device FROZEN (R566, R568) -/

/-- The device is FROZEN still, and no RESET was accepted since. -/
def RestsFrozen (s t : State) : Prop := t.dev.ph = .frozen ∧ t.dev.resetAt = s.dev.resetAt

section
variable {s : State} (frozen : s.dev.ph = .frozen)
include frozen

theorem RestsFrozen.of_dev {t : State} (dev : t.dev = s.dev) : RestsFrozen s t := by
  rw [RestsFrozen, dev]
  exact ⟨frozen, rfl⟩

theorem isUp_of_frozen : isUp s = false := by simp [isUp, frozen]

theorem mainUp_of_frozen : mainUp s = false := by simp [mainUp, isUp_of_frozen frozen]

theorem served_of_frozen : served s = false := by simp [served, isUp, frozen]

theorem serve_of_frozen (hd : Hdr) (op : Nat) (p : List Byte) (b : Bool) (f : Nat → State → State) : serve hd op p b f s = s :=
  if_neg (by simp [receives, served_of_frozen frozen])

theorem serve_restsFrozen (hd : Hdr) (op : Nat) (p : List Byte) (b : Bool) (f : Nat → State → State) :
    RestsFrozen s (serve hd op p b f s) :=
  .of_dev frozen (congrArg State.dev (serve_of_frozen frozen hd op p b f))

theorem standbyAdvance_of_frozen : standbyAdvance s = s := if_pos (by simp [isUp, startHalted, frozen])

theorem kl15Edge_of_frozen : kl15Edge s = returnD5 { s with pins := { s.pins with kl15 := true } } := by
  have phase : (returnD5 { s with pins := { s.pins with kl15 := true } }).dev.ph = .frozen := by
    simp [frozen]
  simp only [kl15Edge, phase]

theorem kl15Edge_restsFrozen : RestsFrozen s (kl15Edge s) :=
  .of_dev frozen (by simp [kl15Edge_of_frozen frozen])

theorem execKl15KeepHigh_restsFrozen (pin : WakePin) (edge : Bool) : OutAll (RestsFrozen s) (execKl15KeepHigh pin edge s) := by
  cases pin with
  | kl15 =>
    cases edge with
    | true => exact kl15Edge_restsFrozen frozen
    | false => exact RestsFrozen.of_dev frozen rfl
  | keep =>
    refine RestsFrozen.of_dev frozen ?_
    split
    · simp [id abandonStandby_same]
    · rfl

theorem execKl15KeepLowCount_restsFrozen (ticks : Nat) : OutAll (RestsFrozen s) (execKl15KeepLowCount ticks s) := by
  simp only [execKl15KeepLowCount, frozen]
  split
  · exact RestsFrozen.of_dev frozen rfl
  · exact RestsFrozen.of_dev frozen rfl

theorem execKl30LossConfirmed_restsFrozen (ticks : Nat) : OutAll (RestsFrozen s) (execKl30LossConfirmed ticks s) := by
  unfold execKl30LossConfirmed
  split
  · dsimp only
    rw [if_pos (by simp [isFrozen, frozen])]
    exact RestsFrozen.of_dev frozen rfl
  · exact RestsFrozen.of_dev frozen rfl

theorem execKl30Return_restsFrozen (mv us : Nat) : OutAll (RestsFrozen s) (execKl30Return mv us s) := by
  unfold execKl30Return
  split
  · dsimp only
    rw [if_neg (by simp [isFrozen, frozen]), if_neg (by simp [isUp, frozen])]
    exact RestsFrozen.of_dev frozen rfl
  · exact RestsFrozen.of_dev frozen rfl

theorem execBootEntry_restsFrozen (o : BootObs) : OutAll (RestsFrozen s) (execBootEntry o s) := by
  unfold execBootEntry
  split
  · trivial
  · split
    next boot _ => exact absurd (frozen.symm.trans boot) (by decide)
    next => exact RestsFrozen.of_dev frozen rfl

theorem execCanWake_restsFrozen (ev : CanWakeEv) : OutAll (RestsFrozen s) (execCanWake ev s) := by
  unfold execCanWake
  rw [if_neg (by simp [frozen])]
  split
  · exact RestsFrozen.of_dev frozen (by simp)
  · exact RestsFrozen.of_dev frozen rfl

theorem execSourceReady_restsFrozen (src : ClkSrc) (us : Nat) : OutAll (RestsFrozen s) (execSourceReady src us s) := by
  unfold execSourceReady
  split
  · exact RestsFrozen.of_dev frozen rfl
  · dsimp only
    rw [if_neg (by simp [isUp, frozen]), if_neg (by simp [isUp, frozen])]
    exact ⟨frozen, rfl⟩

theorem execClockLossSevere_restsFrozen (pll : Pll) (kind : SevereKind) : OutAll (RestsFrozen s) (execClockLossSevere pll kind s) := by
  unfold execClockLossSevere
  split
  · refine ⟨?_, ?_⟩ <;> simp [id raiseFault_same, frozen]
  · exact RestsFrozen.of_dev frozen rfl

theorem execSensorSupplyFault_restsFrozen (bank : Bank) (supplyMv refTenthMv us : Nat) :
    OutAll (RestsFrozen s) (execSensorSupplyFault bank supplyMv refTenthMv us s) := by
  unfold execSensorSupplyFault
  dsimp only
  rw [if_pos (by simp [isUp, frozen])]
  exact RestsFrozen.of_dev frozen rfl

theorem execSupplyResetRelease_restsFrozen (sup : Supply) (mv us : Nat) : OutAll (RestsFrozen s) (execSupplyResetRelease sup mv us s) := by
  unfold execSupplyResetRelease
  split
  · dsimp only
    split
    · exact RestsFrozen.of_dev frozen rfl
    · exact ⟨frozen, rfl⟩
  · exact RestsFrozen.of_dev frozen rfl

omit frozen in
/-- Of the frames that a FROZEN device takes, FAULT and FAULT_SUM, none touches the device (R526). -/
theorem hearFrame_dev_of_fault {port : RingPort} {f : RingFrame} (fault : f.typ = 0x02 ∨ f.typ = 0x03) (v : State) :
    (hearFrame port f v).dev = v.dev := by
  unfold hearFrame
  dsimp only
  obtain typ | typ := fault
  · simp only [typ, actFrame]
    split_ifs <;> simp_all [id modRem_same, id takeFault_same]
  · simp only [typ, actFrame]
    split_ifs <;> simp_all [id modRem_same, id takeSum_same]

theorem execRingFrameReceive_restsFrozen (port : RingPort) (f : RingFrame) : OutAll (RestsFrozen s) (execRingFrameReceive port f s) := by
  unfold execRingFrameReceive
  split
  next acts =>
    have fault : f.typ = 0x02 ∨ f.typ = 0x03 := by
      simp only [served_of_frozen frozen, Bool.false_or, Bool.and_eq_true, Bool.or_eq_true, beq_iff_eq] at acts
      exact acts.2
    refine RestsFrozen.of_dev frozen ?_
    unfold ringFrame
    dsimp only
    split_ifs <;> simp [id modRing_same, id passOn_same, id indexConflict_same, id cascadeHold_same, hearFrame_dev_of_fault fault]
  next => exact RestsFrozen.of_dev frozen rfl

/-- Of the commands that may change the device, all but the three of R568 leave a FROZEN one FROZEN: most need a device that is up. -/
theorem exec_restsFrozen_of_changes {c : Instr} (changes : Part.device ∈ mayChange c) (noRestart : ∀ m v, c ≠ .restart m v)
    (noHoldupEnd : ∀ us, c ≠ .holdupEnd us) (noSupplyLow : ∀ sup mv us, c ≠ .supplyLowReset sup mv us) :
    OutAll (RestsFrozen s) (exec c s) := by
  have off {b : Bool} {o : Out} (down : b = false) : OutAll (RestsFrozen s) (if b = true then o else .next s) := by
    rw [down]
    exact RestsFrozen.of_dev frozen rfl
  have request := serve_restsFrozen frozen
  cases c with
  | restart m v => exact absurd rfl (noRestart m v)
  | holdupEnd us => exact absurd rfl (noHoldupEnd us)
  | supplyLowReset sup mv us => exact absurd rfl (noSupplyLow sup mv us)
  | setOpModeEnter => exact request ..
  | setOpModeLeave => exact request ..
  | reset => exact request ..
  | paramCommitApply => exact request ..
  | setSelect => exact request ..
  | updActivate => exact request ..
  | regWrite => exact request ..
  | standbyEnter => exact request ..
  | rtcSet => exact request ..
  | clkSelWrite => exact off (isUp_of_frozen frozen)
  | kl15Rise => exact kl15Edge_restsFrozen frozen
  | kl15KeepHigh pin edge => exact execKl15KeepHigh_restsFrozen frozen pin edge
  | kl15KeepLowCount ticks => exact execKl15KeepLowCount_restsFrozen frozen ticks
  | standbyEntryResume => exact RestsFrozen.of_dev frozen (congrArg State.dev (standbyAdvance_of_frozen frozen))
  | freezeTake => exact off (by simp [isUp_of_frozen frozen])
  | kl30LossConfirmed ticks => exact execKl30LossConfirmed_restsFrozen frozen ticks
  | kl30Return mv us => exact execKl30Return_restsFrozen frozen mv us
  | kl30Apply => exact off (by simp [frozen])
  | bootEntry obs => exact execBootEntry_restsFrozen frozen obs
  | rtcAlarm => exact off (by simp [frozen])
  | canWake ev => exact execCanWake_restsFrozen frozen ev
  | sourceReady src us => exact execSourceReady_restsFrozen frozen src us
  | clockLossSevere pll kind => exact execClockLossSevere_restsFrozen frozen pll kind
  | clockRestore => exact off (by simp [isUp_of_frozen frozen])
  | periodBoundary => exact off (by simp [timerOn, isUp_of_frozen frozen])
  | sensorSupplyFault bank supplyMv refTenthMv us => exact execSensorSupplyFault_restsFrozen frozen bank supplyMv refTenthMv us
  | supplyResetRelease sup mv us => exact execSupplyResetRelease_restsFrozen frozen sup mv us
  | tempMeasurement => exact off (mainUp_of_frozen frozen)
  | tempCompensation => exact off (by simp [mainUp_of_frozen frozen])
  | tempCompensationLate => exact off (by simp [isUp_of_frozen frozen])
  | dispatch => exact off (by simp [served_of_frozen frozen])
  | gptpSync => exact off (by simp [served_of_frozen frozen])
  | ringFrameReceive port f => exact execRingFrameReceive_restsFrozen frozen port f
  | _ => simp [mayChange, requestParts, faultParts] at changes

theorem exec_restsFrozen {c : Instr} (noRestart : ∀ m v, c ≠ .restart m v) (noHoldupEnd : ∀ us, c ≠ .holdupEnd us)
    (noSupplyLow : ∀ sup mv us, c ≠ .supplyLowReset sup mv us) : OutAll (RestsFrozen s) (exec c s) := by
  by_cases changes : Part.device ∈ mayChange c
  · exact exec_restsFrozen_of_changes frozen changes noRestart noHoldupEnd noSupplyLow
  · exact (exec_onlyChanges c s).mono fun _ only => .of_dev frozen (only .device changes)

theorem tick_of_frozen : tick s = d0Advance s := by
  unfold tick
  rw [if_neg (by simp [timebaseRuns, isUp, frozen])]
  dsimp only
  split
  · rw [standbyAdvance_of_frozen frozen]
  · rfl

theorem tick_restsFrozen (noReset : s.dev.resetAt = none) : RestsFrozen s (tick s) := by
  refine .of_dev frozen ?_
  rw [tick_of_frozen frozen]
  unfold d0Advance d0Tick
  dsimp only
  split
  · rfl
  · rw [if_neg (by simp [frozen]), if_neg (by simp [resetDue, noReset])]

end

/-! ### What leaves FROZEN (R568), and how it is entered (R565) -/

theorem freezeStop_resetAt (s : State) : (freezeStop s).dev.resetAt = none := rfl

theorem takeFreeze_resetAt (forced : Byte) (s : State) : (takeFreeze forced s).dev.resetAt = none := by
  simp only [takeFreeze, freezeStop_resetAt]

/-- A device that is FROZEN after a command holds no RESET, or the one that it held FROZEN before. -/
def HoldsNoNewReset (s t : State) : Prop := t.dev.ph = .frozen → (s.dev.ph = .frozen ∧ t.dev.resetAt = s.dev.resetAt) ∨ t.dev.resetAt = none

theorem HoldsNoNewReset.refl (s : State) : HoldsNoNewReset s s := fun frozen => .inl ⟨frozen, rfl⟩

theorem HoldsNoNewReset.of_ne {s t : State} (phase : t.dev.ph ≠ .frozen) : HoldsNoNewReset s t := fun frozen => absurd frozen phase

theorem execRestart_holdsNoNewReset (m : Bool) (v : Byte) (s : State) : OutAll (HoldsNoNewReset s) (execRestart m v s) := by
  unfold execRestart
  split
  · exact HoldsNoNewReset.of_ne (by simp [enterBoot_phase])
  · exact .refl s

theorem execHoldupEnd_holdsNoNewReset (us : Nat) (s : State) : OutAll (HoldsNoNewReset s) (execHoldupEnd us s) := by
  unfold execHoldupEnd
  split
  · exact HoldsNoNewReset.of_ne (by simp [goOff_phase])
  · exact .refl s

theorem execSupplyLowReset_holdsNoNewReset (sup : Supply) (mv us : Nat) (s : State) :
    OutAll (HoldsNoNewReset s) (execSupplyLowReset sup mv us s) := by
  unfold execSupplyLowReset
  split
  · exact HoldsNoNewReset.of_ne (by simp [enterBoot_phase])
  · exact .refl s

theorem execFreezeTake_holdsNoNewReset (forced : Byte) (s : State) : OutAll (HoldsNoNewReset s) (execFreezeTake forced s) := by
  unfold execFreezeTake
  split
  · exact fun _ => .inr (takeFreeze_resetAt forced s)
  · exact .refl s

theorem exec_holdsNoNewReset (c : Instr) (s : State) : OutAll (HoldsNoNewReset s) (exec c s) := by
  have rests (c : Instr) (other : ∀ forced, c ≠ .freezeTake forced) (noRestart : ∀ m v, c ≠ .restart m v)
      (noHoldupEnd : ∀ us, c ≠ .holdupEnd us) (noSupplyLow : ∀ sup mv us, c ≠ .supplyLowReset sup mv us) :
      OutAll (HoldsNoNewReset s) (exec c s) := by
    by_cases frozen : s.dev.ph = .frozen
    · exact (exec_restsFrozen frozen noRestart noHoldupEnd noSupplyLow).mono fun _ h _ => .inl ⟨frozen, h.2⟩
    · exact (exec_noFreeze other s).mono fun _ h => .of_ne (h.ne frozen)
  cases c with
  | freezeTake forced => exact execFreezeTake_holdsNoNewReset forced s
  | restart m v => exact execRestart_holdsNoNewReset m v s
  | holdupEnd us => exact execHoldupEnd_holdsNoNewReset us s
  | supplyLowReset sup mv us => exact execSupplyLowReset_holdsNoNewReset sup mv us s
  | _ => exact rests _ nofun nofun nofun nofun

/-- Settles O12: every other command, and a tick without a RESET that waits, leaves a FROZEN device FROZEN. -/
theorem frozenIsLeftOnly : Obligations.FrozenIsLeftOnly := by
  intro s t frozen noReset run left
  rcases step_cases run with ⟨c, rest, queue, done⟩ | ⟨-, rfl⟩
  · by_contra none_
    obtain ⟨noRestart, noHoldupEnd, noSupplyLow⟩ : (¬ ∃ m v rest, s.pending = .restart m v :: rest) ∧
        (¬ ∃ us rest, s.pending = .holdupEnd us :: rest) ∧ ¬ ∃ sup mv us rest, s.pending = .supplyLowReset sup mv us :: rest := by
      simpa only [not_or] using none_
    refine left ((exec_restsFrozen (s := { s with pending := rest }) frozen (fun m v is => noRestart ⟨m, v, rest, ?_⟩)
      (fun us is => noHoldupEnd ⟨us, rest, ?_⟩) (fun sup mv us is => noSupplyLow ⟨sup, mv, us, rest, ?_⟩)).next done).1
    all_goals rw [queue, is]
  · exact absurd (tick_restsFrozen frozen noReset).1 left

/-- Settles O13: TAKE_FREEZE alone enters FROZEN, and drops the RESET that waits; a FROZEN device accepts none. -/
theorem frozenHoldsNoReset : Obligations.FrozenHoldsNoReset := by
  refine ⟨fun _ => rfl, fun s t kept run frozen => ?_⟩
  rcases step_cases run with ⟨c, rest, queue, done⟩ | ⟨-, rfl⟩
  · exact ((exec_holdsNoNewReset c _).next done frozen).elim (fun held => held.2.trans (kept held.1)) id
  · have before : s.dev.ph = .frozen := tick_noFreeze s frozen
    exact (tick_restsFrozen before (kept before)).2.trans (kept before)

end Sys2Proof.Machine
end
